-- ==== Sys2Proof/Word.lean ====
section
/-! DEFINITION. The word types: a register holds 32 bits (R1), a memory cell one byte. -/
namespace Sys2Proof

/-- A register word (R1). -/
abbrev Word := BitVec 32

/-- One byte of memory. -/
abbrev Byte := BitVec 8

end Sys2Proof
end

