-- ==== Sys2Proof/Operand.lean ====
section
/-! DEFINITION. The operands of commands that are more than a number: what a check code found, a calibration measurement, how an
event came, the fields of a received ALIGN and GREET, what the start-up steps are given. -/
namespace Sys2Proof.Machine

/-- What an Announce message says of a clock (R106, R108): the sender's port, the grandmaster and its quality. -/
structure Announce where
  senderId : Nat
  senderPort : Nat
  gmId : Nat
  priority1 : Nat
  quality : Nat
  priority2 : Nat
  steps : Nat
  /-- TB0's NSC32 when it came. -/
  seen : Nat := 0
deriving DecidableEq, Repr

/-- What a check code finds on reading a unit, a 64-bit word of SRAM or a 64-byte codeword of DRAM (R428, R443): nothing, one
corrected bit or symbol, an uncorrectable error, an address error; or, of DRAM, a correction by link ECC alone (R443). -/
inductive Ecc where
  | clean
  | link
  | corrected (bit : Nat)
  | uncorrectable
  | address
deriving DecidableEq, Repr

/-- What a calibration run measured (R483 to R485). Output items: the spare's offset (0.01 mV), gain error (ppm) and the error
of the confirming measurement (0.01 mV), then the active element's gain error and error before trim. Lane items: `err` and
`activeErr` hold the amplitude and termination errors in 0.1 %. Sensor items: `gain` and `err` (0.1 °C). `ua`: the mean current of the
output in µA when the measurements began (R488). -/
structure CalMeas where
  off : Int
  gain : Int
  err : Int
  activeGain : Int
  activeErr : Int
  ua : Nat := 0
deriving DecidableEq, Repr

/-- An INIT run (R482): the item, what elements A and B measured, the output's mean current, and for the checks of R487 at its start and
its end REFV_EXT, the bandgap and the drift over 1 ms, in µV. -/
structure InitRun where
  item : Nat
  a : CalMeas
  b : CalMeas
  ua : Nat := 0
  refv : Nat
  bandgap : Nat
  drift : Nat := 0
  refvEnd : Nat
  bandgapEnd : Nat
  driftEnd : Nat := 0
deriving DecidableEq, Repr

/-- What a host access through the endpoint's other BARs names (R393): BAR2, BAR4, or the configuration space. -/
inductive HostSpace where
  | bar2
  | bar4
  | config
deriving DecidableEq, Repr

/-- An address of a host access: its space and the offset in it. -/
structure HostAddr where
  space : HostSpace := .bar2
  offset : BitVec 28
deriving DecidableEq, Repr

/-- Which bytes a read of BAR0 covers (R394): the offset in the window and the number of bytes, less one. -/
structure RegBytes where
  offset : Fin 1048576
  last : Fin 4 := 3
deriving DecidableEq, Repr

/-- The conditions of R397 as the host sets them: the mask bit of a vector, MSI-X enable and bus mastering. -/
structure MsixSet where
  vec : Fin 64
  masked : Bool := false
  enable : Bool := true
  master : Bool := true
deriving DecidableEq, Repr

/-- The PCI Express link as it trains or changes its power state (R392, R424): speed code, width, PM code. -/
structure PcieLink where
  speed : Fin 5
  width : Fin 5
  pm : Fin 4 := 0
deriving DecidableEq, Repr

/-- How a DMA read of host memory fails (R400): not at all, a completion error, or no completion in time. -/
inductive HostFail where
  | none
  | completion
  | timeout
deriving DecidableEq, Repr

/-- What a host read of memory meets (R428, R432): what the check codes find, and the bytes that port A writes in the same cycle. -/
structure HostReads where
  errs : List (Nat × Ecc) := []
  portA : List (Nat × Byte) := []
deriving DecidableEq, Repr

/-- An atomic that port A issues: 0 ADD32, 1 ADD64, 2 SWAP32, 3 SWAP64, and its operand (R437, R438). -/
structure PortAtom where
  op : Fin 4
  data : BitVec 64
deriving DecidableEq, Repr

/-- What an atomic of the host meets (R437): what the check code of its word finds, an atomic of port A on the word in the same cycle,
and the bytes that port A writes in it. -/
structure AtomMeets where
  ecc : Ecc := .clean
  atom : Option PortAtom := none
  portA : List (Nat × Byte) := []
deriving DecidableEq, Repr

/-- A lockstep mismatch (R430, R502): its comparison group, and the word of sequencer memory that read uncorrectable, where one
caused it, with what the check code found. -/
structure Mismatch where
  group : Fin 65536
  word : Option (Fin 262144 × Ecc) := none
deriving DecidableEq, Repr

/-- The fields of a valid ALIGN. -/
structure Align where
  lane : Nat
  spare : Bool
  dup : Bool
  retired : Bool
  link : Nat
  lanes : Nat
  aseq : Nat
  rate : Nat
deriving DecidableEq, Repr

/-- Why an Ethernet port's link goes down: block lock lost, a high bit-error rate, or a fault that the far end reports. -/
inductive EthFault where
  | lockLost | hiBer | remote
deriving DecidableEq, Repr

/-- A GREET set as received. -/
structure Greet where
  nodeId : Nat
  profile : Nat
  lanes : Nat
  rates : Nat
  vendor : Nat
  device : Nat
  caps : Nat
  req : Nat
  done : Nat
deriving DecidableEq, Repr

/-- An input that a time base can measure: a source code of TBn_CTRL and, for FRAME_MARK, the stream (R89). -/
structure RefInput where
  source : Fin 16
  stream : Fin 4 := 0
deriving DecidableEq, Repr

/-- What LTC_IN found of a word (R101), and how many ns before the end of its decoding its bit 0 started. -/
structure LtcFound where
  check : Nat
  ago : Nat
deriving DecidableEq, Repr

/-- An edge of a pin that is stamped between ticks (R105): the quarter of the tick, and which edge it is. -/
structure InputEdge where
  quarter : Fin 4
  falling : Bool
deriving DecidableEq, Repr

/-- How a message of PTP came: whole and well formed (R31), and the port identity of its sender (R106). -/
structure PtpFrom where
  wellFormed : Bool
  sender : Nat := 0
deriving DecidableEq, Repr

/-- How an event message of PTP came: with its time-stamp taken, too (R122). -/
structure PtpArrival extends PtpFrom where
  stamped : Bool
deriving DecidableEq, Repr

/-- A Delay_Req: its sequence number and its correctionField, in 2^-16 ns (R106). -/
structure PtpRequest where
  seq : Nat
  corr : Int := 0
deriving DecidableEq, Repr

/-- A Delay_Resp: the request that it answers, by the sequence number and the requester's port identity, and its correctionField in
2^-16 ns (R106). -/
structure PtpResponse extends PtpRequest where
  requester : Nat
deriving DecidableEq, Repr

/-- Who asks in a Management message: the sequence number and the port identity that the answer repeats (R106). -/
structure PtpAsker where
  seq : Nat
  requester : Nat
deriving DecidableEq, Repr

/-- A Management SET: who asks, and the identifier of what it would set (R106). -/
structure PtpSet extends PtpAsker where
  ident : Nat
deriving DecidableEq, Repr

/-- What a signing pass met while it read its picture: plane lines that were late, tile rows of map records that were late, and
what the check codes found (R192, R222, R307). -/
structure PassReads where
  planes : List (Nat × Nat)
  maps : List Nat
  errs : List (Nat × Ecc)
deriving DecidableEq, Repr

/-- What the outside world and the circuits give to the start-up steps: the strap pins, the references present, the rails valid,
the results of self-calibration, the failing SRAM rows by device address and those of sequencer memory, whether a march or a check code
found a fault in the register file (R22), the engines that failed their BIST as a bit mask, and whether DRAM training passed. -/
structure InitData where
  teampos : Fin 64 := 0
  bootsel : Fin 4 := 0
  refclks : Fin 8 := 7
  rails : Fin 8192 := 8191
  cal : List InitRun := []
  badRows : List Nat := []
  seqRows : Nat := 0
  regFile : Bool := false
  engines : Nat := 0
  trained : Bool := true
deriving DecidableEq, Repr

end Sys2Proof.Machine
end

