-- ==== Sys2Proof/Syntax.lean ====
section
/-! DEFINITION. The commands of the block: one constructor per row of the command table, with its operands. An operand that the
outside world or an analogue circuit decides (what a sensor read, whether a check code found an error, when in a tick an edge fell)
is part of the command. -/
namespace Sys2Proof
open Sys2Proof.Machine

/-- A command: a write or a read by the host, an event of a link, a pin or a port, or the end of something that the block does.
Those without operands stand last: compiled code has a bound on the number of a constructor that has operands. -/
inductive Instr where
  /-- REGISTER_WRITE (R5): A host, SPI or forwarded write to a register that has no row of its own is checked and applied or
  rejected whole. -/
  | registerWrite (r : Fin 1048576) (v : Word) (whole : Bool)
  /-- TOP_RESET (R522): A write of 0x5A to TOP_RESET makes a warm reset that enters INIT while the PCIe link stays up. -/
  | topReset (v : Word)
  /-- PER_HEAD_RESET (R28): A write of HDn_RESET resets the head's timing generator, queue, records, shadow set and engine
  state. -/
  | perHeadReset (h : Fin 8)
  /-- INIT_STEP_COMPLETE (R520): A start-up step such as fuse load, PLL lock, self-calibration, march, SRAM clear or DRAM
  training completes and the next step starts. -/
  | initStepComplete (x : InitData)
  /-- REFCLK_LOST (R26): A lane reference clock is lost: the PLLs switch over, quads fail as lane faults, or SAFE is entered
  with NO_REFCLK if both are lost. -/
  | refclkLost (n : Fin 2)
  /-- REFCLK_REGAINED (R26): A reference that has been within limits for 10 ms is regained and its quads' PLLs relock. -/
  | refclkRegained (n : Fin 2)
  /-- THERMAL_TRIP (R22): An internal sensor reads above 130 °C for 10 ms and the device enters SAFE with cause THERMAL. -/
  | thermalTrip (n : Fin 8) (temp : Int)
  /-- COMMIT_POINT (R13): At a head's commit point the sealed set applies, bank handovers take effect, substitutions begin and
  marks fire, in that order. -/
  | commitPoint (h : Fin 8) (early : Bool)
  /-- BANK_HANDOVER (R434): A pending scratch bank handover takes effect and the bank passes to its incoming owner, or starts
  its wipe. -/
  | bankHandover (n : Fin 16)
  /-- IMAGE_HEADER_READ (R55): The 256-byte header of an image has been read, and the header, key and rollback checks run on it.
  -/
  | imageHeaderRead (a b : Option (List Byte))
  /-- IMAGE_READ_COMPLETE (R61): The image has been fetched with its SHA-256, and the load moves from FETCH to VERIFY. -/
  | imageReadComplete (rest : List Byte)
  /-- RETACK_START (R62): A write of TACK_RT_CONTROL.START starts a partial re-tack of one head and the mode becomes RETACK. -/
  | retackStart (h : Fin 8)
  /-- RETACK_COPY_COMPLETE (R65): The HEAD image has been copied into sequencer memory and VERIFY begins. -/
  | retackCopyComplete (errs : List (Nat × Ecc))
  /-- TB_LATCH (R88): A write of TBn_LATCH copies the time base into the snapshot registers. -/
  | tbLatch (n : Fin 4) (v : Word)
  /-- TB_CTRL_WRITE (R93): A write of TBn_CTRL that changes SOURCE or ARG sends the servo to FREE or ACQUIRE and clears its
  flags. -/
  | tbCtrlWrite (n : Fin 4) (v : Word)
  /-- SERVO_MEASUREMENT (R90): A source measurement yields an offset that updates the servo, its history and its state. -/
  | servoMeasurement (n : Fin 4) (src : Fin 16) (arg : Fin 4) (ppb : Int)
  /-- REFERENCE_LOST (R93): A servo reference times out and the time base enters HOLDOVER with LOST, or restarts acquisition. -/
  | referenceLost (input : RefInput)
  /-- STEP_ARM (R94): A write of TBn_STEP_CTRL.ARM captures a step to apply at a later second boundary. -/
  | stepArm (n : Fin 4)
  /-- STEP_CANCEL (R94): A write of TBn_STEP_CTRL.CANCEL clears the pending step. -/
  | stepCancel (n : Fin 4)
  /-- STEP_RESUME (R93): A write of TBn_STEP_CTRL.RESUME returns a time base from HOLDOVER with DISCONTINUITY to LOCKED by rate
  only. -/
  | stepResume (n : Fin 4)
  /-- STEP_APPLY (R94): At the chosen second boundary the pending step applies to the time base and to its followers. -/
  | stepApply (n : Fin 4)
  /-- TC_RATE_CHANGE (R97): A write of TC_CTRL that changes RATE is a timecode discontinuity. -/
  | tcRateChange (v : Word)
  /-- LTC_IN_WORD (R101): A decoded LTC_IN word is accepted or rejected and updates the label and the counters. -/
  | ltcInWord (found : LtcFound) (hours minutes seconds frames : Nat) (drop : Bool) (user : Word)
  /-- SYNC_IN_EDGE (R102): A frame reference edge of SYNC_IN is timed and reported. -/
  | syncInEdge (format : Fin 8) (rate : Fin 16)
  /-- PPS_IN_EDGE (R104): An accepted PPS_IN edge is counted and time-stamped. -/
  | ppsInEdge (falling : Bool) (quarter : Fin 4)
  /-- CAPTURE_EVENT (R105): An event of a capture channel's source is time-stamped into its FIFO, or lost with OVERFLOW. -/
  | captureEvent (c : Fin 16) (edge : InputEdge)
  /-- CAP_POP (R105): A write of CAPn_POP removes the oldest capture entry. -/
  | capPop (c : Fin 16) (v : Word)
  /-- PTP_SYNC_TX (R106): A master port sends Sync at its interval, with Follow_Up in two-step mode. -/
  | ptpSyncTx (p : Fin 2)
  /-- PTP_SYNC_RX (R107): A received Sync is time-stamped and yields an offset for the port. -/
  | ptpSyncRx (p : Fin 2) (domain : Nat) (version2 : Bool) (arrival : PtpArrival) (twoStep : Bool) (seq : Nat) (origin corr : Int)
  /-- PTP_FOLLOW_UP_RX (R106): A received Follow_Up completes a two-step Sync measurement. -/
  | ptpFollowUpRx (p : Fin 2) (domain : Nat) (version2 : Bool) (came : PtpFrom) (seq : Nat) (origin corr : Int)
  /-- PTP_DELAY_REQ_TX (R106): A slave port sends Delay_Req at its interval. -/
  | ptpDelayReqTx (p : Fin 2)
  /-- PTP_DELAY_REQ_RX (R106): A master port time-stamps a received Delay_Req and answers with Delay_Resp. -/
  | ptpDelayReqRx (p : Fin 2) (domain : Nat) (version2 : Bool) (arrival : PtpArrival) (request : PtpRequest) (requester : Nat)
  /-- PTP_DELAY_RESP_RX (R106): A received Delay_Resp completes the port's path delay measurement. -/
  | ptpDelayRespRx (p : Fin 2) (domain : Nat) (version2 : Bool) (came : PtpFrom) (response : PtpResponse) (t4 : Int)
  /-- PTP_ANNOUNCE_TX (R108): A port sends Announce with the configured priorities, quality and clock class. -/
  | ptpAnnounceTx (p : Fin 2)
  /-- PTP_ANNOUNCE_RX (R109): A received Announce feeds the BMCA and the foreign master table, and may change the grandmaster.
  -/
  | ptpAnnounceRx (p : Fin 2) (domain : Nat) (version2 wellFormed : Bool) (senderId senderPort gmId priority1 quality priority2 steps : Nat)
  /-- PTP_ANNOUNCE_RECEIPT_TIMEOUT (R89): The announce receipt timeout expires and the port's reference is lost. -/
  | ptpAnnounceReceiptTimeout (p : Fin 2)
  /-- PTP_MANAGEMENT_GET (R106): A Management GET for a supported data set is answered. -/
  | ptpManagementGet (p : Fin 2) (domain : Nat) (version2 wellFormed : Bool) (asker : PtpAsker) (dataSet : Nat)
  /-- PTP_MANAGEMENT_SET (R106): A Management SET is refused. -/
  | ptpManagementSet (p : Fin 2) (domain : Nat) (version2 wellFormed : Bool) (asked : PtpSet)
  /-- PTP_SIGNALING_RX (R106): A received Signaling message is counted. -/
  | ptpSignalingRx (p : Fin 2) (domain : Nat) (version2 wellFormed : Bool)
  /-- TIME_SET_RX (R111): A received TIME set is checked and accepted or discarded, and feeds the TEAM servo. -/
  | timeSetRx (link : Fin 16) (blocks : List (List Byte))
  /-- TEAM_DELAY_REQ_RX (R112): An upstream node answers a received DELAY_REQ with DELAY_RSP carrying the arrival time. -/
  | teamDelayReqRx (link : Fin 16) (seq : Fin 16)
  /-- TEAM_DELAY_RSP_RX (R112): A received DELAY_RSP lets the follower compute the link delay. -/
  | teamDelayRspRx (link : Fin 16) (seq : Fin 16) (ns frac : Nat)
  /-- TEAM_STEP_APPLY (R113): A follower applies a received step pair at the boundary that the pair names, without a
  discontinuity. -/
  | teamStepApply (n : Fin 2)
  /-- MARK_ARM (R119): A write of Mm_CTRL.ARM = 1 arms a mark, or acts late or drops it when its trigger is past. -/
  | markArm (m : Fin 256) (v : Word)
  /-- MARK_DISARM (R121): A write of ARM = 0 returns an armed mark to IDLE. -/
  | markDisarm (m : Fin 256) (v : Word)
  /-- MARK_TRIGGER (R117): An armed mark's trigger instant arrives and the mark acts, in ascending mark number. -/
  | markTrigger (marks : List Nat)
  /-- MARK_POSITION_PASSED (R120): An armed mark whose position passed without firing follows its late policy or sets MISSED. -/
  | markPositionPassed (m : Fin 256)
  /-- PCTL_PULSE_END (R116): A pin pulse ends after its ARG µs and the pin goes low. -/
  | pctlPulseEnd (p : Fin 48)
  /-- STREAM_ENABLE (R148): Setting INn_CTRL.ENABLE starts a stream in WAIT with its frame timer running. -/
  | streamEnable (n : Fin 4) (format fbCount : Nat)
  /-- STREAM_DISABLE (R148): Clearing INn_CTRL.ENABLE returns the stream to OFF. -/
  | streamDisable (n : Fin 4) (format fbCount : Nat)
  /-- STREAM_FRAME_START (R148): A FRAME_START mark is checked and accepted, opening a frame and restarting the frame timer. -/
  | streamFrameStart (n : Fin 4) (kind : Fin 13) (mbz : Fin 1048576) (frame height : Fin 65536)
  /-- STREAM_FRAME_END (R148): A FRAME_END mark is checked and completes the open frame. -/
  | streamFrameEnd (n : Fin 4) (mbz : Fin 1048576) (height frame : Fin 65536)
  /-- STREAM_EXPOSURE_START (R149): An EXPOSURE_START mark arrives, giving the shutter phase. -/
  | streamExposureStart (n : Fin 4) (mbz : Fin 1048576) (height frame : Fin 65536)
  /-- STREAM_EXPOSURE_END (R149): An EXPOSURE_END mark arrives, giving the shutter phase. -/
  | streamExposureEnd (n : Fin 4) (mbz : Fin 1048576) (height frame : Fin 65536)
  /-- STREAM_LINE_START (R150): A LINE_START opens a line and takes a line buffer. -/
  | streamLineStart (n : Fin 4) (format mbz : Fin 16) (frame line width : Fin 65536)
  /-- STREAM_DATA_BLOCK (R150): A data block of the open line is taken into the line buffer. -/
  | streamDataBlock (n : Fin 4) (payload : BitVec 64)
  /-- STREAM_LINE_END (R150): A LINE_END ends the line, which is checked and then accepted or concealed. -/
  | streamLineEnd (n : Fin 4) (mbz : Fin 16777216) (crc line : Fin 65536)
  /-- STREAM_FRAME_TIMEOUT (R148): The frame timer expires or the link goes down, and the stream enters ABSENT, discarding any
  frame in progress. -/
  | streamFrameTimeout (n : Fin 4) (linkDown : Bool)
  /-- LINE_STORE_COMPLETE (R153): A line's store write and its line-locked takes end, and its buffer frees. -/
  | lineStoreComplete (n : Fin 4)
  /-- TPG_FRAME_START (R157): The test pattern generator starts a frame at an aligned frame start of TB0. -/
  | tpgFrameStart (n : Fin 4)
  /-- TPG_LINE (R157): The generator delivers its next line at its scheduled time. -/
  | tpgLine (n : Fin 4)
  /-- LINE_LOCK_ACQUIRE (R163): Line lock in SEEK finds its stream in FRAME with a measured line period, computes the anchor and
  locks. -/
  | lineLockAcquire (h : Fin 8)
  /-- ENGINE_PARITY_ERROR (R203): An engine's parameter store fails parity and its applied parameters reload. -/
  | engineParityError (k : Fin 28)
  /-- ENGINE_BIST_START (R204): Every 10 s a spare engine starts BIST. -/
  | engineBistStart (k : Fin 28)
  /-- ENGINE_BIST_COMPLETE (R204): An engine's BIST ends, and a failing spare is retired. -/
  | engineBistComplete (k : Fin 28) (pass : Bool)
  /-- BAND_READING (R215): Every 10 ms a head's band tracker takes a reading and may change band. -/
  | bandReading (h : Fin 8)
  /-- ANCHOR_COPY_COMPLETE (R224): An anchor generation copy ends, and GEN advances or ANCHOR_ERR sets. -/
  | anchorCopyComplete (h : Fin 8)
  /-- OD_BUILD_COMPLETE (R227): A working table build ends and its buffer becomes complete with its tag. -/
  | odBuildComplete (us : Nat)
  /-- HEAD_FRAME_START (R248): A raster head ends vertical blanking and starts its next frame, showing a due queue entry. -/
  | headFrameStart (h : Fin 8)
  /-- HEAD_LINE_START (R256): A raster head starts a line and its line packet enters the serialiser. -/
  | headLineStart (h : Fin 8) (early : Bool) (planes : List (Nat × Nat)) (maps : List Nat) (errs : List (Nat × Ecc))
  /-- HEAD_COMMIT (R266): A write of HDn_COMMIT is checked and seals the shadow set, which applies at once on a head with no
  commit points. -/
  | headCommit (h : Fin 8)
  /-- HEAD_RUN (R262): A write of RUN = 1 starts a raster head, retuning its HPLL if needed. -/
  | headRun (h : Fin 8)
  /-- HEAD_STOP (R261): A write of RUN = 0 moves a raster head to STOPPING, or to STOPPED from SWITCHING. -/
  | headStop (h : Fin 8)
  /-- HPLL_LOCK (R262): An HPLL retune locks, and the head's start or re-gait continues. -/
  | hpllLock (h : Fin 8)
  /-- HPLL_LOCK_TIMEOUT (R272): An HPLL fails to lock within 250 µs; it is retried, and after the third failure the head stops
  with PLL_FAIL. -/
  | hpllLockTimeout (h : Fin 8)
  /-- REGAIT_LUNGE_TIMEOUT (R270): 5 ms after a re-gait's retune, the head starts its first black frame even if a link is still
  down. -/
  | regaitLungeTimeout (h : Fin 8)
  /-- QUEUE_PUSH (R273): A write of HDn_Q_PUSH adds an entry to the frame queue. -/
  | queuePush (h : Fin 8) (v : Word)
  /-- QUEUE_FLUSH (R278): A write of HDn_Q_FLUSH removes every entry not yet shown. -/
  | queueFlush (h : Fin 8)
  /-- HEAD_UNDERRUN (R280): A line is not ready at its start; the frame is aborted and the head jumps to line VACTIVE. -/
  | headUnderrun (h : Fin 8) (early : Bool)
  /-- RECORD_POP (R286): A write of HDn_REC_POP removes the oldest frame record. -/
  | recordPop (h : Fin 8)
  /-- HEAD_CMD_WRITE (R258): HDn_CMD_GO with OP WRITE sends a WRITE CMD_REQ to a driver outside active lines. -/
  | headCmdWrite (h : Fin 8)
  /-- HEAD_CMD_READ (R258): HDn_CMD_GO with OP READ sends a READ CMD_REQ to a driver outside active lines. -/
  | headCmdRead (h : Fin 8)
  /-- CMD_RSP_RX (R258): A CMD_RSP from a driver or panel controller completes the command with OK, NACK or BUSY. -/
  | cmdRspRx (j : Fin 16) (status seq : Fin 16) (addr : Fin 256) (data : Word)
  /-- CMD_RSP_TIMEOUT (R258): No CMD_RSP arrives within 10 µs and the command completes with TIMEOUT. -/
  | cmdRspTimeout (h : Fin 8)
  /-- LOCK_N_HIGH (R259): LOCK_N reads high for 100 µs and a transmit-only link comes up. -/
  | lockNHigh (j : Fin 16)
  /-- LOCK_N_LOW (R259): LOCK_N reads low for more than 1 µs and a transmit-only link goes down. -/
  | lockNLow (j : Fin 16)
  /-- MIP_PHASE_BOUNDARY (R297): The master common changes level, and balance, steps, starts, pushes and any pass run in order.
  -/
  | mipPhaseBoundary (h : Fin 8) (early : Bool)
  /-- MIP_PASS_END (R307): A signing pass ends and each tile's record is updated from its new signature. -/
  | mipPassEnd (h : Fin 8) (reads : PassReads)
  /-- MIP_RUN (R299): A write of RUN = 1 to a STOPPED MIP head starts it with a full push. -/
  | mipRun (h : Fin 8)
  /-- MIP_STOP (R298): A write of RUN = 0 moves a MIP head to STOPPING. -/
  | mipStop (h : Fin 8)
  /-- MIP_REFRESH_GO (R299): A write of HDn_MIP_REFRESH_GO marks the tiles of a rectangle FULL and requests a pass. -/
  | mipRefreshGo (h : Fin 8)
  /-- MIP_WT_LOAD (R303): A write of MIP_WT_LOAD.GO starts the copy and check of a waveform table. -/
  | mipWtLoad (h : Fin 8) (buffer : Fin 2)
  /-- MIP_WT_LOAD_DONE (R303): A waveform table load passes into its buffer or fails with a code. -/
  | mipWtLoadDone (errs : List (Nat × Ecc))
  /-- MIP_READ_DATA_RX (R322): A READ_DATA from the panel is compared with the targets of eligible tiles. -/
  | mipReadDataRx (h : Fin 8) (plane : Fin 4) (row first count : Nat) (payload : List Byte) (crc : Nat)
  /-- MIP_READBACK_TIMEOUT (R322): A READ_DATA fails to arrive within 100 µs and readback failures are counted. -/
  | mipReadbackTimeout (h : Fin 8)
  /-- BALANCE_FAULT (R321): A common's BALANCE stays nonzero for 2,000 ms and BAL_FAULT is set. -/
  | balanceFault (c : Fin 4)
  /-- PANEL_POWER_ON (R342): A write of PANELh_CTRL.POWER = 1 is checked and starts the panel's ramp-up. -/
  | panelPowerOn (h : Fin 8)
  /-- PANEL_POWER_OFF (R341): A write of POWER = 0 starts the panel's ramp-down with cause HOST. -/
  | panelPowerOff (h : Fin 8)
  /-- RASTER_RAMP_STEP (R344): The raster panel's outputs settle and its ramp moves to the next step. -/
  | rasterRampStep (h : Fin 8)
  /-- MIP_RAMP_STEP (R345): The MIP panel's pumps, rails or commons settle and its ramp moves to the next step. -/
  | mipRampStep (h : Fin 8) (early : Bool)
  /-- RAMP_SETTLE_TIMEOUT (R341): A level is not reached within 35 ms of ramp-up and the panel ramps down with cause SETTLE. -/
  | rampSettleTimeout (h : Fin 8)
  /-- VSYS_CRITICAL (R346): VSYS below the critical level for 10 µs starts a fast discharge, then Stable. -/
  | vsysCritical (mv : Fin 65536)
  /-- VBIAS_LOW (R346): VBIAS_IN below 4.2 V for 10 µs starts a fast discharge. -/
  | vbiasLow (mv : Fin 65536)
  /-- HAR_DISCH_GO (R346): A write of HAR_DISCH_GO starts a fast discharge of the panels in its mask. -/
  | harDischGo (v : Word)
  /-- OUTPUT_OVERLOAD (R353): An output stays in current limit for 10 ms and its owner's panel is discharged. -/
  | outputOverload (o : Fin 23)
  /-- HARNESS_OVERTEMP (R354): HAR_TEMP reaches 140 °C for 1 ms and every panel is discharged. -/
  | harnessOvertemp (temp : Int)
  /-- DISCHARGE_PIN_SWITCH (R348): 10 µs after the trigger the pins of covered heads take their discharge levels and the clamps
  close. -/
  | dischargePinSwitch (h : Fin 8)
  /-- DISCHARGE_COMPLETE (R348): 40 ms after the trigger the pins go low, the banks unpower and the covered panels are OFF. -/
  | dischargeComplete (h : Fin 8)
  /-- HOLD_ARMED (R349): HOLD reaches 11.0 V and ARMED is set. -/
  | holdArmed (mv : Fin 65536)
  /-- HOLD_LOW (R349): HOLD stays below 10.5 V for 10 ms with a panel powered, and HOLD_LOW is set. -/
  | holdLow (mv : Fin 65536)
  /-- GIRTH_MEASUREMENT (R351): Every 100 ms an enabled girth loop is measured and compared with its baseline. -/
  | girthMeasurement (g : Fin 4) (mohm : Nat) (range : Fin 3)
  /-- GIRTH_REBASE (R351): A write of GIRTHg_CTRL.REBASE restarts baseline capture. -/
  | girthRebase (g : Fin 4) (rise : Fin 256) (confirm : Fin 16)
  /-- THERM_CONVERSION (R352): Every 10 ms an enabled thermistor is converted, and open or short readings are reported. -/
  | thermConversion (t : Fin 8) (code : Fin 4096)
  /-- AVDDG_LOW (R355): AVDD_G stays low for 1 ms and the affected raster heads stop and their panels ramp down. -/
  | avddgLow (mv : Fin 65536)
  /-- LANE_BLOCK_RX (R369): A lane receives a block, which is checked, descrambled, buffered and classed. -/
  | laneBlockRx (n : Fin 36) (h0 h1 : Bool) (payload : BitVec 64) (fill : Fin 33)
  /-- BLOCK_LOCK (R369): After 96 valid headers the lane declares block lock and moves to LOCK. -/
  | blockLock (n : Fin 36) (ppm : Int)
  /-- BLOCK_LOCK_LOSS (R369): 24 invalid headers within 128 blocks end block lock and the lane returns to HUNT. -/
  | blockLockLoss (n : Fin 36)
  /-- LOSS_OF_SIGNAL (R370): The input amplitude stays below 65 mVpp for 1 µs and the lane goes ABSENT. -/
  | lossOfSignal (n : Fin 36)
  /-- LOSS_OF_LOCK (R370): The CDR falls more than ±1,000 ppm off and the lane returns to HUNT. -/
  | lossOfLock (n : Fin 36)
  /-- LUNGE_TIMEOUT (R372): The lunge timer reaches LUNGE_TIMEOUT and the lane goes ABSENT. -/
  | lungeTimeout (n : Fin 36)
  /-- ABSENT_RETRY (R372): Every 10 ms in ABSENT the CDR re-acquires and equalisation restarts. -/
  | absentRetry (n : Fin 36)
  /-- ALIGN_RX (R371): A valid ALIGN places and deskews the lane and drives lane, link and spare state. -/
  | alignRx (n : Fin 36) (a : Align) (skew : Fin 65) (late : Bool)
  /-- GREET_SET_RX (R374): A GREET set is accepted, bringing the link up or making it incompatible, and carries the spare
  requests. -/
  | greetSetRx (j : Fin 16) (g : Greet)
  /-- ALIGN_COLUMN_TX (R364): Every 8,192 slots the transmitter sends an ALIGN column followed by the GREET columns. -/
  | alignColumnTx (j : Fin 16)
  /-- EXERCISE_COLUMN_TX (R380): After 65,536 idle slots the transmitter sends 256 EXERCISE columns. -/
  | exerciseColumnTx (j : Fin 16)
  /-- EXERCISE_RX (R380): A received EXERCISE block is checked against its PRBS31 sequence. -/
  | exerciseRx (n : Fin 36) (bits : BitVec 56)
  /-- RELUNGE (R391): A write of LKj_CTRL.RELUNGE returns every lane of the link to HUNT, starting with an ALIGN column. -/
  | relunge (j : Fin 16) (v : Word)
  /-- SPARE_GO (R387): A write of LKj_CTRL.SPARE_GO starts a spare lane substitution by requesting duplication. -/
  | spareGo (j : Fin 16) (v : Word)
  /-- SPARE_COMPARE_DONE (R387): 1,024 slots of duplication have been compared and reported. -/
  | spareCompareDone (j : Fin 16) (compared mismatches : Nat)
  /-- ADAPT_FREEZE (R378): 2,048 slots without a qualifying block freeze adaptation and snapshot the coefficients. -/
  | adaptFreeze (n : Fin 36)
  /-- REVERT_CHECK (R379): 8,192 slots after adaptation resumes, a low margin restores the snapshot. -/
  | revertCheck (n : Fin 36)
  /-- EYE_MARGIN_UPDATE (R379): Every 1 ms the eye monitor updates LNn_EYE_MARGIN. -/
  | eyeMarginUpdate (n : Fin 36) (height width : Nat) (ctle : Fin 32) (dfe : BitVec 30)
  /-- LANE_DEGRADED (R379): A margin low for 1 s makes the lane DEGRADED, the farrier's trigger. -/
  | laneDegraded (n : Fin 36)
  /-- EYE_SCAN_GO (R381): A write of LNn_EYE_CTRL.GO starts an eye scan point. -/
  | eyeScanGo (n : Fin 36) (v : Word)
  /-- EYE_SCAN_DONE (R381): An eye scan point ends and reports its errors. -/
  | eyeScanDone (n : Fin 36) (errors : Nat)
  /-- TEST_INJECT (R383): A write of INJECT inverts one payload bit of the next test block sent. -/
  | testInject (n : Fin 36) (v : Word)
  /-- TEAM_FORWARDED_READ (R412): A leader read of a team position's register is sent as a CMD_REQ READ. -/
  | teamForwardedRead (p : Fin 64) (o : RegBytes)
  /-- TEAM_FORWARDED_WRITE (R412): A leader write of a team position's register is sent as a CMD_REQ WRITE. -/
  | teamForwardedWrite (p : Fin 64) (offset : Fin 1048576) (v : Word)
  /-- TEAM_CMD_REQ_RX (R412): A node receives a CMD_REQ and performs it or forwards it toward its target. -/
  | teamCmdReqRx (link op seq : Fin 16) (target source : Fin 64) (offset : Fin 1048576) (data : Word)
  /-- TEAM_CMD_RSP_RX (R413): A CMD_RSP completes a forwarded access or is passed toward its source. -/
  | teamCmdRspRx (link status seq : Fin 16) (target source : Fin 64) (offset : Fin 1048576) (data : Word)
  /-- TEAM_EVENT_RX (R415): An EVENT block from a follower is passed upstream or posted by the leader as FORWARDED. -/
  | teamEventRx (link : Fin 16) (source : Fin 64) (seq : Fin 256) (bytes : List Byte)
  /-- TEAM_PROBE (R414): A write of TEAM_CTRL.PROBE reads each position in turn and learns presence and routes. -/
  | teamProbe (v : Word)
  /-- HOST_MEMORY_READ (R395): A host read of device memory through BAR2 is served under ownership, share-read and ECC rules. -/
  | hostMemoryRead (o : HostAddr) (n : Nat) (x : HostReads)
  /-- HOST_MEMORY_WRITE (R435): A host write of device memory through BAR2 is applied or dropped as a non-owner write. -/
  | hostMemoryWrite (o : HostAddr) (bytes : List Byte) (errs : List (Nat × Ecc)) (portA : List (Nat × Byte))
  /-- PCIE_LINK_RESET (R396): A hot reset, link disable or link-down resets the endpoint and stops the DMA channels. -/
  | pcieLinkReset (down : Bool)
  /-- MSIX_HELD_SEND (R397): A held MSI-X message is sent once MSI-X, the vector mask and bus mastering all allow it. -/
  | msixHeldSend (x : MsixSet)
  /-- MODERATION_INTERVAL_END (R405): A vector's moderation interval ends and its pending message is sent. -/
  | moderationIntervalEnd (v : Fin 64)
  /-- DMA_ENABLE (R401): Setting DMAc_CTRL.ENABLE moves a channel from STOPPED to IDLE. -/
  | dmaEnable (c : Fin 8)
  /-- DMA_DISABLE (R401): Clearing ENABLE stops the channel after its descriptor in progress. -/
  | dmaDisable (c : Fin 8)
  /-- DMA_GO (R399): A write of DMAc_CTRL.GO releases a descriptor waiting in WAIT. -/
  | dmaGo (c : Fin 8)
  /-- DMA_RESTART (R401): A write of RESTART retries the failed descriptor at HEAD. -/
  | dmaRestart (c : Fin 8)
  /-- DMA_ABORT (R401): A write of ABORT moves HEAD to TAIL and the channel to IDLE. -/
  | dmaAbort (c : Fin 8)
  /-- DMA_TAIL_WRITE (R401): A write of DMAc_TAIL offers new descriptors to the channel. -/
  | dmaTailWrite (c : Fin 8) (v : Word) (host : List Host.Cell)
  /-- DMA_DESCRIPTOR_DONE (R399): A descriptor completes, its RESULT is written and any event is posted. -/
  | dmaDescriptorDone (c : Fin 8) (host : List Host.Cell) (errs : List (Nat × Ecc))
  /-- DMA_DESCRIPTOR_FAIL (R400): A descriptor fails and the channel stops in ERROR with an event record. -/
  | dmaDescriptorFail (c : Fin 8) (host : List Host.Cell) (hostRead : HostFail) (errs : List (Nat × Ecc))
  /-- EVT_ENABLE (R402): A write of EVT_CTRL.ENABLE starts the event ring on its EVT-owned bank. -/
  | evtEnable (bank : Fin 16)
  /-- EVT_CONS_WRITE (R406): A write of EVT_CONS frees records and clears ALERT when the ring becomes empty. -/
  | evtConsWrite (v : Word)
  /-- EVT_INJECT (R423): A write of EVT_INJECT posts a HOST record. -/
  | evtInject (v : Word)
  /-- EVT_FLOG_CLEAR (R408): A write of EVT_FLOG_CLEAR empties the fault log. -/
  | evtFlogClear (v : Word)
  /-- EVT_STATUS_ENABLE_WRITE (R591): Writing an enable bit to 1 while its status bit is set posts a record. -/
  | evtStatusEnableWrite (which : Fin 8) (v : Word)
  /-- SPI_WRITE (R409): The SPI WRITE opcode writes whole words from a 5-byte address. -/
  | spiWrite (a : BitVec 40) (bytes : List Byte)
  /-- SPI_READ (R409): The SPI READ opcode returns words from a 5-byte address. -/
  | spiRead (a : BitVec 40) (n : Nat) (late : List Nat) (errs : List (Nat × Ecc))
  /-- SPI_BAD_OPCODE (R409): An unknown opcode is ignored until SPI_CS_N rises and sets BAD_OP. -/
  | spiBadOpcode (op : Fin 256)
  /-- ETH_FRAME_RX (R418): A received Ethernet frame is filtered, classified and written to a host receive queue or dropped. -/
  | ethFrameRx (p : Fin 2) (frame : List Byte) (fcs : Word)
  /-- NET_QUEUE_TAIL_WRITE (R419): A write of NQq_TAIL offers new descriptors to a host frame queue. -/
  | netQueueTailWrite (q : Fin 8) (v : Word)
  /-- ETH_FRAME_TX_DONE (R419): A host frame is transmitted and its descriptor completes. -/
  | ethFrameTxDone (q : Fin 8) (errs : List (Nat × Ecc))
  /-- TILE_STREAM_DATAGRAM_RX (R422): A tile-stream datagram is checked and its tiles written, and FRAME_END pushes a queue
  entry. -/
  | tileStreamDatagramRx (payload : List Byte)
  /-- TILE_STREAM_DATAGRAM_TX (R421): A paced tile-stream datagram of coded tiles is sent. -/
  | tileStreamDatagramTx (h : Fin 8)
  /-- SB_HANDOVER_REQUEST (R433): A write of SBn_OWNER that changes OWNER makes a handover request that becomes PENDING. -/
  | sbHandoverRequest (n : Fin 16) (v : Word)
  /-- BANK_WIPE_DONE (R434): A bank wipe ends and the bank becomes OWNED by its new owner. -/
  | bankWipeDone (n : Fin 16) (failRows : List Nat)
  /-- MEM_ATOM_ADD32 (R437): MEM_ATOM_OP ADD32 adds to a 32-bit scratchpad word and returns the old value. -/
  | memAtomAdd32 (x : AtomMeets)
  /-- MEM_ATOM_ADD64 (R437): MEM_ATOM_OP ADD64 adds to a 64-bit scratchpad word and returns the old value. -/
  | memAtomAdd64 (x : AtomMeets)
  /-- MEM_ATOM_SWAP32 (R437): MEM_ATOM_OP SWAP32 swaps a 32-bit scratchpad word and returns the old value. -/
  | memAtomSwap32 (x : AtomMeets)
  /-- MEM_ATOM_SWAP64 (R437): MEM_ATOM_OP SWAP64 swaps a 64-bit scratchpad word and returns the old value. -/
  | memAtomSwap64 (x : AtomMeets)
  /-- MARCH_P_GO (R440): A write of MEM_MARCH_CTRL.GO runs MARCH-P over every row of a bank. -/
  | marchPGo (bank : Fin 16) (background : Bool)
  /-- MARCH_P_ABORT (R440): A write of ABORT restores the row under test and ends the run. -/
  | marchPAbort (bank : Fin 16) (background : Bool)
  /-- MARCH_P_ROW_DONE (R441): A row's test ends, passing or failing, and the row is restored. -/
  | marchPRowDone (fails : Bool)
  /-- INIT_MAP_FILL_DONE (R444): A granule's zero fill ends, its init bit sets and the waiting write proceeds. -/
  | initMapFillDone (g : Nat)
  /-- GROOM_READ (R446): Groom reads its next word or codeword and conditionally writes back a correction. -/
  | groomRead (dram : Bool) (ecc : Ecc) (intervened : Bool)
  /-- TARGETED_WRITEBACK (R448): A unit corrected 16 times receives a targeted writeback within 1 ms. -/
  | targetedWriteback (k : Fin 64)
  /-- CLOG_ENTRY_EXPIRE (R448): A correction log entry without corrections for 24 h is freed. -/
  | clogEntryExpire (k : Fin 64)
  /-- CE_TABLE_LOAD (R462): A write of CE_TABLE_CTRL.GO loads a code table into a slot. -/
  | ceTableLoad (slot : Fin 8)
  /-- CE_TABLE_LOAD_DONE (R462): A table load ends, valid or refused. -/
  | ceTableLoadDone (errs : List (Nat × Ecc))
  /-- CE_QUEUE_ENABLE (R472): Setting CEq_CTRL.ENABLE moves a compression queue to IDLE. -/
  | ceQueueEnable (q : Fin 4)
  /-- CE_QUEUE_DISABLE (R472): Clearing ENABLE stops the queue after its job, or at once from HELD. -/
  | ceQueueDisable (q : Fin 4)
  /-- CE_QUEUE_GO (R472): A write of CEq_CTRL.GO releases a waiting job or keeps the release. -/
  | ceQueueGo (q : Fin 4)
  /-- CE_QUEUE_RESTART (R472): A write of RESTART repeats the failed job from its start. -/
  | ceQueueRestart (q : Fin 4)
  /-- CE_QUEUE_ABORT (R472): A write of ABORT moves HEAD to TAIL and the queue to IDLE. -/
  | ceQueueAbort (q : Fin 4)
  /-- CE_TAIL_WRITE (R472): A write of CEq_TAIL offers new jobs to the queue. -/
  | ceTailWrite (q : Fin 4) (v : Word)
  /-- CE_JOB_END (R471): A compression job ends with a result code, writing RESULT and any event. -/
  | ceJobEnd (q : Fin 4) (errs : List (Nat × Ecc))
  /-- CAL_REQUEST_ITEM (R481): A write of CAL_REQUEST naming an item makes it PENDING. -/
  | calRequestItem (i : Fin 256)
  /-- CAL_REQUEST_ALL (R481): A write of CAL_REQUEST.ALL makes every item PENDING. -/
  | calRequestAll (i : Fin 256)
  /-- INTERNAL_SENSOR_READING (R481): Every 10 ms HAR_TEMP and the internal sensors are read, and items whose temperature moved
  become PENDING. -/
  | internalSensorReading (har : Int) (phys : List Int)
  /-- CAL_RUN_START (R482): The lowest PENDING item starts a calibration run on the ADC. -/
  | calRunStart (drift : Nat) (refv bandgap ua : Nat)
  /-- CAL_MEASURE_DONE (R483): A run's measurements end and its swap, trim or failure is decided. -/
  | calMeasureDone (drift : Nat) (refv bandgap : Nat) (m : CalMeas)
  /-- CAL_RESULT_APPLY (R486): A run's result applies at its safe instant. -/
  | calResultApply (i : Fin 88)
  /-- REFV_RECHECK (R489): While REFV_BAD is set, REFV_EXT is checked once per second. -/
  | refvRecheck (drift : Nat) (refv bandgap : Nat)
  /-- CAL_STORE_PROGRAM_DONE (R494): The record is programmed and verified, and COMMIT is written. -/
  | calStoreProgramDone (ok : Bool)
  /-- CAL_STORE_COMMIT_DONE (R494): COMMIT is verified and the new slot is in force, or the store ends in ERROR. -/
  | calStoreCommitDone (ok : Bool)
  /-- FAR_APPROVE (R497): A write of FAR_APPROVE releases an asked substitution to its window. -/
  | farApprove (k : Fin 16)
  /-- FAR_DECLINE (R497): A write of FAR_DECLINE removes an asked substitution and logs DECLINED. -/
  | farDecline (k : Fin 16)
  /-- FARRIER_LOG_WRITE (R501): The farrier writes a log entry to flash, switching halves when one is full. -/
  | farrierLogWrite (ok : Bool)
  /-- SENSOR_FAILURE (R498): A sensor differs from its group's median for 1 s and its group's spare replaces it. -/
  | sensorFailure (p : Fin 8)
  /-- LOCKSTEP_MISMATCH (R502): The sequencer cores disagree, stop and restart from the last checkpoint. -/
  | lockstepMismatch (x : Mismatch)
  /-- LOCKSTEP_RESTART_DONE (R502): The sequencer pair completes its restart, or SAFE follows after 1 ms. -/
  | lockstepRestartDone (us : Nat)
  /-- RUNG_ENTRY_COMPLETE (R517): Entry completes and the device rests in the target rung. -/
  | rungEntryComplete (repairs : List Bool)
  /-- RUNG_EXIT_COMPLETE (R514): Exit completes, returning the device to Gallop or beginning INIT. -/
  | rungExitComplete (bad : List Nat)
  /-- SHED_LEVEL_REACHED (R524): VSYS stays below a threshold for its filter time and that shed level applies. -/
  | shedLevelReached (n : Fin 5) (mv : Fin 65536)
  /-- SHED_RECOVERY (R526): VSYS holds above the level's threshold plus HYST_MV for 100 ms and SHED1 or SHED2 steps down. -/
  | shedRecovery (mv : Fin 65536)
  /-- REENABLE_OK (R526): In SHED3, VSYS has held above SHED1 plus HYST_MV for 100 ms and REENABLE_OK is set. -/
  | reenableOk (mv : Fin 65536)
  /-- RAIL_FAULT (R529): A rail leaves its valid range for 10 µs and is treated as the critical level. -/
  | railFault (k : Fin 13) (mv : Fin 65536)
  /-- JTAG_BYPASS (R580): Instruction BYPASS selects the 1-bit bypass register. -/
  | jtagBypass (n : Nat) (tdi : Nat)
  /-- SAMPLE_PRELOAD (R580): Instruction SAMPLE/PRELOAD captures and preloads the boundary register. -/
  | samplePreload (pins data : BitVec 431)
  /-- EXTEST (R583): Instruction EXTEST drives the pins from the boundary register. -/
  | extest (pins data : BitVec 431)
  /-- EXTEST_PULSE (R584): Instruction EXTEST_PULSE drives one transition on AC pins in Run-Test/Idle. -/
  | extestPulse (pins data : BitVec 431)
  /-- EXTEST_TRAIN (R584): Instruction EXTEST_TRAIN toggles AC pins at every TCK in Run-Test/Idle. -/
  | extestTrain (pins data : BitVec 431) (n : Nat)
  /-- CLAMP (R583): Instruction CLAMP holds the pins at the boundary values with bypass selected. -/
  | clamp (n : Nat) (tdi : Nat)
  /-- HIGHZ (R583): Instruction HIGHZ places every output in high impedance. -/
  | highz (n : Nat) (tdi : Nat)
  /-- MBIST_DONE (R587): The self-test ends and its result is copied to the MBIST registers. -/
  | mbistDone (rows : List Nat) (engines : BitVec 28)
  /-- TEST_SNAP (R589): A write of TEST_CTRL.SNAP captures the boundary register and the TB0 time. -/
  | testSnap (pins : BitVec 431)
  /-- ETH_BLOCK_LOCK_LOSS (R417): An Ethernet port's 10GBASE-R receiver loses block lock or reports high BER, so LINK_UP clears
  and the loss is counted. -/
  | ethBlockLockLoss (p : Fin 2) (fault : EthFault)
  /-- ETH_BLOCK_LOCK_GAINED (R417): An Ethernet port's receiver regains block lock without fault and Ep_STATUS.LINK_UP sets. -/
  | ethBlockLockGained (p : Fin 2)
  /-- PCIE_LINK_UP (R392): The PCIe endpoint trains its link to L0 after reset, link-down or a return of PE_REFCLK, and
  HOST_STATUS.LINK_UP sets. -/
  | pcieLinkUp (x : PcieLink) (errs : List (Fin 8))
  /-- HOLD_EXHAUSTED (R349): During a discharge HOLD falls below 5.0 V, and the harness die releases every pin to high impedance
  while the clamps close. -/
  | holdExhausted (mv : Fin 65536)
  /-- AVDDG_RESTORED (R355): AVDD_G rises back above HAR_GMA_FS_MV + 300 mV and HAR_STATUS.AVDDG_OK sets again, so R342 permits
  power to raster panels. -/
  | avddgRestored (mv : Fin 65536)
  /-- DRAM_REFRESH_DERATE (R442): An LPDDR5X channel crosses 85 °C, doubling or restoring its refresh rate and setting or
  clearing DERATED. -/
  | dramRefreshDerate (c : Fin 8) (code : Fin 32) (hot : Bool)
  /-- GIRTH_TEST_LOOP_DONE (R588): A GIRTH_TEST measurement of one loop ends after up to 12 ms and its entry becomes VALID with
  the resistance. -/
  | girthTestLoopDone (g : Fin 4) (mohm mv : Nat) (vbias : Bool)
  /-- POWER_ON_RESET (R28): VDD_AON rising resets every part of the device, clears the fault log and enters INIT. -/
  | powerOnReset
  /-- PERST_N_ASSERT (R522): PERST_N low for 1 µs resets the data, control and management planes and the PCIe link, and enters
  INIT. -/
  | perstNAssert
  /-- PERST_N_DEASSERT (R514): Deassertion of PERST_N ends the reset and, in Stand or Stable, is a wake event. -/
  | perstNDeassert
  /-- PE_REFCLK_LOST (R27): Loss of PE_REFCLK takes down the PCIe link only. -/
  | peRefclkLost
  /-- HARNESS_LINK_SILENT (R22): The harness die's control link stays silent for 1 ms; the logic die enters SAFE and the harness
  die discharges every panel. -/
  | harnessLinkSilent
  /-- XSPI_READ_TIMEOUT (R58): No xSPI response arrives within 1 ms and the attempt fails with READ_ERROR. -/
  | xspiReadTimeout
  /-- IMAGE_VERIFY_COMPLETE (R55): ECDSA, structure and resource checks end, and the image passes to APPLY or fails to the next
  source. -/
  | imageVerifyComplete
  /-- IMAGE_APPLY_COMPLETE (R59): The apply steps end and the sequencer starts; the mode becomes READY. -/
  | imageApplyComplete
  /-- TACK_PUSH_GO (R54): A write of TACK_PUSH_GO in PUSH_WAIT starts the fetch of a pushed image. -/
  | tackPushGo
  /-- BURN_ROLLBACK (R57): A write of TACK_CONTROL.BURN_ROLLBACK raises the fuse rollback count to the running image's ROLLBACK.
  -/
  | burnRollback
  /-- RETACK_ABANDON (R67): A write of TACK_RT_CONTROL.ABANDON abandons a re-tack before DONE and releases its reservations. -/
  | retackAbandon
  /-- RETACK_VERIFY_COMPLETE (R65): The re-tack checks end, and PREPARE begins or the re-tack is abandoned. -/
  | retackVerifyComplete
  /-- RETACK_PREPARE_COMPLETE (R65): PREPARE ends and the re-tack reaches ARMED, or DONE at once for a head that is not
  scanning. -/
  | retackPrepareComplete
  /-- LTC_OUT_WORD (R100): At each labelled frame start, LTC_OUT begins sending the frame's 80-bit word. -/
  | ltcOutWord
  /-- SYNC_OUT_FRAME (R103): SYNC_OUT starts a frame at an aligned frame start of TB0 plus its offset. -/
  | syncOutFrame
  /-- PPS_OUT_PULSE (R104): PPS_OUT rises at a TB0 second boundary plus its offset, for a seconds value not already pulsed. -/
  | ppsOutPulse
  /-- PPS_OUT_PULSE_END (R104): PPS_OUT falls once PPSOUT_WIDTH has run. -/
  | ppsOutPulseEnd
  /-- TIME_SET_TX (R111): Every TEAM_SYNC_INTERVAL a node sends the TIME base blocks, and any step pairs, on its downstream TEAM
  links. -/
  | timeSetTx
  /-- TEAM_DELAY_REQ_TX (R112): Every 16 sets a follower sends DELAY_REQ upstream, stamped at departure. -/
  | teamDelayReqTx
  /-- SCHED_DISARM_ALL (R121): A write of SCHED_DISARM_ALL disarms every mark. -/
  | schedDisarmAll
  /-- ENGINE_SUBSTITUTION_COMPLETE (R201): After 1.28 µs the spare takes the engine's stripe and the outgoing engine is retired.
  -/
  | engineSubstitutionComplete
  /-- OD_BUILD_START (R227): The sequencer starts building a working overdrive table for the lowest waiting head. -/
  | odBuildStart
  /-- HALTER_RENDER (R326): In Stand the island renders the halter area 1 ms after each whole second and sends the changed rows.
  -/
  | halterRender
  /-- HALTER_PHASE (R326): In Stand the halter head's commons change level at each whole and half second of TB1. -/
  | halterPhase
  /-- PUMP_FAILURE (R335): The pumps fail to regulate and every powered MIP panel is discharged. -/
  | pumpFailure
  /-- PWRFAIL_N_LOW (R346): PWRFAIL_N low for 1 µs starts a fast discharge of every panel. -/
  | pwrfailNLow
  /-- TEAM_FORWARD_TIMEOUT (R413): No CMD_RSP arrives within 50 µs and the forwarded access ends with TIMEOUT. -/
  | teamForwardTimeout
  /-- SPI_STATUS (R409): The SPI STATUS opcode returns the mode and error flags. -/
  | spiStatus
  /-- SPI_WAKE (R409): The SPI WAKE opcode is a wake event. -/
  | spiWake
  /-- MARCH_P_ROW_START (R440): Every MEM_MARCH_INTERVAL µs background MARCH-P saves the next lendable row. -/
  | marchPRowStart
  /-- MARCH_P_RESUME (R441): 10 µs without an access, the yielded test saves the row afresh. -/
  | marchPResume
  /-- BACKGROUND_FILL_COMPLETE (R445): The background fill covers every granule and INIT_DONE is set. -/
  | backgroundFillComplete
  /-- DRAM_PAGE_REMAP (R449): A hard-faulted DRAM page is copied to a spare page and remapped within 1 ms. -/
  | dramPageRemap
  /-- CAL_QUIET_TIMEOUT (R488): A run waiting for a quiet output exceeds 100 ms and aborts with PRECOND. -/
  | calQuietTimeout
  /-- CAL_STORE_GO (R494): A write of CAL_STORE_CTRL.GO starts a calibration store. -/
  | calStoreGo
  /-- CAL_AUTO_STORE (R494): With AUTO_STORE set, a store starts once DIRTY has held for STORE_MIN minutes. -/
  | calAutoStore
  /-- CAL_STORE_ERASE_DONE (R494): The store's sector erase ends and programming begins. -/
  | calStoreEraseDone
  /-- SEQ_CHECKPOINT (R502): Every 10 ms and at each task end the sequencer writes a checkpoint. -/
  | seqCheckpoint
  /-- RUNG_REQUEST_GALLOP (R514): GO with TARGET 0 is a host wake event that returns the device to Gallop. -/
  | rungRequestGallop
  /-- RUNG_REQUEST_CANTER (R513): GO with TARGET Canter is checked and waits for its dynamic conditions. -/
  | rungRequestCanter
  /-- RUNG_REQUEST_TROT (R513): GO with TARGET Trot is checked and waits for its dynamic conditions. -/
  | rungRequestTrot
  /-- RUNG_REQUEST_WALK (R513): GO with TARGET Walk is checked and waits for its dynamic conditions. -/
  | rungRequestWalk
  /-- RUNG_REQUEST_STAND (R513): GO with TARGET Stand is checked and waits for its dynamic conditions. -/
  | rungRequestStand
  /-- RUNG_REQUEST_STABLE (R513): GO with TARGET Stable is checked and waits for its dynamic conditions. -/
  | rungRequestStable
  /-- RUNG_ENTRY_BEGIN (R513): Every dynamic condition holds and entry to the requested rung begins. -/
  | rungEntryBegin
  /-- RUNG_REQUEST_TIMEOUT (R513): The dynamic conditions fail to hold within 1 s and the request ends with TIMEOUT. -/
  | rungRequestTimeout
  /-- WAKE_N_LOW (R514): WAKE_N low for 10 µs is a wake event. -/
  | wakeNLow
  /-- WAKE_TIMER (R514): TB0 reaches POWER_WAKE_TIME and a wake event occurs. -/
  | wakeTimer
  /-- WAKE_RELEASE (R514): VSYS has held above SHED4 plus HYST_MV for 100 ms and a held wake proceeds. -/
  | wakeRelease
  /-- SHED_REENABLE (R526): A write of POWER_SHED_REENABLE sets the shed level to 0. -/
  | shedReenable
  /-- XTAL32K_LOSS (R550): XTAL32K shows no edge for 1 ms and the island runs on its RC oscillator. -/
  | xtal32kLoss
  /-- XTAL32K_RESTORE (R550): After 1 s of continuous edges the island returns to the crystal. -/
  | xtal32kRestore
  /-- TAP_RESET (R579): TRST_N low or five TMS-high cycles place the TAP in Test-Logic-Reset with IDCODE. -/
  | tapReset
  /-- JTAG_IDCODE (R581): Instruction IDCODE returns the 32-bit identification. -/
  | jtagIdcode
  /-- MBIST_RUN (R587): Instruction MBIST_RUN starts the memory march and engine BIST. -/
  | mbistRun
  /-- GIRTH_TEST (R588): Instruction GIRTH_TEST measures every girth loop in turn. -/
  | girthTest
  /-- LEAVE_INTRUSIVE (R582): Leaving an intrusive instruction acts as TOP_RESET. -/
  | leaveIntrusive
  /-- PCIE_REQUEST_WAKE (R514): In Walk, any PCIe request, such as a register read or a configuration access, is a HOST wake
  event and is completed after exit. -/
  | pcieRequestWake
  /-- HALT_BMP_DATA_READ (R330): A PCIe read of MIP_HALT_BMP_DATA returns bytes ADDR to ADDR + 3 and advances MIP_HALT_BMP_ADDR
  by 4, wrapping at 2,048. -/
  | haltBmpDataRead
  /-- PUSH_FETCH_ERROR (R58): A PCIe fetch of a pushed image ends in error and the attempt fails with READ_ERROR, returning to
  PUSH_WAIT or FAILED. -/
  | pushFetchError
deriving DecidableEq, Repr

end Sys2Proof
end

