-- ==== Sys2Proof/Decode.lean ====
section
/-! DEFINITION. The command that a word spells. The command table gives no row any bits: a command comes from a bus access, a pin,
a link or the end of something the block does, and no word spells one. -/
namespace Sys2Proof

/-- The command spelled by a word of `nbits` bits: none, since no row of the table gives bits. -/
def decodeTableWord (_nbits _w : Nat) : Option Instr := none

end Sys2Proof
end

