-- ==== Sys2Proof/Config.lean ====
section
/-! DEFINITION. What the spec leaves open: constants without a body, so that no proof can see a value. Each is named in the
assumption log. -/
namespace Sys2Proof.Config

/-- A value the spec leaves undefined where the block goes on: the `k`-th one drawn (Dev.fresh counts). -/
opaque freeValue : Nat → Nat

/-- R91: the rate word fitted to the offsets collected in ACQUIRE; the spec gives no fit. -/
opaque fittedRate : List Int → Int

/-- R91: the median of an even number of offsets, from the two middle ones; the spec does not say which. -/
opaque medianOfEven : Int → Int → Int

/-- R114: the island's correction of one XTAL32K tick for the crystal's error measured before entry, in units of 2^-43 ns. -/
opaque islandCorrection : Int

/-- R463: which of the optimal lengths of a dynamic table the encoder takes for the counts of a slot's symbols. -/
opaque lengthChoice : List Nat → List Nat

/-- R161: the fixed time of a head from a line's arrival to its first pixel leaving the lanes, in ns, at most 24,000. -/
opaque pipeNs : Nat → Nat

/-- R249: the trim of the proportional-integral loop in ppb, from the error in ns and the trim before; the spec gives no gains. -/
opaque flockTrim : Int → Int → Int

/-- R107: the fixed latency of Ethernet port `p` in ns, received and sent, by which timestamps are corrected. -/
opaque ptpLatency : Nat → Bool → Int

/-- R325: the glyph ROM: is the pixel at row and column of a code's 8 × 16 cell set? The spec does not give its content. -/
opaque glyph : Nat → Nat → Nat → Bool

/-- What a register that holds a measured quantity reads at TB3's total nanoseconds: the register's offset, the time. -/
opaque measured : Nat → Nat → Nat

/-- R532, R537: the words of the fuse identity. -/
opaque uid : Nat → Nat

/-- R56: the hash of the public key in a fuse slot: 0 the root key, 1 CK0, 2 CK1. -/
opaque keyHash : Nat → Nat

/-- The word, counted from the start of SCALE's line buffers, that holds a column of a source line: their layout is not given (R180). -/
opaque scaleWord : Nat → Nat → Nat

/-- R325: what the BATTERY field's quotient gives at a supply voltage while FULL_MV and EMPTY_MV are both at their reset value, 0. -/
opaque batteryShare : Nat → Int

/-- R392: a byte of the configuration space that no rule gives: the capabilities' places and contents. -/
opaque pcieConfig : Nat → BitVec 8

/-- R420: the time to live, or hop limit, of tile-stream datagrams. -/
opaque tsHops : Nat

end Sys2Proof.Config
end

