-- ==== Sys2Proof/Machine/Bits.lean ====
section
/-! DEFINITION. Bit fields, signed values, byte order and small arithmetic shared by every meaning. -/
namespace Sys2Proof.Machine

/-- The field of `w` bits of `v` from bit `lo` up. -/
def bitsOf (v lo w : Nat) : Nat := v / 2 ^ lo % 2 ^ w

/-- `v` with the field of `w` bits from bit `lo` up replaced by `x` (its low `w` bits). -/
@[irreducible] def putBits (v lo w x : Nat) : Nat :=
  v % 2 ^ lo + x % 2 ^ w * 2 ^ lo + v / 2 ^ (lo + w) * 2 ^ (lo + w)

/-- Bit `k` of `v`. -/
def bitOf (v k : Nat) : Bool := v / 2 ^ k % 2 == 1

/-- 1 for true, 0 for false. -/
def b2n (b : Bool) : Nat := if b then 1 else 0

/-- The value of the low `w` bits of `v` read as two's complement. -/
def sgn (w v : Nat) : Int :=
  if v % 2 ^ w < 2 ^ (w - 1) then ((v % 2 ^ w : Nat) : Int) else ((v % 2 ^ w : Nat) : Int) - ((2 ^ w : Nat) : Int)

/-- The `w`-bit two's complement code of `x`. -/
def unsgn (w : Nat) (x : Int) : Nat := (x % ((2 ^ w : Nat) : Int)).toNat

/-- `x` limited to the range `lo` to `hi`. -/
def clampI (lo hi x : Int) : Int := if x < lo then lo else if hi < x then hi else x

/-- `x` limited to the range `lo` to `hi`. -/
def clampN (lo hi x : Nat) : Nat := if x < lo then lo else if hi < x then hi else x

/-- Rounds the quotient `a / b` to the nearest integer, halves up. -/
def roundDiv (a b : Int) : Int := if b = 0 then 0 else (2 * a + b) / (2 * b)

/-- The ceiling of `a / b`. -/
def ceilDiv (a b : Nat) : Nat := if b = 0 then 0 else (a + b - 1) / b

/-- The little-endian bytes of `v`, `n` of them. -/
def leBytes : Nat → Nat → List Byte
  | 0, _ => []
  | n + 1, v => BitVec.ofNat 8 v :: leBytes n (v / 256)

/-- The number that little-endian bytes spell. -/
def ofLE : List Byte → Nat
  | [] => 0
  | b :: r => b.toNat + 256 * ofLE r

/-- The number that big-endian bytes spell. -/
def ofBE (l : List Byte) : Nat := l.foldl (fun a b => 256 * a + b.toNat) 0

/-- Element `i` of `l`, or `d` beyond its end. -/
def nth {α : Type} (d : α) (l : List α) (i : Nat) : α := l.getD i d

/-- `l` with element `i` replaced by its image under `f`. -/
def updAt {α : Type} (l : List α) (i : Nat) (f : α → α) : List α := l.modify i f

/-- The numbers below `n` at which `p` holds. -/
def filterRange (n : Nat) (p : Nat → Bool) : List Nat := (List.range n).filter p

/-- Is `p` true of some number below `n`? -/
def anyBelow (n : Nat) (p : Nat → Bool) : Bool := (List.range n).any p

/-- Is `p` true of every number below `n`? -/
def allBelow (n : Nat) (p : Nat → Bool) : Bool := (List.range n).all p

/-- The positions of the ones among the low `w` bits of `v`, in ascending order. -/
def onesOf (w v : Nat) : List Nat := filterRange w (bitOf v)

/-- Folds a state update over the numbers of a list. -/
def foldS {σ : Type} (l : List Nat) (f : Nat → σ → σ) (s : σ) : σ := l.foldl (fun t k => f k t) s

/-- The d of R8 and R9 for a field of `w` bits: 0 reached, below 2^(w-1) future, otherwise past. -/
def modDist (w t now : Nat) : Nat := (t + 2 ^ w - now % 2 ^ w) % 2 ^ w

/-- R8: t is reached or past at `now` (32 bits). -/
def due32 (t now : Nat) : Bool := modDist 32 t now == 0 || modDist 32 t now ≥ 2 ^ 31

/-- R8: t is past at `now` (32 bits). -/
def past32 (t now : Nat) : Bool := modDist 32 t now ≥ 2 ^ 31

/-- A time `t` that lay ahead at the total `old` comes before the total `new`: in exact distance, not under R8 (R96, R511). -/
def passed32 (t old new : Nat) : Bool := decide (0 < modDist 32 t old ∧ modDist 32 t old < 2 ^ 31 ∧ old + modDist 32 t old < new)

/-- R9: frame F is past at frame C (16 bits). -/
def past16 (f c : Nat) : Bool := modDist 16 f c ≥ 2 ^ 15

/-! ### The CRC-32 of R420 -/

/-- One byte of the reflected CRC-32 of IEEE 802.3. -/
def crc32Byte (crc : Nat) (b : Byte) : Nat :=
  (List.range 8).foldl (fun c _ => if c % 2 = 1 then Nat.xor (c / 2) 0xEDB88320 else c / 2) (Nat.xor crc b.toNat)

/-- The CRC-32 of bytes. -/
def crc32 (l : List Byte) : Nat := Nat.xor (l.foldl crc32Byte 0xFFFFFFFF) 0xFFFFFFFF

/-- An Ethernet frame as the MAC sends it: padded to 60 bytes, with its FCS (R417). -/
def macFrame (l : List Byte) : List Byte :=
  let p := l ++ List.replicate (60 - l.length) 0
  p ++ leBytes 4 (crc32 p)

end Sys2Proof.Machine
end

