-- ==== Sys2Proof/Machine/RegTable.lean ====
section
/-! DEFINITION. The register map of the device: every register of chapters 00 to 19, with its address (R7, R535), the
access type of each field (R3), its reset value and the values a write may put into it (R4). R534 gives the blocks. -/
namespace Sys2Proof.Machine

/-- The access types of R3. -/
inductive Access where
  | ro | rw | rws | w1c | wo
deriving DecidableEq, Repr

/-- The values of a writable field that are no out-of-range write (R4, R5): the register tables' ranges and enumerations. -/
inductive Legal where
  | any
  | range (lo hi : Nat)
  | srange (lo hi : Int)
  | oneOf (l : List Nat)
  | mult4
deriving DecidableEq, Repr

/-- One field of a register: its lowest bit, its width, its access type, its reset value, its legal values. -/
structure FieldSpec where
  lo : Nat
  w : Nat
  acc : Access
  reset : Nat
  legal : Legal
deriving DecidableEq, Repr

/-- One register or register array (R7): base address, the arrays' (stride, count) pairs, the fields (bits in no field are
reserved), and whether only a power-on reset resets it (R28, R519 and the chapters' own lists). -/
structure RegSpec where
  base : Nat
  dims : List (Nat × Nat)
  fields : List FieldSpec
  porOnly : Bool
deriving DecidableEq, Repr

/-- The registers of the TOP block (R534). -/
def regsTop : List RegSpec := [
  -- TOP_STATUS
  ⟨0x00000, [], [⟨29, 3, .ro, 1, .any⟩, ⟨28, 1, .ro, 0, .any⟩, ⟨25, 3, .ro, 0, .any⟩, ⟨22, 3, .ro, 0, .any⟩, ⟨18, 4, .ro, 0, .any⟩, ⟨14, 4, .ro, 0, .any⟩], false⟩,
  -- TOP_RESET
  ⟨0x00004, [], [⟨0, 32, .wo, 0, (.oneOf [90])⟩], false⟩,
  -- TOP_RESET_CAUSE
  ⟨0x00008, [], [⟨28, 4, .ro, 1, .any⟩, ⟨27, 1, .ro, 0, .any⟩], false⟩,
  -- TOP_REJECT_COUNT
  ⟨0x0000C, [], [⟨0, 32, .ro, 0, .any⟩], false⟩,
  -- TOP_REJECT_ADDR
  ⟨0x00010, [], [⟨0, 32, .ro, 0, .any⟩], false⟩,
  -- TOP_ID
  ⟨0x00014, [], [⟨0, 32, .ro, 0x96401ED4, .any⟩], false⟩,
  -- TOP_REVISION
  ⟨0x00018, [], [⟨0, 32, .ro, 162, .any⟩], false⟩,
  -- TOP_STRAPS
  ⟨0x0001C, [], [⟨8, 2, .ro, 0, .any⟩, ⟨0, 6, .ro, 0, .any⟩], false⟩,
  -- TOP_READY_US
  ⟨0x00020, [], [⟨0, 32, .ro, 0, .any⟩], false⟩,
  -- TOP_BOOT_COUNT
  ⟨0x00024, [], [⟨0, 32, .ro, 0, .any⟩], true⟩,
  -- TOP_UPTIME_S
  ⟨0x00028, [], [⟨0, 32, .ro, 0, .any⟩], true⟩,
  -- TOP_AON_SCRATCH
  ⟨0x0002C, [], [⟨0, 32, .rw, 0, .any⟩], true⟩,
  -- TOP_SAFE_TIME
  ⟨0x00030, [], [⟨0, 32, .ro, 0, .any⟩], false⟩,
  -- TOP_SAFE_DETAIL
  ⟨0x00034, [], [⟨0, 32, .ro, 0, .any⟩], false⟩,
  -- TOP_PLL_STATUS
  ⟨0x00038, [], [⟨0, 15, .ro, 0, .any⟩], false⟩,
  -- TOP_REFCLK_STATUS
  ⟨0x0003C, [], [⟨0, 3, .ro, 0, .any⟩], false⟩,
  -- TOP_REFCLK_LOSS_COUNTk
  ⟨0x00040, [(0x4, 2)], [⟨0, 32, .ro, 0, .any⟩], false⟩,
  -- TOP_TEMP_MAX
  ⟨0x00048, [], [⟨0, 32, .ro, 0, .any⟩], false⟩,
  -- TOP_ROSC_KHZ
  ⟨0x0004C, [], [⟨0, 32, .ro, 0, .any⟩], false⟩,
  -- TOP_UIDk
  ⟨0x00050, [(0x4, 4)], [⟨0, 32, .ro, 0, .any⟩], false⟩,
  -- TOP_RESET_COUNTk
  ⟨0x00060, [(0x4, 8)], [⟨0, 32, .ro, 0, .any⟩], true⟩,
  -- TOP_MODE_COUNTk
  ⟨0x00080, [(0x4, 8)], [⟨0, 32, .ro, 0, .any⟩], false⟩,
  -- TOP_MODE_TIME_Sk
  ⟨0x000A0, [(0x4, 8)], [⟨0, 32, .ro, 0, .any⟩], false⟩,
  -- TOP_STEP_USk
  ⟨0x000C0, [(0x4, 16)], [⟨0, 32, .ro, 0, .any⟩], false⟩]

/-- The registers of the TACK block (R534). -/
def regsTack : List RegSpec := [
  -- TACK_STATUS
  ⟨0x01000, [], [⟨28, 4, .ro, 0, .any⟩, ⟨26, 2, .ro, 0, .any⟩, ⟨24, 2, .ro, 0, .any⟩, ⟨20, 4, .ro, 0, .any⟩, ⟨16, 4, .ro, 0, .any⟩, ⟨8, 8, .ro, 0, .any⟩], false⟩,
  -- TACK_CONTROL
  ⟨0x01004, [], [⟨8, 1, .wo, 0, .any⟩, ⟨0, 2, .rw, 0, (.range 0 2)⟩], true⟩,
  -- TACK_IMAGE_VERSION
  ⟨0x01008, [], [⟨0, 32, .ro, 0, .any⟩], false⟩,
  -- TACK_ROLLBACK
  ⟨0x0100C, [], [⟨8, 8, .ro, 0, .any⟩, ⟨0, 8, .ro, 0, .any⟩], false⟩,
  -- TACK_BUILD_ID
  ⟨0x01010, [], [⟨0, 32, .ro, 0, .any⟩], false⟩,
  -- TACK_IMAGE_SIZE
  ⟨0x01014, [], [⟨0, 32, .ro, 0, .any⟩], false⟩,
  -- TACK_KEY
  ⟨0x01018, [], [⟨8, 1, .ro, 0, .any⟩, ⟨7, 1, .ro, 0, .any⟩, ⟨6, 1, .ro, 0, .any⟩, ⟨5, 1, .ro, 0, .any⟩, ⟨4, 1, .ro, 0, .any⟩, ⟨0, 2, .ro, 0, .any⟩], false⟩,
  -- TACK_FW_VERSION
  ⟨0x0101C, [], [⟨0, 32, .ro, 0, .any⟩], false⟩,
  -- TACK_ATTEMPTn
  ⟨0x01020, [(0x4, 4)], [⟨31, 1, .ro, 0, .any⟩, ⟨28, 3, .ro, 0, .any⟩, ⟨24, 4, .ro, 0, .any⟩], false⟩,
  -- TACK_SLOTA_VERSION
  ⟨0x01030, [], [⟨0, 32, .ro, 0, .any⟩], false⟩,
  -- TACK_SLOTB_VERSION
  ⟨0x01034, [], [⟨0, 32, .ro, 0, .any⟩], false⟩,
  -- TACK_PUSH_ADDR_LO
  ⟨0x01040, [], [⟨0, 32, .rw, 0, .any⟩], false⟩,
  -- TACK_PUSH_ADDR_HI
  ⟨0x01044, [], [⟨0, 32, .rw, 0, .any⟩], false⟩,
  -- TACK_PUSH_LENGTH
  ⟨0x01048, [], [⟨0, 32, .rw, 0, .any⟩], false⟩,
  -- TACK_PUSH_GO
  ⟨0x0104C, [], [⟨0, 1, .wo, 0, .any⟩], false⟩,
  -- TACK_RT_CONTROL
  ⟨0x01050, [], [⟨9, 1, .wo, 0, .any⟩, ⟨8, 1, .wo, 0, .any⟩, ⟨0, 3, .rw, 0, .any⟩], false⟩,
  -- TACK_RT_ADDR_LO
  ⟨0x01054, [], [⟨0, 32, .rw, 0, .any⟩], false⟩,
  -- TACK_RT_ADDR_HI
  ⟨0x01058, [], [⟨0, 8, .rw, 0, .any⟩], false⟩,
  -- TACK_RT_LENGTH
  ⟨0x0105C, [], [⟨0, 32, .rw, 0, .any⟩], false⟩,
  -- TACK_RT_STATUS
  ⟨0x01060, [], [⟨28, 4, .ro, 0, .any⟩, ⟨24, 4, .ro, 0, .any⟩, ⟨16, 8, .ro, 0, .any⟩, ⟨0, 3, .ro, 0, .any⟩], false⟩,
  -- TACK_RT_FRAME
  ⟨0x01064, [], [⟨31, 1, .ro, 0, .any⟩, ⟨30, 1, .ro, 0, .any⟩, ⟨0, 16, .ro, 0, .any⟩], false⟩,
  -- TACK_ENGINE_SUMMARY
  ⟨0x01068, [], [⟨24, 5, .ro, 0, .any⟩, ⟨16, 5, .ro, 0, .any⟩, ⟨8, 5, .ro, 0, .any⟩, ⟨0, 5, .ro, 0, .any⟩], false⟩,
  -- TACK_QUAD_RATE
  ⟨0x0106C, [], [⟨0, 27, .ro, 0, .any⟩], false⟩,
  -- TACK_ENGINE_MAPn
  ⟨0x01070, [], [⟨0, 32, .ro, 0xFFFFFFFF, .any⟩], false⟩,
  -- TACK_ENGINE_MAPn
  ⟨0x01074, [], [⟨0, 32, .ro, 0xFFFFFFFF, .any⟩], false⟩,
  -- TACK_ENGINE_MAPn
  ⟨0x01078, [], [⟨0, 32, .ro, 0xFFFFFFFF, .any⟩], false⟩,
  -- TACK_ENGINE_MAPn
  ⟨0x0107C, [], [⟨0, 16, .ro, 0x0FFFF, .any⟩], false⟩,
  -- TACK_HEADn
  ⟨0x01080, [(0x4, 8)], [⟨31, 1, .ro, 0, .any⟩, ⟨30, 1, .ro, 0, .any⟩, ⟨28, 2, .ro, 0, .any⟩, ⟨23, 5, .ro, 0, .any⟩, ⟨10, 11, .ro, 0, .any⟩, ⟨0, 10, .ro, 0, .any⟩], false⟩,
  -- TACK_LEDGERn
  ⟨0x010A0, [(0x4, 8)], [⟨14, 15, .ro, 0, .any⟩, ⟨0, 14, .ro, 0, .any⟩], false⟩,
  -- TACK_BANK_RESETn
  ⟨0x010C0, [(0x4, 2)], [⟨0, 32, .ro, 0x11111111, .any⟩], false⟩]

/-- The registers of the EVT block (R534). -/
def regsEvt : List RegSpec := [
  -- EVT_CTRL
  ⟨0x02000, [], [⟨31, 1, .rw, 0, .any⟩, ⟨0, 4, .rw, 0, .any⟩], false⟩,
  -- EVT_STATUS
  ⟨0x02004, [], [⟨31, 1, .w1c, 0, .any⟩, ⟨30, 1, .ro, 0, .any⟩, ⟨29, 1, .w1c, 0, .any⟩], false⟩,
  -- EVT_PROD
  ⟨0x02008, [], [⟨0, 14, .ro, 0, .any⟩], false⟩,
  -- EVT_CONS
  ⟨0x0200C, [], [⟨0, 14, .rw, 0, .any⟩], false⟩,
  -- EVT_POSTED_COUNT
  ⟨0x02010, [], [⟨0, 32, .ro, 0, .any⟩], false⟩,
  -- EVT_LOST_COUNT
  ⟨0x02014, [], [⟨0, 32, .ro, 0, .any⟩], false⟩,
  -- EVT_CLASS_ENABLE
  ⟨0x02018, [], [⟨0, 16, .rw, 0x0FFFF, .any⟩], false⟩,
  -- EVT_ALERT_ENABLE
  ⟨0x0201C, [], [⟨0, 16, .rw, 0x08000, .any⟩], false⟩,
  -- EVT_MODERATE
  ⟨0x02020, [], [⟨0, 16, .rw, 0, .any⟩], false⟩,
  -- EVT_HIGH_WATER
  ⟨0x02024, [], [⟨0, 32, .ro, 0, .any⟩], false⟩,
  -- EVT_INJECT
  ⟨0x02028, [], [⟨0, 16, .wo, 0, .any⟩], false⟩,
  -- EVT_INJECT_ARG
  ⟨0x0202C, [], [⟨0, 32, .rw, 0, .any⟩], false⟩,
  -- EVT_FLOG_SEL
  ⟨0x02030, [], [⟨0, 6, .rw, 0, .any⟩], true⟩,
  -- EVT_FLOG_CLEAR
  ⟨0x02034, [], [⟨0, 1, .wo, 0, .any⟩], true⟩,
  -- EVT_FLOG_COUNT
  ⟨0x02038, [], [⟨0, 32, .ro, 0, .any⟩], true⟩,
  -- EVT_FLOG_LOST
  ⟨0x0203C, [], [⟨0, 32, .ro, 0, .any⟩], true⟩,
  -- EVT_CLASS_COUNTk
  ⟨0x02040, [(0x4, 16)], [⟨0, 32, .ro, 0, .any⟩], false⟩,
  -- EVT_FLOGk
  ⟨0x02100, [(0x4, 64)], [⟨0, 32, .ro, 0, .any⟩], true⟩]

/-- The registers of the TIME block (R534), part 0. -/
def regsTime0 : List RegSpec := [
  -- TBn_CTRL
  ⟨0x04000, [(0x100, 4)], [⟨28, 4, .rw, 0, .any⟩, ⟨26, 2, .rw, 0, .any⟩, ⟨20, 1, .rw, 1, .any⟩, ⟨16, 4, .rw, 4, (.range 2 15)⟩, ⟨12, 4, .rw, 0, (.range 0 12)⟩, ⟨8, 4, .rw, 1, (.range 0 10)⟩, ⟨0, 4, .rw, 4, (.range 0 12)⟩], true⟩,
  -- TBn_STATUS
  ⟨0x04004, [(0x100, 4)], [⟨30, 2, .ro, 0, .any⟩, ⟨29, 1, .ro, 0, .any⟩, ⟨28, 1, .ro, 0, .any⟩, ⟨27, 1, .ro, 0, .any⟩, ⟨26, 1, .ro, 0, .any⟩, ⟨25, 1, .ro, 0, .any⟩], true⟩,
  -- TBn_RATE
  ⟨0x04008, [(0x100, 4)], [⟨0, 32, .rw, 0, (.srange (-1099511627) 1099511627)⟩], true⟩,
  -- TBn_NSC32
  ⟨0x0400C, [(0x100, 4)], [⟨0, 32, .ro, 0, .any⟩], true⟩,
  -- TBn_LATCH
  ⟨0x04010, [(0x100, 4)], [⟨0, 1, .wo, 0, .any⟩], true⟩,
  -- TBn_SNAP_SEC_HI
  ⟨0x04014, [(0x100, 4)], [⟨0, 16, .ro, 0, .any⟩], true⟩,
  -- TBn_SNAP_SEC_LO
  ⟨0x04018, [(0x100, 4)], [⟨0, 32, .ro, 0, .any⟩], true⟩,
  -- TBn_SNAP_NS
  ⟨0x0401C, [(0x100, 4)], [⟨0, 32, .ro, 0, .any⟩], true⟩,
  -- TBn_SNAP_FRAC
  ⟨0x04020, [(0x100, 4)], [⟨0, 16, .ro, 0, .any⟩], true⟩,
  -- TBn_OFFSET
  ⟨0x04024, [(0x100, 4)], [⟨0, 32, .ro, 0, .any⟩], true⟩,
  -- TBn_DISC_THRESH
  ⟨0x04028, [(0x100, 4)], [⟨0, 32, .rw, 1000, (.range 100 1000000000)⟩], true⟩,
  -- TBn_STEP_SEC
  ⟨0x0402C, [(0x100, 4)], [⟨0, 32, .rw, 0, .any⟩], true⟩,
  -- TBn_STEP_NS
  ⟨0x04030, [(0x100, 4)], [⟨0, 32, .rw, 0, (.srange (-999999999) 999999999)⟩], true⟩,
  -- TBn_STEP_CTRL
  ⟨0x04034, [(0x100, 4)], [⟨2, 1, .wo, 0, .any⟩, ⟨1, 1, .wo, 0, .any⟩, ⟨0, 1, .wo, 0, .any⟩], true⟩,
  -- TBn_DISC_COUNT
  ⟨0x04038, [(0x100, 4)], [⟨0, 32, .ro, 0, .any⟩], true⟩,
  -- TBn_STEP_COUNT
  ⟨0x0403C, [(0x100, 4)], [⟨0, 32, .ro, 0, .any⟩], true⟩,
  -- TBn_HOLDOVER_S
  ⟨0x04040, [(0x100, 4)], [⟨0, 32, .ro, 0, .any⟩], true⟩,
  -- TBn_MEAS_COUNT
  ⟨0x04044, [(0x100, 4)], [⟨0, 32, .ro, 0, .any⟩], true⟩,
  -- TBn_HISTk
  ⟨0x04080, [(0x100, 4), (0x4, 32)], [⟨0, 32, .ro, 0, .any⟩], true⟩,
  -- CAPc_CTRL
  ⟨0x04400, [(0x20, 16)], [⟨24, 8, .rw, 0, (.oneOf [0, 1, 2, 3, 16, 17, 18, 19, 20, 21, 22, 23, 24, 25, 26, 27, 32, 33, 34, 35, 36, 37, 38, 39, 64])⟩, ⟨22, 2, .rw, 0, .any⟩, ⟨20, 2, .rw, 0, (.range 0 2)⟩], true⟩,
  -- CAPc_STATUS
  ⟨0x04404, [(0x20, 16)], [⟨8, 1, .w1c, 0, .any⟩, ⟨0, 3, .ro, 0, .any⟩], true⟩,
  -- CAPc_SEC
  ⟨0x04408, [(0x20, 16)], [⟨0, 32, .ro, 0, .any⟩], true⟩,
  -- CAPc_NS
  ⟨0x0440C, [(0x20, 16)], [⟨0, 32, .ro, 0, .any⟩], true⟩,
  -- CAPc_FRAC
  ⟨0x04410, [(0x20, 16)], [⟨0, 16, .ro, 0, .any⟩], true⟩,
  -- CAPc_POP
  ⟨0x04414, [(0x20, 16)], [⟨0, 1, .wo, 0, .any⟩], true⟩,
  -- TC_CTRL
  ⟨0x04600, [], [⟨28, 4, .rw, 0, (.range 0 12)⟩, ⟨27, 1, .rw, 0, .any⟩, ⟨26, 1, .rw, 0, .any⟩, ⟨23, 3, .rw, 0, .any⟩], true⟩,
  -- TC_STATUS
  ⟨0x04604, [], [⟨31, 1, .w1c, 0, .any⟩, ⟨30, 1, .w1c, 0, .any⟩, ⟨29, 1, .ro, 0, .any⟩], true⟩,
  -- TC_LABEL
  ⟨0x04608, [], [⟨31, 1, .ro, 0, .any⟩, ⟨24, 5, .ro, 0, .any⟩, ⟨16, 6, .ro, 0, .any⟩, ⟨8, 6, .ro, 0, .any⟩, ⟨0, 7, .ro, 0, .any⟩], true⟩,
  -- TC_COUNT
  ⟨0x0460C, [], [⟨0, 32, .ro, 0, .any⟩], true⟩,
  -- TC_USERBITS
  ⟨0x04610, [], [⟨0, 32, .rw, 0, .any⟩], true⟩,
  -- LTCIN_LABEL
  ⟨0x04614, [], [⟨31, 1, .ro, 0, .any⟩, ⟨24, 5, .ro, 0, .any⟩, ⟨16, 6, .ro, 0, .any⟩, ⟨8, 6, .ro, 0, .any⟩, ⟨0, 7, .ro, 0, .any⟩], true⟩,
  -- LTCIN_USERBITS
  ⟨0x04618, [], [⟨0, 32, .ro, 0, .any⟩], true⟩,
  -- LTCIN_OFFSET
  ⟨0x0461C, [], [⟨0, 32, .rw, 0, (.srange (-500000000) 500000000)⟩], true⟩,
  -- LTCOUT_OFFSET
  ⟨0x04620, [], [⟨0, 32, .rw, 0, (.srange (-500000000) 500000000)⟩], true⟩,
  -- TC_DISC_COUNT
  ⟨0x04624, [], [⟨0, 32, .ro, 0, .any⟩], true⟩,
  -- LTCIN_ERR_COUNT
  ⟨0x04628, [], [⟨0, 32, .ro, 0, .any⟩], true⟩,
  -- LTCIN_REVERSE_COUNT
  ⟨0x0462C, [], [⟨0, 32, .ro, 0, .any⟩], true⟩,
  -- SYNCIN_ENABLE
  ⟨0x04640, [], [⟨0, 1, .rw, 0, .any⟩], true⟩,
  -- SYNCIN_STATUS
  ⟨0x04644, [], [⟨31, 1, .ro, 0, .any⟩, ⟨28, 3, .ro, 0, .any⟩, ⟨24, 4, .ro, 0, .any⟩], true⟩,
  -- SYNCOUT_CTRL
  ⟨0x04648, [], [⟨28, 3, .rw, 0, (.range 0 4)⟩, ⟨24, 4, .rw, 0, (.range 0 12)⟩], true⟩]

/-- The registers of the TIME block (R534), part 1. -/
def regsTime1 : List RegSpec := [
  -- SYNCOUT_OFFSET
  ⟨0x0464C, [], [⟨0, 32, .rw, 0, (.srange (-500000000) 500000000)⟩], true⟩,
  -- PPSIN_EDGE
  ⟨0x04650, [], [⟨0, 1, .rw, 0, .any⟩], true⟩,
  -- PPSIN_COUNT
  ⟨0x04654, [], [⟨0, 32, .ro, 0, .any⟩], true⟩,
  -- PPSOUT_WIDTH
  ⟨0x04658, [], [⟨0, 32, .rw, 0, (.range 0 500000)⟩], true⟩,
  -- PPSOUT_OFFSET
  ⟨0x0465C, [], [⟨0, 32, .rw, 0, (.srange (-500000000) 500000000)⟩], true⟩,
  -- REF10M_PPB
  ⟨0x04660, [], [⟨0, 32, .ro, 0, .any⟩], true⟩,
  -- REF10M_LOSS_COUNT
  ⟨0x04664, [], [⟨0, 32, .ro, 0, .any⟩], true⟩,
  -- TIME_EVT_ENABLE
  ⟨0x046F0, [], [⟨22, 1, .rw, 0, .any⟩, ⟨21, 1, .rw, 0, .any⟩, ⟨20, 1, .rw, 0, .any⟩, ⟨19, 1, .rw, 0, .any⟩, ⟨18, 1, .rw, 0, .any⟩, ⟨17, 1, .rw, 0, .any⟩, ⟨16, 1, .rw, 0, .any⟩, ⟨12, 4, .rw, 0, .any⟩, ⟨8, 4, .rw, 0, .any⟩, ⟨4, 4, .rw, 0, .any⟩, ⟨0, 4, .rw, 0, .any⟩], true⟩,
  -- TIME_EVT_STATUS
  ⟨0x046F4, [], [⟨22, 1, .w1c, 0, .any⟩, ⟨21, 1, .w1c, 0, .any⟩, ⟨20, 1, .w1c, 0, .any⟩, ⟨19, 1, .w1c, 0, .any⟩, ⟨18, 1, .w1c, 0, .any⟩, ⟨17, 1, .w1c, 0, .any⟩, ⟨16, 1, .w1c, 0, .any⟩, ⟨12, 4, .w1c, 0, .any⟩, ⟨8, 4, .w1c, 0, .any⟩, ⟨4, 4, .w1c, 0, .any⟩, ⟨0, 4, .w1c, 0, .any⟩], true⟩,
  -- PTP_CTRL
  ⟨0x04700, [], [⟨30, 2, .rw, 0, (.range 0 1)⟩, ⟨28, 2, .rw, 0, (.range 0 2)⟩, ⟨20, 8, .rw, 0, (.range 0 127)⟩], true⟩,
  -- PTP_PRIORITY1
  ⟨0x04704, [], [⟨0, 8, .rw, 128, .any⟩], true⟩,
  -- PTP_PRIORITY2
  ⟨0x04708, [], [⟨0, 8, .rw, 128, .any⟩], true⟩,
  -- PTP_QUALITY
  ⟨0x0470C, [], [⟨24, 8, .rw, 248, .any⟩, ⟨16, 8, .rw, 254, .any⟩, ⟨0, 16, .rw, 0x0FFFF, .any⟩], true⟩,
  -- PTP_HOLDOVER_CLASS
  ⟨0x04710, [], [⟨0, 8, .rw, 7, .any⟩], true⟩,
  -- PTP_IDENTITY_HI
  ⟨0x04714, [], [⟨0, 32, .rw, 0, .any⟩], true⟩,
  -- PTP_IDENTITY_LO
  ⟨0x04718, [], [⟨0, 32, .rw, 0, .any⟩], true⟩,
  -- PTP_UTC_OFFSET
  ⟨0x0471C, [], [⟨0, 16, .rw, 0, .any⟩], true⟩,
  -- PTP_UTC_FLAGS
  ⟨0x04720, [], [⟨24, 8, .rw, 160, .any⟩, ⟨4, 1, .rw, 0, .any⟩, ⟨3, 1, .rw, 0, .any⟩, ⟨2, 1, .rw, 0, .any⟩, ⟨1, 1, .rw, 0, .any⟩, ⟨0, 1, .rw, 0, .any⟩], true⟩,
  -- PTP_PARENT_HI
  ⟨0x04724, [], [⟨0, 32, .ro, 0, .any⟩], true⟩,
  -- PTP_PARENT_LO
  ⟨0x04728, [], [⟨0, 32, .ro, 0, .any⟩], true⟩,
  -- PTP_GM_HI
  ⟨0x0472C, [], [⟨0, 32, .ro, 0, .any⟩], true⟩,
  -- PTP_GM_LO
  ⟨0x04730, [], [⟨0, 32, .ro, 0, .any⟩], true⟩,
  -- PTP_STEPS_REMOVED
  ⟨0x04734, [], [⟨0, 16, .ro, 0, .any⟩], true⟩,
  -- PTP_SMk
  ⟨0x04738, [(0x4, 6)], [⟨0, 32, .rw, 0, .any⟩], true⟩,
  -- PTPp_CTRL
  ⟨0x04800, [(0x200, 2)], [⟨6, 1, .rw, 0, .any⟩, ⟨5, 1, .rw, 0, .any⟩, ⟨3, 2, .rw, 0, (.range 0 2)⟩, ⟨1, 2, .rw, 0, .any⟩, ⟨0, 1, .rw, 0, .any⟩], true⟩,
  -- PTPp_INTERVALS
  ⟨0x04804, [(0x200, 2)], [⟨24, 8, .rw, 3, (.range 2 10)⟩, ⟨16, 8, .rw, 0, (.srange (-7) 0)⟩, ⟨8, 8, .rw, 1, (.srange (-3) 1)⟩, ⟨0, 8, .rw, 0, (.srange (-7) 0)⟩], true⟩,
  -- PTPp_STATE
  ⟨0x04808, [(0x200, 2)], [⟨0, 4, .ro, 0, .any⟩], true⟩,
  -- PTPp_VLAN_TCI
  ⟨0x0480C, [(0x200, 2)], [⟨0, 16, .rw, 0, .any⟩], true⟩,
  -- PTPp_IPV4
  ⟨0x04810, [(0x200, 2)], [⟨0, 32, .rw, 0, .any⟩], true⟩,
  -- PTPp_IPV6k
  ⟨0x04814, [(0x200, 2), (0x4, 4)], [⟨0, 32, .rw, 0, .any⟩], true⟩,
  -- PTPp_MEAN_DELAY
  ⟨0x04824, [(0x200, 2)], [⟨0, 32, .ro, 0, .any⟩], true⟩,
  -- PTPp_OFFSET
  ⟨0x04828, [(0x200, 2)], [⟨0, 32, .ro, 0, .any⟩], true⟩,
  -- PTPp_ASYM
  ⟨0x0482C, [(0x200, 2)], [⟨0, 32, .rw, 0, .any⟩], true⟩,
  -- PTPp_COUNTk
  ⟨0x04830, [(0x200, 2), (0x4, 16)], [⟨0, 32, .ro, 0, .any⟩], true⟩,
  -- PTPp_FMm_ID_HI
  ⟨0x04900, [(0x200, 2), (0x20, 8)], [⟨0, 32, .ro, 0, .any⟩], true⟩,
  -- PTPp_FMm_ID_LO
  ⟨0x04904, [(0x200, 2), (0x20, 8)], [⟨0, 32, .ro, 0, .any⟩], true⟩,
  -- PTPp_FMm_PORT
  ⟨0x04908, [(0x200, 2), (0x20, 8)], [⟨0, 16, .ro, 0, .any⟩], true⟩,
  -- PTPp_FMm_PRIORITY1
  ⟨0x0490C, [(0x200, 2), (0x20, 8)], [⟨0, 8, .ro, 0, .any⟩], true⟩,
  -- PTPp_FMm_PRIORITY2
  ⟨0x04910, [(0x200, 2), (0x20, 8)], [⟨0, 8, .ro, 0, .any⟩], true⟩,
  -- PTPp_FMm_QUALITY
  ⟨0x04914, [(0x200, 2), (0x20, 8)], [⟨0, 32, .ro, 0, .any⟩], true⟩]

/-- The registers of the TIME block (R534), part 2. -/
def regsTime2 : List RegSpec := [
  -- PTPp_FMm_STEPS
  ⟨0x04918, [(0x200, 2), (0x20, 8)], [⟨0, 16, .ro, 0, .any⟩], true⟩,
  -- PTPp_FMm_LAST_NSC32
  ⟨0x0491C, [(0x200, 2), (0x20, 8)], [⟨0, 32, .ro, 0, .any⟩], true⟩,
  -- TEAM_TIME_CTRL
  ⟨0x04C00, [], [⟨31, 1, .rw, 0, .any⟩, ⟨24, 5, .rw, 31, (.oneOf [0, 1, 2, 3, 4, 5, 6, 7, 8, 9, 10, 11, 12, 13, 14, 15, 31])⟩, ⟨0, 16, .rw, 0, .any⟩], true⟩,
  -- TEAM_TIME_STATUS
  ⟨0x04C04, [], [⟨31, 1, .ro, 0, .any⟩, ⟨24, 4, .ro, 0, .any⟩, ⟨0, 16, .ro, 0, .any⟩], true⟩,
  -- TEAM_NODE_ID
  ⟨0x04C08, [], [⟨0, 16, .rw, 0, .any⟩], true⟩,
  -- TEAM_SYNC_INTERVAL
  ⟨0x04C0C, [], [⟨0, 32, .rw, 1000, (.range 125 125000)⟩], true⟩,
  -- TTLk_ASYM
  ⟨0x04C40, [(0x10, 16)], [⟨0, 32, .rw, 0, .any⟩], true⟩,
  -- TTLk_DELAY
  ⟨0x04C44, [(0x10, 16)], [⟨0, 32, .ro, 0, .any⟩], true⟩,
  -- TTLk_DISCARD
  ⟨0x04C48, [(0x10, 16)], [⟨0, 32, .ro, 0, .any⟩], true⟩]

/-- The registers of the TIME block (R534). -/
def regsTime : List RegSpec := regsTime0 ++ regsTime1 ++ regsTime2

/-- The registers of the SCHED block (R534). -/
def regsSched : List RegSpec := [
  -- Mm_TRIGGER
  ⟨0x06000, [(0x10, 256)], [⟨28, 4, .rw, 0, (.range 0 4)⟩, ⟨24, 4, .rw, 0, .any⟩, ⟨20, 4, .rw, 0, .any⟩, ⟨0, 16, .rw, 0, .any⟩], false⟩,
  -- Mm_WHEN
  ⟨0x06004, [(0x10, 256)], [⟨0, 32, .rw, 0, .any⟩], false⟩,
  -- Mm_ACTION
  ⟨0x06008, [(0x10, 256)], [⟨28, 4, .rw, 0, (.range 0 9)⟩, ⟨22, 6, .rw, 0, .any⟩, ⟨0, 16, .rw, 0, .any⟩], false⟩,
  -- Mm_CTRL
  ⟨0x0600C, [(0x10, 256)], [⟨31, 1, .rw, 0, .any⟩, ⟨30, 1, .rw, 0, .any⟩, ⟨29, 1, .rw, 0, .any⟩, ⟨23, 1, .ro, 0, .any⟩, ⟨22, 1, .ro, 0, .any⟩, ⟨21, 1, .ro, 0, .any⟩, ⟨20, 1, .ro, 0, .any⟩, ⟨0, 16, .ro, 0, .any⟩], false⟩,
  -- SCHED_CTRL
  ⟨0x07000, [], [⟨3, 1, .rw, 0, .any⟩, ⟨2, 1, .rw, 1, .any⟩, ⟨1, 1, .rw, 1, .any⟩, ⟨0, 1, .rw, 0, .any⟩], false⟩,
  -- SCHED_STATUS
  ⟨0x07004, [], [⟨0, 9, .ro, 0, .any⟩], false⟩,
  -- SCHED_LATE_COUNT
  ⟨0x07008, [], [⟨0, 32, .ro, 0, .any⟩], false⟩,
  -- SCHED_DROP_COUNT
  ⟨0x0700C, [], [⟨0, 32, .ro, 0, .any⟩], false⟩,
  -- SCHED_FAIL_COUNT
  ⟨0x07010, [], [⟨0, 32, .ro, 0, .any⟩], false⟩,
  -- SCHED_MISS_COUNT
  ⟨0x07014, [], [⟨0, 32, .ro, 0, .any⟩], false⟩,
  -- SCHED_LAST
  ⟨0x07018, [], [⟨24, 8, .ro, 0, .any⟩, ⟨0, 8, .ro, 0, .any⟩], false⟩,
  -- SCHED_DISARM_ALL
  ⟨0x0701C, [], [⟨0, 1, .wo, 0, .any⟩], false⟩,
  -- SCHED_ARMEDk
  ⟨0x07020, [(0x4, 8)], [⟨0, 32, .ro, 0, .any⟩], false⟩]

/-- The registers of the INPUT block (R534). -/
def regsInput : List RegSpec := [
  -- INn_CTRL
  ⟨0x08000, [(0x100, 4)], [⟨31, 1, .rw, 0, .any⟩, ⟨24, 4, .rw, 1, (.range 1 3)⟩, ⟨20, 3, .rw, 2, (.range 2 4)⟩], false⟩,
  -- INn_SIZE
  ⟨0x08004, [(0x100, 4)], [⟨16, 16, .rw, 64, (.range 64 8192)⟩, ⟨0, 16, .rw, 64, (.range 64 8192)⟩], false⟩,
  -- INn_FB_BASE
  ⟨0x08008, [(0x100, 4)], [⟨0, 32, .rw, 0, (.range 0 31195135)⟩], false⟩,
  -- INn_FRAME_TIMEOUT
  ⟨0x0800C, [(0x100, 4)], [⟨0, 32, .rw, 0x186A0, (.range 1000 2000000)⟩], false⟩,
  -- INn_TPG_CTRL
  ⟨0x08010, [(0x100, 4)], [⟨31, 1, .rw, 0, .any⟩, ⟨28, 3, .rw, 0, (.range 0 3)⟩, ⟨24, 4, .rw, 0, (.range 0 12)⟩, ⟨0, 14, .rw, 65, (.range 0 8192)⟩], false⟩,
  -- INn_TPG_COLOUR
  ⟨0x08014, [(0x100, 4)], [⟨20, 10, .rw, 0, .any⟩, ⟨10, 10, .rw, 0, .any⟩, ⟨0, 10, .rw, 0, .any⟩], false⟩,
  -- INn_STATUS
  ⟨0x08018, [(0x100, 4)], [⟨29, 3, .ro, 0, .any⟩, ⟨24, 5, .ro, 31, .any⟩, ⟨23, 1, .w1c, 0, .any⟩, ⟨22, 1, .w1c, 0, .any⟩, ⟨0, 16, .ro, 0, .any⟩], false⟩,
  -- INn_POS
  ⟨0x0801C, [(0x100, 4)], [⟨16, 16, .ro, 0, .any⟩, ⟨0, 16, .ro, 0x0FFFF, .any⟩], false⟩,
  -- INn_LAST_ERR
  ⟨0x08020, [(0x100, 4)], [⟨28, 4, .ro, 0, .any⟩, ⟨16, 12, .ro, 0, .any⟩, ⟨0, 13, .ro, 0, .any⟩], false⟩,
  -- INn_LINE_PERIOD
  ⟨0x08024, [(0x100, 4)], [⟨0, 32, .ro, 0, .any⟩], false⟩,
  -- INn_FRAME_BYTES
  ⟨0x08028, [(0x100, 4)], [⟨0, 32, .ro, 0, .any⟩], false⟩,
  -- INn_EXPOSURE_NS
  ⟨0x0802C, [(0x100, 4)], [⟨0, 32, .ro, 0, .any⟩], false⟩,
  -- INn_CRC_ERR_COUNT
  ⟨0x08030, [(0x100, 4)], [⟨0, 32, .ro, 0, .any⟩], false⟩,
  -- INn_LEN_ERR_COUNT
  ⟨0x08034, [(0x100, 4)], [⟨0, 32, .ro, 0, .any⟩], false⟩,
  -- INn_SEQ_ERR_COUNT
  ⟨0x08038, [(0x100, 4)], [⟨0, 32, .ro, 0, .any⟩], false⟩,
  -- INn_FORMAT_ERR_COUNT
  ⟨0x0803C, [(0x100, 4)], [⟨0, 32, .ro, 0, .any⟩], false⟩,
  -- INn_MARK_ERR_COUNT
  ⟨0x08040, [(0x100, 4)], [⟨0, 32, .ro, 0, .any⟩], false⟩,
  -- INn_OVERRUN_COUNT
  ⟨0x08044, [(0x100, 4)], [⟨0, 32, .ro, 0, .any⟩], false⟩,
  -- INn_CONCEAL_COUNT
  ⟨0x08048, [(0x100, 4)], [⟨0, 32, .ro, 0, .any⟩], false⟩,
  -- INn_FB_DROP_COUNT
  ⟨0x0804C, [(0x100, 4)], [⟨0, 32, .ro, 0, .any⟩], false⟩,
  -- INn_TIMEOUT_COUNT
  ⟨0x08050, [(0x100, 4)], [⟨0, 32, .ro, 0, .any⟩], false⟩,
  -- INn_FRAME_COUNT
  ⟨0x08054, [(0x100, 4)], [⟨0, 32, .ro, 0, .any⟩], false⟩,
  -- LLh_CTRL
  ⟨0x08400, [(0x20, 8)], [⟨31, 1, .rws, 0, .any⟩, ⟨28, 2, .rws, 0, .any⟩, ⟨26, 2, .ro, 0, .any⟩, ⟨0, 11, .rws, 4, (.range 4 1024)⟩], false⟩,
  -- LLh_ANCHOR_NS
  ⟨0x08404, [(0x20, 8)], [⟨0, 32, .ro, 0, .any⟩], false⟩,
  -- LLh_PIPE_NS
  ⟨0x08408, [(0x20, 8)], [⟨0, 32, .ro, 0, .any⟩], false⟩,
  -- LLh_MARGIN_NS
  ⟨0x0840C, [(0x20, 8)], [⟨0, 32, .ro, 0, .any⟩], false⟩,
  -- LLh_UNDERRUN_COUNT
  ⟨0x08410, [(0x20, 8)], [⟨0, 32, .ro, 0, .any⟩], false⟩,
  -- OVh_p_BASE
  ⟨0x08800, [(0x40, 8), (0x10, 4)], [⟨0, 32, .rws, 0, (.range 0 31195135)⟩], false⟩,
  -- OVh_p_CTRL
  ⟨0x08804, [(0x40, 8), (0x10, 4)], [⟨31, 1, .rws, 0, .any⟩, ⟨24, 4, .rws, 1, (.range 1 2)⟩, ⟨16, 8, .rws, 255, .any⟩, ⟨0, 10, .rws, 1, (.range 1 1023)⟩], false⟩,
  -- OVh_p_SIZE
  ⟨0x08808, [(0x40, 8), (0x10, 4)], [⟨16, 16, .rws, 1, (.range 1 8192)⟩, ⟨0, 16, .rws, 1, (.range 1 4352)⟩], false⟩,
  -- OVh_p_POS
  ⟨0x0880C, [(0x40, 8), (0x10, 4)], [⟨16, 16, .rws, 0, (.range 0 8191)⟩, ⟨0, 16, .rws, 0, (.range 0 4351)⟩], false⟩]

/-- The registers of the FABRIC block (R534), part 0. -/
def regsFabric0 : List RegSpec := [
  -- FAB_STATUS
  ⟨0x10000, [], [⟨31, 1, .ro, 0, .any⟩, ⟨24, 5, .ro, 0, .any⟩, ⟨16, 5, .ro, 0, .any⟩, ⟨8, 3, .ro, 0, .any⟩, ⟨0, 5, .ro, 0, .any⟩], false⟩,
  -- FAB_SUB_LAST
  ⟨0x10004, [], [⟨31, 1, .ro, 0, .any⟩, ⟨29, 2, .ro, 0, .any⟩, ⟨24, 5, .ro, 0, .any⟩, ⟨16, 5, .ro, 0, .any⟩, ⟨0, 16, .ro, 0, .any⟩], false⟩,
  -- FAB_SUB_COUNT
  ⟨0x10008, [], [⟨0, 32, .ro, 0, .any⟩], false⟩,
  -- SEk_STATUS
  ⟨0x10100, [(0x10, 28)], [⟨28, 4, .ro, 0, .any⟩, ⟨27, 1, .ro, 0, .any⟩, ⟨20, 4, .ro, 0, .any⟩, ⟨18, 2, .ro, 0, .any⟩, ⟨16, 2, .ro, 0, .any⟩, ⟨0, 4, .ro, 15, .any⟩], false⟩,
  -- SEk_STRIPE
  ⟨0x10104, [(0x10, 28)], [⟨16, 16, .ro, 0, .any⟩, ⟨0, 16, .ro, 0, .any⟩], false⟩,
  -- SEk_PIXELS
  ⟨0x10108, [(0x10, 28)], [⟨0, 32, .ro, 0, .any⟩], false⟩,
  -- SEk_ERR_COUNT
  ⟨0x1010C, [(0x10, 28)], [⟨0, 32, .ro, 0, .any⟩], false⟩,
  -- STh_BYPASS
  ⟨0x11000, [(0x100, 8)], [⟨0, 16, .rws, 0, .any⟩], false⟩,
  -- STh_STATUS
  ⟨0x11004, [(0x100, 8)], [⟨31, 1, .w1c, 0, .any⟩, ⟨30, 1, .w1c, 0, .any⟩, ⟨29, 1, .w1c, 0, .any⟩, ⟨28, 1, .w1c, 0, .any⟩, ⟨27, 1, .w1c, 0, .any⟩, ⟨0, 5, .ro, 0, .any⟩], false⟩,
  -- STh_UNPACK
  ⟨0x11008, [(0x100, 8)], [⟨8, 1, .rws, 0, .any⟩, ⟨0, 4, .rws, 1, (.range 1 3)⟩], false⟩,
  -- STh_CSC_Ci
  ⟨0x1100C, [(0x100, 8)], [⟨0, 16, .rws, 4096, .any⟩], false⟩,
  -- STh_CSC_Ci
  ⟨0x11010, [(0x100, 8)], [⟨0, 16, .rws, 0, .any⟩], false⟩,
  -- STh_CSC_Ci
  ⟨0x11014, [(0x100, 8)], [⟨0, 16, .rws, 0, .any⟩], false⟩,
  -- STh_CSC_Ci
  ⟨0x11018, [(0x100, 8)], [⟨0, 16, .rws, 0, .any⟩], false⟩,
  -- STh_CSC_Ci
  ⟨0x1101C, [(0x100, 8)], [⟨0, 16, .rws, 4096, .any⟩], false⟩,
  -- STh_CSC_Ci
  ⟨0x11020, [(0x100, 8)], [⟨0, 16, .rws, 0, .any⟩], false⟩,
  -- STh_CSC_Ci
  ⟨0x11024, [(0x100, 8)], [⟨0, 16, .rws, 0, .any⟩], false⟩,
  -- STh_CSC_Ci
  ⟨0x11028, [(0x100, 8)], [⟨0, 16, .rws, 0, .any⟩], false⟩,
  -- STh_CSC_Ci
  ⟨0x1102C, [(0x100, 8)], [⟨0, 16, .rws, 4096, .any⟩], false⟩,
  -- STh_CSC_Ci
  ⟨0x11030, [(0x100, 8)], [⟨0, 18, .rws, 0, .any⟩], false⟩,
  -- STh_CSC_Ci
  ⟨0x11034, [(0x100, 8)], [⟨0, 18, .rws, 0, .any⟩], false⟩,
  -- STh_CSC_Ci
  ⟨0x11038, [(0x100, 8)], [⟨0, 18, .rws, 0, .any⟩], false⟩,
  -- STh_LUT1D_CTRL
  ⟨0x11040, [(0x100, 8)], [⟨0, 1, .rws, 0, .any⟩], false⟩,
  -- STh_LUT3D_CTRL
  ⟨0x11044, [(0x100, 8)], [⟨0, 1, .rws, 0, .any⟩], false⟩,
  -- STh_SCALE_CTRL
  ⟨0x11048, [(0x100, 8)], [⟨1, 1, .rws, 0, .any⟩, ⟨0, 1, .rws, 0, .any⟩], false⟩,
  -- STh_SCALE_IN_POS
  ⟨0x1104C, [(0x100, 8)], [⟨16, 16, .rws, 0, (.range 0 8191)⟩, ⟨0, 16, .rws, 0, (.range 0 8191)⟩], false⟩,
  -- STh_SCALE_IN_SIZE
  ⟨0x11050, [(0x100, 8)], [⟨16, 16, .rws, 64, (.range 8 8192)⟩, ⟨0, 16, .rws, 64, (.range 8 8192)⟩], false⟩,
  -- STh_SCALE_OUT_POS
  ⟨0x11054, [(0x100, 8)], [⟨16, 16, .rws, 0, (.range 0 8191)⟩, ⟨0, 16, .rws, 0, (.range 0 4351)⟩], false⟩,
  -- STh_SCALE_OUT_SIZE
  ⟨0x11058, [(0x100, 8)], [⟨16, 16, .rws, 64, (.range 8 8192)⟩, ⟨0, 16, .rws, 64, (.range 8 4352)⟩], false⟩,
  -- STh_SCALE_BORDER
  ⟨0x1105C, [(0x100, 8)], [⟨20, 10, .rws, 0, .any⟩, ⟨10, 10, .rws, 0, .any⟩, ⟨0, 10, .rws, 0, .any⟩], false⟩,
  -- STh_SCALE_HRATIO
  ⟨0x11060, [(0x100, 8)], [⟨0, 18, .ro, 0x10000, .any⟩], false⟩,
  -- STh_SCALE_VRATIO
  ⟨0x11064, [(0x100, 8)], [⟨0, 18, .ro, 0x10000, .any⟩], false⟩,
  -- STh_COMPOSE_CTRL
  ⟨0x11068, [(0x100, 8)], [⟨0, 1, .rws, 0, .any⟩], false⟩,
  -- STh_TILESIG_CTRL
  ⟨0x1106C, [(0x100, 8)], [⟨0, 1, .rws, 1, .any⟩], false⟩,
  -- STh_TILESIG_CHANGED
  ⟨0x11070, [(0x100, 8)], [⟨0, 21, .ro, 0, .any⟩], false⟩,
  -- STh_FORMAT_CTRL
  ⟨0x11074, [(0x100, 8)], [⟨8, 1, .rws, 0, .any⟩, ⟨4, 2, .rws, 0, (.range 0 1)⟩, ⟨0, 4, .rws, 8, .any⟩], false⟩,
  -- STh_FORMAT_SEG
  ⟨0x11078, [(0x100, 8)], [⟨16, 5, .ro, 0, .any⟩, ⟨0, 16, .ro, 0, .any⟩], false⟩,
  -- STh_ASa_CTRL
  ⟨0x11080, [(0x100, 8), (0x20, 2)], [⟨12, 1, .rws, 0, .any⟩, ⟨4, 1, .rws, 0, .any⟩, ⟨3, 1, .rws, 0, .any⟩, ⟨2, 1, .rws, 0, .any⟩, ⟨1, 1, .rws, 0, .any⟩, ⟨0, 1, .rws, 0, .any⟩], false⟩,
  -- STh_ASa_WIN_POS
  ⟨0x11084, [(0x100, 8), (0x20, 2)], [⟨16, 16, .rws, 0, (.range 0 8191)⟩, ⟨0, 16, .rws, 0, (.range 0 8191)⟩], false⟩,
  -- STh_ASa_WIN_SIZE
  ⟨0x11088, [(0x100, 8), (0x20, 2)], [⟨16, 16, .rws, 0, (.range 0 8192)⟩, ⟨0, 16, .rws, 0, (.range 0 8192)⟩], false⟩]

/-- The registers of the FABRIC block (R534), part 1. -/
def regsFabric1 : List RegSpec := [
  -- STh_ASa_HIST_STATUS
  ⟨0x1108C, [(0x100, 8), (0x20, 2)], [⟨31, 1, .ro, 0, .any⟩, ⟨30, 1, .ro, 0, .any⟩, ⟨0, 16, .ro, 0, .any⟩], false⟩,
  -- STh_ASa_PEAK
  ⟨0x11090, [(0x100, 8), (0x20, 2)], [⟨0, 16, .rws, 4096, .any⟩], false⟩,
  -- STh_ASa_PEAK_COLOUR
  ⟨0x11094, [(0x100, 8), (0x20, 2)], [⟨20, 10, .rws, 1023, .any⟩, ⟨10, 10, .rws, 0, .any⟩, ⟨0, 10, .rws, 0, .any⟩], false⟩,
  -- STh_ASa_ZEBRA
  ⟨0x11098, [(0x100, 8), (0x20, 2)], [⟨16, 16, .rws, 0x0EB00, .any⟩, ⟨0, 16, .rws, 0x0FFFF, .any⟩], false⟩,
  -- STh_ASa_ZEBRA_COLOUR
  ⟨0x1109C, [(0x100, 8), (0x20, 2)], [⟨20, 10, .rws, 0, .any⟩, ⟨10, 10, .rws, 0, .any⟩, ⟨0, 10, .rws, 0, .any⟩], false⟩,
  -- STh_UNIF_CTRL
  ⟨0x14000, [(0x100, 8)], [⟨1, 1, .rws, 0, .any⟩, ⟨0, 1, .rws, 0, .any⟩], false⟩,
  -- STh_UNIF_MAP0
  ⟨0x14004, [(0x100, 8)], [⟨0, 32, .rws, 0, (.range 0 31195135)⟩], false⟩,
  -- STh_UNIF_MAP1
  ⟨0x14008, [(0x100, 8)], [⟨0, 32, .rws, 0, (.range 0 31195135)⟩], false⟩,
  -- STh_UNIF_STATUS
  ⟨0x1400C, [(0x100, 8)], [⟨31, 1, .w1c, 0, .any⟩, ⟨30, 1, .w1c, 0, .any⟩], false⟩,
  -- STh_UNIF_ERR_COUNT
  ⟨0x14010, [(0x100, 8)], [⟨0, 32, .ro, 0, .any⟩], false⟩,
  -- STh_UNIF_READ_BYTES
  ⟨0x14014, [(0x100, 8)], [⟨0, 32, .ro, 0, .any⟩], false⟩,
  -- STh_OD_CTRL
  ⟨0x14020, [(0x100, 8)], [⟨0, 4, .rws, 0, (.range 0 8)⟩], false⟩,
  -- STh_OD_ANCHOR_BASE
  ⟨0x14024, [(0x100, 8)], [⟨0, 32, .rws, 0, (.range 0 31195135)⟩], false⟩,
  -- STh_OD_HIST_BASE
  ⟨0x14028, [(0x100, 8)], [⟨0, 32, .rws, 0, (.range 0 31195135)⟩], false⟩,
  -- STh_OD_STATUS
  ⟨0x1402C, [(0x100, 8)], [⟨31, 1, .ro, 0, .any⟩, ⟨28, 3, .ro, 0, .any⟩, ⟨27, 1, .ro, 0, .any⟩, ⟨26, 1, .ro, 0, .any⟩, ⟨23, 3, .ro, 0, .any⟩, ⟨22, 1, .w1c, 0, .any⟩, ⟨21, 1, .ro, 0, .any⟩, ⟨20, 1, .ro, 0, .any⟩, ⟨16, 4, .ro, 0, .any⟩, ⟨0, 8, .ro, 0, .any⟩], false⟩,
  -- STh_OD_TRUNC_COUNT
  ⟨0x14030, [(0x100, 8)], [⟨0, 32, .ro, 0, .any⟩], false⟩,
  -- STh_OD_UNCOVERED_COUNT
  ⟨0x14034, [(0x100, 8)], [⟨0, 32, .ro, 0, .any⟩], false⟩,
  -- STh_OD_STALE_COUNT
  ⟨0x14038, [(0x100, 8)], [⟨0, 32, .ro, 0, .any⟩], false⟩,
  -- STh_OD_BUILD_US
  ⟨0x1403C, [(0x100, 8)], [⟨0, 32, .ro, 0, .any⟩], false⟩,
  -- STh_OD_HIST_BYTES
  ⟨0x14040, [(0x100, 8)], [⟨0, 32, .ro, 0, .any⟩], false⟩,
  -- STh_DITHER_CTRL
  ⟨0x14048, [(0x100, 8)], [⟨8, 8, .rws, 4, (.range 1 255)⟩, ⟨6, 1, .rws, 0, .any⟩, ⟨5, 1, .rws, 0, .any⟩, ⟨4, 1, .rws, 1, .any⟩, ⟨0, 4, .rws, 8, (.oneOf [6, 8, 10])⟩], false⟩,
  -- STh_DITHER_STATUS
  ⟨0x1404C, [(0x100, 8)], [⟨8, 8, .ro, 0, .any⟩, ⟨2, 1, .ro, 0, .any⟩, ⟨0, 2, .ro, 0, .any⟩], false⟩,
  -- STh_HT_CTRL
  ⟨0x14050, [(0x100, 8)], [⟨4, 1, .rws, 0, .any⟩, ⟨0, 3, .rws, 2, (.range 1 5)⟩], false⟩,
  -- STh_HT_ORIGIN
  ⟨0x14054, [(0x100, 8)], [⟨16, 6, .rws, 0, .any⟩, ⟨0, 6, .rws, 0, .any⟩], false⟩,
  -- BANDh_CTRL
  ⟨0x14060, [(0x100, 8)], [⟨15, 1, .rws, 0, .any⟩, ⟨12, 3, .rws, 0, .any⟩, ⟨8, 3, .rws, 0, .any⟩, ⟨0, 8, .rws, 32, .any⟩], false⟩,
  -- BANDh_EDGEk
  ⟨0x14064, [(0x100, 8)], [⟨16, 16, .rws, 0x0FEC0, .any⟩, ⟨0, 16, .rws, 0x0FD80, .any⟩], false⟩,
  -- BANDh_EDGEk
  ⟨0x14068, [(0x100, 8)], [⟨16, 16, .rws, 240, .any⟩, ⟨0, 16, .rws, 0, .any⟩], false⟩,
  -- BANDh_EDGEk
  ⟨0x1406C, [(0x100, 8)], [⟨16, 16, .rws, 800, .any⟩, ⟨0, 16, .rws, 480, .any⟩], false⟩,
  -- BANDh_EDGEk
  ⟨0x14070, [(0x100, 8)], [⟨16, 16, .rws, 1440, .any⟩, ⟨0, 16, .rws, 1120, .any⟩], false⟩,
  -- BANDh_STATUS
  ⟨0x14074, [(0x100, 8)], [⟨12, 4, .ro, 0, .any⟩, ⟨9, 1, .ro, 0, .any⟩, ⟨8, 1, .ro, 0, .any⟩, ⟨4, 3, .ro, 0, .any⟩, ⟨0, 3, .ro, 0, .any⟩], false⟩,
  -- BANDh_TEMP
  ⟨0x14078, [(0x100, 8)], [⟨31, 1, .ro, 0, .any⟩, ⟨0, 16, .ro, 0, .any⟩], false⟩,
  -- BANDh_CHANGE_COUNT
  ⟨0x1407C, [(0x100, 8)], [⟨0, 32, .ro, 0, .any⟩], false⟩,
  -- FAB_CORR_BUILD
  ⟨0x17000, [], [⟨31, 1, .ro, 0, .any⟩, ⟨28, 3, .ro, 0, .any⟩, ⟨24, 3, .ro, 0, .any⟩, ⟨0, 8, .ro, 0, .any⟩], false⟩]

/-- The registers of the FABRIC block (R534). -/
def regsFabric : List RegSpec := regsFabric0 ++ regsFabric1

/-- The registers of the HEADS block (R534), part 0. -/
def regsHeads0 : List RegSpec := [
  -- HDn_CTRL
  ⟨0x20000, [(0x2000, 8)], [⟨0, 1, .rw, 0, .any⟩], false⟩,
  -- HDn_RESET
  ⟨0x20004, [(0x2000, 8)], [⟨0, 1, .wo, 0, .any⟩], false⟩,
  -- HDn_STATUS
  ⟨0x20008, [(0x2000, 8)], [⟨28, 4, .ro, 0, .any⟩, ⟨25, 3, .ro, 0, .any⟩, ⟨24, 1, .ro, 0, .any⟩, ⟨23, 1, .ro, 0, .any⟩, ⟨22, 1, .ro, 0, .any⟩], false⟩,
  -- HDn_COMMIT
  ⟨0x2000C, [(0x2000, 8)], [⟨0, 1, .wo, 0, .any⟩], false⟩,
  -- HDn_COMMIT_ACK
  ⟨0x20010, [(0x2000, 8)], [⟨31, 1, .ro, 0, .any⟩, ⟨30, 1, .ro, 0, .any⟩, ⟨24, 4, .ro, 0, .any⟩, ⟨0, 16, .ro, 0, .any⟩], false⟩,
  -- HDn_SHADOW_STATE
  ⟨0x20014, [(0x2000, 8)], [⟨0, 1, .ro, 0, .any⟩], false⟩,
  -- HDn_SEAL_REJECT_COUNT
  ⟨0x20018, [(0x2000, 8)], [⟨0, 32, .ro, 0, .any⟩], false⟩,
  -- HDn_POSITION
  ⟨0x2001C, [(0x2000, 8)], [⟨16, 16, .ro, 0, .any⟩, ⟨0, 14, .ro, 0, .any⟩], false⟩,
  -- HDn_COUNTk
  ⟨0x20020, [(0x2000, 8), (0x4, 6)], [⟨0, 32, .ro, 0, .any⟩], false⟩,
  -- HDn_GAIT_HTOTAL
  ⟨0x20040, [(0x2000, 8)], [⟨0, 15, .rws, 96, .any⟩], false⟩,
  -- HDn_GAIT_HACTIVE
  ⟨0x20044, [(0x2000, 8)], [⟨0, 14, .rws, 64, .any⟩], false⟩,
  -- HDn_GAIT_VTOTAL
  ⟨0x20048, [(0x2000, 8)], [⟨16, 14, .rws, 0, .any⟩, ⟨0, 14, .rws, 1100, .any⟩], false⟩,
  -- HDn_GAIT_VACTIVE
  ⟨0x2004C, [(0x2000, 8)], [⟨0, 13, .rws, 64, .any⟩], false⟩,
  -- HDn_GAIT_CLOCK
  ⟨0x20050, [(0x2000, 8)], [⟨24, 2, .rws, 0, (.range 0 2)⟩, ⟨0, 21, .rws, 0x100000, (.range 65536 1048576)⟩], false⟩,
  -- HDn_GAIT_HPLL_KHZ
  ⟨0x20054, [(0x2000, 8)], [⟨0, 21, .rws, 0x61A80, .any⟩], false⟩,
  -- HDn_GAIT_LINK
  ⟨0x20058, [(0x2000, 8)], [⟨8, 5, .rws, 0, .any⟩, ⟨0, 4, .rws, 0, .any⟩], false⟩,
  -- HDn_GAIT_MODE
  ⟨0x2005C, [(0x2000, 8)], [⟨12, 4, .rws, 1, (.range 1 8)⟩, ⟨8, 3, .rws, 1, (.range 0 4)⟩, ⟨0, 1, .rws, 0, .any⟩], false⟩,
  -- HDn_GAIT_IDLE
  ⟨0x20060, [(0x2000, 8)], [⟨31, 1, .rws, 0, .any⟩, ⟨16, 8, .rws, 16, (.range 1 255)⟩, ⟨0, 14, .rws, 8192, .any⟩], false⟩,
  -- HDn_FLOCK_CTRL
  ⟨0x20064, [(0x2000, 8)], [⟨31, 1, .rws, 0, .any⟩, ⟨24, 2, .rws, 0, .any⟩, ⟨20, 4, .rws, 0, (.range 0 12)⟩], false⟩,
  -- HDn_FLOCK_OFFSET
  ⟨0x20068, [(0x2000, 8)], [⟨0, 32, .rws, 0, (.srange (-500000000) 500000000)⟩], false⟩,
  -- HDn_FLOCK_ERROR
  ⟨0x2006C, [(0x2000, 8)], [⟨0, 32, .ro, 0, .any⟩], false⟩,
  -- HDn_STALL_CTRL
  ⟨0x20070, [(0x2000, 8)], [⟨31, 1, .rw, 0, .any⟩, ⟨8, 4, .rw, 0, .any⟩, ⟨0, 5, .rw, 1, (.range 1 16)⟩], false⟩,
  -- HDn_STALL_STATUS
  ⟨0x20074, [(0x2000, 8)], [⟨31, 1, .ro, 0, .any⟩, ⟨30, 1, .ro, 0, .any⟩, ⟨16, 14, .ro, 0, .any⟩, ⟨0, 16, .ro, 0, .any⟩], false⟩,
  -- HDn_APPLIED_H
  ⟨0x20078, [(0x2000, 8)], [⟨16, 16, .ro, 96, .any⟩, ⟨0, 16, .ro, 64, .any⟩], false⟩,
  -- HDn_APPLIED_V
  ⟨0x2007C, [(0x2000, 8)], [⟨16, 16, .ro, 1100, .any⟩, ⟨0, 16, .ro, 64, .any⟩], false⟩,
  -- HDn_APPLIED_RATE
  ⟨0x20080, [(0x2000, 8)], [⟨0, 32, .ro, 0, .any⟩], false⟩,
  -- HDn_QBUF_SIZE
  ⟨0x20090, [(0x2000, 8)], [⟨16, 16, .rws, 64, (.range 8 8192)⟩, ⟨0, 16, .rws, 64, (.range 8 8192)⟩], false⟩,
  -- HDn_QBUF_STRIDE
  ⟨0x20094, [(0x2000, 8)], [⟨0, 11, .rws, 1, (.range 1 2047)⟩], false⟩,
  -- HDn_Q_BASE
  ⟨0x20098, [(0x2000, 8)], [⟨0, 32, .rw, 0, .any⟩], false⟩,
  -- HDn_Q_TIME
  ⟨0x2009C, [(0x2000, 8)], [⟨0, 32, .rw, 0, .any⟩], false⟩,
  -- HDn_Q_PUSH
  ⟨0x200A0, [(0x2000, 8)], [⟨19, 2, .wo, 0, .any⟩, ⟨18, 1, .wo, 0, .any⟩, ⟨17, 1, .wo, 0, .any⟩, ⟨0, 16, .wo, 0, .any⟩], false⟩,
  -- HDn_Q_STATUS
  ⟨0x200A4, [(0x2000, 8)], [⟨16, 16, .ro, 0, .any⟩, ⟨15, 1, .ro, 0, .any⟩, ⟨0, 5, .ro, 0, .any⟩], false⟩,
  -- HDn_Q_FLUSH
  ⟨0x200A8, [(0x2000, 8)], [⟨0, 1, .wo, 0, .any⟩], false⟩,
  -- HDn_REC_FRAME
  ⟨0x200C0, [(0x2000, 8)], [⟨31, 1, .ro, 0, .any⟩, ⟨0, 16, .ro, 0, .any⟩], false⟩,
  -- HDn_REC_TIME
  ⟨0x200C4, [(0x2000, 8)], [⟨0, 32, .ro, 0, .any⟩], false⟩,
  -- HDn_REC_FLAGS
  ⟨0x200C8, [(0x2000, 8)], [⟨19, 13, .ro, 0, .any⟩, ⟨8, 1, .ro, 0, .any⟩, ⟨7, 1, .ro, 0, .any⟩, ⟨6, 1, .ro, 0, .any⟩, ⟨5, 1, .ro, 0, .any⟩, ⟨4, 1, .ro, 0, .any⟩, ⟨3, 1, .ro, 0, .any⟩, ⟨2, 1, .ro, 0, .any⟩, ⟨1, 1, .ro, 0, .any⟩, ⟨0, 1, .ro, 0, .any⟩], false⟩,
  -- HDn_REC_TAG
  ⟨0x200CC, [(0x2000, 8)], [⟨0, 16, .ro, 0, .any⟩], false⟩,
  -- HDn_REC_POP
  ⟨0x200D0, [(0x2000, 8)], [⟨0, 1, .wo, 0, .any⟩], false⟩,
  -- HDn_REC_STATUS
  ⟨0x200D4, [(0x2000, 8)], [⟨16, 16, .ro, 0, .any⟩, ⟨0, 5, .ro, 0, .any⟩], false⟩,
  -- HDn_LINK_STATUS
  ⟨0x200E0, [(0x2000, 8)], [⟨0, 16, .ro, 0, .any⟩], false⟩]

/-- The registers of the HEADS block (R534), part 1. -/
def regsHeads1 : List RegSpec := [
  -- HDn_EDGEk_POS
  ⟨0x20100, [(0x2000, 8), (0x10, 32)], [⟨16, 15, .rws, 0, .any⟩, ⟨0, 15, .rws, 0, .any⟩], false⟩,
  -- HDn_EDGEk_LINES
  ⟨0x20104, [(0x2000, 8), (0x10, 32)], [⟨16, 13, .rws, 0, .any⟩, ⟨0, 13, .rws, 0, .any⟩], false⟩,
  -- HDn_EDGEk_MODE
  ⟨0x20108, [(0x2000, 8), (0x10, 32)], [⟨0, 3, .rws, 0, (.range 0 5)⟩], false⟩,
  -- HDn_CMD_CTRL
  ⟨0x20300, [(0x2000, 8)], [⟨28, 4, .rw, 0, .any⟩, ⟨24, 2, .rw, 1, (.range 1 2)⟩, ⟨16, 8, .rw, 0, (.oneOf [0, 1, 2, 3, 4, 5, 6, 7, 8, 9, 10, 11, 12, 13, 14, 15, 16, 17, 18, 19, 20, 21, 22, 23, 24, 25, 26, 27, 28, 29, 30, 31, 255])⟩, ⟨0, 8, .rw, 0, .any⟩], false⟩,
  -- HDn_CMD_DATA
  ⟨0x20304, [(0x2000, 8)], [⟨0, 32, .rw, 0, .any⟩], false⟩,
  -- HDn_CMD_GO
  ⟨0x20308, [(0x2000, 8)], [⟨0, 1, .wo, 0, .any⟩], false⟩,
  -- HDn_CMD_STATUS
  ⟨0x2030C, [(0x2000, 8)], [⟨28, 4, .ro, 0, .any⟩, ⟨24, 4, .ro, 0, .any⟩, ⟨20, 4, .ro, 0, .any⟩], false⟩,
  -- HDn_CMD_RDATA
  ⟨0x20310, [(0x2000, 8)], [⟨0, 32, .ro, 0, .any⟩], false⟩,
  -- HDn_MIP_CTRL
  ⟨0x21000, [(0x2000, 8)], [⟨31, 1, .rws, 0, .any⟩, ⟨30, 1, .rws, 0, .any⟩, ⟨29, 1, .rws, 0, .any⟩, ⟨0, 11, .rws, 960, .any⟩], false⟩,
  -- HDn_MIP_PANEL
  ⟨0x21004, [(0x2000, 8)], [⟨18, 14, .rws, 64, (.range 8 8192)⟩, ⟨5, 13, .rws, 64, (.range 8 4352)⟩, ⟨3, 2, .rws, 1, .any⟩, ⟨1, 2, .rws, 0, .any⟩, ⟨0, 1, .rws, 0, .any⟩], false⟩,
  -- HDn_MIP_PIC_BASE
  ⟨0x21008, [(0x2000, 8)], [⟨0, 32, .rws, 0, .any⟩], false⟩,
  -- HDn_MIP_PIC_STRIDE
  ⟨0x2100C, [(0x2000, 8)], [⟨0, 11, .rws, 1, (.range 1 2047)⟩], false⟩,
  -- HDn_MIP_TARGET_BASE
  ⟨0x21010, [(0x2000, 8)], [⟨0, 32, .rws, 0, .any⟩], false⟩,
  -- HDn_MIP_WSEL
  ⟨0x21014, [(0x2000, 8)], [⟨24, 5, .rws, 0, .any⟩, ⟨16, 5, .rws, 0, .any⟩, ⟨8, 5, .rws, 0, .any⟩, ⟨0, 5, .rws, 0, .any⟩], false⟩,
  -- HDn_MIP_CHECK
  ⟨0x21018, [(0x2000, 8)], [⟨31, 1, .rws, 0, .any⟩, ⟨16, 8, .rws, 8, (.range 1 255)⟩], false⟩,
  -- HDn_MIP_STATUS
  ⟨0x2101C, [(0x2000, 8)], [⟨31, 1, .ro, 0, .any⟩, ⟨30, 1, .ro, 0, .any⟩, ⟨29, 1, .w1c, 0, .any⟩, ⟨28, 1, .w1c, 0, .any⟩, ⟨27, 1, .ro, 0, .any⟩], false⟩,
  -- HDn_MIP_LAST_PASS
  ⟨0x21020, [(0x2000, 8)], [⟨0, 16, .ro, 0, .any⟩], false⟩,
  -- HDn_MIP_PASS_US
  ⟨0x21024, [(0x2000, 8)], [⟨0, 32, .ro, 0, .any⟩], false⟩,
  -- HDn_MIP_ACTIVE
  ⟨0x21028, [(0x2000, 8)], [⟨0, 21, .ro, 0, .any⟩], false⟩,
  -- HDn_MIP_DIRTY
  ⟨0x2102C, [(0x2000, 8)], [⟨0, 21, .ro, 0, .any⟩], false⟩,
  -- HDn_MIP_PENDING
  ⟨0x21030, [(0x2000, 8)], [⟨0, 21, .ro, 0, .any⟩], false⟩,
  -- HDn_MIP_REFRESH_POS
  ⟨0x21034, [(0x2000, 8)], [⟨16, 16, .rw, 0, .any⟩, ⟨0, 16, .rw, 0, .any⟩], false⟩,
  -- HDn_MIP_REFRESH_SIZE
  ⟨0x21038, [(0x2000, 8)], [⟨16, 16, .rw, 0, .any⟩, ⟨0, 16, .rw, 0, .any⟩], false⟩,
  -- HDn_MIP_REFRESH_GO
  ⟨0x2103C, [(0x2000, 8)], [⟨0, 1, .wo, 0, .any⟩], false⟩,
  -- HDn_MIP_RB_STATUS
  ⟨0x21040, [(0x2000, 8)], [⟨31, 1, .ro, 0, .any⟩, ⟨30, 1, .ro, 0, .any⟩, ⟨29, 1, .ro, 0, .any⟩, ⟨0, 13, .ro, 0, .any⟩], false⟩,
  -- HDn_MIP_RB_LAST
  ⟨0x21044, [(0x2000, 8)], [⟨31, 1, .ro, 0, .any⟩, ⟨0, 21, .ro, 0, .any⟩], false⟩,
  -- HDn_DAMAGE_TL
  ⟨0x21048, [(0x2000, 8)], [⟨31, 1, .ro, 0, .any⟩, ⟨16, 11, .ro, 0, .any⟩, ⟨0, 10, .ro, 0, .any⟩], false⟩,
  -- HDn_DAMAGE_BR
  ⟨0x2104C, [(0x2000, 8)], [⟨31, 1, .ro, 0, .any⟩, ⟨16, 11, .ro, 0, .any⟩, ⟨0, 10, .ro, 0, .any⟩], false⟩,
  -- HDn_MIP_PUSH_LOAD
  ⟨0x21050, [(0x2000, 8)], [⟨0, 24, .ro, 0, .any⟩], false⟩,
  -- HDn_MIP_PUSH_CAP
  ⟨0x21054, [(0x2000, 8)], [⟨0, 24, .ro, 0, .any⟩], false⟩,
  -- HDn_MIP_COUNTk
  ⟨0x21080, [(0x2000, 8), (0x4, 16)], [⟨0, 32, .ro, 0, .any⟩], false⟩,
  -- HDn_MIP_BANDb_COUNT
  ⟨0x210C0, [(0x2000, 8), (0x4, 8)], [⟨0, 32, .ro, 0, .any⟩], false⟩,
  -- HDn_MIP_WFINFOw
  ⟨0x21100, [(0x2000, 8), (0x4, 32)], [⟨31, 1, .ro, 0, .any⟩, ⟨24, 6, .ro, 0, .any⟩, ⟨15, 9, .ro, 0, .any⟩, ⟨8, 5, .ro, 0, .any⟩, ⟨0, 3, .ro, 0, .any⟩], false⟩]

/-- The registers of the HEADS block (R534). -/
def regsHeads : List RegSpec := regsHeads0 ++ regsHeads1

/-- The registers of the MIP block (R534). -/
def regsMip : List RegSpec := [
  -- COMc_CTRL
  ⟨0x30000, [], [⟨31, 1, .rw, 0, .any⟩, ⟨30, 1, .rw, 0, .any⟩, ⟨24, 3, .rw, 0, .any⟩], false⟩,
  -- COMc_CTRL
  ⟨0x30020, [], [⟨31, 1, .rw, 0, .any⟩, ⟨30, 1, .rw, 1, .any⟩, ⟨24, 3, .rw, 0, .any⟩], false⟩,
  -- COMc_CTRL
  ⟨0x30040, [], [⟨31, 1, .rw, 0, .any⟩, ⟨30, 1, .rw, 0, .any⟩, ⟨24, 3, .rw, 0, .any⟩], false⟩,
  -- COMc_CTRL
  ⟨0x30060, [], [⟨31, 1, .rw, 0, .any⟩, ⟨30, 1, .rw, 1, .any⟩, ⟨24, 3, .rw, 0, .any⟩], false⟩,
  -- COMc_ROWS
  ⟨0x30004, [(0x20, 4)], [⟨16, 16, .rw, 0, .any⟩, ⟨0, 16, .rw, 0, .any⟩], false⟩,
  -- COMc_STATUS
  ⟨0x30008, [(0x20, 4)], [⟨31, 1, .ro, 0, .any⟩, ⟨30, 1, .ro, 0, .any⟩, ⟨29, 1, .ro, 0, .any⟩, ⟨28, 1, .w1c, 0, .any⟩], false⟩,
  -- COMc_BALANCE
  ⟨0x3000C, [(0x20, 4)], [⟨0, 32, .ro, 0, .any⟩], false⟩,
  -- COMc_OPEN_MS
  ⟨0x30010, [(0x20, 4)], [⟨0, 32, .ro, 0, .any⟩], false⟩,
  -- COMc_MAX_OPEN_MS
  ⟨0x30014, [(0x20, 4)], [⟨0, 32, .ro, 0, .any⟩], false⟩,
  -- COMc_DELAY_COUNT
  ⟨0x30018, [(0x20, 4)], [⟨0, 32, .ro, 0, .any⟩], false⟩,
  -- COMc_PHASE_COUNT
  ⟨0x3001C, [(0x20, 4)], [⟨0, 32, .ro, 0, .any⟩], false⟩,
  -- MIP_WT_SRC_LO
  ⟨0x30100, [], [⟨0, 32, .rw, 0, .any⟩], false⟩,
  -- MIP_WT_SRC_HI
  ⟨0x30104, [], [⟨0, 8, .rw, 0, .any⟩], false⟩,
  -- MIP_WT_LOAD
  ⟨0x30108, [], [⟨31, 1, .wo, 0, .any⟩, ⟨8, 1, .wo, 0, .any⟩, ⟨0, 3, .wo, 0, .any⟩], false⟩,
  -- MIP_WT_STATUS
  ⟨0x3010C, [], [⟨30, 2, .ro, 0, .any⟩, ⟨16, 12, .ro, 0, .any⟩, ⟨0, 16, .ro, 0, .any⟩], false⟩,
  -- MIP_WT_ERR
  ⟨0x30110, [], [⟨28, 4, .ro, 0, .any⟩, ⟨24, 3, .ro, 0, .any⟩, ⟨16, 5, .ro, 0, .any⟩, ⟨8, 5, .ro, 0, .any⟩, ⟨3, 1, .ro, 0, .any⟩, ⟨0, 3, .ro, 0, .any⟩], false⟩,
  -- MIP_EVT_ENABLE
  ⟨0x30140, [], [⟨16, 4, .rw, 0, .any⟩, ⟨8, 8, .rw, 0, .any⟩, ⟨4, 4, .rw, 0, .any⟩, ⟨3, 1, .rw, 0, .any⟩, ⟨2, 1, .rw, 0, .any⟩, ⟨1, 1, .rw, 0, .any⟩, ⟨0, 1, .rw, 0, .any⟩], false⟩,
  -- MIP_EVT_STATUS
  ⟨0x30144, [], [⟨16, 4, .w1c, 0, .any⟩, ⟨8, 8, .w1c, 0, .any⟩, ⟨4, 4, .w1c, 0, .any⟩, ⟨3, 1, .w1c, 0, .any⟩, ⟨2, 1, .w1c, 0, .any⟩, ⟨1, 1, .w1c, 0, .any⟩, ⟨0, 1, .w1c, 0, .any⟩], false⟩,
  -- MIP_GIRTH_MAP
  ⟨0x30148, [], [⟨7, 1, .rw, 0, .any⟩, ⟨0, 3, .rw, 0, .any⟩, ⟨15, 1, .rw, 0, .any⟩, ⟨8, 3, .rw, 0, .any⟩, ⟨23, 1, .rw, 0, .any⟩, ⟨16, 3, .rw, 0, .any⟩, ⟨31, 1, .rw, 0, .any⟩, ⟨24, 3, .rw, 0, .any⟩], false⟩,
  -- MIP_LEDGER_DROP_COUNT
  ⟨0x3014C, [], [⟨0, 32, .ro, 0, .any⟩], false⟩,
  -- MIP_HALT_CTRL
  ⟨0x30200, [], [⟨31, 1, .rw, 0, .any⟩, ⟨28, 3, .rw, 0, .any⟩, ⟨25, 3, .rw, 0, .any⟩, ⟨22, 3, .rw, 7, .any⟩, ⟨13, 9, .rw, 256, (.range 1 256)⟩, ⟨6, 7, .rw, 64, (.range 1 64)⟩], true⟩,
  -- MIP_HALT_POS
  ⟨0x30204, [], [⟨16, 16, .rw, 0, .any⟩, ⟨0, 16, .rw, 0, .any⟩], true⟩,
  -- MIP_HALT_PORT
  ⟨0x30208, [], [⟨30, 2, .rw, 2, .any⟩, ⟨29, 1, .rw, 1, .any⟩], true⟩,
  -- MIP_HALT_BATTERY
  ⟨0x3020C, [], [⟨16, 16, .rw, 0, .any⟩, ⟨0, 16, .rw, 0, .any⟩], true⟩,
  -- MIP_HALT_BMP_ADDR
  ⟨0x30210, [], [⟨0, 11, .rw, 0, .mult4⟩], true⟩,
  -- MIP_HALT_BMP_DATA
  ⟨0x30214, [], [⟨0, 32, .rw, 0, .any⟩], true⟩,
  -- MIP_HALT_STATUS
  ⟨0x30218, [], [⟨31, 1, .ro, 0, .any⟩, ⟨30, 1, .ro, 0, .any⟩, ⟨16, 8, .ro, 0, .any⟩, ⟨0, 16, .ro, 0, .any⟩], true⟩,
  -- MIP_GLYPHg_k
  ⟨0x30300, [(0x10, 8), (0x4, 4)], [⟨0, 32, .rw, 0, .any⟩], true⟩,
  -- FLDf_CTRL
  ⟨0x30400, [(0x20, 16)], [⟨31, 1, .rw, 0, .any⟩, ⟨28, 3, .rw, 0, (.range 0 2)⟩, ⟨25, 3, .rw, 0, .any⟩, ⟨22, 3, .rw, 7, .any⟩, ⟨21, 1, .rw, 0, .any⟩], true⟩,
  -- FLDf_POS
  ⟨0x30404, [(0x20, 16)], [⟨16, 16, .rw, 0, (.range 0 255)⟩, ⟨0, 16, .rw, 0, (.range 0 63)⟩], true⟩,
  -- FLDf_TEXTk
  ⟨0x30408, [(0x20, 16), (0x4, 3)], [⟨0, 32, .rw, 0, .any⟩], true⟩]

/-- The registers of the HARNESS block (R534), part 0. -/
def regsHarness0 : List RegSpec := [
  -- HAR_STATUS
  ⟨0x38000, [], [⟨31, 1, .ro, 0, .any⟩, ⟨30, 1, .ro, 0, .any⟩, ⟨29, 1, .ro, 0, .any⟩, ⟨28, 1, .ro, 0, .any⟩, ⟨0, 8, .ro, 0, .any⟩], false⟩,
  -- HAR_EVT_ENABLE
  ⟨0x38004, [], [⟨12, 8, .rw, 0, .any⟩, ⟨8, 4, .rw, 0, .any⟩, ⟨7, 1, .rw, 0, .any⟩, ⟨6, 1, .rw, 0, .any⟩, ⟨5, 1, .rw, 0, .any⟩, ⟨4, 1, .rw, 0, .any⟩, ⟨3, 1, .rw, 0, .any⟩, ⟨2, 1, .rw, 0, .any⟩, ⟨1, 1, .rw, 0, .any⟩], false⟩,
  -- HAR_EVT_STATUS
  ⟨0x38008, [], [⟨12, 8, .w1c, 0, .any⟩, ⟨8, 4, .w1c, 0, .any⟩, ⟨7, 1, .w1c, 0, .any⟩, ⟨6, 1, .w1c, 0, .any⟩, ⟨5, 1, .w1c, 0, .any⟩, ⟨4, 1, .w1c, 0, .any⟩, ⟨3, 1, .w1c, 0, .any⟩, ⟨2, 1, .w1c, 0, .any⟩, ⟨1, 1, .w1c, 0, .any⟩], false⟩,
  -- HAR_LINK_ERR_COUNT
  ⟨0x3800C, [], [⟨0, 32, .ro, 0, .any⟩], false⟩,
  -- HAR_TEMP
  ⟨0x38010, [], [⟨0, 16, .ro, 0, .any⟩], false⟩,
  -- HAR_VBIAS_MV
  ⟨0x38014, [], [⟨0, 16, .ro, 0, .any⟩], false⟩,
  -- HAR_AVDDG_MV
  ⟨0x38018, [], [⟨0, 16, .ro, 0, .any⟩], false⟩,
  -- HAR_THERM_CTRL
  ⟨0x3801C, [], [⟨0, 8, .rw, 255, .any⟩], false⟩,
  -- HAR_PUMP_CTRL
  ⟨0x38020, [], [⟨16, 14, .rw, 0x02AF8, .any⟩, ⟨0, 14, .rw, 5500, .any⟩], false⟩,
  -- HAR_PUMP_STATUS
  ⟨0x38024, [], [⟨31, 1, .ro, 0, .any⟩, ⟨30, 1, .ro, 0, .any⟩, ⟨29, 1, .w1c, 0, .any⟩], false⟩,
  -- HAR_PUMP_VPOS_MV
  ⟨0x38028, [], [⟨0, 16, .ro, 0, .any⟩], false⟩,
  -- HAR_PUMP_VNEG_MV
  ⟨0x3802C, [], [⟨0, 16, .ro, 0, .any⟩], false⟩,
  -- HAR_HOLD_STATUS
  ⟨0x38040, [], [⟨31, 1, .ro, 0, .any⟩, ⟨30, 1, .ro, 0, .any⟩, ⟨29, 1, .ro, 0, .any⟩], false⟩,
  -- HAR_HOLD_MV
  ⟨0x38044, [], [⟨0, 16, .ro, 0, .any⟩], false⟩,
  -- HAR_DISCH_GO
  ⟨0x38060, [], [⟨0, 8, .wo, 0, .any⟩], false⟩,
  -- HAR_DISCH_STATUS
  ⟨0x38064, [], [⟨31, 1, .ro, 0, .any⟩, ⟨16, 8, .ro, 0, .any⟩, ⟨0, 16, .ro, 0, .any⟩], false⟩,
  -- HAR_DISCH_LAST
  ⟨0x38068, [], [⟨28, 4, .ro, 0, .any⟩, ⟨16, 8, .ro, 0, .any⟩, ⟨0, 16, .ro, 0, .any⟩], true⟩,
  -- HAR_DISCH_COUNT
  ⟨0x3806C, [], [⟨0, 32, .ro, 0, .any⟩], true⟩,
  -- HAR_PCTL_DISCHk
  ⟨0x38070, [(0x4, 2)], [⟨0, 32, .rw, 0, .any⟩], false⟩,
  -- HAR_GMA_FS_MV
  ⟨0x38080, [], [⟨0, 16, .rw, 0x02EE0, .any⟩], false⟩,
  -- HAR_VCOMR_CTRL
  ⟨0x38084, [], [⟨31, 1, .rw, 0, .any⟩, ⟨24, 3, .rw, 0, .any⟩], false⟩,
  -- HAR_VCOMR_CODE
  ⟨0x38088, [], [⟨0, 10, .rw, 0, .any⟩], false⟩,
  -- HAR_VCOMR_MV
  ⟨0x3808C, [], [⟨0, 16, .ro, 0, .any⟩], false⟩,
  -- HAR_VCOMR_IOUT
  ⟨0x38090, [], [⟨0, 32, .ro, 0, .any⟩], false⟩,
  -- HAR_CRACK_COUNT
  ⟨0x38094, [], [⟨0, 32, .ro, 0, .any⟩], false⟩,
  -- BIASc_VA_MV
  ⟨0x38100, [(0x80, 4)], [⟨0, 16, .rw, 0, .any⟩], false⟩,
  -- BIASc_VB_MV
  ⟨0x38104, [(0x80, 4)], [⟨0, 16, .rw, 0, .any⟩], false⟩,
  -- BIASc_VAK_MV
  ⟨0x38108, [(0x80, 4)], [⟨0, 16, .rw, 0, .any⟩], false⟩,
  -- BIASc_VBK_MV
  ⟨0x3810C, [(0x80, 4)], [⟨0, 16, .rw, 0, .any⟩], false⟩,
  -- BIASc_VCOMH_MV
  ⟨0x38110, [(0x80, 4)], [⟨0, 16, .rw, 0, .any⟩], false⟩,
  -- BIASc_VCOML_MV
  ⟨0x38114, [(0x80, 4)], [⟨0, 16, .rw, 0, .any⟩], false⟩,
  -- BIASc_STATUS
  ⟨0x38118, [(0x80, 4)], [⟨31, 1, .ro, 0, .any⟩, ⟨30, 1, .w1c, 0, .any⟩, ⟨0, 6, .ro, 0, .any⟩], false⟩,
  -- BIASc_ICOM_UA
  ⟨0x3811C, [(0x80, 4)], [⟨0, 32, .ro, 0, .any⟩], false⟩,
  -- BIASc_SETk
  ⟨0x38120, [(0x80, 4), (0x4, 6)], [⟨31, 1, .ro, 0, .any⟩, ⟨30, 1, .ro, 0, .any⟩, ⟨16, 8, .ro, 0, .any⟩, ⟨8, 4, .ro, 0, .any⟩, ⟨0, 8, .ro, 0, .any⟩], false⟩,
  -- BIASc_MEASk
  ⟨0x38140, [(0x80, 4), (0x4, 6)], [⟨0, 16, .ro, 0, .any⟩], false⟩,
  -- GMAk_CTRL
  ⟨0x38400, [(0x10, 18)], [⟨31, 1, .rw, 0, .any⟩, ⟨24, 3, .rw, 0, .any⟩, ⟨0, 10, .rw, 0, .any⟩], false⟩,
  -- GMAk_SET
  ⟨0x38404, [(0x10, 18)], [⟨31, 1, .ro, 0, .any⟩, ⟨30, 1, .ro, 0, .any⟩, ⟨16, 8, .ro, 0, .any⟩, ⟨0, 10, .ro, 0, .any⟩], false⟩,
  -- GMAk_MV
  ⟨0x38408, [(0x10, 18)], [⟨0, 16, .ro, 0, .any⟩], false⟩,
  -- PANELh_CTRL
  ⟨0x38600, [(0x8, 8)], [⟨0, 1, .rw, 0, .any⟩], false⟩,
  -- PANELh_STATUS
  ⟨0x38604, [(0x8, 8)], [⟨29, 3, .ro, 0, .any⟩, ⟨24, 4, .ro, 0, .any⟩], false⟩]

/-- The registers of the HARNESS block (R534), part 1. -/
def regsHarness1 : List RegSpec := [
  -- GIRTHg_CTRL
  ⟨0x38700, [(0x10, 4)], [⟨31, 1, .wo, 0, .any⟩, ⟨8, 8, .rw, 50, (.range 1 255)⟩, ⟨0, 4, .rw, 2, (.range 1 15)⟩], false⟩,
  -- GIRTHg_STATUS
  ⟨0x38704, [(0x10, 4)], [⟨31, 1, .w1c, 0, .any⟩, ⟨30, 1, .ro, 0, .any⟩, ⟨29, 1, .w1c, 0, .any⟩, ⟨28, 1, .ro, 0, .any⟩, ⟨0, 2, .ro, 0, .any⟩], false⟩,
  -- GIRTHg_MOHM
  ⟨0x38708, [(0x10, 4)], [⟨0, 24, .ro, 0, .any⟩], false⟩,
  -- GIRTHg_BASELINE
  ⟨0x3870C, [(0x10, 4)], [⟨0, 24, .ro, 0, .any⟩], false⟩,
  -- THERMt_NOMINAL
  ⟨0x38800, [(0x10, 8)], [⟨31, 1, .rw, 0, .any⟩, ⟨0, 20, .rw, 0x02710, (.range 100 1000000)⟩], false⟩,
  -- THERMt_BETA
  ⟨0x38804, [(0x10, 8)], [⟨0, 16, .rw, 3435, (.range 1000 10000)⟩], false⟩,
  -- THERMt_CODE
  ⟨0x38808, [(0x10, 8)], [⟨0, 12, .ro, 0, .any⟩], false⟩,
  -- THERMt_TEMP
  ⟨0x3880C, [(0x10, 8)], [⟨31, 1, .ro, 0, .any⟩, ⟨30, 1, .ro, 0, .any⟩, ⟨29, 1, .ro, 0, .any⟩, ⟨0, 16, .ro, 0, .any⟩], false⟩]

/-- The registers of the HARNESS block (R534). -/
def regsHarness : List RegSpec := regsHarness0 ++ regsHarness1

/-- The registers of the LANES block (R534). -/
def regsLanes : List RegSpec := [
  -- LNn_CTRL
  ⟨0x40000, [(0x400, 36)], [⟨8, 2, .rw, 0, .any⟩, ⟨1, 1, .rw, 0, .any⟩, ⟨0, 1, .rw, 0, .any⟩], false⟩,
  -- LNn_STATUS
  ⟨0x40004, [(0x400, 36)], [⟨29, 3, .ro, 0, .any⟩, ⟨28, 1, .ro, 0, .any⟩, ⟨27, 1, .ro, 0, .any⟩, ⟨26, 1, .ro, 0, .any⟩, ⟨24, 2, .ro, 0, .any⟩, ⟨20, 4, .ro, 15, .any⟩, ⟨16, 4, .ro, 0, .any⟩, ⟨7, 1, .w1c, 0, .any⟩, ⟨6, 1, .w1c, 0, .any⟩], false⟩,
  -- LNn_LUNGE_TIMEOUT
  ⟨0x40008, [(0x400, 36)], [⟨0, 10, .rw, 20, (.range 1 1000)⟩], false⟩,
  -- LNn_TX_CTRL
  ⟨0x4000C, [(0x400, 36)], [⟨24, 6, .rw, 40, .any⟩, ⟨8, 5, .rw, 0, (.range 0 24)⟩, ⟨0, 4, .rw, 0, (.range 0 12)⟩], false⟩,
  -- LNn_TX_STATUS
  ⟨0x40010, [(0x400, 36)], [⟨29, 3, .ro, 0, .any⟩, ⟨20, 4, .ro, 0, .any⟩, ⟨0, 16, .ro, 0, .any⟩], false⟩,
  -- LNn_POWER
  ⟨0x40014, [(0x400, 36)], [⟨30, 2, .ro, 3, .any⟩, ⟨0, 16, .ro, 0, .any⟩], false⟩,
  -- LNn_EQ_CTRL
  ⟨0x40018, [(0x400, 36)], [⟨31, 1, .rw, 1, .any⟩, ⟨30, 1, .rw, 1, .any⟩, ⟨29, 1, .rw, 1, .any⟩, ⟨8, 8, .rw, 40, .any⟩, ⟨0, 6, .rw, 16, .any⟩], false⟩,
  -- LNn_EQ_STATUS
  ⟨0x4001C, [(0x400, 36)], [⟨31, 1, .ro, 0, .any⟩, ⟨30, 1, .ro, 0, .any⟩, ⟨29, 1, .w1c, 0, .any⟩, ⟨8, 5, .ro, 0, .any⟩, ⟨0, 5, .ro, 0, .any⟩], false⟩,
  -- LNn_DFE
  ⟨0x40020, [(0x400, 36)], [⟨0, 30, .ro, 0, .any⟩], false⟩,
  -- LNn_SNAP_DFE
  ⟨0x40024, [(0x400, 36)], [⟨0, 30, .ro, 0, .any⟩], false⟩,
  -- LNn_EYE_MARGIN
  ⟨0x40028, [(0x400, 36)], [⟨16, 8, .ro, 0, .any⟩, ⟨0, 7, .ro, 0, .any⟩], false⟩,
  -- LNn_EYE_CTRL
  ⟨0x4002C, [(0x400, 36)], [⟨31, 1, .wo, 0, .any⟩, ⟨16, 6, .rw, 32, .any⟩, ⟨8, 6, .rw, 32, .any⟩, ⟨0, 4, .rw, 0, .any⟩], false⟩,
  -- LNn_EYE_RESULT
  ⟨0x40030, [(0x400, 36)], [⟨31, 1, .ro, 0, .any⟩, ⟨30, 1, .ro, 0, .any⟩, ⟨0, 24, .ro, 0, .any⟩], false⟩,
  -- LNn_ALIGN_RX
  ⟨0x40034, [(0x400, 36)], [⟨16, 16, .ro, 0, .any⟩, ⟨12, 4, .ro, 0, .any⟩, ⟨8, 4, .ro, 0, .any⟩, ⟨7, 1, .ro, 0, .any⟩, ⟨6, 1, .ro, 0, .any⟩, ⟨5, 1, .ro, 0, .any⟩], false⟩,
  -- LNn_SKEW
  ⟨0x40038, [(0x400, 36)], [⟨0, 7, .ro, 0, .any⟩], false⟩,
  -- LNn_PPM
  ⟨0x4003C, [(0x400, 36)], [⟨0, 16, .ro, 0, .any⟩], false⟩,
  -- LNn_TEST_CTRL
  ⟨0x40040, [(0x400, 36)], [⟨31, 1, .rw, 0, .any⟩, ⟨30, 1, .rw, 0, .any⟩, ⟨28, 2, .rw, 0, (.range 0 2)⟩, ⟨27, 1, .wo, 0, .any⟩], false⟩,
  -- LNn_TEST_ERR
  ⟨0x40044, [(0x400, 36)], [⟨0, 32, .ro, 0, .any⟩], false⟩,
  -- LNn_TEST_BLOCKS
  ⟨0x40048, [(0x400, 36)], [⟨0, 32, .ro, 0, .any⟩], false⟩,
  -- LNn_LUNGE_US
  ⟨0x4004C, [(0x400, 36)], [⟨0, 32, .ro, 0, .any⟩], false⟩,
  -- LNn_COUNTk
  ⟨0x40080, [(0x400, 36), (0x4, 12)], [⟨0, 32, .ro, 0, .any⟩], false⟩]

/-- The registers of the LINKS block (R534). -/
def regsLinks : List RegSpec := [
  -- LKj_CTRL
  ⟨0x50000, [(0x40, 16)], [⟨31, 1, .wo, 0, .any⟩, ⟨30, 1, .wo, 0, .any⟩, ⟨24, 4, .rw, 0, .any⟩, ⟨23, 1, .rw, 0, .any⟩], false⟩,
  -- LKj_STATUS
  ⟨0x50004, [(0x40, 16)], [⟨29, 3, .ro, 0, .any⟩, ⟨28, 1, .ro, 0, .any⟩, ⟨27, 1, .ro, 0, .any⟩, ⟨24, 3, .ro, 0, .any⟩, ⟨20, 4, .ro, 0, .any⟩, ⟨8, 5, .ro, 0, .any⟩, ⟨0, 3, .ro, 0, .any⟩], false⟩,
  -- LKj_PARTNER0
  ⟨0x50008, [(0x40, 16)], [⟨24, 8, .ro, 0, .any⟩, ⟨16, 8, .ro, 0, .any⟩, ⟨0, 16, .ro, 0, .any⟩], false⟩,
  -- LKj_PARTNER1
  ⟨0x5000C, [(0x40, 16)], [⟨16, 16, .ro, 0, .any⟩, ⟨0, 16, .ro, 0, .any⟩], false⟩,
  -- LKj_PARTNER2
  ⟨0x50010, [(0x40, 16)], [⟨31, 1, .ro, 0, .any⟩, ⟨16, 8, .ro, 0, .any⟩, ⟨8, 8, .ro, 0, .any⟩, ⟨0, 8, .ro, 0, .any⟩], false⟩,
  -- LKj_SPARE
  ⟨0x50014, [(0x40, 16)], [⟨16, 16, .ro, 0, .any⟩, ⟨0, 16, .ro, 0, .any⟩], false⟩,
  -- LKj_COUNTk
  ⟨0x50020, [(0x40, 16), (0x4, 4)], [⟨0, 32, .ro, 0, .any⟩], false⟩]

/-- The registers of the NET block (R534). -/
def regsNet : List RegSpec := [
  -- NET_CTRL
  ⟨0x58000, [], [⟨0, 1, .rw, 1, .any⟩], false⟩,
  -- NET_STATUS
  ⟨0x58004, [], [⟨0, 1, .ro, 0, .any⟩], false⟩,
  -- Ep_CTRL
  ⟨0x58100, [(0x100, 2)], [⟨31, 1, .rw, 0, .any⟩, ⟨30, 1, .rw, 0, .any⟩, ⟨29, 1, .rw, 0, .any⟩, ⟨28, 1, .rw, 0, .any⟩], false⟩,
  -- Ep_STATUS
  ⟨0x58104, [(0x100, 2)], [⟨31, 1, .ro, 0, .any⟩, ⟨30, 1, .ro, 0, .any⟩, ⟨29, 1, .ro, 0, .any⟩, ⟨28, 1, .ro, 0, .any⟩], false⟩,
  -- Ep_MAC_HI
  ⟨0x58108, [(0x100, 2)], [⟨0, 16, .rw, 0, .any⟩], false⟩,
  -- Ep_MAC_LO
  ⟨0x5810C, [(0x100, 2)], [⟨0, 32, .rw, 0, .any⟩], false⟩,
  -- Ep_COUNTk
  ⟨0x58140, [(0x100, 2), (0x4, 16)], [⟨0, 32, .ro, 0, .any⟩], false⟩,
  -- Ep_FILTERk
  ⟨0x58180, [(0x100, 2), (0x4, 16)], [⟨31, 1, .rw, 0, .any⟩, ⟨30, 1, .rw, 0, .any⟩, ⟨24, 1, .rw, 0, .any⟩, ⟨0, 16, .rw, 0, .any⟩], false⟩,
  -- NQq_CTRL
  ⟨0x58400, [(0x20, 8)], [⟨31, 1, .rw, 0, .any⟩], false⟩,
  -- NQq_STATUS
  ⟨0x58404, [(0x20, 8)], [⟨30, 2, .ro, 0, .any⟩, ⟨29, 1, .w1c, 0, .any⟩], false⟩,
  -- NQq_BASE_LO
  ⟨0x58408, [(0x20, 8)], [⟨0, 32, .rw, 0, .any⟩], false⟩,
  -- NQq_BASE_HI
  ⟨0x5840C, [(0x20, 8)], [⟨0, 8, .rw, 0, .any⟩], false⟩,
  -- NQq_SIZE
  ⟨0x58410, [(0x20, 8)], [⟨0, 4, .rw, 4, (.range 4 12)⟩], false⟩,
  -- NQq_HEAD
  ⟨0x58414, [(0x20, 8)], [⟨0, 12, .ro, 0, .any⟩], false⟩,
  -- NQq_TAIL
  ⟨0x58418, [(0x20, 8)], [⟨0, 12, .rw, 0, .any⟩], false⟩,
  -- NQq_COUNT
  ⟨0x5841C, [(0x20, 8)], [⟨0, 32, .ro, 0, .any⟩], false⟩,
  -- TS_CTRL
  ⟨0x58800, [], [⟨31, 1, .rw, 0, .any⟩, ⟨30, 1, .rw, 0, .any⟩, ⟨29, 1, .rw, 0, .any⟩, ⟨16, 12, .rw, 100, (.range 1 1000)⟩, ⟨0, 14, .rw, 1472, (.range 512 8972)⟩], false⟩,
  -- TS_STATUS
  ⟨0x58804, [], [⟨31, 1, .ro, 0, .any⟩], false⟩,
  -- TS_UDP_PORT
  ⟨0x58808, [], [⟨0, 16, .rw, 0x04CB8, .any⟩], false⟩,
  -- TS_DEST_MAC_HI
  ⟨0x5880C, [], [⟨0, 16, .rw, 0, .any⟩], false⟩,
  -- TS_DEST_MAC_LO
  ⟨0x58810, [], [⟨0, 32, .rw, 0, .any⟩], false⟩,
  -- TS_DEST_IPV4
  ⟨0x58814, [], [⟨0, 32, .rw, 0, .any⟩], false⟩,
  -- TS_DEST_IPV6k
  ⟨0x58818, [(0x4, 4)], [⟨0, 32, .rw, 0, .any⟩], false⟩,
  -- TS_ERR_COUNTk
  ⟨0x58830, [(0x4, 4)], [⟨0, 32, .ro, 0, .any⟩], false⟩,
  -- TSh_CTRL
  ⟨0x58A00, [(0x40, 8)], [⟨31, 1, .rw, 0, .any⟩, ⟨30, 1, .rw, 0, .any⟩, ⟨24, 3, .rw, 0, .any⟩, ⟨16, 8, .rw, 60, (.range 1 255)⟩, ⟨0, 16, .rw, 0, .any⟩], false⟩,
  -- TSh_STATUS
  ⟨0x58A04, [(0x40, 8)], [⟨31, 1, .w1c, 0, .any⟩, ⟨30, 1, .ro, 0, .any⟩], false⟩,
  -- TSh_BASE
  ⟨0x58A08, [(0x40, 8)], [⟨0, 32, .rw, 0, .any⟩], false⟩,
  -- TSh_SEQ
  ⟨0x58A0C, [(0x40, 8)], [⟨0, 32, .ro, 0, .any⟩], false⟩,
  -- TSh_TX_FRAMES
  ⟨0x58A10, [(0x40, 8)], [⟨0, 32, .ro, 0, .any⟩], false⟩,
  -- TSh_TX_BYTES
  ⟨0x58A14, [(0x40, 8)], [⟨0, 32, .ro, 0, .any⟩], false⟩,
  -- TSh_RX_FRAME
  ⟨0x58A18, [(0x40, 8)], [⟨0, 16, .ro, 0, .any⟩], false⟩,
  -- TSh_RX_TILES
  ⟨0x58A1C, [(0x40, 8)], [⟨0, 32, .ro, 0, .any⟩], false⟩,
  -- TSh_RX_LOSS
  ⟨0x58A20, [(0x40, 8)], [⟨0, 32, .ro, 0, .any⟩], false⟩]

/-- The registers of the HOST block (R534), part 0. -/
def regsHost0 : List RegSpec := [
  -- HOST_CTRL
  ⟨0x60000, [], [⟨0, 16, .rw, 0x02710, (.range 100 50000)⟩], false⟩,
  -- HOST_STATUS
  ⟨0x60004, [], [⟨31, 1, .ro, 0, .any⟩, ⟨28, 3, .ro, 0, .any⟩, ⟨24, 4, .ro, 0, .any⟩, ⟨23, 1, .ro, 0, .any⟩, ⟨22, 1, .ro, 0, .any⟩, ⟨20, 2, .ro, 0, .any⟩], false⟩,
  -- HOST_BAR2_BASE
  ⟨0x60008, [], [⟨0, 12, .rw, 0, .any⟩], false⟩,
  -- SPI_CTRL
  ⟨0x6000C, [], [⟨0, 1, .rw, 1, .any⟩], false⟩,
  -- SPI_STATUS
  ⟨0x60010, [], [⟨31, 1, .w1c, 0, .any⟩, ⟨30, 1, .w1c, 0, .any⟩, ⟨0, 8, .ro, 0, .any⟩], false⟩,
  -- SPI_ERR_COUNT
  ⟨0x60014, [], [⟨0, 32, .ro, 0, .any⟩], false⟩,
  -- HOST_ERR_COUNTk
  ⟨0x60020, [(0x4, 10)], [⟨0, 32, .ro, 0, .any⟩], false⟩,
  -- HOST_SCRATCHk
  ⟨0x60060, [(0x4, 4)], [⟨0, 32, .rw, 0, .any⟩], false⟩,
  -- HOST_VECMAPk
  ⟨0x60080, [], [⟨0, 6, .rw, 0, .any⟩], false⟩,
  -- HOST_VECMAPk
  ⟨0x60084, [], [⟨0, 6, .rw, 1, .any⟩], false⟩,
  -- HOST_VECMAPk
  ⟨0x60088, [], [⟨0, 6, .rw, 2, .any⟩], false⟩,
  -- HOST_VECMAPk
  ⟨0x6008C, [], [⟨0, 6, .rw, 3, .any⟩], false⟩,
  -- HOST_VECMAPk
  ⟨0x60090, [], [⟨0, 6, .rw, 4, .any⟩], false⟩,
  -- HOST_VECMAPk
  ⟨0x60094, [], [⟨0, 6, .rw, 5, .any⟩], false⟩,
  -- HOST_VECMAPk
  ⟨0x60098, [], [⟨0, 6, .rw, 6, .any⟩], false⟩,
  -- HOST_VECMAPk
  ⟨0x6009C, [], [⟨0, 6, .rw, 7, .any⟩], false⟩,
  -- HOST_VECMAPk
  ⟨0x600A0, [], [⟨0, 6, .rw, 8, .any⟩], false⟩,
  -- HOST_VECMAPk
  ⟨0x600A4, [], [⟨0, 6, .rw, 9, .any⟩], false⟩,
  -- HOST_VECMAPk
  ⟨0x600A8, [], [⟨0, 6, .rw, 10, .any⟩], false⟩,
  -- HOST_VECMAPk
  ⟨0x600AC, [], [⟨0, 6, .rw, 11, .any⟩], false⟩,
  -- HOST_VECMAPk
  ⟨0x600B0, [], [⟨0, 6, .rw, 12, .any⟩], false⟩,
  -- HOST_VECMAPk
  ⟨0x600B4, [], [⟨0, 6, .rw, 13, .any⟩], false⟩,
  -- HOST_VECMAPk
  ⟨0x600B8, [], [⟨0, 6, .rw, 14, .any⟩], false⟩,
  -- HOST_VECMAPk
  ⟨0x600BC, [], [⟨0, 6, .rw, 15, .any⟩], false⟩,
  -- DMAc_CTRL
  ⟨0x60100, [(0x40, 8)], [⟨31, 1, .rw, 0, .any⟩, ⟨30, 1, .wo, 0, .any⟩, ⟨29, 1, .wo, 0, .any⟩, ⟨28, 1, .wo, 0, .any⟩], false⟩,
  -- DMAc_STATUS
  ⟨0x60104, [(0x40, 8)], [⟨29, 3, .ro, 0, .any⟩, ⟨24, 4, .ro, 0, .any⟩, ⟨0, 16, .ro, 0, .any⟩], false⟩,
  -- DMAc_RING_LO
  ⟨0x60108, [(0x40, 8)], [⟨0, 32, .rw, 0, .any⟩], false⟩,
  -- DMAc_RING_HI
  ⟨0x6010C, [(0x40, 8)], [⟨0, 32, .rw, 0, .any⟩], false⟩,
  -- DMAc_RING_SIZE
  ⟨0x60110, [(0x40, 8)], [⟨0, 5, .rw, 4, (.range 4 16)⟩], false⟩,
  -- DMAc_TAIL
  ⟨0x60114, [(0x40, 8)], [⟨0, 16, .rw, 0, .any⟩], false⟩,
  -- DMAc_HEAD
  ⟨0x60118, [(0x40, 8)], [⟨0, 16, .ro, 0, .any⟩], false⟩,
  -- DMAc_DONE_COUNT
  ⟨0x6011C, [(0x40, 8)], [⟨0, 32, .ro, 0, .any⟩], false⟩,
  -- DMAc_ERR_COUNT
  ⟨0x60120, [(0x40, 8)], [⟨0, 32, .ro, 0, .any⟩], false⟩,
  -- DMAc_BYTES
  ⟨0x60124, [(0x40, 8)], [⟨0, 32, .ro, 0, .any⟩], false⟩,
  -- TEAM_CTRL
  ⟨0x60400, [], [⟨31, 1, .rw, 0, .any⟩, ⟨30, 1, .wo, 0, .any⟩, ⟨29, 1, .rw, 0, .any⟩], false⟩,
  -- TEAM_STATUS
  ⟨0x60404, [], [⟨31, 1, .ro, 0, .any⟩, ⟨30, 1, .ro, 0, .any⟩, ⟨29, 1, .w1c, 0, .any⟩, ⟨28, 1, .ro, 0, .any⟩, ⟨16, 6, .ro, 0, .any⟩, ⟨0, 7, .ro, 0, .any⟩], false⟩,
  -- TEAM_PRESENT_LO
  ⟨0x60408, [], [⟨0, 32, .ro, 0, .any⟩], false⟩,
  -- TEAM_PRESENT_HI
  ⟨0x6040C, [], [⟨0, 32, .ro, 0, .any⟩], false⟩,
  -- TEAM_FWD_COUNT
  ⟨0x60410, [], [⟨0, 32, .ro, 0, .any⟩], false⟩,
  -- TEAM_FWD_TIMEOUT_COUNT
  ⟨0x60414, [], [⟨0, 32, .ro, 0, .any⟩], false⟩]

/-- The registers of the HOST block (R534), part 1. -/
def regsHost1 : List RegSpec := [
  -- TEAM_FWD_LAST
  ⟨0x60418, [], [⟨28, 4, .ro, 0, .any⟩, ⟨26, 1, .ro, 0, .any⟩, ⟨20, 6, .ro, 0, .any⟩, ⟨0, 20, .ro, 0, .any⟩], false⟩,
  -- TEAM_EVT_COUNT
  ⟨0x6041C, [], [⟨0, 32, .ro, 0, .any⟩], false⟩,
  -- TEAM_DISTn
  ⟨0x60420, [(0x4, 4)], [⟨31, 1, .rw, 0, .any⟩, ⟨24, 4, .rw, 0, .any⟩, ⟨0, 16, .rw, 0, .any⟩], false⟩,
  -- TEAM_POSp
  ⟨0x60500, [(0x4, 64)], [⟨31, 1, .ro, 0, .any⟩, ⟨24, 4, .ro, 0, .any⟩, ⟨0, 16, .ro, 0, .any⟩], false⟩]

/-- The registers of the HOST block (R534). -/
def regsHost : List RegSpec := regsHost0 ++ regsHost1

/-- The registers of the MEM block (R534), part 0. -/
def regsMem0 : List RegSpec := [
  -- MEM_STATUS
  ⟨0x68000, [], [⟨31, 1, .ro, 0, .any⟩, ⟨30, 1, .ro, 0, .any⟩, ⟨29, 1, .ro, 0, .any⟩, ⟨28, 1, .ro, 0, .any⟩, ⟨27, 1, .ro, 0, .any⟩], false⟩,
  -- MEM_EVT_ENABLE
  ⟨0x68004, [], [⟨10, 1, .rw, 0, .any⟩, ⟨9, 1, .rw, 0, .any⟩, ⟨8, 1, .rw, 0, .any⟩, ⟨7, 1, .rw, 0, .any⟩, ⟨6, 1, .rw, 0, .any⟩, ⟨5, 1, .rw, 0, .any⟩, ⟨4, 1, .rw, 0, .any⟩, ⟨3, 1, .rw, 0, .any⟩, ⟨2, 1, .rw, 0, .any⟩, ⟨1, 1, .rw, 0, .any⟩, ⟨0, 1, .rw, 0, .any⟩], false⟩,
  -- MEM_EVT_STATUS
  ⟨0x68008, [], [⟨10, 1, .w1c, 0, .any⟩, ⟨9, 1, .w1c, 0, .any⟩, ⟨8, 1, .w1c, 0, .any⟩, ⟨7, 1, .w1c, 0, .any⟩, ⟨6, 1, .w1c, 0, .any⟩, ⟨5, 1, .w1c, 0, .any⟩, ⟨4, 1, .w1c, 0, .any⟩, ⟨3, 1, .w1c, 0, .any⟩, ⟨2, 1, .w1c, 0, .any⟩, ⟨1, 1, .w1c, 0, .any⟩, ⟨0, 1, .w1c, 0, .any⟩], false⟩,
  -- MEM_ERR_ADDR_LO
  ⟨0x6800C, [], [⟨0, 32, .ro, 0, .any⟩], false⟩,
  -- MEM_ERR_ADDR_HI
  ⟨0x68010, [], [⟨0, 8, .ro, 0, .any⟩], false⟩,
  -- MEM_ERR_INFO
  ⟨0x68014, [], [⟨31, 1, .ro, 0, .any⟩, ⟨30, 1, .ro, 0, .any⟩, ⟨29, 1, .ro, 0, .any⟩, ⟨26, 3, .ro, 0, .any⟩, ⟨22, 4, .ro, 0, .any⟩, ⟨15, 7, .ro, 0, .any⟩], false⟩,
  -- MEM_CLOG_USED
  ⟨0x68018, [], [⟨0, 32, .ro, 0, .any⟩], false⟩,
  -- MEM_PPR_COUNT
  ⟨0x6801C, [], [⟨0, 32, .ro, 0, .any⟩], false⟩,
  -- MEM_COUNTk
  ⟨0x68020, [(0x4, 16)], [⟨0, 32, .ro, 0, .any⟩], false⟩,
  -- MEM_ATOM_ADDR_LO
  ⟨0x68060, [], [⟨0, 32, .rw, 0, .any⟩], false⟩,
  -- MEM_ATOM_ADDR_HI
  ⟨0x68064, [], [⟨0, 8, .rw, 0, .any⟩], false⟩,
  -- MEM_ATOM_DATA_LO
  ⟨0x68068, [], [⟨0, 32, .rw, 0, .any⟩], false⟩,
  -- MEM_ATOM_DATA_HI
  ⟨0x6806C, [], [⟨0, 32, .rw, 0, .any⟩], false⟩,
  -- MEM_ATOM_OP
  ⟨0x68070, [], [⟨0, 2, .wo, 0, .any⟩], false⟩,
  -- MEM_ATOM_OLD_LO
  ⟨0x68074, [], [⟨0, 32, .ro, 0, .any⟩], false⟩,
  -- MEM_ATOM_OLD_HI
  ⟨0x68078, [], [⟨0, 32, .ro, 0, .any⟩], false⟩,
  -- SBn_OWNER
  ⟨0x68100, [(0x20, 16)], [⟨31, 1, .wo, 0, .any⟩, ⟨30, 1, .wo, 0, .any⟩, ⟨29, 1, .ro, 0, .any⟩, ⟨28, 1, .rw, 0, .any⟩, ⟨27, 1, .rw, 0, .any⟩, ⟨26, 1, .rw, 0, .any⟩, ⟨16, 4, .ro, 0, .any⟩, ⟨0, 4, .rw, 1, (.oneOf [0, 1, 2, 3, 4, 5, 6, 8, 9, 10, 11, 12, 13, 14, 15])⟩], false⟩,
  -- SBn_STATUS
  ⟨0x68104, [(0x20, 16)], [⟨30, 2, .ro, 0, .any⟩, ⟨29, 1, .ro, 0, .any⟩, ⟨28, 1, .w1c, 0, .any⟩, ⟨27, 1, .w1c, 0, .any⟩, ⟨16, 6, .ro, 0, .any⟩], false⟩,
  -- SBn_VIOL_ADDR
  ⟨0x68108, [(0x20, 16)], [⟨0, 19, .ro, 0, .any⟩], false⟩,
  -- SBn_VIOL_COUNT
  ⟨0x6810C, [(0x20, 16)], [⟨0, 32, .ro, 0, .any⟩], false⟩,
  -- SBn_COLLIDE_ADDR
  ⟨0x68110, [(0x20, 16)], [⟨0, 19, .ro, 0, .any⟩], false⟩,
  -- SBn_COLLIDE_COUNT
  ⟨0x68114, [(0x20, 16)], [⟨0, 32, .ro, 0, .any⟩], false⟩,
  -- MEM_MARCH_CTRL
  ⟨0x68400, [], [⟨31, 1, .wo, 0, .any⟩, ⟨30, 1, .wo, 0, .any⟩, ⟨29, 1, .rw, 0, .any⟩, ⟨0, 4, .rw, 0, .any⟩], false⟩,
  -- MEM_MARCH_STATUS
  ⟨0x68404, [], [⟨31, 1, .ro, 0, .any⟩, ⟨30, 1, .w1c, 0, .any⟩, ⟨29, 1, .ro, 0, .any⟩, ⟨16, 4, .ro, 0, .any⟩, ⟨0, 9, .ro, 0, .any⟩], false⟩,
  -- MEM_MARCH_INTERVAL
  ⟨0x68408, [], [⟨0, 32, .rw, 1000, (.range 1 1000000)⟩], true⟩,
  -- MEM_MARCH_ROWS
  ⟨0x6840C, [], [⟨0, 32, .ro, 0, .any⟩], false⟩,
  -- MEM_MARCH_FAIL_ADDR
  ⟨0x68410, [], [⟨0, 30, .ro, 0, .any⟩], false⟩,
  -- MEM_GROOM_CTRL
  ⟨0x68500, [], [⟨31, 1, .rw, 1, .any⟩, ⟨30, 1, .rw, 1, .any⟩, ⟨16, 8, .rw, 8, (.range 1 255)⟩, ⟨0, 11, .rw, 60, (.range 10 1440)⟩], true⟩,
  -- MEM_GROOM_SRAM_PASSES
  ⟨0x68504, [], [⟨0, 32, .ro, 0, .any⟩], false⟩,
  -- MEM_GROOM_DRAM_PASSES
  ⟨0x68508, [], [⟨0, 32, .ro, 0, .any⟩], false⟩,
  -- MEM_GROOM_DRAM_POS
  ⟨0x6850C, [], [⟨0, 24, .ro, 0, .any⟩], false⟩,
  -- MEM_CLOGk_ADDR
  ⟨0x68600, [(0x8, 64)], [⟨0, 32, .ro, 0, .any⟩], false⟩,
  -- MEM_CLOGk_INFO
  ⟨0x68604, [(0x8, 64)], [⟨31, 1, .ro, 0, .any⟩, ⟨30, 1, .ro, 0, .any⟩, ⟨29, 1, .ro, 0, .any⟩, ⟨28, 1, .ro, 0, .any⟩, ⟨25, 3, .ro, 0, .any⟩, ⟨8, 5, .ro, 0, .any⟩, ⟨0, 8, .ro, 0, .any⟩], false⟩,
  -- MEM_DRAM_STATUS
  ⟨0x68A00, [], [⟨31, 1, .ro, 0, .any⟩, ⟨30, 1, .ro, 0, .any⟩, ⟨29, 1, .ro, 1, .any⟩, ⟨28, 1, .ro, 0, .any⟩, ⟨0, 8, .ro, 0, .any⟩], false⟩,
  -- MEM_INIT_STATUS
  ⟨0x68A04, [], [⟨0, 32, .ro, 0x1E000, .any⟩], false⟩,
  -- MEM_SPARE_STATUS
  ⟨0x68A08, [], [⟨16, 15, .ro, 0, .any⟩, ⟨0, 8, .ro, 0, .any⟩], false⟩,
  -- MEM_SPARE_LAST
  ⟨0x68A0C, [], [⟨0, 28, .ro, 0, .any⟩], false⟩,
  -- MEM_INITMAP_SEL
  ⟨0x68A10, [], [⟨0, 32, .rw, 0, (.range 0 239)⟩], false⟩,
  -- MEM_INITMAPk
  ⟨0x68A40, [(0x4, 16)], [⟨0, 32, .ro, 0, .any⟩], false⟩,
  -- MEM_CHc_ECC_COUNT
  ⟨0x68B00, [(0x10, 8)], [⟨0, 32, .ro, 0, .any⟩], false⟩]

/-- The registers of the MEM block (R534), part 1. -/
def regsMem1 : List RegSpec := [
  -- MEM_CHc_LINK_COUNT
  ⟨0x68B04, [(0x10, 8)], [⟨0, 32, .ro, 0, .any⟩], false⟩,
  -- MEM_CHc_TEMP
  ⟨0x68B08, [(0x10, 8)], [⟨0, 5, .ro, 0, .any⟩], false⟩,
  -- MEM_CHc_TRAIN
  ⟨0x68B0C, [(0x10, 8)], [⟨0, 6, .ro, 0, .any⟩], false⟩,
  -- MEM_SROW_LEDGER
  ⟨0x68C00, [], [⟨0, 32, .ro, 0, .any⟩], false⟩,
  -- MEM_SROW_LINEMEM
  ⟨0x68C04, [], [⟨0, 32, .ro, 0, .any⟩], false⟩,
  -- MEM_SROW_SEQ
  ⟨0x68C08, [], [⟨0, 32, .ro, 0, .any⟩], false⟩]

/-- The registers of the MEM block (R534). -/
def regsMem : List RegSpec := regsMem0 ++ regsMem1

/-- The registers of the CE block (R534). -/
def regsCe : List RegSpec := [
  -- CE_CTRL
  ⟨0x70000, [], [⟨31, 1, .rw, 1, .any⟩, ⟨0, 3, .rw, 1, .any⟩], false⟩,
  -- CE_STATUS
  ⟨0x70004, [], [⟨31, 1, .ro, 0, .any⟩, ⟨30, 1, .ro, 0, .any⟩, ⟨29, 1, .ro, 0, .any⟩, ⟨24, 3, .ro, 7, .any⟩, ⟨20, 3, .ro, 7, .any⟩, ⟨0, 8, .ro, 15, .any⟩], false⟩,
  -- CE_EVT_ENABLE
  ⟨0x70008, [], [⟨3, 1, .rw, 0, .any⟩, ⟨2, 1, .rw, 0, .any⟩, ⟨1, 1, .rw, 0, .any⟩, ⟨0, 1, .rw, 0, .any⟩], false⟩,
  -- CE_EVT_STATUS
  ⟨0x7000C, [], [⟨3, 1, .w1c, 0, .any⟩, ⟨2, 1, .w1c, 0, .any⟩, ⟨1, 1, .w1c, 0, .any⟩, ⟨0, 1, .w1c, 0, .any⟩], false⟩,
  -- CE_TABLE_CTRL
  ⟨0x70010, [], [⟨31, 1, .wo, 0, .any⟩, ⟨0, 3, .rw, 4, (.range 4 7)⟩], false⟩,
  -- CE_TABLE_SRC_LO
  ⟨0x70014, [], [⟨0, 32, .rw, 0, .any⟩], false⟩,
  -- CE_TABLE_SRC_HI
  ⟨0x70018, [], [⟨0, 8, .rw, 0, .any⟩], false⟩,
  -- CE_TABLE_STATUS
  ⟨0x7001C, [], [⟨30, 2, .ro, 0, .any⟩, ⟨24, 4, .ro, 0, .any⟩, ⟨16, 3, .ro, 0, .any⟩, ⟨0, 3, .ro, 0, .any⟩], false⟩,
  -- CE_COUNTk
  ⟨0x70040, [(0x4, 16)], [⟨0, 32, .ro, 0, .any⟩], false⟩,
  -- CE_TABLE_CRCt
  ⟨0x70080, [(0x4, 8)], [⟨0, 32, .ro, 0, .any⟩], false⟩,
  -- CE_USEu
  ⟨0x700A0, [(0x4, 8)], [⟨0, 32, .ro, 0, .any⟩], false⟩,
  -- CEq_CTRL
  ⟨0x70100, [(0x40, 4)], [⟨31, 1, .rw, 0, .any⟩, ⟨30, 1, .wo, 0, .any⟩, ⟨29, 1, .wo, 0, .any⟩, ⟨28, 1, .wo, 0, .any⟩], false⟩,
  -- CEq_STATUS
  ⟨0x70104, [(0x40, 4)], [⟨29, 3, .ro, 0, .any⟩, ⟨28, 1, .ro, 0, .any⟩, ⟨24, 4, .ro, 0, .any⟩, ⟨0, 16, .ro, 0, .any⟩], false⟩,
  -- CEq_RING_LO
  ⟨0x70108, [(0x40, 4)], [⟨0, 32, .rw, 0, .any⟩], false⟩,
  -- CEq_RING_HI
  ⟨0x7010C, [(0x40, 4)], [⟨0, 8, .rw, 0, .any⟩], false⟩,
  -- CEq_RING_SIZE
  ⟨0x70110, [(0x40, 4)], [⟨0, 4, .rw, 4, (.range 4 12)⟩], false⟩,
  -- CEq_TAIL
  ⟨0x70114, [(0x40, 4)], [⟨0, 12, .rw, 0, .any⟩], false⟩,
  -- CEq_HEAD
  ⟨0x70118, [(0x40, 4)], [⟨0, 12, .ro, 0, .any⟩], false⟩,
  -- CEq_DONE_COUNT
  ⟨0x7011C, [(0x40, 4)], [⟨0, 32, .ro, 0, .any⟩], false⟩,
  -- CEq_ERR_COUNT
  ⟨0x70120, [(0x40, 4)], [⟨0, 32, .ro, 0, .any⟩], false⟩,
  -- CEq_FULL_COUNT
  ⟨0x70124, [(0x40, 4)], [⟨0, 32, .ro, 0, .any⟩], false⟩,
  -- CEq_LAST_TILES
  ⟨0x70128, [(0x40, 4)], [⟨0, 22, .ro, 0, .any⟩], false⟩,
  -- CEq_LAST_BITS
  ⟨0x7012C, [(0x40, 4)], [⟨0, 32, .ro, 0, .any⟩], false⟩,
  -- CEq_IN_PIXELS
  ⟨0x70130, [(0x40, 4)], [⟨0, 32, .ro, 0, .any⟩], false⟩,
  -- CEq_OUT_BYTES
  ⟨0x70134, [(0x40, 4)], [⟨0, 32, .ro, 0, .any⟩], false⟩]

/-- The registers of the CAL block (R534). -/
def regsCal : List RegSpec := [
  -- CAL_CTRL
  ⟨0x78000, [], [⟨31, 1, .rw, 1, .any⟩, ⟨30, 1, .rw, 1, .any⟩, ⟨16, 8, .rw, 60, (.range 1 255)⟩, ⟨0, 16, .rw, 200, .any⟩], true⟩,
  -- CAL_STATUS
  ⟨0x78004, [], [⟨31, 1, .ro, 0, .any⟩, ⟨30, 1, .ro, 0, .any⟩, ⟨29, 1, .ro, 0, .any⟩, ⟨0, 8, .ro, 0, .any⟩], false⟩,
  -- CAL_REQUEST
  ⟨0x78008, [], [⟨31, 1, .wo, 0, .any⟩, ⟨0, 8, .wo, 0, (.range 0 87)⟩], false⟩,
  -- CAL_LAST
  ⟨0x7800C, [], [⟨31, 1, .ro, 0, .any⟩, ⟨28, 3, .ro, 0, .any⟩, ⟨26, 2, .ro, 0, .any⟩, ⟨0, 8, .ro, 0, .any⟩], false⟩,
  -- CAL_EVT_ENABLE
  ⟨0x78010, [], [⟨5, 1, .rw, 0, .any⟩, ⟨4, 1, .rw, 0, .any⟩, ⟨3, 1, .rw, 0, .any⟩, ⟨2, 1, .rw, 0, .any⟩, ⟨1, 1, .rw, 0, .any⟩, ⟨0, 1, .rw, 0, .any⟩], false⟩,
  -- CAL_EVT_STATUS
  ⟨0x78014, [], [⟨5, 1, .w1c, 0, .any⟩, ⟨4, 1, .w1c, 0, .any⟩, ⟨3, 1, .w1c, 0, .any⟩, ⟨2, 1, .w1c, 0, .any⟩, ⟨1, 1, .w1c, 0, .any⟩, ⟨0, 1, .w1c, 0, .any⟩], false⟩,
  -- CAL_REFV_UV
  ⟨0x78018, [], [⟨0, 32, .ro, 0, .any⟩], false⟩,
  -- CAL_DELTA_T
  ⟨0x7801C, [], [⟨0, 16, .rw, 80, (.range 16 800)⟩], true⟩,
  -- CAL_STORE_CTRL
  ⟨0x78020, [], [⟨31, 1, .wo, 0, .any⟩], false⟩,
  -- CAL_STORE_STATUS
  ⟨0x78024, [], [⟨29, 3, .ro, 0, .any⟩, ⟨28, 1, .ro, 0, .any⟩, ⟨0, 2, .ro, 0, .any⟩], false⟩,
  -- CAL_SLOTA
  ⟨0x78028, [], [⟨31, 1, .ro, 0, .any⟩, ⟨30, 1, .ro, 0, .any⟩, ⟨0, 16, .ro, 0, .any⟩], false⟩,
  -- CAL_SLOTB
  ⟨0x7802C, [], [⟨31, 1, .ro, 0, .any⟩, ⟨30, 1, .ro, 0, .any⟩, ⟨0, 16, .ro, 0, .any⟩], false⟩,
  -- CAL_PENDINGk
  ⟨0x78030, [(0x4, 3)], [⟨0, 32, .ro, 0, .any⟩], false⟩,
  -- CAL_BANDGAP_UV
  ⟨0x7803C, [], [⟨0, 32, .ro, 0, .any⟩], false⟩,
  -- CAL_COUNTk
  ⟨0x78040, [(0x4, 16)], [⟨0, 32, .ro, 0, .any⟩], false⟩,
  -- TSk_TEMP
  ⟨0x78080, [(0x4, 8)], [⟨31, 1, .ro, 0, .any⟩, ⟨0, 16, .ro, 0, .any⟩], false⟩,
  -- CAL_ITEMi
  ⟨0x78100, [(0x4, 88)], [⟨30, 2, .ro, 1, .any⟩, ⟨29, 1, .ro, 0, .any⟩, ⟨28, 1, .ro, 0, .any⟩, ⟨27, 1, .ro, 0, .any⟩, ⟨24, 3, .ro, 0, .any⟩, ⟨16, 8, .ro, 0, .any⟩, ⟨0, 16, .ro, 0, .any⟩], false⟩]

/-- The registers of the FARRIER block (R534). -/
def regsFarrier : List RegSpec := [
  -- FAR_CTRL
  ⟨0x7C000, [], [⟨0, 2, .rw, 0, (.range 0 2)⟩, ⟨2, 2, .rw, 0, (.range 0 2)⟩, ⟨4, 2, .rw, 0, (.range 0 2)⟩, ⟨6, 2, .rw, 0, (.range 0 2)⟩, ⟨8, 2, .rw, 0, (.range 0 2)⟩, ⟨10, 2, .rw, 0, (.range 0 2)⟩, ⟨12, 2, .rw, 0, (.range 0 2)⟩], false⟩,
  -- FAR_STATUS
  ⟨0x7C004, [], [⟨31, 1, .ro, 0, .any⟩, ⟨30, 1, .ro, 0, .any⟩, ⟨16, 5, .ro, 0, .any⟩, ⟨0, 7, .ro, 0, .any⟩], false⟩,
  -- FAR_EVT_ENABLE
  ⟨0x7C008, [], [⟨6, 1, .rw, 0, .any⟩, ⟨5, 1, .rw, 0, .any⟩, ⟨4, 1, .rw, 0, .any⟩, ⟨3, 1, .rw, 0, .any⟩, ⟨2, 1, .rw, 0, .any⟩, ⟨1, 1, .rw, 0, .any⟩, ⟨0, 1, .rw, 0, .any⟩], false⟩,
  -- FAR_EVT_STATUS
  ⟨0x7C00C, [], [⟨6, 1, .w1c, 0, .any⟩, ⟨5, 1, .w1c, 0, .any⟩, ⟨4, 1, .w1c, 0, .any⟩, ⟨3, 1, .w1c, 0, .any⟩, ⟨2, 1, .w1c, 0, .any⟩, ⟨1, 1, .w1c, 0, .any⟩, ⟨0, 1, .w1c, 0, .any⟩], false⟩,
  -- FAR_APPROVE
  ⟨0x7C010, [], [⟨0, 4, .wo, 0, .any⟩], false⟩,
  -- FAR_DECLINE
  ⟨0x7C014, [], [⟨0, 4, .wo, 0, .any⟩], false⟩,
  -- FAR_LOG_STATUS
  ⟨0x7C018, [], [⟨31, 1, .ro, 0, .any⟩, ⟨30, 1, .ro, 0, .any⟩, ⟨0, 17, .ro, 0, .any⟩], false⟩,
  -- FAR_LOG_SEQ
  ⟨0x7C01C, [], [⟨0, 32, .ro, 0, .any⟩], false⟩,
  -- FAR_LOCKSTEP
  ⟨0x7C020, [], [⟨16, 16, .ro, 0, .any⟩, ⟨0, 16, .ro, 0, .any⟩], false⟩,
  -- FAR_LOCKSTEP_TIME
  ⟨0x7C024, [], [⟨0, 32, .ro, 0, .any⟩], false⟩,
  -- FAR_SENSOR_MAP
  ⟨0x7C028, [], [⟨0, 4, .ro, 0, .any⟩, ⟨4, 4, .ro, 1, .any⟩, ⟨8, 4, .ro, 2, .any⟩, ⟨12, 4, .ro, 3, .any⟩, ⟨16, 4, .ro, 4, .any⟩, ⟨20, 4, .ro, 5, .any⟩], false⟩,
  -- FAR_SENSOR_STATUS
  ⟨0x7C02C, [], [⟨8, 8, .ro, 0, .any⟩, ⟨0, 8, .ro, 63, .any⟩], false⟩,
  -- FAR_LOG_SEL
  ⟨0x7C030, [], [⟨0, 32, .rw, 0, (.range 0 63)⟩], false⟩,
  -- FAR_LOG_ERR_COUNT
  ⟨0x7C034, [], [⟨0, 32, .ro, 0, .any⟩], false⟩,
  -- FAR_LOCKSTEP_GROUP
  ⟨0x7C038, [], [⟨0, 32, .ro, 0, .any⟩], false⟩,
  -- FAR_SUB_TIME
  ⟨0x7C03C, [], [⟨0, 32, .ro, 0, .any⟩], false⟩,
  -- FAR_INVk
  ⟨0x7C040, [(0x4, 8)], [⟨16, 16, .ro, 0, .any⟩, ⟨0, 16, .ro, 0, .any⟩], false⟩,
  -- FAR_SUBk
  ⟨0x7C060, [(0x4, 8)], [⟨0, 32, .ro, 0, .any⟩], false⟩,
  -- FAR_DOWNh
  ⟨0x7C080, [(0x4, 8)], [⟨0, 32, .ro, 0, .any⟩], false⟩,
  -- FAR_DOWN_LASTh
  ⟨0x7C0A0, [(0x4, 8)], [⟨31, 1, .ro, 0, .any⟩, ⟨28, 3, .ro, 0, .any⟩, ⟨0, 16, .ro, 0, .any⟩], false⟩,
  -- FAR_LOGk
  ⟨0x7C0C0, [(0x4, 8)], [⟨0, 32, .ro, 0, .any⟩], false⟩,
  -- FAR_TRIGk
  ⟨0x7C0E0, [(0x4, 8)], [⟨0, 32, .ro, 0, .any⟩], false⟩,
  -- FAR_ASKk
  ⟨0x7C100, [(0x4, 16)], [⟨31, 1, .ro, 0, .any⟩, ⟨28, 3, .ro, 0, .any⟩, ⟨24, 4, .ro, 0, .any⟩, ⟨0, 24, .ro, 0, .any⟩], false⟩,
  -- FAR_SUB_LASTk
  ⟨0x7C140, [(0x4, 8)], [⟨31, 1, .ro, 0, .any⟩, ⟨28, 3, .ro, 0, .any⟩, ⟨24, 4, .ro, 0, .any⟩, ⟨0, 24, .ro, 0, .any⟩], false⟩,
  -- FAR_ELEMk
  ⟨0x7C160, [], [⟨0, 32, .ro, 0, .any⟩], false⟩,
  -- FAR_ELEMk
  ⟨0x7C164, [], [⟨0, 32, .ro, 0, .any⟩], false⟩,
  -- FAR_ELEMk
  ⟨0x7C168, [], [⟨0, 24, .ro, 0, .any⟩], false⟩,
  -- FAR_ELEMk
  ⟨0x7C16C, [], [⟨0, 32, .ro, 0, .any⟩], false⟩,
  -- FAR_ELEMk
  ⟨0x7C170, [], [⟨0, 32, .ro, 0, .any⟩], false⟩,
  -- FAR_ELEMk
  ⟨0x7C174, [], [⟨0, 24, .ro, 0, .any⟩], false⟩,
  -- FAR_DECLINE_COUNT
  ⟨0x7C180, [], [⟨0, 32, .ro, 0, .any⟩], false⟩,
  -- FAR_FORBID_COUNT
  ⟨0x7C184, [], [⟨0, 32, .ro, 0, .any⟩], false⟩]

/-- The registers of the POWER block (R534). -/
def regsPower : List RegSpec := [
  -- POWER_RUNG_CTRL
  ⟨0x80000, [], [⟨31, 1, .wo, 0, .any⟩, ⟨0, 3, .rw, 0, (.range 0 5)⟩], false⟩,
  -- POWER_RUNG_STATUS
  ⟨0x80004, [], [⟨29, 3, .ro, 0, .any⟩, ⟨26, 3, .ro, 0, .any⟩, ⟨24, 2, .ro, 0, .any⟩, ⟨21, 3, .ro, 0, .any⟩], false⟩,
  -- POWER_WAKE_ENABLE
  ⟨0x80008, [], [⟨5, 1, .rw, 1, .any⟩, ⟨4, 1, .rw, 0, .any⟩, ⟨3, 1, .rw, 1, .any⟩, ⟨2, 1, .ro, 1, .any⟩, ⟨1, 1, .rw, 1, .any⟩, ⟨0, 1, .rw, 1, .any⟩], true⟩,
  -- POWER_WAKE_STATUS
  ⟨0x8000C, [], [⟨5, 1, .w1c, 1, .any⟩, ⟨4, 1, .w1c, 0, .any⟩, ⟨3, 1, .w1c, 1, .any⟩, ⟨2, 1, .w1c, 1, .any⟩, ⟨1, 1, .w1c, 1, .any⟩, ⟨0, 1, .w1c, 1, .any⟩], true⟩,
  -- POWER_WAKE_TIME
  ⟨0x80010, [], [⟨0, 32, .rw, 0, .any⟩], true⟩,
  -- POWER_SHED_CTRL
  ⟨0x80014, [], [⟨31, 1, .rw, 1, .any⟩, ⟨16, 8, .rw, 10, (.range 1 255)⟩, ⟨0, 16, .rw, 200, (.range 0 2000)⟩], true⟩,
  -- POWER_SHED_STATUS
  ⟨0x80018, [], [⟨29, 3, .ro, 0, .any⟩, ⟨28, 1, .ro, 0, .any⟩, ⟨27, 1, .ro, 0, .any⟩, ⟨24, 3, .ro, 0, .any⟩], false⟩,
  -- POWER_SHED_REENABLE
  ⟨0x8001C, [], [⟨0, 1, .wo, 0, .any⟩], false⟩,
  -- POWER_VSYS_MV
  ⟨0x80020, [], [⟨0, 32, .ro, 0, .any⟩], false⟩,
  -- POWER_VSYS_RATIO
  ⟨0x80024, [], [⟨0, 32, .rw, 0x02EE0, (.range 1000 32000)⟩], true⟩,
  -- POWER_VSYS_MIN_MV
  ⟨0x80028, [], [⟨0, 32, .ro, 0, .any⟩], false⟩,
  -- POWER_EVT_ENABLE
  ⟨0x8002C, [], [⟨7, 1, .rw, 0, .any⟩, ⟨6, 1, .rw, 0, .any⟩, ⟨5, 1, .rw, 0, .any⟩, ⟨4, 1, .rw, 0, .any⟩, ⟨3, 1, .rw, 0, .any⟩, ⟨0, 3, .rw, 0, .any⟩], false⟩,
  -- POWER_EVT_STATUS
  ⟨0x80030, [], [⟨7, 1, .w1c, 0, .any⟩, ⟨6, 1, .w1c, 0, .any⟩, ⟨5, 1, .w1c, 0, .any⟩, ⟨4, 1, .w1c, 0, .any⟩, ⟨3, 1, .w1c, 0, .any⟩, ⟨0, 3, .w1c, 0, .any⟩], false⟩,
  -- POWER_RAIL_STATUS
  ⟨0x80034, [], [⟨0, 13, .ro, 0, .any⟩], false⟩,
  -- POWER_RAIL_FAULT_COUNT
  ⟨0x80038, [], [⟨0, 32, .ro, 0, .any⟩], false⟩,
  -- POWER_MW
  ⟨0x8003C, [], [⟨0, 32, .ro, 0, .any⟩], false⟩,
  -- POWER_WALK_SAVE_US
  ⟨0x80040, [], [⟨0, 32, .ro, 0, .any⟩], false⟩,
  -- POWER_OFF_TIME_S
  ⟨0x80044, [], [⟨0, 32, .ro, 0, .any⟩], true⟩,
  -- POWER_RUNG_FAIL_COUNT
  ⟨0x80048, [], [⟨0, 32, .ro, 0, .any⟩], false⟩,
  -- POWER_WAKE_HELD_COUNT
  ⟨0x8004C, [], [⟨0, 32, .ro, 0, .any⟩], false⟩,
  -- POWER_SHED_THRESHk
  ⟨0x80050, [], [⟨0, 32, .rw, 0x03390, .any⟩], true⟩,
  -- POWER_SHED_THRESHk
  ⟨0x80054, [], [⟨0, 32, .rw, 0x03138, .any⟩], true⟩,
  -- POWER_SHED_THRESHk
  ⟨0x80058, [], [⟨0, 32, .rw, 0x02EE0, .any⟩], true⟩,
  -- POWER_SHED_THRESHk
  ⟨0x8005C, [], [⟨0, 32, .rw, 0x02C88, .any⟩], true⟩,
  -- POWER_SHED_THRESHk
  ⟨0x80060, [], [⟨0, 32, .rw, 0x02A30, .any⟩], true⟩,
  -- POWER_SHED_COUNTk
  ⟨0x80070, [(0x4, 5)], [⟨0, 32, .ro, 0, .any⟩], false⟩,
  -- POWER_SHED_TIMEk
  ⟨0x80090, [(0x4, 5)], [⟨0, 32, .ro, 0, .any⟩], false⟩,
  -- POWER_RAIL_MVk
  ⟨0x80100, [(0x4, 13)], [⟨0, 32, .ro, 0, .any⟩], false⟩,
  -- POWER_RUNG_COUNTk
  ⟨0x80140, [(0x4, 6)], [⟨0, 32, .ro, 0, .any⟩], false⟩,
  -- POWER_RUNG_TIME_Sk
  ⟨0x80160, [(0x4, 6)], [⟨0, 32, .ro, 0, .any⟩], false⟩,
  -- POWER_ENTRY_USk
  ⟨0x80180, [(0x4, 6)], [⟨0, 32, .ro, 0, .any⟩], false⟩,
  -- POWER_EXIT_USk
  ⟨0x801A0, [(0x4, 6)], [⟨0, 32, .ro, 0, .any⟩], false⟩,
  -- POWER_WAKE_COUNTk
  ⟨0x801C0, [(0x4, 8)], [⟨0, 32, .ro, 0, .any⟩], false⟩]

/-- The registers of the TEST block (R534). -/
def regsTest : List RegSpec := [
  -- TEST_CTRL
  ⟨0xF0000, [], [⟨0, 1, .wo, 0, .any⟩], false⟩,
  -- TEST_STATUS
  ⟨0xF0004, [], [⟨0, 4, .ro, 0, .any⟩], false⟩,
  -- TEST_IR
  ⟨0xF0008, [], [⟨31, 1, .ro, 0, .any⟩, ⟨0, 8, .ro, 1, .any⟩], false⟩,
  -- TEST_IDCODE
  ⟨0xF000C, [], [⟨0, 32, .ro, 0x296409AB, .any⟩], false⟩,
  -- TEST_BSR_LENGTH
  ⟨0xF0010, [], [⟨0, 32, .ro, 431, .any⟩], false⟩,
  -- TEST_TAP_COUNT
  ⟨0xF0014, [], [⟨0, 32, .ro, 0, .any⟩], false⟩,
  -- TEST_SNAP_TIME
  ⟨0xF0018, [], [⟨0, 32, .ro, 0, .any⟩], false⟩,
  -- TEST_MBIST_LO
  ⟨0xF001C, [], [⟨0, 32, .ro, 0, .any⟩], true⟩,
  -- TEST_MBIST_HI
  ⟨0xF0020, [], [⟨0, 16, .ro, 0, .any⟩], true⟩,
  -- TEST_REFUSED_COUNT
  ⟨0xF0024, [], [⟨0, 32, .ro, 0, .any⟩], false⟩,
  -- TEST_GIRTHg
  ⟨0xF0030, [(0x4, 4)], [⟨24, 1, .ro, 0, .any⟩, ⟨0, 24, .ro, 0, .any⟩], true⟩,
  -- TEST_GIRTHg_FORCE_MV
  ⟨0xF0040, [(0x4, 4)], [⟨0, 32, .ro, 0, .any⟩], false⟩,
  -- TEST_ARRAY_FAILk
  ⟨0xF0050, [(0x4, 4)], [⟨0, 32, .ro, 0, .any⟩], false⟩,
  -- TEST_BSR_SNAPk
  ⟨0xF0080, [(0x4, 14)], [⟨0, 32, .ro, 0, .any⟩], false⟩,
  -- TEST_SEk_BIST
  ⟨0xF0100, [(0x4, 28)], [⟨31, 1, .ro, 0, .any⟩, ⟨16, 15, .ro, 0, .any⟩, ⟨0, 16, .ro, 0, .any⟩], true⟩]

/-- The registers of the block that owns offset r (R534); none for the offsets no block owns. -/
def blockRegs (r : Nat) : List RegSpec :=
  if r < 0x01000 then regsTop else
  if r < 0x02000 then regsTack else
  if r < 0x04000 then regsEvt else
  if r < 0x06000 then regsTime else
  if r < 0x08000 then regsSched else
  if r < 0x10000 then regsInput else
  if r < 0x20000 then regsFabric else
  if r < 0x30000 then regsHeads else
  if r < 0x38000 then regsMip else
  if r < 0x40000 then regsHarness else
  if r < 0x50000 then regsLanes else
  if r < 0x58000 then regsLinks else
  if r < 0x60000 then regsNet else
  if r < 0x68000 then regsHost else
  if r < 0x70000 then regsMem else
  if r < 0x78000 then regsCe else
  if r < 0x7C000 then regsCal else
  if r < 0x80000 then regsFarrier else
  if r < 0x90000 then regsPower else
  if r < 0xF0000 then [] else
  if r < 0x100000 then regsTest else
  []

end Sys2Proof.Machine
end

