-- ==== Sys2Proof/Machine/Regs.lean ====
section
/-! DEFINITION. Names for the addresses of the registers (R7, R534, R535) and for the fields that the meanings read and
write. `HDn_CTRL n` is the offset of HDn_CTRL of head n; `HDn_CTRL_RUN n` is its field RUN; `_V` ends the name of the one
field of a single-field register. -/
namespace Sys2Proof.Machine

/-- A field of a register: the register's offset, the lowest bit, the width. -/
structure Fld where
  addr : Nat
  lo : Nat
  w : Nat
deriving DecidableEq, Repr

/-- Offset of TACK_STATUS. -/
def TACK_STATUS : Nat := 0x01000
def TACK_STATUS_STATE : Fld := ⟨TACK_STATUS, 28, 4⟩
def TACK_STATUS_SOURCE : Fld := ⟨TACK_STATUS, 26, 2⟩
def TACK_STATUS_SLOT : Fld := ⟨TACK_STATUS, 24, 2⟩
def TACK_STATUS_CAUSE : Fld := ⟨TACK_STATUS, 20, 4⟩
def TACK_STATUS_ATTEMPTS : Fld := ⟨TACK_STATUS, 16, 4⟩
def TACK_STATUS_HEADS : Fld := ⟨TACK_STATUS, 8, 8⟩
/-- Offset of TACK_CONTROL. -/
def TACK_CONTROL : Nat := 0x01004
def TACK_CONTROL_NEXT_SLOT : Fld := ⟨TACK_CONTROL, 0, 2⟩
/-- Offset of TACK_IMAGE_VERSION. -/
def TACK_IMAGE_VERSION : Nat := 0x01008
def TACK_IMAGE_VERSION_V : Fld := ⟨TACK_IMAGE_VERSION, 0, 32⟩
/-- Offset of TACK_ROLLBACK. -/
def TACK_ROLLBACK : Nat := 0x0100C
def TACK_ROLLBACK_FUSE_COUNT : Fld := ⟨TACK_ROLLBACK, 8, 8⟩
def TACK_ROLLBACK_IMAGE_COUNT : Fld := ⟨TACK_ROLLBACK, 0, 8⟩
/-- Offset of TACK_BUILD_ID. -/
def TACK_BUILD_ID : Nat := 0x01010
def TACK_BUILD_ID_V : Fld := ⟨TACK_BUILD_ID, 0, 32⟩
/-- Offset of TACK_IMAGE_SIZE. -/
def TACK_IMAGE_SIZE : Nat := 0x01014
def TACK_IMAGE_SIZE_V : Fld := ⟨TACK_IMAGE_SIZE, 0, 32⟩
/-- Offset of TACK_KEY. -/
def TACK_KEY : Nat := 0x01018
def TACK_KEY_ROOT_DISABLED : Fld := ⟨TACK_KEY, 8, 1⟩
def TACK_KEY_CK1_REVOKED : Fld := ⟨TACK_KEY, 7, 1⟩
def TACK_KEY_CK0_REVOKED : Fld := ⟨TACK_KEY, 6, 1⟩
def TACK_KEY_CK1_PROGRAMMED : Fld := ⟨TACK_KEY, 5, 1⟩
def TACK_KEY_CK0_PROGRAMMED : Fld := ⟨TACK_KEY, 4, 1⟩
def TACK_KEY_KEY_USED : Fld := ⟨TACK_KEY, 0, 2⟩
/-- Offset of TACK_FW_VERSION. -/
def TACK_FW_VERSION : Nat := 0x0101C
def TACK_FW_VERSION_V : Fld := ⟨TACK_FW_VERSION, 0, 32⟩
/-- Offset of TACK_ATTEMPTn. -/
def TACK_ATTEMPTn (n : Nat) : Nat := 0x01020 + 0x4 * n
/-- Offset of TACK_SLOTA_VERSION. -/
def TACK_SLOTA_VERSION : Nat := 0x01030
def TACK_SLOTA_VERSION_V : Fld := ⟨TACK_SLOTA_VERSION, 0, 32⟩
/-- Offset of TACK_SLOTB_VERSION. -/
def TACK_SLOTB_VERSION : Nat := 0x01034
def TACK_SLOTB_VERSION_V : Fld := ⟨TACK_SLOTB_VERSION, 0, 32⟩
/-- Offset of TACK_PUSH_ADDR_LO. -/
def TACK_PUSH_ADDR_LO : Nat := 0x01040
def TACK_PUSH_ADDR_LO_V : Fld := ⟨TACK_PUSH_ADDR_LO, 0, 32⟩
/-- Offset of TACK_PUSH_ADDR_HI. -/
def TACK_PUSH_ADDR_HI : Nat := 0x01044
def TACK_PUSH_ADDR_HI_V : Fld := ⟨TACK_PUSH_ADDR_HI, 0, 32⟩
/-- Offset of TACK_PUSH_LENGTH. -/
def TACK_PUSH_LENGTH : Nat := 0x01048
def TACK_PUSH_LENGTH_V : Fld := ⟨TACK_PUSH_LENGTH, 0, 32⟩
/-- Offset of TACK_PUSH_GO. -/
def TACK_PUSH_GO : Nat := 0x0104C
/-- Offset of TACK_RT_CONTROL. -/
def TACK_RT_CONTROL : Nat := 0x01050
def TACK_RT_CONTROL_HEAD : Fld := ⟨TACK_RT_CONTROL, 0, 3⟩
/-- Offset of TACK_RT_ADDR_LO. -/
def TACK_RT_ADDR_LO : Nat := 0x01054
def TACK_RT_ADDR_LO_V : Fld := ⟨TACK_RT_ADDR_LO, 0, 32⟩
/-- Offset of TACK_RT_ADDR_HI. -/
def TACK_RT_ADDR_HI : Nat := 0x01058
def TACK_RT_ADDR_HI_V : Fld := ⟨TACK_RT_ADDR_HI, 0, 8⟩
/-- Offset of TACK_RT_LENGTH. -/
def TACK_RT_LENGTH : Nat := 0x0105C
def TACK_RT_LENGTH_V : Fld := ⟨TACK_RT_LENGTH, 0, 32⟩
/-- Offset of TACK_RT_STATUS. -/
def TACK_RT_STATUS : Nat := 0x01060
def TACK_RT_STATUS_STATE : Fld := ⟨TACK_RT_STATUS, 28, 4⟩
def TACK_RT_STATUS_CAUSE : Fld := ⟨TACK_RT_STATUS, 24, 4⟩
def TACK_RT_STATUS_FAIL_CODE : Fld := ⟨TACK_RT_STATUS, 16, 8⟩
def TACK_RT_STATUS_HEAD : Fld := ⟨TACK_RT_STATUS, 0, 3⟩
/-- Offset of TACK_RT_FRAME. -/
def TACK_RT_FRAME : Nat := 0x01064
def TACK_RT_FRAME_VALID : Fld := ⟨TACK_RT_FRAME, 31, 1⟩
def TACK_RT_FRAME_STOPPED : Fld := ⟨TACK_RT_FRAME, 30, 1⟩
def TACK_RT_FRAME_FRAME : Fld := ⟨TACK_RT_FRAME, 0, 16⟩
/-- Offset of TACK_ENGINE_SUMMARY. -/
def TACK_ENGINE_SUMMARY : Nat := 0x01068
def TACK_ENGINE_SUMMARY_ALLOCATED : Fld := ⟨TACK_ENGINE_SUMMARY, 24, 5⟩
def TACK_ENGINE_SUMMARY_SPARE : Fld := ⟨TACK_ENGINE_SUMMARY, 16, 5⟩
def TACK_ENGINE_SUMMARY_RETIRED : Fld := ⟨TACK_ENGINE_SUMMARY, 8, 5⟩
def TACK_ENGINE_SUMMARY_RT_RESERVED : Fld := ⟨TACK_ENGINE_SUMMARY, 0, 5⟩
/-- Offset of TACK_QUAD_RATE. -/
def TACK_QUAD_RATE : Nat := 0x0106C
def TACK_QUAD_RATE_V : Fld := ⟨TACK_QUAD_RATE, 0, 27⟩
/-- Offset of TACK_ENGINE_MAPn. -/
def TACK_ENGINE_MAPn (n : Nat) : Nat := 0x01070 + 0x4 * n
/-- Offset of TACK_HEADn. -/
def TACK_HEADn (n : Nat) : Nat := 0x01080 + 0x4 * n
def TACK_HEADn_PRESENT (n : Nat) : Fld := ⟨TACK_HEADn n, 31, 1⟩
def TACK_HEADn_CLASS (n : Nat) : Fld := ⟨TACK_HEADn n, 30, 1⟩
def TACK_HEADn_HPLL (n : Nat) : Fld := ⟨TACK_HEADn n, 28, 2⟩
def TACK_HEADn_ENGINES (n : Nat) : Fld := ⟨TACK_HEADn n, 23, 5⟩
def TACK_HEADn_LINEMEM_UNITS (n : Nat) : Fld := ⟨TACK_HEADn n, 10, 11⟩
def TACK_HEADn_LINEMEM_BASE (n : Nat) : Fld := ⟨TACK_HEADn n, 0, 10⟩
/-- Offset of TACK_LEDGERn. -/
def TACK_LEDGERn (n : Nat) : Nat := 0x010A0 + 0x4 * n
def TACK_LEDGERn_UNITS (n : Nat) : Fld := ⟨TACK_LEDGERn n, 14, 15⟩
def TACK_LEDGERn_BASE (n : Nat) : Fld := ⟨TACK_LEDGERn n, 0, 14⟩
/-- Offset of TACK_BANK_RESETn. -/
def TACK_BANK_RESETn (n : Nat) : Nat := 0x010C0 + 0x4 * n
/-- Offset of TBn_CTRL. -/
def TBn_CTRL (n : Nat) : Nat := 0x04000 + 0x100 * n
def TBn_CTRL_SOURCE (n : Nat) : Fld := ⟨TBn_CTRL n, 28, 4⟩
def TBn_CTRL_ARG (n : Nat) : Fld := ⟨TBn_CTRL n, 26, 2⟩
def TBn_CTRL_ACQ_STEP (n : Nat) : Fld := ⟨TBn_CTRL n, 20, 1⟩
def TBn_CTRL_ACQ_COUNT (n : Nat) : Fld := ⟨TBn_CTRL n, 16, 4⟩
def TBn_CTRL_PERIOD (n : Nat) : Fld := ⟨TBn_CTRL n, 12, 4⟩
def TBn_CTRL_KP_SHIFT (n : Nat) : Fld := ⟨TBn_CTRL n, 8, 4⟩
def TBn_CTRL_KI_SHIFT (n : Nat) : Fld := ⟨TBn_CTRL n, 0, 4⟩
/-- Offset of TBn_STATUS. -/
def TBn_STATUS (n : Nat) : Nat := 0x04004 + 0x100 * n
def TBn_STATUS_STATE (n : Nat) : Fld := ⟨TBn_STATUS n, 30, 2⟩
def TBn_STATUS_DISCONTINUITY (n : Nat) : Fld := ⟨TBn_STATUS n, 29, 1⟩
def TBn_STATUS_LOST (n : Nat) : Fld := ⟨TBn_STATUS n, 28, 1⟩
def TBn_STATUS_RETURNED (n : Nat) : Fld := ⟨TBn_STATUS n, 27, 1⟩
def TBn_STATUS_STEP_PENDING (n : Nat) : Fld := ⟨TBn_STATUS n, 26, 1⟩
def TBn_STATUS_CLAMPED (n : Nat) : Fld := ⟨TBn_STATUS n, 25, 1⟩
/-- Offset of TBn_RATE. -/
def TBn_RATE (n : Nat) : Nat := 0x04008 + 0x100 * n
def TBn_RATE_V (n : Nat) : Fld := ⟨TBn_RATE n, 0, 32⟩
/-- Offset of TBn_LATCH. -/
def TBn_LATCH (n : Nat) : Nat := 0x04010 + 0x100 * n
/-- Offset of TBn_SNAP_SEC_HI. -/
def TBn_SNAP_SEC_HI (n : Nat) : Nat := 0x04014 + 0x100 * n
def TBn_SNAP_SEC_HI_V (n : Nat) : Fld := ⟨TBn_SNAP_SEC_HI n, 0, 16⟩
/-- Offset of TBn_SNAP_SEC_LO. -/
def TBn_SNAP_SEC_LO (n : Nat) : Nat := 0x04018 + 0x100 * n
def TBn_SNAP_SEC_LO_V (n : Nat) : Fld := ⟨TBn_SNAP_SEC_LO n, 0, 32⟩
/-- Offset of TBn_SNAP_NS. -/
def TBn_SNAP_NS (n : Nat) : Nat := 0x0401C + 0x100 * n
def TBn_SNAP_NS_V (n : Nat) : Fld := ⟨TBn_SNAP_NS n, 0, 32⟩
/-- Offset of TBn_SNAP_FRAC. -/
def TBn_SNAP_FRAC (n : Nat) : Nat := 0x04020 + 0x100 * n
def TBn_SNAP_FRAC_V (n : Nat) : Fld := ⟨TBn_SNAP_FRAC n, 0, 16⟩
/-- Offset of TBn_OFFSET. -/
def TBn_OFFSET (n : Nat) : Nat := 0x04024 + 0x100 * n
def TBn_OFFSET_V (n : Nat) : Fld := ⟨TBn_OFFSET n, 0, 32⟩
/-- Offset of TBn_DISC_THRESH. -/
def TBn_DISC_THRESH (n : Nat) : Nat := 0x04028 + 0x100 * n
def TBn_DISC_THRESH_V (n : Nat) : Fld := ⟨TBn_DISC_THRESH n, 0, 32⟩
/-- Offset of TBn_STEP_SEC. -/
def TBn_STEP_SEC (n : Nat) : Nat := 0x0402C + 0x100 * n
def TBn_STEP_SEC_V (n : Nat) : Fld := ⟨TBn_STEP_SEC n, 0, 32⟩
/-- Offset of TBn_STEP_NS. -/
def TBn_STEP_NS (n : Nat) : Nat := 0x04030 + 0x100 * n
def TBn_STEP_NS_V (n : Nat) : Fld := ⟨TBn_STEP_NS n, 0, 32⟩
/-- Offset of TBn_STEP_CTRL. -/
def TBn_STEP_CTRL (n : Nat) : Nat := 0x04034 + 0x100 * n
/-- Offset of TBn_DISC_COUNT. -/
def TBn_DISC_COUNT (n : Nat) : Nat := 0x04038 + 0x100 * n
def TBn_DISC_COUNT_V (n : Nat) : Fld := ⟨TBn_DISC_COUNT n, 0, 32⟩
/-- Offset of TBn_STEP_COUNT. -/
def TBn_STEP_COUNT (n : Nat) : Nat := 0x0403C + 0x100 * n
def TBn_STEP_COUNT_V (n : Nat) : Fld := ⟨TBn_STEP_COUNT n, 0, 32⟩
/-- Offset of TBn_MEAS_COUNT. -/
def TBn_MEAS_COUNT (n : Nat) : Nat := 0x04044 + 0x100 * n
def TBn_MEAS_COUNT_V (n : Nat) : Fld := ⟨TBn_MEAS_COUNT n, 0, 32⟩
/-- Offset of TBn_HISTk. -/
def TBn_HISTk (n : Nat) (k : Nat) : Nat := 0x04080 + 0x100 * n + 0x4 * k
def TBn_HISTk_V (n : Nat) (k : Nat) : Fld := ⟨TBn_HISTk n k, 0, 32⟩
/-- Offset of CAPc_CTRL. -/
def CAPc_CTRL (c : Nat) : Nat := 0x04400 + 0x20 * c
def CAPc_CTRL_SOURCE (c : Nat) : Fld := ⟨CAPc_CTRL c, 24, 8⟩
def CAPc_CTRL_TB (c : Nat) : Fld := ⟨CAPc_CTRL c, 22, 2⟩
def CAPc_CTRL_EDGE (c : Nat) : Fld := ⟨CAPc_CTRL c, 20, 2⟩
/-- Offset of CAPc_STATUS. -/
def CAPc_STATUS (c : Nat) : Nat := 0x04404 + 0x20 * c
def CAPc_STATUS_OVERFLOW (c : Nat) : Fld := ⟨CAPc_STATUS c, 8, 1⟩
def CAPc_STATUS_LEVEL (c : Nat) : Fld := ⟨CAPc_STATUS c, 0, 3⟩
/-- Offset of CAPc_POP. -/
def CAPc_POP (c : Nat) : Nat := 0x04414 + 0x20 * c
/-- Offset of TC_CTRL. -/
def TC_CTRL : Nat := 0x04600
def TC_CTRL_RATE : Fld := ⟨TC_CTRL, 28, 4⟩
def TC_CTRL_LTC_OUT_EN : Fld := ⟨TC_CTRL, 27, 1⟩
def TC_CTRL_LTC_IN_EN : Fld := ⟨TC_CTRL, 26, 1⟩
def TC_CTRL_BGF : Fld := ⟨TC_CTRL, 23, 3⟩
/-- Offset of TC_STATUS. -/
def TC_STATUS : Nat := 0x04604
def TC_STATUS_DISC : Fld := ⟨TC_STATUS, 31, 1⟩
def TC_STATUS_BACKWARD : Fld := ⟨TC_STATUS, 30, 1⟩
def TC_STATUS_LTC_VALID : Fld := ⟨TC_STATUS, 29, 1⟩
/-- Offset of TC_LABEL. -/
def TC_LABEL : Nat := 0x04608
/-- Offset of TC_COUNT. -/
def TC_COUNT : Nat := 0x0460C
/-- Offset of TC_USERBITS. -/
def TC_USERBITS : Nat := 0x04610
def TC_USERBITS_V : Fld := ⟨TC_USERBITS, 0, 32⟩
/-- Offset of LTCIN_LABEL. -/
def LTCIN_LABEL : Nat := 0x04614
/-- Offset of LTCIN_USERBITS. -/
def LTCIN_USERBITS : Nat := 0x04618
def LTCIN_USERBITS_V : Fld := ⟨LTCIN_USERBITS, 0, 32⟩
/-- Offset of LTCIN_OFFSET. -/
def LTCIN_OFFSET : Nat := 0x0461C
def LTCIN_OFFSET_V : Fld := ⟨LTCIN_OFFSET, 0, 32⟩
/-- Offset of LTCOUT_OFFSET. -/
def LTCOUT_OFFSET : Nat := 0x04620
def LTCOUT_OFFSET_V : Fld := ⟨LTCOUT_OFFSET, 0, 32⟩
/-- Offset of TC_DISC_COUNT. -/
def TC_DISC_COUNT : Nat := 0x04624
def TC_DISC_COUNT_V : Fld := ⟨TC_DISC_COUNT, 0, 32⟩
/-- Offset of LTCIN_ERR_COUNT. -/
def LTCIN_ERR_COUNT : Nat := 0x04628
def LTCIN_ERR_COUNT_V : Fld := ⟨LTCIN_ERR_COUNT, 0, 32⟩
/-- Offset of LTCIN_REVERSE_COUNT. -/
def LTCIN_REVERSE_COUNT : Nat := 0x0462C
def LTCIN_REVERSE_COUNT_V : Fld := ⟨LTCIN_REVERSE_COUNT, 0, 32⟩
/-- Offset of SYNCIN_ENABLE. -/
def SYNCIN_ENABLE : Nat := 0x04640
def SYNCIN_ENABLE_V : Fld := ⟨SYNCIN_ENABLE, 0, 1⟩
/-- Offset of SYNCIN_STATUS. -/
def SYNCIN_STATUS : Nat := 0x04644
def SYNCIN_STATUS_PRESENT : Fld := ⟨SYNCIN_STATUS, 31, 1⟩
def SYNCIN_STATUS_FORMAT : Fld := ⟨SYNCIN_STATUS, 28, 3⟩
def SYNCIN_STATUS_RATE : Fld := ⟨SYNCIN_STATUS, 24, 4⟩
/-- Offset of SYNCOUT_CTRL. -/
def SYNCOUT_CTRL : Nat := 0x04648
def SYNCOUT_CTRL_FORMAT : Fld := ⟨SYNCOUT_CTRL, 28, 3⟩
def SYNCOUT_CTRL_RATE : Fld := ⟨SYNCOUT_CTRL, 24, 4⟩
/-- Offset of PPSIN_EDGE. -/
def PPSIN_EDGE : Nat := 0x04650
def PPSIN_EDGE_V : Fld := ⟨PPSIN_EDGE, 0, 1⟩
/-- Offset of PPSIN_COUNT. -/
def PPSIN_COUNT : Nat := 0x04654
def PPSIN_COUNT_V : Fld := ⟨PPSIN_COUNT, 0, 32⟩
/-- Offset of PPSOUT_WIDTH. -/
def PPSOUT_WIDTH : Nat := 0x04658
def PPSOUT_WIDTH_V : Fld := ⟨PPSOUT_WIDTH, 0, 32⟩
/-- Offset of PPSOUT_OFFSET. -/
def PPSOUT_OFFSET : Nat := 0x0465C
def PPSOUT_OFFSET_V : Fld := ⟨PPSOUT_OFFSET, 0, 32⟩
/-- Offset of REF10M_PPB. -/
def REF10M_PPB : Nat := 0x04660
def REF10M_PPB_V : Fld := ⟨REF10M_PPB, 0, 32⟩
/-- Offset of REF10M_LOSS_COUNT. -/
def REF10M_LOSS_COUNT : Nat := 0x04664
def REF10M_LOSS_COUNT_V : Fld := ⟨REF10M_LOSS_COUNT, 0, 32⟩
/-- Offset of TIME_EVT_ENABLE. -/
def TIME_EVT_ENABLE : Nat := 0x046F0
/-- Offset of TIME_EVT_STATUS. -/
def TIME_EVT_STATUS : Nat := 0x046F4
/-- Offset of PTP_CTRL. -/
def PTP_CTRL : Nat := 0x04700
def PTP_CTRL_PROFILE : Fld := ⟨PTP_CTRL, 30, 2⟩
def PTP_CTRL_TYPE : Fld := ⟨PTP_CTRL, 28, 2⟩
def PTP_CTRL_DOMAIN : Fld := ⟨PTP_CTRL, 20, 8⟩
/-- Offset of PTP_PRIORITY1. -/
def PTP_PRIORITY1 : Nat := 0x04704
def PTP_PRIORITY1_V : Fld := ⟨PTP_PRIORITY1, 0, 8⟩
/-- Offset of PTP_PRIORITY2. -/
def PTP_PRIORITY2 : Nat := 0x04708
def PTP_PRIORITY2_V : Fld := ⟨PTP_PRIORITY2, 0, 8⟩
/-- Offset of PTP_QUALITY. -/
def PTP_QUALITY : Nat := 0x0470C
def PTP_QUALITY_CLASS : Fld := ⟨PTP_QUALITY, 24, 8⟩
def PTP_QUALITY_ACCURACY : Fld := ⟨PTP_QUALITY, 16, 8⟩
def PTP_QUALITY_VARIANCE : Fld := ⟨PTP_QUALITY, 0, 16⟩
/-- Offset of PTP_HOLDOVER_CLASS. -/
def PTP_HOLDOVER_CLASS : Nat := 0x04710
def PTP_HOLDOVER_CLASS_V : Fld := ⟨PTP_HOLDOVER_CLASS, 0, 8⟩
/-- Offset of PTP_IDENTITY_HI. -/
def PTP_IDENTITY_HI : Nat := 0x04714
def PTP_IDENTITY_HI_V : Fld := ⟨PTP_IDENTITY_HI, 0, 32⟩
/-- Offset of PTP_IDENTITY_LO. -/
def PTP_IDENTITY_LO : Nat := 0x04718
def PTP_IDENTITY_LO_V : Fld := ⟨PTP_IDENTITY_LO, 0, 32⟩
/-- Offset of PTP_UTC_OFFSET. -/
def PTP_UTC_OFFSET : Nat := 0x0471C
def PTP_UTC_OFFSET_V : Fld := ⟨PTP_UTC_OFFSET, 0, 16⟩
/-- Offset of PTP_UTC_FLAGS. -/
def PTP_UTC_FLAGS : Nat := 0x04720
def PTP_UTC_FLAGS_TIME_SOURCE : Fld := ⟨PTP_UTC_FLAGS, 24, 8⟩
def PTP_UTC_FLAGS_FREQ_TRACEABLE : Fld := ⟨PTP_UTC_FLAGS, 4, 1⟩
def PTP_UTC_FLAGS_TIME_TRACEABLE : Fld := ⟨PTP_UTC_FLAGS, 3, 1⟩
def PTP_UTC_FLAGS_LEAP59 : Fld := ⟨PTP_UTC_FLAGS, 2, 1⟩
def PTP_UTC_FLAGS_LEAP61 : Fld := ⟨PTP_UTC_FLAGS, 1, 1⟩
def PTP_UTC_FLAGS_UTC_OFFSET_VALID : Fld := ⟨PTP_UTC_FLAGS, 0, 1⟩
/-- Offset of PTP_PARENT_HI. -/
def PTP_PARENT_HI : Nat := 0x04724
def PTP_PARENT_HI_V : Fld := ⟨PTP_PARENT_HI, 0, 32⟩
/-- Offset of PTP_PARENT_LO. -/
def PTP_PARENT_LO : Nat := 0x04728
def PTP_PARENT_LO_V : Fld := ⟨PTP_PARENT_LO, 0, 32⟩
/-- Offset of PTP_GM_HI. -/
def PTP_GM_HI : Nat := 0x0472C
def PTP_GM_HI_V : Fld := ⟨PTP_GM_HI, 0, 32⟩
/-- Offset of PTP_GM_LO. -/
def PTP_GM_LO : Nat := 0x04730
def PTP_GM_LO_V : Fld := ⟨PTP_GM_LO, 0, 32⟩
/-- Offset of PTP_STEPS_REMOVED. -/
def PTP_STEPS_REMOVED : Nat := 0x04734
def PTP_STEPS_REMOVED_V : Fld := ⟨PTP_STEPS_REMOVED, 0, 16⟩
/-- Offset of PTP_SMk. -/
def PTP_SMk (k : Nat) : Nat := 0x04738 + 0x4 * k
def PTP_SMk_V (k : Nat) : Fld := ⟨PTP_SMk k, 0, 32⟩
/-- Offset of PTPp_CTRL. -/
def PTPp_CTRL (p : Nat) : Nat := 0x04800 + 0x200 * p
def PTPp_CTRL_VLAN (p : Nat) : Fld := ⟨PTPp_CTRL p, 6, 1⟩
def PTPp_CTRL_ONE_STEP (p : Nat) : Fld := ⟨PTPp_CTRL p, 5, 1⟩
def PTPp_CTRL_TRANSPORT (p : Nat) : Fld := ⟨PTPp_CTRL p, 3, 2⟩
def PTPp_CTRL_ROLE (p : Nat) : Fld := ⟨PTPp_CTRL p, 1, 2⟩
def PTPp_CTRL_ENABLE (p : Nat) : Fld := ⟨PTPp_CTRL p, 0, 1⟩
/-- Offset of PTPp_INTERVALS. -/
def PTPp_INTERVALS (p : Nat) : Nat := 0x04804 + 0x200 * p
def PTPp_INTERVALS_ANNOUNCE_TIMEOUT (p : Nat) : Fld := ⟨PTPp_INTERVALS p, 24, 8⟩
def PTPp_INTERVALS_LOG_DELAY_REQ (p : Nat) : Fld := ⟨PTPp_INTERVALS p, 16, 8⟩
def PTPp_INTERVALS_LOG_ANNOUNCE (p : Nat) : Fld := ⟨PTPp_INTERVALS p, 8, 8⟩
def PTPp_INTERVALS_LOG_SYNC (p : Nat) : Fld := ⟨PTPp_INTERVALS p, 0, 8⟩
/-- Offset of PTPp_STATE. -/
def PTPp_STATE (p : Nat) : Nat := 0x04808 + 0x200 * p
def PTPp_STATE_V (p : Nat) : Fld := ⟨PTPp_STATE p, 0, 4⟩
/-- Offset of PTPp_VLAN_TCI. -/
def PTPp_VLAN_TCI (p : Nat) : Nat := 0x0480C + 0x200 * p
def PTPp_VLAN_TCI_V (p : Nat) : Fld := ⟨PTPp_VLAN_TCI p, 0, 16⟩
/-- Offset of PTPp_IPV4. -/
def PTPp_IPV4 (p : Nat) : Nat := 0x04810 + 0x200 * p
def PTPp_IPV4_V (p : Nat) : Fld := ⟨PTPp_IPV4 p, 0, 32⟩
/-- Offset of PTPp_IPV6k. -/
def PTPp_IPV6k (p : Nat) (k : Nat) : Nat := 0x04814 + 0x200 * p + 0x4 * k
def PTPp_IPV6k_V (p : Nat) (k : Nat) : Fld := ⟨PTPp_IPV6k p k, 0, 32⟩
/-- Offset of PTPp_MEAN_DELAY. -/
def PTPp_MEAN_DELAY (p : Nat) : Nat := 0x04824 + 0x200 * p
def PTPp_MEAN_DELAY_V (p : Nat) : Fld := ⟨PTPp_MEAN_DELAY p, 0, 32⟩
/-- Offset of PTPp_OFFSET. -/
def PTPp_OFFSET (p : Nat) : Nat := 0x04828 + 0x200 * p
def PTPp_OFFSET_V (p : Nat) : Fld := ⟨PTPp_OFFSET p, 0, 32⟩
/-- Offset of PTPp_ASYM. -/
def PTPp_ASYM (p : Nat) : Nat := 0x0482C + 0x200 * p
def PTPp_ASYM_V (p : Nat) : Fld := ⟨PTPp_ASYM p, 0, 32⟩
/-- Offset of PTPp_COUNTk. -/
def PTPp_COUNTk (p : Nat) (k : Nat) : Nat := 0x04830 + 0x200 * p + 0x4 * k
def PTPp_COUNTk_V (p : Nat) (k : Nat) : Fld := ⟨PTPp_COUNTk p k, 0, 32⟩
/-- Offset of TEAM_TIME_CTRL. -/
def TEAM_TIME_CTRL : Nat := 0x04C00
def TEAM_TIME_CTRL_ENABLE : Fld := ⟨TEAM_TIME_CTRL, 31, 1⟩
def TEAM_TIME_CTRL_UPSTREAM : Fld := ⟨TEAM_TIME_CTRL, 24, 5⟩
def TEAM_TIME_CTRL_DOWNSTREAM : Fld := ⟨TEAM_TIME_CTRL, 0, 16⟩
/-- Offset of TEAM_TIME_STATUS. -/
def TEAM_TIME_STATUS : Nat := 0x04C04
def TEAM_TIME_STATUS_UPSTREAM_VALID : Fld := ⟨TEAM_TIME_STATUS, 31, 1⟩
def TEAM_TIME_STATUS_HOPS : Fld := ⟨TEAM_TIME_STATUS, 24, 4⟩
def TEAM_TIME_STATUS_LEADER_NODE_ID : Fld := ⟨TEAM_TIME_STATUS, 0, 16⟩
/-- Offset of TEAM_NODE_ID. -/
def TEAM_NODE_ID : Nat := 0x04C08
def TEAM_NODE_ID_V : Fld := ⟨TEAM_NODE_ID, 0, 16⟩
/-- Offset of TEAM_SYNC_INTERVAL. -/
def TEAM_SYNC_INTERVAL : Nat := 0x04C0C
def TEAM_SYNC_INTERVAL_V : Fld := ⟨TEAM_SYNC_INTERVAL, 0, 32⟩
/-- Offset of TTLk_ASYM. -/
def TTLk_ASYM (k : Nat) : Nat := 0x04C40 + 0x10 * k
def TTLk_ASYM_V (k : Nat) : Fld := ⟨TTLk_ASYM k, 0, 32⟩
/-- Offset of TTLk_DELAY. -/
def TTLk_DELAY (k : Nat) : Nat := 0x04C44 + 0x10 * k
def TTLk_DELAY_V (k : Nat) : Fld := ⟨TTLk_DELAY k, 0, 32⟩
/-- Offset of TTLk_DISCARD. -/
def TTLk_DISCARD (k : Nat) : Nat := 0x04C48 + 0x10 * k
def TTLk_DISCARD_V (k : Nat) : Fld := ⟨TTLk_DISCARD k, 0, 32⟩
/-- Offset of Mm_TRIGGER. -/
def Mm_TRIGGER (m : Nat) : Nat := 0x06000 + 0x10 * m
def Mm_TRIGGER_KIND (m : Nat) : Fld := ⟨Mm_TRIGGER m, 28, 4⟩
def Mm_TRIGGER_SOURCE (m : Nat) : Fld := ⟨Mm_TRIGGER m, 24, 4⟩
def Mm_TRIGGER_PHASE (m : Nat) : Fld := ⟨Mm_TRIGGER m, 20, 4⟩
def Mm_TRIGGER_DELAY_US (m : Nat) : Fld := ⟨Mm_TRIGGER m, 0, 16⟩
/-- Offset of Mm_WHEN. -/
def Mm_WHEN (m : Nat) : Nat := 0x06004 + 0x10 * m
def Mm_WHEN_V (m : Nat) : Fld := ⟨Mm_WHEN m, 0, 32⟩
/-- Offset of Mm_ACTION. -/
def Mm_ACTION (m : Nat) : Nat := 0x06008 + 0x10 * m
def Mm_ACTION_KIND (m : Nat) : Fld := ⟨Mm_ACTION m, 28, 4⟩
def Mm_ACTION_TARGET (m : Nat) : Fld := ⟨Mm_ACTION m, 22, 6⟩
def Mm_ACTION_ARG (m : Nat) : Fld := ⟨Mm_ACTION m, 0, 16⟩
/-- Offset of Mm_CTRL. -/
def Mm_CTRL (m : Nat) : Nat := 0x0600C + 0x10 * m
def Mm_CTRL_ARM (m : Nat) : Fld := ⟨Mm_CTRL m, 31, 1⟩
def Mm_CTRL_REPEAT (m : Nat) : Fld := ⟨Mm_CTRL m, 30, 1⟩
def Mm_CTRL_LATE_POLICY (m : Nat) : Fld := ⟨Mm_CTRL m, 29, 1⟩
def Mm_CTRL_LATE (m : Nat) : Fld := ⟨Mm_CTRL m, 23, 1⟩
def Mm_CTRL_DROPPED (m : Nat) : Fld := ⟨Mm_CTRL m, 22, 1⟩
def Mm_CTRL_FAILED (m : Nat) : Fld := ⟨Mm_CTRL m, 21, 1⟩
def Mm_CTRL_MISSED (m : Nat) : Fld := ⟨Mm_CTRL m, 20, 1⟩
def Mm_CTRL_FIRE_COUNT (m : Nat) : Fld := ⟨Mm_CTRL m, 0, 16⟩
/-- Offset of SCHED_CTRL. -/
def SCHED_CTRL : Nat := 0x07000
def SCHED_CTRL_EVENT_ON_MISS : Fld := ⟨SCHED_CTRL, 3, 1⟩
def SCHED_CTRL_EVENT_ON_FAIL : Fld := ⟨SCHED_CTRL, 2, 1⟩
def SCHED_CTRL_EVENT_ON_DROP : Fld := ⟨SCHED_CTRL, 1, 1⟩
def SCHED_CTRL_EVENT_ON_LATE : Fld := ⟨SCHED_CTRL, 0, 1⟩
/-- Offset of SCHED_STATUS. -/
def SCHED_STATUS : Nat := 0x07004
/-- Offset of SCHED_LATE_COUNT. -/
def SCHED_LATE_COUNT : Nat := 0x07008
def SCHED_LATE_COUNT_V : Fld := ⟨SCHED_LATE_COUNT, 0, 32⟩
/-- Offset of SCHED_DROP_COUNT. -/
def SCHED_DROP_COUNT : Nat := 0x0700C
def SCHED_DROP_COUNT_V : Fld := ⟨SCHED_DROP_COUNT, 0, 32⟩
/-- Offset of SCHED_FAIL_COUNT. -/
def SCHED_FAIL_COUNT : Nat := 0x07010
def SCHED_FAIL_COUNT_V : Fld := ⟨SCHED_FAIL_COUNT, 0, 32⟩
/-- Offset of SCHED_MISS_COUNT. -/
def SCHED_MISS_COUNT : Nat := 0x07014
def SCHED_MISS_COUNT_V : Fld := ⟨SCHED_MISS_COUNT, 0, 32⟩
/-- Offset of SCHED_LAST. -/
def SCHED_LAST : Nat := 0x07018
def SCHED_LAST_CAUSE : Fld := ⟨SCHED_LAST, 24, 8⟩
def SCHED_LAST_MARK : Fld := ⟨SCHED_LAST, 0, 8⟩
/-- Offset of SCHED_DISARM_ALL. -/
def SCHED_DISARM_ALL : Nat := 0x0701C
/-- Offset of INn_CTRL. -/
def INn_CTRL (n : Nat) : Nat := 0x08000 + 0x100 * n
def INn_CTRL_ENABLE (n : Nat) : Fld := ⟨INn_CTRL n, 31, 1⟩
def INn_CTRL_FORMAT (n : Nat) : Fld := ⟨INn_CTRL n, 24, 4⟩
def INn_CTRL_FB_COUNT (n : Nat) : Fld := ⟨INn_CTRL n, 20, 3⟩
/-- Offset of INn_SIZE. -/
def INn_SIZE (n : Nat) : Nat := 0x08004 + 0x100 * n
def INn_SIZE_WIDTH (n : Nat) : Fld := ⟨INn_SIZE n, 16, 16⟩
def INn_SIZE_HEIGHT (n : Nat) : Fld := ⟨INn_SIZE n, 0, 16⟩
/-- Offset of INn_FB_BASE. -/
def INn_FB_BASE (n : Nat) : Nat := 0x08008 + 0x100 * n
def INn_FB_BASE_V (n : Nat) : Fld := ⟨INn_FB_BASE n, 0, 32⟩
/-- Offset of INn_TPG_CTRL. -/
def INn_TPG_CTRL (n : Nat) : Nat := 0x08010 + 0x100 * n
def INn_TPG_CTRL_ENABLE (n : Nat) : Fld := ⟨INn_TPG_CTRL n, 31, 1⟩
def INn_TPG_CTRL_PATTERN (n : Nat) : Fld := ⟨INn_TPG_CTRL n, 28, 3⟩
def INn_TPG_CTRL_VTOTAL (n : Nat) : Fld := ⟨INn_TPG_CTRL n, 0, 14⟩
/-- Offset of INn_TPG_COLOUR. -/
def INn_TPG_COLOUR (n : Nat) : Nat := 0x08014 + 0x100 * n
def INn_TPG_COLOUR_R_OR_Y (n : Nat) : Fld := ⟨INn_TPG_COLOUR n, 20, 10⟩
def INn_TPG_COLOUR_G_OR_CB (n : Nat) : Fld := ⟨INn_TPG_COLOUR n, 10, 10⟩
def INn_TPG_COLOUR_B_OR_CR (n : Nat) : Fld := ⟨INn_TPG_COLOUR n, 0, 10⟩
/-- Offset of INn_STATUS. -/
def INn_STATUS (n : Nat) : Nat := 0x08018 + 0x100 * n
def INn_STATUS_STATE (n : Nat) : Fld := ⟨INn_STATUS n, 29, 3⟩
def INn_STATUS_SKIPPED (n : Nat) : Fld := ⟨INn_STATUS n, 23, 1⟩
def INn_STATUS_CONCEALED (n : Nat) : Fld := ⟨INn_STATUS n, 22, 1⟩
def INn_STATUS_FRAME (n : Nat) : Fld := ⟨INn_STATUS n, 0, 16⟩
/-- Offset of INn_POS. -/
def INn_POS (n : Nat) : Nat := 0x0801C + 0x100 * n
def INn_POS_FRAME (n : Nat) : Fld := ⟨INn_POS n, 16, 16⟩
def INn_POS_LINE (n : Nat) : Fld := ⟨INn_POS n, 0, 16⟩
/-- Offset of INn_LAST_ERR. -/
def INn_LAST_ERR (n : Nat) : Nat := 0x08020 + 0x100 * n
def INn_LAST_ERR_CAUSE (n : Nat) : Fld := ⟨INn_LAST_ERR n, 28, 4⟩
def INn_LAST_ERR_FRAME (n : Nat) : Fld := ⟨INn_LAST_ERR n, 16, 12⟩
def INn_LAST_ERR_LINE (n : Nat) : Fld := ⟨INn_LAST_ERR n, 0, 13⟩
/-- Offset of INn_LINE_PERIOD. -/
def INn_LINE_PERIOD (n : Nat) : Nat := 0x08024 + 0x100 * n
def INn_LINE_PERIOD_V (n : Nat) : Fld := ⟨INn_LINE_PERIOD n, 0, 32⟩
/-- Offset of INn_EXPOSURE_NS. -/
def INn_EXPOSURE_NS (n : Nat) : Nat := 0x0802C + 0x100 * n
def INn_EXPOSURE_NS_V (n : Nat) : Fld := ⟨INn_EXPOSURE_NS n, 0, 32⟩
/-- Offset of LLh_CTRL. -/
def LLh_CTRL (h : Nat) : Nat := 0x08400 + 0x20 * h
def LLh_CTRL_ENABLE (h : Nat) : Fld := ⟨LLh_CTRL h, 31, 1⟩
def LLh_CTRL_STREAM (h : Nat) : Fld := ⟨LLh_CTRL h, 28, 2⟩
def LLh_CTRL_STATE (h : Nat) : Fld := ⟨LLh_CTRL h, 26, 2⟩
def LLh_CTRL_LAG (h : Nat) : Fld := ⟨LLh_CTRL h, 0, 11⟩
/-- Offset of LLh_ANCHOR_NS. -/
def LLh_ANCHOR_NS (h : Nat) : Nat := 0x08404 + 0x20 * h
def LLh_ANCHOR_NS_V (h : Nat) : Fld := ⟨LLh_ANCHOR_NS h, 0, 32⟩
/-- Offset of LLh_MARGIN_NS. -/
def LLh_MARGIN_NS (h : Nat) : Nat := 0x0840C + 0x20 * h
def LLh_MARGIN_NS_V (h : Nat) : Fld := ⟨LLh_MARGIN_NS h, 0, 32⟩
/-- Offset of LLh_UNDERRUN_COUNT. -/
def LLh_UNDERRUN_COUNT (h : Nat) : Nat := 0x08410 + 0x20 * h
def LLh_UNDERRUN_COUNT_V (h : Nat) : Fld := ⟨LLh_UNDERRUN_COUNT h, 0, 32⟩
/-- Offset of OVh_p_BASE. -/
def OVh_p_BASE (h : Nat) (p : Nat) : Nat := 0x08800 + 0x40 * h + 0x10 * p
def OVh_p_BASE_V (h : Nat) (p : Nat) : Fld := ⟨OVh_p_BASE h p, 0, 32⟩
/-- Offset of OVh_p_CTRL. -/
def OVh_p_CTRL (h : Nat) (p : Nat) : Nat := 0x08804 + 0x40 * h + 0x10 * p
def OVh_p_CTRL_ENABLE (h : Nat) (p : Nat) : Fld := ⟨OVh_p_CTRL h p, 31, 1⟩
def OVh_p_CTRL_FORMAT (h : Nat) (p : Nat) : Fld := ⟨OVh_p_CTRL h p, 24, 4⟩
def OVh_p_CTRL_GLOBAL_ALPHA (h : Nat) (p : Nat) : Fld := ⟨OVh_p_CTRL h p, 16, 8⟩
def OVh_p_CTRL_STRIDE (h : Nat) (p : Nat) : Fld := ⟨OVh_p_CTRL h p, 0, 10⟩
/-- Offset of OVh_p_SIZE. -/
def OVh_p_SIZE (h : Nat) (p : Nat) : Nat := 0x08808 + 0x40 * h + 0x10 * p
def OVh_p_SIZE_WIDTH (h : Nat) (p : Nat) : Fld := ⟨OVh_p_SIZE h p, 16, 16⟩
def OVh_p_SIZE_HEIGHT (h : Nat) (p : Nat) : Fld := ⟨OVh_p_SIZE h p, 0, 16⟩
/-- Offset of OVh_p_POS. -/
def OVh_p_POS (h : Nat) (p : Nat) : Nat := 0x0880C + 0x40 * h + 0x10 * p
def OVh_p_POS_X (h : Nat) (p : Nat) : Fld := ⟨OVh_p_POS h p, 16, 16⟩
def OVh_p_POS_Y (h : Nat) (p : Nat) : Fld := ⟨OVh_p_POS h p, 0, 16⟩
/-- Offset of FAB_STATUS. -/
def FAB_STATUS : Nat := 0x10000
def FAB_STATUS_SUB_BUSY : Fld := ⟨FAB_STATUS, 31, 1⟩
def FAB_STATUS_SUB_FROM : Fld := ⟨FAB_STATUS, 24, 5⟩
def FAB_STATUS_SUB_TO : Fld := ⟨FAB_STATUS, 16, 5⟩
def FAB_STATUS_SUB_HEAD : Fld := ⟨FAB_STATUS, 8, 3⟩
def FAB_STATUS_WAITING : Fld := ⟨FAB_STATUS, 0, 5⟩
/-- Offset of FAB_SUB_LAST. -/
def FAB_SUB_LAST : Nat := 0x10004
def FAB_SUB_LAST_VALID : Fld := ⟨FAB_SUB_LAST, 31, 1⟩
def FAB_SUB_LAST_RESULT : Fld := ⟨FAB_SUB_LAST, 29, 2⟩
def FAB_SUB_LAST_FROM : Fld := ⟨FAB_SUB_LAST, 24, 5⟩
def FAB_SUB_LAST_TO : Fld := ⟨FAB_SUB_LAST, 16, 5⟩
def FAB_SUB_LAST_FRAME : Fld := ⟨FAB_SUB_LAST, 0, 16⟩
/-- Offset of FAB_SUB_COUNT. -/
def FAB_SUB_COUNT : Nat := 0x10008
def FAB_SUB_COUNT_V : Fld := ⟨FAB_SUB_COUNT, 0, 32⟩
/-- Offset of SEk_STATUS. -/
def SEk_STATUS (k : Nat) : Nat := 0x10100 + 0x10 * k
def SEk_STATUS_STATE (k : Nat) : Fld := ⟨SEk_STATUS k, 28, 4⟩
def SEk_STATUS_BIST_FAIL (k : Nat) : Fld := ⟨SEk_STATUS k, 27, 1⟩
def SEk_STATUS_TYPE (k : Nat) : Fld := ⟨SEk_STATUS k, 20, 4⟩
def SEk_STATUS_STRIPE (k : Nat) : Fld := ⟨SEk_STATUS k, 18, 2⟩
def SEk_STATUS_STRIPES (k : Nat) : Fld := ⟨SEk_STATUS k, 16, 2⟩
def SEk_STATUS_HEAD (k : Nat) : Fld := ⟨SEk_STATUS k, 0, 4⟩
/-- Offset of SEk_STRIPE. -/
def SEk_STRIPE (k : Nat) : Nat := 0x10104 + 0x10 * k
def SEk_STRIPE_FIRST (k : Nat) : Fld := ⟨SEk_STRIPE k, 16, 16⟩
def SEk_STRIPE_WIDTH (k : Nat) : Fld := ⟨SEk_STRIPE k, 0, 16⟩
/-- Offset of SEk_PIXELS. -/
def SEk_PIXELS (k : Nat) : Nat := 0x10108 + 0x10 * k
def SEk_PIXELS_V (k : Nat) : Fld := ⟨SEk_PIXELS k, 0, 32⟩
/-- Offset of SEk_ERR_COUNT. -/
def SEk_ERR_COUNT (k : Nat) : Nat := 0x1010C + 0x10 * k
def SEk_ERR_COUNT_V (k : Nat) : Fld := ⟨SEk_ERR_COUNT k, 0, 32⟩
/-- Offset of STh_BYPASS. -/
def STh_BYPASS (h : Nat) : Nat := 0x11000 + 0x100 * h
def STh_BYPASS_V (h : Nat) : Fld := ⟨STh_BYPASS h, 0, 16⟩
/-- Offset of STh_STATUS. -/
def STh_STATUS (h : Nat) : Nat := 0x11004 + 0x100 * h
def STh_STATUS_OVERLOAD (h : Nat) : Fld := ⟨STh_STATUS h, 31, 1⟩
def STh_STATUS_WINDOW_CLIPPED (h : Nat) : Fld := ⟨STh_STATUS h, 30, 1⟩
def STh_STATUS_PLANE_LATE (h : Nat) : Fld := ⟨STh_STATUS h, 29, 1⟩
def STh_STATUS_PARITY (h : Nat) : Fld := ⟨STh_STATUS h, 28, 1⟩
def STh_STATUS_LM_ERROR (h : Nat) : Fld := ⟨STh_STATUS h, 27, 1⟩
/-- Offset of STh_UNPACK. -/
def STh_UNPACK (h : Nat) : Nat := 0x11008 + 0x100 * h
def STh_UNPACK_CHROMA_REPLICATE (h : Nat) : Fld := ⟨STh_UNPACK h, 8, 1⟩
def STh_UNPACK_QFORMAT (h : Nat) : Fld := ⟨STh_UNPACK h, 0, 4⟩
/-- Offset of STh_CSC_Ci. -/
def STh_CSC_Ci (h : Nat) (i : Nat) : Nat := 0x1100C + 0x100 * h + 0x4 * i
/-- Offset of STh_LUT1D_CTRL. -/
def STh_LUT1D_CTRL (h : Nat) : Nat := 0x11040 + 0x100 * h
def STh_LUT1D_CTRL_V (h : Nat) : Fld := ⟨STh_LUT1D_CTRL h, 0, 1⟩
/-- Offset of STh_LUT3D_CTRL. -/
def STh_LUT3D_CTRL (h : Nat) : Nat := 0x11044 + 0x100 * h
def STh_LUT3D_CTRL_V (h : Nat) : Fld := ⟨STh_LUT3D_CTRL h, 0, 1⟩
/-- Offset of STh_SCALE_CTRL. -/
def STh_SCALE_CTRL (h : Nat) : Nat := 0x11048 + 0x100 * h
def STh_SCALE_CTRL_VCOEF_TABLE (h : Nat) : Fld := ⟨STh_SCALE_CTRL h, 1, 1⟩
def STh_SCALE_CTRL_HCOEF_TABLE (h : Nat) : Fld := ⟨STh_SCALE_CTRL h, 0, 1⟩
/-- Offset of STh_SCALE_IN_POS. -/
def STh_SCALE_IN_POS (h : Nat) : Nat := 0x1104C + 0x100 * h
def STh_SCALE_IN_POS_X0 (h : Nat) : Fld := ⟨STh_SCALE_IN_POS h, 16, 16⟩
def STh_SCALE_IN_POS_Y0 (h : Nat) : Fld := ⟨STh_SCALE_IN_POS h, 0, 16⟩
/-- Offset of STh_SCALE_IN_SIZE. -/
def STh_SCALE_IN_SIZE (h : Nat) : Nat := 0x11050 + 0x100 * h
def STh_SCALE_IN_SIZE_W_IN (h : Nat) : Fld := ⟨STh_SCALE_IN_SIZE h, 16, 16⟩
def STh_SCALE_IN_SIZE_H_IN (h : Nat) : Fld := ⟨STh_SCALE_IN_SIZE h, 0, 16⟩
/-- Offset of STh_SCALE_OUT_POS. -/
def STh_SCALE_OUT_POS (h : Nat) : Nat := 0x11054 + 0x100 * h
def STh_SCALE_OUT_POS_X_OUT0 (h : Nat) : Fld := ⟨STh_SCALE_OUT_POS h, 16, 16⟩
def STh_SCALE_OUT_POS_V0 (h : Nat) : Fld := ⟨STh_SCALE_OUT_POS h, 0, 16⟩
/-- Offset of STh_SCALE_OUT_SIZE. -/
def STh_SCALE_OUT_SIZE (h : Nat) : Nat := 0x11058 + 0x100 * h
def STh_SCALE_OUT_SIZE_W_OUT (h : Nat) : Fld := ⟨STh_SCALE_OUT_SIZE h, 16, 16⟩
def STh_SCALE_OUT_SIZE_H_OUT (h : Nat) : Fld := ⟨STh_SCALE_OUT_SIZE h, 0, 16⟩
/-- Offset of STh_SCALE_BORDER. -/
def STh_SCALE_BORDER (h : Nat) : Nat := 0x1105C + 0x100 * h
def STh_SCALE_BORDER_C0 (h : Nat) : Fld := ⟨STh_SCALE_BORDER h, 20, 10⟩
def STh_SCALE_BORDER_C1 (h : Nat) : Fld := ⟨STh_SCALE_BORDER h, 10, 10⟩
def STh_SCALE_BORDER_C2 (h : Nat) : Fld := ⟨STh_SCALE_BORDER h, 0, 10⟩
/-- Offset of STh_SCALE_HRATIO. -/
def STh_SCALE_HRATIO (h : Nat) : Nat := 0x11060 + 0x100 * h
def STh_SCALE_HRATIO_V (h : Nat) : Fld := ⟨STh_SCALE_HRATIO h, 0, 18⟩
/-- Offset of STh_SCALE_VRATIO. -/
def STh_SCALE_VRATIO (h : Nat) : Nat := 0x11064 + 0x100 * h
def STh_SCALE_VRATIO_V (h : Nat) : Fld := ⟨STh_SCALE_VRATIO h, 0, 18⟩
/-- Offset of STh_COMPOSE_CTRL. -/
def STh_COMPOSE_CTRL (h : Nat) : Nat := 0x11068 + 0x100 * h
def STh_COMPOSE_CTRL_V (h : Nat) : Fld := ⟨STh_COMPOSE_CTRL h, 0, 1⟩
/-- Offset of STh_TILESIG_CTRL. -/
def STh_TILESIG_CTRL (h : Nat) : Nat := 0x1106C + 0x100 * h
def STh_TILESIG_CTRL_V (h : Nat) : Fld := ⟨STh_TILESIG_CTRL h, 0, 1⟩
/-- Offset of STh_TILESIG_CHANGED. -/
def STh_TILESIG_CHANGED (h : Nat) : Nat := 0x11070 + 0x100 * h
def STh_TILESIG_CHANGED_V (h : Nat) : Fld := ⟨STh_TILESIG_CHANGED h, 0, 21⟩
/-- Offset of STh_FORMAT_CTRL. -/
def STh_FORMAT_CTRL (h : Nat) : Nat := 0x11074 + 0x100 * h
def STh_FORMAT_CTRL_DUPLICATE (h : Nat) : Fld := ⟨STh_FORMAT_CTRL h, 8, 1⟩
def STh_FORMAT_CTRL_ORDER (h : Nat) : Fld := ⟨STh_FORMAT_CTRL h, 4, 2⟩
def STh_FORMAT_CTRL_DEPTH (h : Nat) : Fld := ⟨STh_FORMAT_CTRL h, 0, 4⟩
/-- Offset of STh_FORMAT_SEG. -/
def STh_FORMAT_SEG (h : Nat) : Nat := 0x11078 + 0x100 * h
def STh_FORMAT_SEG_LINKS (h : Nat) : Fld := ⟨STh_FORMAT_SEG h, 16, 5⟩
def STh_FORMAT_SEG_WIDTH (h : Nat) : Fld := ⟨STh_FORMAT_SEG h, 0, 16⟩
/-- Offset of STh_ASa_CTRL. -/
def STh_ASa_CTRL (h : Nat) (a : Nat) : Nat := 0x11080 + 0x100 * h + 0x20 * a
def STh_ASa_CTRL_LUMA_C0 (h : Nat) (a : Nat) : Fld := ⟨STh_ASa_CTRL h a, 12, 1⟩
def STh_ASa_CTRL_ZEBRA_MOVE (h : Nat) (a : Nat) : Fld := ⟨STh_ASa_CTRL h a, 4, 1⟩
def STh_ASa_CTRL_PEAK (h : Nat) (a : Nat) : Fld := ⟨STh_ASa_CTRL h a, 3, 1⟩
def STh_ASa_CTRL_ZEBRA (h : Nat) (a : Nat) : Fld := ⟨STh_ASa_CTRL h a, 2, 1⟩
def STh_ASa_CTRL_FALSE_COLOUR (h : Nat) (a : Nat) : Fld := ⟨STh_ASa_CTRL h a, 1, 1⟩
def STh_ASa_CTRL_HIST (h : Nat) (a : Nat) : Fld := ⟨STh_ASa_CTRL h a, 0, 1⟩
/-- Offset of STh_ASa_WIN_POS. -/
def STh_ASa_WIN_POS (h : Nat) (a : Nat) : Nat := 0x11084 + 0x100 * h + 0x20 * a
def STh_ASa_WIN_POS_X (h : Nat) (a : Nat) : Fld := ⟨STh_ASa_WIN_POS h a, 16, 16⟩
def STh_ASa_WIN_POS_Y (h : Nat) (a : Nat) : Fld := ⟨STh_ASa_WIN_POS h a, 0, 16⟩
/-- Offset of STh_ASa_WIN_SIZE. -/
def STh_ASa_WIN_SIZE (h : Nat) (a : Nat) : Nat := 0x11088 + 0x100 * h + 0x20 * a
def STh_ASa_WIN_SIZE_W (h : Nat) (a : Nat) : Fld := ⟨STh_ASa_WIN_SIZE h a, 16, 16⟩
def STh_ASa_WIN_SIZE_H (h : Nat) (a : Nat) : Fld := ⟨STh_ASa_WIN_SIZE h a, 0, 16⟩
/-- Offset of STh_ASa_HIST_STATUS. -/
def STh_ASa_HIST_STATUS (h : Nat) (a : Nat) : Nat := 0x1108C + 0x100 * h + 0x20 * a
def STh_ASa_HIST_STATUS_VALID (h : Nat) (a : Nat) : Fld := ⟨STh_ASa_HIST_STATUS h a, 31, 1⟩
def STh_ASa_HIST_STATUS_BUF (h : Nat) (a : Nat) : Fld := ⟨STh_ASa_HIST_STATUS h a, 30, 1⟩
def STh_ASa_HIST_STATUS_FRAME (h : Nat) (a : Nat) : Fld := ⟨STh_ASa_HIST_STATUS h a, 0, 16⟩
/-- Offset of STh_ASa_PEAK. -/
def STh_ASa_PEAK (h : Nat) (a : Nat) : Nat := 0x11090 + 0x100 * h + 0x20 * a
def STh_ASa_PEAK_V (h : Nat) (a : Nat) : Fld := ⟨STh_ASa_PEAK h a, 0, 16⟩
/-- Offset of STh_ASa_PEAK_COLOUR. -/
def STh_ASa_PEAK_COLOUR (h : Nat) (a : Nat) : Nat := 0x11094 + 0x100 * h + 0x20 * a
def STh_ASa_PEAK_COLOUR_C0 (h : Nat) (a : Nat) : Fld := ⟨STh_ASa_PEAK_COLOUR h a, 20, 10⟩
def STh_ASa_PEAK_COLOUR_C1 (h : Nat) (a : Nat) : Fld := ⟨STh_ASa_PEAK_COLOUR h a, 10, 10⟩
def STh_ASa_PEAK_COLOUR_C2 (h : Nat) (a : Nat) : Fld := ⟨STh_ASa_PEAK_COLOUR h a, 0, 10⟩
/-- Offset of STh_ASa_ZEBRA. -/
def STh_ASa_ZEBRA (h : Nat) (a : Nat) : Nat := 0x11098 + 0x100 * h + 0x20 * a
def STh_ASa_ZEBRA_LOW (h : Nat) (a : Nat) : Fld := ⟨STh_ASa_ZEBRA h a, 16, 16⟩
def STh_ASa_ZEBRA_HIGH (h : Nat) (a : Nat) : Fld := ⟨STh_ASa_ZEBRA h a, 0, 16⟩
/-- Offset of STh_ASa_ZEBRA_COLOUR. -/
def STh_ASa_ZEBRA_COLOUR (h : Nat) (a : Nat) : Nat := 0x1109C + 0x100 * h + 0x20 * a
def STh_ASa_ZEBRA_COLOUR_C0 (h : Nat) (a : Nat) : Fld := ⟨STh_ASa_ZEBRA_COLOUR h a, 20, 10⟩
def STh_ASa_ZEBRA_COLOUR_C1 (h : Nat) (a : Nat) : Fld := ⟨STh_ASa_ZEBRA_COLOUR h a, 10, 10⟩
def STh_ASa_ZEBRA_COLOUR_C2 (h : Nat) (a : Nat) : Fld := ⟨STh_ASa_ZEBRA_COLOUR h a, 0, 10⟩
/-- Offset of STh_UNIF_CTRL. -/
def STh_UNIF_CTRL (h : Nat) : Nat := 0x14000 + 0x100 * h
def STh_UNIF_CTRL_COARSE (h : Nat) : Fld := ⟨STh_UNIF_CTRL h, 1, 1⟩
def STh_UNIF_CTRL_SEL (h : Nat) : Fld := ⟨STh_UNIF_CTRL h, 0, 1⟩
/-- Offset of STh_UNIF_MAP0. -/
def STh_UNIF_MAP0 (h : Nat) : Nat := 0x14004 + 0x100 * h
def STh_UNIF_MAP0_V (h : Nat) : Fld := ⟨STh_UNIF_MAP0 h, 0, 32⟩
/-- Offset of STh_UNIF_MAP1. -/
def STh_UNIF_MAP1 (h : Nat) : Nat := 0x14008 + 0x100 * h
def STh_UNIF_MAP1_V (h : Nat) : Fld := ⟨STh_UNIF_MAP1 h, 0, 32⟩
/-- Offset of STh_UNIF_STATUS. -/
def STh_UNIF_STATUS (h : Nat) : Nat := 0x1400C + 0x100 * h
def STh_UNIF_STATUS_MAP_ERR (h : Nat) : Fld := ⟨STh_UNIF_STATUS h, 31, 1⟩
def STh_UNIF_STATUS_MAP_LATE (h : Nat) : Fld := ⟨STh_UNIF_STATUS h, 30, 1⟩
/-- Offset of STh_UNIF_ERR_COUNT. -/
def STh_UNIF_ERR_COUNT (h : Nat) : Nat := 0x14010 + 0x100 * h
def STh_UNIF_ERR_COUNT_V (h : Nat) : Fld := ⟨STh_UNIF_ERR_COUNT h, 0, 32⟩
/-- Offset of STh_UNIF_READ_BYTES. -/
def STh_UNIF_READ_BYTES (h : Nat) : Nat := 0x14014 + 0x100 * h
def STh_UNIF_READ_BYTES_V (h : Nat) : Fld := ⟨STh_UNIF_READ_BYTES h, 0, 32⟩
/-- Offset of STh_OD_CTRL. -/
def STh_OD_CTRL (h : Nat) : Nat := 0x14020 + 0x100 * h
def STh_OD_CTRL_V (h : Nat) : Fld := ⟨STh_OD_CTRL h, 0, 4⟩
/-- Offset of STh_OD_ANCHOR_BASE. -/
def STh_OD_ANCHOR_BASE (h : Nat) : Nat := 0x14024 + 0x100 * h
def STh_OD_ANCHOR_BASE_V (h : Nat) : Fld := ⟨STh_OD_ANCHOR_BASE h, 0, 32⟩
/-- Offset of STh_OD_HIST_BASE. -/
def STh_OD_HIST_BASE (h : Nat) : Nat := 0x14028 + 0x100 * h
def STh_OD_HIST_BASE_V (h : Nat) : Fld := ⟨STh_OD_HIST_BASE h, 0, 32⟩
/-- Offset of STh_OD_STATUS. -/
def STh_OD_STATUS (h : Nat) : Nat := 0x1402C + 0x100 * h
def STh_OD_STATUS_TABLE (h : Nat) : Fld := ⟨STh_OD_STATUS h, 31, 1⟩
def STh_OD_STATUS_TABLE_BAND (h : Nat) : Fld := ⟨STh_OD_STATUS h, 28, 3⟩
def STh_OD_STATUS_TABLE_BUF (h : Nat) : Fld := ⟨STh_OD_STATUS h, 27, 1⟩
def STh_OD_STATUS_BUILDING (h : Nat) : Fld := ⟨STh_OD_STATUS h, 26, 1⟩
def STh_OD_STATUS_BUILD_BAND (h : Nat) : Fld := ⟨STh_OD_STATUS h, 23, 3⟩
def STh_OD_STATUS_ANCHOR_ERR (h : Nat) : Fld := ⟨STh_OD_STATUS h, 22, 1⟩
def STh_OD_STATUS_STALE (h : Nat) : Fld := ⟨STh_OD_STATUS h, 21, 1⟩
def STh_OD_STATUS_RESTART (h : Nat) : Fld := ⟨STh_OD_STATUS h, 20, 1⟩
def STh_OD_STATUS_VALID_ANCHORS (h : Nat) : Fld := ⟨STh_OD_STATUS h, 16, 4⟩
def STh_OD_STATUS_GEN (h : Nat) : Fld := ⟨STh_OD_STATUS h, 0, 8⟩
/-- Offset of STh_OD_TRUNC_COUNT. -/
def STh_OD_TRUNC_COUNT (h : Nat) : Nat := 0x14030 + 0x100 * h
def STh_OD_TRUNC_COUNT_V (h : Nat) : Fld := ⟨STh_OD_TRUNC_COUNT h, 0, 32⟩
/-- Offset of STh_OD_UNCOVERED_COUNT. -/
def STh_OD_UNCOVERED_COUNT (h : Nat) : Nat := 0x14034 + 0x100 * h
def STh_OD_UNCOVERED_COUNT_V (h : Nat) : Fld := ⟨STh_OD_UNCOVERED_COUNT h, 0, 32⟩
/-- Offset of STh_OD_STALE_COUNT. -/
def STh_OD_STALE_COUNT (h : Nat) : Nat := 0x14038 + 0x100 * h
def STh_OD_STALE_COUNT_V (h : Nat) : Fld := ⟨STh_OD_STALE_COUNT h, 0, 32⟩
/-- Offset of STh_OD_BUILD_US. -/
def STh_OD_BUILD_US (h : Nat) : Nat := 0x1403C + 0x100 * h
def STh_OD_BUILD_US_V (h : Nat) : Fld := ⟨STh_OD_BUILD_US h, 0, 32⟩
/-- Offset of STh_OD_HIST_BYTES. -/
def STh_OD_HIST_BYTES (h : Nat) : Nat := 0x14040 + 0x100 * h
def STh_OD_HIST_BYTES_V (h : Nat) : Fld := ⟨STh_OD_HIST_BYTES h, 0, 32⟩
/-- Offset of STh_DITHER_CTRL. -/
def STh_DITHER_CTRL (h : Nat) : Nat := 0x14048 + 0x100 * h
def STh_DITHER_CTRL_FREEZE_FRAMES (h : Nat) : Fld := ⟨STh_DITHER_CTRL h, 8, 8⟩
def STh_DITHER_CTRL_SEL (h : Nat) : Fld := ⟨STh_DITHER_CTRL h, 6, 1⟩
def STh_DITHER_CTRL_FREEZE (h : Nat) : Fld := ⟨STh_DITHER_CTRL h, 5, 1⟩
def STh_DITHER_CTRL_TEMPORAL (h : Nat) : Fld := ⟨STh_DITHER_CTRL h, 4, 1⟩
def STh_DITHER_CTRL_DEPTH (h : Nat) : Fld := ⟨STh_DITHER_CTRL h, 0, 4⟩
/-- Offset of STh_DITHER_STATUS. -/
def STh_DITHER_STATUS (h : Nat) : Nat := 0x1404C + 0x100 * h
def STh_DITHER_STATUS_STATIC_FRAMES (h : Nat) : Fld := ⟨STh_DITHER_STATUS h, 8, 8⟩
def STh_DITHER_STATUS_FROZEN (h : Nat) : Fld := ⟨STh_DITHER_STATUS h, 2, 1⟩
def STh_DITHER_STATUS_PHASE (h : Nat) : Fld := ⟨STh_DITHER_STATUS h, 0, 2⟩
/-- Offset of STh_HT_CTRL. -/
def STh_HT_CTRL (h : Nat) : Nat := 0x14050 + 0x100 * h
def STh_HT_CTRL_SEL (h : Nat) : Fld := ⟨STh_HT_CTRL h, 4, 1⟩
def STh_HT_CTRL_DEPTH (h : Nat) : Fld := ⟨STh_HT_CTRL h, 0, 3⟩
/-- Offset of STh_HT_ORIGIN. -/
def STh_HT_ORIGIN (h : Nat) : Nat := 0x14054 + 0x100 * h
def STh_HT_ORIGIN_X (h : Nat) : Fld := ⟨STh_HT_ORIGIN h, 16, 6⟩
def STh_HT_ORIGIN_Y (h : Nat) : Fld := ⟨STh_HT_ORIGIN h, 0, 6⟩
/-- Offset of BANDh_CTRL. -/
def BANDh_CTRL (h : Nat) : Nat := 0x14060 + 0x100 * h
def BANDh_CTRL_FORCE (h : Nat) : Fld := ⟨BANDh_CTRL h, 15, 1⟩
def BANDh_CTRL_FORCE_BAND (h : Nat) : Fld := ⟨BANDh_CTRL h, 12, 3⟩
def BANDh_CTRL_FALLBACK (h : Nat) : Fld := ⟨BANDh_CTRL h, 8, 3⟩
def BANDh_CTRL_HYST (h : Nat) : Fld := ⟨BANDh_CTRL h, 0, 8⟩
/-- Offset of BANDh_EDGEk. -/
def BANDh_EDGEk (h : Nat) (k : Nat) : Nat := 0x14064 + 0x100 * h + 0x4 * k
def BANDh_EDGEk_EDGE_HIGH (h : Nat) (k : Nat) : Fld := ⟨BANDh_EDGEk h k, 16, 16⟩
def BANDh_EDGEk_EDGE_LOW (h : Nat) (k : Nat) : Fld := ⟨BANDh_EDGEk h k, 0, 16⟩
/-- Offset of BANDh_STATUS. -/
def BANDh_STATUS (h : Nat) : Nat := 0x14074 + 0x100 * h
def BANDh_STATUS_SOURCE (h : Nat) : Fld := ⟨BANDh_STATUS h, 12, 4⟩
def BANDh_STATUS_FORCED (h : Nat) : Fld := ⟨BANDh_STATUS h, 9, 1⟩
def BANDh_STATUS_FALLBACK (h : Nat) : Fld := ⟨BANDh_STATUS h, 8, 1⟩
def BANDh_STATUS_LATCHED (h : Nat) : Fld := ⟨BANDh_STATUS h, 4, 3⟩
def BANDh_STATUS_TRACKER (h : Nat) : Fld := ⟨BANDh_STATUS h, 0, 3⟩
/-- Offset of BANDh_TEMP. -/
def BANDh_TEMP (h : Nat) : Nat := 0x14078 + 0x100 * h
def BANDh_TEMP_VALID (h : Nat) : Fld := ⟨BANDh_TEMP h, 31, 1⟩
def BANDh_TEMP_TEMP (h : Nat) : Fld := ⟨BANDh_TEMP h, 0, 16⟩
/-- Offset of BANDh_CHANGE_COUNT. -/
def BANDh_CHANGE_COUNT (h : Nat) : Nat := 0x1407C + 0x100 * h
def BANDh_CHANGE_COUNT_V (h : Nat) : Fld := ⟨BANDh_CHANGE_COUNT h, 0, 32⟩
/-- Offset of FAB_CORR_BUILD. -/
def FAB_CORR_BUILD : Nat := 0x17000
def FAB_CORR_BUILD_BUSY : Fld := ⟨FAB_CORR_BUILD, 31, 1⟩
def FAB_CORR_BUILD_HEAD : Fld := ⟨FAB_CORR_BUILD, 28, 3⟩
def FAB_CORR_BUILD_BAND : Fld := ⟨FAB_CORR_BUILD, 24, 3⟩
def FAB_CORR_BUILD_PENDING : Fld := ⟨FAB_CORR_BUILD, 0, 8⟩
/-- Offset of HDn_CTRL. -/
def HDn_CTRL (n : Nat) : Nat := 0x20000 + 0x2000 * n
def HDn_CTRL_V (n : Nat) : Fld := ⟨HDn_CTRL n, 0, 1⟩
/-- Offset of HDn_RESET. -/
def HDn_RESET (n : Nat) : Nat := 0x20004 + 0x2000 * n
/-- Offset of HDn_STATUS. -/
def HDn_STATUS (n : Nat) : Nat := 0x20008 + 0x2000 * n
def HDn_STATUS_STATE (n : Nat) : Fld := ⟨HDn_STATUS n, 28, 4⟩
def HDn_STATUS_SWITCH_STEP (n : Nat) : Fld := ⟨HDn_STATUS n, 25, 3⟩
def HDn_STATUS_IDLE (n : Nat) : Fld := ⟨HDn_STATUS n, 24, 1⟩
def HDn_STATUS_FLOCK_LOCKED (n : Nat) : Fld := ⟨HDn_STATUS n, 23, 1⟩
def HDn_STATUS_PLL_FAIL (n : Nat) : Fld := ⟨HDn_STATUS n, 22, 1⟩
/-- Offset of HDn_COMMIT. -/
def HDn_COMMIT (n : Nat) : Nat := 0x2000C + 0x2000 * n
/-- Offset of HDn_COMMIT_ACK. -/
def HDn_COMMIT_ACK (n : Nat) : Nat := 0x20010 + 0x2000 * n
def HDn_COMMIT_ACK_VALID (n : Nat) : Fld := ⟨HDn_COMMIT_ACK n, 31, 1⟩
def HDn_COMMIT_ACK_STOPPED (n : Nat) : Fld := ⟨HDn_COMMIT_ACK n, 30, 1⟩
def HDn_COMMIT_ACK_RESULT (n : Nat) : Fld := ⟨HDn_COMMIT_ACK n, 24, 4⟩
def HDn_COMMIT_ACK_FRAME (n : Nat) : Fld := ⟨HDn_COMMIT_ACK n, 0, 16⟩
/-- Offset of HDn_SHADOW_STATE. -/
def HDn_SHADOW_STATE (n : Nat) : Nat := 0x20014 + 0x2000 * n
def HDn_SHADOW_STATE_V (n : Nat) : Fld := ⟨HDn_SHADOW_STATE n, 0, 1⟩
/-- Offset of HDn_SEAL_REJECT_COUNT. -/
def HDn_SEAL_REJECT_COUNT (n : Nat) : Nat := 0x20018 + 0x2000 * n
def HDn_SEAL_REJECT_COUNT_V (n : Nat) : Fld := ⟨HDn_SEAL_REJECT_COUNT n, 0, 32⟩
/-- Offset of HDn_POSITION. -/
def HDn_POSITION (n : Nat) : Nat := 0x2001C + 0x2000 * n
def HDn_POSITION_FRAME (n : Nat) : Fld := ⟨HDn_POSITION n, 16, 16⟩
def HDn_POSITION_LINE (n : Nat) : Fld := ⟨HDn_POSITION n, 0, 14⟩
/-- Offset of HDn_COUNTk. -/
def HDn_COUNTk (n : Nat) (k : Nat) : Nat := 0x20020 + 0x2000 * n + 0x4 * k
def HDn_COUNTk_V (n : Nat) (k : Nat) : Fld := ⟨HDn_COUNTk n k, 0, 32⟩
/-- Offset of HDn_GAIT_HTOTAL. -/
def HDn_GAIT_HTOTAL (n : Nat) : Nat := 0x20040 + 0x2000 * n
def HDn_GAIT_HTOTAL_V (n : Nat) : Fld := ⟨HDn_GAIT_HTOTAL n, 0, 15⟩
/-- Offset of HDn_GAIT_HACTIVE. -/
def HDn_GAIT_HACTIVE (n : Nat) : Nat := 0x20044 + 0x2000 * n
def HDn_GAIT_HACTIVE_V (n : Nat) : Fld := ⟨HDn_GAIT_HACTIVE n, 0, 14⟩
/-- Offset of HDn_GAIT_VTOTAL. -/
def HDn_GAIT_VTOTAL (n : Nat) : Nat := 0x20048 + 0x2000 * n
def HDn_GAIT_VTOTAL_VTOTAL_MAX (n : Nat) : Fld := ⟨HDn_GAIT_VTOTAL n, 16, 14⟩
def HDn_GAIT_VTOTAL_VTOTAL (n : Nat) : Fld := ⟨HDn_GAIT_VTOTAL n, 0, 14⟩
/-- Offset of HDn_GAIT_VACTIVE. -/
def HDn_GAIT_VACTIVE (n : Nat) : Nat := 0x2004C + 0x2000 * n
def HDn_GAIT_VACTIVE_V (n : Nat) : Fld := ⟨HDn_GAIT_VACTIVE n, 0, 13⟩
/-- Offset of HDn_GAIT_CLOCK. -/
def HDn_GAIT_CLOCK (n : Nat) : Nat := 0x20050 + 0x2000 * n
def HDn_GAIT_CLOCK_PPC (n : Nat) : Fld := ⟨HDn_GAIT_CLOCK n, 24, 2⟩
def HDn_GAIT_CLOCK_DIV (n : Nat) : Fld := ⟨HDn_GAIT_CLOCK n, 0, 21⟩
/-- Offset of HDn_GAIT_HPLL_KHZ. -/
def HDn_GAIT_HPLL_KHZ (n : Nat) : Nat := 0x20054 + 0x2000 * n
def HDn_GAIT_HPLL_KHZ_V (n : Nat) : Fld := ⟨HDn_GAIT_HPLL_KHZ n, 0, 21⟩
/-- Offset of HDn_GAIT_LINK. -/
def HDn_GAIT_LINK (n : Nat) : Nat := 0x20058 + 0x2000 * n
def HDn_GAIT_LINK_LANES (n : Nat) : Fld := ⟨HDn_GAIT_LINK n, 8, 5⟩
def HDn_GAIT_LINK_RATE (n : Nat) : Fld := ⟨HDn_GAIT_LINK n, 0, 4⟩
/-- Offset of HDn_GAIT_MODE. -/
def HDn_GAIT_MODE (n : Nat) : Nat := 0x2005C + 0x2000 * n
def HDn_GAIT_MODE_INV_N (n : Nat) : Fld := ⟨HDn_GAIT_MODE n, 12, 4⟩
def HDn_GAIT_MODE_INV_MODE (n : Nat) : Fld := ⟨HDn_GAIT_MODE n, 8, 3⟩
def HDn_GAIT_MODE_VARIABLE (n : Nat) : Fld := ⟨HDn_GAIT_MODE n, 0, 1⟩
/-- Offset of HDn_GAIT_IDLE. -/
def HDn_GAIT_IDLE (n : Nat) : Nat := 0x20060 + 0x2000 * n
def HDn_GAIT_IDLE_ENABLE (n : Nat) : Fld := ⟨HDn_GAIT_IDLE n, 31, 1⟩
def HDn_GAIT_IDLE_STATIC_FRAMES (n : Nat) : Fld := ⟨HDn_GAIT_IDLE n, 16, 8⟩
def HDn_GAIT_IDLE_IDLE_VTOTAL (n : Nat) : Fld := ⟨HDn_GAIT_IDLE n, 0, 14⟩
/-- Offset of HDn_FLOCK_CTRL. -/
def HDn_FLOCK_CTRL (n : Nat) : Nat := 0x20064 + 0x2000 * n
def HDn_FLOCK_CTRL_ENABLE (n : Nat) : Fld := ⟨HDn_FLOCK_CTRL n, 31, 1⟩
def HDn_FLOCK_CTRL_TB (n : Nat) : Fld := ⟨HDn_FLOCK_CTRL n, 24, 2⟩
def HDn_FLOCK_CTRL_RATE (n : Nat) : Fld := ⟨HDn_FLOCK_CTRL n, 20, 4⟩
/-- Offset of HDn_FLOCK_OFFSET. -/
def HDn_FLOCK_OFFSET (n : Nat) : Nat := 0x20068 + 0x2000 * n
def HDn_FLOCK_OFFSET_V (n : Nat) : Fld := ⟨HDn_FLOCK_OFFSET n, 0, 32⟩
/-- Offset of HDn_FLOCK_ERROR. -/
def HDn_FLOCK_ERROR (n : Nat) : Nat := 0x2006C + 0x2000 * n
def HDn_FLOCK_ERROR_V (n : Nat) : Fld := ⟨HDn_FLOCK_ERROR n, 0, 32⟩
/-- Offset of HDn_STALL_CTRL. -/
def HDn_STALL_CTRL (n : Nat) : Nat := 0x20070 + 0x2000 * n
def HDn_STALL_CTRL_ENABLE (n : Nat) : Fld := ⟨HDn_STALL_CTRL n, 31, 1⟩
def HDn_STALL_CTRL_BANK_FIRST (n : Nat) : Fld := ⟨HDn_STALL_CTRL n, 8, 4⟩
def HDn_STALL_CTRL_BANK_COUNT (n : Nat) : Fld := ⟨HDn_STALL_CTRL n, 0, 5⟩
/-- Offset of HDn_STALL_STATUS. -/
def HDn_STALL_STATUS (n : Nat) : Nat := 0x20074 + 0x2000 * n
def HDn_STALL_STATUS_VALID (n : Nat) : Fld := ⟨HDn_STALL_STATUS n, 31, 1⟩
def HDn_STALL_STATUS_NOFIT (n : Nat) : Fld := ⟨HDn_STALL_STATUS n, 30, 1⟩
def HDn_STALL_STATUS_USED_KIB (n : Nat) : Fld := ⟨HDn_STALL_STATUS n, 16, 14⟩
def HDn_STALL_STATUS_FRAME (n : Nat) : Fld := ⟨HDn_STALL_STATUS n, 0, 16⟩
/-- Offset of HDn_APPLIED_H. -/
def HDn_APPLIED_H (n : Nat) : Nat := 0x20078 + 0x2000 * n
def HDn_APPLIED_H_HTOTAL (n : Nat) : Fld := ⟨HDn_APPLIED_H n, 16, 16⟩
def HDn_APPLIED_H_HACTIVE (n : Nat) : Fld := ⟨HDn_APPLIED_H n, 0, 16⟩
/-- Offset of HDn_APPLIED_V. -/
def HDn_APPLIED_V (n : Nat) : Nat := 0x2007C + 0x2000 * n
def HDn_APPLIED_V_VTOTAL (n : Nat) : Fld := ⟨HDn_APPLIED_V n, 16, 16⟩
def HDn_APPLIED_V_VACTIVE (n : Nat) : Fld := ⟨HDn_APPLIED_V n, 0, 16⟩
/-- Offset of HDn_APPLIED_RATE. -/
def HDn_APPLIED_RATE (n : Nat) : Nat := 0x20080 + 0x2000 * n
def HDn_APPLIED_RATE_V (n : Nat) : Fld := ⟨HDn_APPLIED_RATE n, 0, 32⟩
/-- Offset of HDn_QBUF_SIZE. -/
def HDn_QBUF_SIZE (n : Nat) : Nat := 0x20090 + 0x2000 * n
def HDn_QBUF_SIZE_WIDTH (n : Nat) : Fld := ⟨HDn_QBUF_SIZE n, 16, 16⟩
def HDn_QBUF_SIZE_HEIGHT (n : Nat) : Fld := ⟨HDn_QBUF_SIZE n, 0, 16⟩
/-- Offset of HDn_QBUF_STRIDE. -/
def HDn_QBUF_STRIDE (n : Nat) : Nat := 0x20094 + 0x2000 * n
def HDn_QBUF_STRIDE_V (n : Nat) : Fld := ⟨HDn_QBUF_STRIDE n, 0, 11⟩
/-- Offset of HDn_Q_BASE. -/
def HDn_Q_BASE (n : Nat) : Nat := 0x20098 + 0x2000 * n
def HDn_Q_BASE_V (n : Nat) : Fld := ⟨HDn_Q_BASE n, 0, 32⟩
/-- Offset of HDn_Q_TIME. -/
def HDn_Q_TIME (n : Nat) : Nat := 0x2009C + 0x2000 * n
def HDn_Q_TIME_V (n : Nat) : Fld := ⟨HDn_Q_TIME n, 0, 32⟩
/-- Offset of HDn_Q_PUSH. -/
def HDn_Q_PUSH (n : Nat) : Nat := 0x200A0 + 0x2000 * n
/-- Offset of HDn_Q_STATUS. -/
def HDn_Q_STATUS (n : Nat) : Nat := 0x200A4 + 0x2000 * n
def HDn_Q_STATUS_SHOWING (n : Nat) : Fld := ⟨HDn_Q_STATUS n, 16, 16⟩
def HDn_Q_STATUS_SHOWN (n : Nat) : Fld := ⟨HDn_Q_STATUS n, 15, 1⟩
/-- Offset of HDn_Q_FLUSH. -/
def HDn_Q_FLUSH (n : Nat) : Nat := 0x200A8 + 0x2000 * n
/-- Offset of HDn_REC_POP. -/
def HDn_REC_POP (n : Nat) : Nat := 0x200D0 + 0x2000 * n
/-- Offset of HDn_REC_STATUS. -/
def HDn_REC_STATUS (n : Nat) : Nat := 0x200D4 + 0x2000 * n
def HDn_REC_STATUS_LOST (n : Nat) : Fld := ⟨HDn_REC_STATUS n, 16, 16⟩
def HDn_REC_STATUS_LEVEL (n : Nat) : Fld := ⟨HDn_REC_STATUS n, 0, 5⟩
/-- Offset of HDn_EDGEk_POS. -/
def HDn_EDGEk_POS (n : Nat) (k : Nat) : Nat := 0x20100 + 0x2000 * n + 0x10 * k
def HDn_EDGEk_POS_SET (n : Nat) (k : Nat) : Fld := ⟨HDn_EDGEk_POS n k, 16, 15⟩
def HDn_EDGEk_POS_CLEAR (n : Nat) (k : Nat) : Fld := ⟨HDn_EDGEk_POS n k, 0, 15⟩
/-- Offset of HDn_EDGEk_LINES. -/
def HDn_EDGEk_LINES (n : Nat) (k : Nat) : Nat := 0x20104 + 0x2000 * n + 0x10 * k
def HDn_EDGEk_LINES_FIRST (n : Nat) (k : Nat) : Fld := ⟨HDn_EDGEk_LINES n k, 16, 13⟩
def HDn_EDGEk_LINES_LAST (n : Nat) (k : Nat) : Fld := ⟨HDn_EDGEk_LINES n k, 0, 13⟩
/-- Offset of HDn_EDGEk_MODE. -/
def HDn_EDGEk_MODE (n : Nat) (k : Nat) : Nat := 0x20108 + 0x2000 * n + 0x10 * k
def HDn_EDGEk_MODE_V (n : Nat) (k : Nat) : Fld := ⟨HDn_EDGEk_MODE n k, 0, 3⟩
/-- Offset of HDn_CMD_CTRL. -/
def HDn_CMD_CTRL (n : Nat) : Nat := 0x20300 + 0x2000 * n
def HDn_CMD_CTRL_LINK (n : Nat) : Fld := ⟨HDn_CMD_CTRL n, 28, 4⟩
def HDn_CMD_CTRL_OP (n : Nat) : Fld := ⟨HDn_CMD_CTRL n, 24, 2⟩
def HDn_CMD_CTRL_DEVICE (n : Nat) : Fld := ⟨HDn_CMD_CTRL n, 16, 8⟩
def HDn_CMD_CTRL_ADDR (n : Nat) : Fld := ⟨HDn_CMD_CTRL n, 0, 8⟩
/-- Offset of HDn_CMD_DATA. -/
def HDn_CMD_DATA (n : Nat) : Nat := 0x20304 + 0x2000 * n
def HDn_CMD_DATA_V (n : Nat) : Fld := ⟨HDn_CMD_DATA n, 0, 32⟩
/-- Offset of HDn_CMD_GO. -/
def HDn_CMD_GO (n : Nat) : Nat := 0x20308 + 0x2000 * n
/-- Offset of HDn_CMD_STATUS. -/
def HDn_CMD_STATUS (n : Nat) : Nat := 0x2030C + 0x2000 * n
def HDn_CMD_STATUS_STATE (n : Nat) : Fld := ⟨HDn_CMD_STATUS n, 28, 4⟩
def HDn_CMD_STATUS_RESULT (n : Nat) : Fld := ⟨HDn_CMD_STATUS n, 24, 4⟩
def HDn_CMD_STATUS_SEQ (n : Nat) : Fld := ⟨HDn_CMD_STATUS n, 20, 4⟩
/-- Offset of HDn_CMD_RDATA. -/
def HDn_CMD_RDATA (n : Nat) : Nat := 0x20310 + 0x2000 * n
def HDn_CMD_RDATA_V (n : Nat) : Fld := ⟨HDn_CMD_RDATA n, 0, 32⟩
/-- Offset of HDn_MIP_CTRL. -/
def HDn_MIP_CTRL (n : Nat) : Nat := 0x21000 + 0x2000 * n
def HDn_MIP_CTRL_SUPERSEDE (n : Nat) : Fld := ⟨HDn_MIP_CTRL n, 31, 1⟩
def HDn_MIP_CTRL_CONTINUOUS (n : Nat) : Fld := ⟨HDn_MIP_CTRL n, 30, 1⟩
def HDn_MIP_CTRL_WT_SEL (n : Nat) : Fld := ⟨HDn_MIP_CTRL n, 29, 1⟩
def HDn_MIP_CTRL_FREQ (n : Nat) : Fld := ⟨HDn_MIP_CTRL n, 0, 11⟩
/-- Offset of HDn_MIP_PANEL. -/
def HDn_MIP_PANEL (n : Nat) : Nat := 0x21004 + 0x2000 * n
def HDn_MIP_PANEL_WIDTH (n : Nat) : Fld := ⟨HDn_MIP_PANEL n, 18, 14⟩
def HDn_MIP_PANEL_HEIGHT (n : Nat) : Fld := ⟨HDn_MIP_PANEL n, 5, 13⟩
def HDn_MIP_PANEL_MEMBITS (n : Nat) : Fld := ⟨HDn_MIP_PANEL n, 3, 2⟩
def HDn_MIP_PANEL_TEMPBITS (n : Nat) : Fld := ⟨HDn_MIP_PANEL n, 1, 2⟩
def HDn_MIP_PANEL_MONO (n : Nat) : Fld := ⟨HDn_MIP_PANEL n, 0, 1⟩
/-- Offset of HDn_MIP_PIC_BASE. -/
def HDn_MIP_PIC_BASE (n : Nat) : Nat := 0x21008 + 0x2000 * n
def HDn_MIP_PIC_BASE_V (n : Nat) : Fld := ⟨HDn_MIP_PIC_BASE n, 0, 32⟩
/-- Offset of HDn_MIP_PIC_STRIDE. -/
def HDn_MIP_PIC_STRIDE (n : Nat) : Nat := 0x2100C + 0x2000 * n
def HDn_MIP_PIC_STRIDE_V (n : Nat) : Fld := ⟨HDn_MIP_PIC_STRIDE n, 0, 11⟩
/-- Offset of HDn_MIP_TARGET_BASE. -/
def HDn_MIP_TARGET_BASE (n : Nat) : Nat := 0x21010 + 0x2000 * n
def HDn_MIP_TARGET_BASE_V (n : Nat) : Fld := ⟨HDn_MIP_TARGET_BASE n, 0, 32⟩
/-- Offset of HDn_MIP_WSEL. -/
def HDn_MIP_WSEL (n : Nat) : Nat := 0x21014 + 0x2000 * n
def HDn_MIP_WSEL_FIRST (n : Nat) : Fld := ⟨HDn_MIP_WSEL n, 24, 5⟩
def HDn_MIP_WSEL_LARGE (n : Nat) : Fld := ⟨HDn_MIP_WSEL n, 16, 5⟩
def HDn_MIP_WSEL_SMALL (n : Nat) : Fld := ⟨HDn_MIP_WSEL n, 8, 5⟩
def HDn_MIP_WSEL_TEMPORAL (n : Nat) : Fld := ⟨HDn_MIP_WSEL n, 0, 5⟩
/-- Offset of HDn_MIP_CHECK. -/
def HDn_MIP_CHECK (n : Nat) : Nat := 0x21018 + 0x2000 * n
def HDn_MIP_CHECK_READBACK (n : Nat) : Fld := ⟨HDn_MIP_CHECK n, 31, 1⟩
def HDn_MIP_CHECK_RB_ROWS (n : Nat) : Fld := ⟨HDn_MIP_CHECK n, 16, 8⟩
/-- Offset of HDn_MIP_STATUS. -/
def HDn_MIP_STATUS (n : Nat) : Nat := 0x2101C + 0x2000 * n
def HDn_MIP_STATUS_FULL_PENDING (n : Nat) : Fld := ⟨HDn_MIP_STATUS n, 31, 1⟩
def HDn_MIP_STATUS_PASS_BUSY (n : Nat) : Fld := ⟨HDn_MIP_STATUS n, 30, 1⟩
def HDn_MIP_STATUS_LINK_LOST (n : Nat) : Fld := ⟨HDn_MIP_STATUS n, 29, 1⟩
def HDn_MIP_STATUS_BALANCE_DELAY (n : Nat) : Fld := ⟨HDn_MIP_STATUS n, 28, 1⟩
/-- Offset of HDn_MIP_LAST_PASS. -/
def HDn_MIP_LAST_PASS (n : Nat) : Nat := 0x21020 + 0x2000 * n
def HDn_MIP_LAST_PASS_V (n : Nat) : Fld := ⟨HDn_MIP_LAST_PASS n, 0, 16⟩
/-- Offset of HDn_MIP_PASS_US. -/
def HDn_MIP_PASS_US (n : Nat) : Nat := 0x21024 + 0x2000 * n
def HDn_MIP_PASS_US_V (n : Nat) : Fld := ⟨HDn_MIP_PASS_US n, 0, 32⟩
/-- Offset of HDn_MIP_ACTIVE. -/
def HDn_MIP_ACTIVE (n : Nat) : Nat := 0x21028 + 0x2000 * n
def HDn_MIP_ACTIVE_V (n : Nat) : Fld := ⟨HDn_MIP_ACTIVE n, 0, 21⟩
/-- Offset of HDn_MIP_DIRTY. -/
def HDn_MIP_DIRTY (n : Nat) : Nat := 0x2102C + 0x2000 * n
def HDn_MIP_DIRTY_V (n : Nat) : Fld := ⟨HDn_MIP_DIRTY n, 0, 21⟩
/-- Offset of HDn_MIP_PENDING. -/
def HDn_MIP_PENDING (n : Nat) : Nat := 0x21030 + 0x2000 * n
def HDn_MIP_PENDING_V (n : Nat) : Fld := ⟨HDn_MIP_PENDING n, 0, 21⟩
/-- Offset of HDn_MIP_REFRESH_POS. -/
def HDn_MIP_REFRESH_POS (n : Nat) : Nat := 0x21034 + 0x2000 * n
def HDn_MIP_REFRESH_POS_X (n : Nat) : Fld := ⟨HDn_MIP_REFRESH_POS n, 16, 16⟩
def HDn_MIP_REFRESH_POS_Y (n : Nat) : Fld := ⟨HDn_MIP_REFRESH_POS n, 0, 16⟩
/-- Offset of HDn_MIP_REFRESH_SIZE. -/
def HDn_MIP_REFRESH_SIZE (n : Nat) : Nat := 0x21038 + 0x2000 * n
def HDn_MIP_REFRESH_SIZE_W (n : Nat) : Fld := ⟨HDn_MIP_REFRESH_SIZE n, 16, 16⟩
def HDn_MIP_REFRESH_SIZE_H (n : Nat) : Fld := ⟨HDn_MIP_REFRESH_SIZE n, 0, 16⟩
/-- Offset of HDn_MIP_REFRESH_GO. -/
def HDn_MIP_REFRESH_GO (n : Nat) : Nat := 0x2103C + 0x2000 * n
/-- Offset of HDn_MIP_RB_STATUS. -/
def HDn_MIP_RB_STATUS (n : Nat) : Nat := 0x21040 + 0x2000 * n
def HDn_MIP_RB_STATUS_ACTIVE (n : Nat) : Fld := ⟨HDn_MIP_RB_STATUS n, 31, 1⟩
def HDn_MIP_RB_STATUS_UNSUPPORTED (n : Nat) : Fld := ⟨HDn_MIP_RB_STATUS n, 30, 1⟩
def HDn_MIP_RB_STATUS_FAIL (n : Nat) : Fld := ⟨HDn_MIP_RB_STATUS n, 29, 1⟩
def HDn_MIP_RB_STATUS_ROW (n : Nat) : Fld := ⟨HDn_MIP_RB_STATUS n, 0, 13⟩
/-- Offset of HDn_MIP_RB_LAST. -/
def HDn_MIP_RB_LAST (n : Nat) : Nat := 0x21044 + 0x2000 * n
/-- Offset of HDn_DAMAGE_TL. -/
def HDn_DAMAGE_TL (n : Nat) : Nat := 0x21048 + 0x2000 * n
def HDn_DAMAGE_TL_VALID (n : Nat) : Fld := ⟨HDn_DAMAGE_TL n, 31, 1⟩
/-- Offset of HDn_DAMAGE_BR. -/
def HDn_DAMAGE_BR (n : Nat) : Nat := 0x2104C + 0x2000 * n
def HDn_DAMAGE_BR_VALID (n : Nat) : Fld := ⟨HDn_DAMAGE_BR n, 31, 1⟩
/-- Offset of HDn_MIP_COUNTk. -/
def HDn_MIP_COUNTk (n : Nat) (k : Nat) : Nat := 0x21080 + 0x2000 * n + 0x4 * k
def HDn_MIP_COUNTk_V (n : Nat) (k : Nat) : Fld := ⟨HDn_MIP_COUNTk n k, 0, 32⟩
/-- Offset of HDn_MIP_BANDb_COUNT. -/
def HDn_MIP_BANDb_COUNT (n : Nat) (b : Nat) : Nat := 0x210C0 + 0x2000 * n + 0x4 * b
def HDn_MIP_BANDb_COUNT_V (n : Nat) (b : Nat) : Fld := ⟨HDn_MIP_BANDb_COUNT n b, 0, 32⟩
/-- Offset of COMc_CTRL. -/
def COMc_CTRL (c : Nat) : Nat := 0x30000 + 0x20 * c
def COMc_CTRL_ENABLE (c : Nat) : Fld := ⟨COMc_CTRL c, 31, 1⟩
def COMc_CTRL_PHASE (c : Nat) : Fld := ⟨COMc_CTRL c, 30, 1⟩
def COMc_CTRL_HEAD (c : Nat) : Fld := ⟨COMc_CTRL c, 24, 3⟩
/-- Offset of COMc_ROWS. -/
def COMc_ROWS (c : Nat) : Nat := 0x30004 + 0x20 * c
def COMc_ROWS_LAST (c : Nat) : Fld := ⟨COMc_ROWS c, 16, 16⟩
def COMc_ROWS_FIRST (c : Nat) : Fld := ⟨COMc_ROWS c, 0, 16⟩
/-- Offset of COMc_STATUS. -/
def COMc_STATUS (c : Nat) : Nat := 0x30008 + 0x20 * c
def COMc_STATUS_RUNNING (c : Nat) : Fld := ⟨COMc_STATUS c, 31, 1⟩
def COMc_STATUS_LEVEL (c : Nat) : Fld := ⟨COMc_STATUS c, 30, 1⟩
def COMc_STATUS_DELAYING (c : Nat) : Fld := ⟨COMc_STATUS c, 29, 1⟩
def COMc_STATUS_BAL_FAULT (c : Nat) : Fld := ⟨COMc_STATUS c, 28, 1⟩
/-- Offset of COMc_BALANCE. -/
def COMc_BALANCE (c : Nat) : Nat := 0x3000C + 0x20 * c
def COMc_BALANCE_V (c : Nat) : Fld := ⟨COMc_BALANCE c, 0, 32⟩
/-- Offset of COMc_MAX_OPEN_MS. -/
def COMc_MAX_OPEN_MS (c : Nat) : Nat := 0x30014 + 0x20 * c
def COMc_MAX_OPEN_MS_V (c : Nat) : Fld := ⟨COMc_MAX_OPEN_MS c, 0, 32⟩
/-- Offset of COMc_DELAY_COUNT. -/
def COMc_DELAY_COUNT (c : Nat) : Nat := 0x30018 + 0x20 * c
def COMc_DELAY_COUNT_V (c : Nat) : Fld := ⟨COMc_DELAY_COUNT c, 0, 32⟩
/-- Offset of COMc_PHASE_COUNT. -/
def COMc_PHASE_COUNT (c : Nat) : Nat := 0x3001C + 0x20 * c
def COMc_PHASE_COUNT_V (c : Nat) : Fld := ⟨COMc_PHASE_COUNT c, 0, 32⟩
/-- Offset of MIP_WT_SRC_LO. -/
def MIP_WT_SRC_LO : Nat := 0x30100
def MIP_WT_SRC_LO_V : Fld := ⟨MIP_WT_SRC_LO, 0, 32⟩
/-- Offset of MIP_WT_SRC_HI. -/
def MIP_WT_SRC_HI : Nat := 0x30104
def MIP_WT_SRC_HI_V : Fld := ⟨MIP_WT_SRC_HI, 0, 8⟩
/-- Offset of MIP_WT_LOAD. -/
def MIP_WT_LOAD : Nat := 0x30108
/-- Offset of MIP_WT_STATUS. -/
def MIP_WT_STATUS : Nat := 0x3010C
def MIP_WT_STATUS_STATE : Fld := ⟨MIP_WT_STATUS, 30, 2⟩
def MIP_WT_STATUS_DIRECT_DROPS : Fld := ⟨MIP_WT_STATUS, 16, 12⟩
def MIP_WT_STATUS_VALID : Fld := ⟨MIP_WT_STATUS, 0, 16⟩
/-- Offset of MIP_WT_ERR. -/
def MIP_WT_ERR : Nat := 0x30110
/-- Offset of MIP_EVT_ENABLE. -/
def MIP_EVT_ENABLE : Nat := 0x30140
/-- Offset of MIP_EVT_STATUS. -/
def MIP_EVT_STATUS : Nat := 0x30144
/-- Offset of MIP_GIRTH_MAP. -/
def MIP_GIRTH_MAP : Nat := 0x30148
/-- Offset of MIP_LEDGER_DROP_COUNT. -/
def MIP_LEDGER_DROP_COUNT : Nat := 0x3014C
def MIP_LEDGER_DROP_COUNT_V : Fld := ⟨MIP_LEDGER_DROP_COUNT, 0, 32⟩
/-- Offset of MIP_HALT_CTRL. -/
def MIP_HALT_CTRL : Nat := 0x30200
def MIP_HALT_CTRL_ENABLE : Fld := ⟨MIP_HALT_CTRL, 31, 1⟩
def MIP_HALT_CTRL_HEAD : Fld := ⟨MIP_HALT_CTRL, 28, 3⟩
def MIP_HALT_CTRL_FG : Fld := ⟨MIP_HALT_CTRL, 25, 3⟩
def MIP_HALT_CTRL_BG : Fld := ⟨MIP_HALT_CTRL, 22, 3⟩
def MIP_HALT_CTRL_WIDTH : Fld := ⟨MIP_HALT_CTRL, 13, 9⟩
def MIP_HALT_CTRL_HEIGHT : Fld := ⟨MIP_HALT_CTRL, 6, 7⟩
/-- Offset of MIP_HALT_POS. -/
def MIP_HALT_POS : Nat := 0x30204
def MIP_HALT_POS_X : Fld := ⟨MIP_HALT_POS, 16, 16⟩
def MIP_HALT_POS_Y : Fld := ⟨MIP_HALT_POS, 0, 16⟩
/-- Offset of MIP_HALT_PORT. -/
def MIP_HALT_PORT : Nat := 0x30208
def MIP_HALT_PORT_CLK : Fld := ⟨MIP_HALT_PORT, 30, 2⟩
def MIP_HALT_PORT_RENDER_ON_WAKE : Fld := ⟨MIP_HALT_PORT, 29, 1⟩
/-- Offset of MIP_HALT_BATTERY. -/
def MIP_HALT_BATTERY : Nat := 0x3020C
def MIP_HALT_BATTERY_FULL_MV : Fld := ⟨MIP_HALT_BATTERY, 16, 16⟩
def MIP_HALT_BATTERY_EMPTY_MV : Fld := ⟨MIP_HALT_BATTERY, 0, 16⟩
/-- Offset of MIP_HALT_BMP_ADDR. -/
def MIP_HALT_BMP_ADDR : Nat := 0x30210
def MIP_HALT_BMP_ADDR_V : Fld := ⟨MIP_HALT_BMP_ADDR, 0, 11⟩
/-- Offset of MIP_HALT_BMP_DATA. -/
def MIP_HALT_BMP_DATA : Nat := 0x30214
/-- Offset of MIP_HALT_STATUS. -/
def MIP_HALT_STATUS : Nat := 0x30218
def MIP_HALT_STATUS_ARMED : Fld := ⟨MIP_HALT_STATUS, 31, 1⟩
def MIP_HALT_STATUS_LAST_FULL : Fld := ⟨MIP_HALT_STATUS, 30, 1⟩
def MIP_HALT_STATUS_LAST_MS : Fld := ⟨MIP_HALT_STATUS, 16, 8⟩
def MIP_HALT_STATUS_RENDERS : Fld := ⟨MIP_HALT_STATUS, 0, 16⟩
/-- Offset of MIP_GLYPHg_k. -/
def MIP_GLYPHg_k (g : Nat) (k : Nat) : Nat := 0x30300 + 0x10 * g + 0x4 * k
/-- Offset of FLDf_CTRL. -/
def FLDf_CTRL (f : Nat) : Nat := 0x30400 + 0x20 * f
def FLDf_CTRL_ENABLE (f : Nat) : Fld := ⟨FLDf_CTRL f, 31, 1⟩
def FLDf_CTRL_KIND (f : Nat) : Fld := ⟨FLDf_CTRL f, 28, 3⟩
def FLDf_CTRL_FG (f : Nat) : Fld := ⟨FLDf_CTRL f, 25, 3⟩
def FLDf_CTRL_BG (f : Nat) : Fld := ⟨FLDf_CTRL f, 22, 3⟩
def FLDf_CTRL_DOUBLE (f : Nat) : Fld := ⟨FLDf_CTRL f, 21, 1⟩
/-- Offset of FLDf_POS. -/
def FLDf_POS (f : Nat) : Nat := 0x30404 + 0x20 * f
def FLDf_POS_X (f : Nat) : Fld := ⟨FLDf_POS f, 16, 16⟩
def FLDf_POS_Y (f : Nat) : Fld := ⟨FLDf_POS f, 0, 16⟩
/-- Offset of FLDf_TEXTk. -/
def FLDf_TEXTk (f : Nat) (k : Nat) : Nat := 0x30408 + 0x20 * f + 0x4 * k
/-- Offset of HAR_STATUS. -/
def HAR_STATUS : Nat := 0x38000
def HAR_STATUS_LINK_UP : Fld := ⟨HAR_STATUS, 31, 1⟩
def HAR_STATUS_DISCHARGING : Fld := ⟨HAR_STATUS, 30, 1⟩
def HAR_STATUS_HOT : Fld := ⟨HAR_STATUS, 29, 1⟩
def HAR_STATUS_AVDDG_OK : Fld := ⟨HAR_STATUS, 28, 1⟩
def HAR_STATUS_PANELS_ON : Fld := ⟨HAR_STATUS, 0, 8⟩
/-- Offset of HAR_EVT_ENABLE. -/
def HAR_EVT_ENABLE : Nat := 0x38004
/-- Offset of HAR_EVT_STATUS. -/
def HAR_EVT_STATUS : Nat := 0x38008
/-- Offset of HAR_TEMP. -/
def HAR_TEMP : Nat := 0x38010
def HAR_TEMP_V : Fld := ⟨HAR_TEMP, 0, 16⟩
/-- Offset of HAR_VBIAS_MV. -/
def HAR_VBIAS_MV : Nat := 0x38014
/-- Offset of HAR_AVDDG_MV. -/
def HAR_AVDDG_MV : Nat := 0x38018
def HAR_AVDDG_MV_V : Fld := ⟨HAR_AVDDG_MV, 0, 16⟩
/-- Offset of HAR_THERM_CTRL. -/
def HAR_THERM_CTRL : Nat := 0x3801C
def HAR_THERM_CTRL_V : Fld := ⟨HAR_THERM_CTRL, 0, 8⟩
/-- Offset of HAR_PUMP_CTRL. -/
def HAR_PUMP_CTRL : Nat := 0x38020
def HAR_PUMP_CTRL_VPOS_MV : Fld := ⟨HAR_PUMP_CTRL, 16, 14⟩
def HAR_PUMP_CTRL_VNEG_MAG_MV : Fld := ⟨HAR_PUMP_CTRL, 0, 14⟩
/-- Offset of HAR_PUMP_STATUS. -/
def HAR_PUMP_STATUS : Nat := 0x38024
def HAR_PUMP_STATUS_RUNNING : Fld := ⟨HAR_PUMP_STATUS, 31, 1⟩
def HAR_PUMP_STATUS_REGULATED : Fld := ⟨HAR_PUMP_STATUS, 30, 1⟩
def HAR_PUMP_STATUS_FAIL : Fld := ⟨HAR_PUMP_STATUS, 29, 1⟩
/-- Offset of HAR_PUMP_VPOS_MV. -/
def HAR_PUMP_VPOS_MV : Nat := 0x38028
/-- Offset of HAR_PUMP_VNEG_MV. -/
def HAR_PUMP_VNEG_MV : Nat := 0x3802C
/-- Offset of HAR_HOLD_STATUS. -/
def HAR_HOLD_STATUS : Nat := 0x38040
def HAR_HOLD_STATUS_ARMED : Fld := ⟨HAR_HOLD_STATUS, 31, 1⟩
def HAR_HOLD_STATUS_LOW : Fld := ⟨HAR_HOLD_STATUS, 29, 1⟩
/-- Offset of HAR_HOLD_MV. -/
def HAR_HOLD_MV : Nat := 0x38044
def HAR_HOLD_MV_V : Fld := ⟨HAR_HOLD_MV, 0, 16⟩
/-- Offset of HAR_DISCH_GO. -/
def HAR_DISCH_GO : Nat := 0x38060
/-- Offset of HAR_DISCH_STATUS. -/
def HAR_DISCH_STATUS : Nat := 0x38064
def HAR_DISCH_STATUS_ACTIVE : Fld := ⟨HAR_DISCH_STATUS, 31, 1⟩
def HAR_DISCH_STATUS_HEADS : Fld := ⟨HAR_DISCH_STATUS, 16, 8⟩
/-- Offset of HAR_DISCH_LAST. -/
def HAR_DISCH_LAST : Nat := 0x38068
def HAR_DISCH_LAST_CAUSE : Fld := ⟨HAR_DISCH_LAST, 28, 4⟩
def HAR_DISCH_LAST_HEADS : Fld := ⟨HAR_DISCH_LAST, 16, 8⟩
def HAR_DISCH_LAST_DURATION_US : Fld := ⟨HAR_DISCH_LAST, 0, 16⟩
/-- Offset of HAR_DISCH_COUNT. -/
def HAR_DISCH_COUNT : Nat := 0x3806C
def HAR_DISCH_COUNT_V : Fld := ⟨HAR_DISCH_COUNT, 0, 32⟩
/-- Offset of HAR_PCTL_DISCHk. -/
def HAR_PCTL_DISCHk (k : Nat) : Nat := 0x38070 + 0x4 * k
/-- Offset of HAR_GMA_FS_MV. -/
def HAR_GMA_FS_MV : Nat := 0x38080
def HAR_GMA_FS_MV_V : Fld := ⟨HAR_GMA_FS_MV, 0, 16⟩
/-- Offset of HAR_VCOMR_CTRL. -/
def HAR_VCOMR_CTRL : Nat := 0x38084
def HAR_VCOMR_CTRL_ENABLE : Fld := ⟨HAR_VCOMR_CTRL, 31, 1⟩
def HAR_VCOMR_CTRL_HEAD : Fld := ⟨HAR_VCOMR_CTRL, 24, 3⟩
/-- Offset of HAR_VCOMR_CODE. -/
def HAR_VCOMR_CODE : Nat := 0x38088
def HAR_VCOMR_CODE_V : Fld := ⟨HAR_VCOMR_CODE, 0, 10⟩
/-- Offset of HAR_VCOMR_MV. -/
def HAR_VCOMR_MV : Nat := 0x3808C
/-- Offset of HAR_VCOMR_IOUT. -/
def HAR_VCOMR_IOUT : Nat := 0x38090
/-- Offset of HAR_CRACK_COUNT. -/
def HAR_CRACK_COUNT : Nat := 0x38094
def HAR_CRACK_COUNT_V : Fld := ⟨HAR_CRACK_COUNT, 0, 32⟩
/-- Offset of BIASc_VA_MV. -/
def BIASc_VA_MV (c : Nat) : Nat := 0x38100 + 0x80 * c
def BIASc_VA_MV_V (c : Nat) : Fld := ⟨BIASc_VA_MV c, 0, 16⟩
/-- Offset of BIASc_VB_MV. -/
def BIASc_VB_MV (c : Nat) : Nat := 0x38104 + 0x80 * c
def BIASc_VB_MV_V (c : Nat) : Fld := ⟨BIASc_VB_MV c, 0, 16⟩
/-- Offset of BIASc_VAK_MV. -/
def BIASc_VAK_MV (c : Nat) : Nat := 0x38108 + 0x80 * c
def BIASc_VAK_MV_V (c : Nat) : Fld := ⟨BIASc_VAK_MV c, 0, 16⟩
/-- Offset of BIASc_VBK_MV. -/
def BIASc_VBK_MV (c : Nat) : Nat := 0x3810C + 0x80 * c
def BIASc_VBK_MV_V (c : Nat) : Fld := ⟨BIASc_VBK_MV c, 0, 16⟩
/-- Offset of BIASc_VCOMH_MV. -/
def BIASc_VCOMH_MV (c : Nat) : Nat := 0x38110 + 0x80 * c
def BIASc_VCOMH_MV_V (c : Nat) : Fld := ⟨BIASc_VCOMH_MV c, 0, 16⟩
/-- Offset of BIASc_VCOML_MV. -/
def BIASc_VCOML_MV (c : Nat) : Nat := 0x38114 + 0x80 * c
def BIASc_VCOML_MV_V (c : Nat) : Fld := ⟨BIASc_VCOML_MV c, 0, 16⟩
/-- Offset of BIASc_STATUS. -/
def BIASc_STATUS (c : Nat) : Nat := 0x38118 + 0x80 * c
def BIASc_STATUS_DRIVEN (c : Nat) : Fld := ⟨BIASc_STATUS c, 31, 1⟩
def BIASc_STATUS_OVERLOAD (c : Nat) : Fld := ⟨BIASc_STATUS c, 30, 1⟩
def BIASc_STATUS_SLEWING (c : Nat) : Fld := ⟨BIASc_STATUS c, 0, 6⟩
/-- Offset of BIASc_SETk. -/
def BIASc_SETk (c : Nat) (k : Nat) : Nat := 0x38120 + 0x80 * c + 0x4 * k
def BIASc_SETk_ELEMENT (c : Nat) (k : Nat) : Fld := ⟨BIASc_SETk c k, 31, 1⟩
def BIASc_SETk_TRIMMED (c : Nat) (k : Nat) : Fld := ⟨BIASc_SETk c k, 30, 1⟩
def BIASc_SETk_TRIM (c : Nat) (k : Nat) : Fld := ⟨BIASc_SETk c k, 16, 8⟩
def BIASc_SETk_COMBO (c : Nat) (k : Nat) : Fld := ⟨BIASc_SETk c k, 8, 4⟩
def BIASc_SETk_TAP (c : Nat) (k : Nat) : Fld := ⟨BIASc_SETk c k, 0, 8⟩
/-- Offset of GMAk_CTRL. -/
def GMAk_CTRL (k : Nat) : Nat := 0x38400 + 0x10 * k
def GMAk_CTRL_ENABLE (k : Nat) : Fld := ⟨GMAk_CTRL k, 31, 1⟩
def GMAk_CTRL_HEAD (k : Nat) : Fld := ⟨GMAk_CTRL k, 24, 3⟩
def GMAk_CTRL_CODE (k : Nat) : Fld := ⟨GMAk_CTRL k, 0, 10⟩
/-- Offset of GMAk_SET. -/
def GMAk_SET (k : Nat) : Nat := 0x38404 + 0x10 * k
def GMAk_SET_ELEMENT (k : Nat) : Fld := ⟨GMAk_SET k, 31, 1⟩
def GMAk_SET_TRIMMED (k : Nat) : Fld := ⟨GMAk_SET k, 30, 1⟩
def GMAk_SET_TRIM (k : Nat) : Fld := ⟨GMAk_SET k, 16, 8⟩
def GMAk_SET_CODE (k : Nat) : Fld := ⟨GMAk_SET k, 0, 10⟩
/-- Offset of PANELh_CTRL. -/
def PANELh_CTRL (h : Nat) : Nat := 0x38600 + 0x8 * h
def PANELh_CTRL_V (h : Nat) : Fld := ⟨PANELh_CTRL h, 0, 1⟩
/-- Offset of PANELh_STATUS. -/
def PANELh_STATUS (h : Nat) : Nat := 0x38604 + 0x8 * h
def PANELh_STATUS_STATE (h : Nat) : Fld := ⟨PANELh_STATUS h, 29, 3⟩
def PANELh_STATUS_OFF_CAUSE (h : Nat) : Fld := ⟨PANELh_STATUS h, 24, 4⟩
/-- Offset of GIRTHg_CTRL. -/
def GIRTHg_CTRL (g : Nat) : Nat := 0x38700 + 0x10 * g
def GIRTHg_CTRL_RISE (g : Nat) : Fld := ⟨GIRTHg_CTRL g, 8, 8⟩
def GIRTHg_CTRL_CONFIRM (g : Nat) : Fld := ⟨GIRTHg_CTRL g, 0, 4⟩
/-- Offset of GIRTHg_STATUS. -/
def GIRTHg_STATUS (g : Nat) : Nat := 0x38704 + 0x10 * g
def GIRTHg_STATUS_CRACK (g : Nat) : Fld := ⟨GIRTHg_STATUS g, 31, 1⟩
def GIRTHg_STATUS_OPEN (g : Nat) : Fld := ⟨GIRTHg_STATUS g, 30, 1⟩
def GIRTHg_STATUS_LOW (g : Nat) : Fld := ⟨GIRTHg_STATUS g, 29, 1⟩
def GIRTHg_STATUS_BASELINE_VALID (g : Nat) : Fld := ⟨GIRTHg_STATUS g, 28, 1⟩
def GIRTHg_STATUS_RANGE (g : Nat) : Fld := ⟨GIRTHg_STATUS g, 0, 2⟩
/-- Offset of GIRTHg_MOHM. -/
def GIRTHg_MOHM (g : Nat) : Nat := 0x38708 + 0x10 * g
def GIRTHg_MOHM_V (g : Nat) : Fld := ⟨GIRTHg_MOHM g, 0, 24⟩
/-- Offset of GIRTHg_BASELINE. -/
def GIRTHg_BASELINE (g : Nat) : Nat := 0x3870C + 0x10 * g
def GIRTHg_BASELINE_V (g : Nat) : Fld := ⟨GIRTHg_BASELINE g, 0, 24⟩
/-- Offset of THERMt_NOMINAL. -/
def THERMt_NOMINAL (t : Nat) : Nat := 0x38800 + 0x10 * t
def THERMt_NOMINAL_PULLUP (t : Nat) : Fld := ⟨THERMt_NOMINAL t, 31, 1⟩
def THERMt_NOMINAL_OHMS (t : Nat) : Fld := ⟨THERMt_NOMINAL t, 0, 20⟩
/-- Offset of THERMt_BETA. -/
def THERMt_BETA (t : Nat) : Nat := 0x38804 + 0x10 * t
def THERMt_BETA_V (t : Nat) : Fld := ⟨THERMt_BETA t, 0, 16⟩
/-- Offset of THERMt_CODE. -/
def THERMt_CODE (t : Nat) : Nat := 0x38808 + 0x10 * t
def THERMt_CODE_V (t : Nat) : Fld := ⟨THERMt_CODE t, 0, 12⟩
/-- Offset of THERMt_TEMP. -/
def THERMt_TEMP (t : Nat) : Nat := 0x3880C + 0x10 * t
def THERMt_TEMP_VALID (t : Nat) : Fld := ⟨THERMt_TEMP t, 31, 1⟩
def THERMt_TEMP_OPEN (t : Nat) : Fld := ⟨THERMt_TEMP t, 30, 1⟩
def THERMt_TEMP_SHORT (t : Nat) : Fld := ⟨THERMt_TEMP t, 29, 1⟩
def THERMt_TEMP_TEMP (t : Nat) : Fld := ⟨THERMt_TEMP t, 0, 16⟩
/-- Offset of LNn_CTRL. -/
def LNn_CTRL (n : Nat) : Nat := 0x40000 + 0x400 * n
def LNn_CTRL_LOOPBACK (n : Nat) : Fld := ⟨LNn_CTRL n, 8, 2⟩
def LNn_CTRL_RX_INVERT (n : Nat) : Fld := ⟨LNn_CTRL n, 1, 1⟩
def LNn_CTRL_TX_INVERT (n : Nat) : Fld := ⟨LNn_CTRL n, 0, 1⟩
/-- Offset of LNn_STATUS. -/
def LNn_STATUS (n : Nat) : Nat := 0x40004 + 0x400 * n
def LNn_STATUS_RXSTATE (n : Nat) : Fld := ⟨LNn_STATUS n, 29, 3⟩
def LNn_STATUS_LOS (n : Nat) : Fld := ⟨LNn_STATUS n, 28, 1⟩
def LNn_STATUS_LOL (n : Nat) : Fld := ⟨LNn_STATUS n, 27, 1⟩
def LNn_STATUS_DEGRADED (n : Nat) : Fld := ⟨LNn_STATUS n, 26, 1⟩
def LNn_STATUS_ROLE (n : Nat) : Fld := ⟨LNn_STATUS n, 24, 2⟩
def LNn_STATUS_LINK_LANE (n : Nat) : Fld := ⟨LNn_STATUS n, 20, 4⟩
def LNn_STATUS_LINK (n : Nat) : Fld := ⟨LNn_STATUS n, 16, 4⟩
def LNn_STATUS_LOS_SEEN (n : Nat) : Fld := ⟨LNn_STATUS n, 7, 1⟩
def LNn_STATUS_LOCK_LOST (n : Nat) : Fld := ⟨LNn_STATUS n, 6, 1⟩
/-- Offset of LNn_TX_STATUS. -/
def LNn_TX_STATUS (n : Nat) : Nat := 0x40010 + 0x400 * n
def LNn_TX_STATUS_TXSTATE (n : Nat) : Fld := ⟨LNn_TX_STATUS n, 29, 3⟩
def LNn_TX_STATUS_LANE (n : Nat) : Fld := ⟨LNn_TX_STATUS n, 20, 4⟩
def LNn_TX_STATUS_ASEQ (n : Nat) : Fld := ⟨LNn_TX_STATUS n, 0, 16⟩
/-- Offset of LNn_POWER. -/
def LNn_POWER (n : Nat) : Nat := 0x40014 + 0x400 * n
def LNn_POWER_STATE (n : Nat) : Fld := ⟨LNn_POWER n, 30, 2⟩
def LNn_POWER_EXIT_US (n : Nat) : Fld := ⟨LNn_POWER n, 0, 16⟩
/-- Offset of LNn_EQ_CTRL. -/
def LNn_EQ_CTRL (n : Nat) : Nat := 0x40018 + 0x400 * n
def LNn_EQ_CTRL_ADAPT (n : Nat) : Fld := ⟨LNn_EQ_CTRL n, 31, 1⟩
def LNn_EQ_CTRL_FREEZE_EN (n : Nat) : Fld := ⟨LNn_EQ_CTRL n, 30, 1⟩
def LNn_EQ_CTRL_REVERT_EN (n : Nat) : Fld := ⟨LNn_EQ_CTRL n, 29, 1⟩
def LNn_EQ_CTRL_EYE_MIN (n : Nat) : Fld := ⟨LNn_EQ_CTRL n, 8, 8⟩
def LNn_EQ_CTRL_EYE_MIN_W (n : Nat) : Fld := ⟨LNn_EQ_CTRL n, 0, 6⟩
/-- Offset of LNn_EQ_STATUS. -/
def LNn_EQ_STATUS (n : Nat) : Nat := 0x4001C + 0x400 * n
def LNn_EQ_STATUS_FROZEN (n : Nat) : Fld := ⟨LNn_EQ_STATUS n, 31, 1⟩
def LNn_EQ_STATUS_SNAP_VALID (n : Nat) : Fld := ⟨LNn_EQ_STATUS n, 30, 1⟩
def LNn_EQ_STATUS_REVERTED (n : Nat) : Fld := ⟨LNn_EQ_STATUS n, 29, 1⟩
def LNn_EQ_STATUS_CTLE (n : Nat) : Fld := ⟨LNn_EQ_STATUS n, 8, 5⟩
def LNn_EQ_STATUS_CTLE_SNAP (n : Nat) : Fld := ⟨LNn_EQ_STATUS n, 0, 5⟩
/-- Offset of LNn_DFE. -/
def LNn_DFE (n : Nat) : Nat := 0x40020 + 0x400 * n
/-- Offset of LNn_SNAP_DFE. -/
def LNn_SNAP_DFE (n : Nat) : Nat := 0x40024 + 0x400 * n
/-- Offset of LNn_EYE_MARGIN. -/
def LNn_EYE_MARGIN (n : Nat) : Nat := 0x40028 + 0x400 * n
def LNn_EYE_MARGIN_HEIGHT (n : Nat) : Fld := ⟨LNn_EYE_MARGIN n, 16, 8⟩
def LNn_EYE_MARGIN_WIDTH (n : Nat) : Fld := ⟨LNn_EYE_MARGIN n, 0, 7⟩
/-- Offset of LNn_EYE_CTRL. -/
def LNn_EYE_CTRL (n : Nat) : Nat := 0x4002C + 0x400 * n
/-- Offset of LNn_EYE_RESULT. -/
def LNn_EYE_RESULT (n : Nat) : Nat := 0x40030 + 0x400 * n
def LNn_EYE_RESULT_DONE (n : Nat) : Fld := ⟨LNn_EYE_RESULT n, 31, 1⟩
def LNn_EYE_RESULT_SATURATED (n : Nat) : Fld := ⟨LNn_EYE_RESULT n, 30, 1⟩
def LNn_EYE_RESULT_ERRORS (n : Nat) : Fld := ⟨LNn_EYE_RESULT n, 0, 24⟩
/-- Offset of LNn_ALIGN_RX. -/
def LNn_ALIGN_RX (n : Nat) : Nat := 0x40034 + 0x400 * n
def LNn_ALIGN_RX_ASEQ (n : Nat) : Fld := ⟨LNn_ALIGN_RX n, 16, 16⟩
def LNn_ALIGN_RX_LANE (n : Nat) : Fld := ⟨LNn_ALIGN_RX n, 12, 4⟩
def LNn_ALIGN_RX_LINK (n : Nat) : Fld := ⟨LNn_ALIGN_RX n, 8, 4⟩
def LNn_ALIGN_RX_SPARE (n : Nat) : Fld := ⟨LNn_ALIGN_RX n, 7, 1⟩
def LNn_ALIGN_RX_DUP (n : Nat) : Fld := ⟨LNn_ALIGN_RX n, 6, 1⟩
def LNn_ALIGN_RX_RETIRED (n : Nat) : Fld := ⟨LNn_ALIGN_RX n, 5, 1⟩
/-- Offset of LNn_SKEW. -/
def LNn_SKEW (n : Nat) : Nat := 0x40038 + 0x400 * n
def LNn_SKEW_V (n : Nat) : Fld := ⟨LNn_SKEW n, 0, 7⟩
/-- Offset of LNn_PPM. -/
def LNn_PPM (n : Nat) : Nat := 0x4003C + 0x400 * n
def LNn_PPM_V (n : Nat) : Fld := ⟨LNn_PPM n, 0, 16⟩
/-- Offset of LNn_TEST_CTRL. -/
def LNn_TEST_CTRL (n : Nat) : Nat := 0x40040 + 0x400 * n
def LNn_TEST_CTRL_GEN (n : Nat) : Fld := ⟨LNn_TEST_CTRL n, 31, 1⟩
def LNn_TEST_CTRL_CHECK (n : Nat) : Fld := ⟨LNn_TEST_CTRL n, 30, 1⟩
def LNn_TEST_CTRL_PATTERN (n : Nat) : Fld := ⟨LNn_TEST_CTRL n, 28, 2⟩
/-- Offset of LNn_TEST_ERR. -/
def LNn_TEST_ERR (n : Nat) : Nat := 0x40044 + 0x400 * n
def LNn_TEST_ERR_V (n : Nat) : Fld := ⟨LNn_TEST_ERR n, 0, 32⟩
/-- Offset of LNn_TEST_BLOCKS. -/
def LNn_TEST_BLOCKS (n : Nat) : Nat := 0x40048 + 0x400 * n
def LNn_TEST_BLOCKS_V (n : Nat) : Fld := ⟨LNn_TEST_BLOCKS n, 0, 32⟩
/-- Offset of LNn_LUNGE_US. -/
def LNn_LUNGE_US (n : Nat) : Nat := 0x4004C + 0x400 * n
def LNn_LUNGE_US_V (n : Nat) : Fld := ⟨LNn_LUNGE_US n, 0, 32⟩
/-- Offset of LNn_COUNTk. -/
def LNn_COUNTk (n : Nat) (k : Nat) : Nat := 0x40080 + 0x400 * n + 0x4 * k
def LNn_COUNTk_V (n : Nat) (k : Nat) : Fld := ⟨LNn_COUNTk n k, 0, 32⟩
/-- Offset of LKj_CTRL. -/
def LKj_CTRL (j : Nat) : Nat := 0x50000 + 0x40 * j
def LKj_CTRL_SPARE_FOR (j : Nat) : Fld := ⟨LKj_CTRL j, 24, 4⟩
def LKj_CTRL_TX_DUP (j : Nat) : Fld := ⟨LKj_CTRL j, 23, 1⟩
/-- Offset of LKj_STATUS. -/
def LKj_STATUS (j : Nat) : Nat := 0x50004 + 0x40 * j
def LKj_STATUS_STATE (j : Nat) : Fld := ⟨LKj_STATUS j, 29, 3⟩
def LKj_STATUS_SPARE_PRESENT (j : Nat) : Fld := ⟨LKj_STATUS j, 28, 1⟩
def LKj_STATUS_SPARE_IN_USE (j : Nat) : Fld := ⟨LKj_STATUS j, 27, 1⟩
def LKj_STATUS_SPARE_STATE (j : Nat) : Fld := ⟨LKj_STATUS j, 24, 3⟩
def LKj_STATUS_SPARE_LANE (j : Nat) : Fld := ⟨LKj_STATUS j, 20, 4⟩
def LKj_STATUS_LANES (j : Nat) : Fld := ⟨LKj_STATUS j, 8, 5⟩
def LKj_STATUS_PROFILE (j : Nat) : Fld := ⟨LKj_STATUS j, 0, 3⟩
/-- Offset of LKj_PARTNER0. -/
def LKj_PARTNER0 (j : Nat) : Nat := 0x50008 + 0x40 * j
def LKj_PARTNER0_LANES (j : Nat) : Fld := ⟨LKj_PARTNER0 j, 24, 8⟩
def LKj_PARTNER0_PROFILE (j : Nat) : Fld := ⟨LKj_PARTNER0 j, 16, 8⟩
def LKj_PARTNER0_NODE_ID (j : Nat) : Fld := ⟨LKj_PARTNER0 j, 0, 16⟩
/-- Offset of LKj_PARTNER1. -/
def LKj_PARTNER1 (j : Nat) : Nat := 0x5000C + 0x40 * j
def LKj_PARTNER1_DEVICE (j : Nat) : Fld := ⟨LKj_PARTNER1 j, 16, 16⟩
def LKj_PARTNER1_VENDOR (j : Nat) : Fld := ⟨LKj_PARTNER1 j, 0, 16⟩
/-- Offset of LKj_PARTNER2. -/
def LKj_PARTNER2 (j : Nat) : Nat := 0x50010 + 0x40 * j
def LKj_PARTNER2_VALID (j : Nat) : Fld := ⟨LKj_PARTNER2 j, 31, 1⟩
def LKj_PARTNER2_CAPS (j : Nat) : Fld := ⟨LKj_PARTNER2 j, 16, 8⟩
def LKj_PARTNER2_RATES (j : Nat) : Fld := ⟨LKj_PARTNER2 j, 8, 8⟩
def LKj_PARTNER2_REQ (j : Nat) : Fld := ⟨LKj_PARTNER2 j, 0, 8⟩
/-- Offset of LKj_SPARE. -/
def LKj_SPARE (j : Nat) : Nat := 0x50014 + 0x40 * j
def LKj_SPARE_COMPARED (j : Nat) : Fld := ⟨LKj_SPARE j, 16, 16⟩
def LKj_SPARE_MISMATCHES (j : Nat) : Fld := ⟨LKj_SPARE j, 0, 16⟩
/-- Offset of LKj_COUNTk. -/
def LKj_COUNTk (j : Nat) (k : Nat) : Nat := 0x50020 + 0x40 * j + 0x4 * k
def LKj_COUNTk_V (j : Nat) (k : Nat) : Fld := ⟨LKj_COUNTk j k, 0, 32⟩
/-- Offset of EVT_CTRL. -/
def EVT_CTRL : Nat := 0x02000
def EVT_CTRL_ENABLE : Fld := ⟨EVT_CTRL, 31, 1⟩
def EVT_CTRL_BANK : Fld := ⟨EVT_CTRL, 0, 4⟩
/-- Offset of EVT_STATUS. -/
def EVT_STATUS : Nat := 0x02004
def EVT_STATUS_OVERFLOW : Fld := ⟨EVT_STATUS, 31, 1⟩
def EVT_STATUS_ALERT : Fld := ⟨EVT_STATUS, 30, 1⟩
def EVT_STATUS_BANK_LOST : Fld := ⟨EVT_STATUS, 29, 1⟩
/-- Offset of EVT_PROD. -/
def EVT_PROD : Nat := 0x02008
def EVT_PROD_V : Fld := ⟨EVT_PROD, 0, 14⟩
/-- Offset of EVT_CONS. -/
def EVT_CONS : Nat := 0x0200C
def EVT_CONS_V : Fld := ⟨EVT_CONS, 0, 14⟩
/-- Offset of EVT_POSTED_COUNT. -/
def EVT_POSTED_COUNT : Nat := 0x02010
def EVT_POSTED_COUNT_V : Fld := ⟨EVT_POSTED_COUNT, 0, 32⟩
/-- Offset of EVT_LOST_COUNT. -/
def EVT_LOST_COUNT : Nat := 0x02014
def EVT_LOST_COUNT_V : Fld := ⟨EVT_LOST_COUNT, 0, 32⟩
/-- Offset of EVT_CLASS_ENABLE. -/
def EVT_CLASS_ENABLE : Nat := 0x02018
def EVT_CLASS_ENABLE_V : Fld := ⟨EVT_CLASS_ENABLE, 0, 16⟩
/-- Offset of EVT_ALERT_ENABLE. -/
def EVT_ALERT_ENABLE : Nat := 0x0201C
def EVT_ALERT_ENABLE_V : Fld := ⟨EVT_ALERT_ENABLE, 0, 16⟩
/-- Offset of EVT_MODERATE. -/
def EVT_MODERATE : Nat := 0x02020
def EVT_MODERATE_V : Fld := ⟨EVT_MODERATE, 0, 16⟩
/-- Offset of EVT_HIGH_WATER. -/
def EVT_HIGH_WATER : Nat := 0x02024
def EVT_HIGH_WATER_V : Fld := ⟨EVT_HIGH_WATER, 0, 32⟩
/-- Offset of EVT_INJECT. -/
def EVT_INJECT : Nat := 0x02028
/-- Offset of EVT_INJECT_ARG. -/
def EVT_INJECT_ARG : Nat := 0x0202C
def EVT_INJECT_ARG_V : Fld := ⟨EVT_INJECT_ARG, 0, 32⟩
/-- Offset of EVT_FLOG_SEL. -/
def EVT_FLOG_SEL : Nat := 0x02030
def EVT_FLOG_SEL_V : Fld := ⟨EVT_FLOG_SEL, 0, 6⟩
/-- Offset of EVT_FLOG_CLEAR. -/
def EVT_FLOG_CLEAR : Nat := 0x02034
/-- Offset of EVT_FLOG_COUNT. -/
def EVT_FLOG_COUNT : Nat := 0x02038
def EVT_FLOG_COUNT_V : Fld := ⟨EVT_FLOG_COUNT, 0, 32⟩
/-- Offset of EVT_FLOG_LOST. -/
def EVT_FLOG_LOST : Nat := 0x0203C
def EVT_FLOG_LOST_V : Fld := ⟨EVT_FLOG_LOST, 0, 32⟩
/-- Offset of EVT_CLASS_COUNTk. -/
def EVT_CLASS_COUNTk (k : Nat) : Nat := 0x02040 + 0x4 * k
def EVT_CLASS_COUNTk_V (k : Nat) : Fld := ⟨EVT_CLASS_COUNTk k, 0, 32⟩
/-- Offset of HOST_STATUS. -/
def HOST_STATUS : Nat := 0x60004
def HOST_STATUS_LINK_UP : Fld := ⟨HOST_STATUS, 31, 1⟩
def HOST_STATUS_SPEED : Fld := ⟨HOST_STATUS, 28, 3⟩
def HOST_STATUS_WIDTH : Fld := ⟨HOST_STATUS, 24, 4⟩
def HOST_STATUS_BUS_MASTER : Fld := ⟨HOST_STATUS, 23, 1⟩
def HOST_STATUS_MSIX_ENABLE : Fld := ⟨HOST_STATUS, 22, 1⟩
def HOST_STATUS_PM : Fld := ⟨HOST_STATUS, 20, 2⟩
/-- Offset of HOST_BAR2_BASE. -/
def HOST_BAR2_BASE : Nat := 0x60008
def HOST_BAR2_BASE_V : Fld := ⟨HOST_BAR2_BASE, 0, 12⟩
/-- Offset of SPI_CTRL. -/
def SPI_CTRL : Nat := 0x6000C
def SPI_CTRL_V : Fld := ⟨SPI_CTRL, 0, 1⟩
/-- Offset of SPI_STATUS. -/
def SPI_STATUS : Nat := 0x60010
def SPI_STATUS_LATE : Fld := ⟨SPI_STATUS, 31, 1⟩
def SPI_STATUS_BAD_OP : Fld := ⟨SPI_STATUS, 30, 1⟩
def SPI_STATUS_LAST_OP : Fld := ⟨SPI_STATUS, 0, 8⟩
/-- Offset of SPI_ERR_COUNT. -/
def SPI_ERR_COUNT : Nat := 0x60014
def SPI_ERR_COUNT_V : Fld := ⟨SPI_ERR_COUNT, 0, 32⟩
/-- Offset of HOST_ERR_COUNTk. -/
def HOST_ERR_COUNTk (k : Nat) : Nat := 0x60020 + 0x4 * k
def HOST_ERR_COUNTk_V (k : Nat) : Fld := ⟨HOST_ERR_COUNTk k, 0, 32⟩
/-- Offset of HOST_VECMAPk. -/
def HOST_VECMAPk (k : Nat) : Nat := 0x60080 + 0x4 * k
def HOST_VECMAPk_V (k : Nat) : Fld := ⟨HOST_VECMAPk k, 0, 6⟩
/-- Offset of DMAc_CTRL. -/
def DMAc_CTRL (c : Nat) : Nat := 0x60100 + 0x40 * c
def DMAc_CTRL_ENABLE (c : Nat) : Fld := ⟨DMAc_CTRL c, 31, 1⟩
/-- Offset of DMAc_STATUS. -/
def DMAc_STATUS (c : Nat) : Nat := 0x60104 + 0x40 * c
def DMAc_STATUS_STATE (c : Nat) : Fld := ⟨DMAc_STATUS c, 29, 3⟩
def DMAc_STATUS_LAST_RESULT (c : Nat) : Fld := ⟨DMAc_STATUS c, 24, 4⟩
def DMAc_STATUS_ERR_INDEX (c : Nat) : Fld := ⟨DMAc_STATUS c, 0, 16⟩
/-- Offset of DMAc_RING_LO. -/
def DMAc_RING_LO (c : Nat) : Nat := 0x60108 + 0x40 * c
def DMAc_RING_LO_V (c : Nat) : Fld := ⟨DMAc_RING_LO c, 0, 32⟩
/-- Offset of DMAc_RING_HI. -/
def DMAc_RING_HI (c : Nat) : Nat := 0x6010C + 0x40 * c
def DMAc_RING_HI_V (c : Nat) : Fld := ⟨DMAc_RING_HI c, 0, 32⟩
/-- Offset of DMAc_RING_SIZE. -/
def DMAc_RING_SIZE (c : Nat) : Nat := 0x60110 + 0x40 * c
def DMAc_RING_SIZE_V (c : Nat) : Fld := ⟨DMAc_RING_SIZE c, 0, 5⟩
/-- Offset of DMAc_TAIL. -/
def DMAc_TAIL (c : Nat) : Nat := 0x60114 + 0x40 * c
def DMAc_TAIL_V (c : Nat) : Fld := ⟨DMAc_TAIL c, 0, 16⟩
/-- Offset of DMAc_HEAD. -/
def DMAc_HEAD (c : Nat) : Nat := 0x60118 + 0x40 * c
def DMAc_HEAD_V (c : Nat) : Fld := ⟨DMAc_HEAD c, 0, 16⟩
/-- Offset of DMAc_DONE_COUNT. -/
def DMAc_DONE_COUNT (c : Nat) : Nat := 0x6011C + 0x40 * c
def DMAc_DONE_COUNT_V (c : Nat) : Fld := ⟨DMAc_DONE_COUNT c, 0, 32⟩
/-- Offset of DMAc_ERR_COUNT. -/
def DMAc_ERR_COUNT (c : Nat) : Nat := 0x60120 + 0x40 * c
def DMAc_ERR_COUNT_V (c : Nat) : Fld := ⟨DMAc_ERR_COUNT c, 0, 32⟩
/-- Offset of DMAc_BYTES. -/
def DMAc_BYTES (c : Nat) : Nat := 0x60124 + 0x40 * c
def DMAc_BYTES_V (c : Nat) : Fld := ⟨DMAc_BYTES c, 0, 32⟩
/-- Offset of TEAM_CTRL. -/
def TEAM_CTRL : Nat := 0x60400
def TEAM_CTRL_ENABLE : Fld := ⟨TEAM_CTRL, 31, 1⟩
def TEAM_CTRL_EVT_UP : Fld := ⟨TEAM_CTRL, 29, 1⟩
/-- Offset of TEAM_STATUS. -/
def TEAM_STATUS : Nat := 0x60404
def TEAM_STATUS_LEADER : Fld := ⟨TEAM_STATUS, 31, 1⟩
def TEAM_STATUS_PROBING : Fld := ⟨TEAM_STATUS, 30, 1⟩
def TEAM_STATUS_EVT_GAP : Fld := ⟨TEAM_STATUS, 29, 1⟩
def TEAM_STATUS_BUSY : Fld := ⟨TEAM_STATUS, 28, 1⟩
def TEAM_STATUS_POSITION : Fld := ⟨TEAM_STATUS, 16, 6⟩
def TEAM_STATUS_PRESENT : Fld := ⟨TEAM_STATUS, 0, 7⟩
/-- Offset of TEAM_PRESENT_LO. -/
def TEAM_PRESENT_LO : Nat := 0x60408
def TEAM_PRESENT_LO_V : Fld := ⟨TEAM_PRESENT_LO, 0, 32⟩
/-- Offset of TEAM_PRESENT_HI. -/
def TEAM_PRESENT_HI : Nat := 0x6040C
def TEAM_PRESENT_HI_V : Fld := ⟨TEAM_PRESENT_HI, 0, 32⟩
/-- Offset of TEAM_FWD_COUNT. -/
def TEAM_FWD_COUNT : Nat := 0x60410
def TEAM_FWD_COUNT_V : Fld := ⟨TEAM_FWD_COUNT, 0, 32⟩
/-- Offset of TEAM_FWD_TIMEOUT_COUNT. -/
def TEAM_FWD_TIMEOUT_COUNT : Nat := 0x60414
def TEAM_FWD_TIMEOUT_COUNT_V : Fld := ⟨TEAM_FWD_TIMEOUT_COUNT, 0, 32⟩
/-- Offset of TEAM_FWD_LAST. -/
def TEAM_FWD_LAST : Nat := 0x60418
def TEAM_FWD_LAST_RESULT : Fld := ⟨TEAM_FWD_LAST, 28, 4⟩
/-- Offset of TEAM_EVT_COUNT. -/
def TEAM_EVT_COUNT : Nat := 0x6041C
def TEAM_EVT_COUNT_V : Fld := ⟨TEAM_EVT_COUNT, 0, 32⟩
/-- Offset of TEAM_DISTn. -/
def TEAM_DISTn (n : Nat) : Nat := 0x60420 + 0x4 * n
def TEAM_DISTn_RX_ENABLE (n : Nat) : Fld := ⟨TEAM_DISTn n, 31, 1⟩
def TEAM_DISTn_RX_LINK (n : Nat) : Fld := ⟨TEAM_DISTn n, 24, 4⟩
def TEAM_DISTn_TX_MASK (n : Nat) : Fld := ⟨TEAM_DISTn n, 0, 16⟩
/-- Offset of TEAM_POSp. -/
def TEAM_POSp (p : Nat) : Nat := 0x60500 + 0x4 * p
def TEAM_POSp_PRESENT (p : Nat) : Fld := ⟨TEAM_POSp p, 31, 1⟩
def TEAM_POSp_LINK (p : Nat) : Fld := ⟨TEAM_POSp p, 24, 4⟩
def TEAM_POSp_RTT_NS (p : Nat) : Fld := ⟨TEAM_POSp p, 0, 16⟩
/-- Offset of NET_CTRL. -/
def NET_CTRL : Nat := 0x58000
def NET_CTRL_V : Fld := ⟨NET_CTRL, 0, 1⟩
/-- Offset of NET_STATUS. -/
def NET_STATUS : Nat := 0x58004
def NET_STATUS_V : Fld := ⟨NET_STATUS, 0, 1⟩
/-- Offset of Ep_CTRL. -/
def Ep_CTRL (p : Nat) : Nat := 0x58100 + 0x100 * p
def Ep_CTRL_ENABLE (p : Nat) : Fld := ⟨Ep_CTRL p, 31, 1⟩
def Ep_CTRL_ALL_MULTI (p : Nat) : Fld := ⟨Ep_CTRL p, 30, 1⟩
def Ep_CTRL_PROMISC (p : Nat) : Fld := ⟨Ep_CTRL p, 29, 1⟩
def Ep_CTRL_JUMBO (p : Nat) : Fld := ⟨Ep_CTRL p, 28, 1⟩
/-- Offset of Ep_STATUS. -/
def Ep_STATUS (p : Nat) : Nat := 0x58104 + 0x100 * p
def Ep_STATUS_LINK_UP (p : Nat) : Fld := ⟨Ep_STATUS p, 31, 1⟩
def Ep_STATUS_LOCAL_FAULT (p : Nat) : Fld := ⟨Ep_STATUS p, 30, 1⟩
def Ep_STATUS_REMOTE_FAULT (p : Nat) : Fld := ⟨Ep_STATUS p, 29, 1⟩
def Ep_STATUS_HI_BER (p : Nat) : Fld := ⟨Ep_STATUS p, 28, 1⟩
/-- Offset of Ep_MAC_HI. -/
def Ep_MAC_HI (p : Nat) : Nat := 0x58108 + 0x100 * p
def Ep_MAC_HI_V (p : Nat) : Fld := ⟨Ep_MAC_HI p, 0, 16⟩
/-- Offset of Ep_MAC_LO. -/
def Ep_MAC_LO (p : Nat) : Nat := 0x5810C + 0x100 * p
def Ep_MAC_LO_V (p : Nat) : Fld := ⟨Ep_MAC_LO p, 0, 32⟩
/-- Offset of Ep_COUNTk. -/
def Ep_COUNTk (p : Nat) (k : Nat) : Nat := 0x58140 + 0x100 * p + 0x4 * k
def Ep_COUNTk_V (p : Nat) (k : Nat) : Fld := ⟨Ep_COUNTk p k, 0, 32⟩
/-- Offset of Ep_FILTERk. -/
def Ep_FILTERk (p : Nat) (k : Nat) : Nat := 0x58180 + 0x100 * p + 0x4 * k
def Ep_FILTERk_ENABLE (p : Nat) (k : Nat) : Fld := ⟨Ep_FILTERk p k, 31, 1⟩
def Ep_FILTERk_KIND (p : Nat) (k : Nat) : Fld := ⟨Ep_FILTERk p k, 30, 1⟩
def Ep_FILTERk_QUEUE (p : Nat) (k : Nat) : Fld := ⟨Ep_FILTERk p k, 24, 1⟩
def Ep_FILTERk_V (p : Nat) (k : Nat) : Fld := ⟨Ep_FILTERk p k, 0, 16⟩
/-- Offset of NQq_CTRL. -/
def NQq_CTRL (q : Nat) : Nat := 0x58400 + 0x20 * q
/-- Offset of NQq_STATUS. -/
def NQq_STATUS (q : Nat) : Nat := 0x58404 + 0x20 * q
def NQq_STATUS_STATE (q : Nat) : Fld := ⟨NQq_STATUS q, 30, 2⟩
def NQq_STATUS_DROPPED (q : Nat) : Fld := ⟨NQq_STATUS q, 29, 1⟩
/-- Offset of NQq_BASE_LO. -/
def NQq_BASE_LO (q : Nat) : Nat := 0x58408 + 0x20 * q
def NQq_BASE_LO_V (q : Nat) : Fld := ⟨NQq_BASE_LO q, 0, 32⟩
/-- Offset of NQq_BASE_HI. -/
def NQq_BASE_HI (q : Nat) : Nat := 0x5840C + 0x20 * q
def NQq_BASE_HI_V (q : Nat) : Fld := ⟨NQq_BASE_HI q, 0, 8⟩
/-- Offset of NQq_SIZE. -/
def NQq_SIZE (q : Nat) : Nat := 0x58410 + 0x20 * q
def NQq_SIZE_V (q : Nat) : Fld := ⟨NQq_SIZE q, 0, 4⟩
/-- Offset of NQq_HEAD. -/
def NQq_HEAD (q : Nat) : Nat := 0x58414 + 0x20 * q
def NQq_HEAD_V (q : Nat) : Fld := ⟨NQq_HEAD q, 0, 12⟩
/-- Offset of NQq_TAIL. -/
def NQq_TAIL (q : Nat) : Nat := 0x58418 + 0x20 * q
def NQq_TAIL_V (q : Nat) : Fld := ⟨NQq_TAIL q, 0, 12⟩
/-- Offset of NQq_COUNT. -/
def NQq_COUNT (q : Nat) : Nat := 0x5841C + 0x20 * q
def NQq_COUNT_V (q : Nat) : Fld := ⟨NQq_COUNT q, 0, 32⟩
/-- Offset of TS_CTRL. -/
def TS_CTRL : Nat := 0x58800
def TS_CTRL_TX_ENABLE : Fld := ⟨TS_CTRL, 31, 1⟩
def TS_CTRL_IPV6 : Fld := ⟨TS_CTRL, 30, 1⟩
def TS_CTRL_PORT : Fld := ⟨TS_CTRL, 29, 1⟩
def TS_CTRL_MAX_PAYLOAD : Fld := ⟨TS_CTRL, 0, 14⟩
/-- Offset of TS_STATUS. -/
def TS_STATUS : Nat := 0x58804
def TS_STATUS_BACKLOG : Fld := ⟨TS_STATUS, 31, 1⟩
/-- Offset of TS_UDP_PORT. -/
def TS_UDP_PORT : Nat := 0x58808
def TS_UDP_PORT_V : Fld := ⟨TS_UDP_PORT, 0, 16⟩
/-- Offset of TS_DEST_MAC_HI. -/
def TS_DEST_MAC_HI : Nat := 0x5880C
def TS_DEST_MAC_HI_V : Fld := ⟨TS_DEST_MAC_HI, 0, 16⟩
/-- Offset of TS_DEST_MAC_LO. -/
def TS_DEST_MAC_LO : Nat := 0x58810
def TS_DEST_MAC_LO_V : Fld := ⟨TS_DEST_MAC_LO, 0, 32⟩
/-- Offset of TS_DEST_IPV4. -/
def TS_DEST_IPV4 : Nat := 0x58814
def TS_DEST_IPV4_V : Fld := ⟨TS_DEST_IPV4, 0, 32⟩
/-- Offset of TS_DEST_IPV6k. -/
def TS_DEST_IPV6k (k : Nat) : Nat := 0x58818 + 0x4 * k
def TS_DEST_IPV6k_V (k : Nat) : Fld := ⟨TS_DEST_IPV6k k, 0, 32⟩
/-- Offset of TS_ERR_COUNTk. -/
def TS_ERR_COUNTk (k : Nat) : Nat := 0x58830 + 0x4 * k
def TS_ERR_COUNTk_V (k : Nat) : Fld := ⟨TS_ERR_COUNTk k, 0, 32⟩
/-- Offset of TSh_CTRL. -/
def TSh_CTRL (h : Nat) : Nat := 0x58A00 + 0x40 * h
def TSh_CTRL_TX (h : Nat) : Fld := ⟨TSh_CTRL h, 31, 1⟩
def TSh_CTRL_RX (h : Nat) : Fld := ⟨TSh_CTRL h, 30, 1⟩
def TSh_CTRL_SRC_HEAD (h : Nat) : Fld := ⟨TSh_CTRL h, 24, 3⟩
def TSh_CTRL_KEY_INTERVAL (h : Nat) : Fld := ⟨TSh_CTRL h, 16, 8⟩
def TSh_CTRL_SRC_NODE (h : Nat) : Fld := ⟨TSh_CTRL h, 0, 16⟩
/-- Offset of TSh_STATUS. -/
def TSh_STATUS (h : Nat) : Nat := 0x58A04 + 0x40 * h
def TSh_STATUS_LOSS (h : Nat) : Fld := ⟨TSh_STATUS h, 31, 1⟩
def TSh_STATUS_KEY_SEEN (h : Nat) : Fld := ⟨TSh_STATUS h, 30, 1⟩
/-- Offset of TSh_BASE. -/
def TSh_BASE (h : Nat) : Nat := 0x58A08 + 0x40 * h
def TSh_BASE_V (h : Nat) : Fld := ⟨TSh_BASE h, 0, 32⟩
/-- Offset of TSh_SEQ. -/
def TSh_SEQ (h : Nat) : Nat := 0x58A0C + 0x40 * h
def TSh_SEQ_V (h : Nat) : Fld := ⟨TSh_SEQ h, 0, 32⟩
/-- Offset of TSh_TX_FRAMES. -/
def TSh_TX_FRAMES (h : Nat) : Nat := 0x58A10 + 0x40 * h
def TSh_TX_FRAMES_V (h : Nat) : Fld := ⟨TSh_TX_FRAMES h, 0, 32⟩
/-- Offset of TSh_TX_BYTES. -/
def TSh_TX_BYTES (h : Nat) : Nat := 0x58A14 + 0x40 * h
def TSh_TX_BYTES_V (h : Nat) : Fld := ⟨TSh_TX_BYTES h, 0, 32⟩
/-- Offset of TSh_RX_FRAME. -/
def TSh_RX_FRAME (h : Nat) : Nat := 0x58A18 + 0x40 * h
def TSh_RX_FRAME_V (h : Nat) : Fld := ⟨TSh_RX_FRAME h, 0, 16⟩
/-- Offset of TSh_RX_TILES. -/
def TSh_RX_TILES (h : Nat) : Nat := 0x58A1C + 0x40 * h
def TSh_RX_TILES_V (h : Nat) : Fld := ⟨TSh_RX_TILES h, 0, 32⟩
/-- Offset of TSh_RX_LOSS. -/
def TSh_RX_LOSS (h : Nat) : Nat := 0x58A20 + 0x40 * h
def TSh_RX_LOSS_V (h : Nat) : Fld := ⟨TSh_RX_LOSS h, 0, 32⟩
/-- Offset of MEM_STATUS. -/
def MEM_STATUS : Nat := 0x68000
def MEM_STATUS_INIT_DONE : Fld := ⟨MEM_STATUS, 31, 1⟩
def MEM_STATUS_GROOM_SRAM : Fld := ⟨MEM_STATUS, 30, 1⟩
def MEM_STATUS_GROOM_DRAM : Fld := ⟨MEM_STATUS, 29, 1⟩
def MEM_STATUS_MARCH_BUSY : Fld := ⟨MEM_STATUS, 28, 1⟩
def MEM_STATUS_SPARE_LOW : Fld := ⟨MEM_STATUS, 27, 1⟩
/-- Offset of MEM_EVT_ENABLE. -/
def MEM_EVT_ENABLE : Nat := 0x68004
/-- Offset of MEM_EVT_STATUS. -/
def MEM_EVT_STATUS : Nat := 0x68008
/-- Offset of MEM_ERR_ADDR_LO. -/
def MEM_ERR_ADDR_LO : Nat := 0x6800C
def MEM_ERR_ADDR_LO_V : Fld := ⟨MEM_ERR_ADDR_LO, 0, 32⟩
/-- Offset of MEM_ERR_ADDR_HI. -/
def MEM_ERR_ADDR_HI : Nat := 0x68010
def MEM_ERR_ADDR_HI_V : Fld := ⟨MEM_ERR_ADDR_HI, 0, 8⟩
/-- Offset of MEM_ERR_INFO. -/
def MEM_ERR_INFO : Nat := 0x68014
/-- Offset of MEM_CLOG_USED. -/
def MEM_CLOG_USED : Nat := 0x68018
def MEM_CLOG_USED_V : Fld := ⟨MEM_CLOG_USED, 0, 32⟩
/-- Offset of MEM_PPR_COUNT. -/
def MEM_PPR_COUNT : Nat := 0x6801C
def MEM_PPR_COUNT_V : Fld := ⟨MEM_PPR_COUNT, 0, 32⟩
/-- Offset of MEM_COUNTk. -/
def MEM_COUNTk (k : Nat) : Nat := 0x68020 + 0x4 * k
def MEM_COUNTk_V (k : Nat) : Fld := ⟨MEM_COUNTk k, 0, 32⟩
/-- Offset of MEM_ATOM_ADDR_LO. -/
def MEM_ATOM_ADDR_LO : Nat := 0x68060
def MEM_ATOM_ADDR_LO_V : Fld := ⟨MEM_ATOM_ADDR_LO, 0, 32⟩
/-- Offset of MEM_ATOM_ADDR_HI. -/
def MEM_ATOM_ADDR_HI : Nat := 0x68064
def MEM_ATOM_ADDR_HI_V : Fld := ⟨MEM_ATOM_ADDR_HI, 0, 8⟩
/-- Offset of MEM_ATOM_DATA_LO. -/
def MEM_ATOM_DATA_LO : Nat := 0x68068
def MEM_ATOM_DATA_LO_V : Fld := ⟨MEM_ATOM_DATA_LO, 0, 32⟩
/-- Offset of MEM_ATOM_DATA_HI. -/
def MEM_ATOM_DATA_HI : Nat := 0x6806C
def MEM_ATOM_DATA_HI_V : Fld := ⟨MEM_ATOM_DATA_HI, 0, 32⟩
/-- Offset of MEM_ATOM_OP. -/
def MEM_ATOM_OP : Nat := 0x68070
/-- Offset of MEM_ATOM_OLD_LO. -/
def MEM_ATOM_OLD_LO : Nat := 0x68074
def MEM_ATOM_OLD_LO_V : Fld := ⟨MEM_ATOM_OLD_LO, 0, 32⟩
/-- Offset of MEM_ATOM_OLD_HI. -/
def MEM_ATOM_OLD_HI : Nat := 0x68078
def MEM_ATOM_OLD_HI_V : Fld := ⟨MEM_ATOM_OLD_HI, 0, 32⟩
/-- Offset of SBn_OWNER. -/
def SBn_OWNER (n : Nat) : Nat := 0x68100 + 0x20 * n
def SBn_OWNER_PENDING (n : Nat) : Fld := ⟨SBn_OWNER n, 29, 1⟩
def SBn_OWNER_SHARE_READ (n : Nat) : Fld := ⟨SBn_OWNER n, 28, 1⟩
def SBn_OWNER_LENDABLE (n : Nat) : Fld := ⟨SBn_OWNER n, 27, 1⟩
def SBn_OWNER_MAILBOX (n : Nat) : Fld := ⟨SBn_OWNER n, 26, 1⟩
def SBn_OWNER_NEXT (n : Nat) : Fld := ⟨SBn_OWNER n, 16, 4⟩
def SBn_OWNER_OWNER (n : Nat) : Fld := ⟨SBn_OWNER n, 0, 4⟩
/-- Offset of SBn_STATUS. -/
def SBn_STATUS (n : Nat) : Nat := 0x68104 + 0x20 * n
def SBn_STATUS_STATE (n : Nat) : Fld := ⟨SBn_STATUS n, 30, 2⟩
def SBn_STATUS_MARCH (n : Nat) : Fld := ⟨SBn_STATUS n, 29, 1⟩
def SBn_STATUS_VIOL (n : Nat) : Fld := ⟨SBn_STATUS n, 28, 1⟩
def SBn_STATUS_COLLIDE (n : Nat) : Fld := ⟨SBn_STATUS n, 27, 1⟩
def SBn_STATUS_SPARE_ROWS (n : Nat) : Fld := ⟨SBn_STATUS n, 16, 6⟩
/-- Offset of SBn_VIOL_ADDR. -/
def SBn_VIOL_ADDR (n : Nat) : Nat := 0x68108 + 0x20 * n
def SBn_VIOL_ADDR_V (n : Nat) : Fld := ⟨SBn_VIOL_ADDR n, 0, 19⟩
/-- Offset of SBn_VIOL_COUNT. -/
def SBn_VIOL_COUNT (n : Nat) : Nat := 0x6810C + 0x20 * n
def SBn_VIOL_COUNT_V (n : Nat) : Fld := ⟨SBn_VIOL_COUNT n, 0, 32⟩
/-- Offset of SBn_COLLIDE_ADDR. -/
def SBn_COLLIDE_ADDR (n : Nat) : Nat := 0x68110 + 0x20 * n
def SBn_COLLIDE_ADDR_V (n : Nat) : Fld := ⟨SBn_COLLIDE_ADDR n, 0, 19⟩
/-- Offset of SBn_COLLIDE_COUNT. -/
def SBn_COLLIDE_COUNT (n : Nat) : Nat := 0x68114 + 0x20 * n
def SBn_COLLIDE_COUNT_V (n : Nat) : Fld := ⟨SBn_COLLIDE_COUNT n, 0, 32⟩
/-- Offset of MEM_MARCH_CTRL. -/
def MEM_MARCH_CTRL : Nat := 0x68400
def MEM_MARCH_CTRL_BACKGROUND : Fld := ⟨MEM_MARCH_CTRL, 29, 1⟩
/-- Offset of MEM_MARCH_STATUS. -/
def MEM_MARCH_STATUS : Nat := 0x68404
def MEM_MARCH_STATUS_BUSY : Fld := ⟨MEM_MARCH_STATUS, 31, 1⟩
def MEM_MARCH_STATUS_FAIL : Fld := ⟨MEM_MARCH_STATUS, 30, 1⟩
def MEM_MARCH_STATUS_REQUESTED : Fld := ⟨MEM_MARCH_STATUS, 29, 1⟩
def MEM_MARCH_STATUS_BANK : Fld := ⟨MEM_MARCH_STATUS, 16, 4⟩
def MEM_MARCH_STATUS_ROW : Fld := ⟨MEM_MARCH_STATUS, 0, 9⟩
/-- Offset of MEM_MARCH_ROWS. -/
def MEM_MARCH_ROWS : Nat := 0x6840C
def MEM_MARCH_ROWS_V : Fld := ⟨MEM_MARCH_ROWS, 0, 32⟩
/-- Offset of MEM_MARCH_FAIL_ADDR. -/
def MEM_MARCH_FAIL_ADDR : Nat := 0x68410
def MEM_MARCH_FAIL_ADDR_V : Fld := ⟨MEM_MARCH_FAIL_ADDR, 0, 30⟩
/-- Offset of MEM_GROOM_CTRL. -/
def MEM_GROOM_CTRL : Nat := 0x68500
def MEM_GROOM_CTRL_SRAM_EN : Fld := ⟨MEM_GROOM_CTRL, 31, 1⟩
def MEM_GROOM_CTRL_DRAM_EN : Fld := ⟨MEM_GROOM_CTRL, 30, 1⟩
/-- Offset of MEM_GROOM_SRAM_PASSES. -/
def MEM_GROOM_SRAM_PASSES : Nat := 0x68504
def MEM_GROOM_SRAM_PASSES_V : Fld := ⟨MEM_GROOM_SRAM_PASSES, 0, 32⟩
/-- Offset of MEM_GROOM_DRAM_PASSES. -/
def MEM_GROOM_DRAM_PASSES : Nat := 0x68508
def MEM_GROOM_DRAM_PASSES_V : Fld := ⟨MEM_GROOM_DRAM_PASSES, 0, 32⟩
/-- Offset of MEM_GROOM_DRAM_POS. -/
def MEM_GROOM_DRAM_POS : Nat := 0x6850C
def MEM_GROOM_DRAM_POS_V : Fld := ⟨MEM_GROOM_DRAM_POS, 0, 24⟩
/-- Offset of MEM_CLOGk_ADDR. -/
def MEM_CLOGk_ADDR (k : Nat) : Nat := 0x68600 + 0x8 * k
def MEM_CLOGk_ADDR_V (k : Nat) : Fld := ⟨MEM_CLOGk_ADDR k, 0, 32⟩
/-- Offset of MEM_CLOGk_INFO. -/
def MEM_CLOGk_INFO (k : Nat) : Nat := 0x68604 + 0x8 * k
def MEM_CLOGk_INFO_VALID (k : Nat) : Fld := ⟨MEM_CLOGk_INFO k, 31, 1⟩
def MEM_CLOGk_INFO_HARD (k : Nat) : Fld := ⟨MEM_CLOGk_INFO k, 30, 1⟩
def MEM_CLOGk_INFO_UNCORR (k : Nat) : Fld := ⟨MEM_CLOGk_INFO k, 29, 1⟩
def MEM_CLOGk_INFO_WRITTEN_BACK (k : Nat) : Fld := ⟨MEM_CLOGk_INFO k, 28, 1⟩
def MEM_CLOGk_INFO_REGION (k : Nat) : Fld := ⟨MEM_CLOGk_INFO k, 25, 3⟩
def MEM_CLOGk_INFO_COUNT (k : Nat) : Fld := ⟨MEM_CLOGk_INFO k, 0, 8⟩
/-- Offset of MEM_DRAM_STATUS. -/
def MEM_DRAM_STATUS : Nat := 0x68A00
def MEM_DRAM_STATUS_DERATED : Fld := ⟨MEM_DRAM_STATUS, 28, 1⟩
/-- Offset of MEM_INIT_STATUS. -/
def MEM_INIT_STATUS : Nat := 0x68A04
def MEM_INIT_STATUS_V : Fld := ⟨MEM_INIT_STATUS, 0, 32⟩
/-- Offset of MEM_SPARE_STATUS. -/
def MEM_SPARE_STATUS : Nat := 0x68A08
def MEM_SPARE_STATUS_USED : Fld := ⟨MEM_SPARE_STATUS, 16, 15⟩
def MEM_SPARE_STATUS_PPR_PENDING : Fld := ⟨MEM_SPARE_STATUS, 0, 8⟩
/-- Offset of MEM_SPARE_LAST. -/
def MEM_SPARE_LAST : Nat := 0x68A0C
def MEM_SPARE_LAST_V : Fld := ⟨MEM_SPARE_LAST, 0, 28⟩
/-- Offset of MEM_INITMAP_SEL. -/
def MEM_INITMAP_SEL : Nat := 0x68A10
def MEM_INITMAP_SEL_V : Fld := ⟨MEM_INITMAP_SEL, 0, 32⟩
/-- Offset of MEM_CHc_ECC_COUNT. -/
def MEM_CHc_ECC_COUNT (c : Nat) : Nat := 0x68B00 + 0x10 * c
def MEM_CHc_ECC_COUNT_V (c : Nat) : Fld := ⟨MEM_CHc_ECC_COUNT c, 0, 32⟩
/-- Offset of MEM_CHc_LINK_COUNT. -/
def MEM_CHc_LINK_COUNT (c : Nat) : Nat := 0x68B04 + 0x10 * c
def MEM_CHc_LINK_COUNT_V (c : Nat) : Fld := ⟨MEM_CHc_LINK_COUNT c, 0, 32⟩
/-- Offset of MEM_CHc_TEMP. -/
def MEM_CHc_TEMP (c : Nat) : Nat := 0x68B08 + 0x10 * c
def MEM_CHc_TEMP_V (c : Nat) : Fld := ⟨MEM_CHc_TEMP c, 0, 5⟩
/-- Offset of MEM_SROW_LEDGER. -/
def MEM_SROW_LEDGER : Nat := 0x68C00
def MEM_SROW_LEDGER_V : Fld := ⟨MEM_SROW_LEDGER, 0, 32⟩
/-- Offset of MEM_SROW_LINEMEM. -/
def MEM_SROW_LINEMEM : Nat := 0x68C04
def MEM_SROW_LINEMEM_V : Fld := ⟨MEM_SROW_LINEMEM, 0, 32⟩
/-- Offset of MEM_SROW_SEQ. -/
def MEM_SROW_SEQ : Nat := 0x68C08
def MEM_SROW_SEQ_V : Fld := ⟨MEM_SROW_SEQ, 0, 32⟩
/-- Offset of CE_CTRL. -/
def CE_CTRL : Nat := 0x70000
def CE_CTRL_QUEUES_ENABLE : Fld := ⟨CE_CTRL, 31, 1⟩
def CE_CTRL_FB_TABLE : Fld := ⟨CE_CTRL, 0, 3⟩
/-- Offset of CE_STATUS. -/
def CE_STATUS : Nat := 0x70004
def CE_STATUS_TABLE_VALID : Fld := ⟨CE_STATUS, 0, 8⟩
/-- Offset of CE_EVT_ENABLE. -/
def CE_EVT_ENABLE : Nat := 0x70008
/-- Offset of CE_EVT_STATUS. -/
def CE_EVT_STATUS : Nat := 0x7000C
/-- Offset of CE_TABLE_CTRL. -/
def CE_TABLE_CTRL : Nat := 0x70010
/-- Offset of CE_TABLE_SRC_LO. -/
def CE_TABLE_SRC_LO : Nat := 0x70014
def CE_TABLE_SRC_LO_V : Fld := ⟨CE_TABLE_SRC_LO, 0, 32⟩
/-- Offset of CE_TABLE_SRC_HI. -/
def CE_TABLE_SRC_HI : Nat := 0x70018
def CE_TABLE_SRC_HI_V : Fld := ⟨CE_TABLE_SRC_HI, 0, 8⟩
/-- Offset of CE_TABLE_STATUS. -/
def CE_TABLE_STATUS : Nat := 0x7001C
def CE_TABLE_STATUS_STATE : Fld := ⟨CE_TABLE_STATUS, 30, 2⟩
def CE_TABLE_STATUS_ERR : Fld := ⟨CE_TABLE_STATUS, 24, 4⟩
def CE_TABLE_STATUS_FAIL_SLOT : Fld := ⟨CE_TABLE_STATUS, 16, 3⟩
def CE_TABLE_STATUS_SLOT : Fld := ⟨CE_TABLE_STATUS, 0, 3⟩
/-- Offset of CE_COUNTk. -/
def CE_COUNTk (k : Nat) : Nat := 0x70040 + 0x4 * k
def CE_COUNTk_V (k : Nat) : Fld := ⟨CE_COUNTk k, 0, 32⟩
/-- Offset of CE_TABLE_CRCt. -/
def CE_TABLE_CRCt (t : Nat) : Nat := 0x70080 + 0x4 * t
def CE_TABLE_CRCt_V (t : Nat) : Fld := ⟨CE_TABLE_CRCt t, 0, 32⟩
/-- Offset of CEq_CTRL. -/
def CEq_CTRL (q : Nat) : Nat := 0x70100 + 0x40 * q
def CEq_CTRL_ENABLE (q : Nat) : Fld := ⟨CEq_CTRL q, 31, 1⟩
/-- Offset of CEq_STATUS. -/
def CEq_STATUS (q : Nat) : Nat := 0x70104 + 0x40 * q
def CEq_STATUS_STATE (q : Nat) : Fld := ⟨CEq_STATUS q, 29, 3⟩
def CEq_STATUS_RELEASE_KEPT (q : Nat) : Fld := ⟨CEq_STATUS q, 28, 1⟩
def CEq_STATUS_LAST_RESULT (q : Nat) : Fld := ⟨CEq_STATUS q, 24, 4⟩
def CEq_STATUS_ERR_INDEX (q : Nat) : Fld := ⟨CEq_STATUS q, 0, 16⟩
/-- Offset of CEq_RING_LO. -/
def CEq_RING_LO (q : Nat) : Nat := 0x70108 + 0x40 * q
def CEq_RING_LO_V (q : Nat) : Fld := ⟨CEq_RING_LO q, 0, 32⟩
/-- Offset of CEq_RING_HI. -/
def CEq_RING_HI (q : Nat) : Nat := 0x7010C + 0x40 * q
def CEq_RING_HI_V (q : Nat) : Fld := ⟨CEq_RING_HI q, 0, 8⟩
/-- Offset of CEq_RING_SIZE. -/
def CEq_RING_SIZE (q : Nat) : Nat := 0x70110 + 0x40 * q
def CEq_RING_SIZE_V (q : Nat) : Fld := ⟨CEq_RING_SIZE q, 0, 4⟩
/-- Offset of CEq_TAIL. -/
def CEq_TAIL (q : Nat) : Nat := 0x70114 + 0x40 * q
def CEq_TAIL_V (q : Nat) : Fld := ⟨CEq_TAIL q, 0, 12⟩
/-- Offset of CEq_HEAD. -/
def CEq_HEAD (q : Nat) : Nat := 0x70118 + 0x40 * q
def CEq_HEAD_V (q : Nat) : Fld := ⟨CEq_HEAD q, 0, 12⟩
/-- Offset of CEq_DONE_COUNT. -/
def CEq_DONE_COUNT (q : Nat) : Nat := 0x7011C + 0x40 * q
def CEq_DONE_COUNT_V (q : Nat) : Fld := ⟨CEq_DONE_COUNT q, 0, 32⟩
/-- Offset of CEq_ERR_COUNT. -/
def CEq_ERR_COUNT (q : Nat) : Nat := 0x70120 + 0x40 * q
def CEq_ERR_COUNT_V (q : Nat) : Fld := ⟨CEq_ERR_COUNT q, 0, 32⟩
/-- Offset of CEq_FULL_COUNT. -/
def CEq_FULL_COUNT (q : Nat) : Nat := 0x70124 + 0x40 * q
def CEq_FULL_COUNT_V (q : Nat) : Fld := ⟨CEq_FULL_COUNT q, 0, 32⟩
/-- Offset of CEq_LAST_TILES. -/
def CEq_LAST_TILES (q : Nat) : Nat := 0x70128 + 0x40 * q
def CEq_LAST_TILES_V (q : Nat) : Fld := ⟨CEq_LAST_TILES q, 0, 22⟩
/-- Offset of CEq_LAST_BITS. -/
def CEq_LAST_BITS (q : Nat) : Nat := 0x7012C + 0x40 * q
def CEq_LAST_BITS_V (q : Nat) : Fld := ⟨CEq_LAST_BITS q, 0, 32⟩
/-- Offset of CEq_IN_PIXELS. -/
def CEq_IN_PIXELS (q : Nat) : Nat := 0x70130 + 0x40 * q
def CEq_IN_PIXELS_V (q : Nat) : Fld := ⟨CEq_IN_PIXELS q, 0, 32⟩
/-- Offset of CEq_OUT_BYTES. -/
def CEq_OUT_BYTES (q : Nat) : Nat := 0x70134 + 0x40 * q
def CEq_OUT_BYTES_V (q : Nat) : Fld := ⟨CEq_OUT_BYTES q, 0, 32⟩
/-- Offset of CAL_CTRL. -/
def CAL_CTRL : Nat := 0x78000
def CAL_CTRL_AUTO_TEMP : Fld := ⟨CAL_CTRL, 31, 1⟩
def CAL_CTRL_AUTO_STORE : Fld := ⟨CAL_CTRL, 30, 1⟩
def CAL_CTRL_STORE_MIN : Fld := ⟨CAL_CTRL, 16, 8⟩
def CAL_CTRL_QUIET_UA : Fld := ⟨CAL_CTRL, 0, 16⟩
/-- Offset of CAL_STATUS. -/
def CAL_STATUS : Nat := 0x78004
def CAL_STATUS_BUSY : Fld := ⟨CAL_STATUS, 31, 1⟩
def CAL_STATUS_UNCALIBRATED : Fld := ⟨CAL_STATUS, 30, 1⟩
def CAL_STATUS_REFV_BAD : Fld := ⟨CAL_STATUS, 29, 1⟩
def CAL_STATUS_ITEM : Fld := ⟨CAL_STATUS, 0, 8⟩
/-- Offset of CAL_REQUEST. -/
def CAL_REQUEST : Nat := 0x78008
/-- Offset of CAL_LAST. -/
def CAL_LAST : Nat := 0x7800C
def CAL_LAST_VALID : Fld := ⟨CAL_LAST, 31, 1⟩
def CAL_LAST_ABORT : Fld := ⟨CAL_LAST, 28, 3⟩
def CAL_LAST_REASON : Fld := ⟨CAL_LAST, 26, 2⟩
def CAL_LAST_ITEM : Fld := ⟨CAL_LAST, 0, 8⟩
/-- Offset of CAL_EVT_ENABLE. -/
def CAL_EVT_ENABLE : Nat := 0x78010
/-- Offset of CAL_EVT_STATUS. -/
def CAL_EVT_STATUS : Nat := 0x78014
/-- Offset of CAL_REFV_UV. -/
def CAL_REFV_UV : Nat := 0x78018
def CAL_REFV_UV_V : Fld := ⟨CAL_REFV_UV, 0, 32⟩
/-- Offset of CAL_DELTA_T. -/
def CAL_DELTA_T : Nat := 0x7801C
def CAL_DELTA_T_V : Fld := ⟨CAL_DELTA_T, 0, 16⟩
/-- Offset of CAL_STORE_CTRL. -/
def CAL_STORE_CTRL : Nat := 0x78020
/-- Offset of CAL_STORE_STATUS. -/
def CAL_STORE_STATUS : Nat := 0x78024
def CAL_STORE_STATUS_STATE : Fld := ⟨CAL_STORE_STATUS, 29, 3⟩
def CAL_STORE_STATUS_DIRTY : Fld := ⟨CAL_STORE_STATUS, 28, 1⟩
def CAL_STORE_STATUS_SLOT : Fld := ⟨CAL_STORE_STATUS, 0, 2⟩
/-- Offset of CAL_SLOTA. -/
def CAL_SLOTA : Nat := 0x78028
def CAL_SLOTA_VALID : Fld := ⟨CAL_SLOTA, 31, 1⟩
def CAL_SLOTA_UNCOMMITTED : Fld := ⟨CAL_SLOTA, 30, 1⟩
def CAL_SLOTA_SEQ : Fld := ⟨CAL_SLOTA, 0, 16⟩
/-- Offset of CAL_SLOTB. -/
def CAL_SLOTB : Nat := 0x7802C
def CAL_SLOTB_VALID : Fld := ⟨CAL_SLOTB, 31, 1⟩
def CAL_SLOTB_UNCOMMITTED : Fld := ⟨CAL_SLOTB, 30, 1⟩
def CAL_SLOTB_SEQ : Fld := ⟨CAL_SLOTB, 0, 16⟩
/-- Offset of CAL_BANDGAP_UV. -/
def CAL_BANDGAP_UV : Nat := 0x7803C
def CAL_BANDGAP_UV_V : Fld := ⟨CAL_BANDGAP_UV, 0, 32⟩
/-- Offset of CAL_COUNTk. -/
def CAL_COUNTk (k : Nat) : Nat := 0x78040 + 0x4 * k
def CAL_COUNTk_V (k : Nat) : Fld := ⟨CAL_COUNTk k, 0, 32⟩
/-- Offset of TSk_TEMP. -/
def TSk_TEMP (k : Nat) : Nat := 0x78080 + 0x4 * k
def TSk_TEMP_VALID (k : Nat) : Fld := ⟨TSk_TEMP k, 31, 1⟩
def TSk_TEMP_TEMP (k : Nat) : Fld := ⟨TSk_TEMP k, 0, 16⟩
/-- Offset of CAL_ITEMi. -/
def CAL_ITEMi (i : Nat) : Nat := 0x78100 + 0x4 * i
def CAL_ITEMi_STATE (i : Nat) : Fld := ⟨CAL_ITEMi i, 30, 2⟩
def CAL_ITEMi_ELEMENT (i : Nat) : Fld := ⟨CAL_ITEMi i, 29, 1⟩
def CAL_ITEMi_TRIMMED (i : Nat) : Fld := ⟨CAL_ITEMi i, 28, 1⟩
def CAL_ITEMi_SPARE_OK (i : Nat) : Fld := ⟨CAL_ITEMi i, 27, 1⟩
def CAL_ITEMi_ABORT (i : Nat) : Fld := ⟨CAL_ITEMi i, 24, 3⟩
def CAL_ITEMi_RESIDUAL (i : Nat) : Fld := ⟨CAL_ITEMi i, 16, 8⟩
def CAL_ITEMi_T_LAST (i : Nat) : Fld := ⟨CAL_ITEMi i, 0, 16⟩
/-- Offset of FAR_CTRL. -/
def FAR_CTRL : Nat := 0x7C000
/-- Offset of FAR_STATUS. -/
def FAR_STATUS : Nat := 0x7C004
def FAR_STATUS_LOG_ERROR : Fld := ⟨FAR_STATUS, 30, 1⟩
def FAR_STATUS_ASKS : Fld := ⟨FAR_STATUS, 16, 5⟩
def FAR_STATUS_EXHAUSTED : Fld := ⟨FAR_STATUS, 0, 7⟩
/-- Offset of FAR_EVT_ENABLE. -/
def FAR_EVT_ENABLE : Nat := 0x7C008
/-- Offset of FAR_EVT_STATUS. -/
def FAR_EVT_STATUS : Nat := 0x7C00C
/-- Offset of FAR_APPROVE. -/
def FAR_APPROVE : Nat := 0x7C010
/-- Offset of FAR_DECLINE. -/
def FAR_DECLINE : Nat := 0x7C014
/-- Offset of FAR_LOG_STATUS. -/
def FAR_LOG_STATUS : Nat := 0x7C018
def FAR_LOG_STATUS_WRITING : Fld := ⟨FAR_LOG_STATUS, 31, 1⟩
def FAR_LOG_STATUS_HALF : Fld := ⟨FAR_LOG_STATUS, 30, 1⟩
def FAR_LOG_STATUS_ENTRIES : Fld := ⟨FAR_LOG_STATUS, 0, 17⟩
/-- Offset of FAR_LOG_SEQ. -/
def FAR_LOG_SEQ : Nat := 0x7C01C
def FAR_LOG_SEQ_V : Fld := ⟨FAR_LOG_SEQ, 0, 32⟩
/-- Offset of FAR_LOCKSTEP. -/
def FAR_LOCKSTEP : Nat := 0x7C020
def FAR_LOCKSTEP_COUNT : Fld := ⟨FAR_LOCKSTEP, 16, 16⟩
def FAR_LOCKSTEP_LAST_US : Fld := ⟨FAR_LOCKSTEP, 0, 16⟩
/-- Offset of FAR_LOCKSTEP_TIME. -/
def FAR_LOCKSTEP_TIME : Nat := 0x7C024
def FAR_LOCKSTEP_TIME_V : Fld := ⟨FAR_LOCKSTEP_TIME, 0, 32⟩
/-- Offset of FAR_SENSOR_MAP. -/
def FAR_SENSOR_MAP : Nat := 0x7C028
/-- Offset of FAR_SENSOR_STATUS. -/
def FAR_SENSOR_STATUS : Nat := 0x7C02C
def FAR_SENSOR_STATUS_FAILED : Fld := ⟨FAR_SENSOR_STATUS, 8, 8⟩
def FAR_SENSOR_STATUS_IN_USE : Fld := ⟨FAR_SENSOR_STATUS, 0, 8⟩
/-- Offset of FAR_LOG_SEL. -/
def FAR_LOG_SEL : Nat := 0x7C030
def FAR_LOG_SEL_V : Fld := ⟨FAR_LOG_SEL, 0, 32⟩
/-- Offset of FAR_LOG_ERR_COUNT. -/
def FAR_LOG_ERR_COUNT : Nat := 0x7C034
def FAR_LOG_ERR_COUNT_V : Fld := ⟨FAR_LOG_ERR_COUNT, 0, 32⟩
/-- Offset of FAR_LOCKSTEP_GROUP. -/
def FAR_LOCKSTEP_GROUP : Nat := 0x7C038
def FAR_LOCKSTEP_GROUP_V : Fld := ⟨FAR_LOCKSTEP_GROUP, 0, 32⟩
/-- Offset of FAR_SUB_TIME. -/
def FAR_SUB_TIME : Nat := 0x7C03C
def FAR_SUB_TIME_V : Fld := ⟨FAR_SUB_TIME, 0, 32⟩
/-- Offset of FAR_INVk. -/
def FAR_INVk (k : Nat) : Nat := 0x7C040 + 0x4 * k
def FAR_INVk_TOTAL (k : Nat) : Fld := ⟨FAR_INVk k, 16, 16⟩
def FAR_INVk_USED (k : Nat) : Fld := ⟨FAR_INVk k, 0, 16⟩
/-- Offset of FAR_SUBk. -/
def FAR_SUBk (k : Nat) : Nat := 0x7C060 + 0x4 * k
def FAR_SUBk_V (k : Nat) : Fld := ⟨FAR_SUBk k, 0, 32⟩
/-- Offset of FAR_DOWNh. -/
def FAR_DOWNh (h : Nat) : Nat := 0x7C080 + 0x4 * h
def FAR_DOWNh_V (h : Nat) : Fld := ⟨FAR_DOWNh h, 0, 32⟩
/-- Offset of FAR_DOWN_LASTh. -/
def FAR_DOWN_LASTh (h : Nat) : Nat := 0x7C0A0 + 0x4 * h
def FAR_DOWN_LASTh_VALID (h : Nat) : Fld := ⟨FAR_DOWN_LASTh h, 31, 1⟩
def FAR_DOWN_LASTh_CAUSE (h : Nat) : Fld := ⟨FAR_DOWN_LASTh h, 28, 3⟩
def FAR_DOWN_LASTh_FRAME (h : Nat) : Fld := ⟨FAR_DOWN_LASTh h, 0, 16⟩
/-- Offset of FAR_TRIGk. -/
def FAR_TRIGk (k : Nat) : Nat := 0x7C0E0 + 0x4 * k
def FAR_TRIGk_V (k : Nat) : Fld := ⟨FAR_TRIGk k, 0, 32⟩
/-- Offset of FAR_ASKk. -/
def FAR_ASKk (k : Nat) : Nat := 0x7C100 + 0x4 * k
def FAR_ASKk_VALID (k : Nat) : Fld := ⟨FAR_ASKk k, 31, 1⟩
def FAR_ASKk_CLASS (k : Nat) : Fld := ⟨FAR_ASKk k, 28, 3⟩
def FAR_ASKk_TRIGGER (k : Nat) : Fld := ⟨FAR_ASKk k, 24, 4⟩
def FAR_ASKk_INSTANCE (k : Nat) : Fld := ⟨FAR_ASKk k, 0, 24⟩
/-- Offset of FAR_SUB_LASTk. -/
def FAR_SUB_LASTk (k : Nat) : Nat := 0x7C140 + 0x4 * k
/-- Offset of FAR_ELEMk. -/
def FAR_ELEMk (k : Nat) : Nat := 0x7C160 + 0x4 * k
def FAR_ELEMk_V (k : Nat) : Fld := ⟨FAR_ELEMk k, 0, 32⟩
/-- Offset of FAR_DECLINE_COUNT. -/
def FAR_DECLINE_COUNT : Nat := 0x7C180
def FAR_DECLINE_COUNT_V : Fld := ⟨FAR_DECLINE_COUNT, 0, 32⟩
/-- Offset of FAR_FORBID_COUNT. -/
def FAR_FORBID_COUNT : Nat := 0x7C184
def FAR_FORBID_COUNT_V : Fld := ⟨FAR_FORBID_COUNT, 0, 32⟩
/-- Offset of POWER_RUNG_CTRL. -/
def POWER_RUNG_CTRL : Nat := 0x80000
/-- Offset of POWER_RUNG_STATUS. -/
def POWER_RUNG_STATUS : Nat := 0x80004
def POWER_RUNG_STATUS_STATE : Fld := ⟨POWER_RUNG_STATUS, 29, 3⟩
def POWER_RUNG_STATUS_TARGET : Fld := ⟨POWER_RUNG_STATUS, 26, 3⟩
def POWER_RUNG_STATUS_RESULT : Fld := ⟨POWER_RUNG_STATUS, 24, 2⟩
def POWER_RUNG_STATUS_LAST_FROM : Fld := ⟨POWER_RUNG_STATUS, 21, 3⟩
/-- Offset of POWER_WAKE_ENABLE. -/
def POWER_WAKE_ENABLE : Nat := 0x80008
/-- Offset of POWER_WAKE_STATUS. -/
def POWER_WAKE_STATUS : Nat := 0x8000C
/-- Offset of POWER_WAKE_TIME. -/
def POWER_WAKE_TIME : Nat := 0x80010
def POWER_WAKE_TIME_V : Fld := ⟨POWER_WAKE_TIME, 0, 32⟩
/-- Offset of POWER_SHED_CTRL. -/
def POWER_SHED_CTRL : Nat := 0x80014
def POWER_SHED_CTRL_ENABLE : Fld := ⟨POWER_SHED_CTRL, 31, 1⟩
def POWER_SHED_CTRL_HYST_MV : Fld := ⟨POWER_SHED_CTRL, 0, 16⟩
/-- Offset of POWER_SHED_STATUS. -/
def POWER_SHED_STATUS : Nat := 0x80018
def POWER_SHED_STATUS_LEVEL : Fld := ⟨POWER_SHED_STATUS, 29, 3⟩
def POWER_SHED_STATUS_REENABLE_OK : Fld := ⟨POWER_SHED_STATUS, 28, 1⟩
def POWER_SHED_STATUS_RECORDED : Fld := ⟨POWER_SHED_STATUS, 27, 1⟩
def POWER_SHED_STATUS_RECORDED_LEVEL : Fld := ⟨POWER_SHED_STATUS, 24, 3⟩
/-- Offset of POWER_SHED_REENABLE. -/
def POWER_SHED_REENABLE : Nat := 0x8001C
/-- Offset of POWER_VSYS_MV. -/
def POWER_VSYS_MV : Nat := 0x80020
def POWER_VSYS_MV_V : Fld := ⟨POWER_VSYS_MV, 0, 32⟩
/-- Offset of POWER_VSYS_MIN_MV. -/
def POWER_VSYS_MIN_MV : Nat := 0x80028
def POWER_VSYS_MIN_MV_V : Fld := ⟨POWER_VSYS_MIN_MV, 0, 32⟩
/-- Offset of POWER_EVT_ENABLE. -/
def POWER_EVT_ENABLE : Nat := 0x8002C
/-- Offset of POWER_EVT_STATUS. -/
def POWER_EVT_STATUS : Nat := 0x80030
/-- Offset of POWER_RAIL_STATUS. -/
def POWER_RAIL_STATUS : Nat := 0x80034
def POWER_RAIL_STATUS_V : Fld := ⟨POWER_RAIL_STATUS, 0, 13⟩
/-- Offset of POWER_RAIL_FAULT_COUNT. -/
def POWER_RAIL_FAULT_COUNT : Nat := 0x80038
def POWER_RAIL_FAULT_COUNT_V : Fld := ⟨POWER_RAIL_FAULT_COUNT, 0, 32⟩
/-- Offset of POWER_MW. -/
def POWER_MW : Nat := 0x8003C
/-- Offset of POWER_WALK_SAVE_US. -/
def POWER_WALK_SAVE_US : Nat := 0x80040
def POWER_WALK_SAVE_US_V : Fld := ⟨POWER_WALK_SAVE_US, 0, 32⟩
/-- Offset of POWER_OFF_TIME_S. -/
def POWER_OFF_TIME_S : Nat := 0x80044
def POWER_OFF_TIME_S_V : Fld := ⟨POWER_OFF_TIME_S, 0, 32⟩
/-- Offset of POWER_RUNG_FAIL_COUNT. -/
def POWER_RUNG_FAIL_COUNT : Nat := 0x80048
def POWER_RUNG_FAIL_COUNT_V : Fld := ⟨POWER_RUNG_FAIL_COUNT, 0, 32⟩
/-- Offset of POWER_WAKE_HELD_COUNT. -/
def POWER_WAKE_HELD_COUNT : Nat := 0x8004C
def POWER_WAKE_HELD_COUNT_V : Fld := ⟨POWER_WAKE_HELD_COUNT, 0, 32⟩
/-- Offset of POWER_SHED_THRESHk. -/
def POWER_SHED_THRESHk (k : Nat) : Nat := 0x80050 + 0x4 * k
def POWER_SHED_THRESHk_V (k : Nat) : Fld := ⟨POWER_SHED_THRESHk k, 0, 32⟩
/-- Offset of POWER_SHED_COUNTk. -/
def POWER_SHED_COUNTk (k : Nat) : Nat := 0x80070 + 0x4 * k
def POWER_SHED_COUNTk_V (k : Nat) : Fld := ⟨POWER_SHED_COUNTk k, 0, 32⟩
/-- Offset of POWER_SHED_TIMEk. -/
def POWER_SHED_TIMEk (k : Nat) : Nat := 0x80090 + 0x4 * k
def POWER_SHED_TIMEk_V (k : Nat) : Fld := ⟨POWER_SHED_TIMEk k, 0, 32⟩
/-- Offset of POWER_RAIL_MVk. -/
def POWER_RAIL_MVk (k : Nat) : Nat := 0x80100 + 0x4 * k
def POWER_RAIL_MVk_V (k : Nat) : Fld := ⟨POWER_RAIL_MVk k, 0, 32⟩
/-- Offset of POWER_RUNG_COUNTk. -/
def POWER_RUNG_COUNTk (k : Nat) : Nat := 0x80140 + 0x4 * k
def POWER_RUNG_COUNTk_V (k : Nat) : Fld := ⟨POWER_RUNG_COUNTk k, 0, 32⟩
/-- Offset of POWER_RUNG_TIME_Sk. -/
def POWER_RUNG_TIME_Sk (k : Nat) : Nat := 0x80160 + 0x4 * k
def POWER_RUNG_TIME_Sk_V (k : Nat) : Fld := ⟨POWER_RUNG_TIME_Sk k, 0, 32⟩
/-- Offset of POWER_ENTRY_USk. -/
def POWER_ENTRY_USk (k : Nat) : Nat := 0x80180 + 0x4 * k
def POWER_ENTRY_USk_V (k : Nat) : Fld := ⟨POWER_ENTRY_USk k, 0, 32⟩
/-- Offset of POWER_EXIT_USk. -/
def POWER_EXIT_USk (k : Nat) : Nat := 0x801A0 + 0x4 * k
def POWER_EXIT_USk_V (k : Nat) : Fld := ⟨POWER_EXIT_USk k, 0, 32⟩
/-- Offset of POWER_WAKE_COUNTk. -/
def POWER_WAKE_COUNTk (k : Nat) : Nat := 0x801C0 + 0x4 * k
def POWER_WAKE_COUNTk_V (k : Nat) : Fld := ⟨POWER_WAKE_COUNTk k, 0, 32⟩
/-- Offset of TOP_STATUS. -/
def TOP_STATUS : Nat := 0x00000
def TOP_STATUS_MODE : Fld := ⟨TOP_STATUS, 29, 3⟩
def TOP_STATUS_READY : Fld := ⟨TOP_STATUS, 28, 1⟩
def TOP_STATUS_RUNG : Fld := ⟨TOP_STATUS, 25, 3⟩
def TOP_STATUS_SHED_LEVEL : Fld := ⟨TOP_STATUS, 22, 3⟩
def TOP_STATUS_SAFE_CAUSE : Fld := ⟨TOP_STATUS, 18, 4⟩
def TOP_STATUS_INIT_STEP : Fld := ⟨TOP_STATUS, 14, 4⟩
/-- Offset of TOP_RESET. -/
def TOP_RESET : Nat := 0x00004
/-- Offset of TOP_RESET_CAUSE. -/
def TOP_RESET_CAUSE : Nat := 0x00008
def TOP_RESET_CAUSE_LAST : Fld := ⟨TOP_RESET_CAUSE, 28, 4⟩
def TOP_RESET_CAUSE_HELD : Fld := ⟨TOP_RESET_CAUSE, 27, 1⟩
/-- Offset of TOP_REJECT_COUNT. -/
def TOP_REJECT_COUNT : Nat := 0x0000C
def TOP_REJECT_COUNT_V : Fld := ⟨TOP_REJECT_COUNT, 0, 32⟩
/-- Offset of TOP_REJECT_ADDR. -/
def TOP_REJECT_ADDR : Nat := 0x00010
def TOP_REJECT_ADDR_V : Fld := ⟨TOP_REJECT_ADDR, 0, 32⟩
/-- Offset of TOP_ID. -/
def TOP_ID : Nat := 0x00014
/-- Offset of TOP_STRAPS. -/
def TOP_STRAPS : Nat := 0x0001C
def TOP_STRAPS_BOOTSEL : Fld := ⟨TOP_STRAPS, 8, 2⟩
def TOP_STRAPS_TEAMPOS : Fld := ⟨TOP_STRAPS, 0, 6⟩
/-- Offset of TOP_READY_US. -/
def TOP_READY_US : Nat := 0x00020
def TOP_READY_US_V : Fld := ⟨TOP_READY_US, 0, 32⟩
/-- Offset of TOP_BOOT_COUNT. -/
def TOP_BOOT_COUNT : Nat := 0x00024
def TOP_BOOT_COUNT_V : Fld := ⟨TOP_BOOT_COUNT, 0, 32⟩
/-- Offset of TOP_UPTIME_S. -/
def TOP_UPTIME_S : Nat := 0x00028
/-- Offset of TOP_SAFE_TIME. -/
def TOP_SAFE_TIME : Nat := 0x00030
def TOP_SAFE_TIME_V : Fld := ⟨TOP_SAFE_TIME, 0, 32⟩
/-- Offset of TOP_SAFE_DETAIL. -/
def TOP_SAFE_DETAIL : Nat := 0x00034
def TOP_SAFE_DETAIL_V : Fld := ⟨TOP_SAFE_DETAIL, 0, 32⟩
/-- Offset of TOP_PLL_STATUS. -/
def TOP_PLL_STATUS : Nat := 0x00038
def TOP_PLL_STATUS_V : Fld := ⟨TOP_PLL_STATUS, 0, 15⟩
/-- Offset of TOP_REFCLK_STATUS. -/
def TOP_REFCLK_STATUS : Nat := 0x0003C
def TOP_REFCLK_STATUS_V : Fld := ⟨TOP_REFCLK_STATUS, 0, 3⟩
/-- Offset of TOP_REFCLK_LOSS_COUNTk. -/
def TOP_REFCLK_LOSS_COUNTk (k : Nat) : Nat := 0x00040 + 0x4 * k
def TOP_REFCLK_LOSS_COUNTk_V (k : Nat) : Fld := ⟨TOP_REFCLK_LOSS_COUNTk k, 0, 32⟩
/-- Offset of TOP_TEMP_MAX. -/
def TOP_TEMP_MAX : Nat := 0x00048
def TOP_TEMP_MAX_V : Fld := ⟨TOP_TEMP_MAX, 0, 32⟩
/-- Offset of TOP_ROSC_KHZ. -/
def TOP_ROSC_KHZ : Nat := 0x0004C
/-- Offset of TOP_RESET_COUNTk. -/
def TOP_RESET_COUNTk (k : Nat) : Nat := 0x00060 + 0x4 * k
def TOP_RESET_COUNTk_V (k : Nat) : Fld := ⟨TOP_RESET_COUNTk k, 0, 32⟩
/-- Offset of TOP_MODE_COUNTk. -/
def TOP_MODE_COUNTk (k : Nat) : Nat := 0x00080 + 0x4 * k
def TOP_MODE_COUNTk_V (k : Nat) : Fld := ⟨TOP_MODE_COUNTk k, 0, 32⟩
/-- Offset of TOP_MODE_TIME_Sk. -/
def TOP_MODE_TIME_Sk (k : Nat) : Nat := 0x000A0 + 0x4 * k
def TOP_MODE_TIME_Sk_V (k : Nat) : Fld := ⟨TOP_MODE_TIME_Sk k, 0, 32⟩
/-- Offset of TOP_STEP_USk. -/
def TOP_STEP_USk (k : Nat) : Nat := 0x000C0 + 0x4 * k
def TOP_STEP_USk_V (k : Nat) : Fld := ⟨TOP_STEP_USk k, 0, 32⟩
/-- Offset of TEST_CTRL. -/
def TEST_CTRL : Nat := 0xF0000
/-- Offset of TEST_STATUS. -/
def TEST_STATUS : Nat := 0xF0004
/-- Offset of TEST_IR. -/
def TEST_IR : Nat := 0xF0008
def TEST_IR_REFUSED : Fld := ⟨TEST_IR, 31, 1⟩
def TEST_IR_CODE : Fld := ⟨TEST_IR, 0, 8⟩
/-- Offset of TEST_TAP_COUNT. -/
def TEST_TAP_COUNT : Nat := 0xF0014
def TEST_TAP_COUNT_V : Fld := ⟨TEST_TAP_COUNT, 0, 32⟩
/-- Offset of TEST_SNAP_TIME. -/
def TEST_SNAP_TIME : Nat := 0xF0018
def TEST_SNAP_TIME_V : Fld := ⟨TEST_SNAP_TIME, 0, 32⟩
/-- Offset of TEST_MBIST_LO. -/
def TEST_MBIST_LO : Nat := 0xF001C
def TEST_MBIST_LO_RESULT_LO : Fld := ⟨TEST_MBIST_LO, 0, 32⟩
/-- Offset of TEST_MBIST_HI. -/
def TEST_MBIST_HI : Nat := 0xF0020
def TEST_MBIST_HI_RESULT_HI : Fld := ⟨TEST_MBIST_HI, 0, 16⟩
/-- Offset of TEST_REFUSED_COUNT. -/
def TEST_REFUSED_COUNT : Nat := 0xF0024
def TEST_REFUSED_COUNT_V : Fld := ⟨TEST_REFUSED_COUNT, 0, 32⟩
/-- Offset of TEST_GIRTHg. -/
def TEST_GIRTHg (g : Nat) : Nat := 0xF0030 + 0x4 * g
def TEST_GIRTHg_VALID (g : Nat) : Fld := ⟨TEST_GIRTHg g, 24, 1⟩
def TEST_GIRTHg_MOHM (g : Nat) : Fld := ⟨TEST_GIRTHg g, 0, 24⟩
/-- Offset of TEST_GIRTHg_FORCE_MV. -/
def TEST_GIRTHg_FORCE_MV (g : Nat) : Nat := 0xF0040 + 0x4 * g
def TEST_GIRTHg_FORCE_MV_V (g : Nat) : Fld := ⟨TEST_GIRTHg_FORCE_MV g, 0, 32⟩
/-- Offset of TEST_ARRAY_FAILk. -/
def TEST_ARRAY_FAILk (k : Nat) : Nat := 0xF0050 + 0x4 * k
def TEST_ARRAY_FAILk_V (k : Nat) : Fld := ⟨TEST_ARRAY_FAILk k, 0, 32⟩
/-- Offset of TEST_BSR_SNAPk. -/
def TEST_BSR_SNAPk (k : Nat) : Nat := 0xF0080 + 0x4 * k
def TEST_BSR_SNAPk_V (k : Nat) : Fld := ⟨TEST_BSR_SNAPk k, 0, 32⟩
/-- Offset of TEST_SEk_BIST. -/
def TEST_SEk_BIST (k : Nat) : Nat := 0xF0100 + 0x4 * k
def TEST_SEk_BIST_LAST_FAIL (k : Nat) : Fld := ⟨TEST_SEk_BIST k, 31, 1⟩
def TEST_SEk_BIST_FAILS (k : Nat) : Fld := ⟨TEST_SEk_BIST k, 16, 15⟩
def TEST_SEk_BIST_RUNS (k : Nat) : Fld := ⟨TEST_SEk_BIST k, 0, 16⟩
/-- Offset of INn_CRC_ERR_COUNT. -/
def INn_CRC_ERR_COUNT (n : Nat) : Nat := 0x08030 + 0x100 * n
def INn_CRC_ERR_COUNT_V (n : Nat) : Fld := ⟨INn_CRC_ERR_COUNT n, 0, 32⟩
/-- Offset of INn_LEN_ERR_COUNT. -/
def INn_LEN_ERR_COUNT (n : Nat) : Nat := 0x08034 + 0x100 * n
def INn_LEN_ERR_COUNT_V (n : Nat) : Fld := ⟨INn_LEN_ERR_COUNT n, 0, 32⟩
/-- Offset of INn_SEQ_ERR_COUNT. -/
def INn_SEQ_ERR_COUNT (n : Nat) : Nat := 0x08038 + 0x100 * n
def INn_SEQ_ERR_COUNT_V (n : Nat) : Fld := ⟨INn_SEQ_ERR_COUNT n, 0, 32⟩
/-- Offset of INn_FORMAT_ERR_COUNT. -/
def INn_FORMAT_ERR_COUNT (n : Nat) : Nat := 0x0803C + 0x100 * n
def INn_FORMAT_ERR_COUNT_V (n : Nat) : Fld := ⟨INn_FORMAT_ERR_COUNT n, 0, 32⟩
/-- Offset of INn_MARK_ERR_COUNT. -/
def INn_MARK_ERR_COUNT (n : Nat) : Nat := 0x08040 + 0x100 * n
def INn_MARK_ERR_COUNT_V (n : Nat) : Fld := ⟨INn_MARK_ERR_COUNT n, 0, 32⟩
/-- Offset of INn_OVERRUN_COUNT. -/
def INn_OVERRUN_COUNT (n : Nat) : Nat := 0x08044 + 0x100 * n
def INn_OVERRUN_COUNT_V (n : Nat) : Fld := ⟨INn_OVERRUN_COUNT n, 0, 32⟩
/-- Offset of INn_CONCEAL_COUNT. -/
def INn_CONCEAL_COUNT (n : Nat) : Nat := 0x08048 + 0x100 * n
def INn_CONCEAL_COUNT_V (n : Nat) : Fld := ⟨INn_CONCEAL_COUNT n, 0, 32⟩
/-- Offset of INn_FB_DROP_COUNT. -/
def INn_FB_DROP_COUNT (n : Nat) : Nat := 0x0804C + 0x100 * n
def INn_FB_DROP_COUNT_V (n : Nat) : Fld := ⟨INn_FB_DROP_COUNT n, 0, 32⟩
/-- Offset of INn_TIMEOUT_COUNT. -/
def INn_TIMEOUT_COUNT (n : Nat) : Nat := 0x08050 + 0x100 * n
def INn_TIMEOUT_COUNT_V (n : Nat) : Fld := ⟨INn_TIMEOUT_COUNT n, 0, 32⟩
/-- Offset of INn_FRAME_COUNT. -/
def INn_FRAME_COUNT (n : Nat) : Nat := 0x08054 + 0x100 * n
def INn_FRAME_COUNT_V (n : Nat) : Fld := ⟨INn_FRAME_COUNT n, 0, 32⟩

end Sys2Proof.Machine
end

