-- ==== Sys2Proof/Machine/State.lean ====
section
/-! DEFINITION. The state of the block, as plain data: the words of its registers, its memories, and what the chapters give
each unit beyond its registers. Every register has ONE home, the word lists `regs` and `applied`; a structure below holds only
what no register shows. -/
namespace Sys2Proof.Machine

/-- One time base (R85): seconds, nanoseconds, and the fraction in units of 2^-43 ns (its top 16 bits are the fraction that
software sees); then its servo (R90, R91) and the step that an ARM write captured (R94). -/
structure TimeBase where
  sec : Nat := 0
  ns : Nat := 0
  sub : Nat := 0
  /-- The integrator i of R90, in ppb. -/
  integ : Rat := 0
  /-- The offsets collected in ACQUIRE (R91), newest first. -/
  acq : List Int := []
  /-- The collection is complete and its spread within 1 µs; without a first-lock step the offset still has to fall (R91). -/
  acqDone : Bool := false
  /-- A measurement of its source that waits for the servo: the offset e of R89, in ns. -/
  meas : Option Int := none
  stepSec : Int := 0
  stepNs : Int := 0
  /-- The seconds value at whose boundary the armed step applies (R94). -/
  stepAt : Nat := 0
  /-- TB3's total nanoseconds at the last entry to HOLDOVER. -/
  holdAt : Nat := 0
deriving DecidableEq, Repr

/-- A step pair of R110 that a follower has received and not yet applied (R113). -/
structure StepPair where
  tb : Nat
  sec : Int
  ns : Int
  /-- Low 16 bits of the seconds value at whose boundary the step applies. -/
  boundary : Nat
  onTb0 : Bool
deriving DecidableEq, Repr

/-- One time-stamp of a capture channel (R105). -/
structure Stamp where
  sec : Nat := 0
  ns : Nat := 0
  frac : Nat := 0
deriving DecidableEq, Repr

/-- A foreign master of a port (R107): its last Announce, TB3's total ns when that came, and when the one before it came. -/
structure Foreign where
  announce : Announce
  heardAt : Nat := 0
  heardBefore : Option Nat := none
deriving DecidableEq, Repr

/-- A port's open PTP exchange (R106, R107), times in ns of TB0. -/
structure PtpPort where
  /-- Arrival of the last Sync, its sequence number, its correction in 2^-16 ns, and whether its Follow_Up is awaited. -/
  arrived : Int := 0
  syncSeq : Nat := 0
  syncCorr : Int := 0
  waitFollowUp : Bool := false
  /-- The last completed Sync: its origin time, its arrival, and its corrections in 2^-16 ns. -/
  t1 : Int := 0
  t2 : Int := 0
  corr : Int := 0
  /-- Departure of the last Delay_Req, its sequence number, and whether its Delay_Resp is awaited. -/
  t3 : Int := 0
  reqSeq : Nat := 0
  waitResp : Bool := false
  /-- Sequence numbers of the next Sync and Announce sent. -/
  txSync : Nat := 0
  /-- The foreign masters of the port, in the order of the registers' entries (R107). -/
  foreign : List Foreign := []
  /-- The port identity of the master that the port follows as a slave (R106). -/
  master : Option Nat := none
  txAnnounce : Nat := 0
  /-- Has the announce receipt timeout run out since the port began to listen? -/
  waited : Bool := false
deriving DecidableEq, Repr

/-- The time unit beyond its registers. -/
structure TimeUnit where
  tbs : List TimeBase := List.replicate 4 {}
  /-- Step pairs received and pending (R113). -/
  pairs : List StepPair := []
  /-- The FIFOs of CAP0 to CAP15, oldest first. -/
  caps : List (List Stamp) := List.replicate 16 []
  /-- One more than the highest TB0 second that PPS_OUT has pulsed since power-on reset (R96, R104). -/
  ppsNext : Nat := 1
  ppsOut : Bool := false
  /-- The stamp of the last accepted PPS_IN edge (R104). -/
  ppsIn : Stamp := {}
  /-- Has a timecode discontinuity occurred (R97), and TB3's total nanoseconds at the last one. -/
  tcDisc : Bool := false
  tcDiscAt : Nat := 0
  ptp : List PtpPort := List.replicate 2 {}
  /-- SEQ of the next TIME set sent, of the next DELAY_REQ, and the sets received since the last one (R111, R112). -/
  setSeq : Nat := 0
  reqSeq : Nat := 0
  sets : Nat := 0
  /-- t1, t2 and t3 of R112 in ps. -/
  t1 : Int := 0
  t2 : Int := 0
  t3 : Int := 0
deriving DecidableEq, Repr

/-- One event record (R403), without the fields that the ring adds when it is posted (SEQ, PHASE). -/
structure Rec where
  cls : Nat
  code : Nat
  inst : Nat
  fault : Bool
  nsc32 : Nat
  sec : Nat
  data : List Nat
  fwd : Bool
  pos : Nat
deriving DecidableEq, Repr

/-- One MSI-X vector (R393, R397, R405): its table entry's message address, message data and mask bit, its PBA bit, whether a
moderation interval runs and whether a message waits for its end. -/
structure Vec where
  addr : Nat := 0
  data : Nat := 0
  masked : Bool := true
  held : Bool := false
  moderating : Bool := false
  waiting : Bool := false
deriving DecidableEq, Repr

/-- The event ring, the fault log and the PCI Express endpoint beyond their registers. -/
structure EvtUnit where
  /-- SEQ of the next record posted and PHASE of the present pass (R403). -/
  seq : Nat := 0
  phase : Bool := true
  vecs : List Vec := List.replicate 64 {}
  /-- Bytes of the configuration space that the host has written since its reset (R392, R396). -/
  cfg : List Host.Cell := []
  /-- The fault log as bytes of records, newest entry first, at most 64 (R408). -/
  flog : List (List Byte) := []
  /-- SEQ of the next EVENT block sent upstream, and the next SEQ expected of each source (R415). -/
  upSeq : Nat := 0
  fwdSeq : List (Nat × Nat) := []
  /-- What INSTANCE names of the cause of each status bit that was set: the address of its register times 32 plus the bit (R287, R591). -/
  causes : List (Nat × Nat) := []
deriving DecidableEq, Repr

/-- A block of a Rein link (R360): control or data, and its 8 payload bytes. -/
structure RBlock where
  control : Bool
  bytes : List Byte
deriving DecidableEq, Repr

/-- What leaves the device. `block`: the blocks that join link `link`'s stream, or its TIME columns, in this order; `lane`: one block on
the pins of lane `lane`, in clear and as the 66 bits sent, header bit H0 in bit 0. -/
inductive Sent where
  | msix (vec : Nat)
  | ltcWord (bits : Nat)
  | syncOut (format rate : Nat)
  | ptp (port : Nat) (kind : Nat) (frame : List Byte)
  | block (link : Nat) (blocks : List RBlock)
  | spi (words : List Nat)
  | completion (poisoned : Bool) (words : List Nat)
  | hostWrite (addr : Nat) (bytes : List Byte)
  | frame (port : Nat) (bytes : List Byte)
  | halter (port : Nat) (rows : List Nat) (bytes : List Byte)
  | jtagIr (capture : Nat)
  | jtag (instruction : Nat) (bits : Nat)
  | cells (levels : Nat)
  | lane (lane : Nat) (block : RBlock) (serial : Nat)
  | edges (pin line : Nat) (levels : List (Nat × Bool))
deriving DecidableEq, Repr

/-- The level of a pin that the device may drive. -/
inductive Level where
  | low | high | hiz
deriving DecidableEq, Repr

/-- What a handover request holds for the incoming owner (R433). -/
structure BankReq where
  wipe : Bool := false
  share : Bool := false
  lend : Bool := false
  mail : Bool := false
deriving DecidableEq, Repr

/-- An access that waits (R434, R444): for granule `key`, or for the wipe of bank `key - 2^20`; by which agent (owner code of R44), of
what, and with which bytes of port A in the same cycle (R436). An empty list of bytes reads. -/
structure WaitingAccess where
  key : Nat
  agent : Nat := 0
  addr : Nat
  len : Nat
  bytes : List Byte
  portA : List (Nat × Byte) := []
deriving DecidableEq, Repr

/-- The memory system beyond its registers (chapter 12). -/
structure MemUnit where
  reqs : List BankReq := List.replicate 16 {}
  /-- First addresses of the units that read uncorrectable. -/
  poison : List Nat := []
  /-- The granules whose init bit is set, rising, and whether every bit is set (R444, R445). -/
  granules : List Nat := []
  allFilled : Bool := false
  waits : List WaitingAccess := []
  /-- Banks whose wipe has ended ahead of the report of its failing rows, for an agent's access that waited (R434). -/
  wiped : List Nat := []
  /-- MARCH-P: 0 no row in progress, 1 testing, 2 yielded (R441); the next bank and row of the background run (R440). -/
  marchPhase : Nat := 0
  marchNext : Nat := 0
  /-- The correction log's entries in the order they were taken, newest first, and those whose unit was written since its
  last uncorrectable read (R448). -/
  clogOrder : List Nat := []
  clogWritten : List Nat := []
  /-- TB3's total nanoseconds at each entry's last correction (R448). -/
  clogAt : List Nat := List.replicate 64 0
  /-- Bit `c`: channel `c` is above 85 °C (R442). -/
  hotChannels : Nat := 0
  /-- Groom's next SRAM word and next DRAM codeword (R446). -/
  sramPos : Nat := 0
  dramPos : Nat := 0
  /-- Device addresses of the rows that MARCH-10N found failing and no spare row covers (R439). -/
  badRows : List Nat := []
  /-- DRAM pages on a spare, and those whose row awaits repair (R449). -/
  sparePages : List Nat := []
  pprQueue : List Nat := []
  /-- A hard fault in sequencer memory has found no spare row (R22). -/
  seqLost : Bool := false
deriving DecidableEq, Repr

/-- A substitution request of the farrier (R496, R497): class, trigger and instance as FAR_ASKk codes them. -/
structure FarRequest where
  cls : Nat
  trig : Nat
  inst : Nat
deriving DecidableEq, Repr

/-- A farrier log entry (R500). -/
structure FarLog where
  sec : Nat
  record : Nat
  target : Nat
  result : Nat
  lifetime : Nat
deriving DecidableEq, Repr

/-- The farrier beyond its registers (chapter 14). -/
structure FarUnit where
  /-- Requests released to their windows, oldest first. -/
  queue : List FarRequest := []
  /-- Log entries that wait to be written, oldest first (R501). -/
  logQueue : List FarLog := []
  /-- The log as written, with each entry's SEQ, newest first. -/
  log : List (Nat × FarLog) := []
  /-- The entries of the retirements, substitutions and remaps in force. -/
  inForce : List FarLog := []
  /-- TB3's total nanoseconds at the last checkpoint of the sequencer (R502). -/
  checkpoint : Nat := 0
  /-- TB0 times of the last lockstep restarts, in ns, newest first (R22). -/
  restarts : List Nat := []
deriving DecidableEq, Repr

/-- An open line of a stream (R144, R150): what its LINE_START said, its payload so far, and what is already decided. -/
structure OpenLine where
  format : Nat
  frame : Nat
  line : Nat
  width : Nat
  /-- Were the fields marked 0 all 0? -/
  zeroOk : Bool
  /-- The payload bytes received, in order. -/
  bytes : List Byte
  /-- Did it arrive in WAIT, GAP or ABSENT, and is it therefore discarded (R148)? -/
  outside : Bool
  /-- Was neither line buffer free at its LINE_START (R153)? -/
  overrun : Bool
deriving DecidableEq, Repr

/-- An input stream beyond its registers (chapter 04). -/
structure StreamUnit where
  /-- The number of the last FRAME_START accepted since ENABLE was set (R149). -/
  prevFrame : Option Nat := none
  line : Option OpenLine := none
  /-- Line buffers that drain (R153). -/
  draining : Nat := 0
  /-- The slot that the open frame is stored in, whether its first line has been written, which takes the slot, and the last slot used
  (R155). -/
  slot : Option Nat := none
  slotUsed : Bool := false
  lastSlot : Nat := 0
  /-- Slots that hold a completed frame, newest first (R156), and the frame number of each slot. -/
  done : List Nat := []
  slotFrame : List Nat := [0, 0, 0, 0]
  /-- The slot of the most recent stored frame since ENABLE was set, kept while a later frame overwrites it (R151). -/
  lastStored : Option Nat := none
  /-- The lines of the frame that INn_POS names and of the one before it, as the line buffers give them to line-locked heads (R182). -/
  loose : List (Nat × List Byte) := []
  prevLoose : List (Nat × List Byte) := []
  /-- Arrivals of the lines of the frame that INn_POS names (line, TB3 ns), newest first (R152, R162). -/
  arrivals : List (Nat × Nat) := []
  /-- The same of the frame before it. -/
  past : List (Nat × Nat) := []
  /-- The first and last LINE_START of the open frame in 1/256 ns of TB3, and their number. -/
  firstStart : Nat := 0
  lastStart : Nat := 0
  starts : Nat := 0
  /-- The last EXPOSURE_START: its frame and its TB0 time in ns. -/
  exposure : Option (Nat × Nat) := none
  /-- The phase events seen of the present frame, and the shutter phases of later ones: frame, and its code (R119, R140). -/
  phases : List (Nat × Nat) := []
  /-- Does the generator feed the stream, and its next line (R157)? -/
  tpg : Bool := false
  tpgLine : Nat := 0
deriving DecidableEq, Repr

/-- One stage entry of a STAGE_GRAPH (R48): type code, engines by stripe, the bypass flag, line/LUT offset and units, links. -/
structure StageEntry where
  kind : Nat
  engines : List Nat
  bypassable : Bool
  lmOffset : Nat
  lmUnits : Nat
  param : Nat
deriving DecidableEq, Repr

/-- A head section as the running structure holds it (R47, R48), beyond what TACK_HEADn and TACK_LEDGERn show. -/
structure HeadSect where
  tempSource : Nat := 0
  /-- 0 to 3 for IN0 to IN3, 0x10 for the frame queue. -/
  source : Nat := 0
  chain : List StageEntry := []
deriving DecidableEq, Repr

/-- An entry of a head's frame queue (R273). -/
structure QEntry where
  base : Nat
  time : Nat
  tag : Nat
  next : Bool
  drop : Bool
  tb : Nat
  /-- Released by a LAUNCH mark, and found late when it became the front (R275, R276); a step skipped its time (R96). -/
  released : Bool := false
  late : Bool := false
  skipped : Bool := false
deriving DecidableEq, Repr

/-- A frame record (R286). -/
structure FrameRec where
  frame : Nat
  time : Nat
  flags : Nat
  tag : Nat
deriving DecidableEq, Repr

/-- A fabric pixel (R172); `bad` tells whether a line/LUT word read uncorrectable on the way to it (R181). -/
structure Px where
  c0 : Nat
  c1 : Nat
  c2 : Nat
  bad : Bool := false
deriving DecidableEq, Repr

/-- An anchor table as the sequencer copied it (R224): its temperature in 1/16 °C and its entries. -/
structure Anchor where
  temp : Int
  entries : List Byte
deriving DecidableEq, Repr

/-- The fabric state of a head: histograms, signatures, overdrive, dither and band tracker, beyond its registers. -/
structure FabricUnit where
  /-- By ASSIST instance: the accumulating buffer, and the bins written since it started (R194). -/
  histBuf : List Nat := [0, 0]
  histBins : List (List Nat) := [[], []]
  /-- The last source line that has entered the stages before SCALE in this frame, plus 1. -/
  inLines : Nat := 0
  /-- The lines of the tile row in progress at TILESIG and at OVERDRIVE, oldest first. -/
  sigRows : List (List Px) := []
  odRows : List (List Px) := []
  /-- Counts of the frame in progress: changed tiles, history truncated, uncovered and bytes, map bytes. -/
  changed : Nat := 0
  trunc : Nat := 0
  uncovered : Nat := 0
  histBytes : Nat := 0
  mapBytes : Nat := 0
  /-- The smallest rectangle of the tiles set Dirty so far (R294): left, top, right, bottom. -/
  damage : Option (Nat × Nat × Nat × Nat) := none
  /-- The maps as fetched before the first line of their tile row, by tile row, in this frame (R222): of each tile its 64 records, the one of
  a coarse map, or none where it shows the identity. -/
  mapRows : List (Nat × List (List (List Nat))) := []
  /-- Overlay plane lines that were late in this frame: the plane and the line of COMPOSE's raster (R192). -/
  latePlanes : List (Nat × Nat) := []
  /-- History slots as read before the first line of their tile row, by tile row, in this frame (R230): the pixels and whether they are
  truncated, none where a slot does not decode. -/
  prevRows : List (Nat × List (Option (List (List Nat) × Bool))) := []
  /-- Tiles whose ledger records were lost to an uncorrectable read: those to be signed as changed, those without a previous level in the
  next frame, and those without one in this frame (R431). -/
  lostRecs : List Nat := []
  noPrevNext : List Nat := []
  noPrev : List Nat := []
  /-- Lumas that ASSIST's kept line lost to an uncorrectable word in this frame (R181, R197): instance, line, column. -/
  lostLuma : List (Nat × Nat × Nat) := []
  /-- The tags (band, generation) of the complete working-table buffers (R226). -/
  odTags : List (Option (Nat × Nat)) := [none, none]
  /-- The buffer that a build writes and its tag (R227). -/
  odBuild : Option (Nat × Nat × Nat) := none
  /-- An anchor copy is in progress (R224). -/
  odCopy : Bool := false
  anchors : List Anchor := []
  /-- The next frame is a history restart (R231), and this one is. -/
  odRestartNext : Bool := true
  odRestart : Bool := false
  /-- The first frame after the re-gait in progress is a history restart (R231). -/
  odRegait : Bool := false
  /-- Complete frames without a changed tile in a row, for R281. -/
  staticRun : Nat := 0
  /-- Has the tracker read since READY? -/
  bandRead : Bool := false
deriving DecidableEq, Repr

/-- A tile of a MIP head whose waveform runs, or that runs a closing kick (R304, R321). -/
structure TileRun where
  tile : Nat
  /-- Half-periods of the step in progress that are left, the present one included. -/
  left : Nat
  /-- Is the present half-period the step's first? -/
  first : Bool := true
  /-- Sum of the kicks of the waveform over the half-periods that have ended, and the kick sent in the present one. -/
  kicks : Int := 0
  kick : Int := 0
  /-- A restart that balance holds at its safe point (R320); was the safe point complete? -/
  held : Bool := false
  whole : Bool := false
  /-- The waveform has been stopped at once (R321), and the half-periods of closing kick still to be sent. -/
  cut : Bool := false
  closing : Nat := 0
deriving DecidableEq, Repr

/-- A tile coded for the tile stream that waits for its datagram (R421): its frame, number and channel values C >> 6. -/
structure TsTile where
  frame : Nat
  tile : Nat
  px : List (List Nat)
deriving DecidableEq, Repr

/-- A frame of the tile stream whose datagrams are not all sent: its number, TB0's NSC32 at its start, whether it is a KEY frame,
its tiles per row, and whether its last tile has passed. -/
structure TsFrame where
  frame : Nat
  start : Nat
  key : Bool
  rowTiles : Nat
  closed : Bool := false
deriving DecidableEq, Repr

/-- The tile stream of a head (R421, R422). -/
structure TsUnit where
  tiles : List TsTile := []
  /-- Oldest first. -/
  frames : List TsFrame := []
  /-- PACKET of the next datagram. -/
  packet : Nat := 0
  /-- Did a tile of the last frame wait because the frame before it was not sent? -/
  backlog : Bool := false
  /-- The next SEQ expected. -/
  rxSeq : Option Nat := none
deriving DecidableEq, Repr

/-- The MIP state of a head, beyond its registers and ledger records. -/
structure MipUnit where
  /-- The phase of the half-period in progress (R296); 1 before the first phase boundary. -/
  phase : Nat := 1
  /-- Running tiles, by rising tile number. -/
  runs : List TileRun := []
  /-- A pass is requested; TB3's total ns and the sub-frame at the start of the pass in progress. -/
  passReq : Bool := false
  passAt : Nat := 0
  passSub : Nat := 0
  /-- Stream, slot and frame that the last pass read. -/
  passSlot : Option (Nat × Nat × Nat) := none
  /-- Readback: failures in a row, and the rows and planes whose READ_DATA is awaited. -/
  rbFails : Nat := 0
  rbAwait : List (Nat × Nat) := []
  /-- The commons under which a start has been held in this sub-frame (R320, R322). -/
  heldComs : List Nat := []
  /-- The commons whose BALANCE becomes 0 when the head is STOPPED (R431). -/
  zeroComs : List Nat := []
  /-- Blocks sent in the half-periods of the last second (TB3's total ns, blocks), newest first (R313). -/
  loads : List (Nat × Nat) := []
deriving DecidableEq, Repr

/-- The island's halter area (R324 to R327): its bitmap by byte address, and the rows of the last render. -/
structure HaltUnit where
  bmp : List Host.Cell := []
  last : List (List Nat) := []
  /-- Is the next render the first since the entry to Stand? -/
  fresh : Bool := true
deriving DecidableEq, Repr

/-- A head beyond its registers (chapters 05 to 08). -/
structure HeadUnit where
  sect : HeadSect := {}
  /-- The stored frame that the head scans: stream and slot (R155, R156). -/
  scanSlot : Option (Nat × Nat) := none
  /-- The input frame that a line-locked head takes from the line buffers (R160, R182). -/
  scanLoose : Option Nat := none
  fab : FabricUnit := {}
  mip : MipUnit := {}
  ts : TsUnit := {}
  /-- Is a frame in progress, from its frame start to its commit point; has line 0 started in it? -/
  inFrame : Bool := false
  lineBegun : Bool := false
  /-- The number of the next frame started (R245). -/
  nextFrame : Nat := 0
  /-- NSC32 of TB0 at the frame start, the flags and the tag of the frame's record (R286). -/
  startTime : Nat := 0
  flags : Nat := 0
  tag : Nat := 0
  queue : List QEntry := []
  /-- DRAM base (bits 39 to 8) of the queue buffer in use (R274). -/
  showing : Option Nat := none
  records : List FrameRec := []
  /-- A frame that DROP has to mark (R275). -/
  dropMark : Bool := false
  /-- The HPLL's failed locks in a row, and what its lock is for: 0 nothing, 1 a start, 2 a re-gait (R262, R272). -/
  pllTries : Nat := 0
  pllFor : Nat := 0
  /-- Lines after which the next frame may start (R248, R277, R281); 0 for the first frame. Lines by which an abort lengthens the
  blanking (R280), whether idle has ended in it (R282), and TB3's total nanoseconds at its beginning, or at the start of the head (R262). -/
  frameLines : Nat := 0
  lateLines : Nat := 0
  idleOver : Bool := false
  blankAt : Nat := 0
  /-- Has a frame started since the head began to scan (R217, R231)? -/
  started : Bool := false
  /-- The links that step 3 of R270 waits for. -/
  lungeWait : List Nat := []
  /-- Frame starts in a row within 1 ns of their aligned instants (R249). -/
  flockGood : Nat := 0
  /-- The next frame start waits for an aligned instant, and would come at this TB3 time in ns without (R249). -/
  flockWait : Option Nat := none
  /-- The trim of the divider's fraction, in ppb (R249). -/
  flockTrim : Int := 0
  /-- The frame in progress follows the line lock (R163), its input frame (R160), and its smallest margin so far (R162). -/
  lockOn : Bool := false
  lockFrame : Nat := 0
  margin : Option Int := none
  /-- The outputs of the edge generators after the line in progress (R250). -/
  gens : List Bool := List.replicate 32 false
  /-- The stall copy: is one made of this frame, may one be attempted, the bytes coded so far, the lines of its tile row so far,
  did the code fit (R283). -/
  stallMaking : Bool := false
  stallTry : Bool := true
  stallPos : Nat := 0
  stallRows : List (List Px) := []
  stallFit : Bool := true
  /-- Trot has been left, and the next frame start ends STALL (R261, R285). -/
  stallExit : Bool := false
  /-- The cause that FAR_DOWN_LAST gives for the frame in progress (R504, R508); 0 while it counts as up. -/
  down : Nat := 0
  /-- The cause with which the panel ramps down once the head is STOPPED (R341); 0 for none. -/
  stopCause : Nat := 0
  /-- A per-head reset waits for the engine substitution of its head (R202, R523). -/
  resetHeld : Bool := false
  /-- The command that waits or was sent last (R258): link, OP, DEVICE, ADDR, data. -/
  cmd : List Nat := []
deriving DecidableEq, Repr

/-- An entry of LINK_MAP (R43). -/
structure LinkEntry where
  profile : Nat := 0
  lanes : List Nat := []
  spare : Option Nat := none
  rate : Nat := 0
  txOnly : Bool := false
  owner : Nat := 0
  lockPin : Nat := 255
  exercise : Bool := false
deriving DecidableEq, Repr

/-- A lane beyond its registers (chapter 10). -/
structure LaneUnit where
  /-- The last 58 bits received, the newest in bit 0 (R361). -/
  rx : Nat := 2 ^ 58 - 1
  /-- The last 58 scrambled bits sent, the newest in bit 0 (R361). -/
  tx : Nat := 2 ^ 58 - 1
  /-- The validity of the last 128 headers, the newest in bit 0 and 1 for an invalid one; while it hunts, the number of consecutive
  valid headers and the bits by which the receiver has slipped (R369). -/
  headers : Nat := 0
  valid : Nat := 0
  slip : Nat := 0
  /-- The payloads of the GREET set that is arriving (R374). -/
  greets : List Nat := []
  /-- Blocks that a near-end loopback holds for the receiver, the oldest first (R382). -/
  loop : List Nat := []
  /-- The lane's last ALIGN came more than 64 blocks after another's of its ASEQ (R373). -/
  late : Bool := false
  /-- Stream blocks received that have not left reassembly (R373). -/
  fifo : List RBlock := []
  /-- The last 31 bits of the EXERCISE sequence and of the test pattern that the receiver checks against; none before its seed. -/
  exercise : Option Nat := none
  test : Option Nat := none
  /-- The last 31 bits of each sequence sent. -/
  exerciseTx : Nat := 2 ^ 31 - 1
  testTx : Nat := 2 ^ 31 - 1
  /-- A payload bit of the next test block is inverted (R383). -/
  inject : Bool := false
  /-- Stream blocks delivered since the last ALIGN, and their number at it (R373). -/
  blocks : Nat := 0
  atAlign : Nat := 0
  /-- TB3's total nanoseconds at the last entry to HUNT. -/
  huntAt : Nat := 0
  /-- Is the eye margin low, and for how many readings of 1 ms has it been as it is (R379)? -/
  marginLow : Bool := false
  marginMs : Nat := 0
  /-- An eye scan point runs (R381). -/
  eyeBusy : Bool := false
  /-- A level of the elastic buffer at which it deletes or inserts the next FILL (R376): 1 delete, 2 insert. -/
  elastic : Nat := 0
deriving DecidableEq, Repr

/-- A link beyond its registers (chapter 10). -/
structure LinkUnit where
  /-- ASEQ of the next ALIGN column. -/
  aseq : Nat := 0
  /-- The partner's REQ and DONE bytes in force (R367, R386). -/
  reqRx : Nat := 0
  doneRx : Nat := 0
  /-- DONE is sent and REQ withdrawn (R387). -/
  doneTx : Bool := false
  /-- The request of the farrier that began the substitution in progress. -/
  request : Option FarRequest := none
  /-- DUPLICATING: the comparison of 1,024 slots is done. -/
  compared : Bool := false
  /-- The link left UP for a lane fault and is not UP again (R504). -/
  fault : Bool := false
  /-- Stream blocks that wait while the link's lanes are in L-Idle (R384). -/
  held : List RBlock := []
  /-- Slots sent since the last in which every lane carried a FILL with PAD clear (R365). -/
  sinceFill : Nat := 0
  /-- The link lane of which reassembly takes the next stream block, and the blocks that have left it since the last ALIGN (R373). -/
  rxNext : Nat := 0
  arrived : List RBlock := []
deriving DecidableEq, Repr

/-- An entry of PIN_MAP (R42). -/
structure PinEntry where
  function : Nat := 0
  owner : Nat := 255
  index : Nat := 0
  flags : Nat := 0
deriving DecidableEq, Repr

/-- The kept values of an item's elements A and B (R483, R492). -/
structure CalElem where
  offA : Int := 0
  gainA : Int := 0
  offB : Int := 0
  gainB : Int := 0
  trimA : Int := 0
  trimB : Int := 0
deriving DecidableEq, Repr

/-- A run's result that waits for its safe instant: 0 the new values alone, 1 a swap, 2 a trim, 3 a swap that retires the
outgoing element, 4 such a swap that the farrier was asked for, after its run. -/
structure CalResult where
  item : Nat
  kind : Nat
  m : CalMeas
deriving DecidableEq, Repr

/-- The calibration unit beyond its registers (chapter 14). -/
structure CalUnit where
  elems : List CalElem := List.replicate 88 {}
  /-- The item being measured. -/
  measuring : Option Nat := none
  results : List CalResult := []
  /-- The swaps that the farrier asks for (R485, R497). -/
  asked : List CalResult := []
  /-- Sensor reading at the start of each item's last run, and TB3's total ns before which the item does not run again. -/
  startTemp : List Int := List.replicate 88 0
  notBefore : List Nat := List.replicate 88 0
  /-- REFV_EXT failures in a row (R489), and REFV_EXT in µV at the start of the run that measures (R487). -/
  refvFails : Nat := 0
  refvStart : Nat := 0
  /-- The run waits for a quiet output (R488). -/
  quietWait : Bool := false
  /-- TB3's total ns when DIRTY was set, and the slot being written: 0 A, 1 B (R494). -/
  dirtyAt : Nat := 0
  slot : Nat := 0
deriving DecidableEq, Repr

/-- A host access that waits for the end of Walk or Trot (R514): a register write, a memory write, a memory read. -/
inductive HostReq where
  | reg (r v : Nat)
  | memWrite (addr : Nat) (bytes : List Byte)
  | memRead (addr len : Nat)
deriving DecidableEq, Repr

/-- An access forwarded to a team position (R412): the data of a write, and when its CMD_REQ left (TB3's total ns). -/
structure FwdAccess where
  target : Nat
  offset : Nat
  /-- The bytes of the word that a read covers (R394): the first and their number. -/
  lo : Nat := 0
  len : Nat := 4
  data : Option Nat
  probe : Bool := false
  seq : Nat := 0
  sentAt : Nat := 0
deriving DecidableEq, Repr

/-- The team view beyond the TEAM registers (R411 to R414). -/
structure TeamUnit where
  /-- The access in flight, those that wait, and SEQ of the next one. -/
  flight : Option FwdAccess := none
  waiting : List FwdAccess := []
  seq : Nat := 0
  /-- On a node that forwards: the route learned to each position, and the links on which answers go back (target, source, SEQ, link). -/
  routes : List (Nat × Nat) := []
  returns : List (Nat × Nat × Nat × Nat) := []
deriving DecidableEq, Repr

/-- The power unit beyond its registers (chapter 15). -/
structure PowerUnit where
  /-- Host accesses that wait for the end of the rung. -/
  held : List HostReq := []
  /-- TB3's total nanoseconds at the last change of mode. -/
  modeAt : Nat := 0
  /-- A rung request waits for its dynamic conditions (R513). -/
  waiting : Bool := false
  /-- DMA channels released while a rung holds them (R510). -/
  dmaGo : List Nat := []
  /-- A wake event arrived during the entry, or waits for VSYS (R514). -/
  wakeHeld : Bool := false
  /-- The reset that a fast discharge holds off (R523): 0 none, else the code of TOP_RESET_CAUSE.LAST. -/
  heldReset : Nat := 0
  /-- Is PERST_N low? -/
  perstLow : Bool := false
  /-- TB3's total nanoseconds when PWRFAIL_N fell (R529). -/
  pwrfailAt : Option Nat := none
  /-- The entry in progress is SHED4's, the critical level's or PWRFAIL_N's, not a request's (R516). -/
  forced : Bool := false
  /-- The references present at the pins: bits 0 and 1, REFCLK_LN0 and REFCLK_LN1 (R25). -/
  refs : Nat := 3
  /-- TB3's total nanoseconds at the last entry to INIT, at the end of the last start-up step, and at the last change of rung. -/
  initAt : Nat := 0
  stepAt : Nat := 0
  rungAt : Nat := 0
  /-- Power state of each lane, and the raster heads' lanes, from before the entry to the rung (R514). -/
  lanesBefore : List Nat := []
  /-- The totals of TB0 to TB3 at the last entry to Walk (R511). -/
  walkAt : List Nat := []
  /-- The island runs on its RC oscillator (R550). -/
  islandRc : Bool := false
deriving DecidableEq, Repr

/-- The PCTL pins: the level of each, and whether its bank is powered under PIN_MAP (R548). -/
structure PinUnit where
  level : List Level := List.replicate 48 .hiz
  mapped : List Bool := List.replicate 48 false
  /-- I/O voltage codes of the last PIN_MAP applied since power-on reset (R583). -/
  lastVolts : Option (List Nat) := none
  /-- Pins with a pulse of the scheduler in progress (R116). -/
  pulsing : List Bool := List.replicate 48 false
deriving DecidableEq, Repr

/-- The scheduler beyond its registers. -/
structure SchedUnit where
  /-- SHUTTER marks whose FRAME_MARK has arrived: mark, and TB3's total ns of the trigger instant (R115). -/
  shots : List (Nat × Nat) := []
  /-- Armed TIME marks whose time a step has skipped (R96). -/
  skips : List Nat := []
deriving DecidableEq, Repr

/-- The test access port beyond the TEST registers (chapter 19). -/
structure TapUnit where
  /-- The instruction in force, and whether the last one was refused (R580, R582). -/
  ir : Nat := 1
  refused : Bool := false
  /-- The 431 boundary cells as last updated (R585). -/
  bsr : Nat := 0
  /-- The MBIST register, and whether its run is in progress (R587). -/
  mbist : Nat := 0
  running : Bool := false
  /-- The girth loop that GIRTH_TEST measures next (R588). -/
  girth : Option Nat := none
  /-- The state of the TAP controller, 15 Test-Logic-Reset, 12 Run-Test/Idle (R579, R589). -/
  state : Nat := 15
deriving DecidableEq, Repr

/-- The power sequence of a panel beyond PANELh_STATUS (R341 to R348). -/
structure PanelUnit where
  /-- Steps of R344 or R345 done since the entry to RAMP_UP or RAMP_DOWN. -/
  step : Nat := 0
  /-- The cause that OFF_CAUSE takes when the panel becomes OFF. -/
  cause : Nat := 0
deriving DecidableEq, Repr

/-- A girth loop (R351): measurements of the baseline captured so far, and readings in a row above the limit. -/
structure GirthUnit where
  taken : List Nat := []
  rises : Nat := 0
deriving DecidableEq, Repr

/-- The harness die beyond its registers (chapter 09). -/
structure HarnUnit where
  panels : List PanelUnit := List.replicate 8 {}
  /-- The levels that the outputs drive, in mV: VA, VB, VAK, VBK, VCOM_H, VCOM_L of each bias set, then the commons, GMA0 to
  GMA17 and VCOM_R. -/
  bias : List (List Int) := List.replicate 4 [0, 0, 0, 0, 0, 0]
  com : List Int := List.replicate 4 0
  /-- By bias set and rail: TB3's total nanoseconds at which a rail whose level changed with its panel ON is at its new level (R338). -/
  slewTo : List (List Nat) := List.replicate 4 [0, 0, 0, 0]
  gma : List Int := List.replicate 18 0
  vcomR : Int := 0
  /-- The code in force of VCOM_R (R339, R483). -/
  vcomRSet : Nat := 0
  /-- By thermistor: TB3's total nanoseconds when it was last known open or short (R214). -/
  thermBad : List (Option Nat) := List.replicate 8 none
  /-- TB3's total nanoseconds at the first trigger of the discharge in progress. -/
  dischAt : Nat := 0
  girths : List GirthUnit := List.replicate 4 {}
  /-- By common: TB3's total nanoseconds at which BALANCE last left 0 (R319). -/
  opened : List (Option Nat) := [none, none, none, none]
  /-- The waveform table load in progress: head and buffer (R303). -/
  wtLoad : Option (Nat × Nat) := none
deriving DecidableEq, Repr

/-- The stage engines beyond their registers (R201, R203). -/
structure EngineUnit where
  /-- The substitution in progress: outgoing engine, spare, head. -/
  sub : Option (Nat × Nat × Nat) := none
  /-- Parity errors: engine and TB3 time in ns, newest first. -/
  parity : List (Nat × Nat) := []
deriving DecidableEq, Repr

/-- The compression engine beyond its registers (chapter 13). -/
structure CeUnit where
  /-- The lengths loaded into tables 4 to 7, by slot; empty where none is valid. -/
  tables : List (List (List Nat)) := List.replicate 4 []
  /-- The queues whose job is in progress, each with whether it holds the encoder (R468). -/
  serving : List (Nat × Bool) := []
  /-- Queues whose RESTART a rung holds (R510). -/
  go : List Nat := []
deriving DecidableEq, Repr

/-- The running structure beyond the TACK registers (R41 to R45), and the load in progress. -/
structure TackUnit where
  /-- The frequency that HPLL p has now, in kHz, and HEAD_HPLL of each head. -/
  hplls : List Nat := List.replicate 4 0
  headHpll : List Nat := List.replicate 8 255
  links : List LinkEntry := List.replicate 16 {}
  pins : List PinEntry := List.replicate 64 {}
  /-- I/O voltage codes of PCTL banks 0 to 5. -/
  pinVolts : List Nat := List.replicate 6 0
  /-- The source being loaded (0 slot A, 1 slot B, 2 recovery, 3 PCIe push, 4 SPI push), those left to try (R53), and the failed
  pushes since INIT (R54). -/
  source : Nat := 0
  left : List Nat := []
  pushFails : Nat := 0
  /-- The header read in FETCH that has passed its checks (R55), and the image fetched. -/
  header : Option (List Byte) := none
  image : List Byte := []
  /-- The copy of a HEAD image (R65). -/
  rtImage : List Byte := []
  /-- The words that the head's registers held before PREPARE. -/
  rtShadow : List (Nat × Word) := []
  /-- The waveform table buffers that the new section brings (R303). -/
  rtWaves : List Nat := []
  /-- The sequencer's code: the address of its first byte in sequencer memory, its entry, its bytes (R45). -/
  fwLoad : Nat := 0
  fwEntry : Nat := 0
  fwCode : List Byte := []
deriving DecidableEq, Repr

/-- What one row of R31's table of input guards keeps: the failures, and the last one's code and TB0 time. -/
structure Guard where
  count : Nat := 0
  code : Nat := 0
  time : Nat := 0
deriving DecidableEq, Repr

/-- The block itself: everything but the queue of waiting commands. -/
structure Dev where
  /-- The words of the registers (offset, word): strictly rising offsets, no entry equal to the register's reset word. For an
  RWS register (R3) the word is the shadow value. -/
  regs : List (Nat × Word) := []
  /-- The applied words of the RWS registers (R3, R263), in the same form. -/
  applied : List (Nat × Word) := []
  /-- Device memory by device address (R426): DRAM, scratchpad, tile ledger, line/LUT memory; an unlisted byte reads 0. -/
  mem : List Host.Cell := []
  /-- Host-bus memory by bus address, as far as the block has written or been given it; an unlisted byte reads 0. -/
  hostMem : List Host.Cell := []
  time : TimeUnit := {}
  sched : SchedUnit := {}
  evt : EvtUnit := {}
  memu : MemUnit := {}
  far : FarUnit := {}
  streams : List StreamUnit := List.replicate 4 {}
  heads : List HeadUnit := List.replicate 8 {}
  tack : TackUnit := {}
  lanes : List LaneUnit := List.replicate 36 {}
  links : List LinkUnit := List.replicate 16 {}
  ce : CeUnit := {}
  engines : EngineUnit := {}
  pins : PinUnit := {}
  harn : HarnUnit := {}
  halt : HaltUnit := {}
  cal : CalUnit := {}
  power : PowerUnit := {}
  tap : TapUnit := {}
  team : TeamUnit := {}
  /-- The guards of R31, in the order of its table. Inputs whose block has registers for the count and the latest failure (lines,
  writes, tables, images, VSYS, loops) keep them there, and their rows stay as at reset. -/
  guards : List Guard := List.replicate 12 {}
  /-- A write of a record of DEFAULT_TABLES that has passed verification is being made, without a further check (R46). The model's
  own field: false between commands. -/
  judged : Bool := false
  /-- The xSPI flash by offset; an unlisted byte reads 0xFF, as erased. -/
  flash : List Host.Cell := []
  /-- What has left the device, newest first. -/
  sent : List Sent := []
  /-- How many free values have been drawn (the model's own counter). -/
  fresh : Nat := 0
deriving DecidableEq, Repr

/-- Why a step stops with a fault. No command of this block does: every stop that the spec describes (SAFE, a rejected write, a
failed descriptor) is a state of the block. -/
inductive Fault where
  /-- Raised by nothing: kept so that the type is not empty. Safe. -/
  | none
deriving DecidableEq, Repr

/-- Why a step is refused. -/
inductive Refusal where
  /-- Raised by a command whose meaning is not written; no command is left so. Safe. -/
  | notModelled (mnemonic : String)
deriving DecidableEq, Repr

/-- The state: the queue of the commands that wait, first in, first out, and the block. -/
structure State where
  pending : List Instr
  dev : Dev
deriving DecidableEq, Repr

/-- The state right after reset: no command waits, every register holds its reset word, every memory reads as unlisted. -/
def State.reset : State := { pending := [], dev := {} }

end Sys2Proof.Machine
end

