-- ==== Sys2Proof/Machine/Ops.lean ====
section
/-! DEFINITION. The named operations that every meaning is made of: sparse cells in canonical form, registers and their
fields, counters, device memory, event records, the fault log, MSI-X signalling, and the gate of a register write. -/
namespace Sys2Proof.Machine

/-! ### Cells in canonical form: rising keys, no entry equal to what an unlisted key reads as -/

/-- The entry of key `a`. -/
def cellFind {β : Type} : List (Nat × β) → Nat → Option β
  | [], _ => none
  | (x, y) :: r, a => if x = a then some y else cellFind r a

/-- The list without the entry of key `a`. -/
def cellDel {β : Type} (l : List (Nat × β)) (a : Nat) : List (Nat × β) := l.filter (fun p => p.1 != a)

/-- The list with the entry of key `a` set, in its place among the rising keys. -/
def cellPut {β : Type} : List (Nat × β) → Nat → β → List (Nat × β)
  | [], a, b => [(a, b)]
  | (x, y) :: r, a, b =>
    if a < x then (a, b) :: (x, y) :: r
    else if a = x then (a, b) :: r
    else (x, y) :: cellPut r a b

/-- Writes `b` at key `a`; writing what an unlisted key reads as (`d`) removes the entry. -/
def cellSet {β : Type} [DecidableEq β] (d : β) (l : List (Nat × β)) (a : Nat) (b : β) : List (Nat × β) :=
  if b = d then cellDel l a else cellPut l a b

/-- The canonical form: strictly rising keys and no entry equal to what its key reads as unlisted. -/
abbrev cellsWf {β : Type} (d : Nat → β) (l : List (Nat × β)) : Prop :=
  l.Pairwise (fun p q => p.1 < q.1) ∧ ∀ p ∈ l, p.2 ≠ d p.1

/-- The canonical form of a memory: an unlisted byte reads 0 (assumption 1). -/
abbrev Memory.wf (l : List Host.Cell) : Prop := cellsWf (fun _ => 0) l

/-! ### Registers (R1, R3, R7, R535) -/

/-- Is `r` one of the addresses that the specification covers (R7)? -/
def RegSpec.covers (s : RegSpec) (r : Nat) : Bool :=
  match s.dims with
  | [] => r == s.base
  | [(st, n)] => decide (s.base ≤ r) && (r - s.base) % st == 0 && decide ((r - s.base) / st < n)
  | [(st, n), (st', n')] =>
    decide (s.base ≤ r) && decide ((r - s.base) / st < n) && (r - s.base) % st % st' == 0
      && decide ((r - s.base) % st / st' < n')
  | (st, n) :: (st', n') :: (st'', n'') :: _ =>
    decide (s.base ≤ r) && decide ((r - s.base) / st < n) && decide ((r - s.base) % st / st' < n')
      && (r - s.base) % st % st' % st'' == 0 && decide ((r - s.base) % st % st' / st'' < n'')

/-- The specification of the register at offset `r`; none for an unassigned offset (R6). -/
@[irreducible] def specOf (r : Nat) : Option RegSpec := (blockRegs r).find? (·.covers r)

/-- The word that a list of fields resets to. -/
def fieldsReset (l : List FieldSpec) : Nat := l.foldl (fun a f => putBits a f.lo f.w f.reset) 0

/-- The reset word of offset `r` (0 for an unassigned offset, R6). -/
@[irreducible] def resetWord (r : Nat) : Word :=
  match specOf r with
  | some s => BitVec.ofNat 32 (fieldsReset s.fields)
  | none => 0

/-- Is offset `r` a register that only a power-on reset resets? -/
@[irreducible] def isPorOnly (r : Nat) : Bool :=
  match specOf r with
  | some s => s.porOnly
  | none => false

/-- Does the register at `r` hold RWS fields (R3)? -/
@[irreducible] def isRws (r : Nat) : Bool :=
  match specOf r with
  | some s => s.fields.any (fun f => f.acc == .rws)
  | none => false

/-- The word stored for offset `r`. -/
def Dev.wordBv (d : Dev) (r : Nat) : Word := (cellFind d.regs r).getD (resetWord r)

/-- The word stored for offset `r`, as a number. -/
def Dev.word (d : Dev) (r : Nat) : Nat := (d.wordBv r).toNat

/-- Stores a word at offset `r`. -/
@[irreducible] def Dev.setWord (d : Dev) (r v : Nat) : Dev :=
  { d with regs := cellSet (resetWord r) d.regs r (BitVec.ofNat 32 v) }

/-- A register back at its reset word. -/
def Dev.resetReg (d : Dev) (r : Nat) : Dev := { d with regs := cellDel d.regs r, applied := cellDel d.applied r }

/-- The applied word of the RWS register at `r` (R3). -/
def Dev.appWord (d : Dev) (r : Nat) : Nat := ((cellFind d.applied r).getD (resetWord r)).toNat

/-- Stores an applied word at offset `r`. -/
@[irreducible] def Dev.setAppWord (d : Dev) (r v : Nat) : Dev :=
  { d with applied := cellSet (resetWord r) d.applied r (BitVec.ofNat 32 v) }

/-- The value of a field (its shadow value, in an RWS register). -/
def Dev.get (d : Dev) (f : Fld) : Nat := bitsOf (d.word f.addr) f.lo f.w

/-- A one-bit field. -/
def Dev.flag (d : Dev) (f : Fld) : Bool := d.get f != 0

/-- The field as a signed number. -/
def Dev.getI (d : Dev) (f : Fld) : Int := sgn f.w (d.get f)

/-- Sets a field. -/
def Dev.put (d : Dev) (f : Fld) (x : Nat) : Dev := d.setWord f.addr (putBits (d.word f.addr) f.lo f.w x)

/-- Sets a signed field. -/
def Dev.putI (d : Dev) (f : Fld) (x : Int) : Dev := d.put f (unsgn f.w x)

/-- Sets a one-bit field. -/
def Dev.putB (d : Dev) (f : Fld) (b : Bool) : Dev := d.put f (b2n b)

/-- The applied value of an RWS field. -/
def Dev.app (d : Dev) (f : Fld) : Nat := bitsOf (d.appWord f.addr) f.lo f.w

/-- The applied value of a one-bit RWS field. -/
def Dev.appB (d : Dev) (f : Fld) : Bool := d.app f != 0

/-- The applied value of a signed RWS field. -/
def Dev.appI (d : Dev) (f : Fld) : Int := sgn f.w (d.app f)

/-- Adds `n` to a counter that saturates. -/
def Dev.addSat (d : Dev) (f : Fld) (n : Nat) : Dev := d.put f (min (d.get f + n) (2 ^ f.w - 1))

/-- Adds 1 to a counter that saturates. -/
def Dev.inc (d : Dev) (f : Fld) : Dev := d.addSat f 1

/-- Adds `n` to a counter that wraps. -/
def Dev.addWrap (d : Dev) (f : Fld) (n : Nat) : Dev := d.put f ((d.get f + n) % 2 ^ f.w)

/-- Draws a free value (assumption 2). -/
def Dev.free (d : Dev) : Nat := Config.freeValue d.fresh

/-- The block after a free value has been drawn. -/
def Dev.drawn (d : Dev) : Dev := { d with fresh := d.fresh + 1 }

/-! ### Time (R8, R85) -/

/-- Time base `n`. -/
def Dev.tb (d : Dev) (n : Nat) : TimeBase := nth {} d.time.tbs n

/-- Total nanoseconds. -/
def TimeBase.total (t : TimeBase) : Nat := t.sec * 1000000000 + t.ns

/-- The 16-bit fraction in units of 2^-16 ns. -/
def TimeBase.frac (t : TimeBase) : Nat := t.sub / 2 ^ 27

/-- The NSC32 of time base `n`. -/
def Dev.nsc32 (d : Dev) (n : Nat) : Nat := (d.tb n).total % 2 ^ 32

/-! ### Memory cells -/

/-- The byte stored at device address `a`. -/
def Dev.byteAt (d : Dev) (a : Nat) : Byte := (cellFind d.mem a).getD 0

/-- `n` bytes from device address `a` up. -/
def Dev.bytesAt (d : Dev) (a n : Nat) : List Byte := (List.range n).map (fun k => d.byteAt (a + k))

/-- Stores the bytes of a list from address `a` up, in a list of cells. -/
def storeCells : List Host.Cell → Nat → List Byte → List Host.Cell
  | l, _, [] => l
  | l, a, b :: r => storeCells (cellSet 0 l a b) (a + 1) r

/-- Stores bytes at device address `a` up. -/
@[irreducible] def Dev.store (d : Dev) (a : Nat) (l : List Byte) : Dev := { d with mem := storeCells d.mem a l }

/-- The little-endian number of `n` bytes at device address `a`. -/
def Dev.loadN (d : Dev) (a n : Nat) : Nat := ofLE (d.bytesAt a n)

/-- Stores the `n` little-endian bytes of `v` at device address `a`. -/
def Dev.storeN (d : Dev) (a n v : Nat) : Dev := d.store a (leBytes n v)

/-- `n` bytes of host-bus memory from bus address `a` up. -/
def Dev.hostBytes (d : Dev) (a n : Nat) : List Byte := (List.range n).map (fun k => (cellFind d.hostMem (a + k)).getD 0)

/-- The device writes host-bus memory. -/
@[irreducible] def Dev.hostStore (d : Dev) (a : Nat) (l : List Byte) : Dev := { d with hostMem := storeCells d.hostMem a l }

/-- Sends something out of the device. -/
def Dev.send (d : Dev) (x : Sent) : Dev := { d with sent := x :: d.sent }

/-- R31: an input of row `k` of the table of guards fails a check; the failure is counted and captured. -/
def Dev.guardFail (k code : Nat) (d : Dev) : Dev :=
  { d with guards := updAt d.guards k (fun g => { count := g.count + 1, code := code, time := d.nsc32 0 }) }

/-! ### Modes (R16) -/

/-- The mode code of R16. -/
def Dev.mode (d : Dev) : Nat := d.get TOP_STATUS_MODE

/-- Changes the power unit. -/
def Dev.onPower (f : PowerUnit → PowerUnit) (d : Dev) : Dev := { d with power := f d.power }

/-- The seconds since the last change of mode join the time in the present mode. -/
def Dev.modeTimed (d : Dev) : Dev :=
  let now := (d.tb 3).total
  (d.addSat (TOP_MODE_TIME_Sk_V d.mode) ((now - d.power.modeAt) / 1000000000)).onPower (fun u => { u with modeAt := now })

/-- Enters a mode: TOP_STATUS.MODE, TOP_STATUS.READY (R21), and the count of entries. -/
def Dev.setMode (m : Nat) (d : Dev) : Dev :=
  if d.mode = m then d
  else ((d.modeTimed.put TOP_STATUS_MODE m).putB TOP_STATUS_READY (decide (3 ≤ m ∧ m ≤ 6))).inc (TOP_MODE_COUNTk_V m)

/-- Is the device out of Gallop, entering or leaving a rung (R517)? -/
def Dev.inRung (d : Dev) : Bool := d.get POWER_RUNG_STATUS_STATE != 0

/-- R510, R513: does a rung, or the wait for one, keep new work from starting? -/
def Dev.rungHolds (d : Dev) : Bool := d.power.waiting || d.inRung

/-! ### The address map (R426) and the units that a check code covers (R428, R443) -/

/-- The regions of the device address space. -/
inductive Region where
  | dram | scratch | ledger | lineMem | seqMem | teamView | ownRegs | unassigned
deriving DecidableEq, Repr

/-- Where this model numbers the bytes of sequencer memory, which has no device address: above the 40-bit space. -/
def seqBase : Nat := 2 ^ 40

/-- The region of a device address (R426), and of a byte of sequencer memory. -/
def regionOf (a : Nat) : Region :=
  if a < 0x1DC000000 then .dram
  else if 0x4000000000 ≤ a ∧ a < 0x4000800000 then .scratch
  else if 0x4100000000 ≤ a ∧ a < 0x4100800000 then .ledger
  else if 0x4200000000 ≤ a ∧ a < 0x4200400000 then .lineMem
  else if seqBase ≤ a ∧ a < seqBase + 0x200000 then .seqMem
  else if 0x7E00000000 ≤ a ∧ a < 0x7E04000000 then .teamView
  else if 0x7F00000000 ≤ a ∧ a < 0x7F00100000 then .ownRegs
  else .unassigned

/-- The region code of MEM_ERR_INFO (R451). -/
def Region.code : Region → Nat
  | .dram => 0
  | .scratch => 1
  | .ledger => 2
  | .lineMem => 3
  | _ => 4

/-- The first address of the unit of `a` that one check code covers: a 64-bit word of SRAM, a 64-byte codeword of DRAM. -/
def unitOf (a : Nat) : Nat := if regionOf a = .dram then a / 64 * 64 else a / 8 * 8

/-- The size of that unit. -/
def unitSize (a : Nat) : Nat := if regionOf a = .dram then 64 else 8

/-- The units that `n` bytes from `a` up touch, ascending. -/
def unitsOf (a n : Nat) : List Nat :=
  if n = 0 then []
  else (List.range ((unitOf (a + n - 1) - unitOf a) / unitSize a + 1)).map (fun k => unitOf a + k * unitSize a)

/-- The channel of a DRAM address (R442). -/
def channelOf (a : Nat) : Nat := Nat.xor (a / 256 % 8) (a / 8192 % 8)

/-- Where a region starts. -/
def Region.base : Region → Nat
  | .scratch => 0x4000000000
  | .ledger => 0x4100000000
  | .lineMem => 0x4200000000
  | .seqMem => seqBase
  | _ => 0

/-- The unit's offset within its region, ÷ 8 for SRAM and ÷ 64 for DRAM (R450). -/
def unitIndex (a : Nat) : Nat := (a - (regionOf a).base) / unitSize a

/-- The bank of a scratchpad address. -/
def bankOf (a : Nat) : Nat := (a - 0x4000000000) / 0x80000

/-- The log entry of the unit at `a`, if any. -/
def Dev.clogEntry (d : Dev) (a : Nat) : Option Nat :=
  (List.range 64).find? (fun k => d.flag (MEM_CLOGk_INFO_VALID k) && d.get (MEM_CLOGk_INFO_REGION k) == (regionOf a).code
    && d.get (MEM_CLOGk_ADDR_V k) == unitIndex a)

/-- A write of the unit at `u` clears its error and marks its log entry as written (R429, R448). -/
def Dev.unitWritten (u : Nat) (d : Dev) : Dev :=
  let d1 := { d with memu := { d.memu with poison := d.memu.poison.filter (· != u) } }
  match d1.clogEntry u with
  | some k => { d1 with memu := { d1.memu with clogWritten := k :: d1.memu.clogWritten.filter (· != k) } }
  | none => d1

/-- R441: an access to bank `n` makes a row test yield. -/
def Dev.marchYield (n : Nat) (d : Dev) : Dev :=
  if d.memu.marchPhase = 1 ∧ d.get MEM_MARCH_STATUS_BANK = n then
    Dev.inc { d with memu := { d.memu with marchPhase := 2 } } (MEM_COUNTk_V 15)
  else d

/-- The key under which accesses to a bank wait for its wipe. -/
def wipeKey (n : Nat) : Nat := 2 ^ 20 + n

/-- Makes an access wait. -/
def Dev.wait (w : WaitingAccess) (d : Dev) : Dev := { d with memu := { d.memu with waits := d.memu.waits ++ [w] } }

/-- Stores bytes that fill whole units: their errors go with what they held (R429). -/
def Dev.storeWhole (a : Nat) (l : List Byte) (d : Dev) : Dev := (foldS (unitsOf a l.length) Dev.unitWritten d).store a l

/-- The event ring writes a record into its bank, which is EVT's (R402): dropped where the bank is FAILED (R439), waiting while it is
WIPING (R434), and making a row test yield (R441). A record fills whole words. -/
def Dev.ringStore (a : Nat) (l : List Byte) (d : Dev) : Dev :=
  let b := bankOf a
  match d.get (SBn_STATUS_STATE b) with
  | 3 => d
  | 2 => d.wait { key := wipeKey b, agent := 2, addr := a, len := l.length, bytes := l }
  | _ => (d.marchYield b).storeWhole a l

/-! ### Rein links: the link map, and what a link sends (R43, R360 to R365, R382 to R386) -/

/-- LINK_MAP's entry for LKj (R43). -/
def Dev.linkEntry (d : Dev) (j : Nat) : LinkEntry := nth {} d.tack.links j

/-- Lanes in use of link `j`: LINK_MAP's count, or the one its head's gait gives (R247, R289). -/
def Dev.linkLanes (d : Dev) (j : Nat) : Nat :=
  let e := d.linkEntry j
  let n := if e.profile = 2 then d.app (HDn_GAIT_LINK_LANES e.owner) else 0
  if n = 0 then e.lanes.length else min n e.lanes.length

/-- QUAD_RATE code of link `j`: LINK_MAP's, or the one its head's gait gives. -/
def Dev.linkRate (d : Dev) (j : Nat) : Nat :=
  let e := d.linkEntry j
  let r := if e.profile = 2 then d.app (HDn_GAIT_LINK_RATE e.owner) else 0
  if r = 0 then e.rate else r

/-- The unit of lane `n`, the unit of link `j`. -/
def Dev.lane (d : Dev) (n : Nat) : LaneUnit := nth {} d.lanes n
def Dev.link (d : Dev) (j : Nat) : LinkUnit := nth {} d.links j

/-- Changes the unit of a lane, of a link. -/
def Dev.onLane (n : Nat) (f : LaneUnit → LaneUnit) (d : Dev) : Dev := { d with lanes := updAt d.lanes n f }
def Dev.onLink (j : Nat) (f : LinkUnit → LinkUnit) (d : Dev) : Dev := { d with links := updAt d.links j f }

/-- The state of link `j` (R375), of lane `n` (R372). -/
def Dev.linkState (d : Dev) (j : Nat) : Nat := d.get (LKj_STATUS_STATE j)
def Dev.laneState (d : Dev) (n : Nat) : Nat := d.get (LNn_STATUS_RXSTATE n)

/-- Is link `j` up (R375)? -/
def Dev.linkUp (d : Dev) (j : Nat) : Bool := d.linkState j == 3

/-- Every lane of link `j`, its spare included. -/
def Dev.allLanes (d : Dev) (j : Nat) : List Nat := (d.linkEntry j).lanes ++ (d.linkEntry j).spare.toList

/-- Is lane `n` the spare of link `j`? -/
def Dev.isSpare (d : Dev) (j n : Nat) : Bool := (d.linkEntry j).spare == some n

/-- The link lane of data lane `n` of link `j`. -/
def Dev.laneIndex (d : Dev) (j n : Nat) : Nat := (d.linkEntry j).lanes.findIdx (· == n)

/-- The bytes of a block from its fields in order, and the control block that they form. -/
def ctrlBytes (l : List (Nat × Nat)) : List Byte := l.flatMap (fun p => leBytes p.1 p.2)
def ctrlBlock (l : List (Nat × Nat)) : List RBlock := [⟨true, ctrlBytes l⟩]

/-- The data blocks that carry a list of bytes. -/
def dataBlocks (l : List Byte) : List RBlock := (List.range (ceilDiv l.length 8)).map (fun k => ⟨false, (l.drop (8 * k)).take 8⟩)

/-- FILL with PAD clear, and with PAD set (R365). -/
def fillBlock : RBlock := ⟨true, ctrlBytes [(1, 0x1E), (7, 0)]⟩
def padBlock : RBlock := ⟨true, ctrlBytes [(1, 0x1E), (7, 1)]⟩

/-- What the partner, or on a transmit-only link TX_DUP, asks of the spare: the lane that it duplicates, the lane that it carries
alone (R385, R386). -/
def Dev.spareDup (d : Dev) (j : Nat) : Option Nat :=
  if (d.linkEntry j).txOnly then (if d.flag (LKj_CTRL_TX_DUP j) then some (d.get (LKj_CTRL_SPARE_FOR j)) else none)
  else
    let r := (d.link j).reqRx
    if bitOf r 7 then some (r % 16) else none
def Dev.spareOnly (d : Dev) (j : Nat) : Option Nat :=
  let r := (d.link j).doneRx
  if bitOf r 7 ∧ (d.linkEntry j).txOnly = false then some (r % 16) else none

/-- Does lane `n` transmit (R384)? -/
def Dev.laneSends (d : Dev) (n : Nat) : Bool := decide (d.get (LNn_POWER_STATE n) < 2)

/-- The `k` payload bits of `bits`, first in bit 0, scrambled, and the last 58 bits sent after them (R361). -/
def scramble : Nat → Nat → Nat → Nat × Nat
  | 0, s, _ => (0, s)
  | k + 1, s, bits =>
    let o := (bits + s / 2 ^ 38 + s / 2 ^ 57) % 2
    let p := scramble k ((s * 2 + o) % 2 ^ 58) (bits / 2)
    (o + 2 * p.1, p.2)

/-- The 66 bits of a block with inverted polarity. -/
def inverted (on : Bool) (serial : Nat) : Nat := if on then 2 ^ 66 - 1 - serial % 2 ^ 66 else serial

/-- Lane `n` sends a block (R360, R361): its sync header, then its payload, scrambled. The near-end loopbacks return it to the lane's
receiver; under NE_SERIAL the pins are idle (R382). -/
def Dev.laneSend (n : Nat) (b : RBlock) (d : Dev) : Dev :=
  if !d.laneSends n then d
  else
    let p := scramble 64 (d.lane n).tx (ofLE b.bytes)
    let plain := (if b.control then 1 else 2) + 4 * p.1
    let serial := inverted (d.flag (LNn_CTRL_TX_INVERT n)) plain
    let way := d.get (LNn_CTRL_LOOPBACK n)
    let back := if way = 1 then [inverted (d.flag (LNn_CTRL_RX_INVERT n)) serial] else if way = 2 then [plain] else []
    let d1 := d.onLane n (fun u => { u with tx := p.2, loop := u.loop ++ back })
    if way = 1 then d1 else d1.send (.lane n b serial)

/-- A block of lane `n`'s own traffic, in whose place FAR_END sends the blocks received (R382). -/
def Dev.laneTraffic (n : Nat) (b : RBlock) (d : Dev) : Dev := if d.get (LNn_CTRL_LOOPBACK n) = 3 then d else d.laneSend n b

/-- `k` slots of link `j` have been sent. -/
def Dev.slotsDone (j k : Nat) (d : Dev) : Dev := d.onLink j (fun u => { u with sinceFill := u.sinceFill + k })

/-- Before `k` slots of link `j` that stay together, a column of FILL where one is due: every lane carries one in every 512 slots
(R365). -/
def Dev.slotRoom (j k : Nat) (d : Dev) : Dev :=
  if (d.link j).sinceFill + k < 512 then d
  else (foldS (d.allLanes j) (fun n s => s.laneTraffic n fillBlock) d).onLink j (fun u => { u with sinceFill := 0 })

/-- Link `j` sends slots that stay together: in each, every lane its block (R363). -/
def Dev.slots (j : Nat) (l : List (Nat → RBlock)) (d : Dev) : Dev :=
  (l.foldl (fun s f => foldS (s.allLanes j) (fun n t => t.laneTraffic n (f n)) s) (d.slotRoom j l.length)).slotsDone j l.length

/-- The link lane whose stream lane `n` of link `j` carries: its own unless the spare has taken it over; the spare's, alone or as a
duplicate (R385, R386). -/
def Dev.carries (d : Dev) (j n : Nat) : Option Nat :=
  if d.isSpare j n then
    match d.spareOnly j with
    | some k => some k
    | none => if d.get (LNn_TX_STATUS_TXSTATE n) = 3 then some (d.get (LNn_TX_STATUS_LANE n)) else none
  else if d.spareOnly j = some (d.laneIndex j n) then none else some (d.laneIndex j n)

/-- What lane `n` of link `j` sends in the slot of a round: its block, a FILL with PAD set where the round has none, and a FILL with
PAD clear where the lane carries no stream (R363, R364). -/
def Dev.roundBlock (d : Dev) (j : Nat) (round : List RBlock) (n : Nat) : RBlock :=
  match d.carries j n with
  | some k => if k < d.linkLanes j then nth padBlock round k else fillBlock
  | none => fillBlock

/-- Stream blocks of link `j` in rounds of its lanes: block i on link lane i mod N, the last round completed (R364). -/
def Dev.rounds (j : Nat) (l : List RBlock) (d : Dev) : Dev :=
  let n := max 1 (d.linkLanes j)
  foldS (List.range (ceilDiv l.length n)) (fun r s => s.slots j [s.roundBlock j ((l.drop (r * n)).take n)]) (d.send (.block j l))

/-- Is link `j` in L-Idle (R384)? -/
def Dev.linkIdle (d : Dev) (j : Nat) : Bool := (d.allLanes j).any (fun n => d.get (LNn_POWER_STATE n) == 1)

/-- Blocks join link `j`'s stream: they are sent in order, held while the link is in L-Idle (R384), and lost while it is not up. -/
def Dev.linkStream (j : Nat) (l : List RBlock) (d : Dev) : Dev :=
  if !d.linkUp j then d
  else if d.linkIdle j then d.onLink j (fun u => { u with held := u.held ++ l })
  else d.rounds j l

/-- The blocks that link `j` held go out when it leaves L-Idle. -/
def Dev.streamRelease (j : Nat) (d : Dev) : Dev :=
  if (d.link j).held.isEmpty || d.linkIdle j then d
  else (d.onLink j (fun u => { u with held := [] })).linkStream j (d.link j).held

/-- A TIME column (R363): the block on link lane 0, and on a spare that carries it, FILL on the other lanes. -/
def Dev.timeColumn (j : Nat) (b : RBlock) (d : Dev) : Dev :=
  (d.send (.block j [b])).slots j [fun n => if (d.carries j n == some 0) || (!d.isSpare j n && d.laneIndex j n == 0) then b else fillBlock]

/-! ### Signalling and event records (R397, R403 to R408, R415, R591) -/

/-- R397: may the message of vector `v` be sent now? -/
def Dev.vecOpen (d : Dev) (v : Nat) : Bool :=
  d.flag HOST_STATUS_MSIX_ENABLE && d.flag HOST_STATUS_BUS_MASTER && !(nth {} d.evt.vecs v).masked

/-- Changes vector `v`. -/
def Dev.onVec (d : Dev) (v : Nat) (f : Vec → Vec) : Dev :=
  { d with evt := { d.evt with vecs := updAt d.evt.vecs v f } }

/-- Sends the message of vector `v`, which starts a moderation interval (R405). -/
def Dev.sendVec (d : Dev) (v : Nat) : Dev :=
  (d.send (.msix v)).onVec v (fun x => { x with held := false, waiting := false, moderating := d.get EVT_MODERATE_V != 0 })

/-- Signals vector `v` (R397, R405): is held, waits for the end of its moderation interval, or sends. -/
def Dev.signalVec (d : Dev) (v : Nat) : Dev :=
  if !d.vecOpen v then d.onVec v (fun x => { x with held := true })
  else if (nth {} d.evt.vecs v).moderating then d.onVec v (fun x => { x with waiting := true })
  else d.sendVec v

/-- The position of this device in its team. -/
def Dev.position (d : Dev) : Nat := d.get TEAM_STATUS_POSITION

/-- Is this device the leader (R411)? -/
def Dev.isLeader (d : Dev) : Bool := d.position == 0

/-- The 32 bytes of a record (R403). -/
def Rec.bytes (r : Rec) (seq : Nat) (phase : Bool) : List Byte :=
  leBytes 2 seq ++ leBytes 1 r.cls ++ leBytes 1 (b2n phase * 128 + b2n r.fwd * 64 + r.pos % 64) ++ leBytes 2 r.code
    ++ leBytes 1 r.inst ++ leBytes 1 (b2n r.fault) ++ leBytes 4 r.nsc32 ++ leBytes 4 r.sec
    ++ (List.range 4).flatMap (fun k => leBytes 4 (nth 0 r.data k))

/-- A record of a cause now (R403): TB0's time, this device's position. -/
def Dev.mkRec (d : Dev) (cls code inst : Nat) (fault : Bool) (data : List Nat) : Rec :=
  { cls := cls, code := code % 2 ^ 16, inst := inst, fault := fault, nsc32 := d.nsc32 0, sec := (d.tb 0).sec % 2 ^ 32,
    data := data, fwd := false, pos := d.position }

/-- The event type of a control block with the data blocks that follow it (R368). -/
def eventBlock (source seq : Nat) (r : List Byte) : List RBlock :=
  ctrlBlock [(1, 0xCC), (1, source), (1, seq), (5, 0)] ++ dataBlocks r

/-- R415: a follower with EVT_UP sends a record upstream, on the link that TEAM_TIME_CTRL.UPSTREAM names; while that link is not up
the record is lost, and its SEQ with it. -/
def Dev.sendUp (d : Dev) (r : Rec) : Dev :=
  if d.flag TEAM_CTRL_EVT_UP && !d.isLeader then
    let up := d.get TEAM_TIME_CTRL_UPSTREAM
    let d1 := if up < 16 then d.linkStream up (eventBlock d.position d.evt.upSeq (r.bytes d.evt.seq d.evt.phase)) else d
    { d1 with evt := { d1.evt with upSeq := (d1.evt.upSeq + 1) % 256 } }
  else d

/-- The device address of record `i` of the ring (R402). -/
def Dev.ringAddr (d : Dev) (i : Nat) : Nat := 0x4000000000 + d.get EVT_CTRL_BANK * 0x80000 + 32 * i

/-- How many records the ring holds. -/
def Dev.ringUsed (d : Dev) : Nat := (d.get EVT_PROD_V + 16384 - d.get EVT_CONS_V) % 16384

/-- R406: is the ring full? -/
def Dev.ringFull (d : Dev) : Bool := (d.get EVT_PROD_V + 1) % 16384 == d.get EVT_CONS_V

/-- The ring part of posting a record: class filter (R404), ENABLE, full ring (R406), the three steps of R405, ALERT (R407). -/
def Dev.ringPost (d : Dev) (r : Rec) : Dev :=
  if !bitOf (d.get EVT_CLASS_ENABLE_V) r.cls then d.inc (EVT_CLASS_COUNTk_V r.cls)
  else if !d.flag EVT_CTRL_ENABLE then d
  else if d.ringFull then (d.inc EVT_LOST_COUNT_V).putB EVT_STATUS_OVERFLOW true
  else
    let p := d.get EVT_PROD_V
    let d1 := d.ringStore (d.ringAddr p) (r.bytes d.evt.seq d.evt.phase)
    let d2 := d1.put EVT_PROD_V ((p + 1) % 16384)
    let d3 := { d2 with evt := { d2.evt with seq := (d2.evt.seq + 1) % 65536,
                                             phase := if p + 1 = 16384 then !d2.evt.phase else d2.evt.phase } }
    let d4 := (d3.inc EVT_POSTED_COUNT_V).put EVT_HIGH_WATER_V (max (d3.get EVT_HIGH_WATER_V) d3.ringUsed)
    let d5 := if r.fault || bitOf (d4.get EVT_ALERT_ENABLE_V) r.cls then d4.putB EVT_STATUS_ALERT true else d4
    d5.signalVec (d5.get (HOST_VECMAPk_V r.cls))

/-- R407, R548: the level of the open-drain pin ALERT_N: low while EVT_STATUS.ALERT is set, and released in OFF. -/
def Dev.alertN (d : Dev) : Level := if d.flag EVT_STATUS_ALERT ∧ d.mode ≠ 0 then .low else .hiz

/-- Posts a record that this device generates (R405, R415). -/
def Dev.postRec (d : Dev) (r : Rec) : Dev := (d.sendUp r).ringPost r

/-- Posts a record of class `cls` with code, instance and data words. -/
def Dev.post (d : Dev) (cls code inst : Nat) (data : List Nat) : Dev := d.postRec (d.mkRec cls code inst false data)

/-- R408: a cause goes to the fault log and the same record is posted with FAULT set. -/
def Dev.flogWrite (d : Dev) (cls code inst : Nat) (data : List Nat) : Dev :=
  let r := d.mkRec cls code inst true data
  let d1 := if d.evt.flog.length ≥ 64 then d.inc EVT_FLOG_LOST_V else d
  let d2 := { d1 with evt := { d1.evt with flog := (r.bytes d1.evt.seq d1.evt.phase :: d1.evt.flog).take 64 } }
  (d2.put EVT_FLOG_COUNT_V d2.evt.flog.length).postRec r

/-- Event classes (R404). -/
def clsHost : Nat := 0
def clsSched : Nat := 1
def clsTime : Nat := 2
def clsInput : Nat := 3
def clsDma : Nat := 4
def clsNet : Nat := 5
def clsLink : Nat := 6
def clsHarness : Nat := 7
def clsMip : Nat := 8
def clsFarrier : Nat := 9
def clsCal : Nat := 10
def clsMem : Nat := 11
def clsPower : Nat := 12
def clsTack : Nat := 13
def clsTeam : Nat := 14
def clsDevice : Nat := 15

/-- The INSTANCE of the cause that set bit `b` of a status register (R287). -/
def Dev.causeOf (d : Dev) (status b : Nat) : Nat := (cellFind d.evt.causes (status * 32 + b)).getD 0xFF

/-- Bit `b` of a status register is set by a cause that INSTANCE names. -/
def Dev.causeSet (status b inst : Nat) (d : Dev) : Dev :=
  { d with evt := { d.evt with causes := (status * 32 + b, inst) :: d.evt.causes.filter (fun c => c.1 != status * 32 + b) } }

/-- Sets bit `b` of an *_EVT_STATUS register, and posts one record when it and its enable bit become both 1 (R404, R591). -/
def Dev.raiseAt (d : Dev) (status enable cls inst b : Nat) : Dev :=
  if bitOf (d.word status) b then d
  else
    let d1 := (d.setWord status (d.word status + 2 ^ b)).causeSet status b inst
    if bitOf (d1.word enable) b then d1.post cls b inst [d1.word status] else d1

/-- R591: the records that a write of an enable register posts, for the bits that become enabled while their status is set,
in ascending bit number; each names the cause that set its bit. -/
def Dev.enableWritten (d : Dev) (status enable cls new : Nat) : Dev :=
  let old := d.word enable
  foldS (onesOf 32 new) (fun b s =>
    if !bitOf old b && bitOf (s.word status) b then s.post cls b (s.causeOf status b) [s.word status] else s) (d.setWord enable new)

/-! ### The gate of a register write (R4 to R6, R16) -/

/-- R5: a rejected write changes nothing, is counted and captured; in OFF no write reaches the register file. -/
def Dev.reject (r : Nat) (d : Dev) : Dev := if d.mode = 0 then d else (d.inc TOP_REJECT_COUNT_V).put TOP_REJECT_ADDR_V r

/-- Is `x` a legal value of a field of `w` bits? -/
def Legal.holds (l : Legal) (w x : Nat) : Bool :=
  match l with
  | .any => true
  | .range lo hi => decide (lo ≤ x ∧ x ≤ hi)
  | .srange lo hi => decide (lo ≤ sgn w x ∧ sgn w x ≤ hi)
  | .oneOf l => l.contains x
  | .mult4 => x % 4 == 0

/-- R4: no reserved bit is set and no writable field gets an illegal value. A read-only field takes any value (R3). -/
def RegSpec.accepts (s : RegSpec) (v : Nat) : Bool :=
  s.fields.all (fun f => f.acc == .ro || f.legal.holds f.w (bitsOf v f.lo f.w))
    && s.fields.foldl (fun a f => putBits a f.lo f.w 0) v == 0

/-- What a write of `v` leaves of the word `old` by the access types alone (R3): RO keeps, RW and RWS take, W1C clears, WO
reads 0. -/
def RegSpec.merge (s : RegSpec) (old v : Nat) : Nat :=
  s.fields.foldl (fun a f =>
    match f.acc with
    | .ro => a
    | .rw => putBits a f.lo f.w (bitsOf v f.lo f.w)
    | .rws => putBits a f.lo f.w (bitsOf v f.lo f.w)
    | .w1c => putBits a f.lo f.w (Nat.land (bitsOf old f.lo f.w) (2 ^ f.w - 1 - bitsOf v f.lo f.w))
    | .wo => putBits a f.lo f.w 0) old

/-- The head whose blocks hold offset `r`: its HEADS registers, its stages, bands, line lock and overlays. -/
def headOf (r : Nat) : Option Nat :=
  if 0x20000 ≤ r ∧ r < 0x30000 then some ((r - 0x20000) / 0x2000)
  else if 0x11000 ≤ r ∧ r < 0x11800 then some ((r - 0x11000) / 0x100)
  else if 0x14000 ≤ r ∧ r < 0x14800 then some ((r - 0x14000) / 0x100)
  else if 0x8400 ≤ r ∧ r < 0x8500 then some ((r - 0x8400) / 0x20)
  else if 0x8800 ≤ r ∧ r < 0x8A00 then some ((r - 0x8800) / 0x40)
  else none

/-- R16: may the host read the block of offset `r` in the present mode? In OFF, only the registers of the always-on island, through
the SPI target (R410, R519). -/
def Dev.regOpen (d : Dev) (r : Nat) : Bool :=
  match d.mode with
  | 0 => isPorOnly r
  | 1 => decide (r < 0x1000)
  | 2 => decide (r < 0x2000)
  | _ => true

/-- R16: in RETACK the re-tacked head's blocks reject writes; the per-head reset that R67 names stays open
(assumption 5). -/
def Dev.regWritable (d : Dev) (r : Nat) : Bool :=
  d.regOpen r && !(d.mode == 5 && headOf r == some (d.get TACK_RT_STATUS_HEAD) && r != HDn_RESET (d.get TACK_RT_STATUS_HEAD))

/-- Would a write of `v` to offset `r` pass R4, R6 and R16? -/
def Dev.writeOk (d : Dev) (r v : Nat) : Bool :=
  d.regWritable r &&
    match specOf r with
    | some s => s.accepts v
    | none => false

/-- The store that a write of `v` makes by the access types alone. -/
def Dev.writePlain (d : Dev) (r v : Nat) : Dev :=
  match specOf r with
  | some s => d.setWord r (s.merge (d.word r) v)
  | none => d

/-- A write of `v` to offset `r` that has an effect `f` of its own: rejected under R4 to R6 and R16 or where `ok` fails,
otherwise stored and carried out. A write that verification has judged is not checked again (R46). -/
def Dev.writeVia (r v : Nat) (ok : Dev → Bool) (f : Dev → Dev) (d : Dev) : Dev :=
  if d.judged || (d.writeOk r v && ok d) then f (d.writePlain r v) else d.reject r

/-! ### Heads (R17, R19, R82) -/

/-- Head `h` beyond its registers. -/
def Dev.head (d : Dev) (h : Nat) : HeadUnit := nth {} d.heads h

/-- Changes head `h`. -/
def Dev.onHead (h : Nat) (f : HeadUnit → HeadUnit) (d : Dev) : Dev := { d with heads := updAt d.heads h f }

/-- The state code of head `h` (R261, R298). -/
def Dev.headState (d : Dev) (h : Nat) : Nat := d.get (HDn_STATUS_STATE h)

/-- Is head `h` present in the running structure (R82)? -/
def Dev.headPresent (d : Dev) (h : Nat) : Bool := decide (h < 8) && d.flag (TACK_HEADn_PRESENT h)

/-- Is head `h` a MIP head? -/
def Dev.isMip (d : Dev) (h : Nat) : Bool := d.headPresent h && d.flag (TACK_HEADn_CLASS h)

/-- Is head `h` a raster head? -/
def Dev.isRaster (d : Dev) (h : Nat) : Bool := d.headPresent h && !d.flag (TACK_HEADn_CLASS h)

/-- R17: does head `h` scan? -/
def Dev.scans (d : Dev) (h : Nat) : Bool :=
  if d.isMip h then d.headState h == 1 || d.headState h == 2
  else d.isRaster h && decide (1 ≤ d.headState h ∧ d.headState h ≤ 4)

/-- Does any head scan? -/
def Dev.anyScans (d : Dev) : Bool := anyBelow 8 d.scans

/-- R19: READY becomes RUN with the first head that scans, RUN becomes READY with the last that stops. -/
def settle (d : Dev) : Dev :=
  if d.mode = 3 ∧ d.anyScans = true then d.setMode 4
  else if d.mode = 4 ∧ d.anyScans = false then d.setMode 3
  else d

/-- R580: does the instruction with this code own the pins or the logic? -/
def intrusive (ir : Nat) : Bool := (decide (3 ≤ ir ∧ ir ≤ 7)) || ir == 0x20

/-- R582: while an intrusive instruction of the test access port is in force, the functional logic is halted. -/
def Dev.halted (d : Dev) : Bool := intrusive d.tap.ir

/-- The effect of a command that acts even while the logic is halted: the test access port's, and the resets. -/
def State.always (s : State) (f : Dev → Dev) : Host.Outcome State Fault Refusal := .next { s with dev := settle (f s.dev) }

/-- A command's effect on the block, after which the mode follows the heads (R19); none while the logic is halted. The queue is
left alone. -/
def State.on (s : State) (f : Dev → Dev) : Host.Outcome State Fault Refusal := if s.dev.halted then .next s else s.always f

end Sys2Proof.Machine
end

