-- ==== Sys2Proof/Machine/Farrier.lean ====
section
/-! DEFINITION. The farrier's shared operations: triggers and policies, the inventory, the log (chapter 14, R495 to R501). -/
namespace Sys2Proof.Machine

/-- Sets a FAR_EVT_STATUS bit (R507, R591). -/
def Dev.farEvt (b : Nat) (d : Dev) (inst : Nat := 0xFF) : Dev := d.raiseAt FAR_EVT_STATUS FAR_EVT_ENABLE clsFarrier inst b

/-- The policy of a class (R497): 0 AUTO, 1 ASK, 2 FORBID. -/
def Dev.policy (d : Dev) (cls : Nat) : Nat := bitsOf (d.word FAR_CTRL) (2 * cls) 2

/-- A request as the FAR_ASKk registers lay it out (R508). -/
def FarRequest.word (q : FarRequest) : Nat := 2 ^ 31 + q.cls % 8 * 2 ^ 28 + q.trig % 16 * 2 ^ 24 + q.inst % 2 ^ 24

/-- Class and instance of a log entry's record word. -/
def FarLog.cls (l : FarLog) : Nat := bitsOf l.record 28 3
def FarLog.inst (l : FarLog) : Nat := bitsOf l.record 0 24

/-- The log entry of a request's outcome, as it stands now (R500). -/
def Dev.farEntry (d : Dev) (q : FarRequest) (target result : Nat) : FarLog :=
  { sec := (d.tb 0).sec % 2 ^ 32, record := q.word, target := target, result := result, lifetime := d.get (FAR_SUBk_V q.cls) }

/-- A log entry is made for the farrier to write within 100 ms (R501); until then WRITING reads 1. -/
def Dev.farLog (q : FarRequest) (target result : Nat) (d : Dev) : Dev :=
  Dev.put { d with far := { d.far with logQueue := d.far.logQueue ++ [d.farEntry q target result] } } FAR_LOG_STATUS_WRITING 1

/-- The requests asked and not yet answered, by entry. -/
def Dev.asks (d : Dev) : List Nat := filterRange 16 (fun k => d.flag (FAR_ASKk_VALID k))

/-- Is a request already asked or released? -/
def Dev.farKnown (d : Dev) (q : FarRequest) : Bool :=
  anyBelow 16 (fun k => d.flag (FAR_ASKk_VALID k) && d.get (FAR_ASKk_CLASS k) == q.cls && d.get (FAR_ASKk_INSTANCE k) == q.inst)
    || d.far.queue.any (fun r => r.cls == q.cls && r.inst == q.inst)

/-- The head that a request names in INSTANCE: the one that its engine serves (R287). -/
def Dev.farInst (d : Dev) (q : FarRequest) : Nat :=
  if q.cls = 0 ∧ q.inst < 28 ∧ d.get (SEk_STATUS_STATE q.inst) = 1 ∧ d.get (SEk_STATUS_HEAD q.inst) < 8 then d.get (SEk_STATUS_HEAD q.inst) else 0xFF

/-- R497: a request is, by the policy of its class, released, asked or forbidden; one already made is not made again. -/
def Dev.farRaise (q : FarRequest) (d1 : Dev) : Dev :=
  if d1.farKnown q then d1
  else match d1.policy q.cls with
    | 0 => { d1 with far := { d1.far with queue := d1.far.queue ++ [q] } }
    | 1 =>
      match (List.range 16).find? (fun k => !d1.flag (FAR_ASKk_VALID k)) with
      | none => d1.inc (FAR_TRIGk_V 7)
      | some k => ((d1.setWord (FAR_ASKk k) q.word).put FAR_STATUS_ASKS (d1.asks.length + 1)).farEvt 2 (d1.farInst q)
    | _ => ((d1.inc FAR_FORBID_COUNT_V).farLog q 0 4).farEvt 3 (d1.farInst q)

/-- R496: a trigger is counted, and its request is made. -/
def Dev.farTrigger (q : FarRequest) (d : Dev) : Dev := (d.inc (FAR_TRIGk_V q.trig)).farRaise q

/-- Takes a request off the released ones. -/
def Dev.farTake (q : FarRequest) (d : Dev) : Dev :=
  { d with far := { d.far with queue := d.far.queue.filter (fun r => !(r.cls == q.cls && r.inst == q.inst)) } }

/-- The released requests of a class. -/
def Dev.farReleased (d : Dev) (cls : Nat) : List FarRequest := d.far.queue.filter (fun q => q.cls == cls)

/-- A resource is taken into use or retired by a log entry (FAR_INVk.USED), and the entry is in force (R501). -/
def Dev.farUse (l : FarLog) (d : Dev) : Dev :=
  Dev.inc { d with far := { d.far with inForce := d.far.inForce ++ [l] } } (FAR_INVk_USED l.cls)

/-- The entry in force of an instance no longer holds, and its resource is free again. -/
def Dev.farFree (cls inst : Nat) (d : Dev) : Dev :=
  let gone (l : FarLog) : Bool := l.cls == cls && l.inst == inst
  let n := d.far.inForce.countP gone
  Dev.put { d with far := { d.far with inForce := d.far.inForce.filter (fun l => !gone l) } } (FAR_INVk_USED cls)
    (d.get (FAR_INVk_USED cls) - n)

/-- A substitution completes (R497, R507); the record of an engine names its head (R287). -/
def Dev.farSubstituted (q : FarRequest) (target : Nat) (d : Dev) (inst : Nat := 0xFF) : Dev :=
  let d0 := (d.farTake q).inc (FAR_SUBk_V q.cls)
  let d1 := d0.farUse (d0.farEntry q target 0)
  Dev.farEvt 0 (((d1.setWord (FAR_SUB_LASTk q.cls) q.word).put FAR_SUB_TIME_V (d.nsc32 0)).farLog q target 0) inst

/-- A spare is retired with no substitution (R496). -/
def Dev.farRetire (q : FarRequest) (target : Nat) (d : Dev) : Dev :=
  Dev.farEvt 1 ((d.farUse (d.farEntry q target 1)).farLog q target 1)

/-- R499: a class has no spare left; the fault stays in place. -/
def Dev.farExhausted (q : FarRequest) (d : Dev) : Dev :=
  let d1 := (d.farTake q).put FAR_STATUS_EXHAUSTED (Nat.lor (d.get FAR_STATUS_EXHAUSTED) (2 ^ q.cls))
  Dev.farEvt 4 (d1.flogWrite clsFarrier 4 (d.farInst q) [q.word]) (d.farInst q)

/-- FAR_APPROVE or FAR_DECLINE names a valid entry (R507). -/
def Dev.askValid (d : Dev) (v : Nat) : Bool := decide (v < 16) && d.flag (FAR_ASKk_VALID v)

/-- The request of entry k. -/
def Dev.askRequest (d : Dev) (k : Nat) : FarRequest :=
  { cls := d.get (FAR_ASKk_CLASS k), trig := d.get (FAR_ASKk_TRIGGER k), inst := d.get (FAR_ASKk_INSTANCE k) }

/-- Empties entry k. -/
def Dev.askClear (k : Nat) (d : Dev) : Dev :=
  let d1 := d.setWord (FAR_ASKk k) 0
  d1.put FAR_STATUS_ASKS d1.asks.length

end Sys2Proof.Machine
end

