-- ==== Sys2Proof/Machine/Mem.lean ====
section
/-! DEFINITION. Memory, protection and scrubbing (chapter 12, R426 to R451): the address map, check codes and the correction
log, scratch banks and their owners, atomics, MARCH-P, the init map, groom, and spare rows and pages. -/
namespace Sys2Proof.Machine

/-- Sets a MEM_EVT_STATUS bit (R451, R591). -/
def Dev.memEvt (b : Nat) (d : Dev) : Dev := d.raiseAt MEM_EVT_STATUS MEM_EVT_ENABLE clsMem 0xFF b

/-! ### The correction log and hard faults (R448, R449) -/

/-- The farrier's request for a unit with a hard fault: its SRAM row, its DRAM page, or the repair of a page already on a
spare (R449, R508). -/
def Dev.hardRequest (d : Dev) (a : Nat) : FarRequest :=
  if regionOf a = .dram then
    { cls := if d.memu.sparePages.contains (a / 4096) then 4 else 3, trig := 3, inst := a / 4096 % 2 ^ 21 }
  else { cls := 2, trig := 3, inst := (regionOf a).code * 2 ^ 20 + (a - (regionOf a).base) / 1024 }

/-- R449: the row of page `p`, which is on a spare, awaits its repair at the next Walk entry, as the policy of class 4 has it. -/
def Dev.rowRepair (p : Nat) (d : Dev) : Dev :=
  let q : FarRequest := { cls := 4, trig := 3, inst := p % 2 ^ 21 }
  if d.memu.pprQueue.contains p then d
  else
    let d1 := d.farRaise q
    if d1.policy 4 = 0 then
      let d2 := (d1.farTake q).put MEM_SPARE_STATUS_PPR_PENDING (d1.memu.pprQueue.length + 1)
      { d2 with memu := { d2.memu with pprQueue := d2.memu.pprQueue ++ [p] } }
    else d1

/-- A hard fault of the unit at `a` (R448): counted, reported, logged, and handed to the farrier (R496). -/
def Dev.hardFault (a : Nat) (d : Dev) : Dev :=
  let d1 := (d.inc (MEM_COUNTk_V 13)).memEvt 2
  let d2 := d1.flogWrite clsMem 2 0xFF [unitIndex a, (regionOf a).code]
  let q := d2.hardRequest a
  if q.cls = 4 then (d2.inc (FAR_TRIGk_V q.trig)).rowRepair (a / 4096) else d2.farTrigger q

/-- The entry that a new unit takes: a free one, or the one with the lowest COUNT, the oldest on a tie; and whether it evicts. -/
def Dev.clogSlot (d : Dev) : Nat × Bool :=
  match (List.range 64).find? (fun k => !d.flag (MEM_CLOGk_INFO_VALID k)) with
  | some k => (k, false)
  | none =>
    (d.memu.clogOrder.reverse.foldl (fun (best : Option Nat) k => match best with
      | none => some k
      | some b => if d.get (MEM_CLOGk_INFO_COUNT k) < d.get (MEM_CLOGk_INFO_COUNT b) then some k else some b) none |>.getD 0, true)

/-- Notes the time of a correction of entry `k`. -/
def Dev.clogStamp (k : Nat) (d : Dev) : Dev :=
  { d with memu := { d.memu with clogAt := updAt d.memu.clogAt k (fun _ => (d.tb 3).total) } }

/-- Whole hours since the last correction of entry `k`. -/
def Dev.clogAge (d : Dev) (k : Nat) : Nat := ((d.tb 3).total - nth 0 d.memu.clogAt k) / 3600000000000

/-- Marks an entry HARD, once, with the consequences of a hard fault. -/
def Dev.clogHard (k a : Nat) (d : Dev) : Dev :=
  if d.flag (MEM_CLOGk_INFO_HARD k) then d else (d.putB (MEM_CLOGk_INFO_HARD k) true).hardFault a

/-- R448: a correction or an uncorrectable read of the unit at `a` enters the log. -/
def Dev.clogLog (a : Nat) (e : Ecc) (d : Dev) : Dev :=
  match d.clogEntry a with
  | some k =>
    match e with
    | .clean => d
    | .link => d
    | .corrected _ =>
      let d1 := (d.inc (MEM_CLOGk_INFO_COUNT k)).clogStamp k
      let again := d.flag (MEM_CLOGk_INFO_UNCORR k) && d.memu.clogWritten.contains k
      if d.flag (MEM_CLOGk_INFO_WRITTEN_BACK k) || again then d1.clogHard k a else d1
    | .address => (d.putB (MEM_CLOGk_INFO_UNCORR k) true).clogHard k a
    | .uncorrectable =>
      let again := d.flag (MEM_CLOGk_INFO_UNCORR k) && d.memu.clogWritten.contains k
      let d1 := d.putB (MEM_CLOGk_INFO_UNCORR k) true
      let d2 := { d1 with memu := { d1.memu with clogWritten := d1.memu.clogWritten.filter (· != k) } }
      if again then d2.clogHard k a else d2
  | none =>
    if e = .clean ∨ e = .link then d
    else
      let (k, evict) := d.clogSlot
      let d1 := if evict then (d.inc (MEM_COUNTk_V 7)).memEvt 6 else d.inc MEM_CLOG_USED_V
      let d2 := ((d1.setWord (MEM_CLOGk_ADDR k) (unitIndex a)).setWord (MEM_CLOGk_INFO k)
        (2 ^ 31 + (regionOf a).code * 2 ^ 25 + 1)).clogStamp k
      let d3 := { d2 with memu := { d2.memu with clogOrder := k :: d2.memu.clogOrder.filter (· != k),
                                                 clogWritten := d2.memu.clogWritten.filter (· != k) } }
      match e with
      | .corrected _ => d3
      | .address => (d3.putB (MEM_CLOGk_INFO_UNCORR k) true).clogHard k a
      | _ => d3.putB (MEM_CLOGk_INFO_UNCORR k) true

/-- R428, R430, R443: what a read of the unit at `a` by `agent` found is counted, captured, reported and logged. -/
def Dev.eccSeen (a agent : Nat) (e : Ecc) (d : Dev) : Dev :=
  let base := if regionOf a = .dram then 3 else 0
  let info (unc adr : Bool) (bit : Nat) := 2 ^ 31 + b2n unc * 2 ^ 30 + b2n adr * 2 ^ 29 + (regionOf a).code * 2 ^ 26
    + agent % 16 * 2 ^ 22 + bit % 128 * 2 ^ 15
  let capture (w : Nat) (s : Dev) : Dev :=
    ((s.put MEM_ERR_ADDR_LO_V a).put MEM_ERR_ADDR_HI_V (a / 2 ^ 32)).setWord MEM_ERR_INFO w
  match e with
  | .clean => d
  | .link => if regionOf a = .dram then d.inc (MEM_CHc_LINK_COUNT_V (channelOf a)) else d
  | .corrected b =>
    let d1 := d.inc (MEM_COUNTk_V base)
    let d2 := if regionOf a = .dram then d1.inc (MEM_CHc_ECC_COUNT_V (channelOf a)) else d1
    (capture (info false false b) d2).clogLog a e
  | .uncorrectable => ((capture (info true false 0) (d.inc (MEM_COUNTk_V (base + 1)))).memEvt 0).clogLog a e
  | .address =>
    let d1 := (d.inc (MEM_COUNTk_V (base + 1))).inc (MEM_COUNTk_V (base + 2))
    (((capture (info true true 0) d1).memEvt 0).memEvt 1).clogLog a e

/-- Does an outcome leave the data uncorrectable? -/
def Ecc.bad : Ecc → Bool
  | .uncorrectable => true
  | .address => true
  | _ => false

/-- The outcome of reading the unit at `u`: what the command brings, but a poisoned unit stays uncorrectable. -/
def Dev.eccOf (d : Dev) (u : Nat) (errs : List (Nat × Ecc)) : Ecc :=
  let e := (cellFind errs u).getD .clean
  if d.memu.poison.contains u && !e.bad then .uncorrectable else e

/-- Reads the units of a list: counts and logs, remembers those that read uncorrectable; true if one did. -/
def Dev.readUnits (agent : Nat) (errs : List (Nat × Ecc)) : List Nat → Dev → Bool × Dev
  | [], d => (false, d)
  | u :: r, d =>
    let e := d.eccOf u errs
    let d1 := d.eccSeen u agent e
    let d2 := if e.bad && !d1.memu.poison.contains u then { d1 with memu := { d1.memu with poison := u :: d1.memu.poison } } else d1
    let (b, d3) := Dev.readUnits agent errs r d2
    (e.bad || b, d3)

/-- R429: writes bytes into the unit at `u`; a part write of an uncorrectable unit is dropped. -/
def Dev.writeUnit (agent a : Nat) (bytes : List Byte) (errs : List (Nat × Ecc)) (u : Nat) (d : Dev) : Dev :=
  let lo := max a u
  let hi := min (a + bytes.length) (u + unitSize u)
  let part := (bytes.drop (lo - a)).take (hi - lo)
  if hi - lo = unitSize u then (d.unitWritten u).store lo part
  else
    let (bad, d1) := Dev.readUnits agent errs [u] d
    if bad then d1.inc (MEM_COUNTk_V 6) else (d1.unitWritten u).store lo part

/-- R429: writes scattered bytes, all in the unit at `u`, in order. -/
def Dev.putUnit (agent : Nat) (cells : List (Nat × Byte)) (u : Nat) (d : Dev) : Dev :=
  let mine := cells.filter (fun c => unitOf c.1 == u)
  let put (s : Dev) : Dev := mine.foldl (fun t c => t.store c.1 [c.2]) (s.unitWritten u)
  if allBelow (unitSize u) (fun k => mine.any (fun c => c.1 == u + k)) then put d
  else
    let (bad, d1) := Dev.readUnits agent [] [u] d
    if bad then d1.inc (MEM_COUNTk_V 6) else put d1

/-- Writes bytes from `a` up, unit by unit. -/
def Dev.writeUnits (agent a : Nat) (bytes : List Byte) (errs : List (Nat × Ecc)) (d : Dev) : Dev :=
  foldS (unitsOf a bytes.length) (Dev.writeUnit agent a bytes errs) d

/-! ### Scratch banks (R432 to R436) -/

/-- May `agent` write bank `n` (R435, R436)? -/
def Dev.mayWrite (d : Dev) (n agent : Nat) : Bool :=
  d.get (SBn_OWNER_OWNER n) == agent || (agent == 0 && d.flag (SBn_OWNER_MAILBOX n))

/-- May `agent` read bank `n` (R435)? -/
def Dev.mayRead (d : Dev) (n agent : Nat) : Bool := d.mayWrite n agent || d.flag (SBn_OWNER_SHARE_READ n)

/-- R435: a non-owner access of bank `n` at device address `a`. -/
def Dev.violation (n a : Nat) (d : Dev) : Dev :=
  (((d.putB (SBn_STATUS_VIOL n) true).put (SBn_VIOL_ADDR_V n) (a % 0x80000)).inc (SBn_VIOL_COUNT_V n)).memEvt 8

/-- Does a raster or MIP head have commit points (R434)? -/
def Dev.hasCommitPoints (d : Dev) (h : Nat) : Bool :=
  if d.isMip h then
    (d.headState h == 1 || d.headState h == 2) && d.get (PANELh_STATUS_STATE h) == 2
      && anyBelow 4 (fun c => d.flag (COMc_STATUS_RUNNING c) && d.get (COMc_CTRL_HEAD c) == h)
  else d.isRaster h && d.headState h != 0

/-- The head whose commit point a pending handover of bank `n` awaits (R12). -/
def Dev.handoverHead (d : Dev) (n : Nat) : Option Nat :=
  let o := d.get (SBn_OWNER_OWNER n)
  let i := d.get (SBn_OWNER_NEXT n)
  if 8 ≤ o then some (o - 8) else if 8 ≤ i then some (i - 8) else none

/-- R284: a handover of bank `n` invalidates the stall copies that it holds. -/
def Dev.stallBankGone (n : Nat) (d : Dev) : Dev :=
  foldS (List.range 8) (fun h s =>
    let f := s.get (HDn_STALL_CTRL_BANK_FIRST h)
    if f ≤ n ∧ n < f + s.get (HDn_STALL_CTRL_BANK_COUNT h) then s.putB (HDn_STALL_STATUS_VALID h) false else s) d

/-- R441: ends a MARCH-P run. -/
def Dev.marchEnd (d : Dev) : Dev :=
  let n := d.get MEM_MARCH_STATUS_BANK
  let d1 := ((d.putB MEM_MARCH_STATUS_BUSY false).putB MEM_MARCH_STATUS_REQUESTED false).putB MEM_STATUS_MARCH_BUSY false
  { d1.putB (SBn_STATUS_MARCH n) false with memu := { d1.memu with marchPhase := 0 } }

/-- R402: a handover of the ring's bank stops the ring. -/
def Dev.ringBankGone (n : Nat) (d : Dev) : Dev :=
  if d.flag EVT_CTRL_ENABLE && d.get EVT_CTRL_BANK == n then
    (d.putB EVT_CTRL_ENABLE false).putB EVT_STATUS_BANK_LOST true
  else d

/-- R433, R434: the pending handover of bank `n` takes effect. -/
def Dev.handover (n : Nat) (d : Dev) : Dev :=
  if !d.flag (SBn_OWNER_PENDING n) then d
  else
    let q := nth {} d.memu.reqs n
    let d0 := if d.memu.marchPhase ≠ 0 ∧ d.get MEM_MARCH_STATUS_BANK = n then d.marchEnd else d
    let d1 := (d0.put (SBn_OWNER_OWNER n) (d0.get (SBn_OWNER_NEXT n))).put (SBn_OWNER_NEXT n) 0
    let d2 := ((d1.putB (SBn_OWNER_PENDING n) false).putB (SBn_OWNER_SHARE_READ n) q.share).putB (SBn_OWNER_LENDABLE n) q.lend
    let d3 := d2.putB (SBn_OWNER_MAILBOX n) q.mail
    let d4 := d3.put (SBn_STATUS_STATE n) (if d3.get (SBn_STATUS_STATE n) = 3 then 3 else if q.wipe then 2 else 0)
    (d4.ringBankGone n).stallBankGone n

/-- A handover request of bank `n` is accepted (R433, R434). -/
def Dev.handoverRequest (n owner : Nat) (q : BankReq) (d : Dev) : Dev :=
  let d1 := (d.putB (SBn_OWNER_PENDING n) true).put (SBn_OWNER_NEXT n) owner
  let d2 := d1.put (SBn_STATUS_STATE n) (if d1.get (SBn_STATUS_STATE n) = 3 then 3 else 1)
  { d2 with memu := { d2.memu with reqs := updAt d2.memu.reqs n (fun _ => q) } }

/-- R433: may the host write `v` into SBn_OWNER? -/
def sbOwnerOk (n v : Nat) (d : Dev) : Bool :=
  let owner := bitsOf v 0 4
  let present := d.get (SBn_OWNER_OWNER n)
  !d.flag (SBn_OWNER_PENDING n) && d.get (SBn_STATUS_STATE n) != 2
    && !(decide (8 ≤ owner) && !d.headPresent (owner - 8)) && !(bitOf v 26 && owner == 0)
    && (if owner = present then
          !(bitOf v 26 != d.flag (SBn_OWNER_MAILBOX n) && bitOf v 28 == d.flag (SBn_OWNER_SHARE_READ n)
            && bitOf v 27 == d.flag (SBn_OWNER_LENDABLE n))
        else present == 0 || bitOf v 31)

/-- SB_HANDOVER_REQUEST: a host write of SBn_OWNER. -/
def sbOwnerWrite (n v : Nat) (d : Dev) : Dev :=
  if d.judged || (d.writeOk (SBn_OWNER n) v && sbOwnerOk n v d) then
    let owner := bitsOf v 0 4
    if owner = d.get (SBn_OWNER_OWNER n) then
      (d.putB (SBn_OWNER_SHARE_READ n) (bitOf v 28)).putB (SBn_OWNER_LENDABLE n) (bitOf v 27)
    else d.handoverRequest n owner { wipe := bitOf v 30, share := bitOf v 28, lend := bitOf v 27, mail := bitOf v 26 }
  else d.reject (SBn_OWNER n)

/-- BANK_HANDOVER: the instant of a handover that no head's commit point holds back (R12, R434). -/
def bankHandover (n : Nat) (d : Dev) : Dev :=
  match d.handoverHead n with
  | some h => if d.hasCommitPoints h then d else d.handover n
  | none => d.handover n

/-- R434: a per-head reset withdraws the requests that name the head. -/
def Dev.withdrawHandovers (h : Nat) (d : Dev) : Dev :=
  foldS (List.range 16) (fun n s =>
    if s.flag (SBn_OWNER_PENDING n) && (s.get (SBn_OWNER_OWNER n) == 8 + h || s.get (SBn_OWNER_NEXT n) == 8 + h) then
      ((s.putB (SBn_OWNER_PENDING n) false).put (SBn_OWNER_NEXT n) 0).put (SBn_STATUS_STATE n)
        (if s.get (SBn_STATUS_STATE n) = 3 then 3 else 0)
    else s) d

/-! ### Host accesses to memory (R395, R430, R435, R444) -/

/-- The granule of a DRAM address (R444). -/
def granuleOf (a : Nat) : Nat := a / 65536

/-- Is the init bit of granule `g` set? -/
def Dev.granuleSet (d : Dev) (g : Nat) : Bool := d.memu.allFilled || d.memu.granules.contains g

/-- Inserts into a rising list. -/
def insertNat : List Nat → Nat → List Nat
  | [], a => [a]
  | x :: r, a => if a < x then a :: x :: r else if a = x then x :: r else x :: insertNat r a

/-- Sets the init bit of granule `g`: MEM_INIT_STATUS counts the bits still clear. -/
def Dev.setGranule (g : Nat) (d : Dev) : Dev :=
  if d.granuleSet g then d
  else
    let d1 := { d with memu := { d.memu with granules := insertNat d.memu.granules g } }
    d1.put MEM_INIT_STATUS_V (122880 - d1.memu.granules.length)

/-- The granules of DRAM that an access touches and whose bit is clear. -/
def Dev.clearGranules (d : Dev) (a n : Nat) : List Nat :=
  if n = 0 ∨ regionOf a ≠ .dram then []
  else ((List.range (granuleOf (a + n - 1) - granuleOf a + 1)).map (· + granuleOf a)).filter (fun g => !d.granuleSet g)

/-- Is granule `g` being filled for an access that waits? -/
def Dev.filling (d : Dev) (g : Nat) : Bool := d.memu.waits.any (fun w => w.key == g)

/-- The parts of an access that lie in one 512 KiB block each, ascending: every bank and every region is a number of blocks. -/
def pieces (a n : Nat) : List (Nat × Nat) :=
  (List.range ((a + n - 1) / 0x80000 - a / 0x80000 + 1)).map (fun k =>
    let lo := max a ((a / 0x80000 + k) * 0x80000)
    (lo, min (a + n) ((a / 0x80000 + k + 1) * 0x80000) - lo))

/-- R436: the words that port A and the host write in one cycle, in a mailbox bank. -/
def Dev.collide (a n : Nat) (portA : List (Nat × Byte)) (d : Dev) : Dev :=
  let b := bankOf a
  ((unitsOf a n).filter (fun u => portA.any (fun p => unitOf p.1 == u))).foldl (fun s u =>
    (((s.putB (SBn_STATUS_COLLIDE b) true).put (SBn_COLLIDE_ADDR_V b) (u % 0x80000)).inc (SBn_COLLIDE_COUNT_V b)).memEvt 7) d

/-- Port A's bytes of bank `b` are stored first (R436). -/
def Dev.storePortA (b : Nat) (portA : List (Nat × Byte)) (d : Dev) : Dev :=
  let mine := portA.filter (fun p => regionOf p.1 == .scratch && bankOf p.1 == b)
  if d.get (SBn_OWNER_OWNER b) = 0 then d
  else foldS (mine.map (fun p => unitOf p.1)).eraseDups (Dev.putUnit (d.get (SBn_OWNER_OWNER b)) mine) d

/-- The byte that memory holds at `a`; 0 in a granule whose bit is clear (R444). -/
def Dev.memByte (d : Dev) (a : Nat) : Byte := if regionOf a = .dram ∧ d.granuleSet (granuleOf a) = false then 0 else d.byteAt a

/-- `n` bytes of memory from `a` up. -/
def Dev.memBytes (d : Dev) (a n : Nat) : List Byte := (List.range n).map (fun k => d.memByte (a + k))

/-- The byte that a stage or fetch unit of the data plane reads: 0 from a unit that reads uncorrectable (R430), and of an unassigned
region (R427), where nothing is stored. -/
def Dev.dpByte (d : Dev) (a : Nat) : Byte := if d.memu.poison.contains (unitOf a) then 0 else d.memByte a

/-- `n` such bytes, and their little-endian number. -/
def Dev.dpBytes (d : Dev) (a n : Nat) : List Byte := (List.range n).map (fun k => d.dpByte (a + k))
def Dev.dpNum (d : Dev) (a n : Nat) : Nat := ofLE (d.dpBytes a n)

/-- A host read of `n` bytes of one block at `a` (R395, R430, R435, R439, R441, R444): the key that it must wait for, or whether it is
poisoned and its bytes. Bytes that port A writes in the same cycle are stored after it (R432). -/
def Dev.hostFetch (a n : Nat) (x : HostReads) (d : Dev) : Except Nat (Bool × List Byte) × Dev :=
  match regionOf a with
  | .scratch =>
    let b := bankOf a
    if d.get (SBn_STATUS_STATE b) = 3 then (.ok (false, List.replicate n 0), d)
    else if d.get (SBn_STATUS_STATE b) = 2 then (.error (wipeKey b), d)
    else
      let d1 := d.marchYield b
      if d1.mayRead b 0 then
        let (bad, d2) := Dev.readUnits 0 x.errs (unitsOf a n) d1
        (.ok (bad, d2.bytesAt a n), d2.storePortA b x.portA)
      else (.ok (false, List.replicate n 0), (d1.violation b a).storePortA b x.portA)
  | .dram =>
    match (d.clearGranules a n).find? d.filling with
    | some g => (.error g, d)
    | none =>
      let (bad, d1) := Dev.readUnits 0 x.errs ((unitsOf a n).filter (fun u => d.granuleSet (granuleOf u))) d
      (.ok (bad, d1.memBytes a n), d1)
  | .ledger | .lineMem =>
    let (bad, d1) := Dev.readUnits 0 x.errs (unitsOf a n) d
    (.ok (bad, d1.bytesAt a n), d1)
  | _ => (.ok (false, List.replicate n 0xFF), d)

/-- Such a read through BAR2: answered by a completion, or waiting; an unassigned address counts (R395). -/
def Dev.hostReadPiece (a n : Nat) (x : HostReads) (d : Dev) : Dev :=
  let d0 := if regionOf a = .unassigned ∨ regionOf a = .seqMem then d.inc (HOST_ERR_COUNTk_V 8) else d
  match d0.hostFetch a n x with
  | (.ok (bad, l), s) => s.send (.completion bad (l.map (·.toNat)))
  | (.error key, s) => s.wait { key := key, addr := a, len := n, bytes := [], portA := x.portA }

/-- A host read of memory, block by block. -/
def Dev.hostRead (a n : Nat) (x : HostReads) (d : Dev) : Dev :=
  (pieces a n).foldl (fun s p => s.hostReadPiece p.1 p.2 x) d

/-- A host write of one block at `a`; `portA` holds the bytes that the owner writes on port A in the same cycle. -/
def Dev.hostWritePiece (a : Nat) (bytes : List Byte) (errs : List (Nat × Ecc)) (portA : List (Nat × Byte)) (d : Dev) : Dev :=
  match regionOf a with
  | .scratch =>
    let b := bankOf a
    if d.get (SBn_STATUS_STATE b) = 3 then d
    else if d.get (SBn_STATUS_STATE b) = 2 then
      d.wait { key := wipeKey b, addr := a, len := bytes.length, bytes := bytes, portA := portA }
    else
      let d1 := d.marchYield b
      if d1.mayWrite b 0 then
        if d1.flag (SBn_OWNER_MAILBOX b) then
          Dev.writeUnits 0 a bytes errs ((d1.collide a bytes.length portA).storePortA b portA)
        else d1.writeUnits 0 a bytes errs
      else d1.violation b a
  | .dram =>
    match d.clearGranules a bytes.length with
    | g :: _ => d.wait { key := g, addr := a, len := bytes.length, bytes := bytes }
    | [] => d.writeUnits 0 a bytes errs
  | .ledger => d.inc MIP_LEDGER_DROP_COUNT_V
  | .lineMem => d.writeUnits 0 a bytes errs
  | _ => d.inc (HOST_ERR_COUNTk_V 8)

/-- A host write of memory, block by block. -/
def Dev.hostWriteMem (a : Nat) (bytes : List Byte) (errs : List (Nat × Ecc)) (portA : List (Nat × Byte)) (d : Dev) : Dev :=
  (pieces a bytes.length).foldl (fun s p => s.hostWritePiece p.1 ((bytes.drop (p.1 - a)).take p.2) errs portA) d

/-- One block's part of a write by `agent`: a bank that it may not write drops it and counts (R435), a FAILED bank drops it (R439), an
unassigned address drops it (R427). -/
def Dev.agentPiece (agent a : Nat) (bytes : List Byte) (d : Dev) : Dev :=
  let b := bankOf a
  match regionOf a with
  | .scratch =>
    if d.get (SBn_STATUS_STATE b) = 3 then d
    else if d.mayWrite b agent then (d.marchYield b).writeUnits agent a bytes []
    else (d.marchYield b).violation b a
  | .teamView | .ownRegs | .unassigned => d
  | _ => d.writeUnits agent a bytes []

/-- An access that waited proceeds. -/
def Dev.waited (w : WaitingAccess) (d : Dev) : Dev :=
  if w.agent ≠ 0 then d.agentPiece w.agent w.addr w.bytes
  else if w.bytes = [] then d.hostRead w.addr w.len { portA := w.portA }
  else d.hostWriteMem w.addr w.bytes [] w.portA

/-- The accesses that waited on `key` proceed, in order (R434, R444). -/
def Dev.proceed (key : Nat) (d : Dev) : Dev :=
  (d.memu.waits.filter (fun w => w.key == key)).foldl (fun s w => s.waited w)
    { d with memu := { d.memu with waits := d.memu.waits.filter (fun w => w.key != key) } }

/-- The correction log's entries of units from `a` up to `a + n`. -/
def Dev.clogIn (d : Dev) (a n : Nat) : List Nat :=
  filterRange 64 (fun k => d.flag (MEM_CLOGk_INFO_VALID k) && d.get (MEM_CLOGk_INFO_REGION k) == (regionOf a).code
    && decide (unitIndex a ≤ d.get (MEM_CLOGk_ADDR_V k) ∧ d.get (MEM_CLOGk_ADDR_V k) < unitIndex a + n / unitSize a))

/-- Every byte from `a` up to `a + n` is written with 0 and valid check bits. -/
def Dev.clearMem (a n : Nat) (d : Dev) : Dev :=
  let hit := d.clogIn a n
  { d with mem := d.mem.filter (fun c => !(decide (a ≤ c.1 ∧ c.1 < a + n))),
           memu := { d.memu with poison := d.memu.poison.filter (fun u => !(decide (a ≤ u ∧ u < a + n))),
                                 clogWritten := hit ++ d.memu.clogWritten.filter (fun k => !hit.contains k) } }

/-- Bank `n` is zero and OWNED (R434). -/
def Dev.wipeOver (n : Nat) (d : Dev) : Dev :=
  (((d.clearMem (0x4000000000 + n * 0x80000) 0x80000).put (SBn_STATUS_STATE n) 0).inc (MEM_COUNTk_V 8)).memEvt 10

/-- The rows of bank `n` that failed a wipe's verification are hard faults (R434, R448). -/
def Dev.wipeFails (n : Nat) (failRows : List Nat) (d : Dev) : Dev :=
  foldS failRows (fun r s => s.hardFault (0x4000000000 + n * 0x80000 + r % 512 * 1024)) d

/-- BANK_WIPE_DONE (R434). Where the wipe has already ended for an agent's access, the failing rows alone are left to report. -/
def bankWipeDone (n : Nat) (failRows : List Nat) (d : Dev) : Dev :=
  if d.memu.wiped.contains n then
    Dev.wipeFails n failRows { d with memu := { d.memu with wiped := d.memu.wiped.filter (· != n) } }
  else if d.get (SBn_STATUS_STATE n) = 2 then ((d.wipeOver n).wipeFails n failRows).proceed (wipeKey n)
  else d

/-- An access by an agent of the device waits for the wipe of bank `n` (R434): the wipe ends first; its BANK_WIPE_DONE still reports the
rows that failed (assumption 93). -/
def Dev.wipeEnd (n : Nat) (d : Dev) : Dev :=
  if d.get (SBn_STATUS_STATE n) = 2 then
    let d1 := (d.wipeOver n).proceed (wipeKey n)
    { d1 with memu := { d1.memu with wiped := d1.memu.wiped.filter (· != n) ++ [n] } }
  else d

/-- INIT_MAP_FILL_DONE (R444). -/
def initMapFillDone (g : Nat) (d : Dev) : Dev :=
  if d.granuleSet g || !d.filling g then d
  else Dev.proceed g ((d.setGranule g).inc (MEM_COUNTk_V 14))

/-- BACKGROUND_FILL_COMPLETE (R445): every bit is set. -/
def backgroundFillComplete (d : Dev) : Dev :=
  if d.flag MEM_STATUS_INIT_DONE || d.mode == 0 then d
  else
    let keys := (d.memu.waits.map (·.key)).filter (fun k => decide (k < 2 ^ 20))
    let d1 := { d with memu := { d.memu with allFilled := true } }
    foldS keys Dev.proceed (((d1.put MEM_INIT_STATUS_V 0).putB MEM_STATUS_INIT_DONE true).memEvt 5)

/-! ### Memory as the agents of the device reach it (R399, R419, R427, R435, R444) -/

/-- The scratch banks that `n` bytes from `a` up touch. -/
def banksOf (a n : Nat) : List Nat :=
  if regionOf a = .scratch ∧ 0 < n then
    (List.range (bankOf (a + n - 1) - bankOf a + 1)).map (fun k => bankOf a + k)
  else []

/-- Do `n` bytes from `a` up lie in one region, and is it one of DRAM, scratchpad and line/LUT memory? -/
def agentRange (a n : Nat) : Bool :=
  match regionOf a with
  | .dram => regionOf (a + n - 1) == .dram
  | .scratch => regionOf (a + n - 1) == .scratch
  | .lineMem => regionOf (a + n - 1) == .lineMem
  | _ => false

/-- An agent's access waits for the wipes of its banks and for the fills that others' accesses have begun (R434, R444). -/
def Dev.waitsFor (a n : Nat) (d : Dev) : Dev :=
  let d1 := foldS (banksOf a n) Dev.wipeEnd d
  foldS ((d1.clearGranules a n).filter d1.filling) initMapFillDone d1

/-- Does address `x` give `agent` its stored byte: an assigned one (R427), not in a FAILED bank, nor in one that it may not read (R435)? -/
def Dev.readsAt (d : Dev) (agent x : Nat) : Bool :=
  match regionOf x with
  | .scratch => d.get (SBn_STATUS_STATE (bankOf x)) != 3 && d.mayRead (bankOf x) agent
  | .teamView | .ownRegs | .unassigned => false
  | _ => true

/-- The units that a read by `agent` checks: those that it may read, in initialised granules (R435, R444). -/
def Dev.checkedUnits (d : Dev) (agent a n : Nat) : List Nat :=
  (unitsOf a n).filter (fun u => d.readsAt agent u && !(regionOf u == .dram && !d.granuleSet (granuleOf u)))

/-- Agent `agent` reads `n` bytes from `a` up: did a unit read uncorrectable, the bytes, the block. A bank that it may not read
gives 0 and is counted (R435). -/
def Dev.agentRead (agent a n : Nat) (errs : List (Nat × Ecc)) (d : Dev) : Bool × List Byte × Dev :=
  let d0 := d.waitsFor a n
  let banks := (banksOf a n).filter (fun b => d0.get (SBn_STATUS_STATE b) != 3)
  let d1 := foldS banks Dev.marchYield d0
  let d2 := foldS (banks.filter (fun b => !d0.mayRead b agent)) (fun b s => s.violation b (max a (0x4000000000 + b * 0x80000))) d1
  let (bad, d3) := Dev.readUnits agent errs (d0.checkedUnits agent a n) d2
  (bad, (List.range n).map (fun k => if d0.readsAt agent (a + k) then d3.memByte (a + k) else 0), d3)

/-- Agent `agent` writes bytes from `a` up; the granules that it is the first to write are filled (R444). -/
def Dev.agentWrite (agent a : Nat) (bytes : List Byte) (d : Dev) : Dev :=
  let d1 := d.waitsFor a bytes.length
  let d2 := foldS (d1.clearGranules a bytes.length) (fun g s => (s.setGranule g).inc (MEM_COUNTk_V 14)) d1
  (pieces a bytes.length).foldl (fun s p => s.agentPiece agent p.1 ((bytes.drop (p.1 - a)).take p.2)) d2

/-! ### Atomics (R437, R438) -/

/-- The address that MEM_ATOM_ADDR names. -/
def Dev.atomAddr (d : Dev) : Nat := d.get MEM_ATOM_ADDR_LO_V + d.get MEM_ATOM_ADDR_HI_V * 2 ^ 32

/-- R438: a write of MEM_ATOM_OP needs an aligned word of the scratchpad. -/
def atomOk (op : Nat) (d : Dev) : Bool :=
  regionOf d.atomAddr == .scratch && d.atomAddr % (if op % 2 = 0 then 4 else 8) == 0

/-- The value returned by an atomic. -/
def Dev.atomOld (v : Nat) (d : Dev) : Dev := (d.put MEM_ATOM_OLD_LO_V v).put MEM_ATOM_OLD_HI_V (v / 2 ^ 32)

/-- An atomic of `agent` inside the bank, at `a` with operand `x`: 0 ADD32, 1 ADD64, 2 SWAP32, 3 SWAP64. The value before it; not
performed on an uncorrectable word (R437). -/
def Dev.atom (agent op a x : Nat) (ecc : Ecc) (d : Dev) : Nat × Dev :=
  let n := if op % 2 = 0 then 4 else 8
  let (bad, s) := Dev.readUnits agent [(unitOf a, ecc)] [unitOf a] d
  if bad then (0, s)
  else
    let old := s.loadN a n
    let new := if op < 2 then (old + x) % 2 ^ (8 * n) else x % 2 ^ (8 * n)
    (old, ((s.unitWritten (unitOf a)).storeN a n new).inc (MEM_COUNTk_V 9))

/-- A write of MEM_ATOM_OP: 0 ADD32, 1 ADD64, 2 SWAP32, 3 SWAP64. Of what port A does to the word in the same cycle, an atomic comes
before and a plain write after (R437). -/
def atomWrite (op : Nat) (x : AtomMeets) (d : Dev) : Dev :=
  d.writeVia MEM_ATOM_OP op (atomOk op) (fun s =>
    let a := s.atomAddr
    let b := bankOf a
    if s.get (SBn_STATUS_STATE b) = 3 then s.atomOld 0
    else
      let s1 := (s.wipeEnd b).marchYield b
      let owner := s1.get (SBn_OWNER_OWNER b)
      let s2 := match x.atom with
        | some p => if owner = 0 then s1
          else (s1.atom owner p.op (if p.op.val % 2 = 0 then a else unitOf a) p.data.toNat x.ecc).2
        | none => s1
      let s3 := if !s2.mayWrite b 0 then (s2.violation b a).atomOld 0
        else
          let (old, t) := s2.atom 0 op a (s2.get MEM_ATOM_DATA_LO_V + s2.get MEM_ATOM_DATA_HI_V * 2 ^ 32) x.ecc
          t.atomOld old
      s3.storePortA b x.portA)

/-! ### MARCH-P (R440, R441) -/

/-- A row of a bank goes under test. -/
def Dev.marchStart (bank row : Nat) (requested : Bool) (d : Dev) : Dev :=
  let d1 := ((d.putB MEM_MARCH_STATUS_BUSY true).putB MEM_MARCH_STATUS_REQUESTED requested).put MEM_MARCH_STATUS_BANK bank
  let d2 := ((d1.put MEM_MARCH_STATUS_ROW row).putB MEM_STATUS_MARCH_BUSY true).putB (SBn_STATUS_MARCH bank) true
  { d2 with memu := { d2.memu with marchPhase := 1 } }

/-- A GO write while a run is in progress is out-of-range (R440). -/
def marchCtrlOk (v : Nat) (d : Dev) : Bool := !(bitOf v 31 && d.memu.marchPhase != 0)

/-- A write of MEM_MARCH_CTRL: ABORT ends the run, GO starts one over every row of BANK. -/
def marchCtrlWrite (v : Nat) (d : Dev) : Dev :=
  d.writeVia MEM_MARCH_CTRL v (marchCtrlOk v) (fun s =>
    let s1 := if bitOf v 30 && s.memu.marchPhase != 0 then s.marchEnd else s
    if bitOf v 31 then s1.marchStart (bitsOf v 0 4) 0 true else s1)

/-- May background MARCH-P take bank `n`? -/
def Dev.lendable (d : Dev) (n : Nat) : Bool :=
  d.flag (SBn_OWNER_LENDABLE n) && d.get (SBn_STATUS_STATE n) != 2 && d.get (SBn_STATUS_STATE n) != 3

/-- MARCH_P_ROW_START: background MARCH-P takes the next row, banks and rows ascending (R440). -/
def marchRowStart (d : Dev) : Dev :=
  if d.flag MEM_MARCH_CTRL_BACKGROUND && d.memu.marchPhase == 0 && d.get POWER_SHED_STATUS_LEVEL == 0 then
    let p := d.memu.marchNext
    let here := if d.lendable (p / 512 % 16) then some p
      else ((List.range 16).map (fun k => (p / 512 + 1 + k) % 16)).find? d.lendable |>.map (· * 512)
    match here with
    | none => d
    | some q =>
      let d1 := { d with memu := { d.memu with marchNext := (q + 1) % 8192 } }
      d1.marchStart (q / 512) (q % 512) false
  else d

/-- MARCH_P_ROW_DONE: the row passes or fails and is restored; a requested run goes on to the next row (R440, R441). -/
def marchRowDone (fails : Bool) (d : Dev) : Dev :=
  if d.memu.marchPhase = 1 then
    let bank := d.get MEM_MARCH_STATUS_BANK
    let row := d.get MEM_MARCH_STATUS_ROW
    let a := 0x4000000000 + bank * 0x80000 + row * 1024
    let d1 := if fails then
        (((d.putB MEM_MARCH_STATUS_FAIL true).memEvt 4).put MEM_MARCH_FAIL_ADDR_V (a / 1024)).hardFault a
      else d.inc MEM_MARCH_ROWS_V
    if d1.flag MEM_MARCH_STATUS_REQUESTED && decide (row < 511) then d1.marchStart bank (row + 1) true else d1.marchEnd
  else d

/-- MARCH_P_RESUME: 10 µs without an access, the test saves the row afresh (R441). -/
def marchResume (d : Dev) : Dev :=
  if d.memu.marchPhase = 2 then { d with memu := { d.memu with marchPhase := 1 } } else d

/-! ### Groom, targeted writeback, expiry (R446 to R448) -/

/-- The address of SRAM word `i` in groom's order; sequencer memory comes last. -/
def sramAddr (i : Nat) : Nat :=
  if i < 1048576 then 0x4000000000 + 8 * i
  else if i < 2097152 then 0x4100000000 + 8 * (i - 1048576)
  else if i < 2621440 then 0x4200000000 + 8 * (i - 2097152)
  else seqBase + 8 * (i - 2621440)

/-- Does groom skip SRAM word `i`: its bank is WIPING, or its row is under test (R446)? -/
def Dev.groomSkips (d : Dev) (i : Nat) : Bool :=
  decide (i < 1048576) && (d.get (SBn_STATUS_STATE (i / 65536)) == 2
    || (d.memu.marchPhase != 0 && d.get MEM_MARCH_STATUS_BANK == i / 65536 && d.get MEM_MARCH_STATUS_ROW == i / 128 % 512))

/-- The next SRAM word that groom reads at or after `i`, passing skipped rows and banks. -/
def Dev.groomSeek (d : Dev) : Nat → Nat → Nat
  | 0, i => i
  | k + 1, i =>
    if d.groomSkips i then d.groomSeek k (if d.get (SBn_STATUS_STATE (i / 65536)) = 2 then (i / 65536 + 1) * 65536 else (i / 128 + 1) * 128)
    else i

/-- Moves the spare row that a released request of the row of `a` awaits (R449): in groom's visit to the row. -/
def Dev.rowRemap (a : Nat) (d : Dev) : Dev :=
  let inst := (regionOf a).code * 2 ^ 20 + (a - (regionOf a).base) / 1024
  match (d.farReleased 2).find? (fun q => q.inst == inst) with
  | none => d
  | some q =>
    let (f, n) := match regionOf a with
      | .scratch => (SBn_STATUS_SPARE_ROWS (bankOf a), 32)
      | .ledger => (MEM_SROW_LEDGER_V, 256)
      | .seqMem => (MEM_SROW_SEQ_V, 64)
      | _ => (MEM_SROW_LINEMEM_V, 128)
    if d.get f < n then ((d.inc f).farSubstituted q (d.get f))
    else
      let d1 := (d.memEvt 3).farExhausted q
      { d1 with memu := { d1.memu with seqLost := d1.memu.seqLost || regionOf a == .seqMem } }

/-- Groom reads the unit at `a`: a correction is written back, or given up where a write intervened (R446, R447). -/
def Dev.groomUnit (a : Nat) (ecc : Ecc) (intervened : Bool) (d : Dev) : Dev :=
  let s := (Dev.readUnits 7 [(a, ecc)] [a] d).2
  match d.eccOf a [(a, ecc)] with
  | .corrected _ => s.inc (MEM_COUNTk_V (if intervened then 11 else 10))
  | _ => s

/-- Groom's read of one SRAM word; `intervened` tells of a write between its read and its writeback (R447). -/
def groomSram (ecc : Ecc) (intervened : Bool) (d : Dev) : Dev :=
  let i := d.groomSeek 40 d.memu.sramPos
  let wrap := decide (2883584 ≤ i + 1)
  let d0 := { d with memu := { d.memu with sramPos := if wrap then 0 else i + 1 } }
  let d1 := (d0.groomUnit (sramAddr i) ecc intervened).rowRemap (sramAddr i)
  if wrap then d1.inc MEM_GROOM_SRAM_PASSES_V else d1

/-- The next DRAM codeword of an initialised granule at or after `i`, if any before the end. -/
def Dev.groomDramNext (d : Dev) (i : Nat) : Option Nat :=
  if d.memu.allFilled then (if i < 124780544 then some i else none)
  else if d.granuleSet (i / 1024) && decide (i < 124780544) then some i
  else (d.memu.granules.find? (fun g => decide (i / 1024 < g ∧ g < 121856))).map (· * 1024)

/-- Groom's read of one DRAM codeword; at the end of a pass it wraps. -/
def groomDram (ecc : Ecc) (intervened : Bool) (d : Dev) : Dev :=
  match d.groomDramNext d.memu.dramPos with
  | none => Dev.inc { d with memu := { d.memu with dramPos := 0 } } MEM_GROOM_DRAM_PASSES_V
  | some i =>
    let d0 := Dev.put { d with memu := { d.memu with dramPos := i + 1 } } MEM_GROOM_DRAM_POS_V (64 * i / 65536)
    d0.groomUnit (64 * i) ecc intervened

/-- GROOM_READ (R446, R447). -/
def groomRead (dram : Bool) (ecc : Ecc) (intervened : Bool) (d : Dev) : Dev :=
  if d.mode = 0 then d
  else if dram then (if d.flag MEM_GROOM_CTRL_DRAM_EN then groomDram ecc intervened (d.putB MEM_STATUS_GROOM_DRAM true) else d)
  else if d.flag MEM_GROOM_CTRL_SRAM_EN then groomSram ecc intervened (d.putB MEM_STATUS_GROOM_SRAM true) else d

/-- TARGETED_WRITEBACK of log entry `k`, once its COUNT has reached 16 (R448). -/
def targetedWriteback (k : Nat) (d : Dev) : Dev :=
  if d.flag (MEM_CLOGk_INFO_VALID k) && !d.flag (MEM_CLOGk_INFO_WRITTEN_BACK k) && decide (16 ≤ d.get (MEM_CLOGk_INFO_COUNT k)) then
    (d.putB (MEM_CLOGk_INFO_WRITTEN_BACK k) true).inc (MEM_COUNTk_V 12)
  else d

/-- CLOG_ENTRY_EXPIRE: an entry that is not HARD and has had no correction for 24 h is freed (R448). -/
def clogExpire (k : Nat) (d : Dev) : Dev :=
  if d.flag (MEM_CLOGk_INFO_VALID k) && !d.flag (MEM_CLOGk_INFO_HARD k) && decide (24 ≤ d.clogAge k) then
    let d1 := ((d.setWord (MEM_CLOGk_INFO k) 0).setWord (MEM_CLOGk_ADDR k) 0)
    let d2 := d1.put MEM_CLOG_USED_V (d1.get MEM_CLOG_USED_V - 1)
    { d2 with memu := { d2.memu with clogOrder := d2.memu.clogOrder.filter (· != k),
                                     clogWritten := d2.memu.clogWritten.filter (· != k) } }
  else d

/-! ### Spare pages and repair (R449) -/

/-- Fewer than 1,024 free spare pages (R451). -/
def Dev.spareLow (d : Dev) : Dev := d.putB MEM_STATUS_SPARE_LOW (decide (16384 - d.memu.sparePages.length < 1024))

/-- DRAM_PAGE_REMAP: the oldest released page moves to a spare page, sixteen to a granule of the spare pool,
and its own row awaits repair (R444, R449). -/
def dramPageRemap (d : Dev) : Dev :=
  match d.farReleased 3 with
  | [] => d
  | q :: _ =>
    if d.memu.sparePages.length < 16384 then
      let d1 := { d with memu := { d.memu with sparePages := q.inst :: d.memu.sparePages } }
      let d2 := (d1.put MEM_SPARE_LAST_V q.inst).put MEM_SPARE_STATUS_USED d1.memu.sparePages.length
      let g := 121856 + d.memu.sparePages.length / 16
      let d3 := if d2.granuleSet g then d2 else (d2.setGranule g).inc (MEM_COUNTk_V 14)
      (d3.spareLow.farSubstituted q d.memu.sparePages.length).rowRepair q.inst
    else (d.memEvt 3).farExhausted q

/-- Walk entry repairs at most four rows (R449); a repair that the device cannot make leaves the page on its spare. -/
def Dev.repairOne (d : Dev) (ok : Bool) : Dev :=
  match d.memu.pprQueue with
  | [] => d
  | p :: r =>
    let d1 := { d with memu := { d.memu with pprQueue := r } }
    let d2 := d1.put MEM_SPARE_STATUS_PPR_PENDING r.length
    if 64 ≤ d2.get (FAR_INVk_USED 4) then d2.farExhausted { cls := 4, trig := 3, inst := p % 2 ^ 21 }
    else if ok then
      let d3 := { d2 with memu := { d2.memu with sparePages := d2.memu.sparePages.filter (· != p) } }
      let q : FarRequest := { cls := 4, trig := 3, inst := p % 2 ^ 21 }
      let d4 := ((d3.put MEM_SPARE_STATUS_USED d3.memu.sparePages.length).inc MEM_PPR_COUNT_V).memEvt 9
      let d5 := (d4.spareLow.farFree 3 q.inst).inc (FAR_SUBk_V 4)
      (d5.farUse (d5.farEntry q p 5)).farLog q p 5
    else d2

/-- DRAM_REFRESH_DERATE: channel `c` crosses 85 °C; its refresh-rate code, and DERATED while any channel
is above (R442). -/
def dramRefreshDerate (c code : Nat) (hot : Bool) (d : Dev) : Dev :=
  let m := d.memu.hotChannels % 2 ^ c + (if hot then 2 ^ c else 0) + d.memu.hotChannels / 2 ^ (c + 1) * 2 ^ (c + 1)
  Dev.putB { d.put (MEM_CHc_TEMP_V c) code with memu := { d.memu with hotChannels := m } } MEM_DRAM_STATUS_DERATED (m != 0)

/-! ### The commands -/

/-- BANK_HANDOVER. -/
def execBankHandover (n : Fin 16) (s : State) := s.on (bankHandover n)
/-- BANK_WIPE_DONE. -/
def execBankWipeDone (n : Fin 16) (failRows : List Nat) (s : State) := s.on (bankWipeDone n failRows)
/-- MARCH_P_ROW_START. -/
def execMarchPRowStart (s : State) := s.on marchRowStart
/-- MARCH_P_ROW_DONE. -/
def execMarchPRowDone (fails : Bool) (s : State) := s.on (marchRowDone fails)
/-- MARCH_P_RESUME. -/
def execMarchPResume (s : State) := s.on marchResume
/-- INIT_MAP_FILL_DONE. -/
def execInitMapFillDone (g : Nat) (s : State) := s.on (initMapFillDone g)
/-- BACKGROUND_FILL_COMPLETE. -/
def execBackgroundFillComplete (s : State) := s.on backgroundFillComplete
/-- TARGETED_WRITEBACK. -/
def execTargetedWriteback (k : Fin 64) (s : State) := s.on (targetedWriteback k)
/-- CLOG_ENTRY_EXPIRE. -/
def execClogEntryExpire (k : Fin 64) (s : State) := s.on (clogExpire k)
/-- DRAM_PAGE_REMAP. -/
def execDramPageRemap (s : State) := s.on dramPageRemap
/-- DRAM_REFRESH_DERATE. -/
def execDramRefreshDerate (c : Fin 8) (code : Fin 32) (hot : Bool) (s : State) := s.on (dramRefreshDerate c code hot)

end Sys2Proof.Machine
end

