-- ==== Sys2Proof/Machine/ScaleCoef.lean ====
section
/-! DEFINITION. The built-in coefficients of SCALE (R188): for each ratio band the 64 phases of 8 taps, rounded and with the
remainder of the phase added, worked out from the formula of R188. -/
namespace Sys2Proof.Machine

/-- c = 1, phases 0 to 15. -/
def coefOne0 : List (List Int) := [
  [0,0,0,256,0,0,0,0], [0,1,-4,256,4,-1,0,0], [-1,2,-7,257,7,-3,1,0], [-1,4,-10,255,11,-4,1,0],
  [-1,5,-13,253,15,-5,2,0], [-2,6,-16,253,20,-7,2,0], [-2,7,-19,251,24,-8,3,0], [-2,8,-22,251,28,-10,3,0],
  [-3,9,-24,248,33,-11,4,0], [-3,10,-27,247,38,-13,4,0], [-3,10,-29,245,42,-14,5,0], [-3,11,-31,243,47,-16,5,0],
  [-3,12,-33,240,52,-17,6,-1], [-4,13,-35,239,57,-19,6,-1], [-4,13,-36,235,62,-20,7,-1], [-4,14,-38,232,67,-22,8,-1]]
/-- c = 1, phases 16 to 31. -/
def coefOne1 : List (List Int) := [
  [-4,14,-39,229,72,-23,8,-1], [-4,15,-40,224,78,-25,9,-1], [-4,15,-41,221,83,-26,9,-1], [-4,15,-42,218,88,-28,10,-1],
  [-4,16,-43,214,94,-29,10,-2], [-4,16,-44,211,99,-31,11,-2], [-4,16,-44,206,105,-32,11,-2], [-4,16,-44,201,110,-33,12,-2],
  [-4,16,-45,199,115,-35,12,-2], [-4,16,-45,193,121,-36,13,-2], [-4,16,-45,189,126,-37,13,-2], [-4,16,-45,184,132,-38,14,-3],
  [-4,16,-44,179,137,-39,14,-3], [-4,16,-44,174,143,-40,14,-3], [-3,16,-44,168,148,-41,15,-3], [-3,16,-43,163,153,-42,15,-3]]
/-- c = 1, phases 32 to 47. -/
def coefOne2 : List (List Int) := [
  [-3,15,-42,158,158,-42,15,-3], [-3,15,-42,153,163,-43,16,-3], [-3,15,-41,148,168,-44,16,-3], [-3,14,-40,143,174,-44,16,-4],
  [-3,14,-39,137,179,-44,16,-4], [-3,14,-38,132,184,-45,16,-4], [-2,13,-37,126,189,-45,16,-4], [-2,13,-36,121,193,-45,16,-4],
  [-2,12,-35,115,199,-45,16,-4], [-2,12,-33,110,201,-44,16,-4], [-2,11,-32,105,206,-44,16,-4], [-2,11,-31,99,211,-44,16,-4],
  [-2,10,-29,94,214,-43,16,-4], [-1,10,-28,88,218,-42,15,-4], [-1,9,-26,83,221,-41,15,-4], [-1,9,-25,78,224,-40,15,-4]]
/-- c = 1, phases 48 to 63. -/
def coefOne3 : List (List Int) := [
  [-1,8,-23,72,229,-39,14,-4], [-1,8,-22,67,232,-38,14,-4], [-1,7,-20,62,235,-36,13,-4], [-1,6,-19,57,239,-35,13,-4],
  [-1,6,-17,52,240,-33,12,-3], [0,5,-16,47,243,-31,11,-3], [0,5,-14,42,245,-29,10,-3], [0,4,-13,38,247,-27,10,-3],
  [0,4,-11,33,248,-24,9,-3], [0,3,-10,28,251,-22,8,-2], [0,3,-8,24,251,-19,7,-2], [0,2,-7,20,253,-16,6,-2],
  [0,2,-5,15,253,-13,5,-1], [0,1,-4,11,255,-10,4,-1], [0,1,-3,7,257,-7,2,-1], [0,0,-1,4,256,-4,1,0]]
/-- c = 1. -/
def coefOne : List (List Int) := coefOne0 ++ coefOne1 ++ coefOne2 ++ coefOne3

/-- c = 2/3, phases 0 to 15. -/
def coefTwoThirds0 : List (List Int) := [
  [0,-29,68,171,68,-29,0,7], [1,-30,65,172,70,-29,-1,8], [1,-30,63,171,73,-29,-1,8], [2,-30,60,171,75,-28,-2,8],
  [2,-30,58,171,77,-28,-2,8], [3,-30,55,171,80,-28,-3,8], [3,-30,53,170,82,-27,-4,9], [4,-30,51,169,84,-27,-4,9],
  [4,-30,48,169,87,-26,-5,9], [5,-30,46,168,89,-25,-6,9], [5,-30,44,168,91,-25,-6,9], [5,-29,41,167,94,-24,-7,9],
  [6,-29,39,164,96,-23,-7,10], [6,-29,37,165,98,-23,-8,10], [7,-29,35,163,101,-22,-9,10], [7,-29,32,163,103,-21,-9,10]]
/-- c = 2/3, phases 16 to 31. -/
def coefTwoThirds1 : List (List Int) := [
  [7,-28,30,162,105,-20,-10,10], [8,-28,28,160,108,-19,-11,10], [8,-28,26,159,110,-18,-11,10], [8,-27,24,158,112,-17,-12,10],
  [8,-27,22,157,114,-16,-13,11], [9,-26,20,155,116,-15,-14,11], [9,-26,18,154,118,-14,-14,11], [9,-25,16,153,120,-13,-15,11],
  [9,-25,14,151,123,-11,-16,11], [10,-25,12,149,125,-10,-16,11], [10,-24,10,148,127,-9,-17,11], [10,-23,8,145,129,-7,-17,11],
  [10,-23,7,144,131,-6,-18,11], [10,-22,5,143,133,-5,-19,11], [10,-22,3,142,134,-3,-19,11], [10,-21,2,140,136,-2,-20,11]]
/-- c = 2/3, phases 32 to 47. -/
def coefTwoThirds2 : List (List Int) := [
  [11,-21,0,138,138,0,-21,11], [11,-20,-2,136,140,2,-21,10], [11,-19,-3,134,142,3,-22,10], [11,-19,-5,133,143,5,-22,10],
  [11,-18,-6,131,144,7,-23,10], [11,-17,-7,129,145,8,-23,10], [11,-17,-9,127,148,10,-24,10], [11,-16,-10,125,149,12,-25,10],
  [11,-16,-11,123,151,14,-25,9], [11,-15,-13,120,153,16,-25,9], [11,-14,-14,118,154,18,-26,9], [11,-14,-15,116,155,20,-26,9],
  [11,-13,-16,114,157,22,-27,8], [10,-12,-17,112,158,24,-27,8], [10,-11,-18,110,159,26,-28,8], [10,-11,-19,108,160,28,-28,8]]
/-- c = 2/3, phases 48 to 63. -/
def coefTwoThirds3 : List (List Int) := [
  [10,-10,-20,105,162,30,-28,7], [10,-9,-21,103,163,32,-29,7], [10,-9,-22,101,163,35,-29,7], [10,-8,-23,98,165,37,-29,6],
  [10,-7,-23,96,164,39,-29,6], [9,-7,-24,94,167,41,-29,5], [9,-6,-25,91,168,44,-30,5], [9,-6,-25,89,168,46,-30,5],
  [9,-5,-26,87,169,48,-30,4], [9,-4,-27,84,169,51,-30,4], [9,-4,-27,82,170,53,-30,3], [8,-3,-28,80,171,55,-30,3],
  [8,-2,-28,77,171,58,-30,2], [8,-2,-28,75,171,60,-30,2], [8,-1,-29,73,171,63,-30,1], [8,-1,-29,70,172,65,-30,1]]
/-- c = 2/3. -/
def coefTwoThirds : List (List Int) := coefTwoThirds0 ++ coefTwoThirds1 ++ coefTwoThirds2 ++ coefTwoThirds3

/-- c = 1/2, phases 0 to 15. -/
def coefHalf0 : List (List Int) := [
  [-22,0,83,134,83,0,-22,0], [-22,-1,82,134,85,1,-23,0], [-22,-2,81,135,86,2,-23,-1], [-22,-3,79,135,88,3,-23,-1],
  [-22,-4,78,135,89,4,-23,-1], [-21,-5,77,134,91,5,-23,-2], [-21,-5,75,134,92,6,-23,-2], [-21,-6,74,134,93,7,-23,-2],
  [-21,-7,73,135,95,8,-24,-3], [-21,-8,71,136,96,9,-24,-3], [-20,-9,70,135,98,10,-24,-4], [-20,-9,69,133,99,12,-24,-4],
  [-20,-10,67,134,100,13,-24,-4], [-19,-11,66,133,102,14,-24,-5], [-19,-12,64,134,103,15,-24,-5], [-19,-12,63,134,104,16,-24,-6]]
/-- c = 1/2, phases 16 to 31. -/
def coefHalf1 : List (List Int) := [
  [-19,-13,62,133,105,18,-24,-6], [-18,-14,60,132,107,19,-24,-6], [-18,-14,59,132,108,20,-24,-7], [-18,-15,57,133,109,21,-24,-7],
  [-17,-15,56,131,110,23,-24,-8], [-17,-16,54,131,111,24,-23,-8], [-16,-17,53,129,113,25,-23,-8], [-16,-17,52,129,114,26,-23,-9],
  [-16,-18,50,129,115,28,-23,-9], [-15,-18,49,128,116,29,-23,-10], [-15,-19,47,128,117,31,-23,-10], [-15,-19,46,127,118,32,-22,-11],
  [-14,-19,44,126,119,33,-22,-11], [-14,-20,43,125,120,35,-22,-11], [-13,-20,42,124,121,36,-22,-12], [-13,-21,40,124,122,37,-21,-12]]
/-- c = 1/2, phases 32 to 47. -/
def coefHalf2 : List (List Int) := [
  [-13,-21,39,123,123,39,-21,-13], [-12,-21,37,122,124,40,-21,-13], [-12,-22,36,121,124,42,-20,-13], [-11,-22,35,120,125,43,-20,-14],
  [-11,-22,33,119,126,44,-19,-14], [-11,-22,32,118,127,46,-19,-15], [-10,-23,31,117,128,47,-19,-15], [-10,-23,29,116,128,49,-18,-15],
  [-9,-23,28,115,129,50,-18,-16], [-9,-23,26,114,129,52,-17,-16], [-8,-23,25,113,129,53,-17,-16], [-8,-23,24,111,131,54,-16,-17],
  [-8,-24,23,110,131,56,-15,-17], [-7,-24,21,109,133,57,-15,-18], [-7,-24,20,108,132,59,-14,-18], [-6,-24,19,107,132,60,-14,-18]]
/-- c = 1/2, phases 48 to 63. -/
def coefHalf3 : List (List Int) := [
  [-6,-24,18,105,133,62,-13,-19], [-6,-24,16,104,134,63,-12,-19], [-5,-24,15,103,134,64,-12,-19], [-5,-24,14,102,133,66,-11,-19],
  [-4,-24,13,100,134,67,-10,-20], [-4,-24,12,99,133,69,-9,-20], [-4,-24,10,98,135,70,-9,-20], [-3,-24,9,96,136,71,-8,-21],
  [-3,-24,8,95,135,73,-7,-21], [-2,-23,7,93,134,74,-6,-21], [-2,-23,6,92,134,75,-5,-21], [-2,-23,5,91,134,77,-5,-21],
  [-1,-23,4,89,135,78,-4,-22], [-1,-23,3,88,135,79,-3,-22], [-1,-23,2,86,135,81,-2,-22], [0,-23,1,85,134,82,-1,-22]]
/-- c = 1/2. -/
def coefHalf : List (List Int) := coefHalf0 ++ coefHalf1 ++ coefHalf2 ++ coefHalf3

/-- c = 1/4, phases 0 to 15. -/
def coefQuarter0 : List (List Int) := [
  [16,35,50,54,50,35,16,0], [15,34,50,56,50,35,16,0], [15,34,49,57,50,35,16,0], [15,34,49,55,50,35,17,1],
  [15,33,49,55,50,36,17,1], [14,33,49,55,51,36,17,1], [14,33,49,55,51,36,17,1], [14,32,48,56,51,36,18,1],
  [13,32,48,55,51,37,18,2], [13,32,48,55,51,37,18,2], [13,31,48,55,51,37,19,2], [13,31,47,56,51,37,19,2],
  [12,31,47,56,51,38,19,2], [12,31,47,54,52,38,19,3], [12,30,47,54,52,38,20,3], [11,30,47,55,52,38,20,3]]
/-- c = 1/4, phases 16 to 31. -/
def coefQuarter1 : List (List Int) := [
  [11,30,46,55,52,39,20,3], [11,29,46,54,52,39,21,4], [11,29,46,54,52,39,21,4], [10,29,46,55,52,39,21,4],
  [10,28,45,56,52,40,21,4], [10,28,45,55,52,40,22,4], [10,28,45,53,53,40,22,5], [9,28,45,54,53,40,22,5],
  [9,27,44,54,53,41,23,5], [9,27,44,54,53,41,23,5], [9,27,44,53,53,41,23,6], [8,26,44,55,53,41,23,6],
  [8,26,43,54,53,42,24,6], [8,26,43,54,53,42,24,6], [8,25,43,54,53,42,24,7], [7,25,43,54,53,42,25,7]]
/-- c = 1/4, phases 32 to 47. -/
def coefQuarter2 : List (List Int) := [
  [7,25,43,54,52,43,25,7], [7,25,42,53,54,43,25,7], [7,24,42,53,54,43,25,8], [6,24,42,53,54,43,26,8],
  [6,24,42,53,54,43,26,8], [6,23,41,53,55,44,26,8], [6,23,41,53,53,44,27,9], [5,23,41,53,54,44,27,9],
  [5,23,41,53,54,44,27,9], [5,22,40,53,54,45,28,9], [5,22,40,53,53,45,28,10], [4,22,40,52,55,45,28,10],
  [4,21,40,52,56,45,28,10], [4,21,39,52,55,46,29,10], [4,21,39,52,54,46,29,11], [4,21,39,52,54,46,29,11]]
/-- c = 1/4, phases 48 to 63. -/
def coefQuarter3 : List (List Int) := [
  [3,20,39,52,55,46,30,11], [3,20,38,52,55,47,30,11], [3,20,38,52,54,47,30,12], [3,19,38,52,54,47,31,12],
  [2,19,38,51,56,47,31,12], [2,19,37,51,56,47,31,13], [2,19,37,51,55,48,31,13], [2,18,37,51,55,48,32,13],
  [2,18,37,51,55,48,32,13], [1,18,36,51,56,48,32,14], [1,17,36,51,55,49,33,14], [1,17,36,51,55,49,33,14],
  [1,17,36,50,55,49,33,15], [1,17,35,50,55,49,34,15], [0,16,35,50,57,49,34,15], [0,16,35,50,56,50,34,15]]
/-- c = 1/4. -/
def coefQuarter : List (List Int) := coefQuarter0 ++ coefQuarter1 ++ coefQuarter2 ++ coefQuarter3

end Sys2Proof.Machine
end

