-- ==== Sys2Proof/Machine/Queue.lean ====
section
/-! DEFINITION. The front of a head's frame queue (R275), what a step of a time base does to it (R96), and the reports of the
scheduler's marks (R116, R119 to R121, R143). -/
namespace Sys2Proof.Machine

/-- R8, R96: is the entry's time past, or has a step skipped it? An entry with NEXT never is. -/
def Dev.entryPast (d : Dev) (e : QEntry) : Bool := !e.next && (e.skipped || past32 e.time (d.nsc32 e.tb))

/-- R276, R277: is the entry due? -/
def Dev.entryDue (d : Dev) (e : QEntry) : Bool := e.next || e.released || e.late || due32 e.time (d.nsc32 e.tb)

/-- R275: judges the front of a queue; the entries left and the number dropped. -/
def Dev.judgeList (d : Dev) : List QEntry → List QEntry × Nat
  | [] => ([], 0)
  | e :: r =>
    if !d.entryPast e then (e :: r, 0)
    else if e.drop then let (l, n) := d.judgeList r; (l, n + 1)
    else ({ e with late := true } :: r, 0)

/-- R275: the front of head `h`'s queue is judged; the next frame's record tells of a drop. -/
def Dev.judgeFront (h : Nat) (d : Dev) : Dev :=
  let (l, n) := d.judgeList (d.head h).queue
  (d.addSat (HDn_COUNTk_V h 3) n).onHead h (fun u => { u with queue := l, dropMark := u.dropMark || decide (0 < n) })

/-- R96: the entries whose times a step of time base `n` from the total `old` skips are past, and the fronts are judged. -/
def Dev.queueStepped (n old : Nat) (d : Dev) : Dev :=
  let new := (d.tb n).total
  foldS (List.range 8) (fun h s =>
    let mark (e : QEntry) : QEntry := if e.tb = n ∧ passed32 e.time old new = true then { e with skipped := true } else e
    let s1 := s.onHead h (fun u => { u with queue := u.queue.map mark })
    match (s1.head h).queue with
    | e :: _ => if e.tb = n ∧ due32 e.time old = false ∧ e.released = false then s1.judgeFront h else s1
    | [] => s1) d

/-- R96, R119: an armed TIME mark of time base `n` whose time lay ahead at the total `old` and has been passed over follows its late
policy. -/
def Dev.markPassedOver (d : Dev) (n old m : Nat) : Bool :=
  d.flag (Mm_CTRL_ARM m) && d.get (Mm_TRIGGER_KIND m) == 1 && d.get (Mm_TRIGGER_SOURCE m) == n
    && passed32 (d.get (Mm_WHEN_V m)) old (d.tb n).total

/-- R96: the marks whose times a step of time base `n` from the total `old` skips. -/
def Dev.marksStepped (n old : Nat) (d : Dev) : Dev :=
  let hit := filterRange 256 (d.markPassedOver n old)
  { d with sched := { d.sched with skips := d.sched.skips.filter (fun m => !hit.contains m) ++ hit } }

/-- A SCHED record, and SCHED_LAST: 1 LATE, 2 DROPPED, 3 FAILED, 4 MISSED. -/
def Dev.markReport (m cause : Nat) (on : Fld) (d : Dev) : Dev :=
  let d1 := (d.put SCHED_LAST_CAUSE cause).put SCHED_LAST_MARK m
  if d1.flag on then d1.post clsSched cause m [d1.get (Mm_ACTION_ARG m)] else d1

/-- The mark fires late. -/
def Dev.markLate (m : Nat) (d : Dev) : Dev :=
  ((d.put (Mm_CTRL_LATE m) 1).inc SCHED_LATE_COUNT_V).markReport m 1 SCHED_CTRL_EVENT_ON_LATE
/-- The mark is dropped and goes IDLE. -/
def Dev.markDrop (m : Nat) (d : Dev) : Dev :=
  (((d.put (Mm_CTRL_ARM m) 0).put (Mm_CTRL_DROPPED m) 1).inc SCHED_DROP_COUNT_V).markReport m 2 SCHED_CTRL_EVENT_ON_DROP
/-- R121: a per-head reset drops the marks that the head triggers. -/
def Dev.marksReset (h : Nat) (d : Dev) : Dev :=
  foldS (filterRange 256 (fun m => d.flag (Mm_CTRL_ARM m) && d.get (Mm_TRIGGER_KIND m) == 3 && d.get (Mm_TRIGGER_SOURCE m) == h))
    Dev.markDrop d

end Sys2Proof.Machine
end

