-- ==== Sys2Proof/Machine/Time.lean ====
section
/-! DEFINITION. Time bases, the servo, steps, timecode, sync, PPS and the capture channels (chapter 03, R85 to R105). -/
namespace Sys2Proof.Machine

/-! ### Advancing (R85, R114) -/

/-- A time base moved on by `u` units of 2^-43 ns; the seconds count has 48 bits. -/
def TimeBase.advance (t : TimeBase) (u : Nat) : TimeBase :=
  let n := t.ns + (t.sub + u) / 2 ^ 43
  { t with sub := (t.sub + u) % 2 ^ 43, ns := n % 1000000000, sec := (t.sec + n / 1000000000) % 2 ^ 48 }

/-- One TCLK tick in units of 2^-43 ns at a rate word: 1.25 ns × (1 + RATE × 2^-41). -/
def tickUnits (rate : Int) : Nat := (5 * 2 ^ 41 + 5 * rate).toNat

/-- Changes time base `n`. -/
def Dev.onTb (n : Nat) (f : TimeBase → TimeBase) (d : Dev) : Dev :=
  { d with time := { d.time with tbs := updAt d.time.tbs n f } }

/-- Does time base `n` follow TB0 (R87)? -/
def Dev.followsTb0 (d : Dev) (n : Nat) : Bool := decide (0 < n) && d.get (TBn_CTRL_SOURCE n) == 8

/-- R89: a follower's RATE equals TB0's RATE at every tick. -/
def Dev.followRate (n : Nat) (d : Dev) : Dev :=
  if d.followsTb0 n then d.putI (TBn_RATE_V n) (d.getI (TBn_RATE_V 0)) else d

/-- One TCLK tick of the four time bases (assumption 3); in OFF one XTAL32K tick of the island's TB0, TB1 and TB3 (R114). -/
def tick (d : Dev) : Dev :=
  if d.mode = 0 then
    foldS [0, 1, 3] (fun n => Dev.onTb n (fun t => t.advance (1000000000 * 2 ^ 28 + Config.islandCorrection).toNat)) d
  else
    let d1 := foldS [1, 2] Dev.followRate d
    foldS [0, 1, 2, 3] (fun n s => s.onTb n (fun t => t.advance (tickUnits (s.getI (TBn_RATE_V n))))) d1

/-! ### Timecode labels (R97 to R99) -/

/-- The numerator and denominator of a rate code (R98). -/
def rateNum (code : Nat) : Nat := nth 1 [24000, 24, 25, 30000, 30000, 30, 48000, 48, 50, 60000, 60, 120000, 120] code
def rateDen (code : Nat) : Nat := nth 1 [1001, 1, 1, 1001, 1001, 1, 1001, 1, 1, 1001, 1, 1001, 1] code

/-- The nominal integer rate of a code, and that of its LTC base rate (R98). -/
def nominal (code : Nat) : Nat := nth 24 [24, 24, 25, 30, 30, 30, 48, 48, 50, 60, 60, 120, 120] code
def ltcNominal (code : Nat) : Nat := nth 24 [24, 24, 25, 30, 30, 30, 24, 24, 25, 30, 30, 30, 30] code

/-- The label frames per day (R98). -/
def perDay (code : Nat) : Nat := if code = 3 then 2589408 else nominal code * 86400

/-- A timecode label. -/
structure TcLabel where
  hours : Nat
  minutes : Nat
  seconds : Nat
  frames : Nat
deriving DecidableEq, Repr

/-- The frame count N of R99 at `total` nanoseconds. -/
def frameCount (total code : Nat) : Nat := total * rateNum code / (rateDen code * 1000000000)

/-- The number of the label with nothing omitted: code 3 skips labels 00 and 01 of every minute but each tenth (R99). -/
def dropAdjust (n : Nat) : Nat :=
  n + 18 * (n / 17982) + (if n % 17982 < 2 then 0 else 2 * ((n % 17982 - 2) / 1798))

/-- The label of `total` nanoseconds at a rate code (R99). -/
def labelAt (total code : Nat) : TcLabel :=
  let m := frameCount total code % perDay code
  let k := if code = 3 then dropAdjust m else m
  let f := nominal code
  { hours := k / (3600 * f), minutes := k / (60 * f) % 60, seconds := k / f % 60, frames := k % f }

/-- The label's value in nominal seconds (R97). -/
def TcLabel.value (l : TcLabel) (code : Nat) : Rat :=
  ((l.hours * 3600 + l.minutes * 60 + l.seconds : Nat) : Rat) + (l.frames : Rat) / (nominal code : Rat)

/-- A label as TC_LABEL lays it out (R130). -/
def TcLabel.word (l : TcLabel) (drop : Bool) : Nat :=
  b2n drop * 2 ^ 31 + l.hours % 32 * 2 ^ 24 + l.minutes % 64 * 2 ^ 16 + l.seconds % 64 * 2 ^ 8 + l.frames % 128

/-- Sets a TIME_EVT_STATUS bit (R132, R591). -/
def Dev.timeEvt (b : Nat) (d : Dev) : Dev := d.raiseAt TIME_EVT_STATUS TIME_EVT_ENABLE clsTime 0xFF b

/-- R97: a timecode discontinuity from one label value to another. -/
def Dev.tcDisc (old new : Rat) (d : Dev) : Dev :=
  let d1 := d.putB TC_STATUS_DISC true
  let d2 := if new < old then d1.putB TC_STATUS_BACKWARD true else d1
  let d3 := d2.inc TC_DISC_COUNT_V
  Dev.timeEvt 16 { d3 with time := { d3.time with tcDisc := true, tcDiscAt := (d3.tb 3).total } }

/-- R97: does the TC_DISC flag of TIME sets stand now (1 s from the discontinuity, on TB3)? -/
def Dev.tcDiscFlag (d : Dev) : Bool := d.time.tcDisc && decide ((d.tb 3).total < d.time.tcDiscAt + 1000000000)

/-! ### The servo (R89 to R93) -/

/-- A rational rounded to the nearest integer, halves up. -/
def roundRat (q : Rat) : Int := (q + 1 / 2).floor

/-- The limit of RATE (R86). -/
def rateMax : Int := 1099511627

/-- Sets RATE from a servo output, clamped (R86). -/
def Dev.servoRate (n : Nat) (rate : Int) (d : Dev) : Dev :=
  (d.putI (TBn_RATE_V n) (clampI (-rateMax) rateMax rate)).putB (TBn_STATUS_CLAMPED n) (decide (rate < -rateMax ∨ rateMax < rate))

/-- The rate word of a rate in ppb (R90). -/
def ppbRate (q : Rat) : Int := roundRat (q * 2 ^ 41 / 1000000000)

/-- Is the source of time base `n` one of the REF10M sources, whose integrator is the measured frequency error (R90)? -/
def Dev.refSource (d : Dev) (n : Nat) : Bool := d.get (TBn_CTRL_SOURCE n) == 1 || d.get (TBn_CTRL_SOURCE n) == 3

/-- The frame period of a rate code in ns. -/
def framePeriod (code : Nat) : Rat := ((rateDen code * 1000000000 : Nat) : Rat) / (rateNum code : Rat)

/-- The period of an LTC frame in ns: a frame at the base rate of the code (R98). -/
def ltcPeriod (code : Nat) : Rat := framePeriod code * (nominal code : Rat) / (ltcNominal code : Rat)

/-- The interval of the measurements of time base `n` in ns (R89's table). -/
def Dev.interval (d : Dev) (n : Nat) : Rat :=
  let src := d.get (TBn_CTRL_SOURCE n)
  match src with
  | 1 => 1000000
  | 4 => framePeriod (d.get (TBn_CTRL_PERIOD n))
  | 5 => 1000000000 / 2 ^ (-(d.getI (PTPp_INTERVALS_LOG_SYNC 0))).toNat
  | 6 => 1000000000 / 2 ^ (-(d.getI (PTPp_INTERVALS_LOG_SYNC 1))).toNat
  | 7 => ((d.get TEAM_SYNC_INTERVAL_V * 1000 : Nat) : Rat)
  | 9 => ltcPeriod (d.get TC_CTRL_RATE)
  | 10 => framePeriod (d.get (TBn_CTRL_PERIOD n))
  | _ => 1000000000

/-- The distance of `total` ns from the nearest aligned frame start of a rate code (R89), in ns. -/
def alignedOffset (total code : Nat) : Int :=
  let p := framePeriod code
  let t : Rat := total
  roundRat (t - p * ((t / p + 1 / 2).floor : Rat))

/-- A measurement of input `src` with offset `e` waits for the servo of time base `n`, where that is its source (R89). -/
def Dev.measured (n src : Nat) (e : Int) (d : Dev) : Dev :=
  if d.get (TBn_CTRL_SOURCE n) = src then d.onTb n (fun t => { t with meas := some e }) else d

/-- R90: one update with offset `e` ns over `delta` ns; `ppb` is the frequency error that a REF10M source measures. -/
def Dev.servoUpdate (n : Nat) (e : Int) (delta : Rat) (ppb : Int) (d : Dev) : Dev :=
  if d.refSource n then
    Dev.servoRate n (ppbRate (ppb : Rat)) (d.onTb n (fun t => { t with integ := (ppb : Rat) }))
  else
    let s : Rat := delta / 1000000000
    let i : Rat := (d.tb n).integ + ((e : Rat) / 2 ^ d.get (TBn_CTRL_KI_SHIFT n)) / s
    Dev.servoRate n (ppbRate (-(((e : Rat) / 2 ^ d.get (TBn_CTRL_KP_SHIFT n)) / s + i))) (d.onTb n (fun t => { t with integ := i }))

/-- R93: in HOLDOVER, RATE holds the integrator's value. -/
def Dev.holdRate (n : Nat) (d : Dev) : Dev :=
  if d.refSource n then Dev.servoRate n (ppbRate (d.tb n).integ) d else Dev.servoRate n (ppbRate (-(d.tb n).integ)) d

/-- Enters LOCKED (R93, R132). -/
def Dev.enterLocked (n : Nat) (d : Dev) : Dev :=
  Dev.timeEvt (8 + n) (((d.put (TBn_STATUS_STATE n) 2).putB (TBn_STATUS_DISCONTINUITY n) false).putB (TBn_STATUS_LOST n) false)

/-- Enters HOLDOVER, remembering when (TBn_HOLDOVER_S). -/
def Dev.enterHoldover (n : Nat) (d : Dev) : Dev :=
  Dev.holdRate n ((d.put (TBn_STATUS_STATE n) 3).onTb n (fun t => { t with holdAt := (d.tb 3).total }))

/-- Enters DISCONTINUITY: counted and reported (R93). -/
def Dev.enterDisc (n : Nat) (d : Dev) : Dev :=
  Dev.timeEvt n (((d.putB (TBn_STATUS_LOST n) false).putB (TBn_STATUS_DISCONTINUITY n) true).inc (TBn_DISC_COUNT_V n))

/-- R95: the time bases that step at the same instant as time base `n`. -/
def Dev.stepGroup (d : Dev) (n : Nat) : List Nat := if n = 0 then 0 :: [1, 2].filter d.followsTb0 else [n]

/-- One time base steps by `delta` ns: its count, its event and, for TB1, a timecode discontinuity (R94, R97); the
frame queues follow (R96). -/
def Dev.stepOne (delta : Int) (n : Nat) (d : Dev) : Dev :=
  let t := d.tb n
  let total := ((t.total : Int) + delta).toNat
  let d0 := d.onTb n (fun t => { t with sec := total / 1000000000 % 2 ^ 48, ns := total % 1000000000 })
  let d1 := (d0.queueStepped n t.total).marksStepped n t.total
  let d2 := Dev.timeEvt (12 + n) (d1.inc (TBn_STEP_COUNT_V n))
  if n = 1 then
    let c := d2.get TC_CTRL_RATE
    d2.tcDisc ((labelAt t.total c).value c) ((labelAt total c).value c)
  else d2

/-- A step of time base `n` and of those that step with it (R94, R95); the fraction is unchanged. -/
def Dev.stepBy (n : Nat) (delta : Int) (d : Dev) : Dev := foldS (d.stepGroup n) (Dev.stepOne delta) d

/-- The collection of time base `n` starts again (R91). -/
def Dev.collectAnew (n : Nat) (d : Dev) : Dev := d.onTb n (fun t => { t with acq := [], acqDone := false })

/-- R93, R95: what a step does to the servo state of time base `n`; only a host's step ends a DISCONTINUITY. -/
def Dev.stepServo (host : Bool) (n : Nat) (d : Dev) : Dev :=
  match d.get (TBn_STATUS_STATE n) with
  | 1 => d.collectAnew n
  | 3 => if host && d.flag (TBn_STATUS_DISCONTINUITY n) then d.enterLocked n else d
  | _ => d

/-- The median of R91. -/
def median (l : List Int) : Int :=
  let s := l.mergeSort (fun a b => decide (a ≤ b))
  if l.length % 2 = 1 then nth 0 s (l.length / 2)
  else Config.medianOfEven (nth 0 s (l.length / 2 - 1)) (nth 0 s (l.length / 2))

/-- The spread of a list of offsets. -/
def spread (l : List Int) : Int :=
  match l with
  | [] => 0
  | a :: r => r.foldl max a - r.foldl min a

/-- R91: one offset in ACQUIRE: it joins the collection, whose spread is tested when it holds ACQ_COUNT offsets; then the
first-lock step, or the wait for a small offset. -/
def Dev.acquire (n : Nat) (e : Int) (d : Dev) : Dev :=
  let count := d.get (TBn_CTRL_ACQ_COUNT n)
  let t := d.tb n
  let l := if t.acqDone then t.acq else e :: t.acq
  if !t.acqDone && decide (l.length < count) then d.onTb n (fun t => { t with acq := l })
  else if !t.acqDone && decide (1000 < spread l) then d.collectAnew n
  else if d.flag (TBn_CTRL_ACQ_STEP n) then
    Dev.enterLocked n (Dev.servoRate n (Config.fittedRate l) ((d.stepBy n (-(median l))).collectAnew n))
  else if e.natAbs < 100 then Dev.enterLocked n (d.collectAnew n)
  else d.onTb n (fun t => { t with acq := l, acqDone := true })

/-- R93: RETURNED is set while the last four offsets lie within the threshold; before four have been counted it is clear
(assumption 73). -/
def Dev.setReturned (n : Nat) (d : Dev) : Dev :=
  d.putB (TBn_STATUS_RETURNED n) (decide (4 ≤ d.get (TBn_MEAS_COUNT_V n))
    && allBelow 4 (fun k => decide ((d.getI (TBn_HISTk_V n k)).natAbs ≤ d.get (TBn_DISC_THRESH_V n))))

/-- R92: OFFSET, the history and the count. -/
def Dev.recordOffset (n : Nat) (e : Int) (d : Dev) : Dev :=
  let v := clampI (-2147483647) 2147483647 e
  let d1 := (List.range 31).foldl (fun s k => s.putI (TBn_HISTk_V n (31 - k)) (d.getI (TBn_HISTk_V n (30 - k)))) d
  Dev.setReturned n (((d1.putI (TBn_HISTk_V n 0) v).putI (TBn_OFFSET_V n) v).inc (TBn_MEAS_COUNT_V n))

/-- The servo part of a lost reference (R93). In HOLDOVER it changes no flag: LOST with DISCONTINUITY, which the rules do not order, never
stand together (DESIGN CHOICE, assumption 104). -/
def Dev.servoLost (n : Nat) (d : Dev) : Dev :=
  match d.get (TBn_STATUS_STATE n) with
  | 1 => d.collectAnew n
  | 2 => Dev.timeEvt (4 + n) ((d.enterHoldover n).putB (TBn_STATUS_LOST n) true)
  | _ => d

/-- Does time base `n` take its time from input `src`, a FRAME_MARK input being that of stream `arg`? PPS_REF10M needs both of its
inputs (R89). -/
def Dev.usesSource (d : Dev) (src arg n : Nat) : Bool :=
  let s := d.get (TBn_CTRL_SOURCE n)
  (s == src && (src != 10 || d.get (TBn_CTRL_ARG n) == arg)) || (s == 3 && (src == 1 || src == 2))

/-- What the loss of input `src` marks, whether or not a time base uses it (R129, R131, R132, R138): the time-out is counted and
captured (R31), but for FRAME_MARK's, which the stream counts. -/
def Dev.inputLost (src : Nat) (d0 : Dev) : Dev :=
  let d := if src = 10 then d0 else d0.guardFail (if src = 9 then 6 else 5) (16 + src)
  match src with
  | 1 => d.inc REF10M_LOSS_COUNT_V
  | 2 => d.timeEvt 19
  | 4 => Dev.timeEvt 18 (d.setWord SYNCIN_STATUS 0)
  | 7 => Dev.timeEvt 20 (d.putB TEAM_TIME_STATUS_UPSTREAM_VALID false)
  | 9 => Dev.timeEvt 17 (d.putB TC_STATUS_LTC_VALID false)
  | _ => d

/-- R89, R93: input `src` is lost, and with it the reference of every time base that uses it. -/
def Dev.sourceLost (src arg : Nat) (d : Dev) : Dev :=
  if src = 0 ∨ src = 3 ∨ src = 8 ∨ d.mode = 0 then d
  else foldS ([0, 1, 2].filter (d.usesSource src arg)) Dev.servoLost (d.inputLost src)

/-- SERVO_MEASUREMENT (R89 to R93): the measurement of source `src`, for FRAME_MARK of stream `arg`, that waits at time base `n` updates
it; with another source in TBn_CTRL it does nothing; `ppb` is the frequency error of REF10M_IN,
whose offset is 0 and which is lost more than 1,000 ppm off. The measurement with which a lost reference returns is itself applied
(assumption 74). REF10M_PPB is written by the measurements of a source that uses REF10M_IN (DESIGN CHOICE, assumption 102). -/
def servoMeasurement (n src arg : Nat) (ppb : Int) (d : Dev) : Dev :=
  if d.get (TBn_CTRL_SOURCE n) ≠ src ∨ d.get (TBn_CTRL_ARG n) ≠ arg ∨ src = 0 ∨ src = 8 ∨ d.mode = 0 then d
  else if d.refSource n && decide (1000000 < ppb.natAbs) then d.sourceLost 1 0
  else match (if src = 1 then some 0 else (d.tb n).meas) with
    | none => d
    | some e =>
      let delta := d.interval n
      let d1 := (d.onTb n (fun t => { t with meas := none })).recordOffset n e
      let d2 := if d.refSource n then d1.putI REF10M_PPB_V ppb else d1
      let small : Bool := decide (e.natAbs ≤ d2.get (TBn_DISC_THRESH_V n))
      match d2.get (TBn_STATUS_STATE n) with
      | 1 => Dev.acquire n e (d2.servoUpdate n e delta ppb)
      | 2 => if small then d2.servoUpdate n e delta ppb else Dev.enterDisc n (d2.enterHoldover n)
      | 3 =>
        if d2.flag (TBn_STATUS_DISCONTINUITY n) then d2
        else if small then Dev.enterLocked n d2 |>.servoUpdate n e delta ppb
        else d2.enterDisc n
      | _ => d2

/-- REFERENCE_LOST: input `src` times out; for FRAME_MARK, stream `arg`. -/
def referenceLost (src arg : Nat) (d : Dev) : Dev := d.sourceLost src arg

/-- R87: may time base `n` take source code `src`? -/
def sourceOk (n src : Nat) : Bool :=
  (nth [] [[0, 1, 2, 3, 4, 5, 6, 7], [0, 7, 8, 9], [0, 8, 10], [0]] n).contains src

/-- R87, R123: the values that a write of TBn_CTRL may take beyond those of its fields. -/
def tbCtrlOk (n v : Nat) : Bool := sourceOk n (bitsOf v 28 4) && (bitsOf v 28 4 == 10 || bitsOf v 26 2 == 0)

/-- R93: a change of SOURCE or ARG starts the servo anew. The integrator stays as it is, and a time base that follows TB0, which has no
measurements, stays in ACQUIRE (assumptions 75, 76). -/
def Dev.servoRestart (n : Nat) (d : Dev) : Dev :=
  let d1 := d.put (TBn_STATUS_STATE n) (if d.get (TBn_CTRL_SOURCE n) = 0 then 0 else 1)
  let d2 := [TBn_STATUS_DISCONTINUITY n, TBn_STATUS_LOST n, TBn_STATUS_RETURNED n, TBn_STATUS_CLAMPED n].foldl
    (fun s f => s.putB f false) d1
  (d2.collectAnew n).onTb n (fun t => { t with meas := none })

/-- A write of TBn_CTRL. -/
def tbCtrlWrite (n v : Nat) (d : Dev) : Dev :=
  d.writeVia (TBn_CTRL n) v (fun _ => tbCtrlOk n v) (fun s =>
    if d.get (TBn_CTRL_SOURCE n) = s.get (TBn_CTRL_SOURCE n) ∧ d.get (TBn_CTRL_ARG n) = s.get (TBn_CTRL_ARG n) then s
    else s.servoRestart n)

/-- R88: the snapshot. -/
def tbLatch (n v : Nat) (d : Dev) : Dev :=
  d.writeVia (TBn_LATCH n) v (fun _ => true) (fun s =>
    if v = 0 then s
    else
      let t := s.tb n
      (((s.put (TBn_SNAP_SEC_HI_V n) (t.sec / 2 ^ 32)).put (TBn_SNAP_SEC_LO_V n) t.sec).put (TBn_SNAP_NS_V n) t.ns).put
        (TBn_SNAP_FRAC_V n) t.frac)

/-! ### Steps (R94 to R96) -/

/-- The step that TBn_STEP_SEC and TBn_STEP_NS hold, in ns. -/
def Dev.stepReg (d : Dev) (n : Nat) : Int := d.getI (TBn_STEP_SEC_V n) * 1000000000 + d.getI (TBn_STEP_NS_V n)

/-- R94: the seconds value of the first boundary at least 1 ms ahead. -/
def TimeBase.nextBoundary (t : TimeBase) : Nat :=
  if t.ns + 1000000 < 1000000000 ∨ (t.ns + 1000000 = 1000000000 ∧ t.sub = 0) then t.sec + 1 else t.sec + 2

/-- R94, R95: would no time base of the group fall below zero at the boundary? -/
def Dev.stepFits (d : Dev) (n : Nat) : Bool :=
  let wait : Int := ((d.tb n).nextBoundary * 1000000000 : Nat) - ((d.tb n).total : Int)
  (d.stepGroup n).all (fun m => decide (0 ≤ ((d.tb m).total : Int) + wait + d.stepReg n))

/-- R122, R125: may TBn_STEP_CTRL take `v` now? -/
def stepCtrlOk (n v : Nat) (d : Dev) : Bool :=
  match v with
  | 0 => true
  | 1 => n != 3 && !d.flag (TBn_STATUS_STEP_PENDING n) && d.stepFits n
  | 2 => true
  | 4 => n != 3 && d.get (TBn_STATUS_STATE n) == 3 && d.flag (TBn_STATUS_DISCONTINUITY n)
  | _ => false

/-- A write of TBn_STEP_CTRL: ARM captures the step, CANCEL clears it, RESUME returns to LOCKED by rate only; if
the offset is then still above the threshold, the next measurement follows R93's LOCKED row (DEDUCED, assumption 103). -/
def stepCtrlWrite (n v : Nat) (d : Dev) : Dev :=
  d.writeVia (TBn_STEP_CTRL n) v (stepCtrlOk n v) (fun s =>
    match v with
    | 1 => (s.putB (TBn_STATUS_STEP_PENDING n) true).onTb n (fun t =>
        { t with stepSec := s.getI (TBn_STEP_SEC_V n), stepNs := s.getI (TBn_STEP_NS_V n), stepAt := t.nextBoundary })
    | 2 => s.putB (TBn_STATUS_STEP_PENDING n) false
    | 4 => s.enterLocked n
    | _ => s)

/-- R94: the pending step of time base `n` applies at its boundary. -/
def stepApply (n : Nat) (d : Dev) : Dev :=
  if d.flag (TBn_STATUS_STEP_PENDING n) then
    let t := d.tb n
    foldS (d.stepGroup n) (Dev.stepServo true)
      (Dev.stepBy n (t.stepSec * 1000000000 + t.stepNs) (d.putB (TBn_STATUS_STEP_PENDING n) false))
  else d

/-! ### Timecode, LTC, sync and PPS (R97 to R104) -/

/-- A write of TC_CTRL: a change of RATE is a timecode discontinuity (R97). -/
def tcCtrlWrite (v : Nat) (d : Dev) : Dev :=
  d.writeVia TC_CTRL v (fun _ => true) (fun s =>
    let a := d.get TC_CTRL_RATE
    let b := s.get TC_CTRL_RATE
    if a = b then s
    else s.tcDisc ((labelAt (s.tb 1).total a).value a) ((labelAt (s.tb 1).total b).value b))

/-- The label of the frame whose start is nearest to `t` ns. -/
def nearestLabel (t : Int) (code : Nat) : TcLabel :=
  labelAt (((t : Rat) + framePeriod code / 2).floor.toNat) code

/-- A number of at most two digits as LTC carries it: the units at bit `lo`, the tens at bit `lo + 8`. -/
def ltcDigits (x lo : Nat) : Nat := x % 10 * 2 ^ lo + x / 10 * 2 ^ (lo + 8)

/-- The positions of binary group flags 0 to 2 and of the polarity correction bit (ST 12-1): those of 25 frames differ. -/
def ltcFlagBits (base : Nat) : Nat × Nat × Nat × Nat := if base = 25 then (27, 58, 43, 59) else (43, 58, 59, 27)

/-- The 80 bits of an LTC word (R100), bit 0 sent first: the label, the drop-frame flag, the colour-frame flag clear, the binary groups,
their flags, the sync word, and the polarity correction bit, which makes the number of zeros even. -/
def ltcBits (l : TcLabel) (drop : Bool) (user bgf base : Nat) : Nat :=
  let (b0, b1, b2, pol) := ltcFlagBits base
  let groups := (List.range 8).foldl (fun a k => a + bitsOf user (4 * k) 4 * 2 ^ (8 * k + 4)) 0
  let w := ltcDigits l.frames 0 + ltcDigits l.seconds 16 + ltcDigits l.minutes 32 + ltcDigits l.hours 48 + b2n drop * 2 ^ 10 + groups
    + bitsOf bgf 0 1 * 2 ^ b0 + bitsOf bgf 1 1 * 2 ^ b1 + bitsOf bgf 2 1 * 2 ^ b2 + 0xBFFC * 2 ^ 64
  if (onesOf 80 w).length % 2 = 0 then w else w + 2 ^ pol

/-- R99, R100: LTC_OUT begins the word of the frame whose start on TB1 plus LTCOUT_OFFSET is now. -/
def ltcOutWord (d : Dev) : Dev :=
  if d.flag TC_CTRL_LTC_OUT_EN && d.mode != 0 then
    let c := d.get TC_CTRL_RATE
    let l := nearestLabel (((d.tb 1).total : Int) - d.getI LTCOUT_OFFSET_V) c
    d.send (.ltcWord (ltcBits { l with frames := l.frames * ltcNominal c / nominal c } (c == 3) (d.get TC_USERBITS_V)
      (d.get TC_CTRL_BGF) (ltcNominal c)))
  else d

/-- The number of the frame that a label of LTC_IN names, from midnight on: the inverse of R99. -/
def labelFrame (l : TcLabel) (code : Nat) : Nat :=
  let m := l.hours * 60 + l.minutes
  (m * 60 + l.seconds) * nominal code + l.frames * nominal code / ltcNominal code - (if code = 3 then 2 * (m - m / 10) else 0)

/-- R89, R101: the offset of a word whose bit 0 started at `t` ns of TB1 against the start of its labelled frame of the nearest day,
moved by LTCIN_OFFSET as LTC_OUT's words are by theirs (assumption 77). -/
def Dev.ltcOffset (d : Dev) (l : TcLabel) (t : Int) : Int :=
  let c := d.get TC_CTRL_RATE
  let day : Rat := framePeriod c * (perDay c : Rat)
  let x : Rat := (t : Rat) - (d.getI LTCIN_OFFSET_V : Rat) - framePeriod c * (labelFrame l c : Rat)
  roundRat (x - day * ((x / day + 1 / 2).floor : Rat))

/-- What LTC_IN found of a word (R101) whose bit 0 started `ago` ns before: 0 valid and forward, 1 no biphase, 2 no sync word, 3 outside
the input range, 4 outside 90 % to 110 % of the base rate, 5 reverse. A valid word measures TB1. -/
def ltcInWord (check : Nat) (l : TcLabel) (drop : Bool) (user ago : Nat) (d : Dev) : Dev :=
  if !d.flag TC_CTRL_LTC_IN_EN || d.mode == 0 then d
  else match check with
    | 0 => Dev.measured 1 9 (d.ltcOffset l (((d.tb 1).total : Int) - ago))
        (((d.setWord LTCIN_LABEL (l.word drop)).put LTCIN_USERBITS_V user).putB TC_STATUS_LTC_VALID true)
    | 5 => (d.inc LTCIN_REVERSE_COUNT_V).guardFail 6 5
    | _ => (d.inc LTCIN_ERR_COUNT_V).guardFail 6 check

/-- R103: the formats and rates that go together. SYNC_OUT off, which the rule does not list, goes with any rate (assumption 78). -/
def syncOutOk (format rate : Nat) : Bool :=
  match format with
  | 0 => true
  | 1 => decide (rate ≤ 10)
  | 2 => decide (rate ≤ 10)
  | 3 => rate == 3 || rate == 4
  | 4 => rate == 2
  | _ => false

/-- R102: the sync that SYNC_IN accepts: tri-level at every rate of R98, bi-level of 525 lines at 29.97 and of 625 at 25. -/
def syncInOk (format rate : Nat) : Bool :=
  match format with
  | 1 => decide (rate ≤ 12)
  | 2 => decide (rate ≤ 12)
  | 3 => rate == 3 || rate == 4
  | 4 => rate == 2
  | _ => false

/-- R102: a frame reference edge of SYNC_IN with its detected format and rate; a sync that the rule does not list is not accepted
(R31). It measures TB0. -/
def syncInEdge (format rate : Nat) (d : Dev) : Dev :=
  if !d.flag SYNCIN_ENABLE_V || d.mode == 0 then d
  else if syncInOk format rate = false then d.guardFail 5 4
  else Dev.measured 0 4 (alignedOffset (d.tb 0).total (d.get (TBn_CTRL_PERIOD 0)))
    (((d.putB SYNCIN_STATUS_PRESENT true).put SYNCIN_STATUS_FORMAT format).put SYNCIN_STATUS_RATE rate)

/-- A write of SYNCIN_ENABLE: with the input off no sync is detected (R131). -/
def syncInEnableWrite (v : Nat) (d : Dev) : Dev :=
  d.writeVia SYNCIN_ENABLE v (fun _ => true) (fun s => if v = 0 then s.setWord SYNCIN_STATUS 0 else s)

/-- R103: SYNC_OUT starts a frame. -/
def syncOutFrame (d : Dev) : Dev :=
  if d.get SYNCOUT_CTRL_FORMAT ≠ 0 ∧ d.mode ≠ 0 then d.send (.syncOut (d.get SYNCOUT_CTRL_FORMAT) (d.get SYNCOUT_CTRL_RATE)) else d

/-- R104: the seconds value whose boundary PPS_OUT marks now; with a negative offset the pulse comes before its boundary. -/
def Dev.ppsSecond (d : Dev) : Nat := if d.getI PPSOUT_OFFSET_V < 0 then (d.tb 0).sec + 1 else (d.tb 0).sec

/-- R96, R104: PPS_OUT rises, for a second not yet pulsed. -/
def ppsOutPulse (d : Dev) : Dev :=
  if d.mode ≠ 0 ∧ d.get PPSOUT_WIDTH_V ≠ 0 ∧ d.time.ppsNext ≤ d.ppsSecond then
    { d with time := { d.time with ppsOut := true, ppsNext := d.ppsSecond + 1 } }
  else d

/-- R104: PPS_OUT falls. -/
def ppsOutPulseEnd (d : Dev) : Dev := { d with time := { d.time with ppsOut := false } }

/-- A stamp of time base `n` now, `q` quarter ticks of TCLK later (R105). -/
def Dev.stampNow (d : Dev) (n q : Nat) : Stamp :=
  let t := d.tb n
  let f := t.frac + 20480 * q
  let ns := t.ns + f / 65536
  { sec := (t.sec + ns / 1000000000) % 2 ^ 32, ns := ns % 1000000000, frac := f % 65536 }

/-- The offset of a stamp against the nearest second boundary (R89). -/
def Stamp.offset (s : Stamp) : Int := if s.ns ≤ 500000000 then (s.ns : Int) else (s.ns : Int) - 1000000000

/-- R104: a PPS_IN edge; the edge that PPSIN_EDGE names is counted and stamped, and measures TB0. -/
def ppsInEdge (falling : Bool) (quarter : Nat) (d : Dev) : Dev :=
  if d.flag PPSIN_EDGE_V = falling ∧ d.mode ≠ 0 then
    let d1 := d.inc PPSIN_COUNT_V
    let e := (d1.stampNow 0 quarter).offset
    Dev.measured 0 3 e (Dev.measured 0 2 e { d1 with time := { d1.time with ppsIn := d1.stampNow 0 quarter } })
  else d

/-- A write of PPSOUT_WIDTH: a width of 0 holds PPS_OUT low (R104). -/
def ppsWidthWrite (v : Nat) (d : Dev) : Dev :=
  d.writeVia PPSOUT_WIDTH v (fun _ => true) (fun s => if v = 0 then ppsOutPulseEnd s else s)

/-! ### Stand and Stable (R114) -/

/-- Entry: PPS_OUT stops. -/
def Dev.timeStops (d : Dev) : Dev := ppsOutPulseEnd d

/-- Wake: TB2 resumes equal to TB0, each servo with a source starts in ACQUIRE, as after a write of its source with its flags clear
(DESIGN CHOICE, assumption 101), and PPS_OUT waits for the next second boundary. -/
def Dev.timeResumes (d : Dev) : Dev :=
  let d1 := d.onTb 2 (fun t => { t with sec := (d.tb 0).sec, ns := (d.tb 0).ns, sub := (d.tb 0).sub })
  let d2 : Dev := { d1 with time := { d1.time with ppsNext := max d1.time.ppsNext ((d1.tb 0).sec + 1), ppsOut := false } }
  foldS [0, 1, 2] (fun n s => if s.get (TBn_CTRL_SOURCE n) = 0 then s else s.servoRestart n) d2

/-! ### Capture channels (R105, R126, R127) -/

/-- The FIFO of capture channel `c`. -/
def Dev.cap (d : Dev) (c : Nat) : List Stamp := nth [] d.time.caps c

/-- Sets the FIFO of channel `c` and its LEVEL. -/
def Dev.setCap (c : Nat) (l : List Stamp) (d : Dev) : Dev :=
  Dev.put { d with time := { d.time with caps := updAt d.time.caps c (fun _ => l) } } (CAPc_STATUS_LEVEL c) l.length

/-- R105: a stamp enters the FIFO of channel `c`, or is lost. -/
def Dev.capPush (c q : Nat) (d : Dev) : Dev :=
  if (d.cap c).length ≥ 4 then Dev.timeEvt 22 (d.putB (CAPc_STATUS_OVERFLOW c) true)
  else d.setCap c (d.cap c ++ [d.stampNow (d.get (CAPc_CTRL_TB c)) q])

/-- R126: does capture channel `c` take an edge of PPS_IN of this direction? -/
def Dev.capEdge (d : Dev) (c : Nat) (falling : Bool) : Bool := match d.get (CAPc_CTRL_EDGE c) with
  | 0 => !falling
  | 1 => falling
  | _ => true

/-- An event of the source of capture channel `c`; only the three edge inputs are stamped between ticks (R105), and of PPS_IN only the
edges that EDGE names count (R126). -/
def captureEvent (c quarter : Nat) (falling : Bool) (d : Dev) : Dev :=
  match d.get (CAPc_CTRL_SOURCE c) with
  | 0 => d
  | 0x40 => d
  | 1 => if d.capEdge c falling then d.capPush c quarter else d
  | k => d.capPush c (if k ≤ 3 then quarter else 0)

/-- R105: removes the oldest entry. -/
def capPop (c v : Nat) (d : Dev) : Dev :=
  d.writeVia (CAPc_POP c) v (fun _ => true) (fun s => if v = 0 then s else s.setCap c (s.cap c).tail)

/-! ### The commands -/

/-- SERVO_MEASUREMENT. -/
def execServoMeasurement (n : Fin 4) (src : Fin 16) (arg : Fin 4) (ppb : Int) (s : State) := s.on (servoMeasurement n src arg ppb)
/-- REFERENCE_LOST. -/
def execReferenceLost (input : RefInput) (s : State) := s.on (referenceLost input.source input.stream)
/-- STEP_APPLY. -/
def execStepApply (n : Fin 4) (s : State) := s.on (stepApply n)
/-- LTC_OUT_WORD. -/
def execLtcOutWord (s : State) := s.on ltcOutWord
/-- LTC_IN_WORD. -/
def execLtcInWord (found : LtcFound) (hours minutes seconds frames : Nat) (drop : Bool) (user : Word) (s : State) :=
  s.on (ltcInWord found.check { hours := hours, minutes := minutes, seconds := seconds, frames := frames } drop user.toNat found.ago)
/-- SYNC_IN_EDGE. -/
def execSyncInEdge (format : Fin 8) (rate : Fin 16) (s : State) := s.on (syncInEdge format rate)
/-- SYNC_OUT_FRAME. -/
def execSyncOutFrame (s : State) := s.on syncOutFrame
/-- PPS_OUT_PULSE. -/
def execPpsOutPulse (s : State) := s.on ppsOutPulse
/-- PPS_OUT_PULSE_END. -/
def execPpsOutPulseEnd (s : State) := s.on ppsOutPulseEnd
/-- PPS_IN_EDGE. -/
def execPpsInEdge (falling : Bool) (quarter : Fin 4) (s : State) := s.on (ppsInEdge falling quarter)
/-- CAPTURE_EVENT. -/
def execCaptureEvent (c : Fin 16) (edge : InputEdge) (s : State) := s.on (captureEvent c edge.quarter edge.falling)

end Sys2Proof.Machine
end

