-- ==== Sys2Proof/Machine/Stream.lean ====
section
/-! DEFINITION. Pixel input: streams, their guards, concealment, stored frames, the test pattern generator (chapter 04, R144 to
R157, R164 to R168). -/
namespace Sys2Proof.Machine

/-! ### Line format (R144, R146, R147) -/

/-- Bits per pixel of a format code: 1 RGB 10-bit, 2 RGB 12-bit, 3 YCbCr 4:2:2 10-bit. -/
def bppOf (format : Nat) : Nat := match format with
  | 2 => 36
  | 3 => 20
  | _ => 30

/-- The data blocks of a line (R144). -/
def lineBlocks (width format : Nat) : Nat := (width * bppOf format + 63) / 64

/-- The bytes of a stored line, a multiple of 64 (R155). -/
def lineBytes (width format : Nat) : Nat := (8 * lineBlocks width format + 63) / 64 * 64

/-- One byte of the CRC-16 of R146, most significant bit first. -/
def crc16Byte (crc : Nat) (b : Byte) : Nat :=
  (List.range 8).foldl (fun c _ => if 0x8000 ≤ c then Nat.xor (c * 2 % 65536) 0x1021 else c * 2) (Nat.xor crc (b.toNat * 256))

/-- The CRC-16 of R146. -/
def crc16 (l : List Byte) : Nat := l.foldl crc16Byte 0xFFFF

/-- Packs channel values of `w` bits each from bit 0 upward (R147). -/
def packBits (w : Nat) (l : List Nat) : Nat := l.foldr (fun v a => a * 2 ^ w + v % 2 ^ w) 0

/-- The payload bytes of a line with the channel values of its pixels in stream order (R147). -/
def packLine (width format : Nat) (channels : List Nat) : List Byte :=
  leBytes (8 * lineBlocks width format) (packBits (if format = 2 then 12 else 10) channels)

/-- Black (R151). -/
def blackLine (width format : Nat) : List Byte :=
  if format = 3 then packLine width 3 ((List.range (width / 2)).flatMap (fun _ => [512, 64, 512, 64]))
  else List.replicate (8 * lineBlocks width format) 0

/-! ### Registers of a stream -/

/-- Stream `n`. -/
def Dev.stream (d : Dev) (n : Nat) : StreamUnit := nth {} d.streams n

/-- Changes stream `n`. -/
def Dev.onStream (n : Nat) (f : StreamUnit → StreamUnit) (d : Dev) : Dev := { d with streams := updAt d.streams n f }

/-- Width, height and format of stream `n`. -/
def Dev.inWidth (d : Dev) (n : Nat) : Nat := d.get (INn_SIZE_WIDTH n)
def Dev.inHeight (d : Dev) (n : Nat) : Nat := d.get (INn_SIZE_HEIGHT n)
def Dev.inFormat (d : Dev) (n : Nat) : Nat := d.get (INn_CTRL_FORMAT n)

/-- The state of stream `n` (R148): 0 OFF, 1 WAIT, 2 FRAME, 3 GAP, 4 ABSENT. -/
def Dev.inState (d : Dev) (n : Nat) : Nat := d.get (INn_STATUS_STATE n)

/-- Bytes of a frame slot (R155). -/
def Dev.frameBytes (d : Dev) (n : Nat) : Nat := (d.inHeight n * lineBytes (d.inWidth n) (d.inFormat n) + 4095) / 4096 * 4096

/-- Device address of line `y` of slot `s` of stream `n` (R155). -/
def Dev.slotLine (d : Dev) (n s y : Nat) : Nat :=
  d.get (INn_FB_BASE_V n) * 256 + s * d.frameBytes n + y * lineBytes (d.inWidth n) (d.inFormat n)

/-- The causes of INn_LAST_ERR (R168). -/
def Dev.lastErr (n cause frame line : Nat) (d : Dev) : Dev :=
  ((d.put (INn_LAST_ERR_CAUSE n) cause).put (INn_LAST_ERR_FRAME n) frame).put (INn_LAST_ERR_LINE n) line

/-- R152: the position line, with 0xFFFF counting as −1. -/
def Dev.posLine (d : Dev) (n : Nat) : Int := if d.get (INn_POS_LINE n) = 0xFFFF then -1 else d.get (INn_POS_LINE n)

/-- Does a line-locked head follow stream `n` (R153)? -/
def Dev.lockedTo (d : Dev) (n : Nat) : Bool :=
  anyBelow 8 (fun h => d.get (LLh_CTRL_STATE h) == 2 && d.app (LLh_CTRL_STREAM h) == n)

/-- R163: line lock of the heads that follow stream `n` goes FREE while the stream is OFF or ABSENT, and SEEKs when it enters
FRAME. -/
def Dev.lockFree (n : Nat) (d : Dev) : Dev :=
  foldS (List.range 8) (fun h s =>
    if (s.get (LLh_CTRL_STATE h) = 1 ∨ s.get (LLh_CTRL_STATE h) = 2) ∧ s.app (LLh_CTRL_STREAM h) = n then s.put (LLh_CTRL_STATE h) 3 else s) d
def Dev.lockSeek (n : Nat) (d : Dev) : Dev :=
  foldS (List.range 8) (fun h s =>
    if s.get (LLh_CTRL_STATE h) = 3 ∧ s.app (LLh_CTRL_STREAM h) = n then s.put (LLh_CTRL_STATE h) 1 else s) d

/-! ### Filling positions (R151 to R155) -/

/-- R155: the slot of a frame, after the last one used, that no head scans. -/
def Dev.nextSlot (d : Dev) (n : Nat) : Option Nat :=
  let count := d.get (INn_CTRL_FB_COUNT n)
  ((List.range count).map (fun k => ((d.stream n).lastSlot + 1 + k) % count)).find?
    (fun s => !d.heads.any (fun u => u.scanSlot == some (n, s)))

/-- R155: the open frame's first line takes a slot, which from then on holds no completed frame; with none to take, the frame is not
stored. -/
def Dev.takeSlot (n : Nat) (d : Dev) : Dev :=
  let frame := d.get (INn_STATUS_FRAME n)
  match d.nextSlot n with
  | some s => d.onStream n (fun u => { u with slot := some s, slotUsed := true, done := u.done.filter (· != s),
                                              slotFrame := updAt u.slotFrame s (fun _ => frame) })
  | none => ((d.onStream n (fun u => { u with slotUsed := true })).inc (INn_FB_DROP_COUNT_V n)).lastErr n 8 frame 0

/-- Stores the bytes of line `y` of the open frame in its slot, if it has one; line-locked heads take them as they come (R182). The owner
code that names an input stream to the memory is a free value (assumption 2). -/
def Dev.storeLine (n y : Nat) (bytes : List Byte) (d : Dev) : Dev :=
  let d1 := (if (d.stream n).slotUsed then d else d.takeSlot n).onStream n (fun u => { u with loose := (y, bytes) :: u.loose })
  match (d1.stream n).slot with
  | some s => (d1.agentWrite (d1.free % 16) (d1.slotLine n s y) bytes).drawn
  | none => d1

/-- Position `y` is filled: it has arrived (R152). The interval to the head's line is measured on TB3, which no step moves. -/
def Dev.filled (n y : Nat) (d : Dev) : Dev :=
  (d.put (INn_POS_LINE n) y).onStream n (fun u => { u with arrivals := (y, (d.tb 3).total) :: u.arrivals })

/-- R151: conceals position `y` with the same line of the most recent stored frame since ENABLE was set, or with black. Where the open
frame is being written over that frame, line `y` of the slot still holds it. -/
def Dev.conceal (n y : Nat) (d : Dev) : Dev :=
  let bytes := match (d.stream n).lastStored with
    | some s => d.dpBytes (d.slotLine n s y) (8 * lineBlocks (d.inWidth n) (d.inFormat n))
    | none => blackLine (d.inWidth n) (d.inFormat n)
  (((d.storeLine n y bytes).filled n y).inc (INn_CONCEAL_COUNT_V n)).putB (INn_STATUS_CONCEALED n) true

/-- Conceals the positions between the position line and line `y`, ascending (R151). -/
def Dev.concealBelow (n y : Nat) (d : Dev) : Dev :=
  let from' := (d.posLine n + 1).toNat
  foldS ((List.range (y - from')).map (· + from')) (Dev.conceal n) d

/-- Accepts line `y` with its bytes (R150, R153). -/
def Dev.acceptLine (n y : Nat) (bytes : List Byte) (d : Dev) : Dev :=
  let d1 := ((d.concealBelow n y).storeLine n y bytes).filled n y
  if (d1.stream n).slot.isSome || d1.lockedTo n then d1.onStream n (fun u => { u with draining := u.draining + 1 }) else d1

/-- A line that fails one of checks 2 to 6: counted, and concealed at its line number (R150, R151). -/
def Dev.failLine (n : Nat) (counter : Fld) (cause : Nat) (l : OpenLine) (d : Dev) : Dev :=
  (((d.inc counter).lastErr n cause l.frame l.line).concealBelow n l.line).conceal n l.line

/-- R150: the checks of a line when it ends, in their order. `whole` tells whether check 4 found every data block and the line's
own LINE_END; `crcOk` is check 5. -/
def Dev.endLine (n : Nat) (l : OpenLine) (whole crcOk : Bool) (d : Dev) : Dev :=
  let d := d.onStream n (fun u => { u with line := none })
  if l.outside then (d.inc (INn_SEQ_ERR_COUNT_V n)).lastErr n 3 l.frame l.line
  else if !(l.frame == d.get (INn_STATUS_FRAME n) && decide (d.posLine n < l.line) && decide (l.line < d.inHeight n)) then
    (d.inc (INn_SEQ_ERR_COUNT_V n)).lastErr n 3 l.frame l.line
  else if !(l.format == d.inFormat n && l.zeroOk) then d.failLine n (INn_FORMAT_ERR_COUNT_V n) 4 l
  else if l.width ≠ d.inWidth n then d.failLine n (INn_LEN_ERR_COUNT_V n) 2 l
  else if !(whole && l.bytes.length == 8 * lineBlocks l.width l.format) then d.failLine n (INn_LEN_ERR_COUNT_V n) 2 l
  else if !crcOk then d.failLine n (INn_CRC_ERR_COUNT_V n) 1 l
  else if l.overrun then d.failLine n (INn_OVERRUN_COUNT_V n) 6 l
  else d.acceptLine n l.line l.bytes

/-- A LINE_START, FRAME_START or FRAME_END ends an open line with a failure of check 4 (R150). -/
def Dev.breakLine (n : Nat) (d : Dev) : Dev :=
  match (d.stream n).line with
  | none => d
  | some l => d.endLine n l false false

/-! ### Frames (R148, R149, R155) -/

/-- R157: a change of the generator's ENABLE takes effect between frames. -/
def Dev.tpgSwitch (n : Nat) (d : Dev) : Dev := d.onStream n (fun u => { u with tpg := d.flag (INn_TPG_CTRL_ENABLE n) })

/-- The present time of TB3 in 1/256 ns. -/
def Dev.now256 (d : Dev) : Nat := (d.tb 3).total * 256 + (d.tb 3).frac / 256

/-- The open frame completes: the positions left are concealed, its slot holds it, the counts and the line period follow. -/
def Dev.completeFrame (n : Nat) (d : Dev) : Dev :=
  let d1 := d.concealBelow n (d.inHeight n)
  let u := d1.stream n
  let d2 := d1.onStream n (fun u => { u with
    done := match u.slot with | some s => s :: u.done.filter (· != s) | none => u.done,
    lastStored := match u.slot with | some s => some s | none => u.lastStored,
    lastSlot := u.slot.getD u.lastSlot, slot := none, slotUsed := false })
  let d3 := d2.inc (INn_FRAME_COUNT_V n)
  let d4 := if 2 ≤ u.starts then d3.put (INn_LINE_PERIOD_V n) ((u.lastStart - u.firstStart) / (u.starts - 1)) else d3
  d4.tpgSwitch n

/-- A frame in progress is discarded: its slot holds no completed frame. The lines that arrived have arrived (R162). -/
def Dev.discardFrame (n : Nat) (d : Dev) : Dev :=
  d.onStream n (fun u => { u with line := none, slot := none, slotUsed := false, lastSlot := u.slot.getD u.lastSlot })

/-- A failed FRAME_MARK (R149). -/
def Dev.markErr (n frame : Nat) (d : Dev) : Dev := (d.inc (INn_MARK_ERR_COUNT_V n)).lastErr n 5 frame 0

/-- R148, R149, R152: an accepted FRAME_START opens frame `frame`. -/
def Dev.openFrame (n frame : Nat) (d : Dev) : Dev :=
  let skipped := match (d.stream n).prevFrame with
    | some p => decide (frame % 65536 ≠ (p + 1) % 65536)
    | none => false
  let d1 := if skipped then d.putB (INn_STATUS_SKIPPED n) true else d
  let d2 := (((d1.put (INn_STATUS_STATE n) 2).put (INn_STATUS_FRAME n) frame).put (INn_POS_FRAME n) frame).put (INn_POS_LINE n) 0xFFFF
  let d3 := d2.onStream n (fun u => { u with prevFrame := some (frame % 65536), slot := none, slotUsed := false,
                                             loose := [], prevLoose := u.loose,
                                             phases := u.phases.filter (fun p => !past16 p.1 frame && decide (2 ≤ p.2)),
                                             past := u.arrivals, arrivals := [], starts := 0, line := none })
  d3.lockSeek n

/-- A FRAME_MARK of phase `ph` (R140: 0 frame start, 1 frame end, 2 exposure start, 3 exposure end) and frame `frame` arrives: the armed
SHUTTER marks on it fire DELAY_US later (R115); the event is remembered (R119). -/
def Dev.phaseArrives (n ph frame : Nat) (d : Dev) : Dev :=
  let hit := filterRange 256 (fun m => d.flag (Mm_CTRL_ARM m) && d.get (Mm_TRIGGER_KIND m) == 4 && d.get (Mm_TRIGGER_SOURCE m) == n
    && d.get (Mm_TRIGGER_PHASE m) == ph && (d.flag (Mm_CTRL_REPEAT m) || d.get (Mm_WHEN_V m) / 65536 == frame % 65536))
  let at' (m : Nat) : Nat := (d.tb 3).total + 1000 * d.get (Mm_TRIGGER_DELAY_US m)
  let d1 : Dev := { d with sched := { d.sched with shots := d.sched.shots ++ hit.map (fun m => (m, at' m)) } }
  d1.onStream n (fun u => { u with phases := u.phases ++ [(frame % 65536, ph)] })

/-- Does the link feed stream `n` (R157)? -/
def Dev.fromLink (d : Dev) (n : Nat) : Bool := !(d.stream n).tpg && d.inState n != 0

/-- A FRAME_START arrives with its fields: it ends an open line first (R150), and is discarded with a nonzero byte marked 0 or another
height (R149). An accepted one measures TB2 where the stream is its FRAME_MARK source (R89). -/
def Dev.frameStart (n frame height : Nat) (zeroOk : Bool) (d : Dev) : Dev :=
  let d1 := d.breakLine n
  if !zeroOk || height != d1.inHeight n then d1.markErr n frame
  else
    let d2 := ((if d1.inState n = 2 then d1.completeFrame n else d1).openFrame n frame).phaseArrives n 0 frame
    if d2.get (TBn_CTRL_ARG 2) = n then d2.measured 2 10 (alignedOffset (d2.tb 2).total (d2.get (TBn_CTRL_PERIOD 2))) else d2

/-- A FRAME_END arrives (R149, R150). -/
def Dev.frameEnd (n frame : Nat) (zeroOk : Bool) (d : Dev) : Dev :=
  let d1 := d.breakLine n
  if !zeroOk || d1.inState n != 2 || frame != d1.get (INn_STATUS_FRAME n) then d1.markErr n frame
  else ((d1.completeFrame n).put (INn_STATUS_STATE n) 3).phaseArrives n 1 frame

/-- An accepted EXPOSURE_START, EXPOSURE_END (R147, R164): the time between a matching pair is INn_EXPOSURE_NS. -/
def Dev.exposureStart (n frame : Nat) (d : Dev) : Dev :=
  (d.onStream n (fun u => { u with exposure := some (frame, (d.tb 0).total) })).phaseArrives n 2 frame
def Dev.exposureEnd (n frame : Nat) (d : Dev) : Dev :=
  let d1 := d.phaseArrives n 3 frame
  match (d.stream n).exposure with
  | some (f, t) => if f = frame then d1.put (INn_EXPOSURE_NS_V n) (((d.tb 0).total + 2 ^ 32 - t % 2 ^ 32) % 2 ^ 32) else d1
  | none => d1

/-- STREAM_FRAME_START on the link. -/
def streamFrameStart (n frame height : Nat) (zeroOk : Bool) (d : Dev) : Dev :=
  if d.fromLink n then d.frameStart n frame height zeroOk else d

/-- STREAM_FRAME_END on the link. -/
def streamFrameEnd (n frame : Nat) (zeroOk : Bool) (d : Dev) : Dev :=
  if d.fromLink n then d.frameEnd n frame zeroOk else d

/-- The shutter phase (R147, R168): EXPOSURE_START. -/
def streamExposureStart (n frame : Nat) (zeroOk : Bool) (d : Dev) : Dev :=
  if !d.fromLink n then d
  else if !zeroOk then d.markErr n frame
  else d.exposureStart n frame

/-- EXPOSURE_END: the time from the matching EXPOSURE_START. -/
def streamExposureEnd (n frame : Nat) (zeroOk : Bool) (d : Dev) : Dev :=
  if !d.fromLink n then d
  else if !zeroOk then d.markErr n frame
  else d.exposureEnd n frame

/-- R148: the frame timer expires, or the link goes down while the stream takes its frames from it. In a rung the timer stops
(R510). A time base whose source is the stream's frame starts loses its reference with the timer (R89). -/
def streamFrameTimeout (n : Nat) (linkDown : Bool) (d : Dev) : Dev :=
  if d.inState n = 0 ∨ (linkDown = false ∧ d.inRung = true) ∨ d.inState n = 4 ∨ (linkDown = true ∧ (d.stream n).tpg = true) then d
  else
    let d1 := ((d.discardFrame n).put (INn_STATUS_STATE n) 4).inc (INn_TIMEOUT_COUNT_V n)
    let d2 := ((d1.lastErr n 7 (d1.get (INn_STATUS_FRAME n)) 0).tpgSwitch n).lockFree n
    if linkDown then d2 else d2.sourceLost 10 n

/-! ### Lines from the link (R150, R153) -/

/-- A LINE_START opens a line: the spacing of LINE_STARTs is measured, and a buffer is taken if one is free. -/
def Dev.lineStart (n format frame line width : Nat) (zeroOk : Bool) (d : Dev) : Dev :=
  let d1 := d.breakLine n
  let inFrame := decide (d1.inState n = 2)
  d1.onStream n (fun u => { u with
    line := some { format := format, frame := frame, line := line, width := width, zeroOk := zeroOk, bytes := [],
                   outside := !inFrame, overrun := decide (2 ≤ u.draining) },
    firstStart := if u.starts = 0 then d1.now256 else u.firstStart, lastStart := d1.now256,
    starts := if inFrame then u.starts + 1 else u.starts })

/-- STREAM_LINE_START. -/
def streamLineStart (n format frame line width : Nat) (zeroOk : Bool) (d : Dev) : Dev :=
  if d.fromLink n then d.lineStart n format frame line width zeroOk else d

/-- STREAM_DATA_BLOCK: the payload of one data block; outside an open line it counts in LEN_ERR (R150). -/
def streamDataBlock (n : Nat) (payload : List Byte) (d : Dev) : Dev :=
  if !d.fromLink n then d
  else match (d.stream n).line with
    | some l => d.onStream n (fun u => { u with line := some { l with bytes := l.bytes ++ payload } })
    | none => (d.inc (INn_LEN_ERR_COUNT_V n)).lastErr n 2 (d.get (INn_STATUS_FRAME n)) 0

/-- Bytes 1 to 7 of the LINE_START of a line (R145), which the CRC covers. -/
def OpenLine.head (l : OpenLine) : List Byte := leBytes 1 l.format ++ leBytes 2 l.frame ++ leBytes 2 l.line ++ leBytes 2 l.width

/-- STREAM_LINE_END with its CRC and line number. -/
def streamLineEnd (n crc line : Nat) (zeroOk : Bool) (d : Dev) : Dev :=
  if !d.fromLink n then d
  else match (d.stream n).line with
    | some l => d.endLine n { l with zeroOk := l.zeroOk && zeroOk } (line == l.line) (crc == crc16 (l.head ++ l.bytes))
    | none => (d.inc (INn_LEN_ERR_COUNT_V n)).lastErr n 2 (d.get (INn_STATUS_FRAME n)) line

/-- LINE_STORE_COMPLETE: a buffer frees (R153). -/
def lineStoreComplete (n : Nat) (d : Dev) : Dev := d.onStream n (fun u => { u with draining := u.draining - 1 })

/-! ### The test pattern generator (R157, R167) -/

/-- The eight bars (R157): RGB levels, and their BT.709 narrow-range 10-bit equivalents Y, Cb, Cr. -/
def barRgb (k max : Nat) : List Nat :=
  nth [0, 0, 0] [[max, max, max], [max, max, 0], [0, max, max], [0, max, 0], [max, 0, max], [max, 0, 0], [0, 0, max], [0, 0, 0]] k
def barYcc (k : Nat) : List Nat :=
  nth [64, 512, 512] [[940, 512, 512], [877, 64, 553], [754, 615, 64], [691, 167, 105], [313, 857, 919], [250, 409, 960],
    [127, 960, 471], [64, 512, 512]] k

/-- The channels of the generator's pixel (x, y): R, G, B or Y, Cb, Cr. -/
def Dev.tpgPixel (d : Dev) (n x y : Nat) : List Nat :=
  let w := d.inWidth n
  let ycc := d.inFormat n == 3
  let up := if d.inFormat n = 2 then 4 else 1
  let max := if d.inFormat n = 2 then 4095 else 1023
  let colour := [d.get (INn_TPG_COLOUR_R_OR_Y n) * up, d.get (INn_TPG_COLOUR_G_OR_CB n) * up, d.get (INn_TPG_COLOUR_B_OR_CR n) * up]
  let black := if ycc then [64, 512, 512] else [0, 0, 0]
  match d.get (INn_TPG_CTRL_PATTERN n) with
  | 0 => if ycc then barYcc (x * 8 / w) else barRgb (x * 8 / w) max
  | 1 => List.replicate 3 (x * max / (w - 1))
  | 2 => if (x / 64 + y / 64) % 2 = 0 then black else colour
  | _ => colour

/-- The channel values of the generator's line `y` in stream order (R147, R157). -/
def Dev.tpgChannels (d : Dev) (n y : Nat) : List Nat :=
  if d.inFormat n = 3 then
    (List.range (d.inWidth n / 2)).flatMap (fun k =>
      let e := d.tpgPixel n (2 * k) y
      let o := d.tpgPixel n (2 * k + 1) y
      [nth 0 e 1, nth 0 e 0, nth 0 e 2, nth 0 o 0])
  else (List.range (d.inWidth n)).flatMap (fun x => d.tpgPixel n x y)

/-- TPG_FRAME_START: the generator opens a frame, numbered on from the stream's last one; EXPOSURE_START coincides. -/
def tpgFrameStart (n : Nat) (d : Dev) : Dev :=
  if d.inState n ≠ 0 ∧ (d.stream n).tpg = true ∧ d.inRung = false then
    let f := (match (d.stream n).prevFrame with | some p => p + 1 | none => d.get (INn_STATUS_FRAME n) + 1) % 65536
    let d1 := d.onStream n (fun u => { u with tpgLine := 0 })
    (d1.frameStart n f (d.inHeight n) true).exposureStart n f
  else d

/-- TPG_LINE: the generator's next line, which passes the checks; FRAME_END follows line HEIGHT − 1, with EXPOSURE_END. -/
def tpgLine (n : Nat) (d : Dev) : Dev :=
  let y := (d.stream n).tpgLine
  if (d.stream n).tpg = true ∧ d.inState n = 2 ∧ y < d.inHeight n then
    let f := d.get (INn_STATUS_FRAME n)
    let bytes := packLine (d.inWidth n) (d.inFormat n) (d.tpgChannels n y)
    let d1 := d.lineStart n (d.inFormat n) f y (d.inWidth n) true
    let d2 := match (d1.stream n).line with
      | some l => d1.endLine n { l with bytes := bytes, overrun := false } true true
      | none => d1
    let d3 := d2.onStream n (fun u => { u with tpgLine := y + 1 })
    if y + 1 = d.inHeight n then (d3.frameEnd n f true).exposureEnd n f else d3
  else d

/-! ### Writes of the stream's registers (R154, R164 to R167) -/

/-- Does the stream's frame buffer region lie in DRAM (R154, R426)? -/
def fbFits (width height format fbCount base : Nat) : Bool :=
  decide (base * 256 + fbCount * ((height * lineBytes width format + 4095) / 4096 * 4096) ≤ 0x1DC000000)

/-- R154, R166: may INn_CTRL take `v`? -/
def inCtrlOk (n v : Nat) (d : Dev) : Bool :=
  let on := d.flag (INn_CTRL_ENABLE n)
  !(on && (bitsOf v 24 4 != d.inFormat n || bitsOf v 20 3 != d.get (INn_CTRL_FB_COUNT n)))
    && !(bitsOf v 24 4 == 3 && d.inWidth n % 2 == 1)
    && !(!on && bitOf v 31 && !fbFits (d.inWidth n) (d.inHeight n) (bitsOf v 24 4) (bitsOf v 20 3) (d.get (INn_FB_BASE_V n)))

/-- R148: what setting or clearing ENABLE does. The stored frames stay: heads show the newest until a newer one completes (R156). -/
def Dev.inCtrlWritten (n : Nat) (was : Bool) (d : Dev) : Dev :=
  let on := d.flag (INn_CTRL_ENABLE n)
  if on && !was then
    let d1 := [INn_CRC_ERR_COUNT_V n, INn_LEN_ERR_COUNT_V n, INn_SEQ_ERR_COUNT_V n, INn_FORMAT_ERR_COUNT_V n, INn_MARK_ERR_COUNT_V n,
      INn_OVERRUN_COUNT_V n, INn_CONCEAL_COUNT_V n, INn_FB_DROP_COUNT_V n, INn_TIMEOUT_COUNT_V n, INn_FRAME_COUNT_V n].foldl
      (fun s f => s.put f 0) d
    ((d1.onStream n (fun u => { ({} : StreamUnit) with
      tpg := u.tpg, done := u.done, slotFrame := u.slotFrame, lastSlot := u.lastSlot, draining := u.draining, arrivals := u.arrivals,
      past := u.past, loose := u.loose, prevLoose := u.prevLoose })).tpgSwitch n).put (INn_STATUS_STATE n) 1
  else if !on && was then (((d.discardFrame n).put (INn_STATUS_STATE n) 0).tpgSwitch n).lockFree n
  else d

/-- A write of INn_CTRL. -/
def inCtrlWrite (n v : Nat) (d : Dev) : Dev :=
  d.writeVia (INn_CTRL n) v (inCtrlOk n v) (fun s => s.inCtrlWritten n (d.flag (INn_CTRL_ENABLE n)))

/-- R154, R166, R167: may INn_SIZE take `v`? -/
def inSizeOk (n v : Nat) (d : Dev) : Bool :=
  !(d.flag (INn_CTRL_ENABLE n) && v != d.word (INn_SIZE n)) && !(d.inFormat n == 3 && bitsOf v 16 16 % 2 == 1)
    && !(d.flag (INn_TPG_CTRL_ENABLE n) && decide (d.get (INn_TPG_CTRL_VTOTAL n) ≤ bitsOf v 0 16))

/-- R154: INn_FB_BASE changes only while ENABLE is 0. -/
def inFbBaseOk (n v : Nat) (d : Dev) : Bool := !(d.flag (INn_CTRL_ENABLE n) && v != d.word (INn_FB_BASE n))

/-- R167: VTOTAL exceeds HEIGHT while the generator is enabled. -/
def tpgCtrlOk (n v : Nat) (d : Dev) : Bool := !(bitOf v 31 && decide (bitsOf v 0 14 ≤ d.inHeight n))

/-- R157: a write of INn_TPG_CTRL takes effect at once when no frame is in progress. -/
def Dev.tpgCtrlWritten (n : Nat) (d : Dev) : Dev := if d.inState n = 2 then d else d.tpgSwitch n

/-! ### The commands -/

/-- STREAM_FRAME_TIMEOUT. -/
def execStreamFrameTimeout (n : Fin 4) (linkDown : Bool) (s : State) := s.on (streamFrameTimeout n linkDown)
/-- LINE_STORE_COMPLETE. -/
def execLineStoreComplete (n : Fin 4) (s : State) := s.on (lineStoreComplete n)
/-- TPG_FRAME_START. -/
def execTpgFrameStart (n : Fin 4) (s : State) := s.on (tpgFrameStart n)

end Sys2Proof.Machine
end

