-- ==== Sys2Proof/Machine/Tile.lean ====
section
/-! DEFINITION. The tile code: formats, code tables, the encoder and the decoder, fixed-budget codes (chapter 13, R452 to R467).
Bits are lists in stream order. -/
namespace Sys2Proof.Machine

/-! ### Formats (R452, R453) -/

/-- The depths of the components of a format code; none for a reserved code. -/
def fmtDepths (code : Nat) : List Nat := match code with
  | 1 => [6, 6, 6] | 2 => [8, 8, 8] | 3 => [10, 10, 10] | 4 => [12, 12, 12] | 5 => [16, 16, 16]
  | 6 => [10, 10, 10, 8, 8, 8] | 7 => [8] | 8 => [16] | _ => []

/-- Bits of one pixel. -/
def fmtBits (code : Nat) : Nat := (fmtDepths code).foldl (· + ·) 0

/-- A tile: 64 pixels in row-major order, each a list of component values. -/
abbrev Tile := List (List Nat)

/-- Component `c` of pixel `j`. -/
def Tile.at (t : Tile) (j c : Nat) : Nat := nth 0 (nth [] t j) c

/-- The `n` bits of `v`, least significant first (R454). -/
def bitsLsb : Nat → Nat → List Bool
  | 0, _ => []
  | n + 1, v => (v % 2 == 1) :: bitsLsb n (v / 2)

/-- The number that bits spell, least significant first. -/
def ofBits : List Bool → Nat
  | [] => 0
  | b :: r => b2n b + 2 * ofBits r

/-- The bytes of a bitstream; unused bits of the last byte are 0 (R454). -/
def bytesOfBits (l : List Bool) : List Byte := leBytes ((l.length + 7) / 8) (ofBits l)

/-- The bits of bytes in stream order. -/
def bitsOfBytes (l : List Byte) : List Bool := l.flatMap (fun b => bitsLsb 8 b.toNat)

/-- A raw tile as bits (R453). -/
def rawBits (fmt : Nat) (t : Tile) : List Bool :=
  t.flatMap (fun px => ((fmtDepths fmt).zip px).flatMap (fun p => bitsLsb p.1 p.2))

/-- Splits values of the given depths off a bitstream. -/
def takeFields : List Nat → List Bool → List Nat × List Bool
  | [], l => ([], l)
  | d :: r, l => let (v, l') := takeFields r (l.drop d); (ofBits (l.take d) :: v, l')

/-- Reads `n` pixels of raw components. -/
def takeRaw (fmt : Nat) : Nat → List Bool → Tile × List Bool
  | 0, l => ([], l)
  | n + 1, l =>
    let (px, l1) := takeFields (fmtDepths fmt) l
    let (t, l2) := takeRaw fmt n l1
    (px :: t, l2)

/-- The raw tile that bytes hold. -/
def tileOfBytes (fmt : Nat) (l : List Byte) : Tile := (takeRaw fmt 64 (bitsOfBytes l)).1

/-- Bytes of a raw tile. -/
def rawBytes (fmt : Nat) : Nat := 8 * fmtBits fmt

/-! ### Code tables (R460, R461) -/

/-- Symbols with length `n`, among those present. -/
def lenCount (l : List Nat) (n : Nat) : Nat := if n = 0 then 0 else l.countP (· == n)

/-- The first code of length `n` (R460); symbols that are absent are not counted (DEDUCED, assumption 19). -/
def firstCode (l : List Nat) : Nat → Nat
  | 0 => 0
  | n + 1 => (firstCode l n + lenCount l n) * 2

/-- The code of symbol `k`. -/
def codeOf (l : List Nat) (k : Nat) : Nat := firstCode l (nth 0 l k) + lenCount (l.take k) (nth 0 l k)

/-- The bits of a code word, most significant first (R454). -/
def codeWord (l : List Nat) (k : Nat) : List Bool := (bitsLsb (nth 0 l k) (codeOf l k)).reverse

/-- Σ 2^(15 − L) over the present symbols of a slot. -/
def kraft (l : List Nat) : Nat := (l.map (fun n => if n = 0 then 0 else 2 ^ (15 - n))).foldl (· + ·) 0

/-- R460: is a slot valid? -/
def slotOk (l : List Nat) : Bool := decide (kraft l ≤ 2 ^ 15) && nth 0 l 17 != 0

/-- A table: the lengths of the six slots. -/
abbrev CodeTable := List (List Nat)

/-- R460: is a table valid? -/
def tableOk (t : CodeTable) : Bool := allBelow 6 (fun s => slotOk (nth [] t s))

/-- R461: the built-in tables 0 to 3. -/
def builtInTable (t : Nat) : CodeTable := List.replicate 6 (match t with
  | 0 => [1, 2, 3, 4, 5, 6, 7, 8, 9, 10, 11, 12, 13, 15, 15, 15, 0, 15]
  | 1 => [3, 3, 2, 3, 3, 4, 5, 6, 7, 8, 9, 10, 11, 12, 13, 14, 15, 15]
  | 2 => [5, 5, 4, 3, 3, 2, 3, 3, 4, 5, 6, 7, 8, 9, 10, 11, 12, 12]
  | _ => List.replicate 18 5)

/-- The 54 bytes of LENGTHS (R455). -/
def tableBytes (t : CodeTable) : List Byte := bytesOfBits (t.flatMap (fun l => l.flatMap (bitsLsb 4)))

/-- The table that 54 bytes of LENGTHS spell. -/
def tableOfBytes (l : List Byte) : CodeTable :=
  (List.range 6).map (fun s => (List.range 18).map (fun k => bitsOf (ofLE l) ((s * 18 + k) * 4) 4))

/-! ### Prediction and residuals (R457, R458) -/

/-- The middle of three values. -/
def median3 (a b c : Int) : Int := max (min a b) (min (max a b) c)

/-- The predictor `pred` of component `c` (depth `d`) at pixel `j`, from the pixels before it. -/
def predict (pred d : Nat) (px : Tile) (c j : Nat) : Nat :=
  let u := j % 8
  let v := j / 8
  let a := px.at (j - 1) c
  let b := px.at (j - 8) c
  let e := px.at (j - 9) c
  if j = 0 then 0
  else if v = 0 then a
  else if u = 0 then b
  else match pred with
    | 0 => a
    | 1 => b
    | _ => (median3 a b (clampI 0 (2 ^ d - 1) ((a : Int) + b - e))).toNat

/-- The z of R458. -/
def residual (d x p : Nat) : Nat :=
  let r := sgn d (x + 2 ^ d - p)
  if 0 ≤ r then (2 * r).toNat else (-2 * r - 1).toNat

/-- The category of z: its number of significant bits. -/
def category (z : Nat) : Nat := if z = 0 then 0 else Nat.log2 z + 1

/-- Does ESCAPE replace category `k` (R464)? -/
def escapes (l : List Nat) (k : Nat) : Bool := nth 0 l k == 0 || decide (nth 0 l 17 < nth 0 l k)

/-- The bits of one residual symbol. -/
def symbolBits (l : List Nat) (d x p : Nat) : List Bool :=
  let z := residual d x p
  let k := category z
  if escapes l k then codeWord l 17 ++ bitsLsb d x
  else codeWord l k ++ bitsLsb (k - 1) (z - 2 ^ (k - 1))

/-- The symbol that a value takes: a category, or 17. -/
def symbolOf (l : List Nat) (d x p : Nat) : Nat := let k := category (residual d x p); if escapes l k then 17 else k

/-- The bits of each pixel of a CODED tile. -/
def pixelBits (fmt pred : Nat) (tab : CodeTable) (t : Tile) : List (List Bool) :=
  (List.range t.length).map (fun j =>
    ((fmtDepths fmt).zipIdx).flatMap (fun (d, c) => symbolBits (nth [] tab c) d (t.at j c) (predict pred d t c j)))

/-- Total length. -/
def bitLen (l : List (List Bool)) : Nat := (l.map List.length).foldl (· + ·) 0

/-- R464: the predictor with the smallest result over LEFT, TOP and MEDIAN in that order of preference, or the one asked for
(descriptor PRED 1 LEFT, 2 TOP, 3 MEDIAN). -/
def choosePred (fmt asked : Nat) (tab : CodeTable) (t : Tile) : Nat :=
  if asked ≠ 0 then asked - 1
  else
    let n0 := bitLen (pixelBits fmt 0 tab t)
    let n1 := bitLen (pixelBits fmt 1 tab t)
    let n2 := bitLen (pixelBits fmt 2 tab t)
    if n0 ≤ n1 ∧ n0 ≤ n2 then 0 else if n1 ≤ n2 then 1 else 2

/-! ### The decoder (R458, R465) -/

/-- Why a stream does not decode: its input ends, or it is wrong (R465). -/
inductive BadStream where
  | ends | wrong
deriving DecidableEq, Repr

/-- What reading a stream gives. -/
abbrev Reading (α : Type) := Except BadStream α

/-- Reads one code word: the symbol and the bits after it. -/
def readSymbol (l : List Nat) : List Bool → Nat → Nat → Reading (Nat × List Bool)
  | [], _, _ => .error .ends
  | b :: r, n, code =>
    let code' := code * 2 + b2n b
    match (List.range 18).find? (fun k => nth 0 l k == n + 1 && codeOf l k == code') with
    | some k => .ok (k, r)
    | none => if n ≥ 14 then .error .wrong else readSymbol l r (n + 1) code'

/-- Reads `n` bits, least significant first. -/
def readBits (n : Nat) (l : List Bool) : Reading (Nat × List Bool) :=
  if l.length < n then .error .ends else .ok (ofBits (l.take n), l.drop n)

/-- Reads one component value. -/
def readValue (l : List Nat) (d p : Nat) (bits : List Bool) : Reading (Nat × List Bool) :=
  match readSymbol l bits 0 0 with
  | .error e => .error e
  | .ok (17, r) => readBits d r
  | .ok (0, r) => .ok (p % 2 ^ d, r)
  | .ok (k, r) =>
    match readBits (k - 1) r with
    | .error e => .error e
    | .ok (x, r') =>
      let z := x + 2 ^ (k - 1)
      .ok (unsgn d ((p : Int) + (if z % 2 = 0 then (z : Int) / 2 else -((z + 1 : Int) / 2))), r')

/-- Reads the components of pixel `j`, given the pixels before it. -/
def readPixel (pred : Nat) (tab : CodeTable) (px : Tile) (j : Nat) : List (Nat × Nat) → List Bool → Reading (List Nat × List Bool)
  | [], bits => .ok ([], bits)
  | (d, c) :: r, bits =>
    match readValue (nth [] tab c) d (predict pred d px c j) bits with
    | .error e => .error e
    | .ok (x, b1) =>
      match readPixel pred tab px j r b1 with
      | .error e => .error e
      | .ok (xs, b2) => .ok (x :: xs, b2)

/-- Reads `n` more pixels of a CODED tile. -/
def readPixels (fmt pred : Nat) (tab : CodeTable) : Nat → Tile → List Bool → Reading (Tile × List Bool)
  | 0, px, bits => .ok (px, bits)
  | n + 1, px, bits =>
    match readPixel pred tab px px.length (fmtDepths fmt).zipIdx bits with
    | .error e => .error e
    | .ok (p, b1) => readPixels fmt pred tab n (px ++ [p]) b1

/-- Reads a tile of KIND 0 or 1 after its KIND field. -/
def readTile (fmt kind : Nat) (tab : CodeTable) (bits : List Bool) : Reading (Tile × List Bool) :=
  if kind = 0 then
    match readBits 2 bits with
    | .ok (pred, r) => if pred = 3 then .error .wrong else readPixels fmt pred tab 64 [] r
    | .error e => .error e
  else if bits.length < 64 * fmtBits fmt then .error .ends
  else .ok (takeRaw fmt 64 bits)

/-! ### Bare tiles and fixed-budget codes (R459, R467) -/

/-- Is the CODED tile, of `n` bits with KIND and PRED, replaced by RAW (R464)? -/
def rawWins (fmt n : Nat) : Bool := decide (64 * fmtBits fmt ≤ n)

/-- The bytes of a bare tile. -/
def bareTile (fmt table asked : Nat) (tab : CodeTable) (t : Tile) : List Byte :=
  let pred := choosePred fmt asked tab t
  let coded := bitsLsb 2 0 ++ bitsLsb 2 pred ++ (pixelBits fmt pred tab t).flatten
  bytesOfBits (bitsLsb 3 table ++ (if rawWins fmt coded.length then bitsLsb 2 1 ++ rawBits fmt t else coded))

/-- Reads `n` pixels of a bare tile; `tabs` gives the valid tables. -/
def readBare (fmt : Nat) (tabs : Nat → Option CodeTable) (n : Nat) (bytes : List Byte) : Option Tile :=
  match readBits 3 (bitsOfBytes bytes) with
  | .error _ => none
  | .ok (tn, b1) =>
    match tabs tn, readBits 2 b1 with
    | some tab, .ok (0, b2) =>
      match readBits 2 b2 with
      | .ok (pred, b3) => if pred = 3 then none else (readPixels fmt pred tab n [] b3).toOption.map Prod.fst
      | .error _ => none
    | some tab, .ok (1, b2) => (readTile fmt 1 tab b2).toOption.map (fun p => p.1.take n)
    | _, _ => none

/-- A fixed-budget code of at most `budget` bytes (R467): its bytes and cover. With `part` it stops at a pixel boundary;
otherwise it fits whole or not at all. -/
def fixedBudget (fmt table budget : Nat) (tab : CodeTable) (part : Bool) (t : Tile) : Option (List Byte × Nat) :=
  let pred := choosePred fmt 0 tab t
  let head := bitsLsb 3 table ++ bitsLsb 2 0 ++ bitsLsb 2 pred
  let px := pixelBits fmt pred tab t
  let cover := (List.range (px.length + 1)).foldl (fun best n => if head.length + bitLen (px.take n) ≤ 8 * budget then n else best) 0
  if part || cover == px.length then some (bytesOfBits (head ++ (px.take cover).flatten), cover) else none

/-! ### Dynamic tables (R463) -/

/-- One package of the package-merge method: its weight and the symbols in it. -/
abbrev Package := Nat × List Nat

/-- Inserts a package in order of weight, after those of equal weight. -/
def insertPackage (p : Package) : List Package → List Package
  | [] => [p]
  | q :: r => if p.1 < q.1 then p :: q :: r else q :: insertPackage p r

/-- Pairs neighbours into packages. -/
def pairPackages : List Package → List Package
  | a :: b :: r => (a.1 + b.1, a.2 ++ b.2) :: pairPackages r
  | _ => []

/-- The lists of package-merge after `n` rounds. -/
def packages (leaves : List Package) : Nat → List Package
  | 0 => leaves
  | n + 1 => leaves.foldl (fun l p => insertPackage p l) (pairPackages (packages leaves n))

/-- Code lengths of at most 15 that are optimal for the counts, by package-merge. -/
def packageMerge (counts : List Nat) : List Nat :=
  let leaves := (counts.zipIdx.filter (fun p => p.1 != 0)).foldl (fun l p => insertPackage (p.1, [p.2]) l) []
  if leaves.length ≤ 1 then counts.map (fun n => if n = 0 then 0 else 1)
  else
    let chosen := ((packages leaves 14).take (2 * leaves.length - 2)).flatMap Prod.snd
    (List.range 18).map (fun k => chosen.countP (· == k))

/-- The cost of lengths for the counts. -/
def codeCost (counts lens : List Nat) : Nat := ((counts.zip lens).map (fun p => p.1 * p.2)).foldl (· + ·) 0

/-- R463: the encoder's lengths for a slot: any that are optimal; which of them is left open (`Config.lengthChoice`). -/
def optimalLengths (counts : List Nat) : List Nat :=
  let best := packageMerge counts
  let c := Config.lengthChoice counts
  if c.length == 18 && decide (kraft c ≤ 2 ^ 15) && c.all (· ≤ 15) && allBelow 18 (fun k => (nth 0 c k == 0) == (nth 0 counts k == 0))
      && codeCost counts c == codeCost counts best then c
  else best

/-! ### Segments (R455, R456, R464) -/

/-- One atomic part of a coded stream (R473): its bits, and the tiles and pixels consumed once it is written. -/
structure Chunk where
  bits : List Bool
  tiles : Nat
  pixels : Nat
  /-- What the part is: 0 header, 1 KIND and PRED, 2 a pixel, 3 a run. -/
  what : Nat
  /-- The ESCAPE symbols in it. -/
  esc : Nat := 0
deriving DecidableEq, Repr

/-- How the encoder writes a tile. -/
inductive TileSym where
  | coded (t : Tile) (pred : Nat)
  | raw (t : Tile)
  | left (run : Nat)
  | ref (run : Nat)
deriving DecidableEq, Repr

/-- R464: the symbols of a segment's tiles. `refs` holds the reference tiles when REF is set; `row i` numbers tile `i`'s row. -/
def tileSyms (fmt asked : Nat) (tab : CodeTable) (row : Nat → Nat) (tiles refs : List Tile) : List TileSym :=
  ((List.range tiles.length).foldl (fun (acc : List TileSym) i =>
    let t := nth [] tiles i
    if i ≠ 0 ∧ row i = row (i - 1) ∧ t = nth [] tiles (i - 1) then
      match acc with
      | .left n :: r => if n < 64 then .left (n + 1) :: r else .left 1 :: acc
      | _ => .left 1 :: acc
    else if refs[i]? = some t then
      match acc with
      | .ref n :: r => if n < 64 then .ref (n + 1) :: r else .ref 1 :: acc
      | _ => .ref 1 :: acc
    else
      let pred := choosePred fmt asked tab t
      if rawWins fmt (4 + bitLen (pixelBits fmt pred tab t)) then .raw t :: acc else .coded t pred :: acc) []).reverse

/-- The header of a segment (R455). -/
def segHeader (ref : Bool) (fmt table first rowTiles count : Nat) (dyn : CodeTable) : List Byte :=
  leBytes 2 0x4354 ++ leBytes 1 (1 + 16 * b2n ref) ++ leBytes 1 (fmt + 16 * table)
    ++ leBytes 4 (first % 2 ^ 21 + (rowTiles - 1) % 1024 * 2 ^ 21) ++ leBytes 2 count
    ++ (if table = 15 then tableBytes dyn else List.replicate 54 0)

/-- The ESCAPE symbols of pixel `j` of a CODED tile. -/
def pixelEscapes (fmt pred : Nat) (tab : CodeTable) (t : Tile) (j : Nat) : Nat :=
  (fmtDepths fmt).zipIdx.countP (fun (d, c) => symbolOf (nth [] tab c) d (t.at j c) (predict pred d t c j) == 17)

/-- The parts of the symbols after `done` tiles. -/
def symChunks (fmt : Nat) (tab : CodeTable) : List TileSym → Nat → List Chunk
  | [], _ => []
  | .coded t pred :: r, n =>
    let px := pixelBits fmt pred tab t
    { bits := bitsLsb 2 0 ++ bitsLsb 2 pred, tiles := n, pixels := 0, what := 1 }
      :: (px.zipIdx.map (fun (b, j) =>
            { bits := b, tiles := n + (j + 1) / 64, pixels := (j + 1) % 64, what := 2, esc := pixelEscapes fmt pred tab t j }))
      ++ symChunks fmt tab r (n + 1)
  | .raw t :: r, n =>
    { bits := bitsLsb 2 1, tiles := n, pixels := 0, what := 1 }
      :: ((t.map (fun px => rawBits fmt [px])).zipIdx.map
            (fun (b, j) => { bits := b, tiles := n + (j + 1) / 64, pixels := (j + 1) % 64, what := 2 }))
      ++ symChunks fmt tab r (n + 1)
  | .left run :: r, n =>
    { bits := bitsLsb 2 2 ++ bitsLsb 6 (run - 1), tiles := n + run, pixels := 0, what := 3 } :: symChunks fmt tab r (n + run)
  | .ref run :: r, n =>
    { bits := bitsLsb 2 3 ++ bitsLsb 6 (run - 1), tiles := n + run, pixels := 0, what := 3 } :: symChunks fmt tab r (n + run)

/-- R463: the counts of the symbols of slot `c` over the CODED tiles. -/
def slotCounts (fmt : Nat) (tab : CodeTable) (syms : List TileSym) (c : Nat) : List Nat :=
  let d := nth 0 (fmtDepths fmt) c
  let ks := if c < (fmtDepths fmt).length then
      syms.flatMap (fun s => match s with
        | .coded t pred => (List.range 64).map (fun j => symbolOf (nth [] tab c) d (t.at j c) (predict pred d t c j))
        | _ => [])
    else []
  (List.range 18).map (fun k => let n := ks.countP (· == k); if k = 17 then max 1 n else n)

/-- The second pass of a dynamic segment: RAW is decided anew with the built lengths (R463, R464). -/
def recode (fmt : Nat) (tab : CodeTable) (predOf : Tile → Nat) (s : TileSym) : TileSym :=
  let again (t : Tile) (pred : Nat) : TileSym :=
    if rawWins fmt (4 + bitLen (pixelBits fmt pred tab t)) then .raw t else .coded t pred
  match s with
  | .coded t pred => again t pred
  | .raw t => again t (predOf t)
  | s => s

/-- The parts of one segment. `table` 15 is dynamic; `tab` is the static table otherwise. -/
def segChunks (fmt table asked : Nat) (tab : CodeTable) (ref : Bool) (first rowTiles done : Nat) (tiles refs : List Tile) : List Chunk :=
  let row (i : Nat) := (first + i) / rowTiles
  let base := if table = 15 then builtInTable 1 else tab
  let syms := tileSyms fmt asked base row tiles (if ref then refs else [])
  let dyn := (List.range 6).map (fun c => optimalLengths (slotCounts fmt base syms c))
  let use := if table = 15 then dyn else tab
  let final := if table = 15 then syms.map (recode fmt dyn (choosePred fmt asked base)) else syms
  let head := segHeader ref fmt table first rowTiles tiles.length dyn
  { bits := bitsOfBytes head, tiles := done, pixels := 0, what := 0 } :: symChunks fmt use final done

/-- How many parts begin a tile of KIND `kind`, or are a run of KIND `kind` (R456). -/
def kindCount (l : List Chunk) (kind : Nat) : Nat :=
  l.countP (fun c => (c.what == 1 || c.what == 3) && ofBits (c.bits.take 2) == kind)

/-- The bytes of one segment. -/
def segment (fmt table asked : Nat) (tab : CodeTable) (ref : Bool) (first rowTiles : Nat) (tiles refs : List Tile) : List Byte :=
  bytesOfBits ((segChunks fmt table asked tab ref first rowTiles 0 tiles refs).flatMap Chunk.bits)

/-- The tiles of a run of KIND 2 or 3 of `k` tiles after `tiles` (R456): a run of references breaks the rule without a reference, and
gives the tiles of the reference that have been read. -/
def runTiles (kind k : Nat) (ref : Bool) (row : Nat → Nat) (refs : Option (List Tile)) (count : Nat) (tiles : List Tile) :
    List Tile × Reading Unit :=
  let n := tiles.length
  if count < n + k then ([], .error .wrong)
  else if kind = 2 then
    if n ≠ 0 ∧ row (n - 1) = row (n + k - 1) then (List.replicate k (nth [] tiles (n - 1)), .ok ()) else ([], .error .wrong)
  else match ref, refs with
    | true, some l => ((l.drop n).take k, if n + k ≤ l.length then .ok () else .error .ends)
    | _, _ => ([], .error .wrong)

/-- Reads the tiles of a segment's body (R456, R465): the tiles before the first that does not decode, and the bits after the
last tile where all do. -/
def readTiles (fmt : Nat) (tab : CodeTable) (ref : Bool) (row : Nat → Nat) (refs : Option (List Tile)) (count : Nat) :
    Nat → List Tile → List Bool → List Tile × Reading (List Bool)
  | 0, tiles, bits => (tiles, .ok bits)
  | fuel + 1, tiles, bits =>
    if tiles.length = count then (tiles, .ok bits)
    else match readBits 2 bits with
      | .error e => (tiles, .error e)
      | .ok (kind, r) =>
        if kind ≤ 1 then
          match readTile fmt kind tab r with
          | .error e => (tiles, .error e)
          | .ok (t, r1) => readTiles fmt tab ref row refs count fuel (tiles ++ [t]) r1
        else match readBits 6 r with
          | .error e => (tiles, .error e)
          | .ok (run, r1) =>
            match runTiles kind (run + 1) ref row refs count tiles with
            | (new, .error e) => (tiles ++ new, .error e)
            | (new, .ok _) => readTiles fmt tab ref row refs count fuel (tiles ++ new) r1

/-- Decodes one segment (R455, R465): its format, first tile and tiles, and the bytes after it where every tile decodes. `tabs` gives
the valid tables and `refs` the reference tiles from the segment's first on, where the job has a reference. A TILE_COUNT out of its
range is no cause of R465. -/
def readSegmentPart (tabs : Nat → Option CodeTable) (refs : Option (List Tile)) (bytes : List Byte) :
    Reading (Nat × Nat × List Tile × Reading (List Byte)) :=
  let h := ofLE (bytes.take 64)
  let fmt := bitsOf h 24 4
  let table := bitsOf h 28 4
  let first := bitsOf h 32 21
  let rowTiles := bitsOf h 53 10 + 1
  let count := bitsOf h 64 16
  let lens := tableOfBytes ((bytes.take 64).drop 10)
  let tab := if table = 15 then (if tableOk lens then some lens else none) else if table < 8 then tabs table else none
  let headOk := bitsOf h 0 16 == 0x4354 && bitsOf h 16 4 == 1 && bitsOf h 21 3 == 0 && fmtDepths fmt != []
    && bitsOf h 63 1 == 0 && (table == 15 || (bytes.take 64).drop 10 == List.replicate 54 0)
  if bytes.length < 64 then .error .ends
  else match headOk, tab with
    | true, some tb =>
      let p := readTiles fmt tb (bitOf h 20) (fun i => (first + i) / rowTiles) refs count count [] (bitsOfBytes (bytes.drop 64))
      .ok (fmt, first, p.1, match p.2 with
        | .ok rest => .ok (bytes.drop (64 + ((bytes.length - 64) * 8 - rest.length + 7) / 8))
        | .error e => .error e)
    | _, _ => .error .wrong

/-- Decodes one whole segment without a reference. -/
def readSegment (tabs : Nat → Option CodeTable) (bytes : List Byte) : Option (Nat × Nat × List Tile × List Byte) :=
  match readSegmentPart tabs none bytes with
  | .ok (fmt, first, tiles, .ok rest) => some (fmt, first, tiles, rest)
  | _ => none

end Sys2Proof.Machine
end

