-- ==== Sys2Proof/Machine/Stages.lean ====
section
/-! DEFINITION. What the stages compute (chapters 05 and 06): each is a function from pictures to pictures, with the parameters
that are applied and the tables and buffers as memory holds them. -/
namespace Sys2Proof.Machine

/-! ### Heads and their chains (R47, R48, R180) -/

/-- A frame of head `h` is down for `cause` (R504, R508): 1 ABORT, 2 PARITY, 3 UNCORR, 4 LANE. -/
def Dev.headDown (h cause : Nat) (d : Dev) : Dev := d.onHead h (fun u => { u with down := if u.down = 0 then cause else u.down })

/-- The fabric state of head `h`. -/
def Dev.fab (d : Dev) (h : Nat) : FabricUnit := (d.head h).fab

/-- Changes the fabric state of head `h`. -/
def Dev.onFab (h : Nat) (f : FabricUnit → FabricUnit) (d : Dev) : Dev := d.onHead h (fun u => { u with fab := f u.fab })

/-- The chain of head `h`. -/
def Dev.chain (d : Dev) (h : Nat) : List StageEntry := (d.head h).sect.chain

/-- The stage entry of type `kind` in head `h`'s chain. -/
def Dev.stage (d : Dev) (h kind : Nat) : Option StageEntry := (d.chain h).find? (fun e => e.kind == kind)

/-- Does head `h`'s chain hold a stage of type `kind`? -/
def Dev.has (d : Dev) (h kind : Nat) : Bool := (d.stage h kind).isSome

/-- The links of head `h`: the bits of FORMAT's link mask, ascending (R48). -/
def Dev.headLinks (d : Dev) (h : Nat) : List Nat := match d.stage h 14 with
  | some e => onesOf 16 e.param
  | none => []

/-- The device address of a stage's line/LUT memory (R180). -/
def Dev.lmBase (d : Dev) (h : Nat) (e : StageEntry) : Nat :=
  0x4200000000 + (d.get (TACK_HEADn_LINEMEM_BASE h) + e.lmOffset) * 4096

/-- The size of the raster at a stage of head `h` (R175): the source window before SCALE, else the active area or the panel. -/
def Dev.activeSize (d : Dev) (h : Nat) : Nat × Nat :=
  if d.isMip h then (d.app (HDn_MIP_PANEL_WIDTH h), d.app (HDn_MIP_PANEL_HEIGHT h))
  else (d.app (HDn_GAIT_HACTIVE_V h), d.app (HDn_GAIT_VACTIVE_V h))
def Dev.windowSize (d : Dev) (h : Nat) : Nat × Nat := (d.app (STh_SCALE_IN_SIZE_W_IN h), d.app (STh_SCALE_IN_SIZE_H_IN h))

/-- Is chain position `j` of head `h` before its SCALE stage? -/
def Dev.beforeScale (d : Dev) (h j : Nat) : Bool := ((d.chain h).drop (j + 1)).any (fun e => e.kind == 5)

/-- The raster size at chain position `j`. -/
def Dev.rasterAt (d : Dev) (h j : Nat) : Nat × Nat := if d.beforeScale h j then d.windowSize h else d.activeSize h

/-- The chain position of the stage of type `kind`. -/
def Dev.posOf (d : Dev) (h kind : Nat) : Nat := (d.chain h).findIdx (fun e => e.kind == kind)

/-- The shed level (R524). -/
def Dev.shedLevel (d : Dev) : Nat := d.get POWER_SHED_STATUS_LEVEL

/-- R525: does shedding bypass stages of type `kind` on head `h`? -/
def Dev.shedBypasses (d : Dev) (h kind : Nat) : Bool :=
  (kind == 7 && decide (1 ≤ d.shedLevel)) || ((kind == 8 || kind == 9) && d.isRaster h && decide (2 ≤ d.shedLevel))

/-- R179: is chain position `j`, of type `kind`, bypassed? -/
def Dev.bypassed (d : Dev) (h j kind : Nat) : Bool := bitOf (d.app (STh_BYPASS_V h)) j || d.shedBypasses h kind

/-- R177: the ASSIST instance of chain position `j`. -/
def Dev.assistOf (d : Dev) (h j : Nat) : Nat := ((d.chain h).take j).countP (fun e => e.kind == 7)

/-! ### Reads by the data plane (R181, R430) -/

/-- A table entry of `n` bytes in line/LUT memory; none where its word reads uncorrectable (R181). -/
def Dev.lmEntry (d : Dev) (a n : Nat) : Option Nat := if d.memu.poison.contains (unitOf a) then none else some (ofLE (d.bytesAt a n))

/-- The units of a head's line/LUT memory that belong to a stage of its chain. -/
def Dev.inLineMem (d : Dev) (h u : Nat) : Bool :=
  (d.chain h).any (fun e => decide (d.lmBase h e ≤ u ∧ u < d.lmBase h e + e.lmUnits * 4096))

/-- The units of head `h`'s share of the tile ledger (R290). -/
def Dev.inLedger (d : Dev) (h u : Nat) : Bool :=
  let base := 0x4100000000 + d.get (TACK_LEDGERn_BASE h) * 512
  decide (base ≤ u ∧ u < base + d.get (TACK_LEDGERn_UNITS h) * 512)

/-- The stages of head `h` read words of their line/LUT memory and of its share of the ledger, of which `errs` read with an error. -/
def Dev.lineMemRead (h : Nat) (errs : List (Nat × Ecc)) (d : Dev) : Dev :=
  (Dev.readUnits (8 + h) errs ((errs.map Prod.fst).filter (fun u => d.inLineMem h u || d.inLedger h u)) d).2

/-! ### Pixels (R172) -/

/-- A picture: its pixel at column x of line y. -/
abbrev Pic := Nat → Nat → Px

/-- Black. -/
def pxZero : Px := { c0 := 0, c1 := 0, c2 := 0 }

/-- Channel `k`. -/
def Px.ch (p : Px) (k : Nat) : Nat := match k with | 0 => p.c0 | 1 => p.c1 | _ => p.c2

/-- Clamps a result to a fabric value. -/
def clamp16 (x : Int) : Nat := (clampI 0 65535 x).toNat

/-- Widens a value of `b` bits by replication. -/
def widen (b v : Nat) : Nat := if b ≥ 16 then v % 65536 else v * 2 ^ (16 - b) + v / 2 ^ (2 * b - 16)

/-- Builds a pixel by channel, keeping the mark of `p`. -/
def Px.build (p : Px) (f : Nat → Nat) : Px := { p with c0 := f 0, c1 := f 1, c2 := f 2 }

/-- A pixel unchanged but marked: a table word for it read uncorrectable. -/
def Px.marked (p : Px) : Px := { p with bad := true }

/-- Rounds to the nearest integer, halves up. -/
def rnd (a b : Int) : Int := roundDiv a b

/-! ### UNPACK and the sources (R182, R186, R190, R274) -/

/-- The pixel at column `x` of a packed line (R147), widened. -/
def unpackPx (format width : Nat) (replicate : Bool) (line : Nat) (x : Nat) : Px :=
  match format with
  | 2 => { c0 := widen 12 (bitsOf line (36 * x) 12), c1 := widen 12 (bitsOf line (36 * x + 12) 12),
           c2 := widen 12 (bitsOf line (36 * x + 24) 12) }
  | 3 =>
    let chroma (pair : Nat) := (bitsOf line (40 * pair) 10, bitsOf line (40 * pair + 20) 10)
    let y := bitsOf line (40 * (x / 2) + (if x % 2 = 0 then 10 else 30)) 10
    let (cb, cr) := chroma (x / 2)
    let (cb', cr') := chroma (x / 2 + 1)
    let own := x % 2 == 0 || replicate || decide (width ≤ x + 1)
    { c0 := widen 10 y, c1 := widen 10 (if own then cb else (cb + cb' + 1) / 2),
      c2 := widen 10 (if own then cr else (cr + cr' + 1) / 2) }
  | _ => { c0 := widen 10 (bitsOf line (30 * x) 10), c1 := widen 10 (bitsOf line (30 * x + 10) 10),
           c2 := widen 10 (bitsOf line (30 * x + 20) 10) }

/-- The bytes of line `y` that head `h` reads from stream `n`: from the slot it scans, or, line-locked, from the lines as they came
(R182); zeros where there is no frame. -/
def Dev.streamLine (d : Dev) (h n y : Nat) : List Byte :=
  let len := 8 * lineBlocks (d.inWidth n) (d.inFormat n)
  match (d.head h).scanSlot with
  | some (_, s) => d.dpBytes (d.slotLine n s y) len
  | none => match (d.head h).scanLoose with
    | some f => (cellFind (if f = d.get (INn_POS_FRAME n) then (d.stream n).loose else (d.stream n).prevLoose) y).getD (List.replicate len 0)
    | none => List.replicate len 0

/-- The source picture of head `h`: positions beyond the source show 0. -/
def Dev.sourcePic (d : Dev) (h : Nat) : Pic := fun x y =>
  let src := (d.head h).sect.source
  if src < 4 then
    if x < d.inWidth src ∧ y < d.inHeight src then
      unpackPx (d.inFormat src) (d.inWidth src) (d.appB (STh_UNPACK_CHROMA_REPLICATE h)) (ofLE (d.streamLine h src y)) x
    else pxZero
  else
    let mip := d.isMip h
    let base := if mip then some (d.app (HDn_MIP_PIC_BASE_V h)) else (d.head h).showing
    let stride := if mip then d.app (HDn_MIP_PIC_STRIDE_V h) else d.app (HDn_QBUF_STRIDE_V h)
    let width := if mip then d.app (HDn_MIP_PANEL_WIDTH h) else d.app (HDn_QBUF_SIZE_WIDTH h)
    let inside := mip || (decide (x < width) && decide (y < d.app (HDn_QBUF_SIZE_HEIGHT h)))
    match inside, base with
    | true, some b =>
      let a := b * 256 + y * stride * 64
      if d.has h 1 then
        let fmt := d.app (STh_UNPACK_QFORMAT h)
        unpackPx fmt width (d.appB (STh_UNPACK_CHROMA_REPLICATE h)) (d.dpNum a (8 * lineBlocks width fmt)) x
      else
        let w := d.dpNum (a + 8 * x) 8
        { c0 := bitsOf w 0 16, c1 := bitsOf w 16 16, c2 := bitsOf w 32 16 }
    | _, _ => pxZero

/-! ### CSC, LUT1D, LUT3D (R183 to R185) -/

/-- CSC. -/
def Dev.cscPic (d : Dev) (h : Nat) (p : Pic) : Pic := fun x y =>
  let q := p x y
  let c (i : Nat) : Int := sgn 16 (bitsOf (d.appWord (STh_CSC_Ci h i)) 0 16)
  q.build (fun i => clamp16 ((c (3 * i) * q.c0 + c (3 * i + 1) * q.c1 + c (3 * i + 2) * q.c2 + 2048) / 4096
    + sgn 18 (bitsOf (d.appWord (STh_CSC_Ci h (9 + i))) 0 18)))

/-- How many table buffers of `u` units a stage holds (R180). -/
def buffers (e : StageEntry) (u : Nat) : Nat := min 2 (e.lmUnits / u)

/-- Does device address `a` lie in a waveform table buffer of a head (R302)? -/
def Dev.inWave (d : Dev) (a : Nat) : Bool :=
  anyBelow 8 (fun h => match d.stage h 13 with
    | some e => decide (d.lmBase h e ≤ a ∧ a < d.lmBase h e + buffers e 8 * 32768)
    | none => false)

/-- R303: what a host write at `a` stores: bytes that would land in a waveform table buffer leave it as it is, and the write is
counted. -/
def Dev.waveKept (a : Nat) (bytes : List Byte) (d : Dev) : List Byte × Dev :=
  if anyBelow bytes.length (fun k => d.inWave (a + k)) then
    ((List.range bytes.length).map (fun k => if d.inWave (a + k) then d.byteAt (a + k) else nth 0 bytes k),
      d.inc MIP_WT_STATUS_DIRECT_DROPS)
  else (bytes, d)

/-- LUT1D. -/
def Dev.lut1dPic (d : Dev) (h : Nat) (e : StageEntry) (p : Pic) : Pic := fun x y =>
  let q := p x y
  if buffers e 6 = 0 then q
  else
    let base := d.lmBase h e + d.app (STh_LUT1D_CTRL_V h) * 24576
    let one (c : Nat) : Option Nat :=
      let v := q.ch c
      let i := v / 16
      match d.lmEntry (base + c * 8192 + 2 * i) 2, d.lmEntry (base + c * 8192 + 2 * min (i + 1) 4095) 2 with
      | some a, some b => some (clamp16 ((a : Int) + rnd (((b : Int) - a) * (v % 16 : Nat)) 16))
      | _, _ => none
    match one 0, one 1, one 2 with
    | some a, some b, some c => { q with c0 := a, c1 := b, c2 := c }
    | _, _, _ => q.marked

/-- The axes by descending fraction; ties keep the order C0, C1, C2 (R185). -/
def axisOrder (f0 f1 f2 : Nat) : List Nat :=
  let ins (f : Nat → Nat) (k : Nat) (l : List Nat) : List Nat := l.takeWhile (fun j => f k ≤ f j) ++ [k] ++ l.dropWhile (fun j => f k ≤ f j)
  let f (k : Nat) : Nat := match k with | 0 => f0 | 1 => f1 | _ => f2
  ins f 2 (ins f 1 [0])

/-- LUT3D. -/
def Dev.lut3dPic (d : Dev) (h : Nat) (e : StageEntry) (p : Pic) : Pic := fun x y =>
  let q := p x y
  if buffers e 71 = 0 then q
  else
    let base := d.lmBase h e + d.app (STh_LUT3D_CTRL_V h) * (71 * 4096)
    let point (i : List Nat) : Option Nat := d.lmEntry (base + 8 * ((nth 0 i 2 * 33 + nth 0 i 1) * 33 + nth 0 i 0)) 8
    let f (k : Nat) : Nat := q.ch k % 2048
    let order := axisOrder (f 0) (f 1) (f 2)
    let i0 := [q.c0 / 2048, q.c1 / 2048, q.c2 / 2048]
    let i1 := updAt i0 (nth 0 order 0) (· + 1)
    let i2 := updAt i1 (nth 0 order 1) (· + 1)
    let i3 := updAt i2 (nth 0 order 2) (· + 1)
    match point i0, point i1, point i2, point i3 with
    | some a, some b, some c, some g =>
      q.build (fun k =>
        let at' (w : Nat) : Int := bitsOf w (16 * k) 12
        let sum : Int := (f (nth 0 order 0) : Int) * (at' b - at' a) + (f (nth 0 order 1) : Int) * (at' c - at' b)
          + (f (nth 0 order 2) : Int) * (at' g - at' c)
        widen 12 (clampI 0 4095 (at' a + rnd sum 2048)).toNat)
    | _, _, _, _ => q.marked

/-! ### SCALE (R186 to R190) -/

/-- The built-in coefficients for a ratio with 16 fraction bits. -/
def builtInCoef (ratio : Nat) : List (List Int) :=
  if ratio ≤ 65536 then coefOne else if ratio ≤ 98304 then coefTwoThirds else if ratio ≤ 131072 then coefHalf else coefQuarter

/-- Position and phase of output coordinate `p` (R187). -/
def scalePos (ratio p : Nat) : Int × Nat :=
  let s : Int := ((2 * p + 1 : Nat) : Int) * ratio - 65536
  (s / 131072, ((s % 131072) * 64 / 131072).toNat)

/-- The 8 coefficients of an axis (0 horizontal, 1 vertical); none where one reads uncorrectable. -/
def Dev.scaleTaps (d : Dev) (base axis : Nat) (table : Bool) (ratio phase : Nat) : Option (List Int) :=
  if table then (List.range 8).mapM (fun t => (d.lmEntry (base + axis * 1024 + (phase * 8 + t) * 2) 2).map (fun w => sgn 10 w))
  else some (nth [] (builtInCoef ratio) phase)

/-- Filters 8 pixels with 8 coefficients. -/
def filter8 (co : List Int) (px : List Px) : Px :=
  let sum (k : Nat) : Int := ((co.zip px).map (fun (c, q) => c * (q.ch k : Int))).foldl (· + ·) 0
  ({ pxZero with bad := px.any (·.bad) } : Px).build (fun k => clamp16 (rnd (sum k) 256))

/-- One axis: the 8 taps about position `i`, clamped to `size`. -/
def axisPx (co : Option (List Int)) (i : Int) (size : Nat) (src : Nat → Px) : Px :=
  let at' (t : Nat) : Px := src (clampI 0 (size - 1) (i - 3 + t)).toNat
  match co with
  | some c => filter8 c ((List.range 8).map at')
  | none => (at' 3).marked

/-- W_IN / W_OUT or H_IN / H_OUT to 16 fraction bits (R186). -/
def scaleRatio (a b : Nat) : Nat := (rnd ((a * 65536 : Nat) : Int) b).toNat

/-- The applied ratios. The registers show their low 18 bits. -/
def Dev.ratioH (d : Dev) (h : Nat) : Nat := scaleRatio (d.app (STh_SCALE_IN_SIZE_W_IN h)) (d.app (STh_SCALE_OUT_SIZE_W_OUT h))
def Dev.ratioV (d : Dev) (h : Nat) : Nat := scaleRatio (d.app (STh_SCALE_IN_SIZE_H_IN h)) (d.app (STh_SCALE_OUT_SIZE_H_OUT h))

/-- The unit of SCALE's line buffers that holds column `x` of source line `y` (R180): their layout is not given. -/
def Dev.scaleUnit (d : Dev) (h : Nat) (e : StageEntry) (x y : Nat) : Nat :=
  d.lmBase h e + 4096 + 8 * (Config.scaleWord x y % (9 * max 1 (d.app (STh_SCALE_OUT_SIZE_W_OUT h))))

/-- SCALE. -/
def Dev.scalePic (d : Dev) (h : Nat) (e : StageEntry) (p : Pic) : Pic := fun x n =>
  let x0 := d.app (STh_SCALE_OUT_POS_X_OUT0 h)
  let v0 := d.app (STh_SCALE_OUT_POS_V0 h)
  if x0 ≤ x ∧ x < x0 + d.app (STh_SCALE_OUT_SIZE_W_OUT h) ∧ v0 ≤ n ∧ n < v0 + d.app (STh_SCALE_OUT_SIZE_H_OUT h) then
    let base := d.lmBase h e
    let rh := d.ratioH h
    let rv := d.ratioV h
    let (ih, ph) := scalePos rh (x - x0)
    let (iv, pv) := scalePos rv (n - v0)
    let ch := d.scaleTaps base 0 (d.appB (STh_SCALE_CTRL_HCOEF_TABLE h)) rh ph
    let cv := d.scaleTaps base 1 (d.appB (STh_SCALE_CTRL_VCOEF_TABLE h)) rv pv
    let (wIn, hIn) := d.windowSize h
    let row (y : Nat) : Px :=
      if d.memu.poison.contains (d.scaleUnit h e (x - x0) y) then pxZero.marked else axisPx ch ih wIn (fun c => p c y)
    axisPx cv iv hIn row
  else { c0 := widen 10 (d.app (STh_SCALE_BORDER_C0 h)), c1 := widen 10 (d.app (STh_SCALE_BORDER_C1 h)),
         c2 := widen 10 (d.app (STh_SCALE_BORDER_C2 h)) }

/-- The picture that the first stages see before SCALE: the source window. -/
def Dev.windowPic (d : Dev) (h : Nat) (p : Pic) : Pic := fun x y => p (d.app (STh_SCALE_IN_POS_X0 h) + x) (d.app (STh_SCALE_IN_POS_Y0 h) + y)

/-- The last input line that head line `n` needs (R159); none for a line outside the picture. -/
def Dev.inputLine (d : Dev) (h n height : Nat) : Option Nat :=
  if d.has h 5 then
    let v0 := d.app (STh_SCALE_OUT_POS_V0 h)
    if v0 ≤ n ∧ n < v0 + d.app (STh_SCALE_OUT_SIZE_H_OUT h) then
      let (i, _) := scalePos (d.ratioV h) (n - v0)
      some (clampI 0 (height - 1) (i + 4)).toNat
    else none
  else if n < height then some n else none

/-! ### COMPOSE (R158, R191, R192) -/

/-- Does plane `k` have a line at line `y` of COMPOSE's raster? -/
def Dev.planeOn (d : Dev) (h k y : Nat) : Bool :=
  let y0 := d.app (OVh_p_POS_Y h k)
  d.appB (OVh_p_CTRL_ENABLE h k) && decide (y0 ≤ y ∧ y < y0 + d.app (OVh_p_SIZE_HEIGHT h k))

/-- The plane lines that COMPOSE fetches for line `y`, and the device memory of one (R192). -/
def Dev.planeLines (d : Dev) (h y : Nat) : List (Nat × Nat) :=
  if d.has h 6 && !d.bypassed h (d.posOf h 6) 6 then ((List.range 4).filter (fun k => d.planeOn h k y)).map (fun k => (k, y)) else []
def Dev.planeUnits (d : Dev) (h : Nat) (l : Nat × Nat) : List Nat :=
  unitsOf (d.app (OVh_p_BASE_V h l.1) * 256 + (l.2 - d.app (OVh_p_POS_Y h l.1)) * d.app (OVh_p_CTRL_STRIDE h l.1) * 64)
    (4 * d.app (OVh_p_SIZE_WIDTH h l.1))

/-- Of the plane lines `l` that are needed, those of `late` have not come: their planes are transparent (R192). -/
def Dev.planesLate (h : Nat) (l late : List (Nat × Nat)) (d : Dev) : Dev :=
  match l.filter late.contains with
  | [] => d
  | gone => (d.onFab h (fun u => { u with latePlanes := gone ++ u.latePlanes })).putB (STh_STATUS_PLANE_LATE h) true

/-- The pixel of plane `k` at raster position (x, y): its alpha, its value; none where the plane is not there. -/
def Dev.planePx (d : Dev) (h k x y : Nat) : Option (Nat × Px) :=
  let x0 := d.app (OVh_p_POS_X h k)
  let y0 := d.app (OVh_p_POS_Y h k)
  if d.planeOn h k y ∧ !(d.fab h).latePlanes.contains (k, y) ∧ x0 ≤ x ∧ x < x0 + d.app (OVh_p_SIZE_WIDTH h k) then
    let w := d.dpNum (d.app (OVh_p_BASE_V h k) * 256 + (y - y0) * d.app (OVh_p_CTRL_STRIDE h k) * 64 + 4 * (x - x0)) 4
    let ga := d.app (OVh_p_CTRL_GLOBAL_ALPHA h k)
    let alpha (a8 : Nat) := (rnd ((a8 * ga * 65535 : Nat) : Int) 65025).toNat
    if d.app (OVh_p_CTRL_FORMAT h k) = 2 then
      some (alpha (85 * bitsOf w 30 2), { c0 := widen 10 (bitsOf w 20 10), c1 := widen 10 (bitsOf w 10 10), c2 := widen 10 (bitsOf w 0 10) })
    else
      some (alpha (bitsOf w 24 8), { c0 := widen 8 (bitsOf w 16 8), c1 := widen 8 (bitsOf w 8 8), c2 := widen 8 (bitsOf w 0 8) })
  else none

/-- Lays one plane over a pixel. -/
def blend (premult : Bool) (a : Nat) (above beneath : Px) : Px :=
  beneath.build (fun k =>
    let p : Int := above.ch k
    let b : Int := beneath.ch k
    if premult then (min 65535 (p + rnd ((65535 - a) * b) 65535)).toNat
    else clamp16 (rnd (a * p + (65535 - a) * b) 65535))

/-- COMPOSE. -/
def Dev.composePic (d : Dev) (h : Nat) (p : Pic) : Pic := fun x y =>
  (List.range 4).foldl (fun q k => match d.planePx h k x y with
    | some (a, v) => blend (d.appB (STh_COMPOSE_CTRL_V h)) a v q
    | none => q) (p x y)

/-! ### ASSIST (R193 to R197) -/

/-- The luma of R193. -/
def Dev.luma (d : Dev) (h a : Nat) (q : Px) : Nat :=
  if d.appB (STh_ASa_CTRL_LUMA_C0 h a) then q.c0 else (13933 * q.c0 + 46871 * q.c1 + 4732 * q.c2 + 32768) / 65536

/-- False colour at luma `y` (R195): the first entry with Y < U decides. -/
def Dev.falseColour (d : Dev) (base y : Nat) (q : Px) : Px :=
  let rec go : Nat → Nat → Px
    | 0, _ => q
    | fuel + 1, k =>
      match d.lmEntry (base + 8192 + 8 * k) 8 with
      | none => q.marked
      | some w =>
        if y < bitsOf w 0 16 then
          if bitOf w 16 then q
          else { q with c0 := widen 10 (bitsOf w 52 10), c1 := widen 10 (bitsOf w 42 10), c2 := widen 10 (bitsOf w 32 10) }
        else go fuel (k + 1)
  go 16 0

/-- ASSIST instance `a` at chain position `j`. -/
def Dev.assistPic (d : Dev) (h j a : Nat) (e : StageEntry) (p : Pic) : Pic := fun x y =>
  let q := p x y
  let l (u v : Nat) : Int := d.luma h a (p u v)
  let lum := d.luma h a q
  let w := (d.rasterAt h j).1
  let s := if d.appB (STh_ASa_CTRL_ZEBRA_MOVE h a) then d.get (HDn_POSITION_FRAME h) % 8 else 0
  let q1 := if d.appB (STh_ASa_CTRL_FALSE_COLOUR h a) then d.falseColour (d.lmBase h e) lum q else q
  let q2 := if d.appB (STh_ASa_CTRL_ZEBRA h a) ∧ d.app (STh_ASa_ZEBRA_LOW h a) ≤ lum ∧ lum ≤ d.app (STh_ASa_ZEBRA_HIGH h a)
      ∧ (x + y + s) % 8 < 4 then
    { q1 with c0 := widen 10 (d.app (STh_ASa_ZEBRA_COLOUR_C0 h a)), c1 := widen 10 (d.app (STh_ASa_ZEBRA_COLOUR_C1 h a)),
              c2 := widen 10 (d.app (STh_ASa_ZEBRA_COLOUR_C2 h a)) }
    else q1
  let edge := (2 * l x y - l (x - 1) y - l (min (x + 1) (w - 1)) y).natAbs + (l x y - l x (y - 1)).natAbs
  if d.appB (STh_ASa_CTRL_PEAK h a) ∧ (d.fab h).lostLuma.contains (a, y, x) then pxZero.marked
  else if d.appB (STh_ASa_CTRL_PEAK h a) ∧ d.app (STh_ASa_PEAK_V h a) < edge then
    { q2 with c0 := widen 10 (d.app (STh_ASa_PEAK_COLOUR_C0 h a)), c1 := widen 10 (d.app (STh_ASa_PEAK_COLOUR_C1 h a)),
              c2 := widen 10 (d.app (STh_ASa_PEAK_COLOUR_C2 h a)) }
  else q2

/-! ### UNIFORM (R219 to R222) -/

/-- The valid code tables (R461, R462). -/
def Dev.ceTable (d : Dev) (t : Nat) : Option CodeTable :=
  if t < 4 then some (builtInTable t)
  else if bitOf (d.get CE_STATUS_TABLE_VALID) t then some (nth [] d.ce.tables (t - 4)) else none

/-- The end of DRAM (R426). -/
def dramEnd : Nat := 0x1DC000000

/-- The map base in force (R222). -/
def Dev.mapBase (d : Dev) (h : Nat) : Nat :=
  (if d.appB (STh_UNIF_CTRL_SEL h) then d.app (STh_UNIF_MAP1_V h) else d.app (STh_UNIF_MAP0_V h)) * 256

/-- Offset and length of the coded map tile `i`. -/
def Dev.mapEntry (d : Dev) (h i : Nat) : Nat × Nat :=
  let w := d.dpNum (d.mapBase h + 8 * i) 8
  (bitsOf w 0 32, bitsOf w 32 16)

/-- Map tile `i` of a full-resolution map (R220): none where it fails under R222. -/
def Dev.mapTile (d : Dev) (h i : Nat) : Option Tile :=
  let (off, len) := d.mapEntry h i
  if len = 0 then some (List.replicate 64 [0, 0, 0, 0, 0, 0])
  else if 434 < len ∨ dramEnd < d.mapBase h + off + len then none
  else readBare 6 d.ceTable 64 (d.dpBytes (d.mapBase h + off) len)

/-- The record of tile `i` of a coarse map (R221). -/
def Dev.mapCoarse (d : Dev) (h i : Nat) : List Nat :=
  let r := d.dpNum (d.mapBase h + 8 * i) 8
  [bitsOf r 0 10, bitsOf r 10 10, bitsOf r 20 10, bitsOf r 30 8, bitsOf r 38 8, bitsOf r 46 8]

/-- The map record for pixel (x, y), as fetched with its tile row: gains and offsets by channel. -/
def Dev.mapRecord (d : Dev) (h x y : Nat) : List Nat :=
  match nth [] ((cellFind (d.fab h).mapRows (y / 8)).getD []) (x / 8) with
  | [r] => r
  | t => nth [0, 0, 0, 0, 0, 0] t (y % 8 * 8 + x % 8)

/-- UNIFORM (R219). -/
def Dev.uniformPic (d : Dev) (h : Nat) (p : Pic) : Pic := fun x y =>
  let q := p x y
  let r := d.mapRecord h x y
  q.build (fun c => clamp16 (((q.ch c : Int) * (1024 + sgn 10 (nth 0 r c)) + 512) / 1024 + sgn 8 (nth 0 r (3 + c)) * 64))

/-! ### OVERDRIVE (R223, R228, R230) -/

/-- The device address of ledger record `i` of head `h` (R290), and whether the share holds it. -/
def Dev.recordAddr (d : Dev) (h i : Nat) : Nat := 0x4100000000 + 8 * (d.get (TACK_LEDGERn_BASE h) * 64 + i)
def Dev.inShare (d : Dev) (h i : Nat) : Bool := decide (i < d.get (TACK_LEDGERn_UNITS h) * 64)

/-- The ledger record `i` of head `h`, as a number. -/
def Dev.record (d : Dev) (h i : Nat) : Nat := d.loadN (d.recordAddr h i) 8

/-- Writes the ledger record `i` of head `h`; the KN9640 writes none outside the share (R290). -/
def Dev.setRecord (h i v : Nat) (d : Dev) : Dev := if d.inShare h i then d.storeWhole (d.recordAddr h i) (leBytes 8 v) else d

/-- The pixels of tile `i` that its history slot covers, and whether it is truncated; none where the code fails. -/
def Dev.histTile (d : Dev) (h i : Nat) : Option (Tile × Bool) :=
  let a := d.app (STh_OD_HIST_BASE_V h) * 256 + 128 * i
  let r := d.record h i
  let cover := min 64 (d.dpByte a).toNat
  if !d.inShare h i || cover == 0 then some ([], bitOf r 15)
  else (readBare (if bitOf r 15 then 1 else 3) d.ceTable cover (d.dpBytes (a + 1) (bitsOf r 8 7))).map (fun t => (t, bitOf r 15))

/-- R230: the previous level of channel `c` of pixel (x, y) of OVERDRIVE's raster, from the slots as read before its tile row. -/
def Dev.prevLevel (d : Dev) (h x y c : Nat) : Option Nat :=
  if (d.fab h).odRestart then none
  else match nth none ((cellFind (d.fab h).prevRows (y / 8)).getD []) (x / 8) with
    | none => none
    | some (t, six) =>
      match t[y % 8 * 8 + x % 8]? with
      | none => none
      | some px =>
        let v := nth 0 px c
        some (if six then v * 1024 + v * 16 + v / 4 else widen 10 v)

/-- The interpolation of R223 in the working table at `base`; none where an entry reads uncorrectable. -/
def Dev.odLookup (d : Dev) (base c prev target : Nat) : Option Nat :=
  let entry (p t : Nat) := d.lmEntry (base + c * 2178 + (p * 33 + t) * 2) 2
  let ip := prev / 2048
  let fp := prev % 2048
  let it := target / 2048
  let ft := target % 2048
  match entry ip it, entry (ip + 1) it, entry ip (it + 1), entry (ip + 1) (it + 1) with
  | some a, some b, some e, some f =>
    some (((2048 - fp) * (2048 - ft) * a + fp * (2048 - ft) * b + (2048 - fp) * ft * e + fp * ft * f + 2 ^ 21) / 2 ^ 22)
  | _, _, _, _ => none

/-- OVERDRIVE. -/
def Dev.overdrivePic (d : Dev) (h : Nat) (e : StageEntry) (p : Pic) : Pic := fun x y =>
  let q := p x y
  if !d.flag (STh_OD_STATUS_TABLE h) then q
  else
    let base := d.lmBase h e + d.get (STh_OD_STATUS_TABLE_BUF h) * 8192
    let one (c : Nat) : Option Nat := match d.prevLevel h x y c with
      | none => some (q.ch c)
      | some prev => d.odLookup base c prev (q.ch c)
    match one 0, one 1, one 2 with
    | some a, some b, some c => { q with c0 := a, c1 := b, c2 := c }
    | _, _, _ => q.marked

/-! ### DITHER and HALFTONE (R232 to R234) -/

/-- The quantiser of R232 for one channel value, with the matrix entry `m` and phase `ph`. -/
def quantise (depth m ph v : Nat) : Nat :=
  let k := 16 - depth
  let th := (m + 1024 * ph) % 4096 * 2 ^ k / 4096
  let q := v / 2 ^ k
  (if th < v % 2 ^ k ∧ q < 2 ^ depth - 1 then q + 1 else q) * 2 ^ k

/-- Quantises a picture with the matrix at `base`. -/
def Dev.ditherPic (d : Dev) (base depth ph dx dy : Nat) (p : Pic) : Pic := fun x y =>
  let q := p x y
  let m (c : Nat) := d.lmEntry (base + ((y + dy) % 64 * 64 + (x + dx + 16 * c) % 64) * 2) 2
  match m 0, m 1, m 2 with
  | some m0, some m1, some m2 =>
    { q with c0 := quantise depth (m0 % 4096) ph q.c0, c1 := quantise depth (m1 % 4096) ph q.c1,
             c2 := quantise depth (m2 % 4096) ph q.c2 }
  | _, _, _ => q.marked

/-! ### The chain -/

/-- The stage at chain position `j` of head `h`. -/
def Dev.stagePic (d : Dev) (h j : Nat) (e : StageEntry) (p : Pic) : Pic :=
  if d.bypassed h j e.kind then p
  else match e.kind with
    | 2 => d.cscPic h p
    | 3 => d.lut1dPic h e p
    | 4 => d.lut3dPic h e p
    | 5 => d.scalePic h e p
    | 6 => d.composePic h p
    | 7 => d.assistPic h j (d.assistOf h j) e p
    | 8 => d.uniformPic h p
    | 9 => d.overdrivePic h e p
    | 10 => if buffers e 2 = 0 then p
        else d.ditherPic (d.lmBase h e + d.app (STh_DITHER_CTRL_SEL h) * 8192) (d.app (STh_DITHER_CTRL_DEPTH h))
          (d.get (STh_DITHER_STATUS_PHASE h)) 0 0 p
    | 11 => if buffers e 2 = 0 then p
        else d.ditherPic (d.lmBase h e + d.app (STh_HT_CTRL_SEL h) * 8192) (d.app (STh_HT_CTRL_DEPTH h)) 0
          (d.app (STh_HT_ORIGIN_X h)) (d.app (STh_HT_ORIGIN_Y h)) p
    | _ => p

/-- The picture that enters chain position `n` of head `h`. -/
def Dev.inputPic (d : Dev) (h : Nat) : Nat → Pic
  | 0 => if d.has h 5 then d.windowPic h (d.sourcePic h) else d.sourcePic h
  | n + 1 => match (d.chain h)[n]? with
    | some e => d.stagePic h n e (d.inputPic h n)
    | none => d.inputPic h n

/-- The picture that FORMAT gets. -/
def Dev.outPic (d : Dev) (h : Nat) : Pic := d.inputPic h (d.chain h).length

/-- A line of `w` pixels of a picture. -/
def picLine (p : Pic) (w y : Nat) : List Px := (List.range w).map (fun x => p x y)

/-! ### Stripes and capacity (R171, R175, R176) -/

/-- R175: the stripe width. -/
def stripeWidth (stripes w : Nat) : Nat := 8 * ((w + 8 * stripes - 1) / (8 * stripes))

/-- FIRST and WIDTH of stripe `k`. -/
def stripeCols (stripes w k : Nat) : Nat × Nat :=
  let ws := stripeWidth stripes w
  (k * ws, min ((k + 1) * ws) w - k * ws)

/-- The head's pixel rate f in Hz (R246), as a fraction's numerator over 65,536 in DIV units. -/
def pixelRate (khz ppc div : Nat) : Rat := (khz * 1000 * 2 ^ ppc * 65536 : Nat) / (div : Rat)

/-- The HPLL of head `h`, and its frequency in kHz. -/
def Dev.hpllOf (d : Dev) (h : Nat) : Nat := nth 255 d.tack.headHpll h
def Dev.hpllKhz (d : Dev) (h : Nat) : Nat := nth 0 d.tack.hplls (d.hpllOf h)

/-- The pixel rate of head `h` with its HPLL at `khz`. -/
def Dev.rateAt (d : Dev) (h khz : Nat) : Rat := pixelRate khz (d.app (HDn_GAIT_CLOCK_PPC h)) (d.app (HDn_GAIT_CLOCK_DIV h))

/-- The pixel rate of the gait that head `h` has applied. -/
def Dev.gaitRate (d : Dev) (h : Nat) : Rat := d.rateAt h (d.app (HDn_GAIT_HPLL_KHZ_V h))

/-- The pixel rate of head `h`: that of its gait, and of a STOPPED head what its HPLL gives now (R246, R271). -/
def Dev.headRate (d : Dev) (h : Nat) : Rat :=
  if d.headState h = 0 ∧ d.hpllKhz h ≠ 0 then d.rateAt h (d.hpllKhz h) else d.gaitRate h

/-- The demand on chain position `j` (R171): the greater of the stage's input and output rates. A MIP head has no pixel clock, and what
it would clock counts as no demand (assumption 80). -/
def Dev.demand (d : Dev) (h j : Nat) : Rat :=
  let own : Rat := if d.isMip h then 0 else d.headRate h
  let src := (d.head h).sect.source
  let srcRate : Rat := if src < 4 then
      (let t := d.get (INn_LINE_PERIOD_V src)
       if t = 0 then 0 else (d.inWidth src * 256 * 1000000000 : Nat) / (t : Rat))
    else own
  match (d.chain h)[j]? with
  | none => 0
  | some e =>
    if e.kind = 5 then max srcRate own
    else if d.beforeScale h j || (e.kind == 1 && !d.has h 5) then srcRate
    else own

/-- R176: does a stage's demand exceed its capacity? -/
def Dev.overloaded (d : Dev) (h : Nat) : Bool :=
  (d.chain h).zipIdx.any (fun (e, j) => decide (((e.engines.length * 1600000000 : Nat) : Rat) < d.demand h j))

end Sys2Proof.Machine
end

