-- ==== Sys2Proof/Machine/Fabric.lean ====
section
/-! DEFINITION. The fabric at work (chapters 05 and 06): lines entering the stages, histograms, signatures, overdrive history and
tables, dither phase, band tracker, engines and their substitution. -/
namespace Sys2Proof.Machine

/-! ### Shadow sets of the fabric (R177, R189, R236) -/

/-- R189: does the shadow set keep the rules of SCALE, with the active area `ha` by `va`? -/
def Dev.scaleSetOk (d : Dev) (h ha va : Nat) : Bool :=
  match d.stage h 5 with
  | none => true
  | some e =>
    let wIn := d.get (STh_SCALE_IN_SIZE_W_IN h)
    let hIn := d.get (STh_SCALE_IN_SIZE_H_IN h)
    let wOut := d.get (STh_SCALE_OUT_SIZE_W_OUT h)
    let hOut := d.get (STh_SCALE_OUT_SIZE_H_OUT h)
    let inRange (r : Nat) : Bool := decide (16384 ≤ r ∧ r ≤ 262144)
    let src := (d.head h).sect.source
    let (sw, sh) := if src < 4 then (d.inWidth src, d.inHeight src)
      else (d.get (HDn_QBUF_SIZE_WIDTH h), d.get (HDn_QBUF_SIZE_HEIGHT h))
    inRange (scaleRatio wIn wOut) && inRange (scaleRatio hIn hOut)
      && decide (d.get (STh_SCALE_OUT_POS_X_OUT0 h) + wOut ≤ ha) && decide (d.get (STh_SCALE_OUT_POS_V0 h) + hOut ≤ va)
      && decide (ceilDiv (wOut * 72) 4096 + 1 ≤ e.lmUnits)
      && (decide (d.get (STh_SCALE_IN_POS_X0 h) + wIn ≤ sw) && decide (d.get (STh_SCALE_IN_POS_Y0 h) + hIn ≤ sh)
          || (d.isMip h && decide (4 ≤ src)))

/-- Edge `j` of the band tracker, in the shadow set or as applied (R215). -/
def Dev.edgeShadow (d : Dev) (h j : Nat) : Int :=
  if j % 2 = 0 then d.getI (BANDh_EDGEk_EDGE_LOW h (j / 2)) else d.getI (BANDh_EDGEk_EDGE_HIGH h (j / 2))
def Dev.edge (d : Dev) (h j : Nat) : Int :=
  if j % 2 = 0 then d.appI (BANDh_EDGEk_EDGE_LOW h (j / 2)) else d.appI (BANDh_EDGEk_EDGE_HIGH h (j / 2))

/-- Tiles of a raster. -/
def tilesOf (w h : Nat) : Nat := ((w + 7) / 8) * ((h + 7) / 8)

/-- R236: does the shadow set keep the rules of the correction stages, with the active area `ha` by `va`? -/
def Dev.correctionSetOk (d : Dev) (h ha va : Nat) : Bool :=
  let size (kind : Nat) := if d.beforeScale h (d.posOf h kind)
    then (d.get (STh_SCALE_IN_SIZE_W_IN h), d.get (STh_SCALE_IN_SIZE_H_IN h)) else (ha, va)
  allBelow 7 (fun j => decide (d.edgeShadow h j < d.edgeShadow h (j + 1))
      && decide ((d.get (BANDh_CTRL_HYST h) : Int) < d.edgeShadow h (j + 1) - d.edgeShadow h j))
    && (match d.stage h 8 with
      | none => true
      | some e =>
        let (w, v) := size 8
        decide (ceilDiv (w * 108) 4096 ≤ e.lmUnits)
          && [d.get (STh_UNIF_MAP0_V h), d.get (STh_UNIF_MAP1_V h)].all (fun b => decide (b * 256 + 8 * tilesOf w v ≤ dramEnd)))
    && (match d.stage h 9 with
      | none => true
      | some e =>
        let (w, v) := size 9
        let n := d.get (STh_OD_CTRL_V h)
        decide (1 ≤ n ∧ n ≤ 8) && decide (4 + ceilDiv (w * 96) 4096 ≤ e.lmUnits)
          && decide (d.get (STh_OD_HIST_BASE_V h) * 256 + 128 * tilesOf w v ≤ dramEnd)
          && decide (d.get (STh_OD_ANCHOR_BASE_V h) * 256 + n * 8192 ≤ dramEnd)
          && decide (tilesOf w v ≤ d.get (TACK_LEDGERn_UNITS h) * 64))
    && (!d.has h 10 || d.get (STh_FORMAT_CTRL_DEPTH h) == d.get (STh_DITHER_CTRL_DEPTH h))

/-- The stage types that own the STh register at `off` within a head's STh block, if it belongs to one (R177). -/
def stageOfReg (off : Nat) : Option Nat :=
  if off = 0x08 then some 1
  else if 0x0C ≤ off ∧ off ≤ 0x38 then some 2
  else if off = 0x40 then some 3
  else if off = 0x44 then some 4
  else if 0x48 ≤ off ∧ off ≤ 0x64 then some 5
  else if off = 0x68 then some 6
  else if 0x6C ≤ off ∧ off ≤ 0x70 then some 12
  else if off = 0x74 ∨ off = 0x78 then some 14
  else if 0x80 ≤ off ∧ off < 0xC0 then some 7
  else none

/-- The same within the block of the correction stages (R237). -/
def corrStageOfReg (off : Nat) : Option Nat :=
  if off < 0x20 then some 8
  else if off < 0x48 then some 9
  else if off < 0x50 then some 10
  else if off < 0x60 then some 11
  else none

/-- R179, R177, R180, R198, R212, R213, R237: may a FABRIC register of head `h` at `r` take `v`? -/
def Dev.fabricWriteOk (r v : Nat) (d : Dev) : Bool :=
  match headOf r with
  | none => true
  | some h =>
    if 0x11000 ≤ r ∧ r < 0x11800 then
      let off := r % 0x100
      let chainOk := match stageOfReg off with
        | none => true
        | some 7 => decide ((off - 0x80) / 0x20 < (d.chain h).countP (fun e => e.kind == 7))
        | some k => d.has h k
      let bypassOk := off != 0 || (onesOf 16 v).all (fun j => match (d.chain h)[j]? with
        | some e => e.bypassable && [2, 3, 4, 6, 7, 8, 9, 10, 11].contains e.kind
        | none => false)
      let selOk := match off with
        | 0x40 => v == 0 || (d.stage h 3).any (fun e => buffers e 6 == 2)
        | 0x44 => v == 0 || (d.stage h 4).any (fun e => buffers e 71 == 2)
        | 0x6C => v != 0 || !d.isMip h
        | 0x74 => d.isMip h || [6, 8, 10, 12].contains (v % 16)
        | _ => true
      let assistOk :=
        if 0x80 ≤ off ∧ off < 0xC0 then
          let a := (off - 0x80) / 0x20
          match off % 0x20 with
          | 0x00 => v % 4 == 0 && v / 8 % 2 == 0
              || ((d.chain h).filter (fun e => e.kind == 7))[a]?.any (fun e => decide (7 ≤ e.lmUnits))
          | 0x18 => decide (v / 65536 ≤ v % 65536)
          | _ => true
        else true
      chainOk && bypassOk && selOk && assistOk
    else if 0x14000 ≤ r ∧ r < 0x14800 then
      let off := r % 0x100
      let chainOk := match corrStageOfReg off with
        | none => d.headPresent h
        | some k => d.has h k
      let selOk := match off with
        | 0x48 => !bitOf v 6 || (d.stage h 10).any (fun e => buffers e 2 == 2)
        | 0x50 => !bitOf v 4 || (d.stage h 11).any (fun e => buffers e 2 == 2)
        | _ => true
      chainOk && selOk
    else if 0x8800 ≤ r ∧ r < 0x8A00 ∧ r % 16 = 4 then !bitOf v 31 || d.has h 6
    else true

/-! ### Engines (R175, R201, R207, R79 to R82) -/

/-- The code of engine `k` in TACK_ENGINE_MAPn (R81). DESIGN CHOICE: an engine in LOADING or under BIST that serves no head shows the
code of a spare (assumption 71). -/
def Dev.engineCode (d : Dev) (k : Nat) : Nat := match d.get (SEk_STATUS_STATE k) with
  | 0 => 0xF
  | 2 => 8
  | 3 => 9
  | 5 => 0xA
  | _ => if d.get (SEk_STATUS_HEAD k) < 8 then d.get (SEk_STATUS_HEAD k) else 8

/-- Engines in a state. -/
def Dev.enginesIn (d : Dev) (st : Nat) : List Nat := filterRange 28 (fun k => d.get (SEk_STATUS_STATE k) == st)

/-- Brings the engine summaries of the TACK block and FAB_STATUS.WAITING up to date. -/
def Dev.engineSync (d : Dev) : Dev :=
  let d1 := foldS (List.range 28) (fun k s => s.put ⟨TACK_ENGINE_MAPn (k / 8), 4 * (k % 8), 4⟩ (d.engineCode k)) d
  let d2 := (((d1.put TACK_ENGINE_SUMMARY_ALLOCATED (d.enginesIn 1).length).put TACK_ENGINE_SUMMARY_SPARE (d.enginesIn 2).length).put
    TACK_ENGINE_SUMMARY_RETIRED (d.enginesIn 3).length).put TACK_ENGINE_SUMMARY_RT_RESERVED (d.enginesIn 5).length
  let d3 := foldS (List.range 8) (fun h s => s.put (TACK_HEADn_ENGINES h)
    ((d.enginesIn 1).countP (fun k => d.get (SEk_STATUS_HEAD k) == h))) d2
  d3.put FAB_STATUS_WAITING ((d.farReleased 0).countP (fun q => !d.engines.sub.any (fun p => p.1 == q.inst)))

/-- Gives engine `k` the role of stripe `s` of chain position `j` of head `h`. -/
def Dev.engineRole (h j s : Nat) (e : StageEntry) (k : Nat) (d : Dev) : Dev :=
  let (first, width) := stripeCols e.engines.length (d.rasterAt h j).1 s
  let d1 := ((d.put (SEk_STATUS_STATE k) 1).put (SEk_STATUS_TYPE k) e.kind).put (SEk_STATUS_STRIPE k) s
  let d2 := (d1.put (SEk_STATUS_STRIPES k) e.engines.length).put (SEk_STATUS_HEAD k) h
  (d2.put (SEk_STRIPE_FIRST k) first).put (SEk_STRIPE_WIDTH k) width

/-- Gives every engine of head `h` its role (R175, R207). -/
def Dev.stripeSync (h : Nat) (d : Dev) : Dev :=
  (d.chain h).zipIdx.foldl (fun s (e, j) =>
    e.engines.zipIdx.foldl (fun t (k, i) => t.engineRole h j i e k) s) d

/-- Frees engine `k` into state `st`. -/
def Dev.engineFree (k st : Nat) (d : Dev) : Dev :=
  let d1 := (((d.put (SEk_STATUS_STATE k) st).put (SEk_STATUS_TYPE k) 0).put (SEk_STATUS_STRIPE k) 0).put (SEk_STATUS_STRIPES k) 0
  (d1.put (SEk_STATUS_HEAD k) 0xF).setWord (SEk_STRIPE k) 0

/-- The segment width of FORMAT (R199): Ws, or all columns with DUPLICATE set, or the panel's WIDTH. -/
def segWidth (dup : Bool) (links ha : Nat) : Nat := if dup then ha else stripeWidth (max 1 links) ha

/-- What follows the application of head `h`'s registers: ratios, stripes, FORMAT_SEG (R175, R186, R212). -/
def Dev.fabricApplied (h : Nat) (d : Dev) : Dev :=
  let links := (d.headLinks h).length
  let d1 := if d.has h 5 then (d.put (STh_SCALE_HRATIO_V h) (d.ratioH h)).put (STh_SCALE_VRATIO_V h) (d.ratioV h) else d
  let d2 := (d1.put (STh_FORMAT_SEG_LINKS h) links).put (STh_FORMAT_SEG_WIDTH h)
    (if d.isMip h then (d.activeSize h).1 else segWidth (d.appB (STh_FORMAT_CTRL_DUPLICATE h)) links (d.activeSize h).1)
  d2.stripeSync h

/-! ### Substitution and BIST (R200 to R204) -/

/-- The head that engine `k` serves. -/
def Dev.engineHead (d : Dev) (k : Nat) : Option Nat :=
  if d.get (SEk_STATUS_STATE k) = 1 ∧ d.get (SEk_STATUS_HEAD k) < 8 then some (d.get (SEk_STATUS_HEAD k)) else none

/-- The line period of head `h` in seconds. -/
def Dev.linePeriod (d : Dev) (h : Nat) : Rat := (d.app (HDn_GAIT_HTOTAL_V h) : Rat) / d.headRate h

/-- R200: is head `h`'s vertical blanking 30 µs or longer? -/
def Dev.blankingLong (d : Dev) (h : Nat) : Bool :=
  decide ((30 : Rat) / 1000000 ≤ ((d.app (HDn_GAIT_VTOTAL_VTOTAL h) - d.app (HDn_GAIT_VACTIVE_V h) : Nat) : Rat) * d.linePeriod h)

/-- Is the engines' substitution of head `h` deferred by a re-tack (R64)? -/
def Dev.subDeferred (d : Dev) (h : Nat) : Bool := d.mode == 5 && d.get TACK_RT_STATUS_HEAD == h

/-- Is head `h` stopped or parked in a re-gait, so that an engine is replaced at once (R200)? -/
def Dev.subAtOnce (d : Dev) (h : Nat) : Bool :=
  !d.scans h || (d.isRaster h && d.headState h == 3 && decide (1 ≤ d.get (HDn_STATUS_SWITCH_STEP h) ∧ d.get (HDn_STATUS_SWITCH_STEP h) ≤ 3))

/-- A substitution begins (R201): the lowest-numbered spare enters LOADING; with none left the class is exhausted (R499). -/
def Dev.subBegin (q : FarRequest) (h : Nat) (d : Dev) : Dev :=
  match d.enginesIn 2 with
  | [] => (d.farExhausted q).engineSync
  | k :: _ =>
    let d1 := { d.put (SEk_STATUS_STATE k) 4 with engines := { d.engines with sub := some (q.inst, k, h) } }
    let d2 := (((d1.put FAB_STATUS_SUB_BUSY 1).put FAB_STATUS_SUB_FROM q.inst).put FAB_STATUS_SUB_TO k).put FAB_STATUS_SUB_HEAD h
    d2.engineSync

/-- Engine `to'` takes the place and stripe of `from'` on head `h`, and `from'` is RETIRED (R201): `result` 0 at a commit point, 1 on a
stopped head. -/
def Dev.subSwap (from' to' h result : Nat) (d : Dev) : Dev :=
  let q := (d.farReleased 0).find? (fun q => q.inst == from')
  let d1 := d.onHead h (fun u => { u with sect := { u.sect with chain := u.sect.chain.map (fun e =>
    { e with engines := e.engines.map (fun k => if k = from' then to' else k) }) } })
  let d2 := (d1.engineFree from' 3).stripeSync h
  let d3 := (((d2.put FAB_SUB_LAST_VALID 1).put FAB_SUB_LAST_RESULT result).put FAB_SUB_LAST_FROM from').put FAB_SUB_LAST_TO to'
  let first := if result = 1 then 0 else if d.isMip h then d.get (HDn_POSITION_FRAME h) else (d.head h).nextFrame
  let d4 := (d3.put FAB_SUB_LAST_FRAME first).inc FAB_SUB_COUNT_V
  let d5 := match q with
    | some q => d4.farSubstituted q to' h
    | none => d4
  d5.engineSync

/-- The substitution in progress completes (R201). -/
def Dev.subEnd (d : Dev) : Dev :=
  match d.engines.sub with
  | none => d
  | some (from', to', h) =>
    Dev.subSwap from' to' h 0 { d.put FAB_STATUS_SUB_BUSY 0 with engines := { d.engines with sub := none } }

/-- A substitution that takes no time of a scanning raster head: on a stopped or parked head at once, on a MIP head within its commit
point, whether or not another head's substitution is in progress (R200). -/
def Dev.subWhole (result : Nat) (q : FarRequest) (h : Nat) (d : Dev) : Dev :=
  match d.enginesIn 2 with
  | [] => (d.farExhausted q).engineSync
  | k :: _ =>
    let d1 := if d.engines.sub.isSome then d
      else ((d.put FAB_STATUS_SUB_FROM q.inst).put FAB_STATUS_SUB_TO k).put FAB_STATUS_SUB_HEAD h
    d1.subSwap q.inst k h result

/-- The first released request for an engine of head `h` that is not being replaced. -/
def Dev.subNext (d : Dev) (h : Nat) : Option FarRequest :=
  (d.farReleased 0).find? (fun q => d.engineHead q.inst == some h && !d.engines.sub.any (fun p => p.1 == q.inst))

/-- R200: engines of head `h` that may be replaced at once are. -/
def Dev.subNow (h : Nat) (d : Dev) : Dev :=
  let rec go : Nat → Dev → Dev
    | 0, s => s
    | n + 1, s => match s.subNext h with
      | some q => if s.subAtOnce h && !s.subDeferred h then go n (s.subWhole 1 q h) else s
      | none => s
  go 28 d.engineSync

/-- Step 3 of R13 on head `h`. On a MIP head the substitution completes before the boundary's further actions (R200, R297). -/
def Dev.subAtCommit (h : Nat) (d : Dev) : Dev :=
  if d.subDeferred h then d
  else if d.isMip h then
    foldS (List.range 28) (fun _ s => match s.subNext h with
      | some q => s.subWhole 0 q h
      | none => s) d
  else if d.engines.sub.isSome then d
  else match d.subNext h with
    | some q => if d.blankingLong h then d.subBegin q h else d
    | none => d

/-- Step 3 of R13 on raster head `h`: at once where it is parked in a re-gait that its commit point has begun, else in its blanking. -/
def Dev.subStep (h : Nat) (d : Dev) : Dev := if d.subAtOnce h then d.subNow h else d.subAtCommit h

/-- ENGINE_SUBSTITUTION_COMPLETE: the substitution in progress completes, and the next one of the same blanking begins. -/
def engineSubComplete (d : Dev) : Dev :=
  match d.engines.sub with
  | none => d
  | some (_, _, h) =>
    let d1 := d.subEnd
    if d1.isRaster h && !(d1.head h).inFrame then d1.subAtCommit h else d1

/-- An engine fails (R203, R496): a spare is retired; an engine in service is handed to the farrier. -/
def Dev.engineFails (k trig : Nat) (d : Dev) : Dev :=
  let q : FarRequest := { cls := 0, trig := trig, inst := k }
  match d.engineHead k with
  | some h => (d.farTrigger q).subNow h
  | none => (((d.inc (FAR_TRIGk_V trig)).engineFree k 3).farRetire q k).engineSync

/-- ENGINE_PARITY_ERROR on engine `k` (R203). -/
def engineParityError (k : Nat) (d : Dev) : Dev :=
  let now := (d.tb 3).total
  let times := (k, now) :: d.engines.parity.filter (fun p => p.1 != k || decide (now < p.2 + 1000000000))
  let d1 := (Dev.inc { d with engines := { d.engines with parity := times } } (SEk_ERR_COUNT_V k))
  let d2 := match d1.engineHead k with
    | some h => (d1.putB (STh_STATUS_PARITY h) true).headDown h 2
    | none => d1
  if 3 ≤ times.countP (fun p => p.1 == k) then
    Dev.engineFails k 1 { d2 with engines := { d2.engines with parity := times.filter (fun p => p.1 != k) } }
  else d2

/-- ENGINE_BIST_START on a spare (R204). -/
def engineBistStart (k : Nat) (d : Dev) : Dev :=
  if d.get (SEk_STATUS_STATE k) = 2 then (d.put (SEk_STATUS_STATE k) 6).engineSync else d

/-- TEST_SEk_BIST counts a run of engine `k`'s BIST (R590). -/
def Dev.bistCount (k : Nat) (pass : Bool) (d : Dev) : Dev :=
  let d1 := (d.addWrap (TEST_SEk_BIST_RUNS k) 1).putB (TEST_SEk_BIST_LAST_FAIL k) (!pass)
  if pass then d1 else d1.inc (TEST_SEk_BIST_FAILS k)

/-- ENGINE_BIST_COMPLETE (R204). -/
def engineBistComplete (k : Nat) (pass : Bool) (d : Dev) : Dev :=
  if d.get (SEk_STATUS_STATE k) ≠ 6 then d
  else
    let d1 := d.bistCount k pass
    if pass then ((d1.put (SEk_STATUS_STATE k) 2).putB (SEk_STATUS_BIST_FAIL k) false).engineSync
    else (d1.putB (SEk_STATUS_BIST_FAIL k) true).engineFails k 0

/-- R204: every engine that is not RETIRED is tested at INIT; bit k of `bad` tells that SEk failed. -/
def Dev.enginesTested (bad : Nat) (d : Dev) : Dev :=
  foldS (filterRange 28 (fun k => d.get (SEk_STATUS_STATE k) != 3)) (fun k s =>
    let s1 := s.bistCount k (!bitOf bad k)
    if bitOf bad k then (s1.putB (SEk_STATUS_BIST_FAIL k) true).engineFails k 0 else s1) d

/-! ### Histograms (R194) -/

/-- Counts one bin of the accumulating buffer: written on its first increment, saturating. -/
def Dev.histBin (h a bin : Nat) (base : Nat) (d : Dev) : Dev :=
  let u := d.fab h
  let addr := base + nth 0 u.histBuf a * 4096 + 4 * bin
  if (nth [] u.histBins a).contains bin then d.agentWrite (8 + h) addr (leBytes 4 (min (d.loadN addr 4 + 1) (2 ^ 32 - 1)))
  else (d.agentWrite (8 + h) addr (leBytes 4 1)).onFab h (fun u => { u with histBins := updAt u.histBins a (bin :: ·) })

/-- Counts the pixels of line `y` that lie inside the window of ASSIST instance `a` (R194, R210). -/
def Dev.histLine (h a y : Nat) (e : StageEntry) (line : List Px) (d : Dev) : Dev :=
  let x0 := d.app (STh_ASa_WIN_POS_X h a)
  let y0 := d.app (STh_ASa_WIN_POS_Y h a)
  let w := d.app (STh_ASa_WIN_SIZE_W h a)
  let v := d.app (STh_ASa_WIN_SIZE_H h a)
  if y0 ≤ y ∧ (v = 0 ∨ y < y0 + v) then
    line.zipIdx.foldl (fun s (q, x) =>
      if x0 ≤ x ∧ (w = 0 ∨ x < x0 + w) then
        [q.c0, q.c1, q.c2, d.luma h a q].zipIdx.foldl (fun t (v, c) => t.histBin h a (c * 256 + v / 256) (d.lmBase h e)) s
      else s) d
  else d

/-- The accumulating buffer of ASSIST instance `a` becomes complete with frame `frame`. -/
def Dev.histDone (h a frame : Nat) (e : StageEntry) (d : Dev) : Dev :=
  let u := d.fab h
  let b := nth 0 u.histBuf a
  let base := d.lmBase h e + b * 4096
  let d1 := foldS ((List.range 1024).filter (fun bin => !(nth [] u.histBins a).contains bin)) (fun bin s =>
    s.agentWrite (8 + h) (base + 4 * bin) (leBytes 4 0)) d
  let d2 := ((d1.put (STh_ASa_HIST_STATUS_VALID h a) 1).put (STh_ASa_HIST_STATUS_BUF h a) b).put (STh_ASa_HIST_STATUS_FRAME h a) frame
  d2.onFab h (fun u => { u with histBuf := updAt u.histBuf a (1 - ·), histBins := updAt u.histBins a (fun _ => []) })

/-- R194 at a commit point of head `h`, for every ASSIST stage with HIST set that is not bypassed. -/
def Dev.histCommit (h frame : Nat) (d : Dev) : Dev :=
  (d.chain h).zipIdx.foldl (fun s (e, j) =>
    if e.kind = 7 ∧ !d.bypassed h j 7 ∧ d.appB (STh_ASa_CTRL_HIST h (d.assistOf h j)) then s.histDone h (d.assistOf h j) frame e
    else s) d

/-! ### Signatures (R198, R292, R294, R431) -/

/-- The six bytes of a pixel. -/
def Px.bytes (q : Px) : List Byte := leBytes 2 q.c0 ++ leBytes 2 q.c1 ++ leBytes 2 q.c2

/-- Pixel `j` of the tile in column `tx` of a tile row's lines; zero outside the raster. -/
def rowPx (rows : List (List Px)) (tx j : Nat) : Px := nth pxZero (nth [] rows (j / 8)) (tx * 8 + j % 8)

/-- The signature of the tile in column `tx` of a tile row: its 8 lines, positions outside the raster as zero bytes. -/
def tileSignature (rows : List (List Px)) (tx : Nat) : Nat :=
  crc16 ((List.range 64).flatMap (fun j => (rowPx rows tx j).bytes))

/-- The rectangle that also holds tile (x, y). -/
def growRect (r : Option (Nat × Nat × Nat × Nat)) (x y : Nat) : Option (Nat × Nat × Nat × Nat) := match r with
  | none => some (x, y, x, y)
  | some (l, t, b, e) => some (min l x, min t y, max b x, max e y)

/-- R431: a ledger record that reads uncorrectable is rewritten as 0 with Dirty set. -/
def Dev.recordLost (d : Dev) (h i : Nat) : Bool :=
  d.inShare h i && (d.memu.poison.contains (d.recordAddr h i) || (d.fab h).lostRecs.contains i)

/-- R431: the record of tile `i` of raster head `h` is rewritten; the tile counts as changed when it is signed, and in the next frame it
has no previous level. -/
def Dev.recordRewritten (h i : Nat) (d : Dev) : Dev :=
  (d.setRecord h i (2 ^ 18)).onFab h (fun u => { u with
    lostRecs := i :: u.lostRecs.filter (· != i), noPrevNext := i :: u.noPrevNext.filter (· != i) })

/-- R292: TILESIG updates tile `i`, at tile (tx, ty), with signature `s`. -/
def Dev.signTile (h i tx ty s : Nat) (d : Dev) : Dev :=
  if !d.inShare h i then d
  else
    let lost := d.recordLost h i
    let r := if lost then 0 else d.record h i
    let dirty := lost || bitsOf r 48 16 != s
    let r1 := putBits (putBits r 48 16 s) 18 1 (b2n dirty)
    let d1 := d.setRecord h i (putBits r1 0 8 (if dirty then 0 else min 255 (r % 256 + 1)))
    let d2 := if lost then d1.onFab h (fun u => { u with
        lostRecs := u.lostRecs.filter (· != i), noPrevNext := i :: u.noPrevNext.filter (· != i) }) else d1
    if dirty then d2.onFab h (fun u => { u with changed := u.changed + 1, damage := growRect u.damage tx ty }) else d2

/-! ### The tile stream's sender (R421) -/

/-- Changes the tile stream of head `h`. -/
def Dev.onTs (h : Nat) (f : TsUnit → TsUnit) (d : Dev) : Dev := d.onHead h (fun u => { u with ts := f u.ts })

/-- TS_STATUS.BACKLOG follows the heads. -/
def Dev.tsBacklog (d : Dev) : Dev := d.putB TS_STATUS_BACKLOG (anyBelow 8 (fun h => (d.head h).ts.backlog))

/-- Does head `h` send (R421, R525)? -/
def Dev.tsSends (d : Dev) (h : Nat) : Bool :=
  d.flag TS_CTRL_TX_ENABLE && d.flag (TSh_CTRL_TX h) && d.isRaster h && d.appB (STh_TILESIG_CTRL_V h) && decide (d.shedLevel < 1)

/-- R421: tile `i`, whose last line has passed TILESIG, is coded, or waits for a later frame. -/
def Dev.tsTile (h i n : Nat) (px : List (List Nat)) (d : Dev) : Dev :=
  if !d.tsSends h || !d.inShare h i then d
  else
    let f := d.get (HDn_POSITION_FRAME h)
    let r := d.record h i
    let key := f % max 1 (d.get (TSh_CTRL_KEY_INTERVAL h)) == 0
    let u := (d.head h).ts
    if bitsOf r 48 16 = bitsOf r 32 16 ∧ key = false then d
    else if u.frames.any (fun g => g.frame != f) then (d.onTs h (fun u => { u with backlog := true })).tsBacklog
    else
      (d.setRecord h i (putBits r 32 16 (bitsOf r 48 16))).onTs h (fun u => { u with
        frames := if u.frames = [] then [{ frame := f, start := (d.head h).startTime, key := key, rowTiles := n }] else u.frames,
        tiles := u.tiles ++ [{ frame := f, tile := i, px := px }] })

/-- No further tile of head `h`'s frames comes: their last datagrams close them. -/
def Dev.tsClose (h : Nat) (d : Dev) : Dev := d.onTs h (fun u => { u with frames := u.frames.map (fun g => { g with closed := true }) })

/-- A frame of head `h` starts: no tile of it waits yet, and the frames before it are over. -/
def Dev.tsFrameStart (h : Nat) (d : Dev) : Dev := ((d.tsClose h).onTs h (fun u => { u with backlog := false })).tsBacklog

/-- The last tile of frame `f` has passed: a frame with no coded tile sends one empty datagram. -/
def Dev.tsFrameEnd (h f : Nat) (d : Dev) : Dev :=
  if !d.tsSends h then d.tsClose h
  else
    let key := f % max 1 (d.get (TSh_CTRL_KEY_INTERVAL h)) == 0
    let n := ((d.rasterAt h (d.posOf h 12)).1 + 7) / 8
    (d.onTs h (fun u => { u with
      frames := if u.frames.any (fun g => g.frame == f) then u.frames.map (fun g => { g with closed := g.closed || g.frame == f })
        else u.frames ++ [{ frame := f, start := (d.head h).startTime, key := key, rowTiles := n, closed := true }] })).tsBacklog

/-- The damage registers take a rectangle (R294). -/
def Dev.setDamage (h : Nat) (r : Option (Nat × Nat × Nat × Nat)) (d : Dev) : Dev := match r with
  | none => (d.put (HDn_DAMAGE_TL_VALID h) 0).put (HDn_DAMAGE_BR_VALID h) 0
  | some (l, t, b, e) => (d.setWord (HDn_DAMAGE_TL h) (2 ^ 31 + l * 65536 + t)).setWord (HDn_DAMAGE_BR h) (2 ^ 31 + b * 65536 + e)

/-! ### Overdrive history (R228 to R231) -/

/-- A code of chapter 13's counters. -/
def Dev.ceCount (k n : Nat) (d : Dev) : Dev := d.addSat (CE_COUNTk_V k) n

/-- The counts of coded parts that hold `tiles` whole tiles and `dyn` dynamic segments (R477). -/
def Dev.ceCoded (parts : List Chunk) (tiles dyn : Nat) (d : Dev) : Dev :=
  foldS [0, 1, 2, 3] (fun k s => s.ceCount (k + 2) (kindCount parts k))
    (((d.ceCount 0 tiles).ceCount 6 ((parts.map (·.esc)).foldl (· + ·) 0)).ceCount 13 dyn)

/-- The jobs in progress: those of queues that have not stopped meanwhile. -/
def Dev.ceInProgress (d : Dev) : List (Nat × Bool) :=
  d.ce.serving.filter (fun p => d.get (CEq_STATUS_STATE p.1) == 2 || d.get (CEq_STATUS_STATE p.1) == 5)

/-- A user of higher priority takes the encoder, or the decoder, from a host job (R466, R477); one row of tiles or one datagram is one
preemption (assumption 108). -/
def Dev.ceTaken (enc : Bool) (d : Dev) : Dev := if d.ceInProgress.any (fun p => p.2 == enc) then d.ceCount 14 1 else d

/-- R229: the slot of tile `i` is written from its 64 targets. -/
def Dev.histSlot (h i : Nat) (targets : Tile) (d : Dev) : Dev :=
  let t := d.get CE_CTRL_FB_TABLE
  let tab := (d.ceTable t).getD (builtInTable t)
  let ten := fixedBudget 3 t 127 tab false (targets.map (fun px => px.map (· / 64)))
  let sixTile := targets.map (fun px => px.map (· / 1024))
  let (bytes, cover, six, part) := match ten with
    | some (b, n) => (b, n, false, false)
    | none => match fixedBudget 1 t 127 tab false sixTile with
      | some (b, n) => (b, n, true, false)
      | none => match fixedBudget 1 t 127 tab true sixTile with
        | some (b, n) => (b, n, true, true)
        | none => ([], 0, true, true)
  let a := d.app (STh_OD_HIST_BASE_V h) * 256 + 128 * i
  let d1 := d.agentWrite (8 + h) a (leBytes 1 cover ++ bytes)
  let r := putBits (putBits (d.record h i) 15 1 (b2n six)) 8 7 bytes.length
  let fmt := if six then 1 else 3
  let coded := if six then sixTile else targets.map (fun px => px.map (· / 64))
  let esc := ((List.range cover).map (pixelEscapes fmt (choosePred fmt 0 tab coded) tab coded)).foldl (· + ·) 0
  let d2 := (((d1.setRecord h i r).ceCount 0 1).ceCount 2 1).ceCount 6 esc
  let d2' := if six then d2.ceCount 7 1 else d2
  let d3 := if part then d2'.ceCount 8 1 else d2'
  d3.onFab h (fun u => { u with trunc := u.trunc + b2n six, uncovered := u.uncovered + b2n part,
                                histBytes := u.histBytes + 1 + bytes.length })

/-- R229: the last line of tile row `ty` of a raster `w` wide has passed OVERDRIVE. -/
def Dev.histRow (h w ty : Nat) (rows : List (List Px)) (d : Dev) : Dev :=
  foldS (List.range ((w + 7) / 8)) (fun tx s =>
    s.histSlot h (ty * ((w + 7) / 8) + tx) ((List.range 64).map (fun j =>
      [(rowPx rows tx j).c0, (rowPx rows tx j).c1, (rowPx rows tx j).c2]))) (d.ceTaken true)

/-- R231: an aborted frame leaves the slots of tile row `ty` with COVER 0 and length class 0. -/
def Dev.histAbort (h w ty : Nat) (d : Dev) : Dev :=
  foldS (List.range ((w + 7) / 8)) (fun tx s =>
    let i := ty * ((w + 7) / 8) + tx
    (s.agentWrite (8 + h) (d.app (STh_OD_HIST_BASE_V h) * 256 + 128 * i) [0]).setRecord h i (putBits (s.record h i) 8 7 0)) d

/-- R465, R466: an internal decode that fails is reported. -/
def Dev.badStream (d : Dev) : Dev := (d.ceCount 10 1).raiseAt CE_EVT_STATUS CE_EVT_ENABLE clsDma 0xFF 0

/-- R230: the slots of tile row `ty` are read and decoded before its first line. -/
def Dev.histRead (h w ty : Nat) (d : Dev) : Dev :=
  if (d.fab h).odRestart then d
  else
    let slots := (List.range ((w + 7) / 8)).map (fun tx =>
      let i := ty * ((w + 7) / 8) + tx
      if (d.fab h).noPrev.contains i then some ([], false) else d.histTile h i)
    slots.foldl (fun s t => if t.isSome then s.ceCount 1 1 else s.badStream)
      ((d.ceTaken false).onFab h (fun u => { u with prevRows := (ty, slots) :: u.prevRows }))

/-! ### Uniformity maps (R222) -/

/-- What the fetch of map tile `i` counts: its bytes, its decode or its failure. -/
def Dev.mapCount (h i : Nat) (d : Dev) : Dev :=
  let len := (d.mapEntry h i).2
  match d.mapTile h i with
  | some _ => (if len = 0 then d else d.ceCount 1 1).onFab h (fun u => { u with mapBytes := u.mapBytes + 8 + len })
  | none =>
    let d1 := (d.putB (STh_UNIF_STATUS_MAP_ERR h) true).inc (STh_UNIF_ERR_COUNT_V h)
    let d2 := if len ≤ 434 ∧ d.mapBase h + (d.mapEntry h i).1 + len ≤ dramEnd then d1.badStream else d1
    d2.onFab h (fun u => { u with mapBytes := u.mapBytes + 8 })

/-- The maps of tile row `ty` of a raster `w` wide are fetched before its first line and stay those of the frame; `late` tells that they
had not arrived. -/
def Dev.mapRow (h w ty : Nat) (late : Bool) (d : Dev) : Dev :=
  let n := (w + 7) / 8
  let tiles := (List.range n).map (· + ty * n)
  let keep (l : List (List (List Nat))) (s : Dev) : Dev := s.onFab h (fun u => { u with mapRows := (ty, l) :: u.mapRows })
  if late then d.putB (STh_UNIF_STATUS_MAP_LATE h) true
  else if d.appB (STh_UNIF_CTRL_COARSE h) then
    keep (tiles.map (fun i => [d.mapCoarse h i])) (d.onFab h (fun u => { u with mapBytes := u.mapBytes + 8 * n }))
  else keep (tiles.map (fun i => (d.mapTile h i).getD [])) (foldS tiles (Dev.mapCount h) (d.ceTaken false))

/-! ### Kept lines (R180, R181, R197) -/

/-- The device address of the luma that ASSIST keeps of column `x` (R197). -/
def Dev.lumaAddr (d : Dev) (h : Nat) (e : StageEntry) (x : Nat) : Nat := d.lmBase h e + 12288 + 2 * x

/-- Line `y` has passed ASSIST instance `a` with PEAK set: the lumas of the line before that read uncorrectable are noted, and those of
this line are kept in their place. -/
def Dev.lumaLine (h a y : Nat) (e : StageEntry) (line : List Px) (d : Dev) : Dev :=
  let gone := if y = 0 then [] else (List.range line.length).filter (fun x => d.memu.poison.contains (unitOf (d.lumaAddr h e x)))
  let d1 := d.onFab h (fun u => { u with lostLuma := gone.map (fun x => (a, y, x)) ++ u.lostLuma })
  d1.agentWrite (8 + h) (d.lumaAddr h e 0) (line.flatMap (fun q => leBytes 2 (d.luma h a q)))

/-- Source line `y`, filtered horizontally, enters SCALE's line buffers. -/
def Dev.scaleLine (h y : Nat) (d : Dev) : Dev := match d.stage h 5 with
  | some e => foldS (List.range (d.app (STh_SCALE_OUT_SIZE_W_OUT h))) (fun x s => s.unitWritten (d.scaleUnit h e x y)) d
  | none => d

/-! ### Lines entering the stages -/

/-- Keeps a line of the tile row in progress; the row is full after its eighth line or the raster's last. -/
def rowFull (y v : Nat) : Bool := y % 8 == 7 || y + 1 == v

/-- Line `y` enters chain position `j` of head `h`. `late` names the tile rows whose maps have not arrived for UNIFORM (R222). -/
def Dev.lineEnters (h j y : Nat) (late : List Nat) (d : Dev) : Dev :=
  match (d.chain h)[j]? with
  | none => d
  | some e =>
    let (w, v) := d.rasterAt h j
    let d1 := e.engines.zipIdx.foldl (fun s (k, i) => s.addWrap (SEk_PIXELS_V k) (stripeCols e.engines.length w i).2) d
    if y ≥ v || d.bypassed h j e.kind then d1
    else match e.kind with
      | 7 =>
        let a := d.assistOf h j
        let line := picLine (d.inputPic h j) w y
        let d2 := if d.appB (STh_ASa_CTRL_HIST h a) then d1.histLine h a y e line else d1
        if d.appB (STh_ASa_CTRL_PEAK h a) then d2.lumaLine h a y e line else d2
      | 8 => if y % 8 = 0 then d1.mapRow h w (y / 8) (late.contains (y / 8)) else d1
      | 9 =>
        let d2 := if y % 8 = 0 then (d1.histRead h w (y / 8)).onFab h (fun u => { u with odRows := [] }) else d1
        let d3 := d2.onFab h (fun u => { u with odRows := u.odRows ++ [picLine (d.inputPic h j) w y] })
        if rowFull y v then d3.histRow h w (y / 8) (d3.fab h).odRows else d3
      | 12 =>
        if !d.isRaster h || !d.appB (STh_TILESIG_CTRL_V h) then d1
        else
          let d2 := if y % 8 = 0 then d1.onFab h (fun u => { u with sigRows := [] }) else d1
          let d3 := d2.onFab h (fun u => { u with sigRows := u.sigRows ++ [picLine (d.inputPic h j) w y] })
          if rowFull y v then
            let rows := (d3.fab h).sigRows
            let n := (w + 7) / 8
            foldS (List.range n) (fun tx s =>
              let i := y / 8 * n + tx
              let px := (List.range 64).map (fun j => [(rowPx rows tx j).c0 / 64, (rowPx rows tx j).c1 / 64, (rowPx rows tx j).c2 / 64])
              (s.signTile h i tx (y / 8) (tileSignature rows tx)).tsTile h i n px) d3
          else d3
      | _ => d1

/-- Source lines up to but not including `upto` enter the stages before SCALE. -/
def Dev.inputEnters (h upto : Nat) (late : List Nat) (d : Dev) : Dev :=
  let from' := (d.fab h).inLines
  let before := filterRange (d.chain h).length (d.beforeScale h)
  let d1 := foldS ((List.range (upto - from')).map (· + from')) (fun y s =>
    (before.foldl (fun t j => t.lineEnters h j y late) s).scaleLine h y) d
  d1.onFab h (fun u => { u with inLines := max u.inLines upto })

/-- The source lines that have entered the stages before SCALE once head line `n` is done (R159): the lines of the last picture line
bring the rest of the window. -/
def Dev.inputUpto (d : Dev) (h n : Nat) : Nat :=
  let hIn := (d.windowSize h).2
  match d.inputLine h n hIn with
  | some m => if n + 1 = d.app (STh_SCALE_OUT_POS_V0 h) + d.app (STh_SCALE_OUT_SIZE_H_OUT h) then hIn else m + 1
  | none => 0

/-- The plane lines that head line `n` needs: those of the source lines that it brings in where COMPOSE precedes SCALE (R192). -/
def Dev.planesFor (d : Dev) (h n : Nat) : List (Nat × Nat) :=
  if d.beforeScale h (d.posOf h 6) then
    let low := (d.fab h).inLines
    ((List.range (d.inputUpto h n - low)).map (· + low)).flatMap (d.planeLines h)
  else d.planeLines h n

/-- The stages' work for head line `n`: the source lines it needs, then its way from SCALE on. -/
def Dev.stagesLine (h n : Nat) (late : List Nat) (d : Dev) : Dev :=
  let d1 := if d.has h 5 then d.inputEnters h (d.inputUpto h n) late else d
  let after := (List.range (d.chain h).length).filter (fun j => !d.beforeScale h j)
  foldS after (fun j s => s.lineEnters h j n late) d1

/-- R181, R190: the sticky bits that a line's output shows. -/
def Dev.lineStatus (h : Nat) (line : List Px) (d : Dev) : Dev :=
  let src := (d.head h).sect.source
  let d1 := if line.any (·.bad) then d.putB (STh_STATUS_LM_ERROR h) true else d
  let (w, v) := d.windowSize h
  if d.has h 5 ∧ src < 4 ∧ (d.inWidth src < d.app (STh_SCALE_IN_POS_X0 h) + w ∨ d.inHeight src < d.app (STh_SCALE_IN_POS_Y0 h) + v) then
    d1.putB (STh_STATUS_WINDOW_CLIPPED h) true
  else d1

/-! ### The band tracker (R214 to R217) -/

/-- The band that a reading names from scratch. -/
def Dev.bandAt (d : Dev) (h : Nat) (t slack : Int) : Nat :=
  (List.range 8).foldl (fun b j => if d.edge h j - slack ≤ t then j else b) 0

/-- The tracker band after a later reading (R215). -/
def Dev.bandNext (d : Dev) (h b : Nat) (t : Int) : Nat :=
  let hy : Int := d.app (BANDh_CTRL_HYST h)
  if b < 7 ∧ d.edge h (b + 1) ≤ t then d.bandAt h t 0
  else if 0 < b ∧ t < d.edge h b - hy then d.bandAt h t hy
  else b

/-- R214: has thermistor `t` reported neither open nor short, now and for 1 s? -/
def Dev.thermUsable (d : Dev) (t : Nat) : Bool :=
  !d.flag (THERMt_TEMP_OPEN t) && !d.flag (THERMt_TEMP_SHORT t)
    && !(nth none d.harn.thermBad t).any (fun a => decide ((d.tb 3).total < a + 1000000000))

/-- R214: the sensor in use and its reading: source code, whether it is a fallback, the reading if valid. -/
def Dev.bandSource (d : Dev) (h : Nat) : Nat × Bool × Option Int :=
  let src := (d.head h).sect.tempSource
  let internal (k : Nat) : Option Int := if d.flag (TSk_TEMP_VALID k) then some (d.getI (TSk_TEMP_TEMP k)) else none
  if 8 ≤ src then (src, false, internal (src - 8))
  else if d.thermUsable src then (src, false, if d.flag (THERMt_TEMP_VALID src) then some (d.getI (THERMt_TEMP_TEMP src)) else none)
  else (8 + d.app (BANDh_CTRL_FALLBACK h), true, internal (d.app (BANDh_CTRL_FALLBACK h)))

/-- Sets the tracker band; a change by a later reading or a re-initialisation is counted (R215). -/
def Dev.setBand (h b : Nat) (count : Bool) (d : Dev) : Dev :=
  if d.get (BANDh_STATUS_TRACKER h) = b then d
  else (if count then d.inc (BANDh_CHANGE_COUNT_V h) else d).put (BANDh_STATUS_TRACKER h) b

/-- R216: the tracker re-initialises from its latest reading. -/
def Dev.bandReinit (h : Nat) (d : Dev) : Dev :=
  if d.appB (BANDh_CTRL_FORCE h) then d.setBand h (d.app (BANDh_CTRL_FORCE_BAND h)) false
  else if (d.fab h).bandRead then d.setBand h (d.bandAt h (d.getI (BANDh_TEMP_TEMP h)) 0) true
  else d

/-! ### Working tables (R224 to R227) -/

/-- R227: head `h`'s build need: the tag that no complete buffer carries. -/
def Dev.odNeed (d : Dev) (h : Nat) : Option (Nat × Nat) :=
  let tag := (d.get (BANDh_STATUS_TRACKER h), d.get (STh_OD_STATUS_GEN h))
  if d.isRaster h && d.has h 9 && !(d.fab h).anchors.isEmpty && !(d.fab h).odTags.contains (some tag) then some tag else none

/-- Brings builds up to date with the needs: an outdated build is abandoned, PENDING shows the waiting heads. -/
def Dev.odSync (d : Dev) : Dev :=
  let d1 := foldS (List.range 8) (fun h s => match (s.fab h).odBuild with
    | some (_, band, gen) =>
      if s.odNeed h = some (band, gen) then s
      else (((s.onFab h (fun u => { u with odBuild := none })).put (STh_OD_STATUS_BUILDING h) (b2n (s.fab h).odCopy)).put FAB_CORR_BUILD_BUSY 0)
    | none => s) d
  d1.put FAB_CORR_BUILD_PENDING ((List.range 8).foldl (fun a h =>
    if (d1.odNeed h).isSome ∧ (d1.fab h).odBuild.isNone then a + 2 ^ h else a) 0)

/-- The synthesis temperature of band `b` (R225). -/
def Dev.synthTemp (d : Dev) (h b : Nat) : Int := if b < 7 then (d.edge h b + d.edge h (b + 1)) / 2 else d.edge h 7 + 160

/-- Entry `k` (channel-major, 33 × 33 points) of an anchor. -/
def Anchor.entry (a : Anchor) (k : Nat) : Int := ofLE ((a.entries.drop (2 * k)).take 2)

/-- R225: the entries of the working table at temperature `ts`. -/
def synthesise (anchors : List Anchor) (ts : Int) : List Byte :=
  match anchors.filter (fun a => decide (a.temp ≤ ts)) |>.getLast?, anchors.find? (fun a => decide (ts < a.temp)) with
  | none, some b => b.entries
  | some a, none => a.entries
  | none, none => []
  | some a, some b =>
    if a.temp = ts then a.entries
    else (List.range 3267).flatMap (fun k =>
      let va := a.entry k
      let vb := b.entry k
      leBytes 2 (clamp16 (va + ((vb - va) * (ts - a.temp) * 2 + (b.temp - a.temp)) / ((b.temp - a.temp) * 2))))

/-- ANCHOR_COPY_COMPLETE of head `h` (R224). -/
def anchorCopyComplete (h : Nat) (d : Dev) : Dev :=
  if !(d.fab h).odCopy then d
  else
    let base := d.app (STh_OD_ANCHOR_BASE_V h) * 256
    let n := d.app (STh_OD_CTRL_V h)
    let temp (k : Nat) : Int := sgn 16 (d.dpNum (base + k * 8192) 2)
    let ok := allBelow n (fun k => decide (-880 ≤ temp k ∧ temp k ≤ 2400) && (k == 0 || decide (temp (k - 1) < temp k))
      && (d.dpBytes (base + k * 8192 + 2) 62).all (· == 0))
    let d1 := d.onFab h (fun u => { u with odCopy := false })
    let d2 := d1.put (STh_OD_STATUS_BUILDING h) (b2n (d1.fab h).odBuild.isSome)
    if ok then
      let set := (List.range n).map (fun k => { temp := temp k, entries := d.dpBytes (base + k * 8192 + 64) 6534 : Anchor })
      (((d2.onFab h (fun u => { u with anchors := set })).addWrap (STh_OD_STATUS_GEN h) 1).put (STh_OD_STATUS_VALID_ANCHORS h) n).odSync
    else (d2.putB (STh_OD_STATUS_ANCHOR_ERR h) true).odSync

/-- Does a build or an anchor copy run? -/
def Dev.odBusy (d : Dev) : Bool := anyBelow 8 (fun h => (d.fab h).odBuild.isSome)

/-- OD_BUILD_START (R227): the sequencer takes the lowest head with a need. -/
def odBuildStart (d : Dev) : Dev :=
  match (List.range 8).find? (fun h => (d.odNeed h).isSome && !(d.fab h).odCopy) with
  | some h =>
    match d.odNeed h with
    | some (band, gen) =>
      if d.odBusy then d
      else
        let buf := if d.flag (STh_OD_STATUS_TABLE h) then 1 - d.get (STh_OD_STATUS_TABLE_BUF h) else 0
        let d1 := d.onFab h (fun u => { u with odBuild := some (buf, band, gen), odTags := updAt u.odTags buf (fun _ => none) })
        let d2 := (d1.put (STh_OD_STATUS_BUILDING h) 1).put (STh_OD_STATUS_BUILD_BAND h) band
        (((d2.put FAB_CORR_BUILD_BUSY 1).put FAB_CORR_BUILD_HEAD h).put FAB_CORR_BUILD_BAND band).odSync
    | none => d
  | none => d

/-- OD_BUILD_COMPLETE after `us` µs (R227). -/
def odBuildComplete (us : Nat) (d : Dev) : Dev :=
  match (List.range 8).find? (fun h => (d.fab h).odBuild.isSome) with
  | none => d
  | some h =>
    match (d.fab h).odBuild, d.stage h 9 with
    | some (buf, band, gen), some e =>
      let d1 := d.agentWrite 1 (d.lmBase h e + buf * 8192) (synthesise (d.fab h).anchors (d.synthTemp h band))
      let d2 := d1.onFab h (fun u => { u with odBuild := none, odTags := updAt u.odTags buf (fun _ => some (band, gen)) })
      (((d2.put (STh_OD_STATUS_BUILDING h) (b2n (d2.fab h).odCopy)).put (STh_OD_BUILD_US_V h) us).put FAB_CORR_BUILD_BUSY 0).odSync
    | _, _ => d

/-- R503: a lockstep restart abandons the build in progress; its need remains. -/
def Dev.odAbandon (d : Dev) : Dev :=
  Dev.odSync (foldS (List.range 8) (fun h s =>
    if (s.fab h).odBuild.isSome then
      ((s.onFab h (fun u => { u with odBuild := none })).put (STh_OD_STATUS_BUILDING h) (b2n (s.fab h).odCopy)).put FAB_CORR_BUILD_BUSY 0
    else s) d)

/-- BAND_READING of head `h`, every 10 ms (R214, R215). -/
def bandReading (h : Nat) (d : Dev) : Dev :=
  if !d.headPresent h || decide (d.mode < 3) then d
  else
    let (code, fb, r) := d.bandSource h
    let d2 := (d.put (BANDh_STATUS_SOURCE h) code).putB (BANDh_STATUS_FALLBACK h) fb
    match r with
    | none => d2.put (BANDh_TEMP_VALID h) 0
    | some t =>
      let d3 := (d2.put (BANDh_TEMP_VALID h) 1).putI (BANDh_TEMP_TEMP h) t
      let first := !(d3.fab h).bandRead
      let d4 := d3.onFab h (fun u => { u with bandRead := true })
      let d5 := if d4.appB (BANDh_CTRL_FORCE h) then d4
        else if first then d4.setBand h (d4.bandAt h t 0) false
        else d4.setBand h (d4.bandNext h (d4.get (BANDh_STATUS_TRACKER h)) t) true
      d5.odSync

/-! ### The fabric at a commit point -/

/-- The changes of the shadow set that the fabric acts on when the set applies (R216, R224, R231): compares the words applied
before (`old`) with those now applied. `od` tells that the chain in force from here on holds OVERDRIVE. -/
def Dev.fabricChanged (h : Nat) (od : Bool) (d old : Dev) : Dev :=
  let differs (f : Fld) : Bool := old.app f != d.app f
  let edges := anyBelow 4 (fun k => old.appWord (BANDh_EDGEk h k) != d.appWord (BANDh_EDGEk h k)) || differs (BANDh_CTRL_HYST h)
  let unforced := old.appB (BANDh_CTRL_FORCE h) && !d.appB (BANDh_CTRL_FORCE h)
  let d1 := if edges || unforced || d.appB (BANDh_CTRL_FORCE h) then d.bandReinit h else d
  let d2 := d1.putB (BANDh_STATUS_FORCED h) (d.appB (BANDh_CTRL_FORCE h))
  let d3 := if od && (differs (STh_OD_ANCHOR_BASE_V h) || differs (STh_OD_CTRL_V h)) then
      (d2.onFab h (fun u => { u with odCopy := true })).put (STh_OD_STATUS_BUILDING h) 1 else d2
  let unbypassed := bitOf (old.app (STh_BYPASS_V h)) (d.posOf h 9) && !bitOf (d.app (STh_BYPASS_V h)) (d.posOf h 9)
  let d4 := if differs (STh_OD_HIST_BASE_V h) || unbypassed then d3.onFab h (fun u => { u with odRestartNext := true }) else d3
  (d4.fabricApplied h).odSync

/-- R226, R227: the place of OVERDRIVE's working tables has changed, and no table in the new place is complete. -/
def Dev.odMoved (h : Nat) (d : Dev) : Dev :=
  let d1 := if (d.fab h).odBuild.isSome then d.put FAB_CORR_BUILD_BUSY 0 else d
  let d2 := d1.onFab h (fun u => { u with odTags := [none, none], odBuild := none })
  ((d2.put (STh_OD_STATUS_TABLE h) 0).put (STh_OD_STATUS_BUILDING h) (b2n (d.fab h).odCopy)).odSync

/-- Sets bit `b` of the flags of head `h`'s frame (R286). -/
def Dev.recFlag (h b : Nat) (d : Dev) : Dev := d.onHead h (fun u => { u with flags := Nat.lor u.flags (2 ^ b) })

/-- R226: the working table of the next frame, and TABLE_STALE (bit 4 of its flags). -/
def Dev.odChoose (h : Nat) (d : Dev) : Dev :=
  if !d.has h 9 || d.bypassed h (d.posOf h 9) 9 then d
  else
    let tag := (d.get (BANDh_STATUS_LATCHED h), d.get (STh_OD_STATUS_GEN h))
    match [0, 1].find? (fun b => nth none (d.fab h).odTags b == some tag) with
    | some b =>
      ((d.put (STh_OD_STATUS_TABLE h) 1).put (STh_OD_STATUS_TABLE_BAND h) tag.1).put (STh_OD_STATUS_TABLE_BUF h) b
    | none => (d.inc (STh_OD_STALE_COUNT_V h)).recFlag h 4

/-- R217: a raster head latches its band; the table for the next frame follows. -/
def Dev.bandLatch (h : Nat) (d : Dev) : Dev := (d.put (BANDh_STATUS_LATCHED h) (d.get (BANDh_STATUS_TRACKER h))).odChoose h

/-- R233: the dither phase at a commit point. -/
def Dev.ditherCommit (h : Nat) (d : Dev) : Dev :=
  if !d.has h 10 then d
  else
    let static := d.get (STh_DITHER_STATUS_STATIC_FRAMES h)
    let frozen := d.appB (STh_DITHER_CTRL_FREEZE h) && d.appB (STh_TILESIG_CTRL_V h)
      && decide (d.app (STh_DITHER_CTRL_FREEZE_FRAMES h) ≤ static)
    let ph := if !d.appB (STh_DITHER_CTRL_TEMPORAL h) then 0
      else if frozen then d.get (STh_DITHER_STATUS_PHASE h) else (d.get (STh_DITHER_STATUS_PHASE h) + 1) % 4
    (d.putB (STh_DITHER_STATUS_FROZEN h) frozen).put (STh_DITHER_STATUS_PHASE h) ph

/-- The counts of a raster head's frame that ends (R198, R221, R229, R233, R294); `frame` is its number. An aborted frame counts
as complete for TILESIG, the static counts and the damage rectangle alone (R198). -/
def Dev.fabricFrameEnd (h frame : Nat) (complete : Bool) (d : Dev) : Dev :=
  let u := d.fab h
  let d1 := (d.put (STh_TILESIG_CHANGED_V h) u.changed).setDamage h u.damage
  let d2 := if d.has h 8 && complete then d1.put (STh_UNIF_READ_BYTES_V h) u.mapBytes else d1
  let d3 := if d.has h 9 then
      (if complete then
        ((d2.put (STh_OD_TRUNC_COUNT_V h) u.trunc).put (STh_OD_UNCOVERED_COUNT_V h) u.uncovered).put (STh_OD_HIST_BYTES_V h) u.histBytes
       else d2).put (STh_OD_STATUS_RESTART h) (b2n u.odRestart) |>.putB (STh_OD_STATUS_STALE h) (bitOf (d.head h).flags 4)
    else d2
  let d4 := if d.has h 10 then
      d3.put (STh_DITHER_STATUS_STATIC_FRAMES h) (if u.changed = 0 then min 255 (d3.get (STh_DITHER_STATUS_STATIC_FRAMES h) + 1) else 0)
    else d3
  ((d4.histCommit h frame).tsFrameEnd h frame).onFab h (fun u => { u with staticRun := if u.changed = 0 then u.staticRun + 1 else 0 })

/-- A frame or a pass of head `h` begins to enter the stages (R176). -/
def Dev.pictureStart (h : Nat) (d : Dev) : Dev :=
  let d1 := d.onFab h (fun u => { u with
    inLines := 0, sigRows := [], odRows := [], changed := 0, trunc := 0, uncovered := 0, histBytes := 0, mapBytes := 0, damage := none,
    mapRows := [], latePlanes := [], prevRows := [], lostLuma := [] })
  if d1.overloaded h then d1.putB (STh_STATUS_OVERLOAD h) true else d1

/-- The fabric at a frame start of head `h`. The first frame after a re-gait is the first that is not black (R231, R270). -/
def Dev.fabricFrameStart (h : Nat) (d : Dev) : Dev :=
  let od := d.has h 9 && !d.bypassed h (d.posOf h 9) 9
  let after := d.headState h != 3
  let d1 := (d.pictureStart h).onFab h (fun u => { u with
    odRestart := od && (u.odRestartNext || (after && u.odRegait)),
    noPrev := u.noPrevNext, noPrevNext := [],
    odRestartNext := if od then false else u.odRestartNext, odRegait := u.odRegait && !after })
  d1.tsFrameStart h

/-- The fabric of a head that aborts its frame at line `n` (R231). -/
def Dev.fabricAbort (h n : Nat) (d : Dev) : Dev :=
  let j := d.posOf h 9
  let d1 := d.tsClose h
  if d1.has h 9 && !d1.bypassed h j 9 then
    let y := if d1.beforeScale h j then (d1.fab h).inLines else n
    if y < (d1.rasterAt h j).2 then d1.histAbort h (d1.rasterAt h j).1 (y / 8) else d1
  else d1

/-- The fabric of a head under a per-head reset (R231, R233, R28). -/
def Dev.fabricReset (h : Nat) (d : Dev) : Dev :=
  let d1 := d.onFab h (fun u => { u with
    histBins := [[], []], sigRows := [], odRows := [], changed := 0, damage := none,
    odRestartNext := true, odRestart := false, odRegait := false, staticRun := 0 })
  (d1.put (STh_DITHER_STATUS_PHASE h) 0).put (STh_DITHER_STATUS_STATIC_FRAMES h) 0

/-! ### The commands -/

/-- ENGINE_PARITY_ERROR. -/
def execEngineParityError (k : Fin 28) (s : State) := s.on (engineParityError k)
/-- ENGINE_BIST_START. -/
def execEngineBistStart (k : Fin 28) (s : State) := s.on (engineBistStart k)
/-- ENGINE_BIST_COMPLETE. -/
def execEngineBistComplete (k : Fin 28) (pass : Bool) (s : State) := s.on (engineBistComplete k pass)
/-- BAND_READING. -/
def execBandReading (h : Fin 8) (s : State) := s.on (bandReading h)
/-- ANCHOR_COPY_COMPLETE. -/
def execAnchorCopyComplete (h : Fin 8) (s : State) := s.on (anchorCopyComplete h)
/-- OD_BUILD_START. -/
def execOdBuildStart (s : State) := s.on odBuildStart
/-- OD_BUILD_COMPLETE. -/
def execOdBuildComplete (us : Nat) (s : State) := s.on (odBuildComplete us)

end Sys2Proof.Machine
end

