-- ==== Sys2Proof/Machine/Cal.lean ====
section
/-! DEFINITION. Calibration and spares (chapter 14): items, their results and safe instants, the sensors, the record in flash,
the farrier's log. -/
namespace Sys2Proof.Machine

/-! ### Items (R479) -/

/-- The head that owns an item's output. -/
def Dev.itemOwner (d : Dev) (i : Nat) : Option Nat :=
  if i < 24 then (if d.flag (COMc_CTRL_ENABLE (i / 6)) then some (d.get (COMc_CTRL_HEAD (i / 6))) else none)
  else if i < 42 then (if d.flag (GMAk_CTRL_ENABLE (i - 24)) then some (d.get (GMAk_CTRL_HEAD (i - 24))) else none)
  else if i = 42 then (if d.flag HAR_VCOMR_CTRL_ENABLE then some (d.get HAR_VCOMR_CTRL_HEAD) else none)
  else none

/-- The state of the panel that an item's output serves; 0 (OFF) where it serves none. -/
def Dev.itemPanel (d : Dev) (i : Nat) : Nat := match d.itemOwner i with
  | some h => d.get (PANELh_STATUS_STATE h)
  | none => 0

/-- The sensor reading that the temperature rule compares (R479). -/
def Dev.itemTemp (d : Dev) (i : Nat) : Int :=
  if 43 ≤ i ∧ i < 79 then d.getI (TSk_TEMP_TEMP (2 * ((i - 43) / 4) / 3)) else d.getI HAR_TEMP_V

/-- Is item `i` one that waits for a quiet output (R488)? -/
def quietItem (i : Nat) : Bool := (decide (i < 24) && decide (4 ≤ i % 6)) || i == 42

/-- The items that have state `st`. -/
def Dev.itemsIn (d : Dev) (st : Nat) : List Nat := filterRange 88 (fun i => d.get (CAL_ITEMi_STATE i) == st)

/-- Sets CAL_EVT_STATUS bit `b` (R506, R591). -/
def Dev.calEvt (b : Nat) (d : Dev) : Dev := d.raiseAt CAL_EVT_STATUS CAL_EVT_ENABLE clsCal 0xFF b

/-- Changes the calibration unit. -/
def Dev.onCal (f : CalUnit → CalUnit) (d : Dev) : Dev := { d with cal := f d.cal }

/-- CAL_STATUS.BUSY and ITEM follow the runs. -/
def Dev.calSync (d : Dev) : Dev :=
  (d.putB CAL_STATUS_BUSY (d.itemsIn 2 != [])).put CAL_STATUS_ITEM (d.cal.measuring.getD 0)

/-- A trigger of R481 reaches item `i`; `failed` tells that it also acts on a FAILED item. -/
def Dev.calPend (failed : Bool) (i : Nat) (d : Dev) : Dev :=
  let st := d.get (CAL_ITEMi_STATE i)
  if st = 0 ∨ (st = 3 ∧ failed = true) then d.put (CAL_ITEMi_STATE i) 1 else d

/-! ### Settings (R337, R339, R483) -/

/-- A ladder tap's level in mV. -/
def tapLevel (t : Nat) : Rat := -5500 + (t * 16500 : Nat) / (255 : Rat)

/-- The nearest tap. -/
def nearestTap (mv : Int) : Nat := (clampI 0 255 (roundDiv ((mv + 5500) * 255) 16500)).toNat

/-- What an element with offset `off` (0.01 mV) and gain error `gain` (ppm) makes of a nominal level. -/
def realised (off gain : Int) (nominal : Rat) : Rat := nominal * (1 + (gain : Rat) / 1000000) + (off : Rat) / 100

/-- The first of a list at which `f` is least. -/
def argMin (f : Nat → Rat) : List Nat → Nat
  | [] => 0
  | k :: r => r.foldl (fun b j => if f j < f b then j else b) k

/-- Tap and COMBO of a bias item nearest to `mv`. -/
def biasSetting (off gain mv : Int) : Nat × Nat :=
  let t := nearestTap mv
  (t, argMin (fun c => |realised off gain (tapLevel t + ((c : Int) - 8 : Rat) * (16500 / 255) / 16) - mv|) (List.range 16))

/-- The code within ±8 of `code` whose output lies nearest the level of `code`. -/
def gmaSetting (off gain : Int) (fs code : Nat) : Nat :=
  let lo := code - 8
  argMin (fun c => |realised off gain ((c * fs : Nat) / (1023 : Rat)) - (code * fs : Nat) / (1023 : Rat)|)
    ((List.range (min 1023 (code + 8) + 1 - lo)).map (· + lo))

/-- Offset and gain of the active element of item `i`. -/
def Dev.activeElem (d : Dev) (i : Nat) : Int × Int :=
  let e := nth {} d.cal.elems i
  if d.get (CAL_ITEMi_ELEMENT i) = 0 then (e.offA, e.gainA) else (e.offB, e.gainB)

/-- The trim code in force of item `i`. -/
def Dev.activeTrim (d : Dev) (i : Nat) : Int :=
  let e := nth {} d.cal.elems i
  if d.flag (CAL_ITEMi_TRIMMED i) then (if d.get (CAL_ITEMi_ELEMENT i) = 0 then e.trimA else e.trimB) else 0

/-- The level register of bias item `i`. -/
def biasReg (i : Nat) : Fld := match i % 6 with
  | 0 => BIASc_VA_MV_V (i / 6) | 1 => BIASc_VB_MV_V (i / 6) | 2 => BIASc_VAK_MV_V (i / 6) | 3 => BIASc_VBK_MV_V (i / 6)
  | 4 => BIASc_VCOMH_MV_V (i / 6) | _ => BIASc_VCOML_MV_V (i / 6)

/-- Brings BIASc_SETk, GMAk_SET or the code in force of VCOM_R in line with item `i`'s element and target (R337, R483). -/
def Dev.realise (i : Nat) (d : Dev) : Dev :=
  let (off, gain) := d.activeElem i
  if i < 24 then
    let c := i / 6
    let k := i % 6
    let (tap, combo) := biasSetting off gain (d.getI (biasReg i))
    let d1 := ((d.put (BIASc_SETk_ELEMENT c k) (d.get (CAL_ITEMi_ELEMENT i))).put (BIASc_SETk_TRIMMED c k) (d.get (CAL_ITEMi_TRIMMED i))).putI
      (BIASc_SETk_TRIM c k) (d.activeTrim i)
    (d1.put (BIASc_SETk_COMBO c k) combo).put (BIASc_SETk_TAP c k) tap
  else if i < 42 then
    let k := i - 24
    let d1 := ((d.put (GMAk_SET_ELEMENT k) (d.get (CAL_ITEMi_ELEMENT i))).put (GMAk_SET_TRIMMED k) (d.get (CAL_ITEMi_TRIMMED i))).putI
      (GMAk_SET_TRIM k) (d.activeTrim i)
    d1.put (GMAk_SET_CODE k) (gmaSetting off gain (d.get HAR_GMA_FS_MV_V) (d.get (GMAk_CTRL_CODE k)))
  else if i = 42 then
    { d with harn := { d.harn with vcomRSet := gmaSetting off gain (d.get HAR_GMA_FS_MV_V) (d.get HAR_VCOMR_CODE_V) } }
  else d

/-! ### Ends of runs (R484 to R491) -/

/-- CAL_LAST and the item's ABORT field. -/
def Dev.calEnded (i abort reason : Nat) (d : Dev) : Dev :=
  ((((d.put CAL_LAST_VALID 1).put CAL_LAST_ABORT abort).put CAL_LAST_REASON reason).put CAL_LAST_ITEM i).put (CAL_ITEMi_ABORT i) abort

/-- A run of item `i` ends with no result: PRECOND (1) or CANCELLED (3). -/
def Dev.calAbort (i abort reason : Nat) (d : Dev) : Dev :=
  let d1 := d.onCal (fun u => { u with
    measuring := if u.measuring = some i then none else u.measuring,
    quietWait := u.quietWait && u.measuring != some i,
    results := u.results.filter (fun r => r.item != i || r.kind == 4),
    notBefore := if abort = 1 then updAt u.notBefore i (fun _ => (d.tb 3).total + 1000000000) else u.notBefore })
  let d2 := ((d1.put (CAL_ITEMi_STATE i) 1).calEnded i abort reason).inc (CAL_COUNTk_V (if abort = 1 then 4 else 6))
  (d2.calEvt 1).calSync

/-- R490: the runs of items that `p` names are cancelled. -/
def Dev.calCancel (p : Nat → Bool) (d : Dev) : Dev := foldS ((d.itemsIn 2).filter p) (fun i s => s.calAbort i 3 0) d

/-- R490: runs of outputs that head `h` owns are cancelled. -/
def Dev.calCancelHead (h : Nat) (d : Dev) : Dev := d.calCancel (fun i => d.itemOwner i == some h)

/-- The element of item `i` that is not active. -/
def Dev.spareElem (d : Dev) (i : Nat) : Nat := 1 - d.get (CAL_ITEMi_ELEMENT i)

/-- FAR_ELEMk: element `e` of item `i` is retired. -/
def Dev.elemRetired (i e : Nat) (d : Dev) : Dev :=
  let k := 3 * e + i / 32
  (d.put (FAR_ELEMk_V k) (Nat.lor (d.get (FAR_ELEMk_V k)) (2 ^ (i % 32)))).inc (CAL_COUNTk_V 12)

/-- The farrier's request for element `e` of item `i`. -/
def calRequest (i e : Nat) : FarRequest := { cls := 5, trig := 4, inst := 2 * i + e }

/-- Keeps the measured values of element `e`. -/
def CalElem.keep (x : CalElem) (e : Nat) (m : CalMeas) : CalElem :=
  if e = 0 then { x with offA := m.off, gainA := m.gain } else { x with offB := m.off, gainB := m.gain }

/-- The trim code of R484 for an error in 0.01 mV. -/
def trimFor (err : Int) : Int := clampI (-127) 127 (roundDiv (-(err * 127)) 2500)

/-- The result of a run applies (R486, R491). -/
def Dev.calApply (r : CalResult) (d : Dev) : Dev :=
  let i := r.item
  let e := d.get (CAL_ITEMi_ELEMENT i)
  let swap := r.kind == 1 || r.kind == 3
  let trim := trimFor r.m.activeErr
  let d1 := d.onCal (fun u => { u with
    results := u.results.filter (fun x => x.item != i),
    dirtyAt := if d.flag CAL_STORE_STATUS_DIRTY then u.dirtyAt else (d.tb 3).total,
    elems := updAt u.elems i (fun x =>
      if swap then x.keep (1 - e) r.m
      else if r.kind = 2 then
        let y := if d.flag (CAL_ITEMi_SPARE_OK i) then x.keep (1 - e) r.m else x
        if e = 0 then { y with trimA := trim } else { y with trimB := trim }
      else x.keep e r.m) })
  let d2 := if swap then (((d1.put (CAL_ITEMi_ELEMENT i) (1 - e)).put (CAL_ITEMi_TRIMMED i) 0).inc (CAL_COUNTk_V 2)).calEvt 0
    else if r.kind = 2 then d1.put (CAL_ITEMi_TRIMMED i) 1 else d1
  let residual := if r.kind = 2 then roundDiv (r.m.activeErr * 127 + trim * 2500) 1270 else if 43 ≤ i then r.m.err else roundDiv r.m.err 10
  let d3 := (d2.putI (CAL_ITEMi_RESIDUAL i) (clampI (-128) 127 residual)).putI (CAL_ITEMi_T_LAST i) (nth 0 d.cal.startTemp i)
  let d4 := if r.kind = 3 then ((d3.put (CAL_ITEMi_SPARE_OK i) 0).elemRetired i e).farSubstituted (calRequest i e) (2 * i + (1 - e)) else d3
  let d5 := (((if swap then d4.farTake (calRequest i e) else d4).put (CAL_ITEMi_STATE i) 0).calEnded i 0 0).inc (CAL_COUNTk_V 1)
  ((d5.put CAL_STORE_STATUS_DIRTY 1).realise i).calSync

/-- R485, R497: the swap that the farrier was asked for and that FAR_APPROVE released; one whose element is active no more is
dropped. -/
def Dev.calSwapAsked (r : CalResult) (d : Dev) : Dev :=
  let i := r.item
  let e := d.get (CAL_ITEMi_ELEMENT i)
  let d0 := d.onCal (fun u => { u with results := u.results.filter (fun x => x != r) })
  match (d0.farReleased 5).find? (fun q => q.inst / 2 == i) with
  | none => d0
  | some q =>
    if q.inst ≠ 2 * i + e then d0.farTake q
    else
      let d1 := d0.onCal (fun u => { u with elems := updAt u.elems i (fun x => x.keep (1 - e) r.m) })
      let d2 := (((d1.put (CAL_ITEMi_ELEMENT i) (1 - e)).put (CAL_ITEMi_TRIMMED i) 0).put (CAL_ITEMi_SPARE_OK i) 0).inc (CAL_COUNTk_V 2)
      let d3 := ((d2.elemRetired i e).calEvt 0).farSubstituted q (2 * i + (1 - e))
      ((d3.putI (CAL_ITEMi_RESIDUAL i) (clampI (-128) 127 (roundDiv r.m.err 10))).put CAL_STORE_STATUS_DIRTY 1).realise i

/-- Applies the waiting results of the items that `p` names. -/
def Dev.calApplyAt (p : Nat → Bool) (d : Dev) : Dev :=
  (d.cal.results.filter (fun r => p r.item)).foldl (fun s r => if r.kind = 4 then s.calSwapAsked r else s.calApply r) d

/-- R486: does the result of item `i` apply at once, or between two conversions? -/
def Dev.calNow (d : Dev) (i : Nat) : Bool :=
  if i < 43 then d.itemPanel i == 0
    || (decide (24 ≤ i) && match d.itemOwner i with | some h => d.itemPanel i == 2 && d.headState h == 0 | none => true)
  else if i < 79 then d.get (LNn_STATUS_ROLE (i - 43)) == 0 || decide (2 ≤ d.get (LNn_POWER_STATE (i - 43)))
  else true

/-- FAR_APPROVE releases the swap of element request `q` to its safe instant (R486, R497); a run of the item in progress makes it. -/
def Dev.swapApproved (q : FarRequest) (d : Dev) : Dev :=
  let i := q.inst / 2
  match d.cal.asked.find? (fun r => r.item == i) with
  | none => d
  | some r =>
    let d1 := d.onCal (fun u => { u with asked := u.asked.filter (fun x => x.item != i) })
    if d.get (CAL_ITEMi_STATE i) = 2 then d1
    else
      let d2 := d1.onCal (fun u => { u with results := u.results ++ [r] })
      if d2.calNow i then d2.calApplyAt (· == i) else d2

/-- CAL_RESULT_APPLY of item `i`, where no other event is its safe instant. -/
def calResultApply (i : Nat) (d : Dev) : Dev := if d.calNow i then d.calApplyAt (· == i) else d

/-- The physical sensor of internal sensor `k` (R498). -/
def Dev.sensorOf (d : Dev) (k : Nat) : Nat := if k < 6 then bitsOf (d.word FAR_SENSOR_MAP) (4 * k) 4 else k

/-- The spare sensor of a site's group. -/
def spareSensor (p : Nat) : Nat := if p < 3 then 6 else 7

/-- A failed sensor is replaced in its site by its group's spare (R498). -/
def Dev.sensorSubstitute (q : FarRequest) (d : Dev) : Dev :=
  let p := q.inst
  match (List.range 6).find? (fun s => d.sensorOf s == p) with
  | none => d.farTake q
  | some s =>
    let sp := spareSensor s
    let bits := d.get FAR_SENSOR_STATUS_IN_USE
    if bitOf (d.get FAR_SENSOR_STATUS_FAILED) sp || bitOf bits sp then d.farExhausted q
    else
      let d1 := d.setWord FAR_SENSOR_MAP (putBits (d.word FAR_SENSOR_MAP) (4 * s) 4 sp)
      (d1.put FAR_SENSOR_STATUS_IN_USE (putBits (putBits bits p 1 0) sp 1 1)).farSubstituted q sp

/-- Released requests of class 6 act between two readings. -/
def Dev.sensorsNow (d : Dev) : Dev := (d.farReleased 6).foldl (fun s q => s.sensorSubstitute q) d

/-- R498: physical sensor `p` fails, by trigger `trig`; a spare not in use is retired. -/
def Dev.sensorFails (p trig : Nat) (d : Dev) : Dev :=
  let d1 := d.put FAR_SENSOR_STATUS_FAILED (Nat.lor (d.get FAR_SENSOR_STATUS_FAILED) (2 ^ p))
  let q : FarRequest := { cls := 6, trig := trig, inst := p }
  if bitOf (d.get FAR_SENSOR_STATUS_IN_USE) p then (d1.farTrigger q).sensorsNow
  else (d1.inc (FAR_TRIGk_V trig)).farRetire q p

/-- SENSOR_FAILURE of physical sensor `p`. -/
def sensorFailure (p : Nat) (d : Dev) : Dev := if bitOf (d.get FAR_SENSOR_STATUS_FAILED) p then d else d.sensorFails p 5

/-- The farrier's instance of lane `n` (R508). -/
def Dev.laneInstance (d : Dev) (n : Nat) : Nat := 16 * d.get (LNn_STATUS_LINK n) + d.get (LNn_STATUS_LINK_LANE n) % 16

/-! ### Triggers (R481) -/

/-- The readings of every 10 ms: HAR_TEMP and the eight physical sensors, in 1/16 °C (R481, R498). -/
def internalSensorReading (har : Int) (phys : List Int) (d : Dev) : Dev :=
  if d.mode = 0 then d
  else
    let d1 := (d.putI HAR_TEMP_V har).putB HAR_STATUS_HOT (decide (2000 ≤ har))
    let d2 := foldS (List.range 8) (fun k s =>
      let p := s.sensorOf k
      (s.putB (TSk_TEMP_VALID k) (!bitOf (s.get FAR_SENSOR_STATUS_FAILED) p)).putI (TSk_TEMP_TEMP k) (nth 0 phys p)) d1
    let top := (List.range 8).foldl (fun a k => max a (d2.getI (TSk_TEMP_TEMP k))) (d2.getI TOP_TEMP_MAX_V)
    let d3 := d2.putI TOP_TEMP_MAX_V top
    if d3.flag CAL_CTRL_AUTO_TEMP then
      foldS (List.range 88) (fun i s =>
        if s.get (CAL_ITEMi_STATE i) = 0 ∧ (s.get CAL_DELTA_T_V : Int) < |s.itemTemp i - s.getI (CAL_ITEMi_T_LAST i)| then
          (s.calPend false i).inc (CAL_COUNTk_V 7)
        else s) d3
    else d3

/-- A write of CAL_REQUEST. -/
def calRequestWrite (v : Nat) (d : Dev) : Dev :=
  d.writeVia CAL_REQUEST v (fun _ => decide (v % 256 ≤ 87)) (fun s =>
    (if bitOf v 31 then foldS (List.range 88) (Dev.calPend true) s else s.calPend true (v % 256)).inc (CAL_COUNTk_V 8))

/-! ### The record (R492 to R494) -/

/-- Device flash bytes. -/
def Dev.flashBytes (d : Dev) (a n : Nat) : List Byte := (List.range n).map (fun k => (cellFind d.flash (a + k)).getD 0xFF)

/-- Programs flash bytes: cells of the form of `mem`, where an unlisted byte reads 0xFF. -/
def flashCells : List Host.Cell → Nat → List Byte → List Host.Cell
  | l, _, [] => l
  | l, a, b :: r => flashCells (cellSet 0xFF l a b) (a + 1) r
def Dev.flashStore (a : Nat) (l : List Byte) (d : Dev) : Dev := { d with flash := flashCells d.flash a l }

/-- Erases `n` bytes of flash from `a` up. -/
def Dev.flashErase (a n : Nat) (d : Dev) : Dev := { d with flash := d.flash.filter (fun c => c.1 < a || decide (a + n ≤ c.1)) }

/-- The flash address of slot A (0) or B (1). -/
def slotAddr (k : Nat) : Nat := 0x0C00000 + k * 0x10000

/-- A signed number in `n` little-endian bytes. -/
def leInt (n : Nat) (x : Int) : List Byte := leBytes n (unsgn (8 * n) x)

/-- The 16 bytes of item `i`'s entry. -/
def Dev.calEntry (d : Dev) (i : Nat) : List Byte :=
  let e := nth {} d.cal.elems i
  let ret (k : Nat) : Nat := b2n (bitOf (d.get (FAR_ELEMk_V (3 * k + i / 32))) (i % 32))
  leBytes 1 i ++ leBytes 1 (d.get (CAL_ITEMi_ELEMENT i) + 2 * ret 0 + 4 * ret 1 + 8 * d.get (CAL_ITEMi_TRIMMED i))
    ++ leBytes 2 (d.get (CAL_ITEMi_T_LAST i)) ++ leInt 2 e.offA ++ leInt 2 e.gainA ++ leInt 2 e.offB ++ leInt 2 e.gainB
    ++ leInt 1 e.trimA ++ leInt 1 e.trimB ++ leBytes 2 0

/-- Bytes 0 to 1,427 of a record with SEQ `seq`. -/
def Dev.calRecord (d : Dev) (seq : Nat) : List Byte :=
  let body := leBytes 4 0x524C4143 ++ leBytes 2 seq ++ leBytes 2 1 ++ leBytes 2 1408 ++ leBytes 6 0
    ++ (List.range 88).flatMap d.calEntry
  body ++ leBytes 4 (crc32 body)

/-- Slot registers: CAL_SLOTA and CAL_SLOTB. -/
def slotValid (k : Nat) : Fld := if k = 0 then CAL_SLOTA_VALID else CAL_SLOTB_VALID
def slotUncommitted (k : Nat) : Fld := if k = 0 then CAL_SLOTA_UNCOMMITTED else CAL_SLOTB_UNCOMMITTED
def slotSeq (k : Nat) : Fld := if k = 0 then CAL_SLOTA_SEQ else CAL_SLOTB_SEQ

/-- R493: reads slot `k`: its header and CRC, and COMMIT. -/
def Dev.slotRead (k : Nat) (d : Dev) : Dev :=
  let b := d.flashBytes (slotAddr k) 1428
  let header := ofLE (b.take 4) == 0x524C4143 && ofLE ((b.drop 6).take 2) == 1 && ofLE ((b.drop 8).take 2) == 1408
    && ofLE (b.drop 1424) == crc32 (b.take 1424)
  let committed := ofLE (d.flashBytes (slotAddr k + 4092) 4) == 0xA55A0001
  let d1 := ((d.putB (slotValid k) (header && committed)).putB (slotUncommitted k) (header && !committed)).put (slotSeq k)
    (if header then ofLE ((b.drop 4).take 2) else 0)
  if header && !committed then d1.inc (CAL_COUNTk_V 11) else d1

/-- Is slot `k` newer than the other (R9)? -/
def Dev.slotNewer (d : Dev) (k : Nat) : Bool := past16 (d.get (slotSeq (1 - k))) (d.get (slotSeq k))

/-- The valid slot in force (R493). -/
def Dev.slotInForce (d : Dev) : Option Nat :=
  if d.flag CAL_SLOTA_VALID && (!d.flag CAL_SLOTB_VALID || !d.slotNewer 1) then some 0
  else if d.flag CAL_SLOTB_VALID then some 1 else none

/-- Takes the values of item `i` from a record. -/
def Dev.calLoadItem (base i : Nat) (d : Dev) : Dev :=
  let b := d.flashBytes (base + 16 + 16 * i) 16
  let n (o w : Nat) : Int := sgn (8 * w) (ofLE ((b.drop o).take w))
  let f := ofLE ((b.drop 1).take 1)
  let d1 := d.onCal (fun u => { u with elems := updAt u.elems i (fun _ =>
    { offA := n 4 2, gainA := n 6 2, offB := n 8 2, gainB := n 10 2, trimA := n 12 1, trimB := n 13 1 }) })
  let d2 := ((d1.put (CAL_ITEMi_ELEMENT i) (f % 2)).put (CAL_ITEMi_TRIMMED i) (bitsOf f 3 1)).putI (CAL_ITEMi_T_LAST i) (n 2 2)
  (d2.putB (CAL_ITEMi_SPARE_OK i) (decide (i < 43) && bitsOf f 1 2 == 0)).realise i

/-- INIT reads both slots and applies the one in force; with none, items take nominal settings (R493). -/
def Dev.calInit (d : Dev) : Dev :=
  let d1 := (d.slotRead 0).slotRead 1
  match d1.slotInForce with
  | some k => (foldS (List.range 88) (Dev.calLoadItem (slotAddr k)) d1).put CAL_STORE_STATUS_SLOT (k + 1)
  | none => foldS (List.range 43) (fun i s => (s.put (CAL_ITEMi_SPARE_OK i) 1).realise i)
      ((d1.put CAL_STATUS_UNCALIBRATED 1).onCal (fun u => { u with elems := List.replicate 88 {} }))

/-- The slot that a store erases (R494). -/
def Dev.slotToErase (d : Dev) : Nat :=
  if !d.flag CAL_SLOTA_VALID then 0
  else if !d.flag CAL_SLOTB_VALID then 1
  else if d.slotNewer 1 then 0 else 1

/-- A store starts in READY and RUN while no run is RUNNING (R494, R513). -/
def Dev.storeStart (d : Dev) : Dev :=
  if (d.mode = 3 ∨ d.mode = 4) ∧ d.itemsIn 2 = [] ∧ (d.get CAL_STORE_STATUS_STATE = 0 ∨ d.get CAL_STORE_STATUS_STATE = 4) then
    let k := d.slotToErase
    (((d.onCal (fun u => { u with slot := k })).put CAL_STORE_STATUS_STATE 1).put (slotValid k) 0).put (slotUncommitted k) 0
  else d

/-- CAL_STORE_GO. -/
def calStoreWrite (v : Nat) (d : Dev) : Dev :=
  d.writeVia CAL_STORE_CTRL v (fun _ => true) (fun s => if bitOf v 31 then s.storeStart else s)

/-- CAL_AUTO_STORE: DIRTY has been set for STORE_MIN minutes. -/
def calAutoStore (d : Dev) : Dev :=
  if d.flag CAL_CTRL_AUTO_STORE && d.flag CAL_STORE_STATUS_DIRTY
      && decide (d.cal.dirtyAt + d.get CAL_CTRL_STORE_MIN * 60000000000 ≤ (d.tb 3).total) then
    Dev.storeStart (d.onCal (fun u => { u with dirtyAt := (d.tb 3).total }))
  else d

/-- The erase is done. -/
def calEraseDone (d : Dev) : Dev :=
  if d.get CAL_STORE_STATUS_STATE = 1 then
    ((d.flashErase (slotAddr d.cal.slot) 65536).put (slotUncommitted d.cal.slot) 0).put CAL_STORE_STATUS_STATE 2
  else d

/-- A verify failure ends the store. -/
def Dev.storeFail (d : Dev) : Dev := ((d.put CAL_STORE_STATUS_STATE 4).inc (CAL_COUNTk_V 10)).calEvt 5

/-- The SEQ that a store writes: one above the slot in force. -/
def Dev.storeSeq (d : Dev) : Nat := match d.slotInForce with
  | some k => (d.get (slotSeq k) + 1) % 65536
  | none => 0

/-- Bytes 0 to 1,427 are programmed and verified. -/
def calProgramDone (ok : Bool) (d : Dev) : Dev :=
  if d.get CAL_STORE_STATUS_STATE ≠ 2 then d
  else
    let seq := d.storeSeq
    let d1 := d.flashStore (slotAddr d.cal.slot) (d.calRecord seq)
    if ok then ((d1.put (slotSeq d.cal.slot) seq).put (slotUncommitted d.cal.slot) 1).put CAL_STORE_STATUS_STATE 3 else d1.storeFail

/-- COMMIT is programmed and verified. -/
def calCommitDone (ok : Bool) (d : Dev) : Dev :=
  if d.get CAL_STORE_STATUS_STATE ≠ 3 then d
  else if !ok then d.storeFail
  else
    let k := d.cal.slot
    let d1 := ((d.flashStore (slotAddr k + 4092) (leBytes 4 0xA55A0001)).put (slotValid k) 1).put (slotUncommitted k) 0
    (((d1.put CAL_STORE_STATUS_STATE 0).put CAL_STORE_STATUS_DIRTY 0).put CAL_STORE_STATUS_SLOT (k + 1)).inc (CAL_COUNTk_V 9) |>.calEvt 4

/-- R503: a lockstep restart abandons a store, which starts again from its erase. -/
def Dev.storeRestart (d : Dev) : Dev :=
  if 1 ≤ d.get CAL_STORE_STATUS_STATE ∧ d.get CAL_STORE_STATUS_STATE ≤ 3 then d.put CAL_STORE_STATUS_STATE 1 else d

/-! ### The farrier's log (R500, R501) -/

/-- The 32 bytes of a log entry. -/
def FarLog.bytes (l : FarLog) (seq : Nat) : List Byte :=
  let b := leBytes 4 seq ++ leBytes 4 l.sec ++ leBytes 4 l.record ++ leBytes 4 l.target ++ leBytes 1 l.result ++ leBytes 3 0
    ++ leBytes 4 l.lifetime ++ leBytes 4 0
  b ++ leBytes 4 (crc32 b)

/-- Appends an entry to the half in use. -/
def Dev.logAppend (l : FarLog) (d : Dev) : Dev :=
  let seq := d.get FAR_LOG_SEQ_V + 1
  let n := d.get FAR_LOG_STATUS_ENTRIES
  let d1 := d.flashStore (0x0D00000 + d.get FAR_LOG_STATUS_HALF * 0x100000 + 32 * n) (l.bytes seq)
  ({ d1 with far := { d1.far with log := (seq, l) :: d1.far.log } }.put FAR_LOG_SEQ_V seq).put FAR_LOG_STATUS_ENTRIES (n + 1)

/-- The entries that open a new half: a SUMMARY of each class, and every retirement and remap in force. -/
def Dev.logOpening (d : Dev) : List FarLog :=
  let now (l : FarLog) : FarLog := { l with sec := (d.tb 0).sec % 2 ^ 32, lifetime := d.get (FAR_SUBk_V l.cls) }
  (List.range 7).map (fun c => now { sec := 0, record := 2 ^ 31 + c * 2 ^ 28, target := 0, result := 6, lifetime := 0 })
    ++ d.far.inForce.map now

/-- A full half: the other half is erased and the log continues there. -/
def Dev.logTurn (d : Dev) : Dev :=
  if d.get FAR_LOG_STATUS_ENTRIES < 32768 then d
  else
    let half := 1 - d.get FAR_LOG_STATUS_HALF
    let d0 : Dev := { d with far := { d.far with log := d.far.log.take 32768 } }
    let d1 := ((d0.flashErase (0x0D00000 + half * 0x100000) 0x100000).put FAR_LOG_STATUS_HALF half).put FAR_LOG_STATUS_ENTRIES 0
    d.logOpening.foldl (fun s l => s.logAppend l) d1

/-- FARRIER_LOG_WRITE: the oldest entry that waits is written, or its write fails. -/
def farrierLogWrite (ok : Bool) (d : Dev) : Dev :=
  match d.far.logQueue with
  | [] => d
  | l :: r =>
    let d1 := Dev.put { d with far := { d.far with logQueue := r } } FAR_LOG_STATUS_WRITING (b2n (r != []))
    if ok then ((d1.logTurn).logAppend l).put FAR_STATUS_LOG_ERROR 0
    else ((d1.put FAR_STATUS_LOG_ERROR 1).inc FAR_LOG_ERR_COUNT_V).farEvt 5

/-- FAR_DECLINE. -/
def farDeclineWrite (v : Nat) (d : Dev) : Dev :=
  d.writeVia FAR_DECLINE v (fun s => s.askValid v) (fun s => ((s.askClear v).inc FAR_DECLINE_COUNT_V).farLog (s.askRequest v) 0 3)

/-! ### Downtime (R504) -/

/-- Counts the frame of head `h` that ends, where it is down. -/
def Dev.countDown (h frame : Nat) (d : Dev) : Dev :=
  let c := (d.head h).down
  if c = 0 then d
  else
    let d1 := (((d.inc (FAR_DOWNh_V h)).put (FAR_DOWN_LASTh_VALID h) 1).put (FAR_DOWN_LASTh_CAUSE h) c).put (FAR_DOWN_LASTh_FRAME h) frame
    d1.onHead h (fun u => { u with down := 0 })

/-! ### The commands -/

/-- INTERNAL_SENSOR_READING. -/
def execInternalSensorReading (har : Int) (phys : List Int) (s : State) := s.on (internalSensorReading har phys)
/-- CAL_RESULT_APPLY. -/
def execCalResultApply (i : Fin 88) (s : State) := s.on (calResultApply i)
/-- CAL_AUTO_STORE. -/
def execCalAutoStore (s : State) := s.on calAutoStore
/-- CAL_STORE_ERASE_DONE. -/
def execCalStoreEraseDone (s : State) := s.on calEraseDone
/-- CAL_STORE_PROGRAM_DONE. -/
def execCalStoreProgramDone (ok : Bool) (s : State) := s.on (calProgramDone ok)
/-- CAL_STORE_COMMIT_DONE. -/
def execCalStoreCommitDone (ok : Bool) (s : State) := s.on (calCommitDone ok)
/-- FARRIER_LOG_WRITE. -/
def execFarrierLogWrite (ok : Bool) (s : State) := s.on (farrierLogWrite ok)
/-- SENSOR_FAILURE. -/
def execSensorFailure (p : Fin 8) (s : State) := s.on (sensorFailure p)

end Sys2Proof.Machine
end

