-- ==== Sys2Proof/Machine/HeadSet.lean ====
section
/-! DEFINITION. The register set and the section of a head as they take effect: the links that a head has, the words of its set, a MIP
head's records, the layout of an image, the end of a re-tack, and the set of a MIP head that has no commit points. -/
namespace Sys2Proof.Machine

/-! ### Links as the heads see them (R43, R247, R289) -/

/-- QUAD_RATE in Mbaud (R41). -/
def rateMbaud (code : Nat) : Nat := nth 0 [0, 3200, 6400, 10000, 12800, 16000] code

/-! ### Applying a set (R3, R263 to R269) -/

/-- The RWS registers of head `h`'s set that hold a word other than their reset word. -/
def Dev.setKeys (d : Dev) (h : Nat) : List Nat :=
  (d.regs.map (·.1) ++ d.applied.map (·.1)).filter (fun r => headOf r == some h && isRws r)

/-- The shadow values become the applied ones. -/
def Dev.applyWords (h : Nat) (d : Dev) : Dev := foldS (d.setKeys h) (fun r s => s.setAppWord r (s.word r)) d

/-- R269: the RWS fields of head `h`'s set return to their applied values. -/
def Dev.revertWords (h : Nat) (d : Dev) : Dev :=
  foldS (d.setKeys h) (fun r s => match specOf r with
    | some p => s.setWord r (p.fields.foldl (fun a f => if f.acc == .rws then putBits a f.lo f.w (bitsOf (s.appWord r) f.lo f.w) else a) (s.word r))
    | none => s) d

/-- HDn_COMMIT_ACK (R264, R267). -/
def Dev.ack (h : Nat) (stopped : Bool) (result frame : Nat) (d : Dev) : Dev :=
  (((d.put (HDn_COMMIT_ACK_VALID h) 1).putB (HDn_COMMIT_ACK_STOPPED h) stopped).put (HDn_COMMIT_ACK_RESULT h) result).put
    (HDn_COMMIT_ACK_FRAME h) frame

/-! ### A MIP head's records and full push (R290, R291, R299, R313) -/

/-- The MIP state of head `h`, and a change of it. -/
def Dev.mip (d : Dev) (h : Nat) : MipUnit := (d.head h).mip
def Dev.onMip (h : Nat) (f : MipUnit → MipUnit) (d : Dev) : Dev := d.onHead h (fun u => { u with mip := f u.mip })

/-- The panel's width and height, its memory bits M, temporal bits T and subpixels S as applied. -/
def Dev.mipW (d : Dev) (h : Nat) : Nat := d.app (HDn_MIP_PANEL_WIDTH h)
def Dev.mipH (d : Dev) (h : Nat) : Nat := d.app (HDn_MIP_PANEL_HEIGHT h)
def Dev.mipM (d : Dev) (h : Nat) : Nat := d.app (HDn_MIP_PANEL_MEMBITS h)
def Dev.mipT (d : Dev) (h : Nat) : Nat := d.app (HDn_MIP_PANEL_TEMPBITS h)
def Dev.mipS (d : Dev) (h : Nat) : Nat := if d.appB (HDn_MIP_PANEL_MONO h) then 1 else 3

/-- Tile columns, and the tiles that are tracked. -/
def Dev.tileCols (d : Dev) (h : Nat) : Nat := (d.mipW h + 7) / 8
def Dev.mipTiles (d : Dev) (h : Nat) : List Nat := filterRange (tilesOf (d.mipW h) (d.mipH h)) (d.inShare h)

/-- Every record of the share, by its number in it (R290). -/
def Dev.shareTiles (d : Dev) (h : Nat) : List Nat := List.range (64 * d.get (TACK_LEDGERn_UNITS h))

/-- One bit of a record, and its other fields by lowest bit and width. -/
def Dev.recBit (d : Dev) (h i b : Nat) : Bool := bitOf (d.record h i) b
def Dev.recGet (d : Dev) (h i lo w : Nat) : Nat := bitsOf (d.record h i) lo w

/-- Sets fields of a record: (lowest bit, width, value). -/
def Dev.recPut (h i : Nat) (l : List (Nat × Nat × Nat)) (d : Dev) : Dev :=
  d.setRecord h i (l.foldl (fun r f => putBits r f.1 f.2.1 f.2.2) (d.record h i))

/-- The words that the head's set gives the panel, in blocks per half-period (R313). -/
def pushCap (lanes mbaud freq : Nat) : Nat := (95 * lanes * mbaud * 1000000 * 8) / (100 * 66 * max 1 freq)

/-- R313: HDn_MIP_PUSH_CAP at common frequency `freq`. -/
def Dev.capAt (d : Dev) (h freq : Nat) : Nat := match d.headLinks h with
  | j :: _ => pushCap (d.linkLanes j) (rateMbaud (d.linkRate j)) freq
  | [] => 0

/-- Does a halter area of this size at MIP_HALT_POS lie within the applied panel of MIP head `h` (R324)? -/
def Dev.haltFits (d : Dev) (h w v : Nat) : Bool :=
  d.isMip h && d.get MIP_HALT_POS_X % 8 == 0 && decide (d.get MIP_HALT_POS_X + w ≤ d.mipW h)
    && decide (d.get MIP_HALT_POS_Y + v ≤ d.mipH h)

/-- MIP_HALT_STATUS.ARMED: the halter area is enabled and valid (R331). -/
def Dev.haltArm (d : Dev) : Dev :=
  d.putB MIP_HALT_STATUS_ARMED (d.flag MIP_HALT_CTRL_ENABLE
    && d.haltFits (d.get MIP_HALT_CTRL_HEAD) (d.get MIP_HALT_CTRL_WIDTH) (d.get MIP_HALT_CTRL_HEIGHT))

/-- What follows when the words of MIP head `h` have been applied. -/
def Dev.mipApplied (h : Nat) (d old : Dev) : Dev :=
  let d := if d.get MIP_HALT_CTRL_HEAD = h then d.haltArm else d
  let d1 := d.fabricChanged h (d.has h 9) old
  if d1.appB (HDn_MIP_CHECK_READBACK h) then (d1.put (HDn_MIP_RB_STATUS_FAIL h) 0).onMip h (fun u => { u with rbFails := 0, rbAwait := [] })
  else (d1.put (HDn_MIP_RB_STATUS_ACTIVE h) 0).onMip h (fun u => { u with rbAwait := [] })

/-- The sealed set of a STOPPED MIP head applies (R264). -/
def Dev.mipApplyStopped (h : Nat) (d : Dev) : Dev :=
  ((((d.applyWords h).mipApplied h d).ack h true 1 (d.head h).nextFrame).put (HDn_SHADOW_STATE_V h) 0)

/-- FULL for the records that `p` picks, and a request for a pass. -/
def Dev.fullTiles (h : Nat) (p : Nat → Bool) (d : Dev) : Dev :=
  ((foldS ((d.shareTiles h).filter p) (fun i s => s.recPut h i [(13, 1, 1)]) d).onMip h (fun u => { u with passReq := true })).put
    (HDn_MIP_STATUS_FULL_PENDING h) 1

/-- A full push: every record of the share (R299). -/
def Dev.fullPush (h : Nat) (d : Dev) : Dev := d.fullTiles h (fun _ => true)

/-! ### The layout of an image (R36 to R48) -/

/-- The little-endian field of `n` bytes at offset `o`. -/
def leAt (l : List Byte) (o n : Nat) : Nat := ofLE ((l.drop o).take n)

/-- A directory entry (R38). -/
structure Section where
  kind : Nat
  inst : Nat
  first : Nat
  size : Nat
deriving DecidableEq, Repr

/-- The directory of an image. -/
def imgSections (img : List Byte) : List Section :=
  (List.range (leAt img 0x13 1)).map (fun k =>
    let o := 256 + 16 * k
    { kind := leAt img o 2, inst := leAt img (o + 2) 2, first := leAt img (o + 4) 4, size := leAt img (o + 8) 4 })

/-- The bytes of a section. -/
def Section.bytes (s : Section) (img : List Byte) : List Byte := (img.drop s.first).take s.size

/-- The bytes of the section of a type and an instance. -/
def imgSection (img : List Byte) (kind inst : Nat) : Option (List Byte) :=
  ((imgSections img).find? (fun s => s.kind == kind && s.inst == inst)).map (fun s => s.bytes img)

/-- The global section of a type. -/
def imgGlobal (img : List Byte) (kind : Nat) : List Byte := (imgSection img kind 0xFFFF).getD []

/-- The heads of HEAD_MASK. -/
def imgHeads (img : List Byte) : List Nat := onesOf 8 (leAt img 0x1C 1)

/-- What HEAD_DESC and STAGE_GRAPH say of a head (R47, R48). -/
structure HeadImage where
  mip : Bool
  ledgerBase : Nat
  ledgerUnits : Nat
  lineBase : Nat
  lineUnits : Nat
  sect : HeadSect
deriving DecidableEq, Repr

/-- One stage entry (R48). -/
def stageOf (b : List Byte) (j : Nat) : StageEntry :=
  let o := 8 + 16 * j
  { kind := leAt b o 1, engines := (List.range (min 3 (leAt b (o + 1) 1))).map (fun i => leAt b (o + 2 + i) 1),
    bypassable := bitOf (leAt b (o + 5) 1) 0, lmOffset := leAt b (o + 6) 2, lmUnits := leAt b (o + 8) 2, param := leAt b (o + 12) 4 }

/-- Head `h` of an image. -/
def headImage (img : List Byte) (h : Nat) : HeadImage :=
  let b := (imgSection img 0x10 h).getD []
  let g := (imgSection img 0x11 h).getD []
  { mip := leAt b 0 1 == 1, ledgerBase := leAt b 4 4, ledgerUnits := leAt b 8 4, lineBase := leAt b 12 2, lineUnits := leAt b 14 2,
    sect := { tempSource := leAt b 1 1, source := leAt g 1 1, chain := (List.range (leAt g 0 1)).map (stageOf g) } }

/-- The engines of a head's stages, in chain order. -/
def HeadImage.engines (x : HeadImage) : List Nat := x.sect.chain.flatMap (·.engines)

/-- Entry `p` of PIN_MAP (R42), entry `j` of LINK_MAP (R43). -/
def pinOf (b : List Byte) (p : Nat) : PinEntry :=
  { function := leAt b (8 + 4 * p) 1, owner := leAt b (9 + 4 * p) 1, index := leAt b (10 + 4 * p) 1, flags := leAt b (11 + 4 * p) 1 }
def linkOf (b : List Byte) (j : Nat) : LinkEntry :=
  let o := 16 * j
  if leAt b o 1 = 0 then {}
  else
    { profile := leAt b o 1, lanes := onesOf 36 (leAt b (o + 8) 8), spare := if leAt b (o + 2) 1 < 36 then some (leAt b (o + 2) 1) else none,
      rate := leAt b (o + 3) 1, txOnly := leAt b (o + 4) 1 == 1, owner := leAt b (o + 5) 1, lockPin := leAt b (o + 6) 1,
      exercise := bitOf (leAt b (o + 7) 1) 0 }

/-! ### The section of a head takes effect (R58, R65, R66, R82, R83) -/

/-- Changes the running structure. -/
def Dev.onTack (f : TackUnit → TackUnit) (d : Dev) : Dev := { d with tack := f d.tack }

/-- Where OVERDRIVE's line/LUT memory starts on head `h`. -/
def Dev.odPlace (d : Dev) (h : Nat) : Option Nat := (d.stage h 9).map (d.lmBase h)

/-- The section of head `h` becomes the running one (R82, R83): its engines join it. -/
def Dev.headApply (h : Nat) (x : HeadImage) (d : Dev) : Dev :=
  let pll := nth 255 d.tack.headHpll h
  let d1 := ((d.put (TACK_HEADn_PRESENT h) 1).putB (TACK_HEADn_CLASS h) x.mip).put (TACK_HEADn_HPLL h) (if pll < 4 then pll else 0)
  let d2 := ((d1.put (TACK_HEADn_LINEMEM_UNITS h) x.lineUnits).put (TACK_HEADn_LINEMEM_BASE h) x.lineBase).put (TACK_LEDGERn_UNITS h) x.ledgerUnits
  let d3 := ((d2.put (TACK_LEDGERn_BASE h) x.ledgerBase).onHead h (fun u => { u with sect := x.sect })).fabricApplied h
  if d3.odPlace h = d.odPlace h then d3 else d3.odMoved h

/-- R58, R75: an attempt is recorded; a failed one also in the fault log. -/
def Dev.attempt (source cause inst : Nat) (d : Dev) : Dev :=
  let d1 := [3, 2, 1].foldl (fun s k => s.setWord (TACK_ATTEMPTn k) (s.word (TACK_ATTEMPTn (k - 1)))) d
  let d2 := (d1.setWord (TACK_ATTEMPTn 0) (2 ^ 31 + source * 2 ^ 28 + cause * 2 ^ 24))
  if cause = 0 then d2
  else
    ((d2.put TACK_STATUS_CAUSE cause).inc TACK_STATUS_ATTEMPTS).flogWrite clsTack cause inst [d2.word (TACK_ATTEMPTn 0), 0, 0, 0]

/-- R19: the mode returns to RUN or READY. -/
def Dev.rtModeBack (d : Dev) : Dev := if d.mode = 5 then d.setMode (if d.anyScans then 4 else 3) else d

/-- Does a re-tack run: COPY, VERIFY, PREPARE or ARMED? -/
def Dev.rtActive (d : Dev) : Bool := decide (1 ≤ d.get TACK_RT_STATUS_STATE ∧ d.get TACK_RT_STATUS_STATE ≤ 4)

/-- The registers that the records wrote are as they were before PREPARE: the HEAD image leaves no trace (R68). -/
def Dev.rtRestore (h : Nat) (d : Dev) : Dev :=
  foldS (d.setKeys h ++ d.tack.rtShadow.map (·.1)) (fun r s =>
    let old := ((cellFind d.tack.rtShadow r).getD (resetWord r)).toNat
    match specOf r with
    | some p => s.setWord r (p.fields.foldl (fun a f => if f.acc == .rws || f.acc == .rw then putBits a f.lo f.w (bitsOf old f.lo f.w) else a) (s.word r))
    | none => s) d

/-- R67: the re-tack is abandoned; what it reserved is released. -/
def Dev.rtAbandon (cause code : Nat) (d : Dev) : Dev :=
  if !d.rtActive then d
  else
    let h := d.get TACK_RT_STATUS_HEAD
    let prepared := d.get TACK_RT_STATUS_STATE = 4
    let d1 := ((d.put TACK_RT_STATUS_STATE 6).put TACK_RT_STATUS_CAUSE cause).put TACK_RT_STATUS_FAIL_CODE code
    let d2 := foldS (d1.enginesIn 5) (fun k s => s.engineFree k 2) d1
    let d3 := if prepared then (d2.put (HDn_SHADOW_STATE_V h) 0).rtRestore h else d2
    (((d3.onTack (fun u => { u with rtImage := [], rtShadow := [], rtWaves := [] })).engineSync).rtModeBack).subNow h

/-- What a per-head reset of head `h` does outside its class's own part: the marks that the head triggers are dropped (R121), the
handovers that name it withdrawn (R434), its re-tack abandoned (R67). -/
def Dev.resetRest (h : Nat) (d : Dev) : Dev :=
  let d1 := ((d.onHead h (fun u => { u with resetHeld := false })).marksReset h).withdrawHandovers h
  if d1.get TACK_RT_STATUS_HEAD = h then d1.rtAbandon 2 0 else d1

/-- Every record of the new share: a pushed signature of 0, age 0; dirty on a MIP head (R66). -/
def Dev.shareFresh (h : Nat) (d : Dev) : Dev :=
  let n := 64 * d.get (TACK_LEDGERn_UNITS h)
  let a := 0x4100000000 + 8 * (64 * d.get (TACK_LEDGERn_BASE h))
  let d1 := { d with mem := d.mem.filter (fun c => decide (c.1 < a) || decide (a + 8 * n ≤ c.1)),
                     memu := { d.memu with poison := d.memu.poison.filter (fun p => decide (p < a) || decide (a + 8 * n ≤ p)) } }
  if d1.isMip h then (foldS (d1.shareTiles h) (fun i s => s.recPut h i [(18, 1, 1)]) d1).fullPush h else d1

/-- The commit point's part of a re-tack: engines leave the head or join it, the old partition is free, the share is renewed if it
changed, and the mode returns. The sealed set has been applied with it. An engine that leaves becomes a spare after its BIST
(R202). -/
def Dev.rtApply (h : Nat) (stopped : Bool) (frame : Nat) (d : Dev) : Dev :=
  let x := headImage d.tack.rtImage h
  let share := decide (d.get (TACK_LEDGERn_UNITS h) ≠ x.ledgerUnits ∨ d.get (TACK_LEDGERn_BASE h) ≠ x.ledgerBase)
  let d1 := foldS (filterRange 28 (fun k => d.get (SEk_STATUS_STATE k) == 1 && d.get (SEk_STATUS_HEAD k) == h && !x.engines.contains k))
    (fun k s => s.engineFree k 6) d
  let d2 := d1.headApply h x
  let d3 := if share then d2.shareFresh h else d2
  let d3 := d3.put MIP_WT_STATUS_VALID (putBits (d3.get MIP_WT_STATUS_VALID) (2 * h) 2 (d.tack.rtWaves.foldl (fun a b => a + 2 ^ b) 0))
  let d4 := (((d3.attempt 5 0 h).put TACK_RT_STATUS_STATE 5).put TACK_RT_FRAME_VALID 1).putB TACK_RT_FRAME_STOPPED stopped
  let d5 := (d4.put TACK_RT_FRAME_FRAME (if stopped then 0 else frame)).put (FAR_INVk_TOTAL 0) (28 - (d4.enginesIn 1).length)
  ((d5.onTack (fun u => { u with rtImage := [], rtShadow := [], rtWaves := [] })).engineSync).rtModeBack

/-- Is a re-tack of head `h` ARMED? -/
def Dev.rtArmed (d : Dev) (h : Nat) : Bool := d.get TACK_RT_STATUS_STATE == 4 && d.get TACK_RT_STATUS_HEAD == h

/-- Is head `h`'s commit point one at which an ARMED re-tack applies (R66)? -/
def Dev.rtDue (d : Dev) (h : Nat) : Bool := d.rtArmed h && (!d.isMip h || (d.mip h).runs == [])

/-- R264, R296: the set of a head without commit points has applied; the section of an ARMED re-tack applies with it (R65, R78),
and the substitutions that the re-tack deferred take place at once (R64, R200). -/
def Dev.rtAtRest (h : Nat) (d : Dev) : Dev := 
  if d.rtArmed h then (d.rtApply h (!d.scans h) (d.head h).nextFrame).subNow h else d

/-- R296: with no running common MIP head `h` has no commit points, and its sealed set applies at once; the section of an ARMED
re-tack goes with it, once no tile is mid-waveform (R66). -/
def Dev.restSet (h : Nat) (d : Dev) : Dev :=
  if !(d.isMip h && d.flag (HDn_SHADOW_STATE_V h)) || (d.rtArmed h && (d.mip h).runs != []) then d
  else (d.mipApplyStopped h).rtAtRest h

end Sys2Proof.Machine
end

