-- ==== Sys2Proof/Machine/Panel.lean ====
section
/-! DEFINITION. The harness die (chapter 09): pins, bias and gamma levels, panel power, fast discharge, girth loops,
thermistors, protection. -/
namespace Sys2Proof.Machine

/-! ### PCTL pins (R42, R252, R548) -/

/-- Changes the pins. -/
def Dev.onPins (f : PinUnit → PinUnit) (d : Dev) : Dev := { d with pins := f d.pins }

/-- PIN_MAP's entry for PCTLp. -/
def Dev.pinEntry (d : Dev) (p : Nat) : PinEntry := nth {} d.tack.pins p

/-- Drives PCTLp, if its bank is powered under PIN_MAP; an open-drain pin releases its high level. -/
def Dev.drive (p : Nat) (high : Bool) (d : Dev) : Dev :=
  if nth false d.pins.mapped p then
    let l : Level := if !high then .low else if bitOf (d.pinEntry p).flags 1 then .hiz else .high
    d.onPins (fun u => { u with level := updAt u.level p (fun _ => l) })
  else d

/-- A pin as it was before PIN_MAP. -/
def Dev.unmapPin (p : Nat) (d : Dev) : Dev :=
  d.onPins (fun u => { u with level := updAt u.level p (fun _ => .hiz), mapped := updAt u.mapped p (fun _ => false) })

/-- The pins of head `h` with function 1 or 6. -/
def Dev.headPins (d : Dev) (h : Nat) : List Nat :=
  filterRange 48 (fun p => ((d.pinEntry p).function == 1 || (d.pinEntry p).function == 6) && (d.pinEntry p).owner == h)

/-- R252: the park pattern of head `h`; during a discharge the harness die keeps the pins (R348). -/
def Dev.park (h : Nat) (d : Dev) : Dev :=
  if d.get (PANELh_STATUS_STATE h) = 4 then d
  else foldS (d.headPins h) (fun p s => s.drive p (bitOf (s.pinEntry p).flags 2)) d

/-! ### Outputs and owners (R332, R334, R336, R339) -/

/-- Changes the harness die, and the power sequence of head `h`'s panel. -/
def Dev.onHarn (f : HarnUnit → HarnUnit) (d : Dev) : Dev := { d with harn := f d.harn }
def Dev.onPanel (h : Nat) (f : PanelUnit → PanelUnit) (d : Dev) : Dev := d.onHarn (fun u => { u with panels := updAt u.panels h f })

/-- The panel state of head `h` (R341). -/
def Dev.panelState (d : Dev) (h : Nat) : Nat := d.get (PANELh_STATUS_STATE h)

/-- Does head `h` own common c, GMAk, VCOM_R? -/
def Dev.ownsCom (d : Dev) (h c : Nat) : Bool := d.flag (COMc_CTRL_ENABLE c) && d.get (COMc_CTRL_HEAD c) == h
def Dev.ownsGma (d : Dev) (h k : Nat) : Bool := d.flag (GMAk_CTRL_ENABLE k) && d.get (GMAk_CTRL_HEAD k) == h
def Dev.ownsVcomR (d : Dev) (h : Nat) : Bool := d.flag HAR_VCOMR_CTRL_ENABLE && d.get HAR_VCOMR_CTRL_HEAD == h

/-- The commons and the gamma outputs of head `h`. -/
def Dev.coms (d : Dev) (h : Nat) : List Nat := filterRange 4 (d.ownsCom h)
def Dev.gmas (d : Dev) (h : Nat) : List Nat := filterRange 18 (d.ownsGma h)

/-- Does head `h` own any output of the gamma supply? -/
def Dev.ownsGamma (d : Dev) (h : Nat) : Bool := d.gmas h != [] || d.ownsVcomR h

/-- R339: the level of a code, clipped to its range. -/
def Dev.gammaLevel (d : Dev) (code : Nat) : Int :=
  clampI 150 (d.getI HAR_AVDDG_MV_V - 300) (roundDiv ((code * d.get HAR_GMA_FS_MV_V : Nat) : Int) 1023)

/-- R336: is bias set `c` ordered with level `k` at `mv`? -/
def Dev.biasOrdered (d : Dev) (c k : Nat) (mv : Int) : Bool :=
  let l (j : Nat) : Int := if j = k then mv else d.getI (biasReg (6 * c + j))
  decide (l 1 < l 0) && decide (l 0 ≤ l 2) && decide (l 3 ≤ l 1) && decide (l 5 + 100 ≤ l 4)

/-- R336: is the set as its registers give it ordered? -/
def Dev.setOrdered (d : Dev) (c : Nat) : Bool := d.biasOrdered c 0 (d.getI (biasReg (6 * c)))

/-- R336: is `mv` inside the window of HAR_PUMP_CTRL's targets? -/
def inWindow (vpos vneg mv : Int) : Bool := decide (300 - vneg ≤ mv) && decide (mv ≤ vpos - 300)

/-- Bias item `i` takes its register's level: what its output drives, and its setting (R337, R338). -/
def Dev.biasLevel (i : Nat) (d : Dev) : Dev :=
  (d.onHarn (fun u => { u with bias := updAt u.bias (i / 6) (fun l => updAt l (i % 6) (fun _ => d.getI (biasReg i))) })).realise i

/-- Bias item `i` will change its level with its panel ON: a rail slews there at 1 V/ms (R338). -/
def Dev.biasSlew (i : Nat) (d : Dev) : Dev :=
  let us := (d.getI (biasReg i) - nth 0 (nth [] d.harn.bias (i / 6)) (i % 6)).natAbs
  if us = 0 then d
  else d.onHarn (fun u => { u with slewTo := updAt u.slewTo (i / 6) (fun l => updAt l (i % 6) (fun _ => (d.tb 3).total + 1000 * us)) })

/-- BIASc_STATUS.SLEWING: the outputs of a ramp, and the rails that slew to a new level (R338, R345). -/
def Dev.slewing (d : Dev) (c : Nat) : Nat :=
  (List.range 4).foldl (fun a k => if (d.tb 3).total < nth 0 (nth [] d.harn.slewTo c) k then Nat.lor a (2 ^ k) else a)
    (d.get (BIASc_STATUS_SLEWING c))

/-- Common `c` goes to 0 V, slewing (R345). -/
def Dev.comDown (c : Nat) (d : Dev) : Dev :=
  ((d.put (COMc_STATUS_LEVEL c) 0).put (BIASc_STATUS_SLEWING c) 48).onHarn (fun u => { u with com := updAt u.com c (fun _ => 0) })

/-- GMAk takes its register's code (R340). -/
def Dev.gmaLevel (k : Nat) (d : Dev) : Dev :=
  (d.onHarn (fun u => { u with gma := updAt u.gma k (fun _ => d.gammaLevel (d.get (GMAk_CTRL_CODE k))) })).realise (24 + k)

/-- VCOM_R takes its code. -/
def Dev.vcomRLevel (d : Dev) : Dev := (d.onHarn (fun u => { u with vcomR := d.gammaLevel (d.get HAR_VCOMR_CODE_V) })).realise 42

/-- The rails of bias set `c` go to 0 V. -/
def Dev.railsZero (c : Nat) (d : Dev) : Dev :=
  d.onHarn (fun u => { u with bias := updAt u.bias c (fun _ => [0, 0, 0, 0, 0, 0]), slewTo := updAt u.slewTo c (fun _ => [0, 0, 0, 0]) })

/-- The outputs of head `h` at 0 V. -/
def Dev.gammaOff (h : Nat) (d : Dev) : Dev :=
  let d1 := foldS (d.gmas h) (fun k s => s.onHarn (fun u => { u with gma := updAt u.gma k (fun _ => 0) })) d
  if d.ownsVcomR h then d1.onHarn (fun u => { u with vcomR := 0 }) else d1
def Dev.biasOff (h : Nat) (d : Dev) : Dev :=
  (foldS (d.coms h) (fun c s =>
    let s1 := (s.railsZero c).onHarn (fun u => { u with com := updAt u.com c (fun _ => 0) })
    (((s1.put (BIASc_STATUS_DRIVEN c) 0).put (BIASc_STATUS_SLEWING c) 0).put (COMc_STATUS_RUNNING c) 0).put (COMc_STATUS_LEVEL c) 0) d).restSet h

/-! ### Panel states (R335, R341 to R345, R356) -/

/-- Panel `h` enters state `st`; a run for an output of a panel that leaves ON or OFF is cancelled (R490). -/
def Dev.setPanel (h st : Nat) (d : Dev) : Dev :=
  let d1 := if d.panelState h = 0 ∨ d.panelState h = 2 then d.calCancelHead h else d
  let d2 := (d1.put (PANELh_STATUS_STATE h) st).put HAR_STATUS_PANELS_ON
    (putBits (d1.get HAR_STATUS_PANELS_ON) h 1 (b2n (st == 2)))
  (if st = 3 ∨ st = 4 then d2.put (PANELh_CTRL_V h) 0 else d2).onPanel h (fun u => { u with step := 0 })

/-- R335: the pumps start when a MIP panel leaves OFF, and stop when every MIP panel is OFF again. -/
def Dev.pumpStart (h : Nat) (d : Dev) : Dev := if d.isMip h then d.put HAR_PUMP_STATUS_RUNNING 1 else d
def Dev.pumpsOff (d : Dev) : Dev := (d.put HAR_PUMP_STATUS_RUNNING 0).put HAR_PUMP_STATUS_REGULATED 0
def Dev.pumpStop (d : Dev) : Dev := if allBelow 8 (fun h => !d.isMip h || d.panelState h == 0) then d.pumpsOff else d

/-- The panel becomes OFF: its clamps close and OFF_CAUSE is recorded (R333, R356). -/
def Dev.panelOff (h : Nat) (d : Dev) : Dev :=
  let d1 := ((d.gammaOff h).biasOff h).setPanel h 0
  (d1.put (PANELh_STATUS_OFF_CAUSE h) (nth {} d.harn.panels h).cause).pumpStop

/-- Entry to RAMP_DOWN with a cause (R341, R344, R345). Commons that do not alternate go to 0 V at once. -/
def Dev.rampDown (h cause : Nat) (d : Dev) : Dev :=
  if d.panelState h = 1 ∨ d.panelState h = 2 then
    let d1 := (d.setPanel h 3).onPanel h (fun u => { u with cause := cause })
    if d.isRaster h then
      (if d.ownsVcomR h then d1.onHarn (fun u => { u with vcomR := 0 }) else d1).park h
    else foldS ((d.coms h).filter (fun c => !d.flag (COMc_STATUS_RUNNING c))) Dev.comDown d1
  else d

/-- R342: is a write of POWER = 1 accepted? -/
def Dev.powerOk (d : Dev) (h : Nat) : Bool :=
  d.headPresent h && decide (3 ≤ d.mode ∧ d.mode ≤ 6) && decide (d.shedLevel < 3) && d.flag HAR_HOLD_STATUS_ARMED
    && decide (d.getI HAR_TEMP_V < 2000)
    && (if d.isMip h then d.coms h != [] && (d.coms h).all d.setOrdered
        else !d.ownsGamma h || decide ((d.get HAR_GMA_FS_MV_V : Int) + 300 ≤ d.getI HAR_AVDDG_MV_V))

/-- R341: may PANELh_CTRL take POWER = `on`? -/
def panelCtrlOk (h : Nat) (on : Bool) (d : Dev) : Bool :=
  if on then (match d.panelState h with | 0 => d.powerOk h | 3 => false | 4 => false | _ => true)
  else d.headState h == 0

/-- What a write of POWER does (R341, R344, R345). -/
def Dev.panelPower (h : Nat) (on : Bool) (d : Dev) : Dev :=
  if on then
    if d.panelState h = 0 then
      let d1 := (d.setPanel h 1).pumpStart h
      if d.isRaster h then foldS (d.gmas h) (fun k s => s.gmaLevel k) d1 else d1
    else d
  else d.rampDown h 1

/-- A write of PANELh_CTRL. -/
def panelCtrlWrite (h v : Nat) (d : Dev) : Dev :=
  d.writeVia (PANELh_CTRL h) v (panelCtrlOk h (bitOf v 0)) (fun s => s.panelPower h (bitOf v 0))

/-- RASTER_RAMP_STEP: the outputs have reached the level that the present step of R344 waits for. -/
def rasterRampStep (h : Nat) (d : Dev) : Dev :=
  if !d.isRaster h then d
  else
    let first := (nth {} d.harn.panels h).step == 0
    match d.panelState h with
    | 1 => if first && d.ownsVcomR h then (d.vcomRLevel).onPanel h (fun u => { u with step := 1 }) else d.setPanel h 2
    | 3 => if first then (d.gammaOff h).onPanel h (fun u => { u with step := 1 }) else d.panelOff h
    | _ => d

/-- The steps of R345 up to the commons' first levels, and down. The phase boundary that the last step up brings comes with
MIP_RAMP_STEP itself. -/
def Dev.mipRamp (h : Nat) (d : Dev) : Dev :=
  let step := (nth {} d.harn.panels h).step
  let next (s : Dev) : Dev := s.onPanel h (fun u => { u with step := step + 1 })
  match d.panelState h with
  | 1 =>
    if step = 0 then
      next (foldS (d.coms h) (fun c s =>
        let s1 := foldS (List.range 4) (fun k t => t.biasLevel (6 * c + k)) s
        (s1.put (BIASc_STATUS_DRIVEN c) 1).put (BIASc_STATUS_SLEWING c) 15) (d.put HAR_PUMP_STATUS_REGULATED 1))
    else if step = 1 then
      next (foldS (d.coms h) (fun c s =>
        let s1 := (s.biasLevel (6 * c + 4)).biasLevel (6 * c + 5)
        let mid := (s1.getI (BIASc_VCOMH_MV_V c) + s1.getI (BIASc_VCOML_MV_V c)) / 2
        (s1.onHarn (fun u => { u with com := updAt u.com c (fun _ => mid) })).put (BIASc_STATUS_SLEWING c) 48) d)
    else (foldS (d.coms h) (fun c s => (s.put (BIASc_STATUS_SLEWING c) 0).put (COMc_STATUS_RUNNING c) 1) d).setPanel h 2
  | 3 =>
    if (d.coms h).any (fun c => d.flag (COMc_STATUS_RUNNING c)) then d
    else if step = 0 then next (foldS (d.coms h) (fun c s => (s.railsZero c).put (BIASc_STATUS_SLEWING c) 15) d)
    else d.panelOff h
  | _ => d

/-- RAMP_SETTLE_TIMEOUT: a level is not reached within 35 ms. -/
def rampSettleTimeout (h : Nat) (d : Dev) : Dev := if d.panelState h = 1 then d.rampDown h 9 else d

/-! ### Fast discharge (R346 to R349) -/

/-- Sets HAR_EVT_STATUS bit `b`; the record names a head or a loop where the cause is one's (R287, R403). -/
def Dev.harEvt (b : Nat) (d : Dev) (inst : Nat := 0xFF) : Dev := d.raiseAt HAR_EVT_STATUS HAR_EVT_ENABLE clsHarness inst b

/-- The INSTANCE of a record about the panels of a mask of heads: the head, where it is one (R287). -/
def headsInst (mask : Nat) : Nat := match onesOf 8 mask with
  | [h] => h
  | _ => 0xFF

/-- R356: the OFF_CAUSE of a discharge code. -/
def offCause (code : Nat) : Nat := match code with
  | 6 => 2 | 7 => 7 | 9 => 8 | 11 => 5 | _ => 4

/-- A trigger of R346 with its code covers the heads that `p` names, as far as their panels are not OFF. -/
def Dev.discharge (code : Nat) (p : Nat → Bool) (d : Dev) : Dev :=
  let cover := filterRange 8 (fun h => p h && decide (1 ≤ d.panelState h ∧ d.panelState h ≤ 3))
  if cover = [] then d
  else
    let first := !d.flag HAR_DISCH_STATUS_ACTIVE
    let d1 := foldS cover (fun h s => (s.setPanel h 4).onPanel h (fun u => { u with cause := offCause code })) (d.calCancel (fun _ => true))
    let mask := cover.foldl (fun a h => Nat.lor a (2 ^ h)) 0
    let d2 := if first then
        let s := ((d1.put HAR_DISCH_STATUS_ACTIVE 1).put HAR_STATUS_DISCHARGING 1).put HAR_DISCH_STATUS_HEADS mask
        (((s.setWord HAR_DISCH_LAST 0).put HAR_DISCH_LAST_CAUSE code).inc HAR_DISCH_COUNT_V).onHarn (fun u => { u with dischAt := (d.tb 3).total })
      else d1.put HAR_DISCH_STATUS_HEADS (Nat.lor (d1.get HAR_DISCH_STATUS_HEADS) mask)
    let d3 := d2.put HAR_DISCH_LAST_HEADS (d2.get HAR_DISCH_STATUS_HEADS)
    let d4 := if allBelow 8 (fun h => !d3.isMip h || d3.panelState h == 0 || d3.panelState h == 4) then d3.pumpsOff else d3
    if first then d4.harEvt 1 (headsInst mask) else d4

/-- DISCHARGE_PIN_SWITCH, 10 µs after head `h`'s trigger. -/
def dischargePinSwitch (h : Nat) (d : Dev) : Dev :=
  if d.panelState h ≠ 4 then d
  else
    let d1 := foldS (d.headPins h) (fun p s => s.drive p (bitOf (s.word (HAR_PCTL_DISCHk (p / 32))) (p % 32))) d
    if d.isMip h then d1.biasOff h else d1.gammaOff h

/-- The discharge of head `h`'s panel ends, 40 ms after its trigger. -/
def Dev.dischargeEnd (h : Nat) (d : Dev) : Dev :=
  if d.panelState h ≠ 4 then d
  else
    let d1 := (foldS (d.headPins h) Dev.unmapPin d).panelOff h
    if anyBelow 8 (fun k => d1.panelState k == 4) then d1
    else
      let us := ((d.tb 3).total - d.harn.dischAt) / 1000
      let d2 := ((d1.put HAR_DISCH_STATUS_ACTIVE 0).put HAR_STATUS_DISCHARGING 0).put HAR_DISCH_LAST_DURATION_US (min 65535 us)
      d2.harEvt 2 (headsInst (d2.get HAR_DISCH_STATUS_HEADS))

/-- HAR_DISCH_GO: a mask that names a head that is not STOPPED is out-of-range (R346). -/
def harDischWrite (v : Nat) (d : Dev) : Dev :=
  d.writeVia HAR_DISCH_GO v (fun s => (onesOf 8 v).all (fun h => s.headState h == 0)) (Dev.discharge 5 (bitOf v))

/-- VBIAS_LOW: VBIAS_IN is below 4.2 V. -/
def vbiasLow (mv : Nat) (d : Dev) : Dev := if mv < 4200 then d.discharge 3 (fun _ => true) else d

/-- PUMP_FAILURE (R335). -/
def pumpFailure (d : Dev) : Dev :=
  if !d.flag HAR_PUMP_STATUS_RUNNING then d
  else (((d.put HAR_PUMP_STATUS_FAIL 1).put HAR_PUMP_STATUS_REGULATED 0).harEvt 6).discharge 11 d.isMip

/-- The owner of an output: 0 to 3 a bias set with its common, 4 to 21 GMA0 to GMA17, 22 VCOM_R. -/
def Dev.outputOwner (d : Dev) (o : Nat) : Option Nat :=
  if o < 4 then d.itemOwner (6 * o) else d.itemOwner (o + 20)

/-- OUTPUT_OVERLOAD: an output has stayed in current limit for 10 ms (R353). -/
def outputOverload (o : Nat) (d : Dev) : Dev :=
  let d1 := (if o < 4 then d.put (BIASc_STATUS_OVERLOAD o) 1 else d).harEvt 5 ((d.outputOwner o).getD 0xFF)
  match d.outputOwner o with
  | some h => d1.discharge 7 (· == h)
  | none => d1

/-- HARNESS_OVERTEMP: HAR_TEMP has stayed at or above 140 °C for 1 ms (R354). -/
def harnessOvertemp (temp : Int) (d : Dev) : Dev :=
  (((d.putI HAR_TEMP_V temp).put HAR_STATUS_HOT 1).harEvt 3).discharge 9 (fun _ => true)

/-- HOLD_ARMED: HOLD has reached 11.0 V (R349). -/
def holdArmed (mv : Nat) (d : Dev) : Dev := ((d.put HAR_HOLD_MV_V mv).put HAR_HOLD_STATUS_ARMED 1).put HAR_HOLD_STATUS_LOW 0

/-- HOLD_LOW: HOLD has stayed below 10.5 V for 10 ms; further power requests are refused. -/
def holdLow (mv : Nat) (d : Dev) : Dev :=
  if allBelow 8 (fun h => d.panelState h == 0) then d.put HAR_HOLD_MV_V mv
  else (((d.put HAR_HOLD_MV_V mv).put HAR_HOLD_STATUS_LOW 1).put HAR_HOLD_STATUS_ARMED 0).harEvt 7

/-- HOLD_EXHAUSTED: below 5.0 V every pin is released and the clamps close. -/
def holdExhausted (mv : Nat) (d : Dev) : Dev :=
  foldS (List.range 8) (fun h s => (s.gammaOff h).biasOff h)
    ((d.put HAR_HOLD_MV_V mv).onPins (fun u => { u with level := List.replicate 48 .hiz }))

/-- HAR_STATUS.AVDDG_OK: AVDD_G is at least FS_MV + 300 mV (R358). -/
def Dev.avddgSync (d : Dev) : Dev :=
  d.putB HAR_STATUS_AVDDG_OK (decide ((d.get HAR_GMA_FS_MV_V : Int) + 300 ≤ d.getI HAR_AVDDG_MV_V))

/-- AVDDG_RESTORED: AVDD_G is no longer low (R355). -/
def avddgRestored (mv : Nat) (d : Dev) : Dev := (d.put HAR_AVDDG_MV_V mv).avddgSync

/-! ### Girth loops (R350, R351) -/

/-- Is loop `g` enabled in MIP_GIRTH_MAP, and which head it names (R329)? -/
def Dev.girthByte (d : Dev) (g : Nat) : Nat := bitsOf (d.word MIP_GIRTH_MAP) (8 * g) 8
def Dev.girthOn (d : Dev) (g : Nat) : Bool := bitOf (d.girthByte g) 7
def Dev.girthHead (d : Dev) (g : Nat) : Nat := d.girthByte g % 8

/-- The median of eight readings; of the two in the middle, as the device takes it. -/
def median8 (l : List Nat) : Nat :=
  let s := l.mergeSort
  (clampI 0 0xFFFFFF (Config.medianOfEven (nth 0 s 3) (nth 0 s 4))).toNat

/-- Baseline capture of loop `g` starts anew. -/
def Dev.girthRebase (g : Nat) (d : Dev) : Dev :=
  (d.onHarn (fun u => { u with girths := updAt u.girths g (fun _ => {}) })).put (GIRTHg_STATUS_BASELINE_VALID g) 0

/-- The range of R350 that a result in mΩ lies in: one outside its range's span has been measured again in the next. -/
def girthRange (mohm : Nat) : Nat := if mohm < 100000 then 0 else if mohm < 1000000 then 1 else 2

/-- A measurement of loop `g`: `result` mΩ, or open, as 0xFFFFFF says and as a sense voltage above 120 mV in range 2 does, taken in
`last` range. Answers whether the loop's crack acts: one on a loop whose head's panel is OFF sets CRACK only (R351). -/
def Dev.girthMeasure (g result last : Nat) (d : Dev) : Bool × Dev :=
  let open' := decide (12000000 < result)
  let mohm := if open' then 0xFFFFFF else result
  let range := if result = 0xFFFFFF then last else girthRange result
  let u := nth {} d.harn.girths g
  let valid := d.flag (GIRTHg_STATUS_BASELINE_VALID g)
  let base := d.get (GIRTHg_BASELINE_V g)
  let d1 := ((d.put (GIRTHg_MOHM_V g) mohm).putB (GIRTHg_STATUS_OPEN g) open').put (GIRTHg_STATUS_RANGE g) range
  let high := valid && (open' || decide (base * (100 + d.get (GIRTHg_CTRL_RISE g)) < mohm * 100))
  let rises := if high then u.rises + 1 else 0
  let taken := if valid || open' then u.taken else u.taken ++ [mohm]
  let d2 := d1.onHarn (fun x => { x with girths := updAt x.girths g (fun _ => { taken := taken, rises := rises }) })
  let d3 := if !valid && taken.length == 8 then
      (d2.put (GIRTHg_BASELINE_V g) (median8 taken)).put (GIRTHg_STATUS_BASELINE_VALID g) 1 else d2
  let d4 := if valid && !open' && decide (2 * mohm < base) then (d3.put (GIRTHg_STATUS_LOW g) 1).harEvt (8 + g) g else d3
  let crack := open' || (high && decide (d.get (GIRTHg_CTRL_CONFIRM g) ≤ rises))
  let new := crack && !d.flag (GIRTHg_STATUS_CRACK g)
  let acts := new && d.panelState (d.girthHead g) != 0
  let d5 := if new then d4.put (GIRTHg_STATUS_CRACK g) 1 else d4
  (acts, if acts then d5.inc HAR_CRACK_COUNT_V else d5)

/-- A write of GIRTHg_CTRL. -/
def girthCtrlWrite (g v : Nat) (d : Dev) : Dev :=
  d.writeVia (GIRTHg_CTRL g) v (fun _ => true) (fun s => if bitOf v 31 then s.girthRebase g else s)

/-! ### Thermistors (R352) -/

/-- ln (1 + z) for z = `num` / `den` in [0, 1), in units of 2^-96, by the series of 2 artanh (z / (2 + z)). -/
def lnFrac (num den : Nat) : Int :=
  let t := num * 2 ^ 96 / (2 * den + num)
  let t2 := t * t / 2 ^ 96
  let rec go : Nat → Nat → Nat → Nat → Nat
    | 0, _, _, a => a
    | f + 1, p, k, a => go f (p * t2 / 2 ^ 96) (k + 2) (a + p / k)
  ((2 * go 64 t 1 0 : Nat) : Int)

/-- ln (num / den) in units of 2^-96. -/
def lnFix (num den : Nat) : Int :=
  if num = 0 ∨ den = 0 then 0
  else
    let e : Int := (Nat.log2 num : Int) - Nat.log2 den
    let (n, m) : Nat × Nat := if 0 ≤ e then (num, den * 2 ^ e.toNat) else (num * 2 ^ (-e).toNat, den)
    let (n, m, e) : Nat × Nat × Int := if n < m then (2 * n, m, e - 1) else (n, m, e)
    e * lnFrac 1 1 + lnFrac (n - m) m

/-- The temperature of a conversion in 1/16 °C (R352): rt = pullup × code / (4096 − code). -/
def thermTemp (pullup code rnom beta : Nat) : Int :=
  let l : Rat := (lnFix (pullup * code) ((4096 - code) * rnom) : Rat) / (2 ^ 96 : Nat)
  let tk : Rat := 1 / (100 / 29815 + l / (beta : Rat))
  clampI (-880) 2400 (roundRat ((tk - 27315 / 100) * 16))

/-- R214: thermistor `t` has been open or short up to now. -/
def Dev.thermNoted (t : Nat) (d : Dev) : Dev := d.onHarn (fun u => { u with thermBad := updAt u.thermBad t (fun _ => some (d.tb 3).total) })

/-- A disabled thermistor input reads open. -/
def Dev.thermOff (t : Nat) (d : Dev) : Dev := ((d.put (THERMt_TEMP_VALID t) 0).put (THERMt_TEMP_OPEN t) 1).put (THERMt_TEMP_SHORT t) 0

/-- THERM_CONVERSION of input `t`; an input that is disabled reads open. -/
def thermConversion (t code : Nat) (d : Dev) : Dev :=
  let on := bitOf (d.get HAR_THERM_CTRL_V) t
  if !on then d.thermOff t
  else
    let d0 := if d.flag (THERMt_TEMP_OPEN t) || d.flag (THERMt_TEMP_SHORT t) then d.thermNoted t else d
    let d1 := ((d0.put (THERMt_CODE_V t) code).putB (THERMt_TEMP_OPEN t) (decide (4080 ≤ code))).putB (THERMt_TEMP_SHORT t) (decide (code ≤ 16))
    if 4080 ≤ code ∨ code ≤ 16 then ((d1.put (THERMt_TEMP_VALID t) 0).harEvt (12 + t)).guardFail 9 t
    else
      let pull := if d.flag (THERMt_NOMINAL_PULLUP t) then 100000 else 10000
      (d1.put (THERMt_TEMP_VALID t) 1).putI (THERMt_TEMP_TEMP t) (thermTemp pull code (d.get (THERMt_NOMINAL_OHMS t)) (d.get (THERMt_BETA_V t)))

/-! ### Other writes of the HARNESS block (R334 to R336, R339, R340) -/

/-- R334: a change of HEAD or ENABLE needs the panels of both owners OFF. -/
def ownerChangeOk (old new : Bool × Nat) (d : Dev) : Bool :=
  old == new || ((!old.1 || d.panelState old.2 == 0) && (!new.1 || d.panelState new.2 == 0))

/-- Enable and head of a GMAk_CTRL or HAR_VCOMR_CTRL word. -/
def outOwner (v : Nat) : Bool × Nat := (bitOf v 31, bitsOf v 24 3)

/-- May the output word `old` become `v`? -/
def outCtrlOk (old v : Nat) (d : Dev) : Bool :=
  ownerChangeOk (outOwner old) (outOwner v) d && (!bitOf v 31 || d.isRaster (bitsOf v 24 3))

/-- R340: does a new code of an output that head `h` owns take effect at once? -/
def Dev.codeNow (d : Dev) (h : Nat) : Bool := d.panelState h == 1 || (d.panelState h == 2 && d.headState h == 0)

/-- A write of GMAk_CTRL. -/
def gmaCtrlWrite (k v : Nat) (d : Dev) : Dev :=
  d.writeVia (GMAk_CTRL k) v (fun s => outCtrlOk (s.word (GMAk_CTRL k)) v s) (fun s =>
    if s.flag (GMAk_CTRL_ENABLE k) && s.codeNow (s.get (GMAk_CTRL_HEAD k)) then s.gmaLevel k else s)

/-- A write of HAR_VCOMR_CTRL, and of HAR_VCOMR_CODE; a ramp that has not reached VCOM_R takes the code when it does. -/
def vcomrCtrlWrite (v : Nat) (d : Dev) : Dev :=
  d.writeVia HAR_VCOMR_CTRL v (fun s => outCtrlOk (s.word HAR_VCOMR_CTRL) v s) id
def vcomrCodeWrite (v : Nat) (d : Dev) : Dev :=
  d.writeVia HAR_VCOMR_CODE v (fun _ => true) (fun s =>
    let h := s.get HAR_VCOMR_CTRL_HEAD
    if s.flag HAR_VCOMR_CTRL_ENABLE && s.codeNow h && (s.panelState h == 2 || (nth {} s.harn.panels h).step == 1) then s.vcomRLevel else s)

/-- A write of HAR_GMA_FS_MV. -/
def gmaFsWrite (v : Nat) (d : Dev) : Dev :=
  d.writeVia HAR_GMA_FS_MV v (fun s => decide (1000 ≤ v ∧ v ≤ 15700) && allBelow 8 (fun h => !s.isRaster h || s.panelState h == 0))
    Dev.avddgSync

/-- A write of a bias level: item `i`. -/
def biasWrite (i v : Nat) (d : Dev) : Dev :=
  d.writeVia (biasReg i).addr v (fun s =>
    let mv := sgn 16 v
    inWindow (s.get HAR_PUMP_CTRL_VPOS_MV) (s.get HAR_PUMP_CTRL_VNEG_MAG_MV) mv
      && (match s.itemOwner i with
        | some h => s.panelState h == 0 || s.biasOrdered (i / 6) (i % 6) mv
        | none => true)) id

/-- A write of HAR_PUMP_CTRL. -/
def pumpCtrlWrite (v : Nat) (d : Dev) : Dev :=
  d.writeVia HAR_PUMP_CTRL v (fun s =>
    let vpos := bitsOf v 16 14
    let vneg := bitsOf v 0 14
    !s.flag HAR_PUMP_STATUS_RUNNING && decide (5000 ≤ vpos ∧ vpos ≤ 11000) && decide (1000 ≤ vneg ∧ vneg ≤ 5500)
      && allBelow 24 (fun i => inWindow vpos vneg (s.getI (biasReg i)))) id

/-- A write of HAR_THERM_CTRL: a disabled input reads open. -/
def thermCtrlWrite (v : Nat) (d : Dev) : Dev :=
  d.writeVia HAR_THERM_CTRL v (fun _ => true) (fun s =>
    foldS (List.range 8) (fun t x => if bitOf v t then x else x.thermOff t) s)

/-- R340 at a commit point of a raster head: new codes, and calibration results of its outputs (R486). -/
def Dev.gammaCommit (h : Nat) (d : Dev) : Dev :=
  if d.panelState h ≠ 2 then d
  else
    let d1 := d.calApplyAt (fun i => decide (24 ≤ i) && decide (i < 43) && d.itemOwner i == some h)
    let d2 := foldS (d1.gmas h) (fun k s => s.gmaLevel k) d1
    if d2.ownsVcomR h then d2.vcomRLevel else d2

/-! ### The commands -/

/-- RASTER_RAMP_STEP. -/
def execRasterRampStep (h : Fin 8) (s : State) := s.on (rasterRampStep h)
/-- RAMP_SETTLE_TIMEOUT. -/
def execRampSettleTimeout (h : Fin 8) (s : State) := s.on (rampSettleTimeout h)
/-- PUMP_FAILURE. -/
def execPumpFailure (s : State) := s.on pumpFailure
/-- VBIAS_LOW. -/
def execVbiasLow (mv : Fin 65536) (s : State) := s.on (vbiasLow mv)
/-- OUTPUT_OVERLOAD. -/
def execOutputOverload (o : Fin 23) (s : State) := s.on (outputOverload o)
/-- HARNESS_OVERTEMP. -/
def execHarnessOvertemp (temp : Int) (s : State) := s.on (harnessOvertemp temp)
/-- DISCHARGE_PIN_SWITCH. -/
def execDischargePinSwitch (h : Fin 8) (s : State) := s.on (dischargePinSwitch h)
/-- HOLD_ARMED. -/
def execHoldArmed (mv : Fin 65536) (s : State) := s.on (holdArmed mv)
/-- HOLD_LOW. -/
def execHoldLow (mv : Fin 65536) (s : State) := s.on (holdLow mv)
/-- HOLD_EXHAUSTED. -/
def execHoldExhausted (mv : Fin 65536) (s : State) := s.on (holdExhausted mv)
/-- AVDDG_RESTORED. -/
def execAvddgRestored (mv : Fin 65536) (s : State) := s.on (avddgRestored mv)
/-- THERM_CONVERSION. -/
def execThermConversion (t : Fin 8) (code : Fin 4096) (s : State) := s.on (thermConversion t code)

end Sys2Proof.Machine
end

