-- ==== Sys2Proof/Machine/Links.lean ====
section
/-! DEFINITION. Rein links as the heads and the lanes share them (chapter 10): the link map, lane and link states, the control
blocks, the return of a link to LUNGE. -/
namespace Sys2Proof.Machine

/-- The link that holds lane `n`. -/
def Dev.laneLink (d : Dev) (n : Nat) : Option Nat := (List.range 16).find? (fun j => (d.allLanes j).contains n)

/-- Lane `n` enters receive state `st`. -/
def Dev.setLane (n st : Nat) (d : Dev) : Dev :=
  let d0 := d.put (LNn_STATUS_RXSTATE n) st
  let d1 := if (st = 1 ∨ st = 4) ∧ d0.flag (LNn_EQ_CTRL_ADAPT n) = true then d0.put (LNn_EQ_STATUS_FROZEN n) 0 else d0
  if st = 1 then d1.onLane n (fun u => { u with huntAt := (d.tb 3).total, greets := [], headers := 0, valid := 0, fifo := [] }) else d1

/-- Lane `n` returns to HUNT, unless it receives nothing (R372). -/
def Dev.laneHunt (n : Nat) (d : Dev) : Dev := if d.laneState n = 0 then d else d.setLane n 1

/-- The substitution of link `j`'s spare is over: the spare carries nothing (R387). -/
def Dev.spareReset (j : Nat) (d : Dev) : Dev :=
  let d0 := if d.flag (LKj_STATUS_SPARE_IN_USE j) then d.farFree 1 (16 * j + d.get (LKj_STATUS_SPARE_LANE j)) else d
  let d1 := ((d0.put (LKj_STATUS_SPARE_STATE j) 0).put (LKj_STATUS_SPARE_IN_USE j) 0).put (LKj_STATUS_SPARE_LANE j) 0
  let d2 := d1.onLink j (fun u => { u with doneTx := false, request := none, compared := false })
  match (d.linkEntry j).spare with
  | some n => d2.put (LNn_STATUS_LINK_LANE n) 15
  | none => d2

/-- Link `j` leaves its state for LUNGE, or for TX_WAIT on a transmit-only link (R375); an exit from UP is counted, and the stream
blocks in flight are lost. -/
def Dev.linkFalls (j : Nat) (d : Dev) : Dev :=
  let d0 := if d.linkUp j then d.inc (LKj_COUNTk_V j 1) else d
  let d1 := foldS (d0.allLanes j) (fun n s => s.onLane n (fun u => { u with fifo := [] }))
    (d0.onLink j (fun u => { u with held := [], rxNext := 0, arrived := [] }))
  (d1.put (LKj_STATUS_STATE j) (if (d.linkEntry j).txOnly then 5 else 1)).put (LKj_PARTNER2_VALID j) 0

/-! ### Sending (R363 to R367, R384 to R386) -/

/-- One byte of the CRC-8 of R366, most significant bit first. -/
def crc8Byte (crc : Nat) (b : Byte) : Nat :=
  (List.range 8).foldl (fun c _ => if 0x80 ≤ c then Nat.xor (c * 2 % 256) 7 else c * 2) (Nat.xor crc b.toNat)

/-- The CRC-8 of R366. -/
def crc8 (l : List Byte) : Nat := l.foldl crc8Byte 0

/-- Seven bytes and their CRC-8. -/
def withCrc8 (l : List Byte) : List Byte := l ++ [BitVec.ofNat 8 (crc8 l)]

/-- REQ and DONE as the GREET set carries them (R367, R387). -/
def Dev.reqByte (d : Dev) (j : Nat) : Nat :=
  let st := d.get (LKj_STATUS_SPARE_STATE j)
  if st = 1 ∨ st = 2 ∨ (st = 3 ∧ (d.link j).doneTx = false) then 0x80 + d.get (LKj_STATUS_SPARE_LANE j) else 0
def Dev.doneByte (d : Dev) (j : Nat) : Nat := if (d.link j).doneTx then 0x80 + d.get (LKj_STATUS_SPARE_LANE j) else 0

/-- The GREET block of an index (R367). -/
def Dev.greetBlock (d : Dev) (j index : Nat) : RBlock :=
  let body := match index with
    | 0 => [(2, d.get TEAM_NODE_ID_V), (1, (d.linkEntry j).profile), (1, d.linkLanes j), (1, 0x1F)]
    | 1 => [(2, 0x1ED4), (2, 0x9640), (1, 7)]
    | _ => [(1, d.reqByte j), (1, d.doneByte j), (3, 0)]
  ⟨true, withCrc8 (ctrlBytes ([(1, 0x33), (1, index + 16)] ++ body))⟩

/-- TXSTATE of a lane that carries stream: held while the link is not up and in L-Idle. -/
def Dev.txStream (d : Dev) (j n : Nat) : Nat := if d.linkUp j && d.get (LNn_POWER_STATE n) == 0 then 2 else 1

/-- TXSTATE of the data lanes and of a spare that carries a lane alone follow the link and the lanes' power; what changes only
at an ALIGN column stays. -/
def Dev.txSync (j : Nat) (d : Dev) : Dev :=
  foldS (d.allLanes j) (fun n s =>
    if !s.laneSends n then s.put (LNn_TX_STATUS_TXSTATE n) 0
    else if s.isSpare j n then
      if (s.spareOnly j).isSome then s.put (LNn_TX_STATUS_TXSTATE n) (s.txStream j n)
      else if s.get (LNn_TX_STATUS_TXSTATE n) = 3 then s else s.put (LNn_TX_STATUS_TXSTATE n) 1
    else if s.get (LNn_TX_STATUS_TXSTATE n) = 4 ∧ (s.spareOnly j).isSome then s
    else s.put (LNn_TX_STATUS_TXSTATE n) (s.txStream j n)) d

/-- `k` further bits of a sequence with the taps `a` and `b`, first in bit 0, from its last `b` bits (newest in bit 0). -/
def prbs (a b : Nat) : Nat → Nat → Nat × Nat
  | 0, s => (0, s)
  | k + 1, s =>
    let o := (s / 2 ^ (a - 1) + s / 2 ^ (b - 1)) % 2
    let p := prbs a b k ((s * 2 + o) % 2 ^ b)
    (o + 2 * p.1, p.2)

/-- The taps of a test pattern (R389). -/
def testTaps (p : Nat) : Nat × Nat := match p with | 0 => (28, 31) | 1 => (14, 15) | _ => (6, 7)

/-- The ALIGN of lane `n` of link `j` (R366): LANE, SPARE, DUP, RETIRED. -/
def Dev.alignBlock (d : Dev) (j n lane : Nat) (spare dup retired : Bool) : RBlock :=
  ⟨true, withCrc8 (ctrlBytes [(1, 0x2D), (1, lane + 16 * b2n spare + 32 * b2n dup + 64 * b2n retired), (1, j + 16 * (d.linkLanes j - 1)),
    (2, (d.link j).aseq), (1, n), (1, d.linkRate j)])⟩

/-- What lane `n` of link `j` says of itself from the next ALIGN column on: LANE, SPARE, DUP, RETIRED and its TXSTATE (R385, R386). -/
def Dev.alignRole (d : Dev) (j n : Nat) : Nat × Bool × Bool × Bool × Nat :=
  let only := d.spareOnly j
  if d.isSpare j n then
    match only, d.spareDup j with
    | some k, _ => (k, true, false, false, d.txStream j n)
    | none, some k => (k, true, true, false, 3)
    | none, none => (0, true, false, false, 1)
  else
    let i := d.laneIndex j n
    if only = some i then (i, false, false, true, 4) else (i, false, false, false, d.txStream j n)

/-- LNn_TX_STATUS of lane `n` at an ALIGN column. -/
def Dev.alignState (j n : Nat) (d : Dev) : Dev :=
  let (lane, _, _, _, st) := d.alignRole j n
  if !d.laneSends n then d
  else ((d.put (LNn_TX_STATUS_TXSTATE n) st).put (LNn_TX_STATUS_LANE n) lane).put (LNn_TX_STATUS_ASEQ n) (d.link j).aseq

/-- The ALIGN of lane `n` in the next column. -/
def Dev.alignOf (d : Dev) (j n : Nat) : RBlock :=
  let (lane, spare, dup, retired, _) := d.alignRole j n
  d.alignBlock j n lane spare dup retired

/-- R383: the next block of lane `n`'s test pattern; an injected error inverts one payload bit, which one is a free value
(assumption 2). -/
def Dev.testBlock (n : Nat) (d : Dev) : Dev :=
  if !d.flag (LNn_TEST_CTRL_GEN n) then d.laneTraffic n fillBlock
  else
    let t := testTaps (d.get (LNn_TEST_CTRL_PATTERN n))
    let p := prbs t.1 t.2 64 (d.lane n).testTx
    let bad := (d.lane n).inject && d.laneSends n
    let d1 := (if bad then d.drawn else d).onLane n (fun u => { u with testTx := p.2, inject := u.inject && !bad })
    d1.laneTraffic n ⟨false, leBytes 8 (if bad then Nat.xor p.1 (2 ^ (d.free % 64)) else p.1)⟩

/-- A stream slot of TEST link `j` (R383): the test blocks of the lanes that generate them, FILL on the others. -/
def Dev.testSlot (j : Nat) (d : Dev) : Dev := (foldS (d.allLanes j) Dev.testBlock (d.slotRoom j 1)).slotsDone j 1

/-- The stream slots of TEST link `j` between two ALIGN columns, where some lane generates its pattern: 8,192 less the four of the ALIGN
and GREET columns. -/
def Dev.testSlots (j : Nat) (d : Dev) : Dev :=
  if (d.linkEntry j).profile = 5 ∧ (d.allLanes j).any (fun n => d.flag (LNn_TEST_CTRL_GEN n)) then
    foldS (List.range 8188) (fun _ s => s.testSlot j) d
  else d

/-- An ALIGN column and the GREET columns behind it (R364, R386, R387); the lanes' calibration results apply (R486). -/
def Dev.alignColumn (j : Nat) (d : Dev) : Dev :=
  let d0 := d.calApplyAt (fun i => decide (43 ≤ i) && (d.allLanes j).contains (i - 43))
  let d1 := if d0.get (LKj_STATUS_SPARE_STATE j) = 3 then d0.onLink j (fun u => { u with doneTx := true }) else d0
  let d2 := foldS (d1.allLanes j) (Dev.alignState j) d1
  let d3 := d2.slots j ((d2.alignOf j) :: (List.range 3).map (fun k _ => d2.greetBlock j k))
  (d3.onLink j (fun u => { u with aseq := (u.aseq + 1) % 65536 })).testSlots j

/-- The transmitters of link `j` start: their scramblers hold ones (R361). -/
def Dev.txStarts (j : Nat) (d : Dev) : Dev := foldS (d.allLanes j) (fun n s => s.onLane n (fun u => { u with tx := 2 ^ 58 - 1 })) d

/-- RELUNGE of link `j` (R372, R375, R391): every lane returns to HUNT, and the link restarts with an ALIGN column. -/
def Dev.relunge (j : Nat) (d : Dev) : Dev :=
  if d.linkState j = 0 then d
  else
    let d1 := foldS (d.allLanes j) (fun n s => s.laneHunt n) ((d.linkFalls j).spareReset j)
    let d2 := (d1.onLink j (fun u => { u with fault := false, reqRx := 0, doneRx := 0 })).put (LKj_STATUS_LANES j) (d1.linkLanes j)
    ((d2.txSync j).txStarts j).alignColumn j

end Sys2Proof.Machine
end

