-- ==== Sys2Proof/Machine/Column.lean ====
section
/-! DEFINITION. What a raster head puts on its COLUMN links and its pins (chapter 07, R250 to R260): polarity, line packets,
frame marks, edge generators, configuration commands, and the stall copy's lines. -/
namespace Sys2Proof.Machine

/-- The applied gait of head `h` (R245). -/
def Dev.htotal (d : Dev) (h : Nat) : Nat := d.app (HDn_GAIT_HTOTAL_V h)
def Dev.hactive (d : Dev) (h : Nat) : Nat := d.app (HDn_GAIT_HACTIVE_V h)
def Dev.vtotal (d : Dev) (h : Nat) : Nat := d.app (HDn_GAIT_VTOTAL_VTOTAL h)
def Dev.vactive (d : Dev) (h : Nat) : Nat := d.app (HDn_GAIT_VACTIVE_V h)

/-- R251: the polarity of pixel `x` of line `n` in frame `f`. -/
def Dev.polarity (d : Dev) (h f n x : Nat) : Nat :=
  let rows := n / max 1 (d.app (HDn_GAIT_MODE_INV_N h))
  match d.app (HDn_GAIT_MODE_INV_MODE h) with
  | 1 => f % 2
  | 2 => (f + rows) % 2
  | 3 => (f + x) % 2
  | 4 => (f + rows + x) % 2
  | _ => 0

/-- The depth of FORMAT, its code in LINE_START (R254) and the tile code's format of that depth (R452). -/
def Dev.depth (d : Dev) (h : Nat) : Nat := d.app (STh_FORMAT_CTRL_DEPTH h)
def depthCode (n : Nat) : Nat := match n with | 6 => 0 | 8 => 1 | 10 => 2 | _ => 3

/-- R199: a pixel with the DEPTH most significant bits of each channel. -/
def Dev.cut (d : Dev) (h : Nat) (q : Px) : List Nat := [q.c0, q.c1, q.c2].map (fun v => v / 2 ^ (16 - d.depth h))

/-- R199: the columns of link `s` of head `h`'s links: the first and their number. -/
def Dev.segment (d : Dev) (h s : Nat) : Nat × Nat :=
  let ha := d.hactive h
  if d.appB (STh_FORMAT_CTRL_DUPLICATE h) then (0, ha)
  else
    let w := segWidth false (d.headLinks h).length ha
    (min ha (s * w), min w (ha - min ha (s * w)))

/-- R254, R255: the packet of head line `n` of frame `f` for the columns (first, count): LINE_START, data blocks, LINE_END. `line`
holds the pixels' cut channels. -/
def Dev.linePacket (d : Dev) (h f n : Nat) (black : Bool) (line : List (List Nat)) (seg : Nat × Nat) : List RBlock :=
  let dep := d.depth h
  let start := ctrlBytes [(1, 0x4B), (1, d.polarity h f n seg.1 + 2 * b2n black + 4 * depthCode dep), (2, f), (2, n), (2, seg.2)]
  let order (px : List Nat) := if d.app (STh_FORMAT_CTRL_ORDER h) = 1 then px.reverse else px
  let data := if black then [] else
    leBytes (8 * ceilDiv (seg.2 * 3 * dep) 64) (packBits dep (((line.drop seg.1).take seg.2).flatMap order))
  ⟨true, start⟩ :: dataBlocks data ++ ctrlBlock [(1, 0x55), (1, 0), (2, crc16 (start.drop 1 ++ data)), (2, n), (2, 0)]

/-- Sends one block or packet on each link of head `h` that is up. -/
def Dev.sendUpLinks (h : Nat) (blocks : List RBlock) (d : Dev) : Dev :=
  foldS (d.headLinks h) (fun j s => s.linkStream j blocks) d

/-- R253: a FRAME_MARK: kind 0 FRAME_START, 1 FRAME_END, 4 FRAME_ABORT. -/
def Dev.frameMark (h kind f arg : Nat) (d : Dev) : Dev :=
  d.sendUpLinks h (ctrlBlock [(1, 0x66), (1, kind), (2, f), (2, arg), (2, 0)])

/-- R256, R260: line `n` goes to the links; a link that is down discards it, which R504 counts where a lane fault took it down. -/
def Dev.sendLine (h f n : Nat) (black : Bool) (line : List (List Nat)) (d : Dev) : Dev :=
  (d.headLinks h).zipIdx.foldl (fun s (j, k) =>
    if s.linkUp j then s.linkStream j (s.linePacket h f n black line (s.segment h k))
    else
      let s1 := s.inc (HDn_COUNTk_V h 5)
      if (s1.link j).fault then s1.headDown h 4 else s1) d

/-! ### Edge generators (R250) -/

/-- The output of generator `k` in line `n` of frame `f`, from its output `carry` at the end of the line before: the changes by
pixel position, the first at 0. -/
def Dev.edgeLine (d : Dev) (h k f n : Nat) (carry : Bool) : List (Nat × Bool) :=
  let set := d.app (HDn_EDGEk_POS_SET h k)
  let clear := d.app (HDn_EDGEk_POS_CLEAR h k)
  let first := d.app (HDn_EDGEk_LINES_FIRST h k)
  let last := d.app (HDn_EDGEk_LINES_LAST h k)
  let mode := d.app (HDn_EDGEk_MODE_V h k)
  let within := decide (first ≤ n ∧ n ≤ last)
  let pulse (on : Bool) : List (Nat × Bool) :=
    let old := if carry then [(0, true), (clear, false)] else [(0, false)]
    if !on then old
    else if set ≤ clear then [(0, carry), (set, true), (clear, false)]
    else old ++ [(set, true)]
  match mode with
  | 1 => pulse within
  | 2 =>
    if first = last ∧ clear ≤ set then [(0, false)]
    else (0, decide (first < n ∧ n ≤ last)) :: (if n = first then [(set, true)] else []) ++ (if n = last then [(clear, false)] else [])
  | 3 => [(0, carry), (set, d.polarity h f n 0 == 1)]
  | 4 => pulse (within && (n - first) % 2 == 0)
  | 5 => pulse (within && (n - first) % 2 == 1)
  | _ => [(0, false)]

/-- The pins that generators of head `h` drive. -/
def Dev.edgePins (d : Dev) (h : Nat) : List Nat :=
  filterRange 48 (fun p => (d.pinEntry p).function == 1 && (d.pinEntry p).owner == h)

/-- The generators' edges in line `n` of frame `f` on the pins (R250); during a discharge the harness die keeps the pins. -/
def Dev.edges (h f n : Nat) (d : Dev) : Dev :=
  let waves := (List.range 32).map (fun k => d.edgeLine h k f n (nth false (d.head h).gens k))
  let ends := waves.map (fun w => match w.getLast? with | some p => p.2 | none => false)
  let d1 := foldS (d.edgePins h) (fun p s =>
    let e := s.pinEntry p
    let w := (nth [] waves e.index).map (fun q => (q.1, q.2 != bitOf e.flags 0))
    if s.panelState h = 4 then s
    else (s.send (.edges p n w)).drive p (nth false ends e.index != bitOf e.flags 0)) d
  d1.onHead h (fun u => { u with gens := ends })

/-! ### Configuration commands (R257, R258) -/

/-- A CMD_REQ block. -/
def cmdReq (op seq device addr data : Nat) : List RBlock :=
  ctrlBlock [(1, 0x87), (1, op + 16 * seq), (1, device), (1, addr), (4, if op = 1 then data else 0)]

/-- The command of R258 ends with a result. -/
def Dev.cmdDone (h result : Nat) (d : Dev) : Dev := (d.put (HDn_CMD_STATUS_STATE h) 3).put (HDn_CMD_STATUS_RESULT h) result

/-- The command that head `h` holds goes out (R258). -/
def Dev.cmdSend (h : Nat) (d : Dev) : Dev :=
  match (d.head h).cmd with
  | [link, op, device, addr, data] =>
    match (d.headLinks h)[link]? with
    | none => d.cmdDone h 5
    | some j =>
      if !d.linkUp j then d.cmdDone h 5
      else
        let d1 := d.linkStream j (cmdReq op (d.get (HDn_CMD_STATUS_SEQ h)) device addr data)
        if (d.linkEntry j).txOnly || device == 0xFF then d1.cmdDone h 4 else d1.put (HDn_CMD_STATUS_STATE h) 2
  | _ => d

/-- R258: may a host command go out now? Not during active lines, and in a re-gait not before the writes of SEGMENT and CONFIG that
come ahead of its first black frame. -/
def Dev.cmdMay (d : Dev) (h : Nat) : Bool :=
  !(d.head h).inFrame && !(d.headState h == 3 && decide (d.get (HDn_STATUS_SWITCH_STEP h) < 4))

/-- A write of HDn_CMD_GO: the command waits during active lines (R258). -/
def cmdGoWrite (h v : Nat) (d : Dev) : Dev :=
  d.writeVia (HDn_CMD_GO h) v
    (fun s => !s.isMip h && (s.get (HDn_CMD_STATUS_STATE h) == 0 || s.get (HDn_CMD_STATUS_STATE h) == 3))
    (fun s =>
      let c := [s.get (HDn_CMD_CTRL_LINK h), s.get (HDn_CMD_CTRL_OP h), s.get (HDn_CMD_CTRL_DEVICE h),
        s.get (HDn_CMD_CTRL_ADDR h), s.get (HDn_CMD_DATA_V h)]
      let s1 := (s.onHead h (fun u => { u with cmd := c })).put (HDn_CMD_STATUS_SEQ h) ((s.get (HDn_CMD_STATUS_SEQ h) + 1) % 16)
      if s1.cmdMay h then s1.cmdSend h else s1.put (HDn_CMD_STATUS_STATE h) 1)

/-- The waiting command goes out, where it may. -/
def Dev.cmdRelease (h : Nat) (d : Dev) : Dev := if d.get (HDn_CMD_STATUS_STATE h) = 1 ∧ d.cmdMay h = true then d.cmdSend h else d

/-- A CMD_RSP that a driver of head `h` sends (R258). -/
def Dev.cmdRsp (h status seq data : Nat) (d : Dev) : Dev :=
  if d.get (HDn_CMD_STATUS_STATE h) ≠ 2 ∨ seq ≠ d.get (HDn_CMD_STATUS_SEQ h) ∨ 3 ≤ status then d
  else
    let read := nth 0 (d.head h).cmd 1 == 2
    (if read then d.put (HDn_CMD_RDATA_V h) data else d).cmdDone h status

/-- CMD_RSP_TIMEOUT. -/
def cmdRspTimeout (h : Nat) (d : Dev) : Dev := if d.get (HDn_CMD_STATUS_STATE h) = 2 then d.cmdDone h 3 else d

/-- R258: SEGMENT and CONFIG are written to every driver of link `k` of head `h`. Their SEQ is a free value (assumption 2). -/
def Dev.driverSetup (h k : Nat) (d : Dev) : Dev :=
  match (d.headLinks h)[k]? with
  | none => d
  | some j =>
    if !d.linkUp j then d
    else
      let config := depthCode (d.depth h) + 4 * d.app (HDn_GAIT_MODE_INV_MODE h) + 32 * d.app (HDn_GAIT_MODE_INV_N h)
      let req (addr data : Nat) (s : Dev) : Dev := (s.linkStream j (cmdReq 1 (s.free % 16) 0xFF addr data)).drawn
      req 2 config (req 1 (d.segment h k).2 d)

/-- The writes of R258 on the link that came up. -/
def Dev.columnUp (j : Nat) (d : Dev) : Dev :=
  let h := (d.linkEntry j).owner
  d.driverSetup h ((d.headLinks h).findIdx (· == j))

/-! ### The stall copy (R283, R285) -/

/-- The address and the length of head `h`'s stall banks. -/
def Dev.stallBase (d : Dev) (h : Nat) : Nat := 0x4000000000 + d.get (HDn_STALL_CTRL_BANK_FIRST h) * 0x80000
def Dev.stallRoom (d : Dev) (h : Nat) : Nat := d.get (HDn_STALL_CTRL_BANK_COUNT h) * 0x80000

/-- The tile code's format of head `h`'s lines. -/
def Dev.stallFmt (d : Dev) (h : Nat) : Nat := depthCode (d.depth h) + 1

/-- A tile row of the stall copy is coded as one dynamic segment (assumption 20). -/
def Dev.stallRow (h ty : Nat) (d : Dev) : Dev :=
  let u := d.head h
  let n := (d.hactive h + 7) / 8
  let tiles := (List.range n).map (fun tx => (List.range 64).map (fun j => d.cut h (rowPx u.stallRows tx j)))
  let parts := segChunks (d.stallFmt h) 15 0 [] false (ty * n) n 0 tiles []
  let bytes := bytesOfBits (parts.flatMap Chunk.bits)
  let d1 := (d.ceTaken true).ceCoded parts n 1
  if u.stallFit && decide (u.stallPos + bytes.length ≤ d.stallRoom h) then
    (d1.agentWrite (8 + h) (d.stallBase h + u.stallPos) bytes).onHead h (fun u => { u with stallPos := u.stallPos + bytes.length, stallRows := [] })
  else d1.onHead h (fun u => { u with stallFit := false, stallRows := [] })

/-- Line `n` of the frame being copied. -/
def Dev.stallLine (h n : Nat) (line : List Px) (d : Dev) : Dev :=
  if !(d.head h).stallMaking then d
  else
    let d1 := d.onHead h (fun u => { u with stallRows := u.stallRows ++ [line] })
    if rowFull n (d.vactive h) then d1.stallRow h (n / 8) else d1

/-- The tiles of tile row `ty` of a copy, from the segments in `bytes` on. -/
def stallTiles (tabs : Nat → Option CodeTable) : Nat → List Byte → Option (List Tile)
  | 0, bytes => match readSegment tabs bytes with | some (_, _, t, _) => some t | none => none
  | ty + 1, bytes => match readSegment tabs bytes with | some (_, _, _, rest) => stallTiles tabs ty rest | none => none

/-- Tile row `ty` of head `h`'s stall copy, where it decodes. -/
def Dev.stallTileRow (d : Dev) (h ty : Nat) : Option (List Tile) :=
  let byte (a : Nat) : Byte := if d.readsAt (8 + h) a then d.dpByte a else 0
  stallTiles d.ceTable ty ((List.range (d.get (HDn_STALL_STATUS_USED_KIB h) * 1024)).map (fun k => byte (d.stallBase h + k)))

/-- Line `n` as the stall copy holds it; the first line of a tile row decodes the row (R465, R466). -/
def Dev.stallRead (h n : Nat) (d : Dev) : List (List Nat) × Dev :=
  let row := d.stallTileRow h (n / 8)
  let line := (List.range (d.hactive h)).map (fun x => nth [] (nth [] (row.getD []) (x / 8)) (n % 8 * 8 + x % 8))
  (line, if n % 8 ≠ 0 then d
    else if row.isSome then (d.ceTaken false).ceCount 1 ((d.hactive h + 7) / 8) else (d.ceTaken false).badStream)

/-! ### The commands -/

/-- CMD_RSP_TIMEOUT. -/
def execCmdRspTimeout (h : Fin 8) (s : State) := s.on (cmdRspTimeout h)

end Sys2Proof.Machine
end

