-- ==== Sys2Proof/Machine/Raster.lean ====
section
/-! DEFINITION. Raster heads (chapter 07): the commit check, start and stop, gait changes, the frame queue, frame starts, lines,
the parts of a commit point, records; and line lock (R159 to R163). The commit point itself, with the marks that fire on it, is
in Commit.lean. -/
namespace Sys2Proof.Machine

/-! ### The commit check (R247) -/

/-- Pixels per second times the active share: HACTIVE × VACTIVE × refresh of head `h` as applied. -/
def Dev.headLoad (d : Dev) (h : Nat) : Rat :=
  (d.hactive h * d.vactive h : Nat) * d.headRate h / (d.htotal h * d.vtotal h : Nat)

/-- The quads that hold lanes of a list. -/
def quadsOf (l : List Nat) : List Nat := (l.map (· / 4)).dedup

/-- R247: RATE and LANES of the shadow set against the applied ones. -/
def Dev.linkSetOk (d : Dev) (h : Nat) : Bool :=
  let links := d.headLinks h
  let changed := d.get (HDn_GAIT_LINK_RATE h) != d.app (HDn_GAIT_LINK_RATE h)
    || d.get (HDn_GAIT_LINK_LANES h) != d.app (HDn_GAIT_LINK_LANES h)
  let quads := quadsOf (links.flatMap d.allLanes)
  let others := (List.range 16).filter (fun j => !links.contains j)
  decide (d.get (HDn_GAIT_LINK_RATE h) ≤ 5)
    && links.all (fun j => decide (d.get (HDn_GAIT_LINK_LANES h) ≤ (d.linkEntry j).lanes.length))
    && (!changed || others.all (fun j => (d.allLanes j).all (fun n => !quads.contains (n / 4))))

/-- R247: the rules of a raster head's shadow set. -/
def Dev.gaitSetOk (d : Dev) (h : Nat) : Bool :=
  let ht := d.get (HDn_GAIT_HTOTAL_V h)
  let ha := d.get (HDn_GAIT_HACTIVE_V h)
  let vt := d.get (HDn_GAIT_VTOTAL_VTOTAL h)
  let vm := d.get (HDn_GAIT_VTOTAL_VTOTAL_MAX h)
  let va := d.get (HDn_GAIT_VACTIVE_V h)
  let khz := d.get (HDn_GAIT_HPLL_KHZ_V h)
  let f := pixelRate khz (d.get (HDn_GAIT_CLOCK_PPC h)) (d.get (HDn_GAIT_CLOCK_DIV h))
  let vari := d.flag (HDn_GAIT_MODE_VARIABLE h)
  let idle := d.flag (HDn_GAIT_IDLE_ENABLE h)
  let flock := d.flag (HDn_FLOCK_CTRL_ENABLE h)
  let llock := d.flag (LLh_CTRL_ENABLE h)
  let refresh : Rat := f / (ht * vt : Nat)
  let code := d.get (HDn_FLOCK_CTRL_RATE h)
  let nominalRate : Rat := (rateNum code : Rat) / (rateDen code : Rat)
  let others := (List.range 8).filter (fun k => k != h && d.isRaster k && d.headState k != 0)
  let load : Rat := (ha * va : Nat) * refresh + others.foldl (fun a k => a + d.headLoad k) 0
  let dep := d.get (STh_FORMAT_CTRL_DEPTH h)
  let links := d.headLinks h
  let ws := segWidth (d.flag (STh_FORMAT_CTRL_DUPLICATE h)) links.length ha
  let blocks := 3 + ceilDiv (ws * 3 * dep) 64
  let rateOf (j : Nat) : Nat := let r := d.get (HDn_GAIT_LINK_RATE h); if r = 0 then (d.linkEntry j).rate else r
  let lanesOf (j : Nat) : Nat := let n := d.get (HDn_GAIT_LINK_LANES h); if n = 0 then (d.linkEntry j).lanes.length else n
  decide (64 ≤ ha ∧ ha ≤ 8192) && decide (ha + 32 ≤ ht ∧ ht ≤ 16384) && decide (64 ≤ va ∧ va ≤ 4352)
    && decide (va + 4 ≤ vt ∧ vt ≤ 8192) && decide (f * 8 ≤ (((vt - va) * ht * 1000000 : Nat) : Rat))
    && (if vari then decide (vt ≤ vm ∧ vm ≤ 8192) && decide (((ht * vm : Nat) : Rat) ≤ f) else vm == 0)
    && decide (400000 ≤ khz ∧ khz ≤ 1600000) && decide (f ≤ 4400000000)
    && decide (1 ≤ refresh ∧ refresh ≤ 240) && decide (load ≤ 4800000000)
    && links.all (fun j => decide ((blocks * 66 * 100 : Nat) * f ≤ ((95 * lanesOf j * (rateMbaud (rateOf j) * 1000000) * ht : Nat) : Rat)))
    && d.linkSetOk h
    && allBelow 32 (fun k => decide (d.get (HDn_EDGEk_POS_SET h k) < ht) && decide (d.get (HDn_EDGEk_POS_CLEAR h k) < ht)
        && decide (d.get (HDn_EDGEk_LINES_FIRST h k) ≤ d.get (HDn_EDGEk_LINES_LAST h k)))
    && !(llock && (flock || vari || idle))
    && !(flock && (vari || idle || decide (500 * nominalRate < 1000000 * (refresh - nominalRate))
        || decide (500 * nominalRate < 1000000 * (nominalRate - refresh))))
    && decide (vt ≤ d.get (HDn_GAIT_IDLE_IDLE_VTOTAL h) ∧ d.get (HDn_GAIT_IDLE_IDLE_VTOTAL h) ≤ 8192)
    && d.scaleSetOk h ha va && d.correctionSetOk h ha va

/-! ### The HPLLs (R246, R262, R271) -/

/-- Is another head that is assigned to head `h`'s HPLL not STOPPED? -/
def Dev.hpllShared (d : Dev) (h : Nat) : Bool :=
  anyBelow 8 (fun k => k != h && d.isRaster k && d.hpllOf k == d.hpllOf h && d.headState k != 0)

/-- TOP_PLL_STATUS's bit for head `h`'s HPLL. -/
def Dev.pllBit (h : Nat) (locked : Bool) (d : Dev) : Dev :=
  if d.hpllOf h < 4 then d.put TOP_PLL_STATUS_V (putBits (d.get TOP_PLL_STATUS_V) (2 + d.hpllOf h) 1 (b2n locked)) else d

/-- A retune of head `h`'s HPLL begins: `what` 1 for a start, 2 for a re-gait. -/
def Dev.retune (h what : Nat) (d : Dev) : Dev :=
  (d.pllBit h false).onHead h (fun u => { u with pllTries := 0, pllFor := what })

/-! ### The wait for an aligned instant (R249) -/

/-- Does head `h` follow a frame lock now? SHED2 suspends it (R525). -/
def Dev.flockOn (d : Dev) (h : Nat) : Bool := d.appB (HDn_FLOCK_CTRL_ENABLE h) && decide (d.shedLevel < 2)

/-- The wait of a frame-locked head for an aligned instant: it is bounded from the instant `ns` ns ahead, when the frame would start
without it. -/
def Dev.flockHold (d : Dev) (h : Nat) (ns : Rat) : Option Nat := if d.flockOn h then some ((d.tb 3).total + (-(-ns).floor).toNat) else none

/-- The time of `n` lines of head `h`, in ns. -/
def Dev.linesNs (d : Dev) (h n : Nat) : Rat := (n : Rat) * d.linePeriod h * 1000000000

/-! ### Applying a set (R3, R263 to R269) -/

/-- What makes a set a re-gait (R270). -/
def Dev.gaitKey (d : Dev) (h : Nat) : List Nat × List (Nat × Nat) :=
  ([d.app (HDn_GAIT_HPLL_KHZ_V h), d.app (HDn_GAIT_CLOCK_DIV h), d.app (HDn_GAIT_CLOCK_PPC h), d.hactive h],
   (d.headLinks h).map (fun j => (d.linkRate j, d.linkLanes j)))

/-- The links of head `h` whose rate or lanes differ between two states. -/
def Dev.linksChanged (old d : Dev) (h : Nat) : List Nat :=
  (d.headLinks h).filter (fun j => old.linkRate j != d.linkRate j || old.linkLanes j != d.linkLanes j)

/-- R163: line lock as the applied ENABLE says; the underrun count starts anew when it becomes 1 (R164). -/
def Dev.lockApplied (h : Nat) (d : Dev) : Dev :=
  let n := d.app (LLh_CTRL_STREAM h)
  if !d.appB (LLh_CTRL_ENABLE h) then d.put (LLh_CTRL_STATE h) 0
  else if d.get (LLh_CTRL_STATE h) = 0 then (d.put (LLh_UNDERRUN_COUNT_V h) 0).put (LLh_CTRL_STATE h) (if d.inState n = 0 ∨ d.inState n = 4 then 3 else 1)
  else d

/-- What follows when head `h`'s words have been applied: the reported gait, the fabric, locks, the stall copy (R267, R284). -/
def Dev.rasterApplied (h : Nat) (d old : Dev) : Dev :=
  let od := if d.rtDue h then (headImage d.tack.rtImage h).sect.chain.any (·.kind == 9) else d.has h 9
  let d1 := ((d.put (HDn_APPLIED_H_HTOTAL h) (d.htotal h)).put (HDn_APPLIED_H_HACTIVE h) (d.hactive h)).put (HDn_APPLIED_V_VTOTAL h) (d.vtotal h)
  let d2 := (d1.put (HDn_APPLIED_V_VACTIVE h) (d.vactive h)).put (HDn_APPLIED_RATE_V h) ((d.gaitRate h / 1000).floor.toNat)
  let d3 := foldS (d2.headLinks h) (fun j s => s.put (LKj_STATUS_LANES j) (s.linkLanes j)) (d2.fabricChanged h od old)
  let d4 := if d3.appB (HDn_FLOCK_CTRL_ENABLE h) then
      (if old.appB (HDn_FLOCK_CTRL_ENABLE h) then d3
       else d3.onHead h (fun u => { u with flockWait := d3.flockHold h (d3.linesNs h (d3.vtotal h - d3.vactive h)) }))
    else (d3.put (HDn_STATUS_FLOCK_LOCKED h) 0).onHead h (fun u => { u with flockGood := 0, flockTrim := 0, flockWait := none })
  (d4.lockApplied h).putB (HDn_STALL_STATUS_VALID h) false

/-- The sealed set of a STOPPED raster head applies (R264). Links whose rate or lanes change re-lunge. -/
def Dev.rasterApplyStopped (h : Nat) (d : Dev) : Dev :=
  let d1 := (d.applyWords h).rasterApplied h d
  let regait := d.gaitKey h != d1.gaitKey h
  let d2 := foldS (d.linksChanged d1 h) Dev.relunge d1
  (d2.ack h true (if regait then 2 else 1) (d.head h).nextFrame).put (HDn_SHADOW_STATE_V h) 0

/-! ### Becoming STOPPED (R252, R261, R341) -/

/-- Raster head `h` becomes STOPPED: park pattern; a sealed set applies; waiting substitutions begin; a waiting command goes out (R258);
a panel that follows the head ramps down. -/
def Dev.rasterStopped (h : Nat) (d : Dev) : Dev :=
  let cause := (d.head h).stopCause
  let d1 := ((d.put (HDn_STATUS_STATE h) 0).put (HDn_STATUS_SWITCH_STEP h) 0).put (HDn_STATUS_IDLE h) 0
  let d2 := d1.onHead h (fun u => { u with
    inFrame := false, lineBegun := false, frameLines := 0, lateLines := 0, idleOver := false, flags := 0, flockWait := none,
    started := false, stallExit := false, stallMaking := false, lungeWait := [], lockOn := false, stopCause := 0 })
  let d3 := if d2.flag (HDn_SHADOW_STATE_V h) then (d2.rasterApplyStopped h).rtAtRest h else d2
  let d4 := (((d3.gammaCommit h).park h).subNow h).cmdRelease h
  if cause = 0 then d4 else d4.rampDown h cause

/-- R272: a re-gait whose links re-lunge and come up: step 3. -/
def Dev.regaitLunge (h : Nat) (d : Dev) : Dev :=
  foldS (d.head h).lungeWait Dev.relunge (d.put (HDn_STATUS_SWITCH_STEP h) 3)

/-- A re-gait begins at the commit point (R270, step 1): `links` are those whose rate or lanes changed. A divider that alone
changes has settled by the time anything else can happen. -/
def Dev.regaitStart (h : Nat) (links : List Nat) (d : Dev) : Dev :=
  let d1 := ((d.put (HDn_STATUS_STATE h) 3).put (HDn_STATUS_SWITCH_STEP h) 2).put (HDn_STATUS_IDLE h) 0
  let d2 := if d1.get (LLh_CTRL_STATE h) = 2 then d1.put (LLh_CTRL_STATE h) 1 else d1
  let d3 := (d2.onHead h (fun u => { u with frameLines := 0, lungeWait := links, flockWait := d2.flockHold h 0 })).onFab h (fun u => {
    u with odRegait := true })
  let d4 := d3.park h
  if d4.app (HDn_GAIT_HPLL_KHZ_V h) ≠ d4.hpllKhz h then d4.retune h 2 else d4.regaitLunge h

/-- R271: the retune of head `h`'s HPLL has changed the pixel rate of every STOPPED head on it, and gives head `h` that of its gait. -/
def Dev.hpllRates (h : Nat) (d : Dev) : Dev :=
  foldS (filterRange 8 (fun k => d.isRaster k && (k == h || d.headState k == 0) && d.hpllOf k == d.hpllOf h))
    (fun k s => s.put (HDn_APPLIED_RATE_V k) ((s.headRate k / 1000).floor.toNat)) d

/-- HPLL_LOCK: the HPLL that head `h` retunes locks (R262, R270, R271). -/
def hpllLock (h : Nat) (d : Dev) : Dev :=
  let what := (d.head h).pllFor
  if what = 0 then d
  else
    let khz := d.app (HDn_GAIT_HPLL_KHZ_V h)
    let d1 := { d with tack := { d.tack with hplls := updAt d.tack.hplls (d.hpllOf h) (fun _ => khz) } }
    let d2 := ((d1.pllBit h true).onHead h (fun u => { u with
      pllFor := 0, pllTries := 0, blankAt := (d.tb 3).total,
      flockWait := u.flockWait.map (fun _ => (d.tb 3).total + (if what = 1 then 10000 else 0)) })).hpllRates h
    if what = 2 ∧ d2.headState h = 3 then d2.regaitLunge h else d2

/-- HPLL_LOCK_TIMEOUT: 250 µs without lock (R272); the third time the head stops. -/
def hpllLockTimeout (h : Nat) (d : Dev) : Dev :=
  let u := d.head h
  if u.pllFor = 0 then d
  else if u.pllTries < 2 then d.onHead h (fun u => { u with pllTries := u.pllTries + 1 })
  else
    let d1 := d.onHead h (fun u => { u with pllFor := 0, pllTries := 0 })
    ((d1.rasterStopped h).put (HDn_STATUS_PLL_FAIL h) 1).flogWrite clsDevice 0 h [d.word (HDn_STATUS h)]

/-- REGAIT_LUNGE_TIMEOUT: step 4 begins although a link is down (R270). -/
def regaitLungeTimeout (h : Nat) (d : Dev) : Dev :=
  if d.headState h = 3 ∧ d.get (HDn_STATUS_SWITCH_STEP h) = 3 then
    d.onHead h (fun u => { u with lungeWait := [], flockWait := u.flockWait.map (fun _ => (d.tb 3).total) })
  else d

/-! ### RUN (R261, R262, R343) -/

/-- R323: does a girth loop that names head `h` read cracked? -/
def Dev.cracked (d : Dev) (h : Nat) : Bool :=
  anyBelow 4 (fun g => d.girthOn g && d.girthHead g == h && d.flag (GIRTHg_STATUS_CRACK g))

/-- May a head start in this mode (R16) and at this shed level? -/
def Dev.startMode (d : Dev) : Bool := decide (3 ≤ d.mode ∧ d.mode ≤ 6) && decide (d.shedLevel < 3)

/-- R262, R323, R343: is RUN = 1 accepted for raster head `h`? -/
def Dev.rasterRunOk (d : Dev) (h : Nat) : Bool :=
  d.startMode && !d.cracked h && d.panelState h == 2
    && (d.headState h != 0 || d.app (HDn_GAIT_HPLL_KHZ_V h) == d.hpllKhz h || !d.hpllShared h)

/-- RUN written to raster head `h` (R261). -/
def Dev.rasterRun (h : Nat) (on : Bool) (d : Dev) : Dev :=
  match d.headState h, on with
  | 0, true =>
    let d0 := (d.put (HDn_STATUS_STATE h) 1).put (HDn_STATUS_PLL_FAIL h) 0
    let d1 := d0.onHead h (fun u => { u with blankAt := (d.tb 3).total, flockWait := d0.flockHold h 10000 })
    if d1.app (HDn_GAIT_HPLL_KHZ_V h) ≠ d1.hpllKhz h then d1.retune h 1 else d1
  | 1, false => d.put (HDn_STATUS_STATE h) 2
  | 2, true => d.put (HDn_STATUS_STATE h) 1
  | 3, false => d.rasterStopped h
  | _, _ => d

/-- A raster head stops for a cause of the device (R11, R527): as RUN = 0 written, then its panel ramps down. -/
def Dev.rasterHalt (h cause : Nat) (d : Dev) : Dev :=
  if d.headState h = 0 then d.rampDown h cause
  else if d.headState h = 4 then (d.onHead h (fun u => { u with stopCause := cause })).put (HDn_STATUS_STATE h) 2
  else (d.onHead h (fun u => { u with stopCause := cause })).rasterRun h false

/-! ### The frame queue (R273 to R278) -/

/-- Idle ends (R282): the stretched blanking ends at the next line boundary at or after VTOTAL lines. -/
def Dev.idleEnd (h : Nat) (d : Dev) : Dev :=
  if d.flag (HDn_STATUS_IDLE h) && !(d.head h).inFrame && decide (d.shedLevel < 2) && d.headState h != 4 then
    (d.put (HDn_STATUS_IDLE h) 0).onHead h (fun u => { u with frameLines := d.vtotal h, idleOver := true })
  else d

/-- Bytes of a line of the queue's buffers (R274). -/
def Dev.qLineBytes (d : Dev) (h : Nat) : Nat :=
  let w := d.app (HDn_QBUF_SIZE_WIDTH h)
  if d.has h 1 then 8 * lineBlocks w (d.app (STh_UNPACK_QFORMAT h)) else 8 * w

/-- R273: is a push accepted? -/
def qPushOk (h : Nat) (d : Dev) : Bool :=
  d.isRaster h && (d.head h).sect.source == 16 && decide ((d.head h).queue.length < 16)
    && decide (d.get (HDn_Q_BASE_V h) * 256 + (d.app (HDn_QBUF_SIZE_HEIGHT h) - 1) * d.app (HDn_QBUF_STRIDE_V h) * 64
        + d.qLineBytes h ≤ dramEnd)

/-- An entry joins the queue; in an empty queue it becomes the front (R275); an entry that is due ends idle (R282). -/
def Dev.qAdd (h : Nat) (e : QEntry) (d : Dev) : Dev :=
  let empty := (d.head h).queue.isEmpty
  let d1 := d.onHead h (fun u => { u with queue := u.queue ++ [e] })
  let d2 := if empty then d1.judgeFront h else d1
  if (d2.head h).queue.head?.any d2.entryDue then d2.idleEnd h else d2

/-- A write of HDn_Q_PUSH. -/
def qPushWrite (h v : Nat) (d : Dev) : Dev :=
  d.writeVia (HDn_Q_PUSH h) v (qPushOk h) (fun s => s.qAdd h
    { base := s.get (HDn_Q_BASE_V h), time := s.get (HDn_Q_TIME_V h), tag := bitsOf v 0 16, next := bitOf v 17, drop := bitOf v 18,
      tb := bitsOf v 19 2 })

/-- A write of HDn_Q_FLUSH (R278). -/
def qFlushWrite (h v : Nat) (d : Dev) : Dev :=
  d.writeVia (HDn_Q_FLUSH h) v (fun s => !s.isMip h) (fun s => if bitOf v 0 then s.onHead h (fun u => { u with queue := [] }) else s)

/-- R276: the buffer in use shows again. -/
def Dev.qRepeat (h : Nat) (d : Dev) : Dev :=
  match (d.head h).showing with
  | some _ => ((d.inc (HDn_COUNTk_V h 4)).recFlag h 5).onHead h (fun u => { u with tag := d.get (HDn_Q_STATUS_SHOWING h) })
  | none => d

/-- The queue at a frame start of head `h` (R275, R276): shows the front if it is due, otherwise repeats. -/
def Dev.qFrameStart (h : Nat) (d : Dev) : Dev :=
  let u := d.head h
  match u.queue with
  | e :: r =>
    if d.entryDue e then
      let d1 := d.onHead h (fun u => { u with queue := r, showing := some e.base, tag := e.tag })
      let d2 := if e.late then (d1.inc (HDn_COUNTk_V h 2)).recFlag h 0 else d1
      ((d2.put (HDn_Q_STATUS_SHOWING h) e.tag).put (HDn_Q_STATUS_SHOWN h) 1).judgeFront h
    else d.qRepeat h
  | [] => d.qRepeat h

/-! ### Line lock (R159 to R163) -/

/-- The arrival of line `y` of a list, in ns of TB3. -/
def arrivalOf (l : List (Nat × Nat)) (y : Nat) : Option Nat := (cellFind l y)

/-- The arrivals of the input frame that head `h` follows: of the stream's present frame, or of the one before (R160). -/
def Dev.lockArrivals (d : Dev) (h : Nat) : List (Nat × Nat) :=
  let n := d.app (LLh_CTRL_STREAM h)
  if (d.head h).lockFrame = d.get (INn_POS_FRAME n) then (d.stream n).arrivals else (d.stream n).past

/-- R160: the anchor in ns, to the nearest. -/
def Dev.anchorNs (d : Dev) (h : Nat) : Int :=
  let n := d.app (LLh_CTRL_STREAM h)
  let ti : Rat := (d.get (INn_LINE_PERIOD_V n) : Rat) / 256
  let th : Rat := d.linePeriod h * 1000000000
  let lag := d.app (LLh_CTRL_LAG h)
  let terms := (List.range (d.vactive h)).filterMap (fun k => (d.inputLine h k (d.inHeight n)).map (fun m => ((m + lag : Nat) : Rat) * ti - (k : Rat) * th))
  match terms with
  | [] => min 24000 (Config.pipeNs h)
  | t :: r => roundRat (r.foldl max t + (min 24000 (Config.pipeNs h) : Nat))

/-- R163: does the head's gait frame period lie within 0.5 % of the stream's, from the arrivals of its last two frames? -/
def Dev.lockPeriodOk (d : Dev) (h : Nat) : Bool :=
  let n := d.app (LLh_CTRL_STREAM h)
  match arrivalOf (d.stream n).arrivals 0, arrivalOf (d.stream n).past 0 with
  | some a, some b =>
    let ts : Rat := (a : Rat) - (b : Rat)
    let th : Rat := (d.vtotal h : Rat) * d.linePeriod h * 1000000000
    decide (200 * (th - ts) ≤ ts) && decide (200 * (ts - th) ≤ ts)
  | _, _ => false

/-- LINE_LOCK_ACQUIRE: line lock in SEEK locks (R163). -/
def lineLockAcquire (h : Nat) (d : Dev) : Dev :=
  let n := d.app (LLh_CTRL_STREAM h)
  if d.isRaster h && d.get (LLh_CTRL_STATE h) == 1 && d.inState n == 2 && d.get (INn_LINE_PERIOD_V n) != 0 && d.lockPeriodOk h then
    (d.put (LLh_CTRL_STATE h) 2).putI (LLh_ANCHOR_NS_V h) (d.anchorNs h)
  else d

/-- Is head `h` line-locked now (R163)? SHED2 suspends the locks (R525). -/
def Dev.lineLocked (d : Dev) (h : Nat) : Bool := d.get (LLh_CTRL_STATE h) == 2 && decide (d.shedLevel < 2)

/-- Does the frame in progress follow the line lock? A lock acts from the frame start after it (R163). -/
def Dev.frameLocked (d : Dev) (h : Nat) : Bool := (d.head h).lockOn && decide (d.shedLevel < 2)

/-- R160: has the anchor instant of a frame with these arrivals come? -/
def Dev.anchorCome (d : Dev) (h : Nat) (l : List (Nat × Nat)) : Bool := match arrivalOf l 0 with
  | some a => decide ((a : Int) + d.getI (LLh_ANCHOR_NS_V h) ≤ (d.tb 3).total)
  | none => false

/-- Is the input frame of a frame that starts now the one that INn_POS names, as its anchor instant has come, or the one before? -/
def Dev.lockPresent (d : Dev) (h : Nat) : Bool := d.anchorCome h (d.stream (d.app (LLh_CTRL_STREAM h))).arrivals
def Dev.lockCandidate (d : Dev) (h : Nat) : Nat :=
  let f := d.get (INn_POS_FRAME (d.app (LLh_CTRL_STREAM h)))
  if d.lockPresent h then f else (f + 65535) % 65536

/-- R163: a line-locked head waits for the anchor instant of an input frame that it has not shown, for at most one input frame
period. -/
def Dev.lockDue (d : Dev) (h : Nat) : Bool :=
  let n := d.app (LLh_CTRL_STREAM h)
  let u := d.stream n
  let fresh := !(d.head h).lockOn || d.lockCandidate h != (d.head h).lockFrame
  let waited := match arrivalOf u.arrivals 0, arrivalOf u.past 0 with
    | some a, some b => decide ((d.head h).blankAt + (a - b) ≤ (d.tb 3).total)
    | _, _ => false
  (fresh && (d.lockPresent h || d.anchorCome h u.past)) || waited

/-- R160, R182: a line-locked head's frame starts: its input frame, from its lines as they come. -/
def Dev.lockFrameStart (h : Nat) (d : Dev) : Dev :=
  let frame := d.lockCandidate h
  d.onHead h (fun x => { x with lockOn := true, lockFrame := frame, scanSlot := none, scanLoose := some frame, tag := frame })

/-- R156, R160: what a stream-sourced head scans from this frame start on. -/
def Dev.scanStart (h : Nat) (d0 : Dev) : Dev :=
  let d := d0.onHead h (fun u => { u with lockOn := false, scanLoose := none })
  let n := (d.head h).sect.source
  if 4 ≤ n then d
  else if d.lineLocked h then d.lockFrameStart h
  else match (d.stream n).done with
    | s :: _ => d.onHead h (fun u => { u with scanSlot := some (n, s), tag := nth 0 (d.stream n).slotFrame s })
    | [] => d.onHead h (fun u => { u with scanSlot := none })

/-- R162: must line `n` of a line-locked head wait for its input? -/
def Dev.lineMissing (d : Dev) (h n : Nat) : Bool :=
  d.frameLocked h && match d.inputLine h n (d.inHeight (d.app (LLh_CTRL_STREAM h))) with
    | none => false
    | some m => match arrivalOf (d.lockArrivals h) m with
      | some a => decide ((d.tb 3).total < a + min 24000 (Config.pipeNs h))
      | none => true

/-- R162: the margin of line `n`. -/
def Dev.noteMargin (h n : Nat) (d : Dev) : Dev :=
  if !d.frameLocked h then d
  else match (d.inputLine h n (d.inHeight (d.app (LLh_CTRL_STREAM h)))).bind (arrivalOf (d.lockArrivals h)) with
    | none => d
    | some a =>
      let m : Int := ((d.tb 3).total : Int) - (min 24000 (Config.pipeNs h) : Nat) - a
      d.onHead h (fun u => { u with margin := some (match u.margin with | some x => min x m | none => m) })

/-! ### Frame lock (R249) -/

/-- The distance in ns of the present instant from the nearest aligned frame start of the frame lock's time base, plus OFFSET. -/
def Dev.flockErr (d : Dev) (h : Nat) : Int :=
  let code := d.app (HDn_FLOCK_CTRL_RATE h)
  let t := d.tb (d.app (HDn_FLOCK_CTRL_TB h))
  let period : Int := ((rateDen code * 1000000000 : Nat) : Int)
  let x : Int := ((t.total : Int) - d.appI (HDn_FLOCK_OFFSET_V h)) * ((rateNum code : Nat) : Int)
  let r := x % period
  roundDiv (if 2 * r > period then r - period else r) ((rateNum code : Nat) : Int)

/-- R249: a frame start under frame lock: the error, the lock, the trim of the proportional-integral loop, and after a slip the wait for
the aligned instant. -/
def Dev.flockStart (h : Nat) (d : Dev) : Dev :=
  if !d.flockOn h then d
  else
    let e := d.flockErr h
    let good := if e.natAbs ≤ 1 then (d.head h).flockGood + 1 else 0
    let slip := decide (d.linePeriod h * 1000000000 < (e.natAbs : Rat))
    let d1 := d.putI (HDn_FLOCK_ERROR_V h) (clampI (-2147483648) 2147483647 e)
    let d2 := if good = 0 then d1.put (HDn_STATUS_FLOCK_LOCKED h) 0
      else if 8 ≤ good then d1.put (HDn_STATUS_FLOCK_LOCKED h) 1 else d1
    let d3 := if slip then d2.recFlag h 8 else d2
    d3.onHead h (fun u => { u with
      flockGood := min 8 good, flockTrim := clampI (-1000000) 1000000 (Config.flockTrim e u.flockTrim),
      flockWait := if slip then d.flockHold h (d.linesNs h (d.vtotal h)) else none })

/-! ### Frame start and lines (R248, R256) -/

/-- R249: may the frame that waits for an aligned instant start: at one, or one frame period later than it would without? -/
def Dev.flockDue (d : Dev) (h : Nat) : Bool := match (d.head h).flockWait with
  | none => true
  | some t => decide ((d.flockErr h).natAbs ≤ 1) || decide (d.linesNs h (d.vtotal h) ≤ (((d.tb 3).total - t : Nat) : Rat))

/-- R262: may the first frame after a start begin: 10 µs after the write or the retune, and under line lock as R163 gives? The first frame
of a re-gait has no such delay (R270). -/
def Dev.startDue (d : Dev) (h : Nat) : Bool :=
  (d.headState h == 3 || decide ((d.head h).blankAt + 10000 ≤ (d.tb 3).total)) && (!d.lineLocked h || d.lockDue h)

/-- R163, R248, R277, R281, R282, R285: has what the next frame start waits for come? On a VARIABLE gait a due entry, the end of idle or
VTOTAL_MAX lines start it; at the idle rate IDLE_VTOTAL lines do if they are fewer (assumption 72). -/
def Dev.frameDue (d : Dev) (h : Nat) : Bool :=
  let u := d.head h
  let run := d.get (HDn_POSITION_LINE h) + 1
  let ran (n : Nat) : Bool := decide (n + u.lateLines ≤ run)
  if u.frameLines = 0 then d.startDue h && d.flockDue h
  else if d.lineLocked h then decide (d.vactive h + 4 ≤ run) && decide (u.blankAt + 8000 ≤ (d.tb 3).total) && d.lockDue h
  else if !d.appB (HDn_GAIT_MODE_VARIABLE h) || decide (2 ≤ d.shedLevel) || d.headState h == 4 then ran u.frameLines && d.flockDue h
  else ran (d.vtotal h) &&
    (u.queue.head?.any d.entryDue || u.idleOver || ran (d.app (HDn_GAIT_VTOTAL_VTOTAL_MAX h))
      || (d.flag (HDn_STATUS_IDLE h) && ran u.frameLines))

/-- May head `h` start a frame now? -/
def Dev.mayStartFrame (d : Dev) (h : Nat) : Bool :=
  let u := d.head h
  d.isRaster h && d.headState h != 0 && !u.inFrame && u.pllFor == 0 && d.frameDue h
    && (d.headState h != 3 || (decide (3 ≤ d.get (HDn_STATUS_SWITCH_STEP h)) && u.lungeWait.isEmpty))

/-- The step of a re-gait at a frame start (R270); the first black frame follows the writes of R258, and those a host command
that waits. -/
def Dev.regaitFrame (h : Nat) (d : Dev) : Dev :=
  if d.headState h ≠ 3 then d
  else match d.get (HDn_STATUS_SWITCH_STEP h) with
    | 3 => (foldS (List.range (d.headLinks h).length) (Dev.driverSetup h) (d.put (HDn_STATUS_SWITCH_STEP h) 4)).cmdRelease h
    | 4 => d.put (HDn_STATUS_SWITCH_STEP h) 5
    | _ => (d.put (HDn_STATUS_SWITCH_STEP h) 0).put (HDn_STATUS_STATE h) 1

/-- HEAD_FRAME_START. -/
def headFrameStart (h : Nat) (d : Dev) : Dev :=
  if !d.mayStartFrame h then d
  else
    let d1 := d.regaitFrame h
    let d2 := if d1.headState h = 4 ∧ (d1.head h).stallExit = true then
        (d1.put (HDn_STATUS_STATE h) 1).onHead h (fun u => { u with stallExit := false }) else d1
    let f := (d2.head h).nextFrame
    let d3 := (((d2.put (HDn_POSITION_FRAME h) f).put (HDn_POSITION_LINE h) 0).inc (HDn_COUNTk_V h 0)).onHead h (fun u => { u with
      nextFrame := (f + 1) % 65536, startTime := d2.nsc32 0, inFrame := true, lineBegun := false, margin := none, tag := 0, lateLines := 0, idleOver := false, flockWait := none,
      flags := Nat.lor u.flags (b2n u.dropMark * 64 + b2n (d2.headState h == 3) * 8 + b2n (d2.headState h == 4) * 128),
      dropMark := false, stallPos := 0, stallRows := [], stallFit := true, frameLines := d2.vtotal h })
    let stall := decide (d3.headState h = 4)
    let d4 := if stall then d3 else if (d3.head h).sect.source = 16 then d3.qFrameStart h else d3.scanStart h
    let d5 := d4.flockStart h
    let d6 := if (d5.head h).started then d5
      else (d5.bandLatch h).onHead h (fun u => { u with started := true, fab := { u.fab with odRestartNext := true } })
    let d7 := if stall then d6 else d6.fabricFrameStart h
    d7.frameMark h 0 f (d7.vactive h)

/-- The device memory that line `n` brings in: source lines and plane lines (R190, R192, R274). -/
def Dev.lineUnits (d : Dev) (h n : Nat) : List Nat :=
  let src := (d.head h).sect.source
  let height := if src < 4 then d.inHeight src else d.app (HDn_QBUF_SIZE_HEIGHT h)
  let upto := match d.inputLine h n height with | some m => m + 1 | none => 0
  let low := if d.has h 5 then (d.fab h).inLines else n
  let lines := (List.range (upto - low)).map (· + low)
  let ofSource := lines.flatMap (fun y =>
    if src < 4 then match (d.head h).scanSlot with
      | some (_, s) => unitsOf (d.slotLine src s y) (8 * lineBlocks (d.inWidth src) (d.inFormat src))
      | none => []
    else match (d.head h).showing with
      | some b => unitsOf (b * 256 + y * d.app (HDn_QBUF_STRIDE_V h) * 64) (d.qLineBytes h)
      | none => [])
  ofSource ++ (d.planesFor h n).flatMap (d.planeUnits h)

/-- R262, R270: is every line of the frame black? -/
def Dev.frameBlack (d : Dev) (h : Nat) : Bool :=
  d.headState h == 3 || ((d.head h).sect.source == 16 && (d.head h).showing.isNone)

/-- An active line `n` goes through the stages and to the links. `planes` names overlay plane lines that are late, `maps` tile rows
whose maps are, `errs` what reading memory found. -/
def Dev.activeLine (h n : Nat) (planes : List (Nat × Nat)) (maps : List Nat) (errs : List (Nat × Ecc)) (d : Dev) : Dev :=
  let f := d.get (HDn_POSITION_FRAME h)
  if d.headState h = 4 then
    let (line, d1) := d.stallRead h n
    d1.sendLine h f n false line
  else
    let d1 := d.planesLate h (d.planesFor h n) planes
    let (bad, d2) := Dev.readUnits (8 + h) errs (d1.lineUnits h n) d1
    let d3 := ((if bad then d2.headDown h 3 else d2).lineMemRead h errs).stagesLine h n maps
    let line := picLine (d3.outPic h) (d3.hactive h) n
    let d4 := (d3.lineStatus h line).stallLine h n line
    (d4.noteMargin h n).sendLine h f n (d4.frameBlack h) (line.map (d4.cut h))

/-- The line that head `h` starts next. -/
def Dev.nextLine (d : Dev) (h : Nat) : Nat := if (d.head h).lineBegun then d.get (HDn_POSITION_LINE h) + 1 else d.get (HDn_POSITION_LINE h)

/-- May head `h` start a line now? Line VACTIVE of a frame starts with its commit point. -/
def Dev.mayStartLine (d : Dev) (h : Nat) : Bool :=
  let u := d.head h
  d.isRaster h && d.headState h != 0 && u.started && !(u.inFrame && decide (d.vactive h ≤ d.nextLine h))
    && (u.inFrame || (decide (u.frameLines ≠ 0) && (d.headState h != 3 || decide (4 ≤ d.get (HDn_STATUS_SWITCH_STEP h)))))

/-- Line `n` starts: the edges of the generators, then the line packet of an active line; in a stretched blanking an entry that has
become due ends idle (R282). -/
def Dev.startLine (h n : Nat) (planes : List (Nat × Nat)) (maps : List Nat) (errs : List (Nat × Ecc)) (d : Dev) : Dev :=
  let d1 := ((d.put (HDn_POSITION_LINE h) (min n 16383)).onHead h (fun u => { u with lineBegun := true })).edges h
    (d.get (HDn_POSITION_FRAME h)) n
  if (d1.head h).inFrame then d1.activeLine h n planes maps errs
  else if (d1.head h).queue.head?.any d1.entryDue then d1.idleEnd h else d1

/-! ### The parts of a commit point (R13, R264 to R268, R280 to R286) -/

/-- The picture of the frame ends, aborted at line `n` or complete: its mark, the fabric's counts, the stall copy, the margin. -/
def Dev.frameEnds (h : Nat) (abort : Option Nat) (d : Dev) : Dev :=
  let f := d.get (HDn_POSITION_FRAME h)
  match d.headState h with
  | 4 => d.frameMark h (if abort.isSome then 4 else 1) f (abort.getD 0)
  | _ =>
    let d1 := match abort with
      | some n => (d.frameMark h 4 f n).fabricAbort h n
      | none => d.frameMark h 1 f 0
    let d2 := d1.fabricFrameEnd h f abort.isNone
    let same := d2.get (STh_TILESIG_CHANGED_V h) == 0
    let d3 := if same then d2 else (d2.putB (HDn_STALL_STATUS_VALID h) false).onHead h (fun u => { u with stallTry := true })
    let u := d3.head h
    let d4 :=
      if !u.stallMaking then d3
      else if u.stallFit && same && abort.isNone && d3.flag (HDn_STALL_CTRL_ENABLE h) then
        ((((d3.putB (HDn_STALL_STATUS_VALID h) true).putB (HDn_STALL_STATUS_NOFIT h) false).put (HDn_STALL_STATUS_USED_KIB h)
          (ceilDiv u.stallPos 1024)).put (HDn_STALL_STATUS_FRAME h) f).onHead h (fun u => { u with stallMaking := false })
      else
        let s := if u.stallFit then d3 else (d3.ceCount 9 1).raiseAt CE_EVT_STATUS CE_EVT_ENABLE clsDma 0xFF 1
        (s.putB (HDn_STALL_STATUS_NOFIT h) (!u.stallFit)).onHead h (fun u => { u with stallMaking := false, stallTry := false })
    match abort, u.margin with
    | none, some m => d4.putI (LLh_MARGIN_NS_V h) (clampI (-2147483648) 2147483647 m)
    | _, _ => d4

/-- Step 1 of R13: a set sealed in time is refused under R271 or applies; a re-gait begins, but for a head that stops, whose changed links
re-lunge (R264). -/
def Dev.rasterCommitSet (h : Nat) (early : Bool) (d : Dev) : Dev :=
  if !(early && d.flag (HDn_SHADOW_STATE_V h)) then d
  else if d.get (HDn_GAIT_HPLL_KHZ_V h) ≠ d.hpllKhz h ∧ d.hpllShared h = true then
    (d.ack h false 3 (d.head h).nextFrame).put (HDn_SHADOW_STATE_V h) 0
  else
    let d1 := (d.applyWords h).rasterApplied h d
    let regait := d.gaitKey h != d1.gaitKey h
    let d2 := (d1.ack h false (if regait then 2 else 1) (d.head h).nextFrame).put (HDn_SHADOW_STATE_V h) 0
    if !regait then d2
    else if d2.headState h = 2 then foldS (d.linksChanged d1 h) Dev.relunge d2
    else if d2.headState h = 1 ∨ d2.headState h = 3 then d2.regaitStart h (d.linksChanged d1 h)
    else d2

/-- R286: one record enters the FIFO; the oldest is lost when it is full. -/
def Dev.recordPush (h : Nat) (r : FrameRec) (d : Dev) : Dev :=
  let l := (d.head h).records
  let d1 := if 16 ≤ l.length then d.inc (HDn_REC_STATUS_LOST h) else d
  let l1 := (if 16 ≤ l.length then l.drop 1 else l) ++ [r]
  (d1.onHead h (fun u => { u with records := l1 })).put (HDn_REC_STATUS_LEVEL h) l1.length

/-- R281: is head `h` static at this commit point? -/
def Dev.isStatic (d : Dev) (h : Nat) : Bool :=
  d.appB (HDn_GAIT_IDLE_ENABLE h) && d.appB (STh_TILESIG_CTRL_V h) && decide (d.app (HDn_GAIT_IDLE_STATIC_FRAMES h) ≤ (d.fab h).staticRun)

/-- The rest of step 1: the band and the table of the next frame, the dither phase, idle, the stall copy to make, the record of
the frame that ends, the blanking's length, and the edges of line VACTIVE. `ext` is the number of active lines that an abort leaves
out: the next frame starts when it would have without it, and under frame lock at the next aligned instant (R280). -/
def Dev.frameClosed (h : Nat) (abort : Option Nat) (ext : Nat) (d : Dev) : Dev :=
  let u := d.head h
  let running := d.headState h == 1 || d.headState h == 4
  let static := d.isStatic h && running
  let flags := Nat.lor u.flags (b2n abort.isSome * 2 + b2n static * 4 + abort.getD 0 * 2 ^ 19)
  let f := d.get (HDn_POSITION_FRAME h)
  let d1 := (d.recordPush h { frame := f, time := u.startTime, flags := flags, tag := u.tag }).countDown h f
  let d2 := d1.onHead h (fun u => { u with flags := 0 })
  let d3 := (if d.headState h = 2 then d2.gammaCommit h else (d2.gammaCommit h).bandLatch h).putB (HDn_STATUS_IDLE h) static
  let d4 := if d.headState h = 4 then d3 else d3.ditherCommit h
  let make := static && d4.headState h == 1 && d4.flag (HDn_STALL_CTRL_ENABLE h) && !d4.flag (HDn_STALL_STATUS_VALID h) && u.stallTry
  let base := if static || decide (2 ≤ d4.shedLevel) || (d4.headState h == 4 && d4.appB (HDn_GAIT_IDLE_ENABLE h))
    then d4.app (HDn_GAIT_IDLE_IDLE_VTOTAL h) else d4.vtotal h
  let va := d4.vactive h
  let parked := d4.headState h == 3 && decide (d4.get (HDn_STATUS_SWITCH_STEP h) < 4)
  let aligns := abort.isSome && d4.flockOn h && !parked
  let d5 := d4.onHead h (fun u => { u with
    inFrame := false, lineBegun := true, stallMaking := make, blankAt := (d.tb 3).total, idleOver := false,
    lateLines := if abort.isSome && !aligns then ext else 0, frameLines := if parked then 0 else if aligns then 1 else base,
    flockWait := if aligns then d4.flockHold h (d4.linesNs h (base - va + ext)) else u.flockWait })
  let d6 := d5.put (HDn_POSITION_LINE h) va
  (if parked || d6.headState h == 2 then d6 else d6.edges h f va).cmdRelease h

/-- Step 3 of R13 and the end of the head, if it stops here. -/
def Dev.commitStop (h : Nat) (d : Dev) : Dev := if d.headState h = 2 then d.rasterStopped h else d

/-- What an underrun at line `n` counts (R280); `source` tells that the input was late (R162), which R504 does not count. -/
def Dev.underrunCounted (h : Nat) (source : Bool) (d : Dev) : Dev :=
  let d1 := d.inc (HDn_COUNTk_V h 1)
  let d2 := if d1.frameLocked h then d1.inc (LLh_UNDERRUN_COUNT_V h) else d1
  if source then d2 else d2.headDown h 1

/-- RECORD_POP: a write of HDn_REC_POP. -/
def recPopWrite (h v : Nat) (d : Dev) : Dev :=
  d.writeVia (HDn_REC_POP h) v (fun s => !s.isMip h) (fun s =>
    if bitOf v 0 then
      let l := (s.head h).records.drop 1
      (s.onHead h (fun u => { u with records := l })).put (HDn_REC_STATUS_LEVEL h) l.length
    else s)

/-- A write of HDn_STALL_CTRL (R283, R284). -/
def stallCtrlWrite (h v : Nat) (d : Dev) : Dev :=
  let first := bitsOf v 8 4
  let count := bitsOf v 0 5
  d.writeVia (HDn_STALL_CTRL h) v
    (fun s => !s.isMip h && decide (1 ≤ count ∧ first + count ≤ 16)
      && (!bitOf v 31 || allBelow count (fun k => s.get (SBn_OWNER_OWNER (first + k)) == 8 + h)))
    (fun s => if bitOf v 31 then s else (s.putB (HDn_STALL_STATUS_VALID h) false).onHead h (fun u => { u with stallMaking := false }))

/-! ### Per-head reset (R28, R30, R261, R269, R278) -/

/-- A per-head reset of raster head `h`. -/
def Dev.rasterReset (h : Nat) (d : Dev) : Dev :=
  let u := d.head h
  let d1 := if u.inFrame then (d.frameEnds h (some (d.nextLine h))).inc (HDn_COUNTk_V h 1) else d
  let d2 := (((((d1.setWord (HDn_STATUS h) 0).setWord (HDn_POSITION h) 0).put (HDn_FLOCK_ERROR_V h) 0).put (HDn_SHADOW_STATE_V h) 0).put
    (HDn_REC_STATUS_LEVEL h) 0).putB (HDn_STALL_STATUS_VALID h) false
  let d3 := ((d2.put (LLh_CTRL_STATE h) 0).put (HDn_Q_STATUS_SHOWING h) 0).put (HDn_CTRL_V h) 0
  let d4 := if d3.get (HDn_CMD_STATUS_STATE h) = 1 ∨ d3.get (HDn_CMD_STATUS_STATE h) = 2 then d3.put (HDn_CMD_STATUS_STATE h) 0 else d3
  let d5 := d4.onHead h (fun u => { u with
    scanSlot := none, scanLoose := none, lockOn := false, inFrame := false, lineBegun := false, nextFrame := 0, flags := 0, tag := 0, queue := [], showing := none,
    records := [], dropMark := false, pllFor := 0, pllTries := 0, frameLines := 0, lateLines := 0, idleOver := false, flockWait := none, flockTrim := 0, started := false, lungeWait := [], flockGood := 0,
    margin := none, gens := List.replicate 32 false, stallMaking := false, stallTry := true, stallExit := false, down := 0, cmd := [],
    stopCause := 0 })
  (((d5.revertWords h).fabricReset h).park h).subNow h

/-! ### The commands -/

/-- LINE_LOCK_ACQUIRE. -/
def execLineLockAcquire (h : Fin 8) (s : State) := s.on (lineLockAcquire h)
/-- HEAD_FRAME_START. -/
def execHeadFrameStart (h : Fin 8) (s : State) := s.on (headFrameStart h)
/-- HPLL_LOCK. -/
def execHpllLock (h : Fin 8) (s : State) := s.on (hpllLock h)
/-- HPLL_LOCK_TIMEOUT. -/
def execHpllLockTimeout (h : Fin 8) (s : State) := s.on (hpllLockTimeout h)
/-- REGAIT_LUNGE_TIMEOUT. -/
def execRegaitLungeTimeout (h : Fin 8) (s : State) := s.on (regaitLungeTimeout h)

end Sys2Proof.Machine
end

