-- ==== Sys2Proof/Machine/Mip.lean ====
section
/-! DEFINITION. Memory-in-pixel heads (chapter 08): the tile ledger's records, targets and waveforms, phase boundaries, the region
pusher, commons and balance, readback, waveform tables, the halter area. The phase boundary's commit point, with the marks that
fire on it, is in Commit.lean. -/
namespace Sys2Proof.Machine

/-! ### Records, tiles, targets (R290, R291, R295, R307) -/

/-- The counts of running, dirty and pending tiles (R307). -/
def Dev.mipCounts (h : Nat) (d : Dev) : Dev :=
  let l := d.mipTiles h
  ((d.put (HDn_MIP_ACTIVE_V h) (l.countP (fun i => d.recBit h i 15))).put (HDn_MIP_DIRTY_V h) (l.countP (fun i => d.recBit h i 18))).put
    (HDn_MIP_PENDING_V h) (l.countP (fun i => d.recBit h i 17))

/-- R295: the levels of a pixel's subpixels. -/
def Dev.levels (d : Dev) (h : Nat) (q : Px) : List Nat :=
  let shift := 2 ^ (16 - (d.mipM h + d.mipT h))
  let order := if d.app (STh_FORMAT_CTRL_ORDER h) = 1 then [q.c2, q.c1, q.c0] else [q.c0, q.c1, q.c2]
  (if d.mipS h = 1 then [q.c0] else order).map (· / shift)

/-- The bit reversal of `v` over `t` bits. -/
def bitRev (t v : Nat) : Nat := (List.range t).foldl (fun a k => 2 * a + v / 2 ^ k % 2) 0

/-- R295: the stored value of level `l` in sub-frame `s`. -/
def storedValue (m t s l : Nat) : Nat :=
  let q := l / 2 ^ t
  min (2 ^ m - 1) (if bitRev t (s % 2 ^ t) < l % 2 ^ t then q + 1 else q)

/-- The address of slot `x` of tile `i`'s target (R307). -/
def Dev.slotAddrOf (d : Dev) (h i x : Nat) : Nat := d.app (HDn_MIP_TARGET_BASE_V h) * 256 + 256 * i + 128 * x

/-- The levels that a slot holds, by S × pixel + subpixel. -/
def Dev.target (d : Dev) (h i x : Nat) : List Nat :=
  let dep := d.mipM h + d.mipT h
  let v := d.dpNum (d.slotAddrOf h i x) 128
  (List.range (64 * d.mipS h)).map (fun k => bitsOf v (k * dep) dep)

/-- The slot of the pushed target. -/
def Dev.slotNow (d : Dev) (h i : Nat) : Nat := d.recGet h i 14 1

/-- The common of tile `i` (R318). -/
def Dev.tileCom (d : Dev) (h i : Nat) : Option Nat :=
  let row := 8 * (i / d.tileCols h)
  (d.coms h).find? (fun c => decide (d.get (COMc_ROWS_FIRST c) ≤ row ∧ row ≤ d.get (COMc_ROWS_LAST c)))

/-- The stage that holds the waveform tables, and where (R302). -/
def Dev.waveBase (d : Dev) (h : Nat) : Nat := match d.stage h 13 with
  | some e => d.lmBase h e
  | none => 0

/-- Step `k` of waveform `w` for band `n` in buffer `b` (R302). -/
def Dev.waveWord (d : Dev) (h b n w k : Nat) : Nat :=
  if k < 32 then d.loadN (d.waveBase h + b * 32768 + n * 4096 + w * 128 + k * 4) 4 else 0

/-- The fields of a step. -/
def stepPresent (w : Nat) : Bool := bitOf w 31
def stepKind (w : Nat) : Nat := bitsOf w 29 2
def stepPlane (w : Nat) : Nat := bitsOf w 27 2
def stepSafe (w : Nat) : Bool := bitOf w 26
def stepDur (w : Nat) : Nat := w % 256

/-- The steps of a waveform. -/
def Dev.waveSteps (d : Dev) (h b n w : Nat) : List Nat :=
  ((List.range 32).map (d.waveWord h b n w)).takeWhile stepPresent

/-- The step in progress of tile `i`, and those after it. -/
def Dev.stepsFrom (d : Dev) (h i : Nat) : List Nat :=
  (d.waveSteps h (d.recGet h i 12 1) (d.recGet h i 19 3) (d.recGet h i 27 5)).drop (d.recGet h i 22 5)

/-! ### Becoming STOPPED (R298, R431) -/

/-- The BALANCE of common `c` becomes 0. -/
def Dev.balanceZero (c : Nat) (d : Dev) : Dev :=
  (d.put (COMc_BALANCE_V c) 0).onHarn (fun u => { u with opened := updAt u.opened c (fun _ => none) })

/-- MIP head `h` becomes STOPPED. -/
def Dev.mipStopped (h : Nat) (d : Dev) : Dev :=
  let cause := (d.head h).stopCause
  let d1 := foldS (d.shareTiles h) (fun i s => s.recPut h i [(15, 1, 0), (18, 1, 0), (17, 1, 0), (16, 1, 0)]) (d.put (HDn_STATUS_STATE h) 0)
  let d2 := foldS (d.mip h).zeroComs Dev.balanceZero d1
  let d3 := (d2.onHead h (fun u => { u with stopCause := 0, scanSlot := none })).onMip h (fun u => { u with
    runs := [], zeroComs := [], passReq := false, rbAwait := [] })
  let d4 := ((d3.put (HDn_MIP_STATUS_PASS_BUSY h) 0).put (HDn_MIP_STATUS_FULL_PENDING h) 0).put (HDn_MIP_RB_STATUS_ACTIVE h) 0
  let d5 := d4.restSet h
  let d6 := (d5.mipCounts h).subNow h
  if cause = 0 then d6 else d6.rampDown h cause

/-- In STOPPING with no waveform left the head becomes STOPPED. -/
def Dev.mipMayStop (h : Nat) (d : Dev) : Dev := if d.headState h = 2 ∧ (d.mip h).runs = [] then d.mipStopped h else d

/-! ### RUN, refresh (R298, R299) -/

/-- Do row ranges, sorted by their first row, cover rows from `y` to `n` - 1 without overlap? -/
def rowsCover (n : Nat) : List (Nat × Nat) → Nat → Bool
  | [], y => decide (n ≤ y)
  | (a, b) :: r, y => a == y && decide (a ≤ b) && rowsCover n r (b + 1)

/-- R323: is the panel check of head `h` in place? -/
def Dev.panelCheck (d : Dev) (h : Nat) : Bool :=
  let loop := anyBelow 4 (fun g => d.girthOn g && d.girthHead g == h)
  loop || (decide (d.mipW h * d.mipH h ≤ 1048576) && d.appB (HDn_MIP_CHECK_READBACK h))

/-- R299: is RUN = 1 accepted for MIP head `h`? -/
def Dev.mipRunOk (d : Dev) (h : Nat) : Bool :=
  d.headState h != 5 && !d.cracked h && (d.headState h != 0 ||
    (d.startMode && rowsCover (d.mipH h) (((d.coms h).map (fun c => (d.get (COMc_ROWS_FIRST c), d.get (COMc_ROWS_LAST c)))).mergeSort (fun a b => decide (a.1 ≤ b.1))) 0
      && d.coms h != [] && d.panelCheck h))

/-- RUN written to MIP head `h` (R298). While a closing kick runs the head stays in STOPPING (R321). -/
def Dev.mipRun (h : Nat) (on : Bool) (d : Dev) : Dev :=
  match d.headState h, on with
  | 0, true => (d.put (HDn_STATUS_STATE h) 1).fullPush h
  | 1, false => (d.put (HDn_STATUS_STATE h) 2).mipMayStop h
  | 2, true => if (d.mip h).runs.any (·.cut) then d else d.put (HDn_STATUS_STATE h) 1
  | _, _ => d

/-- A write of HDn_CTRL: RUN of a head of either class (R261, R298). -/
def headCtrlWrite (h v : Nat) (d : Dev) : Dev :=
  d.writeVia (HDn_CTRL h) v
    (fun s => !bitOf v 0 || (s.headPresent h && (if s.isMip h then s.mipRunOk h else s.rasterRunOk h)))
    (fun s => if s.isMip h then s.mipRun h (bitOf v 0) else s.rasterRun h (bitOf v 0))

/-- A MIP head stops for a cause of the device; its panel then ramps down with OFF_CAUSE `cause` (0: it does not). -/
def Dev.mipHalt (h cause : Nat) (d : Dev) : Dev :=
  if d.headState h = 0 then (if cause = 0 then d else d.rampDown h cause)
  else
    let d1 := d.onHead h (fun u => { u with stopCause := if cause = 0 then u.stopCause else cause })
    if d1.headState h = 1 then d1.mipRun h false else d1

/-- A write of HDn_MIP_REFRESH_GO (R299). -/
def refreshGoWrite (h v : Nat) (d : Dev) : Dev :=
  d.writeVia (HDn_MIP_REFRESH_GO h) v (fun s => !s.isRaster h) (fun s =>
    if !bitOf v 0 || !s.isMip h then s
    else
      let x := s.get (HDn_MIP_REFRESH_POS_X h)
      let y := s.get (HDn_MIP_REFRESH_POS_Y h)
      let w := s.get (HDn_MIP_REFRESH_SIZE_W h)
      let k := s.get (HDn_MIP_REFRESH_SIZE_H h)
      let n := s.tileCols h
      let right := min (x + w) (s.mipW h)
      let low := min (y + k) (s.mipH h)
      let meets (i : Nat) : Bool := decide (x < right ∧ y < low ∧ 8 * (i % n) < right ∧ x < 8 * (i % n) + 8 ∧ 8 * (i / n) < low ∧ y < 8 * (i / n) + 8)
      let panel (i : Nat) : Bool := decide (i < tilesOf (s.mipW h) (s.mipH h))
      (s.fullTiles h (fun i => panel i && (w == 0 || k == 0 || meets i))).inc (HDn_MIP_COUNTk_V h 15))

/-! ### The commit check (R301) -/

/-- The waveforms of the shadow set are present in every band of its buffer, write every plane and keep their lengths. -/
def Dev.wavesOk (d : Dev) (h : Nat) : Bool :=
  let b := d.get (HDn_MIP_CTRL_WT_SEL h)
  let freq := d.get (HDn_MIP_CTRL_FREQ h)
  let m := d.get (HDn_MIP_PANEL_MEMBITS h)
  let total (l : List Nat) : Nat := (l.map stepDur).foldl (· + ·) 0
  let ok (temporal : Bool) (w : Nat) : Bool := allBelow 8 (fun n =>
    let l := d.waveSteps h b n w
    l != [] && allBelow m (fun p => l.any (fun s => stepKind s == 1 && stepPlane s == p)) && decide (16 * total l ≤ freq)
      && (!temporal || d.get (HDn_MIP_PANEL_TEMPBITS h) == 0 || decide (total l ≤ 2)))
  bitOf (d.get MIP_WT_STATUS_VALID) (2 * h + b) && ok false (d.get (HDn_MIP_WSEL_FIRST h)) && ok false (d.get (HDn_MIP_WSEL_LARGE h))
    && ok false (d.get (HDn_MIP_WSEL_SMALL h)) && ok true (d.get (HDn_MIP_WSEL_TEMPORAL h))

/-- R301: the rules of a MIP head's shadow set. -/
def Dev.mipSetOk (d : Dev) (h : Nat) : Bool :=
  let w := d.get (HDn_MIP_PANEL_WIDTH h)
  let v := d.get (HDn_MIP_PANEL_HEIGHT h)
  let m := d.get (HDn_MIP_PANEL_MEMBITS h)
  let t := d.get (HDn_MIP_PANEL_TEMPBITS h)
  let s := if d.flag (HDn_MIP_PANEL_MONO h) then 1 else 3
  let freq := d.get (HDn_MIP_CTRL_FREQ h)
  let rb := d.flag (HDn_MIP_CHECK_READBACK h)
  let line := if d.has h 1 then 8 * lineBlocks w (d.get (STh_UNPACK_QFORMAT h)) else 8 * w
  let load := v * ceilDiv w 8 * (2 + ceilDiv (8 * s) 64) + 1 + (if rb then d.get (HDn_MIP_CHECK_RB_ROWS h) * m else 0)
  decide (1 ≤ m ∧ m ≤ 3) && decide (t ≤ 2) && (d.headState h == 0 || d.word (HDn_MIP_PANEL h) == d.appWord (HDn_MIP_PANEL h))
    && decide (tilesOf w v ≤ d.get (TACK_LEDGERn_UNITS h) * 64) && decide (8 ≤ freq ∧ freq ≤ 1920) && d.wavesOk h
    && ((d.head h).sect.source != 16
        || decide (d.get (HDn_MIP_PIC_BASE_V h) * 256 + (v - 1) * d.get (HDn_MIP_PIC_STRIDE_V h) * 64 + line ≤ dramEnd))
    && decide (d.get (HDn_MIP_TARGET_BASE_V h) * 256 + 256 * tilesOf w v ≤ dramEnd)
    && (!rb || decide (w * v ≤ 1048576)) && (!d.has h 11 || d.get (STh_HT_CTRL_DEPTH h) == m + t)
    && decide (load ≤ d.capAt h freq) && d.scaleSetOk h w v && d.correctionSetOk h w v

/-! ### Starts (R304, R306, R309 to R312, R320) -/

/-- How long BALANCE of common `c` has been nonzero, in ms (R319). -/
def Dev.openMs (d : Dev) (c : Nat) : Nat := match nth none d.harn.opened c with
  | some t => ((d.tb 3).total - t) / 1000000
  | none => 0

/-- R320: are starts under common `c` held? -/
def Dev.delayed (d : Dev) (c : Nat) : Bool := decide (1500 ≤ d.openMs c)

/-- A start or restart under common `c` is held. -/
def Dev.startHeld (h c : Nat) (d : Dev) : Dev :=
  (((d.inc (COMc_DELAY_COUNT_V c)).put (HDn_MIP_STATUS_BALANCE_DELAY h) 1).inc (HDn_MIP_COUNTk_V h 7)).onMip h (fun u => { u with
    heldComs := if u.heldComs.contains c then u.heldComs else c :: u.heldComs })

/-- Inserts or replaces a tile's run. -/
def putRun (r : TileRun) : List TileRun → List TileRun
  | [] => [r]
  | x :: l => if r.tile < x.tile then r :: x :: l else if r.tile = x.tile then r :: l else x :: putRun r l

/-- R306: the waveform of a start of tile `i` toward the target in its other slot; `whole` is false for a restart at a safe point
that is not complete. -/
def Dev.startWaveform (d : Dev) (h i : Nat) (whole : Bool) : Nat :=
  let x := d.slotNow h i
  let small := ((d.target h i x).zip (d.target h i (1 - x))).all (fun p => decide (p.1 ≤ p.2 + 2 ^ d.mipT h ∧ p.2 ≤ p.1 + 2 ^ d.mipT h))
  if !whole then d.app (HDn_MIP_WSEL_LARGE h)
  else if d.recBit h i 13 then d.app (HDn_MIP_WSEL_FIRST h)
  else if small then d.app (HDn_MIP_WSEL_SMALL h) else d.app (HDn_MIP_WSEL_LARGE h)

/-- Waveform `w` starts on tile `i` (R304): band and buffer are latched. -/
def Dev.waveStart (h i w : Nat) (d : Dev) : Dev :=
  let band := d.get (BANDh_STATUS_TRACKER h)
  let b := d.app (HDn_MIP_CTRL_WT_SEL h)
  let d1 := d.recPut h i [(27, 5, w), (22, 5, 0), (19, 3, band), (15, 1, 1), (12, 1, b), (0, 8, 0)]
  let run : TileRun := { tile := i, left := max 1 (stepDur (d.waveWord h b band w 0)) }
  let d2 := d1.onMip h (fun u => { u with runs := putRun run u.runs })
  (d2.inc (HDn_MIP_COUNTk_V h 2)).inc (HDn_MIP_BANDb_COUNT_V h band)

/-- A start toward the target that waits: from Dirty, or from Pending at a safe point (R307, R309). -/
def Dev.targetStart (h i : Nat) (whole : Bool) (d : Dev) : Dev :=
  let w := d.startWaveform h i whole
  let full := whole && d.recBit h i 13
  let d1 := d.recPut h i ([(48, 16, d.recGet h i 32 16), (14, 1, 1 - d.slotNow h i), (18, 1, 0), (17, 1, 0), (16, 1, 0)]
    ++ (if full then [(13, 1, 0)] else []))
  d1.waveStart h i w

/-- R312: no waveform of head `h` starts or restarts. -/
def Dev.noStarts (d : Dev) (h : Nat) : Bool :=
  d.headState h != 1 || d.rungHolds || (d.mode == 5 && d.get TACK_RT_STATUS_HEAD == h && d.get TACK_RT_STATUS_STATE == 4)

/-- R311: does a stored value of tile `i` differ between sub-frames `s` - 1 and `s`? -/
def Dev.temporalDiffers (d : Dev) (h i s : Nat) : Bool :=
  (d.target h i (d.slotNow h i)).any (fun l =>
    storedValue (d.mipM h) (d.mipT h) s l != storedValue (d.mipM h) (d.mipT h) (s + 65535) l)

/-- A start of tile `i`, unless balance holds it. -/
def Dev.startOrHold (h i : Nat) (start : Dev → Dev) (d : Dev) : Dev :=
  match d.tileCom h i with
  | some c => if d.delayed c then d.startHeld h c else start d
  | none => start d

/-- Action 4 of R297. -/
def Dev.admitStarts (h : Nat) (commit : Bool) (d : Dev) : Dev :=
  if d.noStarts h then d
  else
    let d1 := foldS (d.mipTiles h) (fun i s =>
      if s.recBit h i 18 && !s.recBit h i 15 then s.startOrHold h i (Dev.targetStart h i true) else s) d
    if commit && d.mipT h != 0 then
      foldS (d.mipTiles h) (fun i s =>
        if !s.recBit h i 15 && !s.recBit h i 18 && !s.recBit h i 13 && s.temporalDiffers h i (s.get (HDn_POSITION_FRAME h)) then
          s.startOrHold h i (Dev.waveStart h i (s.app (HDn_MIP_WSEL_TEMPORAL h)))
        else s) d1
    else d1

/-! ### The end of a half-period (R297 actions 2 and 3, R305, R309, R319) -/

/-- BALANCE of common `c` changes by `k` (R319). -/
def Dev.balanceAdd (c : Nat) (k : Int) (d : Dev) : Dev :=
  if k = 0 then d
  else
    let old := d.getI (COMc_BALANCE_V c)
    let d1 := d.putI (COMc_BALANCE_V c) (old + k)
    if old = 0 then d1.onHarn (fun u => { u with opened := updAt u.opened c (fun _ => some (d.tb 3).total) })
    else if old + k = 0 then
      (d1.put (COMc_MAX_OPEN_MS_V c) (max (d.get (COMc_MAX_OPEN_MS_V c)) (d.openMs c))).onHarn (fun u => { u with opened := updAt u.opened c (fun _ => none) })
    else d1

/-- Action 2: the balance trackers account for the half-period that has ended. -/
def Dev.accountKicks (h : Nat) (d : Dev) : Dev :=
  let kicks := (d.mip h).runs.map (fun r => (d.tileCom h r.tile, r.kick))
  let d1 := d.onMip h (fun u => { u with runs := u.runs.map (fun r => { r with kicks := r.kicks + r.kick, kick := 0 }) })
  let d2 := foldS (d.coms h) (fun c s => s.balanceAdd c ((kicks.filter (fun p => p.1 == some c)).foldl (fun a p => a + p.2) 0)) d1
  foldS (d.coms h) (fun c s => s.putB (COMc_STATUS_DELAYING c) (s.delayed c)) d2

/-- Removes a tile's run; the record says so. -/
def Dev.runEnds (h i : Nat) (d : Dev) : Dev :=
  (d.recPut h i [(15, 1, 0), (0, 8, 0)]).onMip h (fun u => { u with runs := u.runs.filter (fun r => r.tile != i) })

/-- Tile `i`'s run ends, at a safe point in STOPPING (R298) or with its waveform; a target that still waits becomes Dirty. -/
def Dev.waveStops (h i : Nat) (d : Dev) : Dev :=
  let d1 := d.runEnds h i
  if d1.recBit h i 17 then d1.recPut h i [(18, 1, 1), (17, 1, 0), (16, 1, 0)] else d1

/-- A step ends, with the steps `rest` after it: after the last one the waveform is complete, and counted (R304, R328). -/
def Dev.stepOver (h : Nat) (rest : List Nat) (d : Dev) : Dev := if rest = [] then d.inc (HDn_MIP_COUNTk_V h 3) else d

/-- R309: tile `i` restarts toward its pending target, unless balance holds it (R320). -/
def Dev.restart (h i : Nat) (whole : Bool) (d : Dev) : Dev :=
  match d.tileCom h i with
  | some c =>
    if d.delayed c then
      (d.startHeld h c).onMip h (fun u => { u with runs := u.runs.map (fun r => if r.tile = i then { r with held := true, whole := whole } else r) })
    else go
  | none => go
where
  /-- The restart itself. -/
  go : Dev := (d.targetStart h i whole).inc (HDn_MIP_COUNTk_V h (if d.recBit h i 16 then 5 else 4))

/-- Action 3 for one run. A held restart waits at its safe point (R320) as long as its target waits and restarts are allowed; where
the target is dropped, or no waveform may restart, the waveform goes on with its remaining steps. The step in progress has been
counted when its end was reached. -/
def Dev.runStep (h : Nat) (r : TileRun) (d : Dev) : Dev :=
  let i := r.tile
  let stopping := decide (d.headState h = 2)
  let set (x : TileRun) (s : Dev) : Dev := s.onMip h (fun u => { u with runs := putRun x u.runs })
  let next (rest : List Nat) (s : Dev) : Dev := match rest with
    | x :: _ => set { r with left := max 1 (stepDur x), first := true, held := false } (s.recPut h i [(22, 5, s.recGet h i 22 5 + 1)])
    | [] => s.waveStops h i
  if r.cut then
    if r.closing = 0 then d.onMip h (fun u => { u with runs := u.runs.filter (fun x => x.tile != i) }) else d
  else if r.held then
    if stopping then d.waveStops h i
    else if d.recBit h i 17 && !d.noStarts h then d.restart h i r.whole
    else next ((d.stepsFrom h i).drop 1) d
  else if 1 < r.left then set { r with left := r.left - 1, first := false } d
  else match d.stepsFrom h i with
    | w :: rest =>
      let whole := rest.all (fun x => stepKind x != 1)
      let safe := stepSafe w || rest == []
      let s := d.stepOver h rest
      if stopping && safe then s.waveStops h i
      else if safe && s.recBit h i 17 && (s.recBit h i 16 || whole) && !s.noStarts h then s.restart h i whole
      else next rest s
    | [] => d.waveStops h i

/-- Action 3: steps that end here end. -/
def Dev.stepsEnd (h : Nat) (d : Dev) : Dev := (d.mip h).runs.foldl (fun s r => s.runStep h r) d

/-! ### The region pusher (R313, R314) -/

/-- What the pusher sends for a run in this half-period: OP and plane. -/
def Dev.runAction (d : Dev) (h : Nat) (r : TileRun) : Option (Nat × Nat) :=
  if r.cut then (if r.closing = 0 then none else some (if r.kicks < 0 then 1 else 2, 0))
  else if r.held then none
  else match d.stepsFrom h r.tile with
    | w :: _ => match stepKind w with
      | 1 => if r.first then some (0, stepPlane w) else none
      | 2 => some (1, 0)
      | 3 => some (2, 0)
      | _ => none
    | [] => none

/-- Merges neighbours of one tile row with the same action: (first tile, last tile, OP, plane). -/
def mergeRuns : List (Nat × Nat × Nat) → List (Nat × Nat × Nat × Nat)
  | [] => []
  | (i, op, p) :: r => match mergeRuns r with
    | (a, b, op', p') :: l => if a = i + 1 ∧ op = op' ∧ p = p' then (i, b, op, p) :: l else (i, i, op, p) :: (a, b, op', p') :: l
    | [] => [(i, i, op, p)]

/-- A REGION block (R314). -/
def regionBlock (op plane row first count : Nat) : List Byte :=
  ctrlBytes [(1, 0xAA), (1, op + 8 * plane), (2, row), (2, first), (2, count)]

/-- Bit `plane` of the subpixels of row `row` of tile `i`, columns within the panel, from the target in TARGET_SLOT. -/
def Dev.rowBits (d : Dev) (h i row plane : Nat) : List Nat :=
  let s := d.mipS h
  let t := d.target h i (d.slotNow h i)
  let cols := min 8 (d.mipW h - 8 * (i % d.tileCols h))
  ((t.drop (row % 8 * 8 * s)).take (cols * s)).map (fun l =>
    storedValue (d.mipM h) (d.mipT h) (d.get (HDn_POSITION_FRAME h)) l / 2 ^ plane % 2)

/-- One command of the pusher for row `row`, with its number of blocks. -/
def Dev.pushCommand (d : Dev) (h row : Nat) (m : Nat × Nat × Nat × Nat) : List RBlock × Nat :=
  let (a, b, op, plane) := m
  let first := 8 * (a % d.tileCols h)
  let count := min (d.mipW h) (8 * (b % d.tileCols h) + 8) - first
  let head := regionBlock op plane row first count
  if op = 0 then
    let n := ceilDiv (count * d.mipS h) 64
    let data := leBytes (8 * n) (packBits 1 (((List.range (b + 1 - a)).map (· + a)).flatMap (fun i => d.rowBits h i row plane)))
    (⟨true, head⟩ :: dataBlocks data ++ ctrlBlock [(1, 0x55), (1, 0), (2, crc16 (head.drop 1 ++ data)), (2, row), (2, 0)], 2 + n)
  else ([⟨true, head⟩], 1)

/-- Sends a command on the head's links; a link that is down discards it (R317). -/
def Dev.mipSend (h : Nat) (blocks : List RBlock) (d : Dev) : Dev :=
  foldS (d.headLinks h) (fun j s => if s.linkUp j then s.linkStream j blocks
    else (s.inc (HDn_COUNTk_V h 5)).inc (HDn_MIP_COUNTk_V h 13)) d

/-- The PHASE mark (R314). -/
def Dev.phaseMark (h : Nat) (d : Dev) : Dev :=
  let levels := (d.coms h).foldl (fun a c => a + (if d.flag (COMc_STATUS_LEVEL c) then 2 ^ c else 0)) 0
  d.sendUpLinks h (ctrlBlock [(1, 0x66), (1, 5), (2, d.get (HDn_POSITION_FRAME h)), (1, levels), (1, (d.mip h).phase), (2, 0)])

/-- Does readback run on head `h` (R322)? -/
def Dev.readbackOn (d : Dev) (h : Nat) : Bool :=
  d.appB (HDn_MIP_CHECK_READBACK h) && !d.flag (HDn_MIP_RB_STATUS_FAIL h) && !d.flag (HDn_MIP_RB_STATUS_UNSUPPORTED h)

/-- Readback requests of phase 1. -/
def Dev.readback (h : Nat) (d : Dev) : Dev :=
  if !d.readbackOn h then d.put (HDn_MIP_RB_STATUS_ACTIVE h) 0
  else
    let n := d.app (HDn_MIP_CHECK_RB_ROWS h)
    let row0 := d.get (HDn_MIP_RB_STATUS_ROW h)
    let rows := (List.range n).map (fun k => (row0 + k) % max 1 (d.mipH h))
    let d1 := foldS rows (fun y s => foldS (List.range (s.mipM h)) (fun p t =>
      (t.mipSend h [⟨true, regionBlock 3 p y 0 (t.mipW h)⟩]).onMip h (fun u => { u with rbAwait := u.rbAwait ++ [(y, p)] })) s) d
    ((d1.put (HDn_MIP_RB_STATUS_ACTIVE h) 1).put (HDn_MIP_RB_STATUS_ROW h) ((row0 + n) % max 1 (d.mipH h))).addSat (HDn_MIP_COUNTk_V h 10) n

/-- The loads of head `h` in the last second (R313). -/
def Dev.loadsNow (d : Dev) (h : Nat) : List (Nat × Nat) := (d.mip h).loads.filter (fun p => decide ((d.tb 3).total < p.1 + 1000000000))

/-- `n` blocks have been sent in this half-period on the links of head `h` that are up. -/
def Dev.noteLoad (h n : Nat) (d : Dev) : Dev :=
  let sent := if (d.headLinks h).any d.linkUp then n else 0
  d.onMip h (fun u => { u with loads := ((d.tb 3).total, sent) :: d.loadsNow h })

/-- HDn_MIP_PUSH_LOAD: the highest load of the last second (R313). -/
def Dev.pushLoad (d : Dev) (h : Nat) : Nat := ((d.loadsNow h).map Prod.snd).foldl max 0

/-- The kicks that the pusher sends in this half-period, as the runs keep them until its end. -/
def Dev.kicksSent (h : Nat) (d : Dev) : Dev :=
  d.onMip h (fun u => { u with runs := u.runs.map (fun r => match d.runAction h r with
    | some (1, _) => { r with kick := 1, closing := r.closing - 1 }
    | some (2, _) => { r with kick := -1, closing := r.closing - 1 }
    | _ => r) })

/-- The readback requests of a half-period, and how many blocks they are. -/
def Dev.readbackDue (h : Nat) (d : Dev) : Nat × Dev :=
  if (d.mip h).phase = 1 then
    let d1 := d.readback h
    (if d1.readbackOn h then d1.app (HDn_MIP_CHECK_RB_ROWS h) * d1.mipM h else 0, d1)
  else (0, d)

/-- The half-period's blocks of a STOPPED head whose commons run (R298, R322). -/
def Dev.pushIdle (h : Nat) (d : Dev) : Dev :=
  let d1 := d.phaseMark h
  let (reads, d2) := if d1.headState h = 0 then d1.readbackDue h else (0, d1)
  d2.noteLoad h (1 + reads)

/-- Action 5 of R297: the half-period's blocks. -/
def Dev.push (h : Nat) (d : Dev) : Dev :=
  let acts := (d.mip h).runs.filterMap (fun r => (d.runAction h r).map (fun a => (r.tile, a)))
  let cols := d.tileCols h
  let rowsOf := ((acts.map (fun p => p.1 / cols)).dedup.mergeSort).flatMap (fun ty =>
    let ms := mergeRuns (acts.filter (fun p => p.1 / cols == ty))
    ((List.range 8).map (· + 8 * ty)).filterMap (fun y => if y < d.mipH h then some (y, ms) else none))
  let cmds (writes : Bool) := rowsOf.flatMap (fun (y, ms) => (ms.filter (fun m => (m.2.2.1 == 0) == writes)).map (d.pushCommand h y))
  let kicks := cmds false
  let writes := cmds true
  let d1 := (kicks ++ writes).foldl (fun s c => s.mipSend h c.1) (d.phaseMark h)
  let d2 := (d1.addSat (HDn_MIP_COUNTk_V h 9) kicks.length).addSat (HDn_MIP_COUNTk_V h 8) writes.length
  let (reads, d3) := d2.readbackDue h
  (d3.kicksSent h).noteLoad h (((kicks ++ writes).map Prod.snd).foldl (· + ·) (1 + reads))

/-! ### Passes (R300, R307) -/

/-- The stored frame that a pass would read: stream, slot, frame. -/
def Dev.newestFrame (d : Dev) (h : Nat) : Option (Nat × Nat × Nat) :=
  let n := (d.head h).sect.source
  if n < 4 then (d.stream n).done.head?.map (fun s => (n, s, nth 0 (d.stream n).slotFrame s)) else none

/-- Action 6 of R297: a pass begins if R300 calls for one; `applied` tells that a set applied here. -/
def Dev.passBegin (h : Nat) (applied : Bool) (d : Dev) : Dev :=
  let newer := (d.newestFrame h).isSome && d.newestFrame h != (d.mip h).passSlot
  if d.flag (HDn_MIP_STATUS_PASS_BUSY h) || d.rungHolds then (if applied then d.onMip h (fun u => { u with passReq := true }) else d)
  else if applied || d.appB (HDn_MIP_CTRL_CONTINUOUS h) || (d.mip h).passReq || newer then
    let d1 := (((d.pictureStart h).put (HDn_MIP_STATUS_PASS_BUSY h) 1).put (HDn_MIP_STATUS_FULL_PENDING h) 0).onHead h (fun u => { u with
      scanSlot := (d.newestFrame h).map (fun p => (p.1, p.2.1)) })
    d1.onMip h (fun u => { u with passReq := false, passAt := (d.tb 3).total, passSub := d.get (HDn_POSITION_FRAME h), passSlot := d.newestFrame h })
  else d

/-- R307 for tile `i`, at tile (tx, ty) of TILESIG's raster, with signature `s` and levels `l`; a signature that changed is counted
(R198). A tile of that raster beyond the panel's last has no levels, and no target is written (DEDUCED, assumption 107). -/
def Dev.tileSigned (h i tx ty s : Nat) (l : Option (List Nat)) (d0 : Dev) : Dev :=
  let changed := decide (d0.recGet h i 48 16 ≠ s)
  let d := if changed then d0.onFab h (fun u => { u with changed := u.changed + 1 }) else d0
  let differs := changed || d.recBit h i 13
  let dep := d.mipM h + d.mipT h
  let write (x : Dev) : Dev := match l with
    | some l => x.agentWrite (8 + h) (x.slotAddrOf h i (1 - x.slotNow h i)) (leBytes 128 (packBits dep l))
    | none => x
  if !d.recBit h i 15 then
    if differs then
      let d1 := (write d).recPut h i [(32, 16, s), (18, 1, 1)]
      (d1.inc (HDn_MIP_COUNTk_V h 1)).onFab h (fun u => { u with damage := growRect u.damage tx ty })
    else if d.recBit h i 18 then d.recPut h i [(18, 1, 0)] else d
  else if differs then (write d).recPut h i [(32, 16, s), (17, 1, 1), (16, 1, d.app (HDn_MIP_CTRL_SUPERSEDE h))]
  else if d.recBit h i 17 then (d.recPut h i [(17, 1, 0), (16, 1, 0)]).inc (HDn_MIP_COUNTk_V h 6)
  else d

/-- The units of the picture that a pass reads. -/
def Dev.passUnits (d : Dev) (h : Nat) : List Nat :=
  let v := (if d.has h 5 then (d.windowSize h).2 else d.mipH h)
  let planes := (List.range (d.rasterAt h (d.posOf h 6)).2).flatMap (d.planeLines h)
  planes.flatMap (d.planeUnits h) ++ (List.range v).flatMap (fun y => match (d.head h).scanSlot with
    | some (n, s) => unitsOf (d.slotLine n s y) (8 * lineBlocks (d.inWidth n) (d.inFormat n))
    | none =>
      let line := if d.has h 1 then 8 * lineBlocks (d.mipW h) (d.app (STh_UNPACK_QFORMAT h)) else 8 * d.mipW h
      if (d.head h).sect.source = 16 then
        unitsOf (d.app (HDn_MIP_PIC_BASE_V h) * 256 + y * d.app (HDn_MIP_PIC_STRIDE_V h) * 64) line
      else [])

/-- The records of head `h` that read uncorrectable (R431). -/
def Dev.lostTiles (d : Dev) (h : Nat) : List Nat := (d.mipTiles h).filter (d.recordLost h)

/-- Waveforms of head `h` stop at once (R321, R431): a tile whose kicks do not sum to 0 runs a closing kick, but for the tiles
`lost`. The kick sent in the present half-period lasts to its end (R315) and counts. -/
def Dev.wavesCut (h : Nat) (lost : List Nat) (d : Dev) : Dev :=
  let l := (d.mip h).runs
  let cut (r : TileRun) : TileRun :=
    if r.cut then (if lost.contains r.tile then { r with closing := 0 } else r)
    else { tile := r.tile, left := 1, kicks := r.kicks, kick := r.kick, cut := true,
           closing := if lost.contains r.tile then 0 else (r.kicks + r.kick).natAbs }
  let new := l.countP (fun r => !r.cut && (cut r).closing != 0)
  let d1 := foldS (l.map (·.tile)) (fun i s => s.recPut h i [(15, 1, 0), (0, 8, 0)]) d
  (d1.onMip h (fun u => { u with runs := (l.map cut).filter (fun r => r.closing != 0 || r.kick != 0) })).addSat
    (HDn_MIP_COUNTk_V h 14) new

/-- A per-head reset of MIP head `h` (R28, R298, R321), the tiles `lost` running no closing kick. -/
def Dev.mipReset (h : Nat) (lost : List Nat) (d : Dev) : Dev :=
  let st := d.headState h
  let d1 := (((d.put (HDn_SHADOW_STATE_V h) 0).put (HDn_CTRL_V h) 0).revertWords h).fabricReset h
  let d2 := d1.onHead h (fun u => { u with nextFrame := 0, down := 0, stopCause := 0, scanSlot := none })
  let d3 := (d2.setWord (HDn_POSITION h) 0).onMip h (fun u => { u with passReq := false, rbFails := 0, rbAwait := [] })
  let d4 := (((d3.put (HDn_MIP_STATUS_PASS_BUSY h) 0).put (HDn_MIP_STATUS_FULL_PENDING h) 0).wavesCut h lost).subNow h
  let zero := lost.filterMap (d.tileCom h)
  if st = 1 ∨ st = 2 then
    ((d4.onMip h (fun u => { u with zeroComs := u.zeroComs ++ zero })).put (HDn_STATUS_STATE h) 2).mipMayStop h
  else if st = 5 then d4.mipStopped h
  else d4

/-- R431: records that read uncorrectable are rewritten as 0 with Dirty and FULL, and a running head takes a per-head reset. -/
def Dev.lostRecords (h : Nat) (d : Dev) : Dev :=
  let lost := d.lostTiles h
  if lost = [] then d
  else
    let d1 := foldS lost (fun i s => s.setRecord h i (2 ^ 18 + 2 ^ 13)) d
    (d1.mipReset h lost).resetRest h

/-- R431: the ledger record at `a` reads uncorrectable: the consequence on its head, if one's share holds it. -/
def Dev.recordMended (a : Nat) (d : Dev) : Dev :=
  match (List.range 8).find? (fun h => d.headPresent h && d.inLedger h a) with
  | none => d.storeWhole a (leBytes 8 (2 ^ 18))
  | some h =>
    let i := (a - d.recordAddr h 0) / 8
    if !d.isMip h then d.recordRewritten h i
    else if (d.mipTiles h).contains i then d.lostRecords h
    else d.setRecord h i (2 ^ 18 + 2 ^ 13)

/-- R431 for every ledger record that a read has found uncorrectable. -/
def Dev.ledgerMended (d : Dev) : Dev := foldS (d.memu.poison.filter (fun u => regionOf u == .ledger)) Dev.recordMended d

/-- The head's whole picture goes through its stages, line by line (R300); overlay plane lines `planes` and the maps of tile rows `maps`
are late. -/
def Dev.passLines (h : Nat) (planes : List (Nat × Nat)) (maps : List Nat) (d : Dev) : Dev :=
  let d1 := foldS (List.range (d.mipH h)) (fun n s => (s.planesLate h (s.planesFor h n) planes).stagesLine h n maps) d
  let d2 := foldS (List.range (d.mipH h)) (fun n s => s.lineStatus h (picLine (d1.outPic h) (d.mipW h) n)) d1
  if d2.has h 8 then d2.put (STh_UNIF_READ_BYTES_V h) (d2.fab h).mapBytes else d2

/-- MIP_PASS_END: `errs` tells what reading the picture found. -/
def mipPassEnd (h : Nat) (planes : List (Nat × Nat)) (maps : List Nat) (errs : List (Nat × Ecc)) (d : Dev) : Dev :=
  if !(d.isMip h && d.flag (HDn_MIP_STATUS_PASS_BUSY h)) then d
  else
    let (bad, dr) := Dev.readUnits (8 + h) errs (d.passUnits h) d
    let d0 := ((if bad then dr.headDown h 3 else dr).lineMemRead h errs).passLines h planes maps
    let d1 := d0.lostRecords h
    if d1.headState h ≠ 1 ∧ d1.headState h ≠ 2 ∨ d1.flag (HDn_MIP_STATUS_PASS_BUSY h) = false then d1.put (HDn_MIP_STATUS_PASS_BUSY h) 0
    else
      let w := d1.mipW h
      let v := d1.mipH h
      let n := d1.tileCols h
      let (sw, sv) := d1.rasterAt h (d1.posOf h 12)
      let sn := (sw + 7) / 8
      let rows (j a b ty : Nat) := (List.range 8).map (fun k => if 8 * ty + k < b then picLine (d1.inputPic h j) a (8 * ty + k) else [])
      let d2 := d1.onFab h (fun u => { u with damage := none, changed := 0 })
      let wave := (List.range ((v + 7) / 8)).map (rows (d1.posOf h 13) w v)
      let d3 := foldS (List.range ((sv + 7) / 8)) (fun ty s =>
        let sig := rows (d1.posOf h 12) sw sv ty
        foldS (List.range sn) (fun tx t =>
          let i := ty * sn + tx
          if t.inShare h i then
            t.tileSigned h i tx ty (tileSignature sig tx)
              ((wave[i / n]?).map (fun r => (List.range 64).flatMap (fun k => t.levels h (rowPx r (i % n) k))))
          else t) s) d2
      let d4 := (((d3.setDamage h (d3.fab h).damage).put (STh_TILESIG_CHANGED_V h) (d3.fab h).changed).inc (HDn_MIP_COUNTk_V h 0)).put
        (HDn_MIP_STATUS_PASS_BUSY h) 0
      let d5 := (d4.put (HDn_MIP_LAST_PASS_V h) (d4.mip h).passSub).put (HDn_MIP_PASS_US_V h) (((d4.tb 3).total - (d4.mip h).passAt) / 1000)
      (d5.mipCounts h).onHead h (fun u => { u with scanSlot := none })

/-! ### Phase boundaries (R296, R297, R345, R486) -/

/-- The level of common `c` in a phase: true at VCOM_H. -/
def Dev.comHigh (d : Dev) (c phase : Nat) : Bool := (phase == 0) != d.flag (COMc_CTRL_PHASE c)

/-- The commons of head `h` take the levels of `phase`; calibration results of its bias outputs apply. -/
def Dev.comsSwitch (h phase : Nat) (d : Dev) : Dev :=
  let run := (d.coms h).filter (fun c => d.flag (COMc_STATUS_RUNNING c))
  let goes (i : Nat) : Bool := decide (i < 24) && run.contains (i / 6)
    && (i % 6 < 4 || (i % 6 == 4) == d.comHigh (i / 6) phase)
  let d0 := foldS ((List.range 24).filter goes) (fun i s => (s.biasSlew i).biasLevel i) (d.calApplyAt goes)
  let d1 := d0.onMip h (fun u => { u with phase := phase })
  (foldS run (fun c s =>
    let hi := s.comHigh c phase
    let mv := if hi then s.getI (BIASc_VCOMH_MV_V c) else s.getI (BIASc_VCOML_MV_V c)
    ((s.putB (COMc_STATUS_LEVEL c) hi).addWrap (COMc_PHASE_COUNT_V c) 1).onHarn (fun u => { u with com := updAt u.com c (fun _ => mv) })) d1).put
      (HDn_POSITION_LINE h) phase

/-- Do the commons of head `h` run? -/
def Dev.comsRun (d : Dev) (h : Nat) : Bool := (d.coms h).any (fun c => d.flag (COMc_STATUS_RUNNING c))

/-- R345: the commons stop at the phase boundary that follows the entry to RAMP_DOWN. -/
def Dev.comsStop (h : Nat) (d : Dev) : Dev :=
  (foldS (d.coms h) (fun c s => (s.putB (COMc_STATUS_RUNNING c) false).comDown c) d).restSet h

/-- A sub-frame begins (R296): its count, and the ages of the tiles that run no waveform. -/
def Dev.subFrameTick (h : Nat) (d : Dev) : Dev :=
  let d1 := d.inc (HDn_COUNTk_V h 0)
  (foldS (d1.mipTiles h) (fun i s => if s.recBit h i 15 then s else s.recPut h i [(0, 8, min 255 (s.recGet h i 0 8 + 1))]) d1).onMip h
    (fun u => { u with heldComs := [] })

/-- A sub-frame begins at a commit point: it takes the next number. -/
def Dev.subFrame (h : Nat) (d : Dev) : Dev :=
  let f := (d.head h).nextFrame
  (((d.countDown h (d.get (HDn_POSITION_FRAME h))).put (HDn_POSITION_FRAME h) f).onHead h (fun u => { u with
    nextFrame := (f + 1) % 65536 })).subFrameTick h

/-- Step 1 of R13 on a MIP head: true if the set applied. The set of an ARMED re-tack waits with its section for a commit point at
which no tile is mid-waveform (R65, R66). -/
def Dev.mipCommitSet (h : Nat) (early : Bool) (d : Dev) : Bool × Dev :=
  if early && d.flag (HDn_SHADOW_STATE_V h) && !(d.rtArmed h && !d.rtDue h) then
    (true, (((d.applyWords h).mipApplied h d).ack h false 1 (d.get (HDn_POSITION_FRAME h))).put (HDn_SHADOW_STATE_V h) 0)
  else (false, d)

/-- Actions 2 to 6 of R297, after the commit point's steps. -/
def Dev.boundaryActions (h : Nat) (commit applied : Bool) (d : Dev) : Dev :=
  let d1 := (((d.accountKicks h).stepsEnd h).admitStarts h commit).push h
  let d2 := if commit && d1.headState h == 1 || commit && d1.headState h == 2 then d1.passBegin h applied else d1
  (d2.mipMayStop h).mipCounts h

/-! ### Readback (R322) -/

/-- A head without a girth loop whose readback ends acts as if RUN = 0 were written (R323). -/
def Dev.readbackLost (h : Nat) (d : Dev) : Dev :=
  let d1 := d.put (HDn_MIP_RB_STATUS_ACTIVE h) 0
  if anyBelow 4 (fun g => d1.girthOn g && d1.girthHead g == h) then d1 else d1.mipHalt h 0

/-- Sets a MIP_EVT_STATUS bit; the record names the head or the loop (R403). -/
def Dev.mipEvt (b : Nat) (d : Dev) (inst : Nat := 0xFF) : Dev := d.raiseAt MIP_EVT_STATUS MIP_EVT_ENABLE clsMip inst b

/-- One failure of readback. -/
def Dev.readbackFailure (h : Nat) (d : Dev) : Dev :=
  let d1 := (d.inc (HDn_MIP_COUNTk_V h 12)).onMip h (fun u => { u with rbFails := u.rbFails + 1 })
  if 3 ≤ (d1.mip h).rbFails ∧ d1.flag (HDn_MIP_RB_STATUS_FAIL h) = false then
    (((d1.put (HDn_MIP_RB_STATUS_FAIL h) 1).onMip h (fun u => { u with rbAwait := [] })).mipEvt (8 + h) h).readbackLost h
  else d1

/-- May tile `i` be compared (R322)? -/
def Dev.comparable (d : Dev) (h i : Nat) : Bool :=
  !d.recBit h i 15 && !d.recBit h i 18 && !d.recBit h i 17 && !d.recBit h i 13 && decide (1 ≤ d.recGet h i 0 8)
    && (match d.tileCom h i with | some c => !(d.mip h).heldComs.contains c | none => true)

/-- MIP_READ_DATA_RX: READ_DATA with its fields, payload and CRC. One that fails is the answer that was awaited: by its row and plane,
else the oldest. -/
def mipReadDataRx (h plane row first count : Nat) (payload : List Byte) (crc : Nat) (d : Dev) : Dev :=
  let w := d.mipW h
  if !(d.isMip h && d.readbackOn h) then d
  else if crc16 ((regionBlock 4 plane row first count).drop 1 ++ payload) ≠ crc ∨ first ≠ 0 ∨ count ≠ w
      ∨ (d.mip h).rbAwait.contains (row, plane) = false then
    (d.onMip h (fun u => { u with rbAwait := if u.rbAwait.contains (row, plane) then u.rbAwait.erase (row, plane) else u.rbAwait.drop 1 })).readbackFailure h
  else
    let d1 := d.onMip h (fun u => { u with rbFails := 0, rbAwait := u.rbAwait.erase (row, plane) })
    let bits := ofLE payload
    let n := d.tileCols h
    foldS (List.range n) (fun tx s =>
      let i := row / 8 * n + tx
      let cols := min 8 (w - 8 * tx)
      let want := packBits 1 (s.rowBits h i row plane)
      let got := bitsOf bits (8 * tx * s.mipS h) (cols * s.mipS h)
      if s.inShare h i && s.comparable h i && want != got then
        ((((s.recPut h i [(13, 1, 1)]).onMip h (fun u => { u with passReq := true })).setWord (HDn_MIP_RB_LAST h) (2 ^ 31 + i)).inc
          (HDn_MIP_COUNTk_V h 11)).mipEvt 1 h
      else s) d1

/-- MIP_READBACK_TIMEOUT: the oldest READ_DATA awaited is missing after 100 µs. -/
def mipReadbackTimeout (h : Nat) (d : Dev) : Dev :=
  match (d.mip h).rbAwait with
  | _ :: r => (d.onMip h (fun u => { u with rbAwait := r })).readbackFailure h
  | [] => d

/-- R317: a MIP_PANEL link of head `h` is down. -/
def Dev.panelLinkDown (h : Nat) (d : Dev) : Dev :=
  ((d.put (HDn_MIP_STATUS_LINK_LOST h) 1).onMip h (fun u => { u with rbAwait := [] })).mipEvt 0 h

/-- R299, R316: a MIP_PANEL link `j` of head `h` has come up. The SEQ of the panel commands is a free value (assumption 2). -/
def Dev.panelLinkUp (h j : Nat) (d : Dev) : Dev :=
  let req (op addr data : Nat) (s : Dev) : Dev := (s.linkStream j (cmdReq op (s.free % 16) 0 addr data)).drawn
  let config := (d.mipM h - 1) + 4 * d.app (HDn_MIP_PANEL_MONO h)
  let d1 := req 2 3 0 (req 1 4 config (req 1 2 (d.mipH h) (req 1 1 (d.mipW h) d)))
  let d2 := (d1.put (HDn_MIP_RB_STATUS_FAIL h) 0).onMip h (fun u => { u with rbFails := 0 })
  if d2.headState h = 1 then d2.fullPush h else d2

/-- R316, R322: the panel controller's STATUS. -/
def Dev.panelStatus (h data : Nat) (d : Dev) : Dev :=
  let lacks := !bitOf data 2
  let was := d.flag (HDn_MIP_RB_STATUS_UNSUPPORTED h)
  let d1 := d.putB (HDn_MIP_RB_STATUS_UNSUPPORTED h) lacks
  if lacks && !was && d1.appB (HDn_MIP_CHECK_READBACK h) then (d1.mipEvt (8 + h) h).readbackLost h else d1

/-- BALANCE_FAULT on common `c` (R321). -/
def balanceFault (c : Nat) (d : Dev) : Dev :=
  if d.getI (COMc_BALANCE_V c) = 0 ∨ d.flag (COMc_STATUS_BAL_FAULT c) = true then d
  else Dev.mipEvt (4 + c) ((d.put (COMc_STATUS_BAL_FAULT c) 1).flogWrite clsMip (4 + c) 0xFF [d.word (COMc_BALANCE c)])

/-- R323: head `h` enters CRACKED or stops; its panel follows. -/
def Dev.crackHead (g h : Nat) (d : Dev) : Dev :=
  let d1 := Dev.mipEvt (16 + g) (d.flogWrite clsMip (16 + g) g [d.get (GIRTHg_MOHM_V g)]) g
  if d1.isMip h then
    let d2 := if d1.headState h = 1 ∨ d1.headState h = 2 then
        (foldS (d1.coms h) Dev.balanceZero (d1.mipStopped h)).put (HDn_STATUS_STATE h) 5 else d1
    d2.discharge 6 (· == h)
  else if d1.isRaster h then d1.rasterHalt h 2
  else d1

/-! ### Waveform tables (R303) -/

/-- A step's own failure code, or 0. -/
def stepFault (m w : Nat) : Nat :=
  if (stepKind w = 1 ∧ m ≤ stepPlane w) ∨ (stepKind w ≠ 1 ∧ stepPlane w ≠ 0) then 1
  else if bitsOf w 8 18 ≠ 0 ∨ stepDur w = 0 then 2
  else 0

/-- The first failure of a waveform's 32 words: code and step. -/
def waveFault (m freq : Nat) (l : List Nat) : Option (Nat × Nat) :=
  let steps := l.takeWhile stepPresent
  let kicks := filterRange steps.length (fun k => 2 ≤ stepKind (nth 0 steps k))
  let bad (k : Nat) : Nat :=
    let w := nth 0 l k
    if k < steps.length then
      let own := stepFault m w
      let p := kicks.findIdx (· == k)
      if own ≠ 0 then own
      else if 2 ≤ stepKind w ∧ p % 2 = 1 ∧ (stepKind w = stepKind (nth 0 l (nth 0 kicks (p - 1))) ∨ stepDur w ≠ stepDur (nth 0 l (nth 0 kicks (p - 1)))) then 5
      else if stepSafe w ∧ (kicks.filter (fun x => decide (x ≤ k))).length % 2 = 1 then 6
      else 0
    else if stepPresent w then 3 else 0
  match (List.range 32).find? (fun k => bad k != 0) with
  | some k => some (bad k, k)
  | none =>
    if kicks.length % 2 = 1 then some (4, kicks.getLast?.getD 0)
    else if freq < 16 * (steps.map stepDur).foldl (· + ·) 0 then some (7, 0)
    else none

/-- The first failure of a table: code, band, waveform, step. -/
def tableFault (m freq : Nat) (bytes : List Byte) : Option (Nat × Nat × Nat × Nat) :=
  let one (n w : Nat) := waveFault m freq ((List.range 32).map (fun k => ofLE ((bytes.drop (n * 4096 + w * 128 + k * 4)).take 4)))
  ((List.range 256).findSome? (fun x => (one (x / 32) (x % 32)).map (fun p => (p.1, x / 32, x % 32, p.2))))

/-- A write of MIP_WT_LOAD. -/
def wtLoadWrite (v : Nat) (d : Dev) : Dev :=
  d.writeVia MIP_WT_LOAD v (fun s => !bitOf v 31 || (s.harn.wtLoad.isNone && s.isMip (bitsOf v 0 3))) (fun s =>
    if bitOf v 31 then
      (s.put MIP_WT_STATUS_STATE 1).onHarn (fun u => { u with wtLoad := some (bitsOf v 0 3, bitsOf v 8 1) })
    else s)

/-- Is buffer `b` of head `h` in use (R303)? -/
def Dev.wtInUse (d : Dev) (h b : Nat) : Bool :=
  d.app (HDn_MIP_CTRL_WT_SEL h) == b || (d.mip h).runs.any (fun r => !r.cut && d.recGet h r.tile 12 1 == b)

/-- MIP_WT_LOAD_DONE: the copy and the checks of a load end. -/
def wtLoadDone (errs : List (Nat × Ecc)) (d : Dev) : Dev :=
  match d.harn.wtLoad with
  | none => d
  | some (h, b) =>
    let src := d.get MIP_WT_SRC_LO_V + d.get MIP_WT_SRC_HI_V * 2 ^ 32
    let inside := decide (src + 32768 ≤ dramEnd)
    let (bad, d0) := if inside then Dev.readUnits 1 errs (unitsOf src 32768) d else (true, d)
    let d1 := d0.onHarn (fun u => { u with wtLoad := none })
    let bytes := d1.memBytes src 32768
    let fault := if d1.wtInUse h b then some (9, 0, 0, 0) else if bad then some (8, 0, 0, 0)
      else tableFault (d1.mipM h) (d1.app (HDn_MIP_CTRL_FREQ h)) bytes
    match fault with
    | some (code, n, w, k) =>
      ((d1.put MIP_WT_STATUS_STATE 3).setWord MIP_WT_ERR (code * 2 ^ 28 + n * 2 ^ 24 + w * 2 ^ 16 + k * 256 + b * 8 + h)).mipEvt 2 h
    | none =>
      let d2 := d1.agentWrite 1 (d1.waveBase h + b * 32768) bytes
      ((d2.put MIP_WT_STATUS_STATE 2).put MIP_WT_STATUS_VALID (Nat.lor (d2.get MIP_WT_STATUS_VALID) (2 ^ (2 * h + b)))).mipEvt 3 h

/-- HDn_MIP_WFINFOw as a word (R329): waveform `w` over the bands of the applied buffer. -/
def Dev.wfInfo (d : Dev) (h w : Nat) : Nat :=
  let ls := (List.range 8).map (fun n => d.waveSteps h (d.app (HDn_MIP_CTRL_WT_SEL h)) n w)
  let top (f : List Nat → Nat) : Nat := (ls.map f).foldl max 0
  let planes := ((List.range 3).filter (fun p => ls.all (fun l => l.any (fun s => stepKind s == 1 && stepPlane s == p)))).foldl (fun a p => a + 2 ^ p) 0
  b2n (ls.all (· != [])) * 2 ^ 31 + top List.length % 64 * 2 ^ 24 + top (fun l => (l.map stepDur).foldl (· + ·) 0) % 512 * 2 ^ 15
    + top (fun l => l.countP (fun s => decide (2 ≤ stepKind s)) / 2) % 32 * 2 ^ 8 + planes

/-! ### The halter area (R324 to R327) -/

/-- Is a write of MIP_HALT_CTRL accepted (R324)? -/
def haltCtrlOk (v : Nat) (d : Dev) : Bool := !bitOf v 31 || d.haltFits (bitsOf v 28 3) (bitsOf v 13 9) (bitsOf v 6 7)

/-- A write of MIP_HALT_CTRL. -/
def haltCtrlWrite (v : Nat) (d : Dev) : Dev := d.writeVia MIP_HALT_CTRL v (haltCtrlOk v) Dev.haltArm

/-- A write of MIP_HALT_POS: X is a multiple of 8 (R324). -/
def haltPosWrite (v : Nat) (d : Dev) : Dev := d.writeVia MIP_HALT_POS v (fun _ => bitsOf v 16 16 % 8 == 0) Dev.haltArm

/-- MIP_HALT_BMP_ADDR moves on. -/
def Dev.bmpNext (d : Dev) : Dev := d.put MIP_HALT_BMP_ADDR_V ((d.get MIP_HALT_BMP_ADDR_V + 4) % 2048)

/-- The four bitmap bytes at the address. -/
def Dev.bmpWord (d : Dev) : Nat :=
  ofLE ((List.range 4).map (fun k => (cellFind d.halt.bmp (d.get MIP_HALT_BMP_ADDR_V + k)).getD 0))

/-- A write of MIP_HALT_BMP_DATA. -/
def bmpDataWrite (v : Nat) (d : Dev) : Dev :=
  d.writeVia MIP_HALT_BMP_DATA v (fun _ => true) (fun s =>
    (Dev.bmpNext { s with halt := { s.halt with bmp := storeCells s.halt.bmp (s.get MIP_HALT_BMP_ADDR_V) (leBytes 4 v) } }))

/-- HALT_BMP_DATA_READ: a read of MIP_HALT_BMP_DATA. -/
def bmpDataRead (d : Dev) : Dev :=
  if d.regOpen MIP_HALT_BMP_DATA then (d.send (.completion false [d.bmpWord])).bmpNext else d

/-- The decimal digits of `n` as character codes, at least `w` of them. -/
def digits (w n : Nat) : List Nat :=
  let l := (Nat.toDigits 10 n).map (fun c => c.toNat)
  List.replicate (w - l.length) 0x30 ++ l

/-- The characters of field `f` (R325). -/
def Dev.fieldText (d : Dev) (f : Nat) : List Nat :=
  match d.get (FLDf_CTRL_KIND f) with
  | 0 => ((List.range 12).map (fun k => bitsOf (d.word (FLDf_TEXTk f (k / 4))) (8 * (k % 4)) 8)).takeWhile (· != 0)
  | 1 =>
    let code := d.get TC_CTRL_RATE
    let l := labelAt (d.tb 1).total code
    digits 2 l.hours ++ [0x3A] ++ digits 2 l.minutes ++ [0x3A] ++ digits 2 l.seconds ++ [if code = 3 then 0x3B else 0x3A] ++ digits 2 l.frames
  | _ =>
    let full : Int := d.get MIP_HALT_BATTERY_FULL_MV
    let empty : Int := d.get MIP_HALT_BATTERY_EMPTY_MV
    let share : Int := if full ≤ empty then Config.batteryShare (d.get POWER_VSYS_MV_V)
      else roundDiv (((d.get POWER_VSYS_MV_V : Int) - empty) * 100) (full - empty)
    digits 1 (clampI 0 100 share).toNat ++ [0x25]

/-- Is the pixel at (row, column) of a character's 8 × 16 cell set (R325)? -/
def Dev.glyphPixel (d : Dev) (code row col : Nat) : Bool :=
  if 0x20 ≤ code ∧ code ≤ 0x7E then Config.glyph code row col
  else if 0x80 ≤ code ∧ code ≤ 0x87 then bitOf (d.word (MIP_GLYPHg_k (code - 0x80) (row / 4))) (8 * (row % 4) + col)
  else false

/-- The colour of pixel (x, y) of the halter area (R325). -/
def Dev.haltPixel (d : Dev) (texts : List (List Nat)) (x y : Nat) : Nat :=
  let base := if bitOf (((cellFind d.halt.bmp (32 * y + x / 8)).getD 0).toNat) (x % 8) then d.get MIP_HALT_CTRL_FG else d.get MIP_HALT_CTRL_BG
  (List.range 16).foldl (fun c f =>
    let k := if d.flag (FLDf_CTRL_DOUBLE f) then 2 else 1
    let x0 := d.get (FLDf_POS_X f)
    let y0 := d.get (FLDf_POS_Y f)
    let n := (x - x0) / (8 * k)
    if d.flag (FLDf_CTRL_ENABLE f) ∧ x0 ≤ x ∧ y0 ≤ y ∧ y < y0 + 16 * k then
      match (nth [] texts f)[n]? with
      | some code => if d.glyphPixel code ((y - y0) / k) ((x - x0) / k % 8) then d.get (FLDf_CTRL_FG f) else d.get (FLDf_CTRL_BG f)
      | none => c
    else c) base

/-- A row record of the transfer (R327): most significant bit first. -/
def haltRow (row first : Nat) (px : List Nat) : List Byte :=
  let bits := px.foldl (fun a c => a * 8 + c) 0
  let n := (px.length * 3 + 7) / 8
  let be (k v : Nat) : List Byte := (leBytes k v).reverse
  be 2 row ++ be 2 first ++ be 2 px.length ++ be n (bits * 2 ^ (8 * n - 3 * px.length))

/-- The island renders the area and sends the rows that differ; every row on the first render since Stand (R326, R327). -/
def Dev.haltRender (d : Dev) : Dev :=
  let texts := (List.range 16).map d.fieldText
  let w := d.get MIP_HALT_CTRL_WIDTH
  let v := d.get MIP_HALT_CTRL_HEIGHT
  let now := (List.range v).map (fun y => (List.range w).map (fun x => d.haltPixel texts x y))
  let rows := filterRange v (fun y => d.halt.fresh || nth [] d.halt.last y != nth [] now y)
  let x0 := d.get MIP_HALT_POS_X
  let y0 := d.get MIP_HALT_POS_Y
  let bytes := (leBytes 2 (0x9000 + rows.length)).reverse ++ rows.flatMap (fun y => haltRow (y0 + y) x0 (nth [] now y))
  let khz := nth 1000 [250, 500, 1000, 2000] (d.get MIP_HALT_PORT_CLK)
  let d1 := (d.send (.halter (d.get MIP_HALT_CTRL_HEAD) rows bytes)).addWrap MIP_HALT_STATUS_RENDERS 1
  let d2 := (d1.putB MIP_HALT_STATUS_LAST_FULL (rows.length == v)).put MIP_HALT_STATUS_LAST_MS (min 255 (8 * bytes.length / khz))
  { d2 with halt := { d2.halt with last := now, fresh := false } }

/-- Does the island keep a declared halter area: in Stand, and in Walk (R326, R511)? -/
def Dev.halterOn (d : Dev) : Bool :=
  (d.get POWER_RUNG_STATUS_STATE == 3 || (d.mode == 0 && d.get POWER_RUNG_STATUS_STATE == 4)) && d.flag MIP_HALT_STATUS_ARMED

/-- HALTER_RENDER: 1 ms after a whole second of TB1 in Stand. -/
def halterRender (d : Dev) : Dev := if d.halterOn then d.haltRender else d

/-- HALTER_PHASE: the halter head's commons change level at a whole or half second of TB1, while its panel is ON (R333, R343). -/
def halterPhase (d : Dev) : Dev :=
  if !d.halterOn || d.panelState (d.get MIP_HALT_CTRL_HEAD) != 2 then d
  else
    let h := d.get MIP_HALT_CTRL_HEAD
    let phase := if (d.tb 1).ns < 500000000 then 0 else 1
    foldS (d.coms h) (fun c s =>
      let mv := if s.comHigh c phase then s.getI (BIASc_VCOMH_MV_V c) else s.getI (BIASc_VCOML_MV_V c)
      s.onHarn (fun u => { u with com := updAt u.com c (fun _ => mv) })) (d.onMip h (fun u => { u with phase := phase }))

/-! ### Other writes of the MIP block (R318, R330, R334) -/

/-- A write of COMc_CTRL. -/
def comCtrlWrite (c v : Nat) (d : Dev) : Dev :=
  d.writeVia (COMc_CTRL c) v (fun s =>
    let old := outOwner (s.word (COMc_CTRL c))
    let new := outOwner v
    ownerChangeOk old new s && (!old.1 || s.headState old.2 == 0) && (!new.1 || s.headState new.2 == 0)) id

/-- A write of COMc_ROWS (R318). HEIGHT is the panel's as applied, or as the shadow set will have it. -/
def comRowsWrite (c v : Nat) (d : Dev) : Dev :=
  d.writeVia (COMc_ROWS c) v (fun s =>
    let h := s.get (COMc_CTRL_HEAD c)
    let top := bitsOf v 16 16 + 1
    bitsOf v 0 16 % 8 == 0 && (top % 8 == 0 || top == s.mipH h || top == s.get (HDn_MIP_PANEL_HEIGHT h))) id

/-- A write of MIP_WT_SRC_LO: a multiple of 64 (R303). -/
def wtSrcWrite (v : Nat) (d : Dev) : Dev := d.writeVia MIP_WT_SRC_LO v (fun _ => v % 64 == 0) id

/-- A write of MIP_GIRTH_MAP (R330): a loop that it enables captures its baseline anew (R351). -/
def girthMapWrite (v : Nat) (d : Dev) : Dev :=
  d.writeVia MIP_GIRTH_MAP v (fun s => allBelow 4 (fun g =>
    let old := s.girthByte g
    let new := bitsOf v (8 * g) 8
    old == new || (s.headState (old % 8) == 0 && s.headState (new % 8) == 0)))
    (fun s => foldS (List.range 4) (fun g x => if bitOf v (8 * g + 7) && !d.girthOn g then x.girthRebase g else x) s)

/-- A write of MIP_HALT_BATTERY. -/
def haltBatteryOk (v : Nat) : Bool := decide (bitsOf v 0 16 < bitsOf v 16 16)

/-! ### The commands -/

/-- MIP_PASS_END. -/
def execMipPassEnd (h : Fin 8) (reads : PassReads) (s : State) := s.on (mipPassEnd h reads.planes reads.maps reads.errs)
/-- MIP_WT_LOAD_DONE. -/
def execMipWtLoadDone (errs : List (Nat × Ecc)) (s : State) := s.on (wtLoadDone errs)
/-- MIP_READ_DATA_RX. -/
def execMipReadDataRx (h : Fin 8) (plane : Fin 4) (row first count : Nat) (payload : List Byte) (crc : Nat) (s : State) :=
  s.on (mipReadDataRx h plane row first count payload crc)
/-- MIP_READBACK_TIMEOUT. -/
def execMipReadbackTimeout (h : Fin 8) (s : State) := s.on (mipReadbackTimeout h)
/-- BALANCE_FAULT. -/
def execBalanceFault (c : Fin 4) (s : State) := s.on (balanceFault c)
/-- HALTER_RENDER. -/
def execHalterRender (s : State) := s.on halterRender
/-- HALTER_PHASE. -/
def execHalterPhase (s : State) := s.on halterPhase
/-- HALT_BMP_DATA_READ. -/
def execHaltBmpDataRead (s : State) := s.on bmpDataRead

end Sys2Proof.Machine
end

