-- ==== Sys2Proof/Machine/Lanes.lean ====
section
/-! DEFINITION. Rein lanes as receivers and links between their ends (chapter 10): block reception, the lane and link tables,
substitution by the spare lane, equalisation, eye scan, lane power, and the responses that arrive on links. -/
namespace Sys2Proof.Machine

/-! ### Links up and down (R148, R258 to R260, R299, R317, R375) -/

/-- The link from which stream `n` takes its frames (R416): the TEAM link of TEAM_DISTn, or its PIXEL_IN link. -/
def Dev.streamLink (d : Dev) (n : Nat) : Option Nat :=
  if d.flag (TEAM_DISTn_RX_ENABLE n) then some (d.get (TEAM_DISTn_RX_LINK n))
  else (List.range 16).find? (fun j => (d.linkEntry j).profile == 1 && (d.linkEntry j).owner == n)

/-- What follows when link `j` has left UP. -/
def Dev.linkLost (j : Nat) (d : Dev) : Dev :=
  let d1 := foldS (filterRange 4 (fun n => d.streamLink n == some j)) (fun n s => streamFrameTimeout n true s) (d.txSync j)
  if (d.linkEntry j).profile = 3 then d1.panelLinkDown (d.linkEntry j).owner else d1

/-- What follows when link `j` has come up. -/
def Dev.linkCame (j : Nat) (d : Dev) : Dev :=
  let d1 := (((d.put (LKj_STATUS_STATE j) 3).inc (LKj_COUNTk_V j 0)).onLink j (fun u => { u with fault := false })).txSync j
  let h := (d1.linkEntry j).owner
  match (d1.linkEntry j).profile with
  | 2 => (d1.onHead h (fun u => { u with
      lungeWait := u.lungeWait.filter (· != j),
      flockWait := if u.lungeWait.contains j then u.flockWait.map (fun _ => (d.tb 3).total) else u.flockWait })).columnUp j
  | 3 => d1.panelLinkUp h j
  | _ => d1

/-- Link `j` leaves its state for LUNGE or TX_WAIT; a lane fault is remembered until it is up again (R504). -/
def Dev.linkDrop (j : Nat) (fault : Bool) (d : Dev) : Dev :=
  let up := d.linkUp j
  let d1 := d.linkFalls j
  if up then (d1.onLink j (fun u => { u with fault := u.fault || fault })).linkLost j else d1

/-- RELUNGE with its consequences for the profile. -/
def Dev.relungeAll (j : Nat) (d : Dev) : Dev := if d.linkUp j then (d.relunge j).linkLost j else d.relunge j

/-! ### The receivers of a link (R371, R373, R375, R387) -/

/-- The data lanes in use of link `j`, as they stand in LINK_MAP. -/
def Dev.dataLanes (d : Dev) (j : Nat) : List Nat := (d.linkEntry j).lanes.take (d.linkLanes j)

/-- The link lane that the spare of link `j` carries in place of its data lane. -/
def Dev.replaced (d : Dev) (j : Nat) : Option Nat :=
  if d.get (LKj_STATUS_SPARE_STATE j) = 3 then some (d.get (LKj_STATUS_SPARE_LANE j)) else none

/-- The physical lanes from which link `j`'s stream is taken: data lanes, each or its spare replacement. -/
def Dev.streamLanes (d : Dev) (j : Nat) : List Nat :=
  match d.replaced j, (d.linkEntry j).spare with
  | some k, some n => (d.dataLanes j).filter (fun m => d.get (LNn_STATUS_LINK_LANE m) != k) ++ [n]
  | _, _ => d.dataLanes j

/-- Is every lane that carries link `j` ALIGNED, have all received the same ALIGN column, and are they deskewed (R373)? -/
def Dev.linkAligned (d : Dev) (j : Nat) : Bool :=
  let l := d.streamLanes j
  l.all (fun n => d.laneState n == 3 && !(d.lane n).late)
    && match l with
       | n :: r => r.all (fun m => d.get (LNn_ALIGN_RX_ASEQ m) == d.get (LNn_ALIGN_RX_ASEQ n))
       | [] => false

/-- LUNGE to GREET (R375). -/
def Dev.linkGreets (j : Nat) (d : Dev) : Dev :=
  if d.linkState j = 1 ∧ d.linkAligned j = true then d.put (LKj_STATUS_STATE j) 2 else d

/-- May a substitution of link lane `k` of link `j` start (R390)? -/
def Dev.spareGoOk (d : Dev) (j k : Nat) : Bool :=
  match (d.linkEntry j).spare with
  | none => false
  | some n =>
    !(d.linkEntry j).txOnly && d.get (LKj_STATUS_SPARE_STATE j) == 0 && decide (k < d.linkLanes j)
      && (d.linkUp j
        || (d.linkState j == 1 && d.laneState n == 3
          && (d.dataLanes j).any (fun m => d.get (LNn_STATUS_LINK_LANE m) == k && (d.laneState m == 4 || d.laneState m == 5))))

/-- A substitution starts (R387): REQUESTED. -/
def Dev.spareStart (j k : Nat) (q : Option FarRequest) (d : Dev) : Dev :=
  let d1 := ((d.put (LKj_STATUS_SPARE_STATE j) 1).put (LKj_STATUS_SPARE_LANE j) k).put (LKj_CTRL_SPARE_FOR j) k
  (d1.setWord (LKj_SPARE j) 0).onLink j (fun u => { u with request := q, compared := false })

/-- The released lane requests of link `j` meet their window (R387, R496, R499): the first that may start does; one that finds no
spare left is given up. -/
def Dev.laneWindow (j : Nat) (d : Dev) : Dev :=
  let gone := (d.linkEntry j).spare.isNone || (d.linkEntry j).txOnly || decide (3 ≤ d.get (LKj_STATUS_SPARE_STATE j))
  ((d.farReleased 1).filter (fun q => q.inst / 16 == j && (d.link j).request != some q)).foldl (fun s q =>
    if gone then s.farExhausted q
    else if s.spareGoOk j (q.inst % 16) then s.spareStart j (q.inst % 16) (some q)
    else s) d

/-- At lunge (R387, R496): a data lane is ABSENT or MISMATCH while the spare is ALIGNED and idle. -/
def Dev.lungeTrigger (j : Nat) (d : Dev) : Dev :=
  match (d.dataLanes j).find? (fun n => d.spareGoOk j (d.get (LNn_STATUS_LINK_LANE n)) && (d.laneState n == 4 || d.laneState n == 5)) with
  | some n => if d.linkState j = 1 then (d.farTrigger { cls := 1, trig := 6, inst := d.laneInstance n }).laneWindow j else d
  | none => d

/-- The substitution ends with FAILED (R387). -/
def Dev.spareFails (j : Nat) (d : Dev) : Dev :=
  let st := d.get (LKj_STATUS_SPARE_STATE j)
  if st = 1 ∨ st = 2 then
    let d1 := match (d.link j).request with
      | some q => d.farTake q
      | none => d
    ((d1.put (LKj_STATUS_SPARE_STATE j) 4).onLink j (fun u => { u with request := none })).laneWindow j
  else d

/-- What lane `n`'s exit from ALIGNED means for its link (R375, R387). -/
def Dev.laneLeft (n : Nat) (d : Dev) : Dev :=
  match d.laneLink n with
  | none => d
  | some j =>
    let d1 := if d.isSpare j n then d.spareFails j else d
    if (d1.streamLanes j).contains n ∧ 2 ≤ d1.linkState j ∧ d1.linkState j ≤ 4 then (d1.linkDrop j true).lungeTrigger j else d1

/-- Lane `n` enters a state from another one, with the consequences. -/
def Dev.laneGoes (n st : Nat) (d : Dev) : Dev :=
  let was := d.laneState n
  let d1 := d.setLane n st
  let d2 := if was = 3 ∧ st ≠ 3 then d1.laneLeft n else d1
  if st = 4 ∨ st = 5 then (match d2.laneLink n with | some j => d2.lungeTrigger j | none => d2) else d2

/-- A check on what lane `n` receives fails (R31): its counter `c` counts, and the guard of Rein blocks captures it. -/
def Dev.rxFails (n c : Nat) (d : Dev) : Dev := (d.inc (LNn_COUNTk_V n c)).guardFail 1 c

/-- Block lock ends by a receiver event: HUNT, and LNn_COUNT0 counts (R372). -/
def Dev.lockEnds (n : Nat) (d : Dev) : Dev :=
  if d.laneState n = 2 ∨ d.laneState n = 3 ∨ d.laneState n = 5 then
    ((d.rxFails n 0).put (LNn_STATUS_LOCK_LOST n) 1).laneGoes n 1
  else d

/-- Lane `n` declares block lock (R369, R372). -/
def Dev.laneLocks (n : Nat) (d : Dev) : Dev :=
  (((d.put (LNn_STATUS_LOS n) 0).put (LNn_STATUS_LOL n) 0).onLane n (fun u => { u with headers := 0, valid := 0 })).setLane n 2

/-- A header reaches a receiver that hunts (R369): an invalid one slips the position by one bit, and the 96th consecutive valid one is
block lock. -/
def Dev.laneHunts (n : Nat) (valid : Bool) (d : Dev) : Dev :=
  if !valid then d.onLane n (fun u => { u with valid := 0, slip := (u.slip + 1) % 66 })
  else if (d.lane n).valid < 95 then d.onLane n (fun u => { u with valid := u.valid + 1 })
  else d.laneLocks n

/-- A header reaches a receiver that holds block lock: 24 invalid ones within 128 end it (R369). -/
def Dev.headerSeen (n : Nat) (valid : Bool) (d : Dev) : Dev :=
  let past := ((d.lane n).headers * 2 + b2n (!valid)) % 2 ^ 128
  let d1 := d.onLane n (fun u => { u with headers := past })
  if !valid && decide (24 ≤ (onesOf 128 past).length) then d1.lockEnds n else d1

/-! ### Reception (R361, R362, R365 to R369, R376, R383) -/

/-- The `k` payload bits of `bits`, first in bit 0, descrambled, and the last 58 bits received after them (R361). -/
def descramble : Nat → Nat → Nat → Nat × Nat
  | 0, r, _ => (0, r)
  | k + 1, r, bits =>
    let i := bits % 2
    let p := descramble k ((r * 2 + i) % 2 ^ 58) (bits / 2)
    ((i + r / 2 ^ 38 + r / 2 ^ 57) % 2 + 2 * p.1, p.2)

/-- The last `b` bits (newest in bit 0) of `k` bits of which the first is in bit 0. -/
def lastBits (b k bits : Nat) : Nat := (List.range b).foldl (fun a i => 2 * a + bits / 2 ^ (k - b + i) % 2) 0

/-- The number of ones in `w` bits. -/
def popCount (w v : Nat) : Nat := (onesOf w v).length

/-- Checks `k` bits against a sequence that the first of them seeds: the errors and the sequence's next state (R380, R383). -/
def checkSeq (a b k bits : Nat) (seed : Option Nat) : Nat × Nat :=
  match seed with
  | none => (0, lastBits b k bits)
  | some s => let p := prbs a b k s; (popCount k (Nat.xor p.1 bits), p.2)

/-- Adaptation resumes on a qualifying block after a freeze (R378). -/
def Dev.adaptResumes (n : Nat) (d : Dev) : Dev := d.put (LNn_EQ_STATUS_FROZEN n) 0

/-! Reassembly (R373): each lane's stream blocks wait in order, and block i of the link is taken from link lane i mod N. -/

/-- The lane that delivers link lane `k` of link `j`'s stream. -/
def Dev.deliverer (d : Dev) (j k : Nat) : Option Nat :=
  if d.replaced j = some k then (d.linkEntry j).spare
  else (d.dataLanes j).find? (fun m => d.get (LNn_STATUS_LINK_LANE m) == k)

/-- Up to a number of blocks leave reassembly: a FILL with PAD set is discarded. -/
def Dev.reassemble (j : Nat) : Nat → Dev → Dev
  | 0, d => d
  | k + 1, d =>
    match d.deliverer j (d.link j).rxNext with
    | none => d
    | some n =>
      match (d.lane n).fifo with
      | [] => d
      | b :: r =>
        let fill := b.control && nth 0 b.bytes 0 == 0x1E
        Dev.reassemble j k ((d.onLane n (fun u => { u with fifo := r })).onLink j (fun u => { u with
          rxNext := (u.rxNext + 1) % max 1 (d.linkLanes j), arrived := if fill then u.arrived else u.arrived ++ [b] }))

/-- Blocks of link `j` leave reassembly while it is up. -/
def Dev.delivers (j : Nat) (d : Dev) : Dev :=
  if d.linkUp j then d.reassemble j (((d.streamLanes j).map (fun n => (d.lane n).fifo.length)).foldl (· + ·) 0) else d

/-- A stream block of lane `n`. -/
def Dev.streamBlock (n : Nat) (b : RBlock) (d : Dev) : Dev :=
  let d1 := d.onLane n (fun u => { u with blocks := u.blocks + 1 })
  match d1.laneLink n with
  | some j =>
    if (d1.linkEntry j).profile ≠ 5 ∧ d1.laneState n = 3 ∧ (d1.streamLanes j).contains n = true then
      (d1.onLane n (fun u => { u with fifo := u.fifo ++ [b] })).delivers j
    else d1
  | none => d1

/-- R373: at the last ALIGN of a column on the lanes of the stream, every lane that has not delivered as many stream blocks as the first
counts it; reassembly then restarts at that ALIGN, as it does on a link that is not up. -/
def Dev.countCheck (j n : Nat) (d : Dev) : Dev :=
  let l := d.streamLanes j
  if (d.linkEntry j).profile ≠ 5 ∧ l.contains n = true ∧ d.linkAligned j = true then
    let first := (d.lane (nth 0 l 0)).atAlign
    let odd := if d.linkUp j then l.filter (fun m => (d.lane m).atAlign != first) else []
    let d1 := foldS odd (fun m s => s.rxFails m 4) d
    let d2 := if odd.isEmpty && d.linkUp j then d1
      else (foldS l (fun m s => s.onLane m (fun u => { u with fifo := u.fifo.drop (u.fifo.length - u.blocks) })) d1).onLink j
        (fun u => { u with rxNext := 0 })
    d2.onLink j (fun u => { u with arrived := [] })
  else d

/-- A data block on lane `n` (R378, R383). -/
def Dev.laneData (n bits : Nat) (d : Dev) : Dev :=
  let d1 := (d.adaptResumes n).streamBlock n ⟨false, leBytes 8 bits⟩
  let test := match d1.laneLink n with | some j => (d1.linkEntry j).profile == 5 | none => false
  if test && d1.flag (LNn_TEST_CTRL_CHECK n) then
    let t := testTaps (d1.get (LNn_TEST_CTRL_PATTERN n))
    let r := checkSeq t.1 t.2 64 bits (d1.lane n).test
    ((d1.addSat (LNn_TEST_ERR_V n) r.1).inc (LNn_TEST_BLOCKS_V n)).onLane n (fun u => { u with test := some r.2 })
  else d1

/-- A FILL with PAD clear, which the elastic buffer deletes or doubles (R376). -/
def Dev.laneFill (n : Nat) (d : Dev) : Dev :=
  let e := (d.lane n).elastic
  let d1 := d.onLane n (fun u => { u with elastic := 0 })
  if e = 1 then d1.inc (LNn_COUNTk_V n 6) else if e = 2 then d1.inc (LNn_COUNTk_V n 7) else d1

/-- `k` GREET blocks of lane `n` belong to no set (R374). -/
def Dev.greetsLost (n k : Nat) (d : Dev) : Dev := foldS (List.range k) (fun _ s => s.rxFails n 5) d

/-- A block that is no GREET ends a set that is arriving. -/
def Dev.greetsEnd (n : Nat) (d : Dev) : Dev :=
  (d.greetsLost n (d.lane n).greets.length).onLane n (fun u => { u with greets := [] })

/-- A GREET on lane `n`: the blocks of a set come in order with a valid CRC-8, every other one counts (R374). -/
def Dev.laneGreet (n : Nat) (crcOk : Bool) (bits : Nat) (d : Dev) : Dev :=
  let index := bits / 256 % 16
  let have' := (d.lane n).greets
  if crcOk ∧ index = have'.length then d.onLane n (fun u => { u with greets := if index = 2 then [] else u.greets ++ [bits] })
  else if crcOk ∧ index = 0 then (d.greetsEnd n).onLane n (fun u => { u with greets := [bits] })
  else (d.greetsEnd n).rxFails n 5

/-- The classes of control blocks that are stream blocks whatever they hold (R362). -/
def streamTypes : List Nat := [0x4B, 0x55, 0x66, 0x87, 0x99, 0xAA, 0xCC]

/-- A block of lane `n` is classed (R362). -/
def Dev.laneClass (n : Nat) (control : Bool) (bits : Nat) (d : Dev) : Dev :=
  let b : RBlock := ⟨control, leBytes 8 bits⟩
  let crcOk := crc8 b.bytes == 0
  let kind := bits % 256
  if !control then (d.greetsEnd n).laneData n bits
  else if kind = 0x33 then d.laneGreet n crcOk bits
  else
    let d1 := d.greetsEnd n
    match kind with
    | 0x1E => if bitOf bits 8 then d1.streamBlock n b else d1.laneFill n
    | 0x2D => if crcOk then d1 else d1.rxFails n 4
    | 0x78 => d1
    | 0xB4 => d1.adaptResumes n
    | _ => if streamTypes.contains kind then d1.streamBlock n b else d1.rxFails n 3

/-- BLOCK_LOCK, with the frequency difference that the receiver measures in 0.1 ppm (R369, R376). -/
def blockLock (n : Nat) (ppm : Int) (d : Dev) : Dev :=
  if d.laneState n = 1 ∨ d.laneState n = 4 then
    (d.putI (LNn_PPM_V n) ppm).laneLocks n
  else d

/-- LOSS_OF_SIGNAL. -/
def lossOfSignal (n : Nat) (d : Dev) : Dev :=
  if d.laneState n = 0 then d
  else if d.laneState n = 4 then (d.put (LNn_STATUS_LOS n) 1).put (LNn_STATUS_LOS_SEEN n) 1
  else (((d.rxFails n 1).put (LNn_STATUS_LOS n) 1).put (LNn_STATUS_LOS_SEEN n) 1).laneGoes n 4

/-- LOSS_OF_LOCK ends block lock. -/
def lossOfLock (n : Nat) (d : Dev) : Dev := if d.laneState n = 0 then d else (d.put (LNn_STATUS_LOL n) 1).lockEnds n

/-- LUNGE_TIMEOUT of a lane in HUNT or LOCK. -/
def lungeTimeout (n : Nat) (d : Dev) : Dev := if d.laneState n = 1 ∨ d.laneState n = 2 then (d.laneGoes n 4).guardFail 1 33 else d

/-- ABSENT_RETRY: the CDR re-acquires and equalisation restarts from its defaults. -/
def absentRetry (n : Nat) (d : Dev) : Dev :=
  if d.laneState n = 4 then (d.put (LNn_EQ_STATUS_CTLE n) 0).setWord (LNn_DFE n) 0 else d

/-! ### ALIGN (R366, R371, R373, R387) -/

/-- R371: is a valid ALIGN on lane `n` of link `j` consistent? -/
def Dev.consistent (d : Dev) (j n : Nat) (a : Align) : Bool :=
  let others := (d.allLanes j).filter (fun m => m != n && d.laneState m == 3)
  decide (a.rate = d.linkRate j) && a.spare == d.isSpare j n && decide (a.lanes = d.linkLanes j)
    && others.all (fun m => d.get (LNn_ALIGN_RX_LINK m) == a.link)
    && (a.spare || (decide (a.lane < a.lanes)
      && (others.filter (fun m => !d.isSpare j m)).all (fun m => d.get (LNn_STATUS_LINK_LANE m) != a.lane)))

/-- The substitution of link `j` advances with the spare's ALIGN (R387). -/
def Dev.spareAlign (j n : Nat) (a : Align) (d : Dev) : Dev :=
  let k := d.get (LKj_STATUS_SPARE_LANE j)
  let live := (d.dataLanes j).any (fun m => d.get (LNn_STATUS_LINK_LANE m) == k && d.laneState m == 3)
  match d.get (LKj_STATUS_SPARE_STATE j) with
  | 1 =>
    if a.dup ∧ a.lane = k then
      (d.put (LKj_STATUS_SPARE_STATE j) 2).onLink j (fun u => { u with compared := !live })
    else d
  | 2 =>
    if (d.link j).compared || !live then
      let d1 := (((d.put (LKj_STATUS_SPARE_STATE j) 3).put (LKj_STATUS_SPARE_IN_USE j) 1).put (LNn_STATUS_LINK_LANE n) k).inc
        (LKj_COUNTk_V j 2)
      let q : FarRequest := (d1.link j).request.getD { cls := 1, trig := d1.free % 16, inst := 16 * j + k }
      let d2 := if (d1.link j).request.isNone then d1.drawn else d1
      ((d2.farSubstituted q n).onLink j (fun u => { u with request := none })).laneWindow j
    else d
  | _ => d

/-- ALIGN_RX: a valid ALIGN on lane `n`. `skew` is the lane's delay for deskew; `late`: it arrives more than 64 blocks after
another lane's ALIGN of this ASEQ. -/
def alignRx (n : Nat) (a : Align) (skew : Nat) (late : Bool) (d : Dev) : Dev :=
  match d.laneLink n with
  | none => d
  | some j =>
    if d.laneState n ≠ 2 ∧ d.laneState n ≠ 3 ∧ d.laneState n ≠ 5 then d
    else
      let ok := d.consistent j n a
      let d1 := (((((d.put (LNn_ALIGN_RX_ASEQ n) a.aseq).put (LNn_ALIGN_RX_LANE n) a.lane).put (LNn_ALIGN_RX_LINK n) a.link).putB
        (LNn_ALIGN_RX_SPARE n) a.spare).putB (LNn_ALIGN_RX_DUP n) a.dup).putB (LNn_ALIGN_RX_RETIRED n) a.retired
      let d2 := d1.onLane n (fun u => { u with atAlign := u.blocks, blocks := 0 })
      if !ok then ((if d2.laneState n = 5 then d2 else d2.laneGoes n 5).guardFail 1 32)
      else
        let d3 := if d2.laneState n = 3 then d2
          else (d2.setLane n 3).put (LNn_LUNGE_US_V n) (((d2.tb 3).total - (d2.lane n).huntAt) / 1000)
        let d4 := if a.spare then d3 else d3.put (LNn_STATUS_LINK_LANE n) a.lane
        let d4 := d4.onLane n (fun u => { u with late := late })
        let d5 := if late then d4.rxFails n 4 else (d4.put (LNn_SKEW_V n) skew).countCheck j n
        let d6 := if a.spare then (d5.spareAlign j n a).lungeTrigger j else d5
        if late then d6 else d6.linkGreets j

/-- SPARE_COMPARE_DONE: 1,024 slots of duplication on link `j` have been compared. -/
def spareCompareDone (j compared mismatches : Nat) (d : Dev) : Dev :=
  if d.get (LKj_STATUS_SPARE_STATE j) = 2 ∧ (d.link j).compared = false then
    ((d.put (LKj_SPARE_COMPARED j) (min compared 65535)).put (LKj_SPARE_MISMATCHES j) (min mismatches 65535)).onLink j
      (fun u => { u with compared := true })
  else d

/-! ### GREET (R367, R374, R375, R386) -/

/-- A GREET set that does not fit makes link `j` INCOMPATIBLE (R374). -/
def Dev.greetRefused (j : Nat) (d : Dev) : Dev := ((d.put (LKj_STATUS_STATE j) 4).inc (LKj_COUNTk_V j 3)).guardFail 1 34

/-- GREET_SET_RX: a GREET set on the aligned lane of link `j` with the lowest link lane number. -/
def greetSetRx (j : Nat) (g : Greet) (d : Dev) : Dev :=
  if d.linkState j = 0 ∨ d.linkState j = 5 ∨ (d.streamLanes j).all (fun n => d.laneState n != 3) = true then d
  else
    let d1 := ((d.put (LKj_PARTNER0_LANES j) g.lanes).put (LKj_PARTNER0_PROFILE j) g.profile).put (LKj_PARTNER0_NODE_ID j) g.nodeId
    let d2 := (d1.put (LKj_PARTNER1_DEVICE j) g.device).put (LKj_PARTNER1_VENDOR j) g.vendor
    let d3 := (((d2.put (LKj_PARTNER2_VALID j) 1).put (LKj_PARTNER2_CAPS j) g.caps).put (LKj_PARTNER2_RATES j) g.rates).put
      (LKj_PARTNER2_REQ j) g.req
    let d4 := (d3.onLink j (fun u => { u with reqRx := g.req, doneRx := g.done })).txSync j
    let fits := g.profile == (d4.linkEntry j).profile && g.lanes == d4.linkLanes j
    match d4.linkState j with
    | 2 => if fits then d4.linkCame j else d4.greetRefused j
    | 3 => if fits then d4
           else
             let d5 := (d4.greetRefused j).inc (LKj_COUNTk_V j 1)
             d5.linkLost j
    | 4 => if fits then d4.linkCame j else d4
    | _ => d4

/-! ### LOCK_N (R259, R375) -/

/-- LOCK_N_HIGH, LOCK_N_LOW of a transmit-only link. -/
def lockNHigh (j : Nat) (d : Dev) : Dev := if (d.linkEntry j).txOnly ∧ d.linkState j = 5 then d.linkCame j else d
def lockNLow (j : Nat) (d : Dev) : Dev := if (d.linkEntry j).txOnly ∧ d.linkUp j = true then d.linkDrop j false else d

/-! ### EXERCISE (R365, R380) -/

/-- The next EXERCISE block of lane `n`. -/
def Dev.exerciseBlock (n : Nat) (d : Dev) : Dev :=
  let p := prbs 28 31 56 (d.lane n).exerciseTx
  (d.onLane n (fun u => { u with exerciseTx := p.2 })).laneTraffic n ⟨true, ctrlBytes [(1, 0xB4), (7, p.1)]⟩

/-- EXERCISE_COLUMN_TX: 256 EXERCISE columns on link `j` after 65,536 slots without traffic. -/
def exerciseColumnTx (j : Nat) (d : Dev) : Dev :=
  if d.linkState j = 0 ∨ (d.linkEntry j).exercise = false then d
  else (foldS (List.range 256) (fun _ s => foldS ((s.allLanes j).filter s.laneSends) Dev.exerciseBlock s) (d.slotRoom j 256)).slotsDone j 256

/-- EXERCISE_RX: the 56 bits of an EXERCISE block against the sequence that the lane's first one seeds (R380). -/
def exerciseRx (n bits : Nat) (d : Dev) : Dev :=
  if d.laneState n ≠ 2 ∧ d.laneState n ≠ 3 ∧ d.laneState n ≠ 5 then d
  else
    let r := checkSeq 28 31 56 bits (d.lane n).exercise
    ((d.addSat (LNn_COUNTk_V n 9) r.1).onLane n (fun u => { u with exercise := some r.2 })).adaptResumes n

/-! ### A block on a lane (R361, R369, R376, R382) -/

/-- The ALIGN in the payload of a control block, and the GREET set in three (R366, R367). -/
def alignOfBits (v : Nat) : Align :=
  { lane := bitsOf v 8 4, spare := bitOf v 12, dup := bitOf v 13, retired := bitOf v 14, link := bitsOf v 16 4,
    lanes := bitsOf v 20 4 + 1, aseq := bitsOf v 24 16, rate := bitsOf v 48 3 }
def greetOfBits (a b c : Nat) : Greet :=
  { nodeId := bitsOf a 16 16, profile := bitsOf a 32 8, lanes := bitsOf a 40 8, rates := bitsOf a 48 8, vendor := bitsOf b 16 16,
    device := bitsOf b 32 16, caps := bitsOf b 48 8, req := bitsOf c 16 8, done := bitsOf c 24 8 }

/-- Is lane `n` the aligned lane of link `j` with the lowest link lane number (R374)? -/
def Dev.greetLane (d : Dev) (j n : Nat) : Bool :=
  d.laneState n == 3 && (d.streamLanes j).contains n
    && (d.streamLanes j).all (fun m => d.laneState m != 3 || decide (d.get (LNn_STATUS_LINK_LANE n) ≤ d.get (LNn_STATUS_LINK_LANE m)))

/-- What a control block that a loopback returns does beyond its class: ALIGN_RX, GREET_SET_RX, EXERCISE_RX, which the table gives rows of
their own for blocks off the pins (assumption 87). -/
def Dev.blockActs (n bits : Nat) (greets : List Nat) (d : Dev) : Dev :=
  let crcOk := crc8 (leBytes 8 bits) == 0
  match bits % 256 with
  | 0x2D => if crcOk then alignRx n (alignOfBits bits) 0 false d else d
  | 0xB4 => exerciseRx n (bits / 256) d
  | 0x33 =>
    match greets, d.laneLink n with
    | [a, b], some j => if crcOk && bits / 256 % 16 == 2 && d.greetLane j n then greetSetRx j (greetOfBits a b bits) d else d
    | _, _ => d
  | _ => d

/-- The blocks that FAR_END sends for one received: a FILL that the elastic buffer deletes goes no further, one that it doubles goes
twice (R376, R382). -/
def Dev.farEnd (n : Nat) (b : RBlock) (d : Dev) : Dev :=
  let fill := b.control && nth 0 b.bytes 0 == 0x1E && !bitOf (ofLE b.bytes) 8
  match fill, (d.lane n).elastic with
  | true, 1 => d
  | true, 2 => (d.laneSend n b).laneSend n b
  | _, _ => d.laneSend n b

/-- 66 bits reach lane `n`'s receiver, header bit H0 in bit 0, and leave its elastic buffer with a fill. -/
def Dev.laneTakes (n serial fill : Nat) (looped : Bool) (d : Dev) : Dev :=
  let valid := serial % 4 == 1 || serial % 4 == 2
  let control := serial % 4 == 1
  let p := descramble 64 (d.lane n).rx (serial / 4)
  let d1 := d.onLane n (fun u => { u with rx := p.2 })
  if d.laneState n = 1 ∨ d.laneState n = 4 then d1.laneHunts n valid
  else
    let d2 := d1.onLane n (fun u => { u with elastic := if 20 < fill then 1 else if fill < 12 then 2 else u.elastic })
    let d3 := if valid && d.get (LNn_CTRL_LOOPBACK n) == 3 then d2.farEnd n ⟨control, leBytes 8 p.1⟩ else d2
    let d4 := (if valid then d3.laneClass n control p.1 else d3.rxFails n 2).headerSeen n valid
    let d5 := if looped && control then d4.blockActs n p.1 (d.lane n).greets else d4
    if fill = 0 ∨ 32 ≤ fill then (d5.rxFails n 8).lockEnds n else d5

/-- LANE_BLOCK_RX: a lane receives a block: header bits H0 and H1, the 64 payload bits as its pins bring them, and the fill of its elastic
buffer after it. Under a near-end loopback the block is the oldest that the lane has sent itself (R382). -/
def laneBlockRx (n : Nat) (h0 h1 : Bool) (payload fill : Nat) (d : Dev) : Dev :=
  let way := d.get (LNn_CTRL_LOOPBACK n)
  if d.laneState n = 0 then d
  else if way = 1 ∨ way = 2 then
    match (d.lane n).loop with
    | [] => d
    | serial :: r => (d.onLane n (fun u => { u with loop := r })).laneTakes n serial fill true
  else d.laneTakes n (inverted (d.flag (LNn_CTRL_RX_INVERT n)) (b2n h0 + 2 * b2n h1 + 4 * (payload % 2 ^ 64))) fill false

/-- ALIGN_COLUMN_TX of link `j`. -/
def alignColumnTx (j : Nat) (d : Dev) : Dev := if d.linkState j = 0 then d else (d.alignColumn j).laneWindow j

/-! ### Register writes (R381, R382, R387, R390) -/

/-- SPARE_GO, which no substitution follows under the forbid policy (R387, R497). Its TRIGGER is a free value (assumption 2). -/
def Dev.spareGo (j k : Nat) (d : Dev) : Dev :=
  if d.policy 1 = 2 then
    let q : FarRequest := { cls := 1, trig := d.free % 16, inst := 16 * j + k }
    ((d.drawn.inc FAR_FORBID_COUNT_V).farLog q 0 4).farEvt 3
  else d.spareStart j k none

/-- A write of LKj_CTRL: RELUNGE, SPARE_GO, TX_DUP. A lane that SPARE_FOR names must be one of the link's (R35), and in SAFE no
write starts a lane (R16). -/
def lkCtrlWrite (j v : Nat) (d : Dev) : Dev :=
  d.writeVia (LKj_CTRL j) v (fun s => s.linkState j != 0 && (!bitOf v 30 || s.spareGoOk j (bitsOf v 24 4))
    && (!bitOf v 23 || decide (bitsOf v 24 4 < s.linkLanes j)) && !(s.mode == 7 && (bitOf v 31 || bitOf v 30))) (fun s =>
    if bitOf v 31 then s.relungeAll j
    else if bitOf v 30 then s.spareGo j (bitsOf v 24 4)
    else s)

/-- A write of LNn_EYE_CTRL: GO starts a point (R381). -/
def eyeCtrlWrite (n v : Nat) (d : Dev) : Dev :=
  d.writeVia (LNn_EYE_CTRL n) v (fun s => !(bitOf v 31 && (s.lane n).eyeBusy)) (fun s =>
    if bitOf v 31 then (s.setWord (LNn_EYE_RESULT n) 0).onLane n (fun u => { u with eyeBusy := true }) else s)

/-- EYE_SCAN_DONE. -/
def eyeScanDone (n errors : Nat) (d : Dev) : Dev :=
  if !(d.lane n).eyeBusy then d
  else
    let d1 := (d.put (LNn_EYE_RESULT_DONE n) 1).put (LNn_EYE_RESULT_ERRORS n) (min errors (2 ^ 24 - 1))
    (d1.putB (LNn_EYE_RESULT_SATURATED n) (decide (2 ^ 24 - 1 < errors))).onLane n (fun u => { u with eyeBusy := false })

/-- A write of LNn_CTRL: a loopback only off an UP link, or on a TEST link (R382). -/
def lnCtrlWrite (n v : Nat) (d : Dev) : Dev :=
  d.writeVia (LNn_CTRL n) v (fun s => bitsOf v 8 2 == 0
    || (match s.laneLink n with | some j => !s.linkUp j || (s.linkEntry j).profile == 5 | none => true)) (fun s =>
    if d.get (LNn_CTRL_LOOPBACK n) = bitsOf v 8 2 then s else s.onLane n (fun u => { u with loop := [] }))

/-- A write of LNn_TEST_CTRL: INJECT marks the next test block; a new pattern seeds the checker again. On a TEST link a stream slot
follows the write. -/
def testCtrlWrite (n v : Nat) (d : Dev) : Dev :=
  let old := d.word (LNn_TEST_CTRL n)
  d.writeVia (LNn_TEST_CTRL n) v (fun _ => true) (fun s => s.onLane n (fun u => { u with
    inject := u.inject || bitOf v 27,
    test := if bitsOf old 28 3 = bitsOf v 28 3 then u.test else none })
    |> fun t => match t.laneLink n with
      | some j => if (t.linkEntry j).profile = 5 then t.testSlot j else t
      | none => t)

/-! ### Equalisation and margin (R378, R379) -/

/-- ADAPT_FREEZE. -/
def adaptFreeze (n : Nat) (d : Dev) : Dev :=
  if d.flag (LNn_EQ_CTRL_ADAPT n) && d.flag (LNn_EQ_CTRL_FREEZE_EN n) && !d.flag (LNn_EQ_STATUS_FROZEN n)
      && (d.laneState n == 2 || d.laneState n == 3 || d.laneState n == 5) then
    let d1 := (d.put (LNn_EQ_STATUS_FROZEN n) 1).put (LNn_EQ_STATUS_SNAP_VALID n) 1
    ((d1.put (LNn_EQ_STATUS_CTLE_SNAP n) (d.get (LNn_EQ_STATUS_CTLE n))).setWord (LNn_SNAP_DFE n) (d.word (LNn_DFE n))).inc
      (LNn_COUNTk_V n 10)
  else d

/-- REVERT_CHECK, 8,192 slots after adaptation resumed. -/
def revertCheck (n : Nat) (d : Dev) : Dev :=
  if !d.flag (LNn_EQ_STATUS_SNAP_VALID n) || d.flag (LNn_EQ_STATUS_FROZEN n) then d
  else if (d.lane n).marginLow && d.flag (LNn_EQ_CTRL_REVERT_EN n) then
    let d1 := (d.put (LNn_EQ_STATUS_CTLE n) (d.get (LNn_EQ_STATUS_CTLE_SNAP n))).setWord (LNn_DFE n) (d.word (LNn_SNAP_DFE n))
    (d1.put (LNn_EQ_STATUS_REVERTED n) 1).inc (LNn_COUNTk_V n 11)
  else d.put (LNn_EQ_STATUS_SNAP_VALID n) 0

/-- EYE_MARGIN_UPDATE: HEIGHT in mV, WIDTH in 1/64 UI, and the coefficients that adaptation has reached. -/
def eyeMarginUpdate (n height width ctle dfe : Nat) (d : Dev) : Dev :=
  if d.laneState n = 0 then d
  else
    let d1 := (d.put (LNn_EYE_MARGIN_HEIGHT n) (min height 255)).put (LNn_EYE_MARGIN_WIDTH n) (min width 64)
    let low := decide (d1.get (LNn_EYE_MARGIN_HEIGHT n) < d1.get (LNn_EQ_CTRL_EYE_MIN n))
      || decide (d1.get (LNn_EYE_MARGIN_WIDTH n) < d1.get (LNn_EQ_CTRL_EYE_MIN_W n))
    let ms := if low = (d.lane n).marginLow then (d.lane n).marginMs + 1 else 1
    let d2 := d1.onLane n (fun u => { u with marginLow := low, marginMs := ms })
    let d3 := if !low && decide (1000 < ms) then d2.put (LNn_STATUS_DEGRADED n) 0 else d2
    if d3.flag (LNn_EQ_CTRL_ADAPT n) && !d3.flag (LNn_EQ_STATUS_FROZEN n) then
      (d3.put (LNn_EQ_STATUS_CTLE n) ctle).setWord (LNn_DFE n) (dfe % 2 ^ 30)
    else d3

/-- LANE_DEGRADED: the margin has been low for 1 s (R379, R496). -/
def laneDegraded (n : Nat) (d : Dev) : Dev :=
  if !(d.lane n).marginLow || d.flag (LNn_STATUS_DEGRADED n) then d
  else
    let d1 := d.put (LNn_STATUS_DEGRADED n) 1
    match d1.laneLink n with
    | some j => (d1.farTrigger { cls := 1, trig := 2, inst := d1.laneInstance n }).laneWindow j
    | none => d1

/-! ### Lane power (R384) -/

/-- Lane `n` moves to a power state. The time of an exit is a free value below the bound (assumption 2). -/
def Dev.lanePower (n st : Nat) (d : Dev) : Dev :=
  let was := d.get (LNn_POWER_STATE n)
  let d1 := d.put (LNn_POWER_STATE n) st
  let rx := match d.laneLink n with | some j => !(d.linkEntry j).txOnly | none => false
  let d2 :=
    if st < 2 ∧ 2 ≤ was then (if rx then d1.setLane n 1 else d1).onLane n (fun u => { u with tx := 2 ^ 58 - 1 })
    else if 2 ≤ st ∧ was < 2 then
      let s := d1.setLane n 0
      match s.laneLink n with
      | some j =>
        let s0 := if s.isSpare j n then s.spareFails j else s
        let s1 := if s0.linkState j = 0 then s0
          else if s0.linkUp j then (s0.linkFalls j).linkLost j else s0.linkFalls j
        s1.put (LNn_TX_STATUS_TXSTATE n) 0
      | none => s
    else d1
  if st = 0 ∧ was ≠ 0 then
    (d2.put (LNn_POWER_EXIT_US n) (if was = 1 then 0 else d2.free % (if was = 2 then 31 else 301))).drawn
  else d2

/-- The lanes of link `j` move to a power state; on exit to L-Active the link starts with an ALIGN column (R364). -/
def Dev.linkPower (j st : Nat) (d : Dev) : Dev :=
  let off := (d.allLanes j).any (fun n => 2 ≤ d.get (LNn_POWER_STATE n))
  let d1 := (foldS (d.allLanes j) (fun n s => s.lanePower n st) d).txSync j
  if st < 2 && off && d1.linkState j != 0 then d1.alignColumn j else d1.streamRelease j

/-- CMD_RSP_RX on link `j`: STATUS, SEQ, ADDR and data of a driver's or a panel controller's response (R257, R258, R316). -/
def cmdRspRx (j status seq addr data : Nat) (d : Dev) : Dev :=
  let e := d.linkEntry j
  if !d.linkUp j then d
  else if e.profile = 2 then d.cmdRsp e.owner status seq data
  else if e.profile = 3 ∧ addr = 3 then d.panelStatus e.owner data
  else d

/-! ### The commands -/

/-- LANE_BLOCK_RX. -/
def execLaneBlockRx (n : Fin 36) (h0 h1 : Bool) (payload : BitVec 64) (fill : Fin 33) (s : State) :=
  s.on (laneBlockRx n h0 h1 payload.toNat fill)
/-- BLOCK_LOCK. -/
def execBlockLock (n : Fin 36) (ppm : Int) (s : State) := s.on (blockLock n ppm)
/-- BLOCK_LOCK_LOSS. -/
def execBlockLockLoss (n : Fin 36) (s : State) := s.on (Dev.lockEnds n)
/-- LOSS_OF_SIGNAL. -/
def execLossOfSignal (n : Fin 36) (s : State) := s.on (lossOfSignal n)
/-- LOSS_OF_LOCK. -/
def execLossOfLock (n : Fin 36) (s : State) := s.on (lossOfLock n)
/-- LUNGE_TIMEOUT. -/
def execLungeTimeout (n : Fin 36) (s : State) := s.on (lungeTimeout n)
/-- ABSENT_RETRY. -/
def execAbsentRetry (n : Fin 36) (s : State) := s.on (absentRetry n)
/-- ALIGN_RX. -/
def execAlignRx (n : Fin 36) (a : Align) (skew : Fin 65) (late : Bool) (s : State) := s.on (alignRx n a skew late)
/-- GREET_SET_RX. -/
def execGreetSetRx (j : Fin 16) (g : Greet) (s : State) := s.on (greetSetRx j g)
/-- ALIGN_COLUMN_TX. -/
def execAlignColumnTx (j : Fin 16) (s : State) := s.on (alignColumnTx j)
/-- EXERCISE_COLUMN_TX. -/
def execExerciseColumnTx (j : Fin 16) (s : State) := s.on (exerciseColumnTx j)
/-- EXERCISE_RX. -/
def execExerciseRx (n : Fin 36) (bits : BitVec 56) (s : State) := s.on (exerciseRx n bits.toNat)
/-- SPARE_COMPARE_DONE. -/
def execSpareCompareDone (j : Fin 16) (compared mismatches : Nat) (s : State) := s.on (spareCompareDone j compared mismatches)
/-- ADAPT_FREEZE. -/
def execAdaptFreeze (n : Fin 36) (s : State) := s.on (adaptFreeze n)
/-- REVERT_CHECK. -/
def execRevertCheck (n : Fin 36) (s : State) := s.on (revertCheck n)
/-- EYE_MARGIN_UPDATE. -/
def execEyeMarginUpdate (n : Fin 36) (height width : Nat) (ctle : Fin 32) (dfe : BitVec 30) (s : State) :=
  s.on (eyeMarginUpdate n height width ctle dfe.toNat)
/-- LANE_DEGRADED. -/
def execLaneDegraded (n : Fin 36) (s : State) := s.on (laneDegraded n)
/-- EYE_SCAN_DONE. -/
def execEyeScanDone (n : Fin 36) (errors : Nat) (s : State) := s.on (eyeScanDone n errors)
/-- LOCK_N_HIGH. -/
def execLockNHigh (j : Fin 16) (s : State) := s.on (lockNHigh j)
/-- LOCK_N_LOW. -/
def execLockNLow (j : Fin 16) (s : State) := s.on (lockNLow j)
/-- CMD_RSP_RX. -/
def execCmdRspRx (j : Fin 16) (status seq : Fin 16) (addr : Fin 256) (data : Word) (s : State) :=
  s.on (cmdRspRx j status seq addr data.toNat)

end Sys2Proof.Machine
end

