-- ==== Sys2Proof/Machine/CalRun.lean ====
section
/-! DEFINITION. The runs of calibration (chapter 14, R482 to R491): their start, the check of REFV_EXT, what they measured and what follows,
and the runs of INIT. -/
namespace Sys2Proof.Machine

/-! ### The start of a run (R482, R487 to R489) -/

/-- The PENDING item whose turn it is (R482, R489, R490). -/
def Dev.calTurn (d : Dev) : Option Nat :=
  (d.itemsIn 1).find? (fun i => (d.itemPanel i == 0 || d.itemPanel i == 2) && decide (nth 0 d.cal.notBefore i ≤ (d.tb 3).total))

/-- May a run start (R482, R489, R513)? -/
def Dev.calMayStart (d : Dev) : Bool :=
  decide (3 ≤ d.mode ∧ d.mode ≤ 6) && decide (d.shedLevel < 3) && d.cal.measuring.isNone && !d.flag CAL_STATUS_REFV_BAD && !d.rungHolds

/-- R489: a check against REFV_EXT fails. -/
def Dev.refvFailed (d : Dev) : Dev :=
  let d1 := ((d.inc (CAL_COUNTk_V 13)).guardFail 11 0).onCal (fun u => { u with refvFails := u.refvFails + 1 })
  if 3 ≤ d1.cal.refvFails then (d1.put CAL_STATUS_REFV_BAD 1).calEvt 3 else d1

/-- R487: what the check of REFV_EXT against the bandgap gives, both in µV, after a drift of `drift` µV over 1 ms: 0 pass, 1 REFV_RANGE,
2 REFV_DRIFT; at the end of a run `start` holds REFV_EXT at its start. -/
def refvReason (drift refv bandgap : Nat) (start : Option Nat) : Nat :=
  let apart (a b : Nat) : Nat := (a - b) + (b - a)
  if 15 * bandgap < 1000 * apart refv bandgap then 1
  else if 500 ≤ drift ∨ start.any (fun x => decide (500 ≤ apart refv x)) then 2
  else 0

/-- CAL_REFV_UV and CAL_BANDGAP_UV take a reading. -/
def Dev.refvRead (refv bandgap : Nat) (d : Dev) : Dev := (d.put CAL_REFV_UV_V refv).put CAL_BANDGAP_UV_V bandgap

/-- A run of item `i` starts, and its opening check finds REFV_EXT at `refv`. -/
def Dev.calStarts (i refv : Nat) (d : Dev) : Dev :=
  ((d.put (CAL_ITEMi_STATE i) 2).inc (CAL_COUNTk_V 0)).onCal (fun u => { u with
    measuring := some i, quietWait := false, refvStart := refv, results := u.results.filter (fun r => r.item != i),
    startTemp := updAt u.startTemp i (fun _ => d.itemTemp i) })

/-- Is the output of item `i` too busy to measure (R488)? -/
def Dev.notQuiet (d : Dev) (i ua : Nat) : Bool := quietItem i && decide (d.get CAL_CTRL_QUIET_UA ≤ ua)

/-- CAL_RUN_START: the drift of REFV_EXT over the last 1 ms, REFV_EXT and the bandgap in µV, and the mean current of the output in µA: a
run that must be quiet waits while it is not (R488). -/
def calRunStart (drift refv bandgap ua : Nat) (d : Dev) : Dev :=
  match d.calTurn with
  | none => d
  | some i =>
    if !d.calMayStart then d
    else
      let d1 := (d.refvRead refv bandgap).calStarts i refv
      let reason := refvReason drift refv bandgap none
      if reason ≠ 0 then (d1.calAbort i 1 reason).refvFailed
      else
        let d2 := d1.onCal (fun u => { u with refvFails := 0, quietWait := d.notQuiet i ua })
        (if d.notQuiet i ua then d2.inc (CAL_COUNTk_V 14) else d2).calSync

/-- CAL_QUIET_TIMEOUT: a run has waited for 100 ms (R488, R489). -/
def calQuietTimeout (d : Dev) : Dev := match d.cal.measuring with
  | some i => if d.cal.quietWait then d.calAbort i 1 3 else d
  | none => d

/-! ### What a run measured (R483 to R486) -/

/-- No element of item `i` is in range (R485). -/
def Dev.calFailed (i : Nat) (d : Dev) : Dev :=
  let d1 := ((d.put (CAL_ITEMi_STATE i) 3).calEnded i 2 0).inc (CAL_COUNTk_V 5)
  ((d1.calEvt 2).flogWrite clsCal 2 0xFF [i]).calSync

/-- Is a measured element of item `i` out of range (R485)? -/
def CalMeas.outOfRange (m : CalMeas) (i : Nat) : Bool :=
  if i < 43 then decide (10000 < m.gain.natAbs) || decide (2500 < m.err.natAbs)
  else if i < 79 then decide (100 < m.err.natAbs) || decide (200 < m.activeErr.natAbs)
  else decide (10000 < m.gain.natAbs)

/-- The run's outcome for an output item (R483 to R485). -/
def Dev.calOutput (i : Nat) (m : CalMeas) (d : Dev) : Dev :=
  let result (kind : Nat) (s : Dev) : Dev := s.onCal (fun u => { u with results := u.results ++ [{ item := i, kind := kind, m := m }] })
  let wide (gain err : Int) : Bool := decide (10000 < gain.natAbs) || decide (2500 < err.natAbs)
  let spare := d.flag (CAL_ITEMi_SPARE_OK i)
  let spareOut := m.outOfRange i
  let left := roundDiv (m.activeErr * 127 + trimFor m.activeErr * 2500) 127
  let activeOut := wide m.activeGain left
  if spare && !spareOut && decide (m.err.natAbs ≤ 200) then result 1 d
  else
    let d1 := if spare && spareOut then
        ((d.put (CAL_ITEMi_SPARE_OK i) 0).elemRetired i (d.spareElem i)).farRetire (calRequest i (d.spareElem i)) (2 * i + d.spareElem i)
      else d
    if !activeOut then (result 2 d1).inc (CAL_COUNTk_V 3)
    else if spare && !spareOut then
      let q := calRequest i (d.get (CAL_ITEMi_ELEMENT i))
      if d1.policy 5 == 0 || (d1.farReleased 5).any (·.inst == q.inst) then result 3 (d1.farTrigger q)
      else ((result 2 (d1.farTrigger q)).inc (CAL_COUNTk_V 3)).onCal (fun u => { u with
        asked := { item := i, kind := 4, m := m } :: u.asked.filter (fun x => x.item != i) })
    else d1.calFailed i

/-- R485, R496: the calibration of lane `n` is out of range: a data lane, or a spare that carries one, is a trigger that acts in its window; a spare that
carries none is retired. -/
def Dev.laneOutOfRange (n : Nat) (d : Dev) : Dev :=
  let q : FarRequest := { cls := 1, trig := 4, inst := d.laneInstance n }
  let j := d.get (LNn_STATUS_LINK n)
  match d.get (LNn_STATUS_ROLE n) with
  | 0 => d
  | 2 =>
    if d.flag (LKj_STATUS_SPARE_IN_USE j) then (d.farTrigger q).laneWindow j
    else (((d.inc (FAR_TRIGk_V 4)).farRetire { q with inst := 16 * j + 15 } n).put (LKj_STATUS_SPARE_STATE j) 4)
  | _ => (d.farTrigger q).laneWindow j

/-- What follows from the measurements `m` of a run of item `i`: a result that waits for its safe instant, or the item's failure. -/
def Dev.calOutcome (i : Nat) (m : CalMeas) (d : Dev) : Dev :=
  let plain (s : Dev) : Dev := s.onCal (fun u => { u with results := u.results ++ [{ item := i, kind := 0, m := m }] })
  if i < 43 then d.calOutput i m
  else if !m.outOfRange i then plain d
  else if i < 79 then (d.calFailed i).laneOutOfRange (i - 43)
  else if i = 79 then d.calFailed i
  else (d.calFailed i).sensorFails (d.sensorOf (i - 80)) 4

/-- The measurements of a run of item `i` end: the closing check, and the result. -/
def Dev.calMeasured (drift refv bandgap i : Nat) (m : CalMeas) (d : Dev) : Dev :=
  let d1 := d.refvRead refv bandgap
  let reason := refvReason drift refv bandgap (some d.cal.refvStart)
  if reason ≠ 0 then (d1.calAbort i 1 reason).refvFailed
  else
    let d2 := d1.onCal (fun u => { u with measuring := none, quietWait := false, refvFails := 0 })
    (d2.calOutcome i m).calSync |> calResultApply i

/-- CAL_MEASURE_DONE: what the closing check and the run measured. A run that waits for a quiet output has measured nothing while the
output's current has not fallen (R488). -/
def calMeasureDone (drift refv bandgap : Nat) (m : CalMeas) (d : Dev) : Dev :=
  match d.cal.measuring with
  | none => d
  | some i => if d.cal.quietWait && d.notQuiet i m.ua then d else d.calMeasured drift refv bandgap i m

/-- REFV_RECHECK, once per second while REFV_BAD (R489). -/
def refvRecheck (drift refv bandgap : Nat) (d : Dev) : Dev :=
  if !d.flag CAL_STATUS_REFV_BAD then d
  else
    let d1 := d.refvRead refv bandgap
    if refvReason drift refv bandgap none = 0 then (d1.put CAL_STATUS_REFV_BAD 0).onCal (fun u => { u with refvFails := 0 })
    else (d1.inc (CAL_COUNTk_V 13)).guardFail 11 0

/-! ### INIT (R482, R493) -/

/-- The measurements of an INIT run as those of a run: the element that is not active is its spare. -/
def InitRun.meas (x : InitRun) (active : Nat) : CalMeas :=
  let (m, o) := if active = 0 then (x.a, x.b) else (x.b, x.a)
  if x.item < 43 then { o with activeGain := m.gain, activeErr := m.err, ua := x.ua } else { m with ua := x.ua }

/-- R482: an INIT run of an item: both elements measured with the panels unloaded, checked as every run (R487 to R489). -/
def Dev.calInitRun (x : InitRun) (d : Dev) : Dev :=
  if d.flag CAL_STATUS_REFV_BAD then d
  else
    let i := x.item
    let d1 := ((d.refvRead x.refv x.bandgap).inc (CAL_COUNTk_V 15)).calStarts i x.refv
    let reason := refvReason x.drift x.refv x.bandgap none
    if reason ≠ 0 then (d1.calAbort i 1 reason).refvFailed
    else
      let d2 := d1.onCal (fun u => { u with refvFails := 0 })
      if d.notQuiet i x.ua then (d2.inc (CAL_COUNTk_V 14)).calAbort i 1 3
      else
        let d3 := d2.calMeasured x.driftEnd x.refvEnd x.bandgapEnd i (x.meas (d.get (CAL_ITEMi_ELEMENT i)))
        if d3.get (CAL_ITEMi_STATE i) = 1 then d3
        else d3.onCal (fun u => { u with elems := updAt u.elems i (fun e => (e.keep 0 x.a).keep 1 x.b) }) |>.realise i

/-! ### The commands -/

/-- CAL_RUN_START. -/
def execCalRunStart (drift refv bandgap ua : Nat) (s : State) := s.on (calRunStart drift refv bandgap ua)
/-- CAL_MEASURE_DONE. -/
def execCalMeasureDone (drift refv bandgap : Nat) (m : CalMeas) (s : State) := s.on (calMeasureDone drift refv bandgap m)
/-- CAL_QUIET_TIMEOUT. -/
def execCalQuietTimeout (s : State) := s.on calQuietTimeout
/-- REFV_RECHECK. -/
def execRefvRecheck (drift refv bandgap : Nat) (s : State) := s.on (refvRecheck drift refv bandgap)

end Sys2Proof.Machine
end

