-- ==== Sys2Proof/Machine/Dma.lean ====
section
/-! DEFINITION. The DMA channels, MSI-X and the event ring's registers, and the PCI Express link (chapter 11, R392 to R408,
R591). -/
namespace Sys2Proof.Machine

/-- Host memory as the host has written it by now: the block reads it over the bus. -/
def Dev.given (l : List Host.Cell) (d : Dev) : Dev := l.foldl (fun s c => s.hostStore c.1 [c.2]) d

/-! ### Descriptors (R398 to R400) -/

/-- A descriptor as the ring holds it. -/
structure DmaDesc where
  src : Nat
  dst : Nat
  len : Nat
  flags : Nat
  tag : Nat
  pattern : Nat
deriving DecidableEq, Repr

/-- The bus address of descriptor `i` of channel `c`. -/
def Dev.dmaAddr (d : Dev) (c i : Nat) : Nat := d.get (DMAc_RING_LO_V c) + d.get (DMAc_RING_HI_V c) * 2 ^ 32 + 32 * i

/-- The descriptor at HEAD. -/
def Dev.dmaDesc (d : Dev) (c : Nat) : DmaDesc :=
  let b := d.hostBytes (d.dmaAddr c (d.get (DMAc_HEAD_V c))) 32
  let f (o n : Nat) : Nat := ofLE ((b.drop o).take n)
  { src := f 0 8, dst := f 8 8, len := f 16 4, flags := f 20 2, tag := f 22 2, pattern := f 24 4 }

/-- The entries of channel `c`'s ring. -/
def Dev.dmaSize (d : Dev) (c : Nat) : Nat := 2 ^ d.get (DMAc_RING_SIZE_V c)

/-- IDLE with work: RUN, or WAIT for a descriptor with WAIT; a channel whose ENABLE is 0 stops (R401). -/
def Dev.dmaNext (c : Nat) (d : Dev) : Dev :=
  if d.get (DMAc_STATUS_STATE c) ≠ 1 then d
  else if !d.flag (DMAc_CTRL_ENABLE c) then d.put (DMAc_STATUS_STATE c) 0
  else if d.get (DMAc_TAIL_V c) = d.get (DMAc_HEAD_V c) then d
  else if bitOf (d.dmaDesc c).flags 2 then d.put (DMAc_STATUS_STATE c) 3
  else if d.rungHolds then d else d.put (DMAc_STATUS_STATE c) 2

/-- Channel `c` is released to RUN, at once or when the rung that holds it is left (R510). -/
def Dev.dmaRun (c : Nat) (d : Dev) : Dev :=
  if d.rungHolds then { d with power := { d.power with dmaGo := c :: d.power.dmaGo } } else d.put (DMAc_STATUS_STATE c) 2

/-- What a rung held resumes. -/
def Dev.dmaResume (d : Dev) : Dev :=
  let go := d.power.dmaGo
  foldS (List.range 8) (fun c s => if go.contains c then s.put (DMAc_STATUS_STATE c) 2 else s.dmaNext c)
    { d with power := { d.power with dmaGo := [] } }

/-- What channel `c` writes to RESULT of the descriptor at HEAD. -/
def Dev.dmaResult (c code : Nat) (d : Dev) : Dev := d.hostStore (d.dmaAddr c (d.get (DMAc_HEAD_V c)) + 28) (leBytes 4 (2 ^ 31 + code))

/-- The code of R400 that the descriptor fails with before any data moves: BAD_DESC, DEV_RANGE, OWNER; 0 for none. -/
def Dev.dmaCheck (d : Dev) (q : DmaDesc) : Nat :=
  let srcDev := bitOf q.flags 0
  let dstDev := bitOf q.flags 1
  let fill := bitOf q.flags 4
  if (!srcDev && !dstDev) || q.len == 0 || decide (16777216 < q.len) || decide (32 ≤ q.flags) then 5
  else if (srcDev && !fill && !agentRange q.src q.len) || (dstDev && !agentRange q.dst q.len) then 2
  else if dstDev && (banksOf q.dst q.len).any (fun b => !d.mayWrite b 4) then 4
  else 0

/-- A descriptor fails with a code (R400). -/
def Dev.dmaFail (c code : Nat) (d : Dev) : Dev :=
  let q := d.dmaDesc c
  let d1 := if code = 4 then foldS ((banksOf q.dst q.len).filter (fun b => !d.mayWrite b 4))
      (fun b s => s.violation b (max q.dst (0x4000000000 + b * 0x80000))) d else d
  let d2 := ((d1.dmaResult c code).put (DMAc_STATUS_LAST_RESULT c) code).put (DMAc_STATUS_ERR_INDEX c) (d.get (DMAc_HEAD_V c))
  let d3 := (d2.inc (DMAc_ERR_COUNT_V c)).put (DMAc_STATUS_STATE c) (if d.flag (DMAc_CTRL_ENABLE c) then 4 else 0)
  d3.post clsDma code c [q.tag]

/-- The bytes of a FILL. -/
def fillBytes (pattern n : Nat) : List Byte := (List.range n).map (fun k => BitVec.ofNat 8 (pattern / 2 ^ (k % 4 * 8)))

/-- DMA_DESCRIPTOR_DONE: the descriptor at HEAD has moved its data; RESULT, then the event (R399). `errs` is what reading device
memory found. -/
def dmaDescriptorDone (c : Nat) (host : List Host.Cell) (errs : List (Nat × Ecc)) (d : Dev) : Dev :=
  let d0 := d.given host
  if d0.get (DMAc_STATUS_STATE c) ≠ 2 then d0
  else
    let q := d0.dmaDesc c
    let code := d0.dmaCheck q
    if code ≠ 0 then d0.dmaFail c code
    else
      let (bad, bytes, d1) :=
        if bitOf q.flags 4 then (false, fillBytes q.pattern q.len, d0)
        else if bitOf q.flags 0 then d0.agentRead 4 q.src q.len errs
        else (false, d0.hostBytes q.src q.len, d0)
      if bad then d1.dmaFail c 3
      else
        let (stored, d1') := if bitOf q.flags 1 then d1.waveKept q.dst bytes else (bytes, d1)
        let d2 := if bitOf q.flags 1 then d1'.agentWrite 4 q.dst stored else (d1'.hostStore q.dst bytes).send (.hostWrite q.dst bytes)
        let d3 := (d2.dmaResult c 0).put (DMAc_STATUS_LAST_RESULT c) 0
        let d4 := (d3.inc (DMAc_DONE_COUNT_V c)).addWrap (DMAc_BYTES_V c) q.len
        let d5 := d4.put (DMAc_HEAD_V c) ((d4.get (DMAc_HEAD_V c) + 1) % d4.dmaSize c)
        let d6 := if bitOf q.flags 3 then d5.post clsDma 0 c [q.tag] else d5
        (d6.put (DMAc_STATUS_STATE c) 1).dmaNext c

/-- DMA_DESCRIPTOR_FAIL: HOST_READ is the bus's word, every other code the descriptor's own or its source's. -/
def dmaDescriptorFail (c : Nat) (host : List Host.Cell) (hostRead : HostFail) (errs : List (Nat × Ecc)) (d : Dev) : Dev :=
  let d0 := d.given host
  if d0.get (DMAc_STATUS_STATE c) ≠ 2 then d0
  else if hostRead = .timeout then (d0.inc (HOST_ERR_COUNTk_V 4)).dmaFail c 1
  else if hostRead = .completion then d0.dmaFail c 1
  else
    let q := d0.dmaDesc c
    let code := d0.dmaCheck q
    if code ≠ 0 then d0.dmaFail c code
    else if bitOf q.flags 0 && !bitOf q.flags 4 then
      let (bad, _, d1) := d0.agentRead 4 q.src q.len errs
      if bad then d1.dmaFail c 3 else d0
    else d0

/-! ### Channel registers (R401) -/

/-- A write of DMAc_CTRL. -/
def dmaCtrlWrite (c v : Nat) (d : Dev) : Dev :=
  d.writeVia (DMAc_CTRL c) v (fun _ => true) (fun s =>
    let st := s.get (DMAc_STATUS_STATE c)
    let free := s.onPower (fun u => { u with dmaGo := u.dmaGo.filter (· != c) })
    if !bitOf v 31 then (if st = 2 then s else free.put (DMAc_STATUS_STATE c) 0)
    else if st = 0 then (s.put (DMAc_STATUS_STATE c) 1).dmaNext c
    else if st = 3 then (if bitOf v 30 then s.dmaRun c else s)
    else if st = 4 then
      if bitOf v 29 then s.dmaRun c
      else if bitOf v 28 then (free.put (DMAc_HEAD_V c) (s.get (DMAc_TAIL_V c))).put (DMAc_STATUS_STATE c) 1
      else s
    else s)

/-- A write of DMAc_TAIL. -/
def dmaTailWrite (c v : Nat) (d : Dev) : Dev :=
  d.writeVia (DMAc_TAIL c) v (fun s => decide (v < s.dmaSize c)) (Dev.dmaNext c)

/-- A write of a ring register while ENABLE is 1 is out-of-range. -/
def dmaRingWrite (c r v : Nat) (d : Dev) : Dev := d.writeVia r v (fun s => !s.flag (DMAc_CTRL_ENABLE c)) id

/-- R116: DMA_START fails on a busy channel; one in WAIT runs. -/
def Dev.dmaBusy (d : Dev) (c : Nat) : Bool := d.get (DMAc_STATUS_STATE c) == 2
def Dev.dmaStart (c : Nat) (d : Dev) : Dev := if d.get (DMAc_STATUS_STATE c) = 3 then d.dmaRun c else d

/-! ### MSI-X and the link (R392, R396, R397, R405) -/

/-- What vector `v` holds goes out once its three conditions hold, or at the end of its moderation interval (R397). -/
def Dev.vecRelease (v : Nat) (d : Dev) : Dev :=
  let x := nth {} d.evt.vecs v
  if !x.held || !d.vecOpen v then d
  else if x.moderating then d.onVec v (fun x => { x with held := false, waiting := true })
  else d.sendVec v

/-- MSIX_HELD_SEND: the host sets the three conditions of R397; every message that they now let go is sent. -/
def msixHeldSend (x : MsixSet) (d : Dev) : Dev :=
  let d1 := ((d.putB HOST_STATUS_MSIX_ENABLE x.enable).putB HOST_STATUS_BUS_MASTER x.master).onVec x.vec (fun v => { v with masked := x.masked })
  foldS (List.range 64) Dev.vecRelease d1

/-- MODERATION_INTERVAL_END. -/
def moderationIntervalEnd (v : Nat) (d : Dev) : Dev :=
  let x := nth {} d.evt.vecs v
  if !x.moderating then d
  else
    let d1 := d.onVec v (fun x => { x with moderating := false, waiting := false })
    if x.waiting then d1.signalVec v else d1

/-- A byte of the configuration space: vendor 0x1ED4, device 0x9640, revision 0xA2 and class 0x03_8000 (R392), bus mastering, and what
the host has written (assumption 95). -/
def Dev.cfgByte (d : Dev) (o : Nat) : Byte :=
  match o with
  | 0 => 0xD4
  | 1 => 0x1E
  | 2 => 0x40
  | 3 => 0x96
  | 8 => 0xA2
  | 9 => 0x00
  | 10 => 0x80
  | 11 => 0x03
  | _ => (cellFind d.evt.cfg o).getD (Config.pcieConfig o)

/-- A write of the configuration space: bit 2 of byte 4 is bus mastering. -/
def Dev.cfgWrite (o : Nat) (b : Byte) (d : Dev) : Dev :=
  let d1 := { d with evt := { d.evt with cfg := cellPut d.evt.cfg o b } }
  if o = 4 then foldS (List.range 64) Dev.vecRelease (d1.putB HOST_STATUS_BUS_MASTER (bitOf b.toNat 2)) else d1

/-- A byte of BAR4 (R393): the MSI-X table, 16 bytes a vector (address, data, mask bit), and the PBA. -/
def Dev.bar4Byte (d : Dev) (o : Nat) : Byte :=
  if o < 1024 then
    let v := nth {} d.evt.vecs (o / 16)
    nth 0 (leBytes 8 v.addr ++ leBytes 4 v.data ++ leBytes 4 (b2n v.masked)) (o % 16)
  else if 0x1000 ≤ o ∧ o < 0x1008 then
    BitVec.ofNat 8 ((List.range 8).foldl (fun a k => a + b2n (nth {} d.evt.vecs (8 * (o - 0x1000) + k)).held * 2 ^ k) 0)
  else 0

/-- A byte of the MSI-X table is written; the PBA is read-only. -/
def Dev.bar4Write (o : Nat) (b : Byte) (d : Dev) : Dev :=
  if 1024 ≤ o then d
  else
    let k := o % 16
    let d1 := d.onVec (o / 16) (fun v =>
      if k < 8 then { v with addr := putBits v.addr (8 * k) 8 b.toNat }
      else if k < 12 then { v with data := putBits v.data (8 * (k - 8)) 8 b.toNat }
      else if k = 12 then { v with masked := bitOf b.toNat 0 } else v)
    d1.vecRelease (o / 16)

/-- R396: the endpoint, its configuration space and the DMA channels are reset; what waited for them is gone. -/
def Dev.endpointReset (d : Dev) : Dev :=
  let d1 := foldS (List.range 8) (fun c s => foldS (List.range 10) (fun k t => t.resetReg (DMAc_CTRL c + 4 * k)) s) d
  let d2 := (d1.setWord HOST_STATUS 0).onPower (fun u => { u with dmaGo := [], held := [] })
  { d2 with evt := { d2.evt with vecs := List.replicate 64 {}, cfg := [] } }

/-- PCIE_LINK_RESET: hot reset, link disable, or link-down, which counts. -/
def pcieLinkReset (down : Bool) (d : Dev) : Dev :=
  let d1 := d.endpointReset
  if down then d1.inc (HOST_ERR_COUNTk_V 9) else d1

/-- PCIE_LINK_UP at a speed code and a width that R392 has; while the link is up, a change of these or of its power state (R424). `errs`
names the errors that the endpoint has met since, each by the counter of R424 that counts it (assumption 94). -/
def pcieLinkUp (x : PcieLink) (errs : List (Fin 8)) (d : Dev) : Dev :=
  if d.mode = 0 ∨ x.speed.val = 0 ∨ [1, 2, 4].contains x.width.val = false then d
  else
    let d0 := foldS errs (fun k s => s.inc (HOST_ERR_COUNTk_V k)) d
    let d1 := (((d0.put HOST_STATUS_LINK_UP 1).put HOST_STATUS_SPEED x.speed).put HOST_STATUS_WIDTH x.width).put HOST_STATUS_PM x.pm
    d1.put TOP_REFCLK_STATUS_V (putBits (d1.get TOP_REFCLK_STATUS_V) 2 1 1)

/-! ### The ring's registers (R402, R406 to R408) -/

/-- A write of EVT_CTRL. -/
def evtCtrlWrite (v : Nat) (d : Dev) : Dev :=
  let was := d.flag EVT_CTRL_ENABLE
  let b := bitsOf v 0 4
  d.writeVia EVT_CTRL v (fun s => !bitOf v 31 || (s.get (SBn_OWNER_OWNER b) == 2 && s.flag (SBn_OWNER_SHARE_READ b))) (fun s =>
    if bitOf v 31 && !was then { s.put EVT_HIGH_WATER_V s.ringUsed with evt := { s.evt with phase := true } } else s)

/-- A write of EVT_CONS. -/
def evtConsWrite (v : Nat) (d : Dev) : Dev :=
  d.writeVia EVT_CONS v (fun s => decide ((v % 16384 + 16384 - s.get EVT_CONS_V) % 16384 ≤ s.ringUsed)) (fun s =>
    if s.get EVT_CONS_V = s.get EVT_PROD_V then s.putB EVT_STATUS_ALERT false else s)

/-- A write of EVT_INJECT. -/
def evtInject (v : Nat) (d : Dev) : Dev :=
  d.writeVia EVT_INJECT v (fun _ => true) (fun s => s.post clsHost (bitsOf v 0 16) 0xFF [s.get EVT_INJECT_ARG_V])

/-- The fault log is emptied (R408). -/
def Dev.flogEmpty (d : Dev) : Dev :=
  { (d.put EVT_FLOG_COUNT_V 0).put EVT_FLOG_LOST_V 0 with evt := { d.evt with flog := [] } }

/-- A write of EVT_FLOG_CLEAR. -/
def evtFlogClear (v : Nat) (d : Dev) : Dev :=
  d.writeVia EVT_FLOG_CLEAR v (fun _ => true) (fun s => if bitOf v 0 then s.flogEmpty else s)

/-! ### The commands -/

/-- DMA_DESCRIPTOR_DONE. -/
def execDmaDescriptorDone (c : Fin 8) (host : List Host.Cell) (errs : List (Nat × Ecc)) (s : State) :=
  s.on (dmaDescriptorDone c host errs)
/-- DMA_DESCRIPTOR_FAIL. -/
def execDmaDescriptorFail (c : Fin 8) (host : List Host.Cell) (hostRead : HostFail) (errs : List (Nat × Ecc)) (s : State) :=
  s.on (dmaDescriptorFail c host hostRead errs)
/-- MSIX_HELD_SEND. -/
def execMsixHeldSend (x : MsixSet) (s : State) := s.on (msixHeldSend x)
/-- MODERATION_INTERVAL_END. -/
def execModerationIntervalEnd (v : Fin 64) (s : State) := s.on (moderationIntervalEnd v)
/-- PCIE_LINK_RESET. -/
def execPcieLinkReset (down : Bool) (s : State) := s.on (pcieLinkReset down)
/-- PCIE_LINK_UP. -/
def execPcieLinkUp (x : PcieLink) (errs : List (Fin 8)) (s : State) := s.on (pcieLinkUp x errs)

end Sys2Proof.Machine
end

