-- ==== Sys2Proof/Machine/PtpMsg.lean ====
section
/-! DEFINITION. The octets of the PTP messages that a port sends: header and body of IEEE 1588-2019, and their encapsulation in
Ethernet, UDP/IPv4 or UDP/IPv6 (R106, R108, R136). The layouts are the standard's, which R106 names (assumption 16). -/
namespace Sys2Proof.Machine

/-- The big-endian bytes of `v`, `n` of them. -/
def beBytes (n v : Nat) : List Byte := (leBytes n v).reverse

/-- The sum of the 16-bit words of a list of bytes. -/
def wordSum : List Byte → Nat
  | [] => 0
  | [a] => a.toNat * 256
  | a :: b :: r => a.toNat * 256 + b.toNat + wordSum r

/-- The Internet checksum: the complement of the ones' complement sum. -/
def inetSum (l : List Byte) : Nat :=
  let s := wordSum l
  let t := s % 65536 + s / 65536
  65535 - (t % 65536 + t / 65536) % 65536

/-- A UDP datagram with its checksum over the pseudo header; a sum of 0 is sent as all ones. -/
def udpBytes (pseudo : List Byte) (port : Nat) (msg : List Byte) : List Byte :=
  let n := msg.length + 8
  let head := beBytes 2 port ++ beBytes 2 port ++ beBytes 2 n
  let c := inetSum (pseudo ++ head ++ beBytes 2 0 ++ msg)
  head ++ beBytes 2 (if c = 0 then 65535 else c) ++ msg

/-- An IPv4 packet with a time to live. -/
def ipv4Bytes (src dst ttl port : Nat) (msg : List Byte) : List Byte :=
  let n := msg.length + 8
  let head (c : Nat) := beBytes 2 0x4500 ++ beBytes 2 (n + 20) ++ beBytes 4 0 ++ beBytes 1 ttl ++ beBytes 1 17 ++ beBytes 2 c
    ++ beBytes 4 src ++ beBytes 4 dst
  head (inetSum (head 0)) ++ udpBytes (beBytes 4 src ++ beBytes 4 dst ++ beBytes 2 17 ++ beBytes 2 n) port msg

/-- An IPv6 packet with a hop limit. -/
def ipv6Bytes (src dst ttl port : Nat) (msg : List Byte) : List Byte :=
  let n := msg.length + 8
  beBytes 4 0x60000000 ++ beBytes 2 n ++ beBytes 1 17 ++ beBytes 1 ttl ++ beBytes 16 src ++ beBytes 16 dst
    ++ udpBytes (beBytes 16 src ++ beBytes 16 dst ++ beBytes 4 n ++ beBytes 4 17) port msg

/-- Port `p`'s own addresses: Ethernet, IPv4, IPv6 (R418). -/
def Dev.portMac (d : Dev) (p : Nat) : List Byte := beBytes 6 (d.get (Ep_MAC_HI_V p) * 2 ^ 32 + d.get (Ep_MAC_LO_V p))
def Dev.portIpv4 (d : Dev) (p : Nat) : Nat := d.get (PTPp_IPV4_V p)
def Dev.portIpv6 (d : Dev) (p : Nat) : Nat := (List.range 4).foldl (fun x k => x * 2 ^ 32 + d.get (PTPp_IPV6k_V p k)) 0

/-- The frame that carries a message of type `kind` from port `p`: the tag of PTPp_VLAN_TCI where VLAN is set, the transport of
PTPp_CTRL.TRANSPORT, the event port for message types below 8 and the general port for the others. -/
def Dev.ptpFrame (d : Dev) (p kind : Nat) (msg : List Byte) : List Byte :=
  let src := d.portMac p
  let tag := if d.flag (PTPp_CTRL_VLAN p) then beBytes 2 0x8100 ++ beBytes 2 (d.get (PTPp_VLAN_TCI_V p)) else []
  let port := if kind < 8 then 319 else 320
  let l := match d.get (PTPp_CTRL_TRANSPORT p) with
    | 1 => beBytes 6 0x01005E000181 ++ src ++ tag ++ beBytes 2 0x0800 ++ ipv4Bytes (d.portIpv4 p) 0xE0000181 1 port msg
    | 2 => beBytes 6 0x333300000181 ++ src ++ tag ++ beBytes 2 0x86DD ++ ipv6Bytes (d.portIpv6 p) (0xFF0E * 2 ^ 112 + 0x181) 64 port msg
    | _ => beBytes 6 0x011B19000000 ++ src ++ tag ++ beBytes 2 0x88F7 ++ msg
  l

/-- This clock's identity (64 bits). -/
def Dev.clockId (d : Dev) : Nat := d.get PTP_IDENTITY_HI_V * 2 ^ 32 + d.get PTP_IDENTITY_LO_V

/-- A port identity: clock identity and port number. -/
def portIdentity (clock port : Nat) : Nat := clock * 65536 + port

/-- The port identity of port `p`. -/
def Dev.ownPort (d : Dev) (p : Nat) : Nat := portIdentity d.clockId (p + 1)
def Dev.portId (d : Dev) (p : Nat) : List Byte := beBytes 10 (d.ownPort p)

/-- A PTP message of port `p`: the 34-byte header, then the body. `flags` is the flag field, `log` the message interval's byte. -/
def Dev.ptpMsg (d : Dev) (p kind flags corr seq log : Nat) (body : List Byte) : List Byte :=
  let control := nth 5 [0, 1, 5, 5, 5, 5, 5, 5, 2, 3, 5, 5, 5, 4] kind
  beBytes 1 kind ++ beBytes 1 0x12 ++ beBytes 2 (34 + body.length) ++ beBytes 1 (d.get PTP_CTRL_DOMAIN) ++ beBytes 1 0 ++ beBytes 2 flags
    ++ beBytes 8 corr ++ beBytes 4 0 ++ d.portId p ++ beBytes 2 seq ++ beBytes 1 control ++ beBytes 1 log ++ body

/-- A timestamp of `t` ns: 48 bits of seconds, 32 of nanoseconds. -/
def stampBytes (t : Int) : List Byte := beBytes 6 (t.toNat / 1000000000) ++ beBytes 4 (t.toNat % 1000000000)

/-- A time interval in ns as the standard writes it: 64 bits, scaled by 2^16. -/
def intervalBytes (t : Int) : List Byte := beBytes 8 (unsgn 64 (t * 65536))

/-- The flags of the time properties: leap61, leap59, UTC offset valid, the timescale PTP, time and frequency traceable (R108). -/
def Dev.timeFlags (d : Dev) : Nat :=
  d.get PTP_UTC_FLAGS_LEAP61 + 2 * d.get PTP_UTC_FLAGS_LEAP59 + 4 * d.get PTP_UTC_FLAGS_UTC_OFFSET_VALID + 8
    + 16 * d.get PTP_UTC_FLAGS_TIME_TRACEABLE + 32 * d.get PTP_UTC_FLAGS_FREQ_TRACEABLE

/-- A clock quality: class, accuracy, variance. -/
def qualityBytes (q : Nat) : List Byte := beBytes 4 q

/-- The body of a Management message: target, no hops, the action, and one TLV. -/
def managementBody (target action tlv : Nat) (data : List Byte) : List Byte :=
  beBytes 10 target ++ beBytes 2 0 ++ beBytes 1 action ++ beBytes 1 0 ++ beBytes 2 tlv ++ beBytes 2 data.length ++ data

end Sys2Proof.Machine
end

