-- ==== Sys2Proof/Machine/Net.lean ====
section
/-! DEFINITION. The Ethernet ports, their host frame queues and the tile stream (chapter 11, R417 to R422). -/
namespace Sys2Proof.Machine

/-! ### Frames (R417, R418) -/

/-- Two bytes of a frame, most significant first. -/
def be16 (l : List Byte) (o : Nat) : Nat := ofBE ((l.drop o).take 2)

/-- Does the frame carry an IEEE 802.1Q tag? -/
def frameTagged (l : List Byte) : Bool := be16 l 12 == 0x8100

/-- The offset of the EtherType behind an optional tag. -/
def typeAt (l : List Byte) : Nat := if frameTagged l then 16 else 12

/-- The destination and source ports' offset and the destination address of a UDP datagram: IPv4 (4 bytes) or IPv6 (16). -/
def udpAt (l : List Byte) : Option (Nat × List Byte) :=
  let o := typeAt l + 2
  let b (k : Nat) : Nat := (nth 0 l (o + k)).toNat
  if be16 l (typeAt l) = 0x0800 ∧ b 0 / 16 = 4 ∧ b 9 = 17 then some (o + b 0 % 16 * 4, (l.drop (o + 16)).take 4)
  else if be16 l (typeAt l) = 0x86DD ∧ b 0 / 16 = 6 ∧ b 6 = 17 then some (o + 40, (l.drop (o + 24)).take 16)
  else none

/-- The destination port of a UDP datagram. -/
def udpPort (l : List Byte) : Option Nat := (udpAt l).map (fun p => be16 l (p.1 + 2))

/-- A PTP frame: its EtherType, or UDP to the event or general port of IEEE 1588. -/
def isPtp (l : List Byte) : Bool := be16 l (typeAt l) == 0x88F7 || udpPort l == some 319 || udpPort l == some 320

/-- The PTP multicast addresses of IEEE 1588. -/
def ptpMacs : List Nat := [0x011B19000000, 0x0180C200000E, 0x01005E000181, 0x01005E00006B, 0x333300000181, 0x33330000006B]

/-- R417: does port `p` accept the destination address? -/
def Dev.macAccepts (d : Dev) (p : Nat) (l : List Byte) : Bool :=
  let dst := ofBE (l.take 6)
  d.flag (Ep_CTRL_PROMISC p) || dst == d.get (Ep_MAC_HI_V p) * 2 ^ 32 + d.get (Ep_MAC_LO_V p) || dst == 2 ^ 48 - 1
    || (bitOf (dst / 2 ^ 40) 0 && d.flag (Ep_CTRL_ALL_MULTI p)) || (d.flag (PTPp_CTRL_ENABLE p) && ptpMacs.contains dst)

/-- Is the datagram sent to one of port `p`'s addresses? -/
def Dev.toPort (d : Dev) (p : Nat) (l : List Byte) : Bool := match udpAt l with
  | some (_, a) =>
    if a.length = 4 then ofBE a == d.portIpv4 p
    else ofBE a == d.portIpv6 p
  | none => false

/-- The receive queue of port `p` that R418 gives for a frame that is neither PTP nor tile stream; none where it is dropped. -/
def Dev.rxQueue (d : Dev) (p : Nat) (l : List Byte) : Option Nat :=
  let hit := (List.range 16).find? (fun k => d.flag (Ep_FILTERk_ENABLE p k)
    && (if d.flag (Ep_FILTERk_KIND p k) then udpPort l == some (d.get (Ep_FILTERk_V p k))
        else be16 l (typeAt l) == d.get (Ep_FILTERk_V p k)))
  match hit with
  | some k => some (4 * p + 2 + d.get (Ep_FILTERk_QUEUE p k))
  | none => if d.flag NET_CTRL_V then none else some (4 * p + 2)

/-! ### Host frame queues (R419) -/

/-- The entries of queue `q`, the device address of its descriptor at HEAD, and whether one is offered. -/
def Dev.nqSize (d : Dev) (q : Nat) : Nat := 2 ^ d.get (NQq_SIZE_V q)
def Dev.nqDesc (d : Dev) (q : Nat) : Nat := d.get (NQq_BASE_LO_V q) + d.get (NQq_BASE_HI_V q) * 2 ^ 32 + 16 * d.get (NQq_HEAD_V q)
def Dev.nqOffered (d : Dev) (q : Nat) : Bool := d.get (NQq_STATUS_STATE q) == 1 && d.get (NQq_HEAD_V q) != d.get (NQq_TAIL_V q)

/-- A queue buffer lies in DRAM or in a scratch bank that NET owns. -/
def Dev.nqBuffer (d : Dev) (a n : Nat) : Bool :=
  match regionOf a with
  | .dram => agentRange a (max 1 n)
  | .scratch => agentRange a (max 1 n) && (banksOf a n).all (fun b => d.mayWrite b 5)
  | _ => false

/-- The descriptor at HEAD completes: RESULT, the tag's mark, the time; HEAD and the count advance. -/
def Dev.nqComplete (q result vlan : Nat) (d : Dev) : Dev :=
  let d1 := d.agentWrite 5 (d.nqDesc q + 10) (leBytes 1 result ++ leBytes 1 vlan ++ leBytes 4 (d.nsc32 0))
  (d1.put (NQq_HEAD_V q) ((d1.get (NQq_HEAD_V q) + 1) % d1.nqSize q)).inc (NQq_COUNT_V q)

/-- A received frame goes into receive queue `q`, or is dropped and counted. -/
def Dev.nqReceive (p q : Nat) (l : List Byte) (d : Dev) : Dev :=
  let a := d.dpNum (d.nqDesc q) 8
  let room := d.dpNum (d.nqDesc q + 8) 2
  if !d.nqOffered q || decide (room < l.length) || !d.nqBuffer a l.length then
    (d.inc (Ep_COUNTk_V p 5)).put (NQq_STATUS_DROPPED q) 1
  else
    let d1 := (d.agentWrite 5 a l).agentWrite 5 (d.nqDesc q + 8) (leBytes 2 l.length)
    (d1.nqComplete q 0 (b2n (frameTagged l))).post clsNet 0 q [l.length]

/-- ETH_FRAME_RX: a frame without its FCS, and that FCS, its first byte lowest (R417, R418, R525). -/
def ethFrameRx (p : Nat) (l : List Byte) (fcs : Nat) (d : Dev) : Dev :=
  if !d.flag (Ep_CTRL_ENABLE p) || !d.flag (Ep_STATUS_LINK_UP p) then d
  else if fcs ≠ crc32 l then d.inc (Ep_COUNTk_V p 2)
  else if l.length + 4 < 64 ∨ (if d.flag (Ep_CTRL_JUMBO p) then 9216 else 1522) < l.length + 4 then d.inc (Ep_COUNTk_V p 3)
  else
    let d1 := (d.inc (Ep_COUNTk_V p 0)).addSat (Ep_COUNTk_V p 1) (l.length + 4)
    if be16 l (typeAt l) = 0x8808 ∧ be16 l (typeAt l + 2) = 1 then d1.inc (Ep_COUNTk_V p 6)
    else if !d1.macAccepts p l then d1.inc (Ep_COUNTk_V p 4)
    else if isPtp l && d1.flag (PTPp_CTRL_ENABLE p) then d1.inc (Ep_COUNTk_V p 7)
    else if 3 ≤ d1.shedLevel then d1.inc (Ep_COUNTk_V p 13)
    else if d1.inRung then d1
    else if udpPort l == some (d1.get TS_UDP_PORT_V) && d1.toPort p l && anyBelow 8 (fun h => d1.flag (TSh_CTRL_RX h)) then
      (if 1 ≤ d1.shedLevel then d1.inc (Ep_COUNTk_V p 13) else d1.inc (Ep_COUNTk_V p 8))
    else match d1.rxQueue p l with
      | some q => d1.nqReceive p q l
      | none => d1.inc (Ep_COUNTk_V p 4)

/-- A write of NQq_CTRL, of NQq_TAIL. -/
def nqCtrlWrite (q v : Nat) (d : Dev) : Dev :=
  d.writeVia (NQq_CTRL q) v (fun _ => true) (fun s => s.put (NQq_STATUS_STATE q) (b2n (bitOf v 31)))
def nqTailWrite (q v : Nat) (d : Dev) : Dev := d.writeVia (NQq_TAIL q) v (fun s => decide (v < s.nqSize q)) id

/-- R418: the transmit queues of port `p` that go before queue `q` have nothing to send. -/
def Dev.txTurn (d : Dev) (p q : Nat) : Bool := allBelow q (fun k => !d.nqOffered (4 * p + k))

/-- ETH_FRAME_TX_DONE: the descriptor at HEAD of transmit queue `q` completes (R417 to R419). -/
def ethFrameTxDone (q : Nat) (errs : List (Nat × Ecc)) (d : Dev) : Dev :=
  let p := q / 4
  if 2 ≤ q % 4 ∨ d.nqOffered q = false ∨ d.inRung = true then d
  else if 3 ≤ d.shedLevel then (d.inc (Ep_COUNTk_V p 13)).nqComplete q 3 0
  else if d.flag (Ep_CTRL_ENABLE p) = false ∨ d.txTurn p (q % 4) = false then d
  else
    let a := d.dpNum (d.nqDesc q) 8
    let n := d.dpNum (d.nqDesc q + 8) 2
    if (if d.flag (Ep_CTRL_JUMBO p) then 9216 else 1522) < n + 4 then d.nqComplete q 1 0
    else if !d.nqBuffer a n then d.nqComplete q 2 0
    else
      let (bad, l, d1) := d.agentRead 5 a n errs
      if bad then d1.nqComplete q 2 0
      else
        let out := macFrame l
        let d2 := ((d1.send (.frame p out)).inc (Ep_COUNTk_V p 9)).addSat (Ep_COUNTk_V p 10) out.length
        d2.nqComplete q 0 (b2n (frameTagged l))

/-- ETH_BLOCK_LOCK_LOSS, ETH_BLOCK_LOCK_GAINED. -/
def ethLockLoss (p : Nat) (fault : EthFault) (d : Dev) : Dev :=
  let d1 := d.put (Ep_STATUS_LINK_UP p) 0
  match fault with
  | .lockLost => (d1.put (Ep_STATUS_LOCAL_FAULT p) 1).inc (Ep_COUNTk_V p 14)
  | .hiBer => ((d1.put (Ep_STATUS_LOCAL_FAULT p) 1).put (Ep_STATUS_HI_BER p) 1).inc (Ep_COUNTk_V p 15)
  | .remote => d1.put (Ep_STATUS_REMOTE_FAULT p) 1
def ethLockGained (p : Nat) (d : Dev) : Dev :=
  (((d.put (Ep_STATUS_LINK_UP p) 1).put (Ep_STATUS_LOCAL_FAULT p) 0).put (Ep_STATUS_REMOTE_FAULT p) 0).put (Ep_STATUS_HI_BER p) 0

/-! ### The tile stream's receiver (R420, R422) -/

/-- A write of TSh_CTRL: RX needs a queue-sourced raster head without UNPACK. -/
def tsCtrlWrite (h v : Nat) (d : Dev) : Dev :=
  let was := d.flag (TSh_CTRL_RX h)
  d.writeVia (TSh_CTRL h) v (fun s => !bitOf v 30 || (s.isRaster h && (s.head h).sect.source == 16 && !s.has h 1)) (fun s =>
    if bitOf v 30 && !was then (s.put (TSh_STATUS_KEY_SEEN h) 0).onTs h (fun u => { u with rxSeq := none }) else s)

/-- Tile `i` of `rowTiles` a row into head `h`'s buffer: a tile outside it counts, positions outside it are dropped. -/
def Dev.tsStore (h rowTiles i : Nat) (t : Tile) (d : Dev) : Dev :=
  let w := d.app (HDn_QBUF_SIZE_WIDTH h)
  let v := d.app (HDn_QBUF_SIZE_HEIGHT h)
  let x0 := i % max 1 rowTiles * 8
  let y0 := i / max 1 rowTiles * 8
  if w ≤ x0 ∨ v ≤ y0 then d.inc (TS_ERR_COUNTk_V 3)
  else
    let base := d.get (TSh_BASE_V h) * 256
    let stride := d.app (HDn_QBUF_STRIDE_V h) * 64
    foldS (List.range (min 8 (v - y0))) (fun r s =>
      let px := (List.range (min 8 (w - x0))).flatMap (fun k =>
        (nth [] t (r * 8 + k)).flatMap (fun c => leBytes 2 (widen 10 c)) ++ [0, 0])
      s.agentWrite 5 (base + (y0 + r) * stride + 8 * x0) px) (d.inc (TSh_RX_TILES_V h))

/-- The heads that receive from a datagram's node and head. -/
def Dev.tsHeads (d : Dev) (node head : Nat) : List Nat :=
  (List.range 8).filter (fun h => d.flag (TSh_CTRL_RX h) && d.get (TSh_CTRL_SRC_NODE h) == node && d.get (TSh_CTRL_SRC_HEAD h) == head)

/-- R422: head `h` takes a datagram with the tiles `ts`. -/
def Dev.tsAccept (l : List Byte) (ts : List Tile) (h : Nat) (d : Dev) : Dev :=
  let f (o n : Nat) : Nat := ofLE ((l.drop o).take n)
  let gap := match (d.head h).ts.rxSeq with | some n => n != f 12 4 | none => false
  let d1 := if gap then (d.inc (TSh_RX_LOSS_V h)).put (TSh_STATUS_LOSS h) 1 else d
  let d2 := d1.onTs h (fun u => { u with rxSeq := some ((f 12 4 + 1) % 2 ^ 32) })
  let d3 := (if bitOf (f 3 1) 1 then d2.put (TSh_STATUS_KEY_SEEN h) 1 else d2).put (TSh_RX_FRAME_V h) (f 8 2)
  let d4 : Dev := ts.zipIdx.foldl (fun s (t, k) => s.tsStore h (f 22 2) (f 16 4 + k) t) d3
  if bitOf (f 3 1) 0 ∧ (d4.head h).queue.length < 16 then
    d4.qAdd h { base := d4.get (TSh_BASE_V h), time := 0, tag := f 8 2, next := true, drop := false, tb := 0 }
  else d4

/-- TILE_STREAM_DATAGRAM_RX: the UDP payload. A body that does not decode, or not to the tiles of the header, counts as a header
failure (assumption 84), and the first of these as an internal decode that fails (R466). -/
def tileStreamRx (l : List Byte) (d : Dev) : Dev :=
  let f (o n : Nat) : Nat := ofLE ((l.drop o).take n)
  let body := l.drop 32
  let heads := d.tsHeads (f 4 2) (f 6 1)
  let each (ts : List Tile) (s : Dev) : Dev := foldS heads (Dev.tsAccept l ts) s
  if 1 ≤ d.shedLevel ∨ d.inRung = true ∨ anyBelow 8 (fun h => d.flag (TSh_CTRL_RX h)) = false then d
  else if l.length < 32 ∨ crc32 (l.take 28 ++ body) ≠ f 28 4 then d.inc (TS_ERR_COUNTk_V 0)
  else if f 0 2 ≠ 0x5453 ∨ f 2 1 ≠ 1 ∨ 4 ≤ f 3 1 ∨ f 7 1 ≠ 0 then d.inc (TS_ERR_COUNTk_V 1)
  else if heads = [] then d.inc (TS_ERR_COUNTk_V 2)
  else if f 20 2 = 0 then each [] d
  else match readSegment d.ceTable body with
    | none => ((d.ceTaken false).badStream).inc (TS_ERR_COUNTk_V 1)
    | some (fmt, first, ts, _) =>
      if fmt = 3 ∧ first = f 16 4 ∧ ts.length = f 20 2 then each ts ((d.ceTaken false).ceCount 1 ts.length)
      else d.inc (TS_ERR_COUNTk_V 1)

/-! ### The tile stream's sender (R420, R421) -/

/-- The tiles at the front of a list that follow one another. -/
def tileRun : List TsTile → List TsTile
  | [] => []
  | [t] => [t]
  | t :: u :: r => if u.frame = t.frame ∧ u.tile = t.tile + 1 then t :: tileRun (u :: r) else [t]

/-- The parts and the body for the first `k` tiles of a run. -/
def tsParts (run : List TsTile) (rowTiles k : Nat) : List Chunk :=
  match run.take k with
  | [] => []
  | t :: r => segChunks 3 15 0 [] false t.tile rowTiles 0 ((t :: r).map (·.px)) []
def tsBody (run : List TsTile) (rowTiles k : Nat) : List Byte := bytesOfBits ((tsParts run rowTiles k).flatMap Chunk.bits)

/-- The largest number of tiles of the run, at most `k`, whose datagram keeps MAX_PAYLOAD. -/
def tsFit (run : List TsTile) (rowTiles limit : Nat) : Nat → Nat
  | 0 => 0
  | k + 1 => if 32 + (tsBody run rowTiles (k + 1)).length ≤ limit then k + 1 else tsFit run rowTiles limit k

/-- R420: the frame of a tile-stream datagram to the destination of TS_CTRL; its time to live is not given (assumption 84). -/
def Dev.tsFrame (d : Dev) (p : Nat) (bytes : List Byte) : List Byte :=
  let udp := d.get TS_UDP_PORT_V
  let head := beBytes 6 (d.get TS_DEST_MAC_HI_V * 2 ^ 32 + d.get TS_DEST_MAC_LO_V) ++ d.portMac p
  let l :=
    if d.flag TS_CTRL_IPV6 then
      let dst := (List.range 4).foldl (fun x k => x * 2 ^ 32 + d.get (TS_DEST_IPV6k_V k)) 0
      head ++ beBytes 2 0x86DD ++ ipv6Bytes (d.portIpv6 p) dst Config.tsHops udp bytes
    else head ++ beBytes 2 0x0800 ++ ipv4Bytes (d.portIpv4 p) (d.get TS_DEST_IPV4_V) Config.tsHops udp bytes
  macFrame l

/-- TILE_STREAM_DATAGRAM_TX of head `h`: the oldest frame's next datagram; the last one, which closes the frame, waits for its last
tile. -/
def tileStreamTx (h : Nat) (d : Dev) : Dev :=
  let u := (d.head h).ts
  match u.frames with
  | [] => d
  | g :: rest =>
    let p := d.get TS_CTRL_PORT
    if 1 ≤ d.shedLevel ∨ d.inRung = true ∨ d.flag TS_CTRL_TX_ENABLE = false ∨ d.flag (Ep_CTRL_ENABLE p) = false ∨ d.txTurn p 2 = false then d
    else
      let mine := u.tiles.filter (fun t => t.frame == g.frame)
      let run := (tileRun mine).take 4096
      let k := tsFit run g.rowTiles (d.get TS_CTRL_MAX_PAYLOAD) run.length
      let last := decide (mine.length ≤ k)
      if last && !g.closed then d
      else
        let first := match run with | t :: _ => t.tile | [] => 0
        let body := tsBody run g.rowTiles k
        let head := leBytes 2 0x5453 ++ leBytes 1 1 ++ leBytes 1 (b2n last + 2 * b2n g.key) ++ leBytes 2 (d.get TEAM_NODE_ID_V)
          ++ leBytes 1 h ++ leBytes 1 0 ++ leBytes 2 g.frame ++ leBytes 2 u.packet ++ leBytes 4 (d.get (TSh_SEQ_V h))
          ++ leBytes 4 first ++ leBytes 2 k ++ leBytes 2 g.rowTiles ++ leBytes 4 g.start
        let bytes := head ++ leBytes 4 (crc32 (head ++ body)) ++ body
        let out := d.tsFrame p bytes
        let d1 := (((d.send (.frame p out)).inc (Ep_COUNTk_V p 9)).addSat (Ep_COUNTk_V p 10) out.length).inc (Ep_COUNTk_V p 12)
        let d2 := (d1.put (TSh_SEQ_V h) ((d1.get (TSh_SEQ_V h) + 1) % 2 ^ 32)).addSat (TSh_TX_BYTES_V h) bytes.length
        let d3 := if last then d2.inc (TSh_TX_FRAMES_V h) else d2
        ((if k = 0 then d3 else d3.ceTaken true).ceCoded (tsParts run g.rowTiles k) k (b2n (k != 0))).onTs h (fun u => { u with
          tiles := u.tiles.drop k, frames := if last then rest else u.frames, packet := if last then 0 else u.packet + 1 })

/-! ### The commands -/

/-- ETH_FRAME_RX. -/
def execEthFrameRx (p : Fin 2) (frame : List Byte) (fcs : Word) (s : State) := s.on (ethFrameRx p frame fcs.toNat)
/-- ETH_FRAME_TX_DONE. -/
def execEthFrameTxDone (q : Fin 8) (errs : List (Nat × Ecc)) (s : State) := s.on (ethFrameTxDone q errs)
/-- TILE_STREAM_DATAGRAM_RX. -/
def execTileStreamDatagramRx (payload : List Byte) (s : State) := s.on (tileStreamRx payload)
/-- TILE_STREAM_DATAGRAM_TX. -/
def execTileStreamDatagramTx (h : Fin 8) (s : State) := s.on (tileStreamTx h)
/-- ETH_BLOCK_LOCK_LOSS. -/
def execEthBlockLockLoss (p : Fin 2) (fault : EthFault) (s : State) := s.on (ethLockLoss p fault)
/-- ETH_BLOCK_LOCK_GAINED. -/
def execEthBlockLockGained (p : Fin 2) (s : State) := s.on (ethLockGained p)

end Sys2Proof.Machine
end

