-- ==== Sys2Proof/Machine/Ce.lean ====
section
/-! DEFINITION. The compression engine's job queues and table loads (chapter 13, R462, R468 to R474). -/
namespace Sys2Proof.Machine

/-! ### Descriptors (R468, R469, R471) -/

/-- A job descriptor. -/
structure CeDesc where
  inAddr : Nat
  outAddr : Nat
  refAddr : Nat
  ctxAddr : Nat
  tiles : Nat
  inLen : Nat
  outLen : Nat
  tiling : Nat
  kind : Nat
  coding : Nat
  flags : Nat
  segTiles : Nat
  tag : Nat
deriving DecidableEq, Repr

/-- The format, the table, PRED and flags of a descriptor. -/
def CeDesc.fmt (q : CeDesc) : Nat := q.coding % 16
def CeDesc.table (q : CeDesc) : Nat := q.coding / 16
def CeDesc.pred (q : CeDesc) : Nat := bitsOf q.flags 5 2
def CeDesc.ref (q : CeDesc) : Bool := bitOf q.flags 3
def CeDesc.resume (q : CeDesc) : Bool := bitOf q.flags 2
def CeDesc.first (q : CeDesc) : Nat := q.tiling % 2 ^ 21
def CeDesc.rowTiles (q : CeDesc) : Nat := bitsOf q.tiling 21 10 + 1
def CeDesc.raw (q : CeDesc) : Nat := rawBytes q.fmt
def CeDesc.encodes (q : CeDesc) : Bool := decide (q.kind ≤ 2)

/-- The device address of the descriptor at HEAD of queue `q`, and the descriptor. -/
def Dev.ceAddr (d : Dev) (q : Nat) : Nat := d.get (CEq_RING_LO_V q) + d.get (CEq_RING_HI_V q) * 2 ^ 32 + 64 * d.get (CEq_HEAD_V q)
def Dev.ceDesc (d : Dev) (q : Nat) : CeDesc :=
  let f (o n : Nat) : Nat := if d.readsAt 3 (d.ceAddr q) then d.dpNum (d.ceAddr q + o) n else 0
  { inAddr := f 0 8, outAddr := f 8 8, refAddr := f 16 8, ctxAddr := f 24 8, tiles := f 32 4, inLen := f 36 4, outLen := f 40 4,
    tiling := f 44 4, kind := f 48 1, coding := f 49 1, flags := f 50 2, segTiles := f 52 2, tag := f 54 2 }

/-- Do `n` bytes from `a` up lie in DRAM or the scratchpad? -/
def ceRange (a n : Nat) : Bool := regionOf a != .lineMem && agentRange a n

/-- The code of R471 that a descriptor fails with before the job begins: BAD_DESC, RANGE, OWNER; 0 for none. -/
def Dev.ceCheck (d : Dev) (q : CeDesc) : Nat :=
  let badTable := if q.table = 15 then q.kind != 1 else q.table ≥ 8 || (d.ceTable q.table).isNone
  let inLen := if q.encodes then q.tiles * q.raw else q.inLen
  if q.kind = 0 ∨ 4 < q.kind ∨ fmtDepths q.fmt = [] ∨ 128 ≤ q.flags ∨ bitOf q.tiling 31 = true ∨ badTable = true
      ∨ (q.resume = true ∧ q.kind ≠ 1) ∨ q.tiles = 0 ∨ 1048576 < q.tiles ∨ q.segTiles = 0 ∨ 4096 < q.segTiles
      ∨ (q.encodes = false ∧ q.inLen = 0) ∨ q.outLen < 128 ∨ 16777216 < q.outLen
      ∨ (q.encodes = false ∧ q.outLen < q.tiles * q.raw) then 2
  else if !ceRange q.inAddr inLen || !ceRange q.outAddr q.outLen || (q.ref && !ceRange q.refAddr (q.tiles * q.raw))
      || (q.kind == 1 && !ceRange q.ctxAddr 64) then 3
  else 0

/-- How many of `n` bytes from `a` up the engine can write before the first bank that CE does not own. -/
def Dev.ceOpen (d : Dev) (a n : Nat) : Nat :=
  match (banksOf a n).find? (fun b => !d.mayWrite b 3) with
  | some b => max a (0x4000000000 + b * 0x80000) - a
  | none => n

/-- R471: the write of a byte that CE may not write is dropped and counted, and is the job's OWNER code. -/
def Dev.ceShutOut (d : Dev) (a n : Nat) : Dev := d.violation (bankOf (a + d.ceOpen a n)) (a + d.ceOpen a n)

/-! ### Encoding (R470, R473, R474) -/

/-- The `n` raw tiles from device address `a` as bytes give them. -/
def rawTiles (fmt : Nat) : Nat → List Byte → List Tile
  | 0, _ => []
  | n + 1, l => tileOfBytes fmt (l.take (rawBytes fmt)) :: rawTiles fmt n (l.drop (rawBytes fmt))

/-- The parts of an ENCODE job from tile `done` on, `bits` stream bits after its start: segments back to back, each from a byte
boundary. `fuel` bounds the number of segments. -/
def jobParts (q : CeDesc) (tab : CodeTable) : Nat → Nat → Nat → List Tile → List Tile → List Chunk
  | 0, _, _, _, _ => []
  | fuel + 1, done, bits, tiles, refs =>
    if tiles = [] then []
    else
      let seg := segChunks q.fmt q.table q.pred tab q.ref (q.first + done) q.rowTiles done (tiles.take q.segTiles) (refs.take q.segTiles)
      let pad := List.replicate ((8 - bits % 8) % 8) false
      let parts := match seg with
        | h :: r => { h with bits := pad ++ h.bits } :: r
        | [] => []
      let n := bitLen (parts.map Chunk.bits)
      parts ++ jobParts q tab fuel (done + min q.segTiles tiles.length) (bits + n) (tiles.drop q.segTiles) (refs.drop q.segTiles)

/-- Splits parts where their bits exceed a limit. -/
def splitParts (limit : Nat) : List Chunk → List Chunk × List Chunk
  | [] => ([], [])
  | c :: r =>
    if c.bits.length ≤ limit then let p := splitParts (limit - c.bits.length) r; (c :: p.1, p.2) else ([], c :: r)

/-- Is a tile in progress after this part? -/
def Chunk.inTile (c : Chunk) : Bool := c.what == 1 || (c.what == 2 && c.pixels != 0)

/-- The parts without a partly written tile at their end (TILE_STOP). -/
def wholeTiles (l : List Chunk) : List Chunk := (l.reverse.dropWhile Chunk.inTile).reverse

/-- What a job leaves: code, TILES, PIXELS, OUT_BITS, the bytes for OUT and the block. -/
structure CeEnd where
  code : Nat
  tiles : Nat
  pixels : Nat
  bits : Nat
  out : List Byte

/-- The resume context of R474 after `total` bits; its working state is a free value (assumption 2). -/
def ceContext (q : CeDesc) (before : List Chunk) (total work : Nat) : List Byte :=
  let at' := before.getLast?
  let mode := match before.reverse.find? (fun c => c.what == 1) with
    | some c => if at'.any Chunk.inTile then ofBits (c.bits.take 4) else 0
    | none => 0
  let body := leBytes 2 0x4352 ++ leBytes 1 1 ++ leBytes 1 mode ++ leBytes 4 ((at'.map (·.tiles)).getD 0)
    ++ leBytes 1 ((at'.map (·.pixels)).getD 0) ++ leBytes 3 0 ++ leBytes 4 total ++ leBytes 8 q.inAddr ++ leBytes 4 q.tiles
    ++ leBytes 4 q.tiling ++ leBytes 1 q.kind ++ leBytes 1 q.coding ++ leBytes 2 (putBits q.flags 2 1 0) ++ leBytes 24 work
  body ++ leBytes 4 (crc32 body)

/-- R474: the bits written before a resumed job, or BAD_CONTEXT. -/
def resumeAt (q : CeDesc) (ctx : List Byte) : Option Nat :=
  let f (o n : Nat) : Nat := ofLE ((ctx.drop o).take n)
  if crc32 (ctx.take 60) = f 60 4 ∧ f 0 2 = 0x4352 ∧ f 2 1 = 1 ∧ f 16 8 = q.inAddr ∧ f 24 4 = q.tiles ∧ f 28 4 = q.tiling
      ∧ f 32 1 = q.kind ∧ f 33 1 = q.coding ∧ f 34 2 = putBits q.flags 2 1 0 then some (f 12 4) else none

/-- The units of the input that read uncorrectable. -/
def Dev.ceBad (d : Dev) (a n : Nat) (errs : List (Nat × Ecc)) : List Nat :=
  ((d.waitsFor a n).checkedUnits 3 a n).filter (fun u => (d.eccOf u errs).bad)

/-- The input that reads correctly: the bytes before the first unit that reads uncorrectable. -/
def Dev.ceInput (d : Dev) (a n : Nat) (errs : List (Nat × Ecc)) : Nat :=
  match d.ceBad a n errs with
  | u :: _ => u - a
  | [] => n

/-- What is left of the part at which `good` tiles are passed: a run is cut short (R471). -/
def Chunk.cutTo (good : Nat) (c : Chunk) : List Chunk :=
  let start := c.tiles - (ofBits (c.bits.drop 2) + 1)
  if c.what = 3 ∧ start < good then [{ c with bits := c.bits.take 2 ++ bitsLsb 6 (good - start - 1), tiles := good }] else []

/-- The parts that the first `good` tiles give. -/
def goodParts (good : Nat) : List Chunk → List Chunk
  | [] => []
  | c :: r =>
    if c.tiles < good ∨ (c.tiles = good ∧ c.inTile = false ∧ c.what ≠ 0) then c :: goodParts good r else c.cutTo good

/-- An ENCODE job: `good` tiles of the input read correctly, and `room` bytes of OUT are writable. -/
def ceEncode (q : CeDesc) (tab : CodeTable) (tiles refs : List Tile) (good before room : Nat) : List Chunk × List Chunk × CeEnd :=
  let all := jobParts q tab q.tiles 0 0 tiles refs
  let (old, rest) := splitParts before all
  let able := if good < q.tiles then goodParts good rest else rest
  let (fit, left) := splitParts (8 * room) able
  let full := !left.isEmpty
  let out := if full && bitOf q.flags 4 then wholeTiles fit else fit
  let last := (old ++ out).getLast?
  let bits := bitLen (out.map Chunk.bits)
  (old, out, { code := if full then (if room < q.outLen then 7 else 1) else if good < q.tiles then 4 else 0, tiles := (last.map (·.tiles)).getD 0,
               pixels := (last.map (·.pixels)).getD 0, bits := bits, out := bytesOfBits (out.flatMap Chunk.bits) })

/-- The symbols of a bare tile as parts (for the counts). -/
def bareParts (q : CeDesc) (tab : CodeTable) (t : Tile) : List Chunk :=
  let pred := choosePred q.fmt q.pred tab t
  symChunks q.fmt tab [if rawWins q.fmt (4 + bitLen (pixelBits q.fmt pred tab t)) then .raw t else .coded t pred] 0

/-- Is a tile all zero? -/
def zeroTile (t : Tile) : Bool := t.all (fun px => px.all (· == 0))

/-- An ENCODE_DIR job: the tiles whose codes fit into `room` bytes, their entries, their bytes. -/
def dirTiles (q : CeDesc) (tab : CodeTable) (room : Nat) : List Tile → Nat → List (Nat × List Byte)
  | [], _ => []
  | t :: r, off =>
    let code := if zeroTile t then [] else bareTile q.fmt q.table q.pred tab t
    if room < off + code.length then [] else (off, code) :: dirTiles q tab room r (off + code.length)

/-! ### Decoding (R465, R470) -/

/-- The tiles of a DECODE job up to the first that does not decode, and why it does not; `fuel` bounds the segments. -/
def decodeSegs (q : CeDesc) (tabs : Nat → Option CodeTable) (refs : Option (List Tile)) : Nat → List Byte → List Tile →
    List Tile × Option BadStream
  | 0, _, acc => (acc, some .ends)
  | fuel + 1, bytes, acc =>
    if q.tiles ≤ acc.length then (acc.take q.tiles, none)
    else match readSegmentPart tabs (refs.map (·.drop acc.length)) bytes with
      | .error e => (acc, some e)
      | .ok (fmt, _, ts, rest) =>
        if fmt ≠ q.fmt then (acc, some .wrong)
        else match rest with
          | .ok rest => decodeSegs q tabs refs fuel rest (acc ++ ts)
          | .error e => ((acc ++ ts).take q.tiles, if q.tiles ≤ acc.length + ts.length then none else some e)

/-- The tiles of a DECODE_DIR job up to the first that fails, and the code of R471; `bad off len` tells of an uncorrectable unit
among those bytes of the input. -/
def decodeDir (q : CeDesc) (tabs : Nat → Option CodeTable) (input : List Byte) (bad : Nat → Nat → Bool) : Nat → Nat → List Tile × Nat
  | 0, _ => ([], 0)
  | n + 1, i =>
    let e := ofLE ((input.drop (8 * i)).take 8)
    let off := bitsOf e 0 32
    let len := bitsOf e 32 16
    let tile := if len = 0 then some (List.replicate 64 ((fmtDepths q.fmt).map (fun _ => 0)))
      else readBare q.fmt tabs 64 ((input.drop off).take len)
    if bad (8 * i) 8 then ([], 4)
    else if input.length < 8 * i + 8 ∨ bitsOf e 48 16 ≠ 0 ∨ (len ≠ 0 ∧ input.length < off + len) then ([], 5)
    else if bad off len then ([], 4)
    else match tile with
      | some t => let p := decodeDir q tabs input bad n (i + 1); (t :: p.1, p.2)
      | none => ([], 5)

/-! ### A job's end (R470 to R474) -/

/-- Does the engine hold host jobs (R472)? In SAFE it stands (R23). -/
def Dev.ceHolds (d : Dev) : Bool := decide (1 ≤ d.shedLevel) || !d.flag CE_CTRL_QUEUES_ENABLE || d.mode == 7

/-- A free encoder or decoder takes up the ready job of the lowest-numbered queue (R468). -/
def Dev.ceServe (d : Dev) : Dev :=
  let take (enc : Bool) (l : List (Nat × Bool)) : List (Nat × Bool) :=
    if l.any (fun p => p.2 == enc) then l
    else match (List.range 4).find? (fun q => d.get (CEq_STATUS_STATE q) == 2 && (d.ceDesc q).encodes == enc
        && !l.any (fun p => p.1 == q)) with
      | some q => l ++ [(q, enc)]
      | none => l
  { d with ce := { d.ce with serving := take false (take true d.ceInProgress) } }

/-- Queue `q` runs the job at HEAD, or holds it. -/
def Dev.ceRuns (q : Nat) (d : Dev) : Dev :=
  Dev.ceServe ({ d with ce := { d.ce with serving := d.ceInProgress } }.put (CEq_STATUS_STATE q) (if d.ceHolds then 5 else 2))

/-- A RESTART runs the job at HEAD anew; a rung holds it (R472, R510). -/
def Dev.ceRestart (q : Nat) (d : Dev) : Dev :=
  if d.rungHolds then { d with ce := { d.ce with go := q :: d.ce.go.filter (· != q) } } else d.ceRuns q

/-- What a rung holds of queue `q`'s RESTART is dropped. -/
def Dev.ceForget (q : Nat) (d : Dev) : Dev := { d with ce := { d.ce with go := d.ce.go.filter (· != q) } }

/-- IDLE with work: RUN, or WAIT for a WAIT job without a kept release; a queue whose ENABLE is 0 stops (R472). -/
def Dev.ceNext (q : Nat) (d : Dev) : Dev :=
  if d.get (CEq_STATUS_STATE q) ≠ 1 then d
  else if !d.flag (CEq_CTRL_ENABLE q) then d.put (CEq_STATUS_STATE q) 0
  else if d.get (CEq_TAIL_V q) = d.get (CEq_HEAD_V q) then d
  else if bitOf (d.ceDesc q).flags 0 then
    if d.flag (CEq_STATUS_RELEASE_KEPT q) && !d.rungHolds then (d.put (CEq_STATUS_RELEASE_KEPT q) 0).ceRuns q
    else d.put (CEq_STATUS_STATE q) 3
  else if d.rungHolds then d else d.ceRuns q

/-- A release (R472): the waiting job runs, or the release is kept. -/
def Dev.ceRelease (q : Nat) (d : Dev) : Dev :=
  if d.get (CEq_STATUS_STATE q) = 3 ∧ d.rungHolds = false then d.ceRuns q else d.put (CEq_STATUS_RELEASE_KEPT q) 1

/-- What a rung held resumes (R510). -/
def Dev.ceResume (d : Dev) : Dev :=
  foldS (List.range 4) (fun q s =>
    if s.ce.go.contains q then (s.ceForget q).ceRuns q
    else if s.get (CEq_STATUS_STATE q) = 3 ∧ s.flag (CEq_STATUS_RELEASE_KEPT q) = true then (s.put (CEq_STATUS_RELEASE_KEPT q) 0).ceRuns q
    else s.ceNext q) d

/-- Jobs in RUN are held, held jobs continue (R472). -/
def Dev.ceHoldSync (d : Dev) : Dev :=
  foldS (List.range 4) (fun q s =>
    if s.get (CEq_STATUS_STATE q) = 2 ∨ s.get (CEq_STATUS_STATE q) = 5 then s.ceRuns q else s) d

/-- RESULT, OUT_BITS, the counts, the event, and the queue's next state. -/
def Dev.ceFinish (q : Nat) (c : CeDesc) (e : CeEnd) (pixels : Nat) (d : Dev) : Dev :=
  let d0 := { d with ce := { d.ce with serving := d.ce.serving.filter (fun p => p.1 != q) } }
  let result := 2 ^ 31 + e.code * 2 ^ 28 + e.tiles % 2 ^ 22 * 64 + e.pixels % 64
  let d1 := if ceRange (d.ceAddr q) 64 then d0.agentWrite 3 (d.ceAddr q + 56) (leBytes 4 result ++ leBytes 4 e.bits)
    else d0
  let d2 := ((d1.put (CEq_STATUS_LAST_RESULT q) e.code).put (CEq_LAST_TILES_V q) e.tiles).put (CEq_LAST_BITS_V q) e.bits
  let d3 := (d2.addWrap (CEq_IN_PIXELS_V q) pixels).addWrap (CEq_OUT_BYTES_V q) e.out.length
  let d4 := if bitOf c.flags 1 || decide (2 ≤ e.code) then d3.post clsDma e.code (8 + q) [c.tag, result, e.bits] else d3
  if 2 ≤ e.code then
    (((d4.put (CEq_STATUS_ERR_INDEX q) (d4.get (CEq_HEAD_V q))).inc (CEq_ERR_COUNT_V q)).put (CEq_STATUS_STATE q)
      (if d4.flag (CEq_CTRL_ENABLE q) then 4 else 0)).ceServe
  else
    let d5 := (d4.inc (CEq_DONE_COUNT_V q)).put (CEq_HEAD_V q) ((d4.get (CEq_HEAD_V q) + 1) % 2 ^ d4.get (CEq_RING_SIZE_V q))
    let d6 := if e.code = 1 then d5.inc (CEq_FULL_COUNT_V q) else d5
    ((d6.put (CEq_STATUS_STATE q) 1).ceNext q).ceServe

/-- A job that fails before it writes anything. -/
def Dev.ceFails (q : Nat) (c : CeDesc) (code : Nat) (d : Dev) : Dev :=
  let d1 := if code = 4 then d.ceCount 11 1 else if code = 5 then d.ceCount 10 1 else d
  d1.ceFinish q c { code := code, tiles := 0, pixels := 0, bits := 0, out := [] } 0

/-- The encoding kinds. -/
def Dev.ceEncodeJob (q : Nat) (c : CeDesc) (errs : List (Nat × Ecc)) (d : Dev) : Dev :=
  let n := c.tiles * c.raw
  let good := min (d.ceInput c.inAddr n errs) (if c.ref then d.ceInput c.refAddr n errs else n) / c.raw
  let (_, input, d1) := d.agentRead 3 c.inAddr n errs
  let (_, refIn, d2) := if c.ref then d1.agentRead 3 c.refAddr n errs else (false, [], d1)
  let tiles := rawTiles c.fmt c.tiles input
  let refs := if c.ref then rawTiles c.fmt c.tiles refIn else []
  let tab := (d.ceTable c.table).getD (builtInTable 1)
  let room := d2.ceOpen c.outAddr c.outLen
  let (badCtx, ctx, d2) := if c.resume then d2.agentRead 3 c.ctxAddr 64 errs else (false, [], d2)
  let before := if c.resume then resumeAt c ctx else some 0
  match before with
  | none => d2.ceFails q c (if badCtx then 4 else 6)
  | some before =>
    if badCtx then d2.ceFails q c 4
    else if c.kind = 1 then
      let d3 := if c.resume then d2.ceCount 12 1 else d2
      let (old, out, e0) := ceEncode c tab tiles refs good before room
      let shutCtx := e0.code == 1 && d2.ceOpen c.ctxAddr 64 != 64
      let e := if shutCtx then { e0 with code := 7 } else e0
      let start := (old.getLast?.map (fun p => 64 * p.tiles + p.pixels)).getD 0
      let segs := out.countP (fun p => p.what == 0)
      let d4 := (d3.agentWrite 3 c.outAddr e.out).ceCoded out (e.tiles - start / 64) (if c.table = 15 then segs else 0)
      let d5 := if e.code = 1 then
          (d4.agentWrite 3 c.ctxAddr (ceContext c (old ++ out) (before + e.bits) (d4.free % 2 ^ 192))).drawn
        else if e.code = 4 then d4.ceCount 11 1
        else if e.code = 7 then (if shutCtx then d4.ceShutOut c.ctxAddr 64 else d4.ceShutOut c.outAddr c.outLen)
        else d4
      d5.ceFinish q c e (64 * e.tiles + e.pixels - start)
    else
      let fit := dirTiles c tab room (tiles.take good) (8 * c.tiles)
      let dir := fit.flatMap (fun p => leBytes 4 (if p.2 = [] then 0 else p.1) ++ leBytes 2 p.2.length ++ leBytes 2 0)
      let bytes := fit.flatMap (·.2)
      let code := if fit.length < min good c.tiles then (if room < c.outLen then 7 else 1) else if good < c.tiles then 4 else 0
      let parts := ((tiles.take fit.length).filter (fun t => !zeroTile t)).flatMap (bareParts c tab)
      let d3 := ((d2.agentWrite 3 c.outAddr dir).agentWrite 3 (c.outAddr + 8 * c.tiles) bytes).ceCoded parts fit.length 0
      let d4 := if code = 4 then d3.ceCount 11 1 else if code = 7 then d3.ceShutOut c.outAddr c.outLen else d3
      d4.ceFinish q c { code := code, tiles := fit.length, pixels := 0, bits := 8 * (dir.length + bytes.length), out := dir ++ bytes }
        (64 * fit.length)

/-- The decoding kinds. -/
def Dev.ceDecodeJob (q : Nat) (c : CeDesc) (errs : List (Nat × Ecc)) (d : Dev) : Dev :=
  let good := d.ceInput c.inAddr c.inLen errs
  let size := c.tiles * c.raw
  let goodRef := if c.ref then d.ceInput c.refAddr size errs else size
  let bad := d.ceBad c.inAddr c.inLen errs
  let hit (off len : Nat) : Bool := bad.any (fun u => decide (u < c.inAddr + off + len ∧ c.inAddr + off < u + unitSize u))
  let (_, input, d1) := d.agentRead 3 c.inAddr c.inLen errs
  let (_, refIn, d2) := if c.ref then d1.agentRead 3 c.refAddr size errs else (false, [], d1)
  let refs := if c.ref then some (rawTiles c.fmt (goodRef / c.raw) refIn) else none
  let (tiles, ending) := if c.kind = 3 then
      let p := decodeSegs c d.ceTable refs (good / 64 + 2) (input.take good) []
      (p.1, match p.2 with
        | none => 0
        | some .ends => if good < c.inLen ∨ goodRef < size then 4 else 5
        | some .wrong => 5)
    else decodeDir c d.ceTable input hit c.tiles 0
  let n := min tiles.length (d2.ceOpen c.outAddr c.outLen / c.raw)
  let code := if n < tiles.length then 7 else ending
  let out := (tiles.take n).flatMap (fun t => bytesOfBits (rawBits c.fmt t))
  let d3 := (d2.agentWrite 3 c.outAddr out).ceCount 1 n
  let d4 := if code = 4 then d3.ceCount 11 1 else if code = 5 then d3.ceCount 10 1
    else if code = 7 then d3.ceShutOut c.outAddr c.outLen else d3
  d4.ceFinish q c { code := code, tiles := n, pixels := 0, bits := 8 * out.length, out := out } (64 * n)

/-- CE_JOB_END: the job in progress at HEAD of queue `q` ends; `errs` is what reading memory found. -/
def ceJobEnd (q : Nat) (errs : List (Nat × Ecc)) (d : Dev) : Dev :=
  if d.get (CEq_STATUS_STATE q) ≠ 2 ∨ d.ce.serving.any (fun p => p.1 == q) = false then d
  else
    let c := d.ceDesc q
    let (bad, _, d1) := d.agentRead 3 (d.ceAddr q) 64 errs
    let code := if bad then 4 else d1.ceCheck c
    if code ≠ 0 then d1.ceFails q c code
    else if c.encodes then d1.ceEncodeJob q c errs
    else d1.ceDecodeJob q c errs

/-! ### Registers (R472, R478) -/

/-- A write of CEq_CTRL. -/
def ceqCtrlWrite (q v : Nat) (d : Dev) : Dev :=
  d.writeVia (CEq_CTRL q) v (fun _ => true) (fun s =>
    let st := s.get (CEq_STATUS_STATE q)
    let s1 := if !bitOf v 31 then (if st = 2 then s else ((s.ceForget q).put (CEq_STATUS_STATE q) 0).ceServe)
      else if st = 0 then (s.put (CEq_STATUS_STATE q) 1).ceNext q
      else if st = 4 ∧ bitOf v 29 = true then s.ceRestart q
      else if st = 4 ∧ bitOf v 28 = true then ((s.ceForget q).put (CEq_HEAD_V q) (s.get (CEq_TAIL_V q))).put (CEq_STATUS_STATE q) 1
      else s
    if bitOf v 30 then s1.ceRelease q else s1)

/-- A write of CEq_TAIL, of a ring register. -/
def ceTailWrite (q v : Nat) (d : Dev) : Dev :=
  d.writeVia (CEq_TAIL q) v (fun s => decide (v < 2 ^ s.get (CEq_RING_SIZE_V q))) (Dev.ceNext q)
def ceRingWrite (q r v : Nat) (d : Dev) : Dev := d.writeVia r v (fun s => !s.flag (CEq_CTRL_ENABLE q)) id

/-- A write of CE_CTRL. -/
def ceCtrlWrite (v : Nat) (d : Dev) : Dev :=
  d.writeVia CE_CTRL v (fun s => (s.ceTable (bitsOf v 0 3)).isSome) Dev.ceHoldSync

/-- A write of CE_TABLE_CTRL. -/
def ceTableCtrlWrite (v : Nat) (d : Dev) : Dev :=
  d.writeVia CE_TABLE_CTRL v (fun s => !(bitOf v 31 && s.get CE_TABLE_STATUS_STATE == 1)) (fun s =>
    if bitOf v 31 then ((s.setWord CE_TABLE_STATUS 0).put CE_TABLE_STATUS_STATE 1).put CE_TABLE_STATUS_SLOT (bitsOf v 0 3) else s)

/-- R462: does FB_TABLE or a job in RUN or HELD name table `t`? -/
def Dev.tableInUse (d : Dev) (t : Nat) : Bool :=
  d.get CE_CTRL_FB_TABLE == t
    || anyBelow 4 (fun q => (d.get (CEq_STATUS_STATE q) == 2 || d.get (CEq_STATUS_STATE q) == 5) && (d.ceDesc q).table == t)

/-- CE_TABLE_LOAD_DONE. -/
def ceTableLoadDone (errs : List (Nat × Ecc)) (d : Dev) : Dev :=
  if d.get CE_TABLE_STATUS_STATE ≠ 1 then d
  else
    let slot := d.get CE_TABLE_STATUS_SLOT
    let a := d.get CE_TABLE_SRC_LO_V + d.get CE_TABLE_SRC_HI_V * 2 ^ 32
    let refuse (err s : Nat) (b : Dev) : Dev :=
      ((((b.put CE_TABLE_STATUS_STATE 3).put CE_TABLE_STATUS_ERR err).put CE_TABLE_STATUS_FAIL_SLOT s).ceCount 15 1).raiseAt
        CE_EVT_STATUS CE_EVT_ENABLE clsDma 0xFF 2
    if d.tableInUse slot then refuse 4 0 d
    else if !ceRange a 54 then refuse 3 0 d
    else
      let (bad, bytes, d1) := d.agentRead 3 a 54 errs
      let t := tableOfBytes bytes
      if bad then refuse 3 0 d1
      else match (List.range 6).find? (fun s => !slotOk (nth [] t s)) with
        | some s => refuse (if 2 ^ 15 < kraft (nth [] t s) then 1 else 2) s d1
        | none =>
          let d2 := { d1 with ce := { d1.ce with tables := updAt d1.ce.tables (slot - 4) (fun _ => t) } }
          let d3 := (d2.put (CE_TABLE_CRCt_V slot) (crc32 bytes)).put CE_STATUS_TABLE_VALID
            (putBits (d2.get CE_STATUS_TABLE_VALID) slot 1 1)
          (d3.put CE_TABLE_STATUS_STATE 2).raiseAt CE_EVT_STATUS CE_EVT_ENABLE clsDma 0xFF 3

/-! ### The commands -/

/-- CE_TABLE_LOAD_DONE. -/
def execCeTableLoadDone (errs : List (Nat × Ecc)) (s : State) := s.on (ceTableLoadDone errs)
/-- CE_JOB_END. -/
def execCeJobEnd (q : Fin 4) (errs : List (Nat × Ecc)) (s : State) := s.on (ceJobEnd q errs)

end Sys2Proof.Machine
end

