-- ==== Sys2Proof/Machine/Sched.lean ====
section
/-! DEFINITION. The scheduler (R115 to R121, R139 to R143) and the HDn_COMMIT write that a mark makes too (R263 to R266). -/
namespace Sys2Proof.Machine

/-! ### HDn_COMMIT (R189, R236, R247, R264 to R266, R301) -/

/-- Do the checks of a commit pass for head `h`'s shadow set? -/
def Dev.commitSetOk (d : Dev) (h : Nat) : Bool := if d.isMip h then d.mipSetOk h else d.isRaster h && d.gaitSetOk h

/-- What an accepted write of 1 does: the set is sealed, idle ends (R282), and without commit points it applies at once (R264). -/
def Dev.headSeal (h : Nat) (d : Dev) : Dev :=
  if d.flag (HDn_SHADOW_STATE_V h) then d
  else
    let d1 := (d.put (HDn_SHADOW_STATE_V h) 1).idleEnd h
    if d1.hasCommitPoints h then d1 else if d1.isMip h then d1.mipApplyStopped h else d1.rasterApplyStopped h

/-- A write of HDn_COMMIT; on a sealed set it has no effect (R266). -/
def headCommitWrite (h v : Nat) (d : Dev) : Dev :=
  d.writeVia (HDn_COMMIT h) v (fun s => v == 0 || s.flag (HDn_SHADOW_STATE_V h) || s.commitSetOk h)
    (fun s => if v = 1 then s.headSeal h else s)

/-! ### Writes of a mark's registers (R115, R116, R118, R139 to R141) -/

/-- May Mm_TRIGGER take `v`? -/
def triggerOk (m v : Nat) (d : Dev) : Bool :=
  let kind := bitsOf v 28 4
  let source := bitsOf v 24 4
  !d.flag (Mm_CTRL_ARM m) && decide (bitsOf v 20 4 < 4) && (kind == 4 || (bitsOf v 20 4 == 0 && bitsOf v 0 16 == 0))
    && (match kind with
      | 0 => true
      | 3 => decide (source < 8) && (!d.isMip source || d.get (Mm_WHEN_V m) % 65536 == 0)
      | _ => decide (source < 4))

/-- A write of Mm_TRIGGER; Mm_WHEN reads 0 in [15:0] for a SHUTTER mark (R139). -/
def triggerWrite (m v : Nat) (d : Dev) : Dev :=
  d.writeVia (Mm_TRIGGER m) v (triggerOk m v)
    (fun s => if bitsOf v 28 4 = 4 then s.put (Mm_WHEN_V m) (s.get (Mm_WHEN_V m) / 65536 * 65536) else s)

/-- May Mm_WHEN take `v`? -/
def whenOk (m v : Nat) (d : Dev) : Bool :=
  !d.flag (Mm_CTRL_ARM m)
    && (match d.get (Mm_TRIGGER_KIND m) with
      | 3 => !d.isMip (d.get (Mm_TRIGGER_SOURCE m)) || v % 65536 == 0
      | 4 => v % 65536 == 0
      | _ => true)

/-- A write of Mm_WHEN. -/
def whenWrite (m v : Nat) (d : Dev) : Dev := d.writeVia (Mm_WHEN m) v (whenOk m v) id

/-- May Mm_ACTION take `v`? -/
def actionOk (m v : Nat) (d : Dev) : Bool :=
  let target := bitsOf v 22 6
  let arg := bitsOf v 0 16
  let pin : Bool := decide (target < 48) && (d.pinEntry target).function == 3
  !d.flag (Mm_CTRL_ARM m)
    && (match bitsOf v 28 4 with
      | 0 => true
      | 1 => d.headPresent target && arg == 0
      | 2 => d.headPresent target && arg == 0
      | 3 => pin && arg == 0
      | 4 => pin && arg == 0
      | 5 => pin && decide (1 ≤ arg)
      | 6 => target == 0
      | 7 => decide (target < 8) && arg == 0
      | 8 => decide (target < 4) && arg == 0
      | _ => decide (target < 16) && arg == 0)

/-- A write of Mm_ACTION. -/
def actionWrite (m v : Nat) (d : Dev) : Dev := d.writeVia (Mm_ACTION m) v (actionOk m v) id

/-! ### Reports (R116, R119, R120, R143) -/

/-- The mark's action fails. -/
def Dev.markFail (m : Nat) (d : Dev) : Dev :=
  ((d.put (Mm_CTRL_FAILED m) 1).inc SCHED_FAIL_COUNT_V).markReport m 3 SCHED_CTRL_EVENT_ON_FAIL
/-- The mark misses a frame and stays armed. -/
def Dev.markMiss (m : Nat) (d : Dev) : Dev :=
  ((d.put (Mm_CTRL_MISSED m) 1).inc SCHED_MISS_COUNT_V).markReport m 4 SCHED_CTRL_EVENT_ON_MISS

/-! ### Actions (R116) -/

/-- A scheduler output is driven; a pulse in progress ends or begins. -/
def Dev.pinAction (p : Nat) (high pulse : Bool) (d : Dev) : Dev :=
  (d.drive p high).onPins (fun u => { u with pulsing := updAt u.pulsing p (fun _ => pulse) })

/-- LAUNCH: the front entry of head `h`'s queue is released, and is due (R116, R276, R282). -/
def Dev.launch (h : Nat) (d : Dev) : Dev :=
  match (d.head h).queue with
  | e :: r => (d.onHead h (fun u => { u with queue := { e with released := true } :: r })).idleEnd h
  | [] => d

/-- The action of mark `m`. -/
def Dev.markAct (m : Nat) (d : Dev) : Dev :=
  let t := d.get (Mm_ACTION_TARGET m)
  let arg := d.get (Mm_ACTION_ARG m)
  match d.get (Mm_ACTION_KIND m) with
  | 1 => if (d.head t).resetHeld then d.markFail m else headCommitWrite t 1 d
  | 2 => d.launch t
  | 3 => d.pinAction t true false
  | 4 => d.pinAction t false false
  | 5 => d.pinAction t true true
  | 6 => d.post clsSched 0 m [arg, d.nsc32 0]
  | 7 => if d.dmaBusy t then d.markFail m else d.dmaStart t
  | 8 => if d.get (CEq_HEAD_V t) = d.get (CEq_TAIL_V t) then d.markFail m else d.ceRelease t
  | 9 => if d.get (CAPc_CTRL_SOURCE t) ≠ 0x40 ∨ 4 ≤ (d.cap t).length then d.markFail m else d.capPush t 0
  | _ => d

/-- A firing: counted, a ONCE mark goes IDLE, then the action. -/
def Dev.markFire (m : Nat) (d : Dev) : Dev :=
  let d1 := d.addWrap (Mm_CTRL_FIRE_COUNT m) 1
  (if d1.flag (Mm_CTRL_REPEAT m) then d1 else d1.put (Mm_CTRL_ARM m) 0).markAct m

/-- A past ONCE mark follows its late policy. -/
def Dev.markPassed (m : Nat) (d : Dev) : Dev :=
  if d.flag (Mm_CTRL_LATE_POLICY m) then d.markDrop m else (d.markLate m).markFire m

/-! ### Triggers (R115, R117, R119, R120) -/

/-- Has the phase event `phase` of the present frame of stream `n` occurred? -/
def Dev.phaseSeen (d : Dev) (n phase : Nat) : Bool := match (d.stream n).prevFrame with
  | some f => (d.stream n).phases.contains (f, phase)
  | none => false

/-- The number of frame `F` relative to the present one of the mark's stream or head: 0 future, 1 current, 2 past. Before a stream's first
FRAME_START since ENABLE it has no frame C (R9), and every F counts as future (DESIGN CHOICE, assumption 96). -/
def Dev.frameRel (d : Dev) (m : Nat) : Nat :=
  let f := d.get (Mm_WHEN_V m) / 65536
  let n := d.get (Mm_TRIGGER_SOURCE m)
  match d.get (Mm_TRIGGER_KIND m) with
  | 3 =>
    let c := d.get (HDn_POSITION_FRAME n)
    let u := d.head n
    if u.nextFrame = (c + 1) % 65536 then (if f = c then 1 else if past16 f c then 2 else 0) else if past16 f u.nextFrame then 2 else 0
  | _ =>
    match (d.stream n).prevFrame with
    | some c => if f = c then 1 else if past16 f c then 2 else 0
    | none => 0

/-- Within the present frame, has the mark's line or phase event been reached? -/
def Dev.markReached (d : Dev) (m : Nat) : Bool :=
  let n := d.get (Mm_TRIGGER_SOURCE m)
  let l := d.get (Mm_WHEN_V m) % 65536
  match d.get (Mm_TRIGGER_KIND m) with
  | 2 => d.inState n != 2 || (arrivalOf (d.stream n).arrivals l).isSome
  | 3 => d.isMip n || ((d.head n).lineBegun && decide (l ≤ d.get (HDn_POSITION_LINE n))) || !d.scans n
  | _ => d.phaseSeen n (d.get (Mm_TRIGGER_PHASE m))

/-- R96, R119: is mark `m` past? An EVERY_FRAME mark never is. -/
def Dev.markPast (d : Dev) (m : Nat) : Bool :=
  !d.flag (Mm_CTRL_REPEAT m) &&
    (match d.get (Mm_TRIGGER_KIND m) with
    | 1 => d.sched.skips.contains m || past32 (d.get (Mm_WHEN_V m)) (d.nsc32 (d.get (Mm_TRIGGER_SOURCE m)))
    | _ => d.frameRel m == 2 || (d.frameRel m == 1 && d.markReached m))

/-- R115: may the trigger instant of the armed mark `m` be now? A HEAD_LINE mark at the commit point fires in it (R13); a SHUTTER mark
fires DELAY_US after its FRAME_MARK. -/
def Dev.markDue (d : Dev) (m : Nat) : Bool :=
  let n := d.get (Mm_TRIGGER_SOURCE m)
  let l := d.get (Mm_WHEN_V m) % 65536
  let frame : Bool := d.flag (Mm_CTRL_REPEAT m) || d.frameRel m == 1
  d.flag (Mm_CTRL_ARM m) &&
    (match d.get (Mm_TRIGGER_KIND m) with
    | 1 => !d.sched.skips.contains m && due32 (d.get (Mm_WHEN_V m)) (d.nsc32 n)
    | 2 => frame && (arrivalOf (d.stream n).arrivals l).isSome
    | 3 => frame && d.isRaster n && (d.head n).lineBegun && d.get (HDn_POSITION_LINE n) == l && ((d.head n).inFrame || l != d.vactive n)
    | _ => d.sched.shots.any (fun p => p.1 == m && decide (p.2 ≤ (d.tb 3).total)))

/-- The first shot of mark `m` is taken. -/
def Dev.shotTaken (m : Nat) (d : Dev) : Dev :=
  { d with sched := { d.sched with shots := d.sched.shots.eraseP (fun p => p.1 == m) } }

/-- Mark `m` is armed or disarmed anew: nothing of its former trigger is left. -/
def Dev.markFresh (m : Nat) (d : Dev) : Dev :=
  { d with sched := { shots := d.sched.shots.filter (fun p => p.1 != m), skips := d.sched.skips.filter (· != m) } }

/-- Does the scheduler run? It stops in Walk (R511) and with the device off. -/
def Dev.schedRuns (d : Dev) : Bool := d.get POWER_RUNG_STATUS_STATE != 3 && d.mode != 0

/-- MARK_TRIGGER: the marks of the list whose instant is now act, in ascending mark number (R117). -/
def markTrigger (l : List Nat) (d : Dev) : Dev :=
  if !d.schedRuns then d
  else
    let due := filterRange 256 (fun m => l.contains m && d.markDue m)
    foldS due (fun m s => (s.shotTaken m).markFire m) d

/-- Step 4 of R13: the HEAD_LINE marks on line `l` of frame `f` of head `h` fire. -/
def Dev.marksAtCommit (h f l : Nat) (d : Dev) : Dev :=
  let due := filterRange 256 (fun m => d.flag (Mm_CTRL_ARM m) && d.get (Mm_TRIGGER_KIND m) == 3 && d.get (Mm_TRIGGER_SOURCE m) == h
    && d.get (Mm_WHEN_V m) % 65536 == l && (d.flag (Mm_CTRL_REPEAT m) || d.get (Mm_WHEN_V m) / 65536 == f))
  foldS due Dev.markFire d

/-- R120: the marks on the lines `a` to `b - 1` of frame `f` of head `h`, which an underrun abort skips, at the jump. -/
def Dev.marksSkipped (h f a b : Nat) (d : Dev) : Dev :=
  let hit := filterRange 256 (fun m => d.flag (Mm_CTRL_ARM m) && d.get (Mm_TRIGGER_KIND m) == 3 && d.get (Mm_TRIGGER_SOURCE m) == h
    && decide (a ≤ d.get (Mm_WHEN_V m) % 65536) && decide (d.get (Mm_WHEN_V m) % 65536 < b)
    && (d.flag (Mm_CTRL_REPEAT m) || d.get (Mm_WHEN_V m) / 65536 == f))
  foldS hit (fun m s =>
    if !s.flag (Mm_CTRL_LATE_POLICY m) then (s.markLate m).markFire m
    else if s.flag (Mm_CTRL_REPEAT m) then s.markMiss m
    else s.markDrop m) d

/-- MARK_POSITION_PASSED: the position of the armed mark `m` passed without firing (R120). A SHUTTER mark of every frame never
misses; one whose delay runs has not been passed. -/
def markPositionPassed (m : Nat) (d : Dev) : Dev :=
  if !d.flag (Mm_CTRL_ARM m) || !d.schedRuns || d.sched.shots.any (fun p => p.1 == m) then d
  else if d.flag (Mm_CTRL_REPEAT m) then (if d.get (Mm_TRIGGER_KIND m) = 4 then d else d.markMiss m)
  else if d.markPast m then d.markPassed m
  else d

/-! ### Arming (R118, R119, R121) -/

/-- May Mm_CTRL take `v`? -/
def markCtrlOk (m v : Nat) (d : Dev) : Bool :=
  let kind := d.get (Mm_TRIGGER_KIND m)
  (!bitOf v 31 || (!d.flag (Mm_CTRL_ARM m) && kind != 0)) && (!bitOf v 30 || decide (2 ≤ kind ∧ kind ≤ 4))

/-- A write of Mm_CTRL. -/
def markCtrlWrite (m v : Nat) (d : Dev) : Dev :=
  d.writeVia (Mm_CTRL m) v (markCtrlOk m v) (fun s0 =>
    let s := s0.markFresh m
    if bitOf v 31 then
      let s1 := [Mm_CTRL_LATE m, Mm_CTRL_DROPPED m, Mm_CTRL_FAILED m, Mm_CTRL_MISSED m, Mm_CTRL_FIRE_COUNT m].foldl (fun t f => t.put f 0) s
      if s1.markPast m then s1.markPassed m else s1
    else s)

/-- A write of SCHED_DISARM_ALL. -/
def disarmAllWrite (v : Nat) (d : Dev) : Dev :=
  d.writeVia SCHED_DISARM_ALL v (fun _ => true) (fun s =>
    if v = 1 then { foldS (List.range 256) (fun m t => t.put (Mm_CTRL_ARM m) 0) s with sched := {} } else s)

/-- PCTL_PULSE_END: the pulse of pin `p` ends, unless a later action ended it. -/
def pulseEnd (p : Nat) (d : Dev) : Dev := if nth false d.pins.pulsing p then d.pinAction p false false else d

/-- The marks armed among 32k to 32k + 31, as SCHED_ARMEDk shows them. -/
def Dev.armedWord (d : Dev) (k : Nat) : Nat := (List.range 32).foldl (fun a j => a + b2n (d.flag (Mm_CTRL_ARM (32 * k + j))) * 2 ^ j) 0

/-- MARK_TRIGGER. -/
def execMarkTrigger (marks : List Nat) (s : State) := s.on (markTrigger marks)
/-- MARK_POSITION_PASSED. -/
def execMarkPositionPassed (m : Fin 256) (s : State) := s.on (markPositionPassed m)
/-- PCTL_PULSE_END. -/
def execPctlPulseEnd (p : Fin 48) (s : State) := s.on (pulseEnd p)

end Sys2Proof.Machine
end

