-- ==== Sys2Proof/Machine/Tack.lean ====
section
/-! DEFINITION. The tack image (chapter 02): what each section sets, the load state machine, the writes of the TACK
block, and the end of a re-tack. Its verification stands in Image.lean. -/
namespace Sys2Proof.Machine

/-! ### Applying the sections (R51, R59) -/

/-- Step 1 of R59: CLOCK_PLAN; the PLLs lock. -/
def Dev.clockApply (b : List Byte) (d : Dev) : Dev :=
  let rates := (List.range 9).map (fun q => leAt b q 1)
  let khz := (List.range 4).map (fun p => leAt b (12 + 4 * p) 4)
  let d1 := d.onTack (fun u => { u with hplls := khz, headHpll := (List.range 8).map (fun n => leAt b (28 + n) 1) })
  let d2 := d1.put TACK_QUAD_RATE_V (rates.zipIdx.foldl (fun a (r, q) => a + r % 8 * 8 ^ q) 0)
  let locked := 3 + (khz.zipIdx.foldl (fun a (k, p) => a + b2n (k != 0) * 2 ^ (2 + p)) 0)
    + (rates.zipIdx.foldl (fun a (r, q) => a + b2n (r != 0) * 2 ^ (6 + q)) 0)
  d2.put TOP_PLL_STATUS_V locked

/-- Step 2: PIN_MAP; pins of function 1 and 6 take their park levels, scheduler outputs drive low (R548). -/
def Dev.pinApply (b : List Byte) (d : Dev) : Dev :=
  let d1 := d.onTack (fun u => { u with pins := (List.range 64).map (pinOf b), pinVolts := (List.range 6).map (fun k => leAt b k 1) })
  let d2 := d1.onPins (fun u => { u with
    mapped := (List.range 48).map (fun p => (pinOf b p).function != 0), lastVolts := some ((List.range 6).map (fun k => leAt b k 1)) })
  foldS (List.range 48) (fun p s =>
    let e := s.pinEntry p
    if e.function = 1 ∨ e.function = 6 then s.drive p (bitOf e.flags 2)
    else if e.function = 3 then s.drive p false
    else s) d2

/-- A lane of link `j` is taken into the link (R372, R384): its role, link and link lane. -/
def Dev.laneTaken (j n role lane : Nat) (d : Dev) : Dev :=
  let d1 := (((d.put (LNn_STATUS_ROLE n) role).put (LNn_STATUS_LINK n) j).put (LNn_STATUS_LINK_LANE n) lane).put (LNn_POWER_STATE n) 0
  if (d.linkEntry j).txOnly then d1 else d1.setLane n 1

/-- Step 3: LINK_MAP; every lane of a link starts lunge, the others are L-Dark. -/
def Dev.linkApply (b : List Byte) (d : Dev) : Dev :=
  let d1 := d.onTack (fun u => { u with links := (List.range 16).map (linkOf b) })
  let d2 := foldS (List.range 36) (fun n s => s.put (LNn_POWER_STATE n) 3) d1
  foldS (List.range 16) (fun j s =>
    let e := s.linkEntry j
    if e.profile = 0 then s
    else
      let s1 := ((((s.put (LKj_STATUS_STATE j) (if e.txOnly then 5 else 1)).putB (LKj_STATUS_SPARE_PRESENT j) e.spare.isSome).put
        (LKj_STATUS_LANES j) (s.linkLanes j)).put (LKj_STATUS_PROFILE j) e.profile)
      let s2 := e.lanes.zipIdx.foldl (fun t (n, k) => t.laneTaken j n 1 k) s1
      let s3 := match e.spare with
        | some n => s2.laneTaken j n 2 15
        | none => s2
      (s3.txSync j).alignColumn j) d2

/-- Step 4: BANK_OWNER. -/
def Dev.bankApply (b : List Byte) (d : Dev) : Dev :=
  foldS (List.range 16) (fun n s =>
    let o := leAt b n 1
    let f := leAt b (16 + n) 1
    let s1 := (((s.put (SBn_OWNER_OWNER n) o).putB (SBn_OWNER_SHARE_READ n) (bitOf f 0)).putB (SBn_OWNER_LENDABLE n) (bitOf f 1)).putB
      (SBn_OWNER_MAILBOX n) (bitOf f 2)
    s1.put ⟨TACK_BANK_RESETn (n / 8), 4 * (n % 8), 4⟩ o) d

/-- R51: what each retired engine of a list is replaced by: the spares in ascending order. DESIGN CHOICE: the retired engines take them in
the order of the heads and, within a head, of its chain; the spec gives no order (assumption 99). -/
def engineSubst (allocated retired : List Nat) : List (Nat × Nat) :=
  (allocated.filter retired.contains).zip (filterRange 28 (fun k => !allocated.contains k && !retired.contains k))

/-- A chain with its retired engines replaced. -/
def substChain (m : List (Nat × Nat)) (l : List StageEntry) : List StageEntry :=
  l.map (fun e => { e with engines := e.engines.map (fun k => (cellFind m k).getD k) })

/-- R51: a replacement at APPLY is a logged substitution of an engine that is retired already. -/
def Dev.substLogged (k to' : Nat) (d : Dev) : Dev :=
  let q : FarRequest := { cls := 0, trig := 0, inst := k }
  Dev.farEvt 0 ((((d.inc (FAR_SUBk_V 0)).setWord (FAR_SUB_LASTk 0) q.word).put FAR_SUB_TIME_V (d.nsc32 0)).farLog q to' 0) (d.farInst { q with inst := to' })

/-- Step 5: HEAD_DESC and STAGE_GRAPH of each head, in ascending order; a head that the image does not have is not present, and every
other engine that is not retired is a spare. -/
def Dev.headsApply (img : List Byte) (d : Dev) : Dev :=
  let heads := imgHeads img
  let m := engineSubst (heads.flatMap (fun h => (headImage img h).engines)) (d.enginesIn 3)
  let d1 := foldS (List.range 28) (fun k s => if s.get (SEk_STATUS_STATE k) = 3 then s else s.engineFree k 2) d
  let gone := (List.range 8).filter (fun h => !heads.contains h)
  let d1 := foldS gone (fun h s => ((s.resetReg (TACK_HEADn h)).resetReg (TACK_LEDGERn h)).onHead h (fun u => { u with sect := {} })) d1
  let d2 := foldS heads (fun h s =>
    let x := headImage img h
    s.headApply h { x with sect := { x.sect with chain := substChain m x.sect.chain } }) d1
  let d3 := m.foldl (fun s (k, t) => s.substLogged k t) d2
  let d4 := (d3.put (FAR_INVk_TOTAL 0) (28 - (d3.enginesIn 1).length)).put (FAR_INVk_TOTAL 1)
    ((List.range 16).countP (fun j => (d3.linkEntry j).spare.isSome))
  (d4.put TACK_STATUS_HEADS (leAt img 0x1C 1)).engineSync

/-- Steps 1 to 5 of R59. -/
def Dev.structApply (img : List Byte) (d : Dev) : Dev :=
  ((((d.clockApply (imgGlobal img 1)).pinApply (imgGlobal img 2)).linkApply (imgGlobal img 3)).bankApply (imgGlobal img 4)).headsApply img

/-! ### DEFAULT_TABLES (R46) -/

/-- A record: register words or memory words from an address up. -/
structure TableRec where
  memory : Bool
  addr : Nat
  words : List Nat
deriving DecidableEq, Repr

/-- The records of a section; none where it does not divide into records. -/
def tableRecs : Nat → List Byte → Option (List TableRec)
  | _, [] => some []
  | 0, _ => none
  | n + 1, b =>
    let count := leAt b 12 4
    if b.length < 16 ∨ 1 < leAt b 0 4 ∨ 255 < leAt b 8 4 ∨ count = 0 ∨ 65536 < count ∨ b.length < 16 + 4 * count then none
    else (tableRecs n (b.drop (16 + 4 * count))).map (fun l =>
      { memory := leAt b 0 4 == 1, addr := leAt b 4 4 + leAt b 8 4 * 2 ^ 32,
        words := (List.range count).map (fun k => leAt b (16 + 4 * k) 4) } :: l)

/-- The records of an instance of DEFAULT_TABLES. -/
def imgTables (img : List Byte) (inst : Nat) : Option (List TableRec) := match imgSection img 6 inst with
  | some b => tableRecs (b.length / 20) b
  | none => some []

/-- A memory record is written. -/
def Dev.memRecord (r : TableRec) (d : Dev) : Dev := d.agentWrite 1 r.addr (r.words.flatMap (leBytes 4))

/-! ### The load state machine (R53, R54, R58, R61) -/

/-- TACK entry (R52): BOOTSEL is sampled. With BOOTSEL 01 the recovery slot is the only source. -/
def Dev.tackEntry (bootsel : Nat) (d : Dev) : Dev :=
  let d1 := ((d.setMode 2).put TACK_STATUS_SOURCE bootsel).put TOP_STRAPS_BOOTSEL bootsel
  match bootsel with
  | 0 => d1.put TACK_STATUS_STATE 1
  | 1 => (d1.put TACK_STATUS_STATE 2).onTack (fun u => { u with source := 2, left := [] })
  | _ => d1.put TACK_STATUS_STATE 6

/-- SELECT takes the next source; with none left the load has FAILED (R61). The caller enters SAFE. -/
def Dev.selectNext (d : Dev) : Dev :=
  match d.tack.left with
  | n :: r => (d.put TACK_STATUS_STATE 2).onTack (fun u => { u with source := n, left := r, header := none, image := [] })
  | [] => (d.put TACK_STATUS_STATE 7).onTack (fun u => { u with header := none, image := [] })

/-- A failure in FETCH or VERIFY: the attempt is recorded, and the next source, another push or FAILED follows (R54, R61). -/
def Dev.loadFails (cause : Nat) (d : Dev) : Dev :=
  let d1 := d.attempt d.tack.source cause 0xFF
  if d.tack.source < 3 then d1.selectNext
  else
    let n := d.tack.pushFails + 1
    (d1.put TACK_STATUS_STATE (if 8 ≤ n then 7 else 6)).onTack (fun u => { u with pushFails := n, header := none, image := [] })

/-! ### Writes of the TACK block (R54, R57, R62, R67, R70, R72, R76) -/

/-- TACK_PUSH_ADDR and TACK_PUSH_LENGTH change only in PUSH_WAIT. -/
def pushRegWrite (r v : Nat) (d : Dev) : Dev :=
  d.writeVia r v (fun s => s.get TACK_STATUS_STATE == 6
    && (r != TACK_PUSH_LENGTH || (v % 64 == 0 && decide (1024 ≤ v ∧ v ≤ 4194304)))) id

/-- TACK_PUSH_GO. -/
def pushGoWrite (v : Nat) (d : Dev) : Dev :=
  d.writeVia TACK_PUSH_GO v (fun s => s.get TACK_STATUS_STATE == 6) (fun s =>
    if v = 1 then
      (s.put TACK_STATUS_STATE 2).onTack (fun u => { u with source := 1 + s.get TACK_STATUS_SOURCE, header := none, image := [] })
    else s)

/-- TACK_CONTROL: NEXT_SLOT is kept; BURN_ROLLBACK raises the fuse count (R57). -/
def tackControlWrite (v : Nat) (d : Dev) : Dev :=
  d.writeVia TACK_CONTROL v (fun _ => true) (fun s =>
    if bitOf v 8 then s.put TACK_ROLLBACK_FUSE_COUNT (max (s.get TACK_ROLLBACK_FUSE_COUNT) (s.get TACK_ROLLBACK_IMAGE_COUNT)) else s)

/-- TACK_RT_ADDR and TACK_RT_LENGTH change only while no re-tack runs. -/
def rtRegWrite (r v : Nat) (d : Dev) : Dev := d.writeVia r v (fun s => !s.rtActive) id

/-- R62: is START accepted for head `h`? -/
def Dev.rtStartOk (h : Nat) (d : Dev) : Bool :=
  let n := d.get TACK_RT_LENGTH_V
  (d.mode == 3 || d.mode == 4) && d.headPresent h && !d.flag (HDn_SHADOW_STATE_V h) && n % 64 == 0 && decide (1024 ≤ n ∧ n ≤ 524288)

/-- Is engine `k` a spare that a re-tack may take, or has reserved (R64)? DESIGN CHOICE: a spare under BIST is neither taken nor counted
(assumption 98). -/
def Dev.rtSpare (d : Dev) (k : Nat) : Bool := d.get (SEk_STATUS_STATE k) == 2 || d.get (SEk_STATUS_STATE k) == 5

/-- The spare engines that a section takes are reserved, and no others (R64). -/
def Dev.rtReserve (x : HeadImage) (d : Dev) : Dev :=
  (foldS (filterRange 28 d.rtSpare) (fun k s => s.put (SEk_STATUS_STATE k) (if x.engines.contains k then 5 else 2)) d).engineSync

/-- A re-tack of head `h` starts: COPY. The spares that the image takes as it lies in memory are reserved from now on (R64). -/
def Dev.rtStart (h : Nat) (d : Dev) : Dev :=
  let img := d.memBytes (d.get TACK_RT_ADDR_LO_V + d.get TACK_RT_ADDR_HI_V * 2 ^ 32) (d.get TACK_RT_LENGTH_V)
  let d1 := ((d.setWord TACK_RT_STATUS 0).put TACK_RT_STATUS_STATE 1).put TACK_RT_STATUS_HEAD h
  ((d1.setMode 5).onTack (fun u => { u with rtImage := [] })).rtReserve (headImage img h)

/-- TACK_RT_CONTROL: HEAD, START and ABANDON. A write that leaves HEAD as it is may abandon a running re-tack. DESIGN CHOICE: of
START and ABANDON in one write, START acts (assumption 68). -/
def rtControlWrite (v : Nat) (d : Dev) : Dev :=
  let h := bitsOf v 0 3
  d.writeVia TACK_RT_CONTROL v
    (fun s => (!s.rtActive || h == s.get TACK_RT_CONTROL_HEAD) && (!bitOf v 8 || s.rtStartOk h))
    (fun s => if bitOf v 8 then s.rtStart h else if bitOf v 9 then s.rtAbandon 1 0 else s)


end Sys2Proof.Machine
end

