-- ==== Sys2Proof/Machine/Power.lean ====
section
/-! DEFINITION. Resets, start-up, SAFE, the power ladder, shedding and the supplies (chapters 01 and 15), with the steps of the
harness die that end in them (R341 to R355). -/
namespace Sys2Proof.Machine

/-- Sets a POWER_EVT_STATUS bit. -/
def Dev.powerEvt (b : Nat) (d : Dev) : Dev := d.raiseAt POWER_EVT_STATUS POWER_EVT_ENABLE clsPower 0xFF b

/-- The rung in which the device rests, or its state code (R517). -/
def Dev.rung (d : Dev) : Nat := d.get POWER_RUNG_STATUS_STATE

/-! ### Heads that stop at once (R23, R298, R261, R516) -/

/-- Head `h` becomes STOPPED at once; a frame in progress ends as aborted. -/
def Dev.headStopNow (h : Nat) (d : Dev) : Dev :=
  if d.headState h = 0 then d
  else if d.isMip h then d.mipStopped h
  else
    let n := d.nextLine h
    let d1 := if (d.head h).inFrame then ((d.inc (HDn_COUNTk_V h 1)).frameEnds h (some n)).frameClosed h (some n) 0 else d
    d1.rasterStopped h

/-- Every head stops at once; RUN reads 0. The commons of the MIP heads are balanced (R321). -/
def Dev.headsStopNow (d : Dev) : Dev :=
  foldS (List.range 8) (fun h s =>
    let s1 := (s.headStopNow h).put (HDn_CTRL_V h) 0
    if s1.isMip h then foldS (s1.coms h) Dev.balanceZero s1 else s1) d

/-- Every lane moves to a power state. -/
def Dev.allLanesTo (st : Nat) (d : Dev) : Dev :=
  foldS (List.range 36) (fun n s => if (s.laneLink n).isSome then s else s.lanePower n st)
    (foldS (List.range 16) (fun j s => if s.linkState j = 0 then s else s.linkPower j st) d)

/-! ### SAFE (R22, R23) -/

/-- A request for a rung, waiting or entering, ends with the entry to SAFE, which R24 lets be left for OFF by the supply alone; no
later exit from a rung starts a lane (R16). -/
def Dev.rungWithdrawn (d : Dev) : Dev :=
  let d1 := if d.get POWER_RUNG_STATUS_STATE = 6 ∧ d.power.forced = false then d.put POWER_RUNG_STATUS_STATE 0 else d
  d1.onPower (fun u => { u with waiting := false, wakeHeld := false, lanesBefore := List.replicate 36 2 })

/-- A fatal cause: SAFE is entered from every mode but OFF; in SAFE a further cause goes to the fault log only. -/
def Dev.fatal (cause detail : Nat) (d : Dev) : Dev :=
  if d.mode = 0 then d
  else if d.mode = 7 then d.flogWrite clsDevice cause 0xFF [detail]
  else
    let d1 := (((d.setMode 7).put TOP_STATUS_SAFE_CAUSE cause).put TOP_SAFE_TIME_V (d.nsc32 0)).put TOP_SAFE_DETAIL_V detail
    let d2 := (d1.flogWrite clsDevice cause 0xFF [detail]).headsStopNow
    let d3 := ((d2.discharge 4 (fun _ => true)).calCancel (fun _ => true)).allLanesTo 2
    (d3.ceHoldSync).rungWithdrawn

/-! ### Entry to INIT (R28, R518 to R523) -/

/-- The registers that keep their words when INIT is entered other than by a power-on reset; a warm reset leaves the PCIe link up. -/
def keptReg (warm : Bool) (r : Nat) : Bool := isPorOnly r || (warm && r == HOST_STATUS)

/-- What the fuses hold, in the words of TACK_KEY and TACK_ROLLBACK. -/
def Dev.fuses (d : Dev) : Nat × Nat := (d.word TACK_KEY / 16 % 32 * 16, d.get TACK_ROLLBACK_FUSE_COUNT * 256)

/-- INIT is entered: by a power-on reset (`last` = 1), a wake from Stand (2) or Stable (3), PERST_N (4) or TOP_RESET (5). The
contents of flash and of the host's memory are not the device's to lose. -/
def Dev.initEnter (last : Nat) (held : Bool) (d : Dev) : Dev :=
  let por := decide (last = 1)
  let base : Dev := { hostMem := d.hostMem, flash := d.flash, sent := d.sent, fresh := d.fresh }
  let d1 : Dev := if por then base else { base with
    regs := d.regs.filter (fun c => keptReg (last == 5) c.1), applied := d.applied.filter (fun c => isPorOnly c.1),
    time := d.time, halt := d.halt, tap := d.tap, pins := { lastVolts := d.pins.lastVolts }, evt := { flog := d.evt.flog, vecs := if last = 5 then d.evt.vecs else List.replicate 64 {} } }
  let (key, roll) := d.fuses
  let d2 := (d1.setWord TACK_KEY key).setWord TACK_ROLLBACK roll
  let d3 := (d2.put TOP_RESET_CAUSE_LAST last).putB TOP_RESET_CAUSE_HELD held
  let now := (d3.tb 3).total
  let d4 := d3.onPower (fun u => { u with
    initAt := now, stepAt := now, rungAt := now, modeAt := now, islandRc := d.power.islandRc, perstLow := d.power.perstLow,
    refs := d.power.refs })
  if por then (d4.put (TOP_RESET_COUNTk_V 1) 1).put TOP_BOOT_COUNT_V 1
  else ((d4.put TOP_STATUS_INIT_STEP 1).inc (TOP_RESET_COUNTk_V last)).inc TOP_BOOT_COUNT_V

/-- A reset that enters INIT: panels that are not OFF are discharged first (code 10), and a discharge holds the reset off; of several
held resets the deepest acts (R29, R346, R523). While the test access port halts the logic, it waits (R582). -/
def Dev.resetRequest (last : Nat) (d : Dev) : Dev :=
  if d.halted && last != 1 then d.onPower (fun u => { u with heldReset := if u.heldReset = 0 then last else min u.heldReset last })
  else
  let d1 := if last = 1 then d else d.discharge 10 (fun _ => true)
  if d1.flag HAR_DISCH_STATUS_ACTIVE then
    (d1.put TOP_RESET_CAUSE_HELD 1).onPower (fun u => { u with
      heldReset := if u.heldReset = 0 then last else min u.heldReset last, waiting := false })
  else d1.initEnter last false

/-- POWER_ON_RESET. -/
def powerOnReset (d : Dev) : Dev := d.resetRequest 1

/-- A write of TOP_RESET; in OFF no host reaches it. -/
def topResetWrite (v : Nat) (d : Dev) : Dev := d.writeVia TOP_RESET v (fun s => v == 0x5A && s.mode != 0) (Dev.resetRequest 5)

/-- What waits for the end of a discharge: a held reset (R523). -/
def Dev.afterDischarge (d : Dev) : Dev :=
  if d.flag HAR_DISCH_STATUS_ACTIVE || d.power.heldReset == 0 then d else d.initEnter d.power.heldReset true

/-- DISCHARGE_COMPLETE of head `h`'s panel. -/
def dischargeComplete (h : Nat) (d : Dev) : Dev := (d.dischargeEnd h).afterDischarge

/-! ### Per-head reset (R28, R30, R202, R523) -/

/-- The per-head reset itself. -/
def Dev.headReset (h : Nat) (d : Dev) : Dev := (if d.isMip h then d.mipReset h [] else d.rasterReset h).resetRest h

/-- A write of HDn_RESET: it waits for a substitution on its head. -/
def headResetWrite (h v : Nat) (d : Dev) : Dev :=
  d.writeVia (HDn_RESET h) v (fun s => s.headPresent h) (fun s =>
    if v ≠ 1 then s
    else if s.engines.sub.any (fun p => p.2.2 == h) then s.onHead h (fun u => { u with resetHeld := true })
    else s.headReset h)

/-- ENGINE_SUBSTITUTION_COMPLETE, after which a per-head reset that waited acts. -/
def substitutionComplete (d : Dev) : Dev :=
  let d1 := engineSubComplete d
  foldS (List.range 8) (fun h s => if (s.head h).resetHeld then s.headReset h else s) d1

/-! ### Shedding (R524 to R527) -/

/-- The level's part of TOP_STATUS, and of E0 and E1 (R419). -/
def Dev.setShed (n : Nat) (d : Dev) : Dev :=
  (((d.put POWER_SHED_STATUS_LEVEL n).put TOP_STATUS_SHED_LEVEL n).putB NET_STATUS_V (decide (3 ≤ n))).ceHoldSync

/-- An entry to level `n` (5 is CRITICAL) is counted and timed. -/
def Dev.shedCount (n : Nat) (d : Dev) : Dev := (d.inc (POWER_SHED_COUNTk_V (n - 1))).put (POWER_SHED_TIMEk_V (n - 1)) (d.nsc32 0)

/-- Is link `j` one that SHED3 leaves alone? -/
def Dev.shedKeeps (d : Dev) (j : Nat) : Bool := (d.linkEntry j).profile == 3 || (d.linkEntry j).profile == 4

/-- The lanes that SHED3 turns L-Dark, or back on. -/
def Dev.shedLanes (st : Nat) (d : Dev) : Dev :=
  foldS (List.range 16) (fun j s => if s.linkState j = 0 ∨ s.shedKeeps j = true then s else s.linkPower j st) d

/-- The levels above `old` up to `n`, the shallower first (R524). -/
def shedSteps (old n : Nat) : List Nat := (List.range (n - old)).map (· + old + 1)

/-- A level entered: counted, timed and, from SHED1 to SHED3, reported by its event. -/
def Dev.shedEntered (k : Nat) (d : Dev) : Dev := if k ≤ 3 then (d.shedCount k).powerEvt (k - 1) else d.shedCount k

/-- The actions of a level just reached. -/
def Dev.shedActions (n : Nat) (d : Dev) : Dev :=
  if n < 3 then d
  else Dev.shedLanes 3 (foldS (List.range 8) (fun h s => if s.isMip h then s.mipHalt h 0 else if s.isRaster h then s.rasterHalt h 3 else s)
    (d.calCancel (fun _ => true)))

/-- A level from SHED1 to SHED3 applies at once, with the shallower ones not yet in force. -/
def Dev.shedApply (n : Nat) (d : Dev) : Dev :=
  let old := d.shedLevel
  let d1 := ((d.rtAbandon 3 0).setMode 6).setShed n
  foldS (shedSteps old n) (fun k s => (s.shedEntered k).shedActions k) d1

/-- SHED4 (4) or the critical level (5) is reached: with the shallower levels not yet in force, whose lanes go dark; the entry to
Stand or Stable stops the heads. -/
def Dev.shedDeep (n : Nat) (d : Dev) : Dev :=
  let old := d.shedLevel
  let from' := if d.flag POWER_SHED_CTRL_ENABLE then old else max old 3
  let d1 := foldS (shedSteps from' n) Dev.shedEntered (d.setShed n)
  let d2 := if from' < 3 ∧ 3 ≤ d.mode ∧ d.mode ≤ 6 then d1.shedLanes 3 else d1
  d2.calCancel (fun _ => true)

/-- A recorded level applies on entry to READY and on a rung's exit (R527). -/
def Dev.shedRecorded (d : Dev) : Dev :=
  let n := d.get POWER_SHED_STATUS_RECORDED_LEVEL
  let d1 := (d.put POWER_SHED_STATUS_RECORDED 0).put POWER_SHED_STATUS_RECORDED_LEVEL 0
  if n ≠ 0 ∧ 3 ≤ d.mode ∧ d.mode ≤ 6 ∧ d.shedLevel < n then d1.shedApply n else d1

/-- What leaving SHED2 undoes (R526). -/
def Dev.shed2Left (d : Dev) : Dev :=
  foldS (List.range 8) (fun h s =>
    if !s.isRaster h then s
    else
      let s1 := (s.onFab h (fun u => { u with odRestartNext := true })).onHead h (fun u => { u with flockGood := 0 })
      let s2 := s1.put (HDn_STATUS_FLOCK_LOCKED h) 0
      if s2.get (LLh_CTRL_STATE h) = 2 then s2.put (LLh_CTRL_STATE h) 1 else s2) d

/-- The mode after the level has fallen to 0 (R19). -/
def Dev.shedOver (d : Dev) : Dev := if d.mode = 6 then d.setMode (if d.anyScans then 4 else 3) else d

/-- VSYS is reported (R524). -/
def Dev.vsys (mv : Nat) (d : Dev) : Dev :=
  let low := d.get POWER_VSYS_MIN_MV_V
  (d.put POWER_VSYS_MV_V mv).put POWER_VSYS_MIN_MV_V (if low = 0 then mv else min low mv)

/-- VSYS at which level `n` is left: its threshold plus the hysteresis (R526). -/
def Dev.recoverAt (d : Dev) (n : Nat) : Nat := d.get (POWER_SHED_THRESHk_V (n - 1)) + d.get POWER_SHED_CTRL_HYST_MV

/-- SHED_RECOVERY: 100 ms at or above the threshold of the present or the recorded level, with the hysteresis. -/
def shedRecovery (mv : Nat) (d : Dev) : Dev :=
  let d0 := d.vsys mv
  if mv < d.recoverAt (if d.flag POWER_SHED_STATUS_RECORDED then d.get POWER_SHED_STATUS_RECORDED_LEVEL else d.shedLevel) then d0
  else if d0.flag POWER_SHED_STATUS_RECORDED then
    let n := if d0.get POWER_SHED_STATUS_RECORDED_LEVEL - 1 ≤ d0.shedLevel then 0 else d0.get POWER_SHED_STATUS_RECORDED_LEVEL - 1
    (d0.put POWER_SHED_STATUS_RECORDED_LEVEL n).putB POWER_SHED_STATUS_RECORDED (decide (n ≠ 0))
  else match d0.shedLevel with
    | 2 => ((d0.setShed 1).shed2Left).powerEvt 3
    | 1 => ((d0.setShed 0).shedOver).powerEvt 3
    | _ => d0

/-- REENABLE_OK: set after 100 ms at or above the threshold of SHED1 with the hysteresis, and clear below it. -/
def reenableOk (mv : Nat) (d : Dev) : Dev :=
  let d0 := d.vsys mv
  if mv < d.recoverAt 1 then d0.put POWER_SHED_STATUS_REENABLE_OK 0
  else if d0.shedLevel = 3 then (d0.put POWER_SHED_STATUS_REENABLE_OK 1).powerEvt 4 else d0

/-- A write of POWER_SHED_REENABLE; in SAFE, where it would start lanes, it is rejected (R16). -/
def reenableWrite (v : Nat) (d : Dev) : Dev :=
  d.writeVia POWER_SHED_REENABLE v (fun s => s.flag POWER_SHED_STATUS_REENABLE_OK && s.mode != 7) (fun s =>
    if v ≠ 1 then s
    else ((((s.put POWER_SHED_STATUS_REENABLE_OK 0).setShed 0).shed2Left).shedLanes 0).shedOver)

/-! ### Entering a rung (R509 to R517) -/

/-- Seconds that the rung in force has lasted, counted when it is left. -/
def Dev.rungLeft (k : Nat) (d : Dev) : Dev :=
  let now := (d.tb 3).total
  (d.addSat (POWER_RUNG_TIME_Sk_V k) ((now - d.power.rungAt) / 1000000000)).onPower (fun u => { u with rungAt := now })

/-- Which panels does rung `t` need OFF? All for Stable, all but the halter head's for Walk and Stand. -/
def Dev.panelsDown (t : Nat) (d : Dev) : Bool :=
  allBelow 8 (fun h => d.panelState h == 0 || (t < 5 && d.flag MIP_HALT_STATUS_ARMED && d.get MIP_HALT_CTRL_HEAD == h))

/-- The modes from which R513 lets rung `t` be entered on request. -/
def Dev.rungModes (t : Nat) (d : Dev) : Bool := d.mode == 3 || d.mode == 4 || (d.mode == 6 && t ≤ 3)

/-- The static conditions of a request (R513). -/
def Dev.rungStatic (t : Nat) (d : Dev) : Bool :=
  d.rungModes t && allBelow 8 (fun h =>
      d.headState h == 0 || (t < 3 && d.isMip h) || (t == 2 && d.isRaster h && d.headState h == 1 && d.flag (HDn_STALL_STATUS_VALID h)))
    && (t < 3 || t == 5 || d.panelsDown t)

/-- R284: does every raster head that scans (R17) hold a valid stall copy? -/
def Dev.stallsValid (d : Dev) : Bool :=
  allBelow 8 (fun h => !(d.isRaster h && d.headState h != 0) || d.flag (HDn_STALL_STATUS_VALID h))

/-- The dynamic conditions (R513); the mode, and for Trot the stall copies (R284), must hold until the entry. -/
def Dev.rungDynamic (t : Nat) (d : Dev) : Bool :=
  d.rungModes t && (t != 2 || d.stallsValid) && allBelow 8 (fun h => !d.isMip h || ((d.mip h).runs == [] && !d.flag (HDn_MIP_STATUS_PASS_BUSY h)))
    && allBelow 8 (fun c => d.get (DMAc_STATUS_STATE c) != 2) && allBelow 4 (fun q => d.get (CEq_STATUS_STATE q) != 2)
    && (t < 3 || (!(decide (1 ≤ d.get CAL_STORE_STATUS_STATE ∧ d.get CAL_STORE_STATUS_STATE ≤ 3)) && !d.flag FAR_LOG_STATUS_WRITING))

/-- The streams stop storing; on exit they are in WAIT (R510). -/
def Dev.streamsWait (d : Dev) : Dev :=
  foldS (List.range 4) (fun n s =>
    if s.inState n = 0 then s
    else (s.put (INn_STATUS_STATE n) 1).onStream n (fun u => { u with line := none, draining := 0, slot := none, slotUsed := false })) d

/-- Step 2 of R516: panels ramp down with a cause. -/
def Dev.panelsRamp (t cause : Nat) (d : Dev) : Dev :=
  foldS (List.range 8) (fun h s =>
    if t < 5 && s.flag MIP_HALT_STATUS_ARMED && s.get MIP_HALT_CTRL_HEAD == h && s.isMip h then s else s.rampDown h cause) d

/-- Entry to rung `t` begins: ENTERING. -/
def Dev.rungBegin (t : Nat) (d : Dev) : Dev :=
  let from' := d.rung
  let d1 := if from' ≤ 5 then d.rungLeft from' else d
  ((d1.put POWER_RUNG_STATUS_STATE 6).put POWER_RUNG_STATUS_TARGET t).onPower (fun u => { u with
    waiting := false, wakeHeld := false, forced := false,
    lanesBefore := if from' = 0 then (List.range 36).map (fun n => d.get (LNn_POWER_STATE n)) else u.lanesBefore })

/-- RUNG_ENTRY_BEGIN: the dynamic conditions of a waiting request hold. -/
def rungEntryBegin (d : Dev) : Dev :=
  let t := d.get POWER_RUNG_STATUS_TARGET
  if d.power.waiting && d.rung == 0 && d.rungDynamic t then
    let d1 := (d.rungBegin t).streamsWait
    if 4 ≤ t then (d1.headsStopNow).panelsRamp t 1 else d1
  else d

/-- RUNG_REQUEST_TIMEOUT: the request ends and held work resumes. -/
def rungTimeout (d : Dev) : Dev :=
  if !d.power.waiting then d
  else
    let d1 := (d.put POWER_RUNG_STATUS_RESULT 2).onPower (fun u => { u with waiting := false })
    (((d1.inc POWER_RUNG_FAIL_COUNT_V).powerEvt 5).dmaResume).ceResume

/-- Entry to Stand or Stable by SHED4 or the critical level (R516). -/
def Dev.rungForced (t : Nat) (d : Dev) : Dev :=
  let d1 := (((d.rtAbandon 3 0).rungBegin t).onPower (fun u => { u with forced := true })).streamsWait
  (d1.headsStopNow).panelsRamp t 3

/-- The states of the lanes in Canter and Trot (R509, R512). -/
def Dev.rungLanes (t : Nat) (d : Dev) : Dev :=
  match t with
  | 1 => foldS (List.range 16) (fun j s => if s.linkUp j then s.linkPower j 1 else s) d
  | 2 =>
    let d1 := foldS (List.range 16) (fun j s =>
      let e := s.linkEntry j
      if s.linkState j = 0 then s
      else if e.profile = 2 ∧ s.headState e.owner = 4 then s
      else if (e.profile = 3 ∧ s.headState e.owner = 1) ∨ e.profile = 4 then s.linkPower j 1
      else s.linkPower j 2) d
    foldS (List.range 36) (fun n s => if (s.laneLink n).isSome then s else s.lanePower n 2) d1
  | _ => d.allLanesTo 3

/-- The save area of R515 and the SRAM that it holds: scratchpad, tile ledger, line/LUT memory, in this order. -/
def saveParts : List (Nat × Nat × Nat) :=
  [(0x4000000000, 0x1DAA00000, 0x800000), (0x4100000000, 0x1DB200000, 0x800000), (0x4200000000, 0x1DBA00000, 0x400000)]

/-- Memory cells with those of a range moved from `a` to `b`. -/
def movedCells (a b n : Nat) (l : List Host.Cell) : List Host.Cell :=
  (l.filter (fun c => decide (a ≤ c.1 ∧ c.1 < a + n))).map (fun c => (c.1 - a + b, c.2))

/-- The granules of the save area hold it (R444). -/
def Dev.saveGranules (d : Dev) : Dev :=
  foldS (d.clearGranules 0x1DAA00000 0x1600000) (fun g s => (s.setGranule g).inc (MEM_COUNTk_V 14)) d

/-- The SRAM is written to the save area (R515), whose units are good again. -/
def Dev.walkSave (d : Dev) : Dev :=
  let d := d.saveGranules
  let kept := d.mem.filter (fun c => decide (c.1 < 0x1DAA00000 ∨ 0x1DC000000 ≤ c.1))
  let saved := saveParts.flatMap (fun p => movedCells p.1 p.2.1 p.2.2 d.mem)
  { d with mem := saved.foldl (fun l c => cellSet 0 l c.1 c.2) kept,
           memu := { d.memu with poison := d.memu.poison.filter (fun u => decide (u < 0x1DAA00000 ∨ 0x1DC000000 ≤ u)) } }

/-- The SRAM is restored; words whose saved copy reads uncorrectable read so in the SRAM (R515). -/
def Dev.walkRestore (bad : List Nat) (d : Dev) : Dev :=
  let kept := d.mem.filter (fun c => decide (c.1 < 0x4000000000))
  let back := saveParts.flatMap (fun p => movedCells p.2.1 p.1 p.2.2 d.mem)
  let poison := bad.flatMap (fun a => saveParts.filterMap (fun p =>
    if p.2.1 ≤ a ∧ a < p.2.1 + p.2.2 then some (a / 8 * 8 - p.2.1 + p.1) else none))
  { d with mem := back.foldl (fun l c => cellSet 0 l c.1 c.2) kept, memu := { d.memu with poison := d.memu.poison ++ poison } }

/-- Exit begins (R514). -/
def Dev.exitBegin (d : Dev) : Dev :=
  let s := d.rung
  let d := if 4 ≤ s then d.put POWER_OFF_TIME_S_V (((d.tb 3).total - d.power.rungAt) / 1000000000 % 2 ^ 32) else d
  (((d.rungLeft s).put POWER_RUNG_STATUS_LAST_FROM s).put POWER_RUNG_STATUS_STATE 7).onPower (fun u => { u with wakeHeld := false })

/-- The test access port in Test-Logic-Reset, with IDCODE (R579). -/
def Dev.tapIdle (d : Dev) : Dev :=
  ({ d with tap := { d.tap with ir := 1, refused := false, running := false, girth := none, state := 15 } }.put
    TEST_IR_CODE 1).put TEST_IR_REFUSED 0

/-- The device comes to rest in rung `t`: what the rung stops has stopped. -/
def Dev.rungRest (t : Nat) (repairs : List Bool) (d : Dev) : Dev :=
  let now := (d.tb 3).total
  let d1 := (((d.put POWER_RUNG_STATUS_STATE t).put POWER_RUNG_STATUS_RESULT 1).put TOP_STATUS_RUNG t).inc (POWER_RUNG_COUNTk_V t)
  let d2 := (d1.put (POWER_ENTRY_USk_V t) ((now - d.power.rungAt) / 1000 % 2 ^ 32)).onPower (fun u => { u with rungAt := now })
  let d2 := if 3 ≤ t then d2.tapIdle else d2
  match t with
  | 1 => d2.rungLanes 1
  | 2 =>
    let d3 := foldS (List.range 8) (fun h s =>
      if s.isRaster h && s.headState h == 1 && s.flag (HDn_STALL_STATUS_VALID h) then s.put (HDn_STATUS_STATE h) 4 else s) d2
    d3.rungLanes 2
  | 3 =>
    let d3 := ((repairs.take 4).foldl Dev.repairOne d2).walkSave
    let d4 := (d3.put POWER_WALK_SAVE_US_V ((now - d.power.rungAt) / 1000 % 2 ^ 32)).rungLanes 3
    let src := d4.get (TBn_CTRL_SOURCE 0)
    let d5 := (if src = 5 ∨ src = 6 then d4.servoLost 0 else d4).onPower (fun u => { u with
      walkAt := (List.range 4).map (fun n => (d4.tb n).total) })
    { d5 with halt := { d5.halt with fresh := true } }
  | _ =>
    let d3 := (d2.rungLanes 3).endpointReset
    let d4 := if t = 5 then foldS (List.range 48) Dev.unmapPin d3 else d3.put MIP_HALT_STATUS_RENDERS 0
    let d5 : Dev := { d4 with halt := { d4.halt with fresh := true } }
    (((d5.setMode 0).put TOP_STATUS_SAFE_CAUSE 0).put TACK_STATUS_STATE 0).timeStops

/-- RUNG_ENTRY_COMPLETE: the panels that must be OFF are OFF; a wake event that arrived meanwhile acts now. -/
def rungEntryComplete (repairs : List Bool) (d : Dev) : Dev :=
  let t := d.get POWER_RUNG_STATUS_TARGET
  if d.rung ≠ 6 ∨ t = 0 ∨ (4 ≤ t ∧ d.panelsDown t = false) ∨ d.flag HAR_DISCH_STATUS_ACTIVE = true
      ∨ (t = 2 ∧ d.stallsValid = false) then d
  else
    let held := d.power.wakeHeld
    let d1 := d.rungRest t repairs
    if held && t < 4 then d1.exitBegin else d1

/-! ### Leaving a rung (R514, R521, R527) -/

/-- In which rungs does a wake source act: bits 0 WAKE_N, 1 SPI, 2 HOST, 3 TIMER, 4 STREAM, 5 PERST? -/
def wakeRungs (b : Nat) : List Nat := nth [] [[1, 2, 3, 4, 5], [1, 2, 3, 4, 5], [1, 2, 3], [1, 2, 3, 4, 5], [1], [4, 5]] b

/-- A wake event of source bit `b`. -/
def Dev.wake (b : Nat) (d : Dev) : Dev :=
  let t := if d.rung = 6 then d.get POWER_RUNG_STATUS_TARGET else d.rung
  if !(wakeRungs b).contains t || !bitOf (d.word POWER_WAKE_ENABLE) b then d
  else
    let d1 := (d.setWord POWER_WAKE_STATUS (Nat.lor (d.word POWER_WAKE_STATUS) (2 ^ b))).inc (POWER_WAKE_COUNTk_V b)
    if 4 ≤ t then
      let d2 := if d1.halterOn && d1.flag MIP_HALT_PORT_RENDER_ON_WAKE then d1.haltRender else d1
      ((d2.inc POWER_WAKE_HELD_COUNT_V).powerEvt 6).onPower (fun u => { u with wakeHeld := true })
    else if d1.rung = 6 then d1.onPower (fun u => { u with wakeHeld := true })
    else (if d1.halterOn && d1.flag MIP_HALT_PORT_RENDER_ON_WAKE then d1.haltRender else d1).exitBegin

/-- WAKE_RELEASE: VSYS permits a held wake from Stand or Stable. -/
def wakeRelease (d : Dev) : Dev := if d.power.wakeHeld && (d.rung == 4 || d.rung == 5) then d.exitBegin else d

/-- WAKE_TIMER: TB0 has reached POWER_WAKE_TIME. -/
def wakeTimer (d : Dev) : Dev := if due32 (d.get POWER_WAKE_TIME_V) (d.nsc32 0) then d.wake 3 else d

/-- The lanes return to their states from before the entry. -/
def Dev.lanesRestore (d : Dev) : Dev :=
  let before (n : Nat) : Nat := nth 3 d.power.lanesBefore n
  let d1 := foldS (List.range 16) (fun j s => match s.allLanes j with
    | n :: _ => if s.linkState j = 0 then s else s.linkPower j (before n)
    | [] => s) d
  foldS (List.range 36) (fun n s => if (s.laneLink n).isSome then s else s.lanePower n (before n)) d1

/-- RUNG_EXIT_COMPLETE: back in Gallop, or INIT begins; `bad` names the words of the save area that read uncorrectable. -/
def rungExitComplete (bad : List Nat) (d : Dev) : Dev :=
  let k := d.get POWER_RUNG_STATUS_LAST_FROM
  if d.rung ≠ 7 then d
  else
    let us := ((d.tb 3).total - d.power.rungAt) / 1000 % 2 ^ 32
    if 4 ≤ k then
      let d1 := (d.timeResumes).initEnter (k - 2) false
      ((d1.put POWER_RUNG_STATUS_LAST_FROM k).put (POWER_EXIT_USk_V k) us).inc (POWER_RUNG_COUNTk_V 0)
    else
      let d1 := ((d.put POWER_RUNG_STATUS_STATE 0).put TOP_STATUS_RUNG 0).put (POWER_EXIT_USk_V k) us
      let d2 := (d1.inc (POWER_RUNG_COUNTk_V 0)).onPower (fun u => { u with rungAt := (d.tb 3).total })
      let d3 := (if k = 3 then d2.walkRestore bad else d2).lanesRestore
      let d4 := foldS (List.range 8) (fun h s => if s.headState h = 4 then s.onHead h (fun u => { u with stallExit := true }) else s) d3
      let came (m : Nat) : Bool := anyBelow 4 (fun n => d4.markPassedOver n (nth 0 d.power.walkAt n) m)
      let d5 := if k = 3 then foldS (filterRange 256 came) Dev.markPassed d4 else d4
      ((d5.streamsWait.dmaResume).ceResume).shedRecorded

/-! ### Requests (R513, R514) -/

/-- Does a GO write with target `t` have an effect, and is it then accepted? TARGET 0 is a wake event. -/
def rungCtrlOk (v : Nat) (d : Dev) : Bool :=
  let t := bitsOf v 0 3
  !bitOf v 31 || t == 0 || t == d.rung || d.rung == 6 || d.rung == 7 || d.rungStatic t

/-- A write of POWER_RUNG_CTRL. -/
def rungCtrlWrite (v : Nat) (d : Dev) : Dev :=
  d.writeVia POWER_RUNG_CTRL v (rungCtrlOk v) (fun s =>
    let t := bitsOf v 0 3
    if !bitOf v 31 then s
    else if t = s.rung ∨ s.rung = 6 ∨ s.rung = 7 then s
    else if t = 0 then s.wake 2
    else ((s.put POWER_RUNG_STATUS_TARGET t).put POWER_RUNG_STATUS_RESULT 0).onPower (fun u => { u with waiting := true }))

/-! ### Supplies (R20, R346, R517, R524, R529, R550) -/

/-- The critical level or PWRFAIL_N: fast discharge with its code, then Stable; an entry to Stable in progress can no longer be
withdrawn (R19). -/
def Dev.critical (code : Nat) (d : Dev) : Dev :=
  let d1 := d.discharge code (fun _ => true)
  if d1.rung = 6 ∧ d1.get POWER_RUNG_STATUS_TARGET = 5 then d1.onPower (fun u => { u with forced := true })
  else if d1.rung = 5 ∨ (d1.mode = 0 ∧ d1.rung = 0) then d1
  else d1.rungForced 5

/-- PWRFAIL_N_LOW. -/
def pwrfailLow (d : Dev) : Dev :=
  (d.onPower (fun u => { u with pwrfailAt := some (u.pwrfailAt.getD (d.tb 3).total) })).critical 1

/-- May the rails be removed (R529): in Stable, or 45 ms after PWRFAIL_N fell? -/
def Dev.railsMayGo (d : Dev) : Bool :=
  d.rung == 5 || (match d.power.pwrfailAt with
    | some t => decide (t + 45000000 ≤ (d.tb 3).total)
    | none => false)

/-- VSYS_CRITICAL with VSYS in mV. -/
def vsysCritical (mv : Nat) (d : Dev) : Dev :=
  let d1 := d.vsys mv
  if d1.shedLevel = 5 ∨ d.get (POWER_SHED_THRESHk_V 4) ≤ mv then d1 else (d1.shedDeep 5).critical 2

/-- RAIL_FAULT on rail `k`: as the critical level, AVDD_G and VDD_AON excepted, unless the rails may be removed (R529). -/
def railFault (k mv : Nat) (d : Dev) : Dev :=
  let d1 := (d.put POWER_RAIL_STATUS_V (putBits (d.get POWER_RAIL_STATUS_V) k 1 0)).put (POWER_RAIL_MVk_V k) mv
  if k = 2 ∨ k = 12 ∨ d.railsMayGo = true then d1
  else
    let d2 := (d1.inc POWER_RAIL_FAULT_COUNT_V).powerEvt 7
    (if d2.shedLevel = 5 then d2 else d2.shedDeep 5).critical 2

/-- SHED_LEVEL_REACHED: VSYS has stayed below threshold `n` for its filter time. -/
def shedReached (n mv : Nat) (d : Dev) : Dev :=
  let d0 := (d.vsys mv).put POWER_SHED_STATUS_REENABLE_OK 0
  if n = 0 ∨ 4 < n ∨ d.get (POWER_SHED_THRESHk_V (n - 1)) ≤ mv then d.vsys mv
  else if (n ≤ 3 ∧ d.flag POWER_SHED_CTRL_ENABLE = false) ∨ n ≤ d.shedLevel then d0
  else if n = 4 then
    if d0.mode = 0 then d0
    else
      let d1 := d0.shedDeep 4
      if d1.rung = 6 ∧ 4 ≤ d1.get POWER_RUNG_STATUS_TARGET then d1.onPower (fun u => { u with forced := true }) else d1.rungForced 4
  else if d0.mode = 1 ∨ d0.mode = 2 ∨ (d0.inRung = true ∧ d0.mode ≠ 0) then
    (d0.put POWER_SHED_STATUS_RECORDED 1).put POWER_SHED_STATUS_RECORDED_LEVEL (max n (d0.get POWER_SHED_STATUS_RECORDED_LEVEL))
  else if d0.mode = 0 then d0
  else if d0.mode = 7 then foldS (shedSteps d0.shedLevel n) Dev.shedEntered (d0.setShed n)
  else d0.shedApply n

/-- XTAL32K_LOSS, XTAL32K_RESTORE. -/
def xtalLoss (d : Dev) : Dev := if d.power.islandRc then d else (d.onPower (fun u => { u with islandRc := true })).flogWrite clsPower 0x10 0xFF [1]
def xtalRestore (d : Dev) : Dev := d.onPower (fun u => { u with islandRc := false })

/-! ### Clocks (R25 to R27) -/

/-- The quads of a reference: Q0 to Q4 of REFCLK_LN0, Q5 to Q8 of REFCLK_LN1. -/
def refQuads (n : Nat) : List Nat := if n = 0 then [0, 1, 2, 3, 4] else [5, 6, 7, 8]

/-- Sets or clears the lock bits of a reference's quads, as far as the image turns the quads on. -/
def Dev.quadLocks (n : Nat) (on : Bool) (d : Dev) : Dev :=
  foldS (refQuads n) (fun q s =>
    s.put TOP_PLL_STATUS_V (putBits (s.get TOP_PLL_STATUS_V) (6 + q) 1 (b2n (on && bitsOf (s.get TACK_QUAD_RATE_V) (3 * q) 3 != 0)))) d

/-- REFCLK_LOST, whatever start-up step is in progress: the quads of reference `n` fail as lane faults; with REFCLK_LN0 the Ethernet lanes too, and the time unit enters
holdover; with both lost, SAFE. -/
def refclkLost (n : Nat) (d : Dev) : Dev :=
  let d0 := d.onPower (fun u => { u with refs := putBits u.refs n 1 0 })
  let d1 := (d0.put TOP_REFCLK_STATUS_V (putBits (d.get TOP_REFCLK_STATUS_V) n 1 0)).inc (TOP_REFCLK_LOSS_COUNTk_V n)
  let d2 := foldS ((refQuads n).flatMap (fun q => (List.range 4).map (4 * q + ·))) Dev.lockEnds (d1.quadLocks n false)
  let d3 := if n = 0 then
      foldS (List.range 4) (fun b s => if s.get (TBn_STATUS_STATE b) = 2 then s.enterHoldover b else s)
        (ethLockLoss 1 .lockLost (ethLockLoss 0 .lockLost d2)) else d2
  if d3.power.refs = 0 then d3.fatal 1 0 else d3

/-- REFCLK_REGAINED: the quads' PLLs relock; lanes regain block lock by their own retries. -/
def refclkRegained (n : Nat) (d : Dev) : Dev :=
  let d0 := d.onPower (fun u => { u with refs := putBits u.refs n 1 1 })
  (d0.put TOP_REFCLK_STATUS_V (putBits (d.get TOP_REFCLK_STATUS_V) n 1 1)).quadLocks n true

/-- PE_REFCLK_LOST: the PCIe link alone goes down. -/
def peRefclkLost (d : Dev) : Dev := pcieLinkReset true (d.put TOP_REFCLK_STATUS_V (putBits (d.get TOP_REFCLK_STATUS_V) 2 1 0))

/-! ### The harness die and the sensors (R22, R323, R345, R355) -/

/-- HARNESS_LINK_SILENT: the harness die discharges on its own, and the logic die enters SAFE. -/
def harnessSilent (d : Dev) : Dev := ((d.discharge 8 (fun _ => true)).put HAR_STATUS_LINK_UP 0).fatal 4 0

/-- THERMAL_TRIP: sensor `n` has read `temp` (1/16 °C) for 10 ms. -/
def thermalTrip (n : Nat) (temp : Int) (d : Dev) : Dev :=
  if temp ≤ 2080 then d else (d.putI TOP_TEMP_MAX_V (max temp (d.getI TOP_TEMP_MAX_V))).fatal 5 n

/-- AVDDG_LOW with AVDD_G in mV (R355). -/
def avddgLow (mv : Nat) (d : Dev) : Dev :=
  let hit (h : Nat) : Bool := d.isRaster h && d.ownsGamma h && (d.panelState h == 1 || d.panelState h == 2)
  let d1 := (d.put HAR_AVDDG_MV_V mv).avddgSync
  if d1.flag HAR_STATUS_AVDDG_OK = true ∨ anyBelow 8 hit = false then d1
  else
    let d2 := d1.harEvt 4
    foldS (filterRange 8 hit) (fun h s => if s.panelState h = 1 then s.rampDown h 6 else s.rasterHalt h 6) d2

/-- GIRTH_MEASUREMENT of loop `g`: its resistance in mΩ (0xFFFFFF open) and its range. -/
def girthMeasurement (g mohm range : Nat) (d : Dev) : Dev :=
  if !d.girthOn g || d.mode == 0 then d
  else
    let (crack, d1) := d.girthMeasure g mohm range
    if crack then d1.crackHead g (d1.girthHead g) else d1

/-! ### Start-up (R520, R551) -/

/-- The entries of a half from entry `i` on, with their SEQ: an erased entry ends the scan, and one whose CRC fails is skipped (R500,
R501). -/
def Dev.logScan (d : Dev) (base : Nat) : Nat → Nat → List (Nat × FarLog)
  | 0, _ => []
  | n + 1, i =>
    let b := d.flashBytes (base + 32 * i) 32
    let f (o k : Nat) : Nat := ofLE ((b.drop o).take k)
    if f 0 4 = 0xFFFFFFFF then []
    else if f 28 4 = crc32 (b.take 28) then
      (f 0 4, { sec := f 4 4, record := f 8 4, target := f 12 4, result := f 16 1, lifetime := f 20 4 })
        :: d.logScan base n (i + 1)
    else d.logScan base n (i + 1)

/-- The entries of a half that are programmed, from entry `i` on: where the log continues. -/
def Dev.logUsed (d : Dev) (base : Nat) : Nat → Nat → Nat
  | 0, i => i
  | n + 1, i => if ofLE (d.flashBytes (base + 32 * i) 4) = 0xFFFFFFFF then i else d.logUsed base n (i + 1)

/-- Physical sensor `p` has failed; a site that it served is served by `to'` (R498). -/
def Dev.sensorReapply (p to' : Nat) (remap : Bool) (d : Dev) : Dev :=
  let d1 := d.put FAR_SENSOR_STATUS_FAILED (Nat.lor (d.get FAR_SENSOR_STATUS_FAILED) (2 ^ p))
  match (List.range 6).find? (fun s => d.sensorOf s == p) with
  | some s =>
    if remap then
      (d1.setWord FAR_SENSOR_MAP (putBits (d.word FAR_SENSOR_MAP) (4 * s) 4 to')).put FAR_SENSOR_STATUS_IN_USE
        (putBits (putBits (d.get FAR_SENSOR_STATUS_IN_USE) p 1 0) to' 1 1)
    else d1
  | none => d1

/-- Element `e` of item `i` is retired, and the other one is active (R485). -/
def Dev.elemReapply (i e : Nat) (d : Dev) : Dev :=
  let d1 := (d.elemRetired i e).put (CAL_ITEMi_SPARE_OK i) 0
  if d1.get (CAL_ITEMi_ELEMENT i) = e ∧ bitOf (d1.get (FAR_ELEMk_V (3 * (1 - e) + i / 32))) (i % 32) = false then
    (d1.put (CAL_ITEMi_ELEMENT i) (1 - e)).realise i
  else d1

/-- One entry re-applies its retirement or remap (R501): an engine is RETIRED, a page lies on a spare, a row uses a spare row, an
element is retired, a sensor's site is served by its spare. The substitution of a lane ended with the reset (R387). -/
def Dev.logReapply (seq : Nat) (l : FarLog) (d : Dev) : Dev :=
  let d1 := Dev.put { d with far := { d.far with log := (seq, l) :: d.far.log } } (FAR_SUBk_V l.cls) l.lifetime
  let known := d1.far.inForce.any (fun x => x.cls == l.cls && x.inst == l.inst && x.target == l.target)
  if known then d1
  else if l.result = 5 then
    Dev.farUse l { d1.farFree 3 l.inst with memu := { d1.memu with sparePages := d1.memu.sparePages.filter (· != l.inst) } }
  else if 1 < l.result ∨ (l.cls = 1 ∧ l.result = 0) then d1
  else
    let d2 := d1.farUse l
    match l.cls with
    | 0 => d2.engineFree l.inst 3
    | 2 =>
      let row := l.inst % 2 ^ 20
      match l.inst / 2 ^ 20 with
      | 1 => d2.inc (SBn_STATUS_SPARE_ROWS (row / 512))
      | 2 => d2.inc MEM_SROW_LEDGER_V
      | 4 => d2.inc MEM_SROW_SEQ_V
      | _ => d2.inc MEM_SROW_LINEMEM_V
    | 3 => { d2 with memu := { d2.memu with sparePages := l.inst :: d2.memu.sparePages } }
    | 5 => d2.elemReapply (l.inst / 2) (l.inst % 2)
    | 6 => d2.sensorReapply l.inst l.target (l.result == 0)
    | _ => d2

/-- R495: the spares of each class that the device holds whatever the image names. -/
def Dev.farTotals (d : Dev) : Dev :=
  [(2, 960), (3, 16384), (4, 64), (5, 43), (6, 2)].foldl (fun s p => s.put (FAR_INVk_TOTAL p.1) p.2) d

/-- The farrier's scan of both halves (R501). -/
def Dev.farInit (d : Dev) : Dev :=
  let a := d.logScan 0x0D00000 32768 0
  let b := d.logScan 0x0E00000 32768 0
  let newest (l : List (Nat × FarLog)) : Nat := l.foldl (fun m e => max m e.1) 0
  let half := if newest a < newest b then 1 else 0
  let l := (a ++ b).mergeSort (fun x y => decide (x.1 ≤ y.1))
  let d1 := l.foldl (fun s e => s.logReapply e.1 e.2) d.farTotals
  let d2 := (d1.put FAR_LOG_SEQ_V (max (newest a) (newest b))).put FAR_LOG_STATUS_HALF half
  ((d2.put FAR_LOG_STATUS_ENTRIES (d.logUsed (0x0D00000 + half * 0x100000) 32768 0)).put MEM_SPARE_STATUS_USED
    d2.memu.sparePages.length).engineSync

/-- MARCH-10N maps a failing row to a spare row of its array, or leaves it bad (R439). -/
def Dev.rowFails (a : Nat) (d : Dev) : Dev :=
  let d1 := d.put MEM_MARCH_FAIL_ADDR_V (a / 1024)
  let (f, n) := match regionOf a with
    | .scratch => (SBn_STATUS_SPARE_ROWS (bankOf a), 32)
    | .ledger => (MEM_SROW_LEDGER_V, 256)
    | _ => (MEM_SROW_LINEMEM_V, 128)
  if d1.get f < n then d1.inc f
  else
    let d2 := { d1 with memu := { d1.memu with badRows := a :: d1.memu.badRows } }
    if regionOf a = .scratch then d2.put (SBn_STATUS_STATE (bankOf a)) 3 else d2

/-- TEAMPOS as sampled: the position in the team, and NODE_ID's first value. -/
def Dev.teamSampled (p : Nat) (d : Dev) : Dev :=
  (((d.put TOP_STRAPS_TEAMPOS p).put TEAM_STATUS_POSITION p).putB TEAM_STATUS_LEADER (p == 0))

/-- The work of start-up step `k`. -/
def Dev.initStep (k : Nat) (x : InitData) (d : Dev) : Dev :=
  match k with
  | 0 => ((d.teamSampled x.teampos).put TEAM_NODE_ID_V x.teampos).put POWER_RAIL_STATUS_V x.rails
  | 1 => ((d.teamSampled x.teampos).put POWER_RAIL_STATUS_V x.rails).put HAR_STATUS_LINK_UP 1
  | 2 =>
    let d1 := (d.put TOP_REFCLK_STATUS_V x.refclks).onPower (fun u => { u with refs := x.refclks % 4 })
    if x.refclks.val % 4 = 0 then d1.fatal 1 0 else d1.put TOP_PLL_STATUS_V 3
  | 3 => d.calInit.farInit
  | 4 => x.cal.foldl (fun s r => s.calInitRun r) d
  | 5 =>
    let d1 := x.badRows.foldl (fun s a => s.rowFails a) (d.enginesTested x.engines)
    let used := d1.get MEM_SROW_SEQ_V + x.seqRows
    if 64 < used then (d1.put MEM_SROW_SEQ_V 64).fatal 7 x.seqRows
    else if x.regFile then (d1.put MEM_SROW_SEQ_V used).fatal 7 0
    else d1.put MEM_SROW_SEQ_V used
  | 6 => d
  | 7 => if x.trained then d.tackEntry x.bootsel else d.fatal 6 0
  | _ => d

/-- INIT_STEP_COMPLETE: the step in progress ends, unless PERST_N holds the reset; the next one starts. -/
def initStepComplete (x : InitData) (d : Dev) : Dev :=
  let k := d.get TOP_STATUS_INIT_STEP
  if d.mode ≠ 1 ∨ 7 < k ∨ d.power.perstLow = true then d
  else
    let now := (d.tb 3).total
    let d1 := (d.put (TOP_STEP_USk_V k) ((now - d.power.stepAt) / 1000 % 2 ^ 32)).onPower (fun u => { u with stepAt := now })
    (d1.put TOP_STATUS_INIT_STEP (k + 1)).initStep k x

/-- PERST_N_ASSERT: in Stand and Stable only its end is watched. -/
def perstAssert (d : Dev) : Dev :=
  let d1 := d.onPower (fun u => { u with perstLow := true })
  if d1.mode = 0 then d1 else d1.resetRequest 4

/-- PERST_N_DEASSERT: the reset ends; in Stand and Stable it is a wake event. -/
def perstDeassert (d : Dev) : Dev :=
  let d1 := d.onPower (fun u => { u with perstLow := false })
  if d1.mode = 0 then d1.wake 5 else d1

/-! ### Lockstep (R22, R502, R503) -/

/-- LOCKSTEP_MISMATCH in comparison group `group`: the pair restarts; the third restart within 60 s is fatal. `word` is the word of
sequencer memory whose uncorrectable read is handled so (R430). -/
def lockstepMismatch (group : Nat) (word : Option (Nat × Ecc)) (d0 : Dev) : Dev :=
  if d0.mode = 0 then d0
  else
    let d := match word with
      | some (w, e) => (Dev.readUnits 1 [(seqBase + 8 * w, e)] [seqBase + 8 * w] d0).2
      | none => d0
    let now := (d.tb 3).total
    let times := now :: d.far.restarts.filter (fun t => decide (now < t + 60000000000))
    let d1 : Dev := { d with far := { d.far with restarts := times } }
    let d2 := (((d1.inc FAR_LOCKSTEP_COUNT).put FAR_LOCKSTEP_TIME_V (d.nsc32 0)).put FAR_LOCKSTEP_GROUP_V group).farEvt 6
    let d3 := (((d2.rtAbandon 4 0).odAbandon).calCancel (fun _ => true)).storeRestart
    if 3 ≤ times.length then d3.fatal 3 times.length else d3

/-- LOCKSTEP_RESTART_DONE after `us` µs; more than 1 ms is fatal. -/
def lockstepDone (us : Nat) (d : Dev) : Dev :=
  if d.mode = 0 then d
  else if 1000 < us then d.fatal 3 us else d.put FAR_LOCKSTEP_LAST_US us

/-- SEQ_CHECKPOINT. -/
def seqCheckpoint (d : Dev) : Dev :=
  if d.mode = 0 then d else { d with far := { d.far with checkpoint := (d.tb 3).total } }

/-- GROOM_READ: a hard fault in sequencer memory that no spare row covers is fatal (R22). -/
def groomStep (dram : Bool) (ecc : Ecc) (intervened : Bool) (d : Dev) : Dev :=
  let d1 := (groomRead dram ecc intervened d).ledgerMended
  if d1.memu.seqLost then Dev.fatal 7 0 { d1 with memu := { d1.memu with seqLost := false } } else d1

/-! ### The commands of this file -/

/-- GROOM_READ. -/
def execGroomRead (dram : Bool) (ecc : Ecc) (intervened : Bool) (s : State) := s.on (groomStep dram ecc intervened)

def execPowerOnReset (s : State) := s.always powerOnReset
def execPerstNAssert (s : State) := s.always perstAssert
def execPerstNDeassert (s : State) := s.always perstDeassert
def execTopReset (v : Word) (s : State) := s.always (topResetWrite v.toNat)
def execInitStepComplete (x : InitData) (s : State) := s.on (initStepComplete x)
def execRefclkLost (n : Fin 2) (s : State) := s.on (refclkLost n)
def execRefclkRegained (n : Fin 2) (s : State) := s.on (refclkRegained n)
def execPeRefclkLost (s : State) := s.on peRefclkLost
def execHarnessLinkSilent (s : State) := s.on harnessSilent
def execThermalTrip (n : Fin 8) (temp : Int) (s : State) := s.on (thermalTrip n temp)
def execEngineSubstitutionComplete (s : State) := s.on substitutionComplete
def execPwrfailNLow (s : State) := s.on pwrfailLow
def execVsysCritical (mv : Fin 65536) (s : State) := s.on (vsysCritical mv)
def execDischargeComplete (h : Fin 8) (s : State) := s.on (dischargeComplete h)
def execGirthMeasurement (g : Fin 4) (mohm : Nat) (range : Fin 3) (s : State) := s.on (girthMeasurement g mohm range)
def execAvddgLow (mv : Fin 65536) (s : State) := s.on (avddgLow mv)
def execLockstepMismatch (x : Mismatch) (s : State) :=
  s.on (lockstepMismatch x.group (x.word.map (fun p => (p.1.val, p.2))))
def execLockstepRestartDone (us : Nat) (s : State) := s.on (lockstepDone us)
def execSeqCheckpoint (s : State) := s.on seqCheckpoint
def execRungEntryBegin (s : State) := s.on rungEntryBegin
def execRungRequestTimeout (s : State) := s.on rungTimeout
def execRungEntryComplete (repairs : List Bool) (s : State) := s.on (rungEntryComplete repairs)
def execWakeNLow (s : State) := s.on (Dev.wake 0)
def execWakeTimer (s : State) := s.on wakeTimer
def execWakeRelease (s : State) := s.on wakeRelease
def execShedLevelReached (n : Fin 5) (mv : Fin 65536) (s : State) := s.on (shedReached n mv)
def execShedRecovery (mv : Fin 65536) (s : State) := s.on (shedRecovery mv)
def execReenableOk (mv : Fin 65536) (s : State) := s.on (reenableOk mv)
def execRailFault (k : Fin 13) (mv : Fin 65536) (s : State) := s.on (railFault k mv)
def execXtal32kLoss (s : State) := s.on xtalLoss
def execXtal32kRestore (s : State) := s.on xtalRestore
/-- PCIE_REQUEST_WAKE: a PCIe request wakes from Walk (R514). -/
def execPcieRequestWake (s : State) := s.on (fun d => if d.rung = 3 then d.wake 2 else d)

end Sys2Proof.Machine
end

