-- ==== Sys2Proof/Machine/Commit.lean ====
section
/-! DEFINITION. The meeting points of a head (R11 to R14): the commit point of a raster head, its lines and underruns, the phase
boundary of a MIP head; and the stream frames that end idle or wake the device. -/
namespace Sys2Proof.Machine

/-- Step 2 of R13: the handovers that wait for head `h`. -/
def Dev.handoversAt (h : Nat) (d : Dev) : Dev :=
  foldS (filterRange 16 (fun n => d.flag (SBn_OWNER_PENDING n) && d.handoverHead n == some h)) Dev.handover d

/-- A re-tack of head `h` in ARMED applies with the set that it sealed (R65, R66). DESIGN CHOICE: where R271 has refused the set, the section
applies without it (assumption 97). -/
def Dev.rtCommit (h frame : Nat) (early : Bool) (d : Dev) : Dev := if early && d.rtDue h then d.rtApply h (!d.scans h) frame else d

/-! ### Raster heads (R264, R279, R280) -/

/-- Steps 1 to 4 of R13 at raster head `h`, whose frame ended at line `abort` or completed. -/
def Dev.rasterCommit (h : Nat) (early : Bool) (abort : Option Nat) (d : Dev) : Dev :=
  let f := d.get (HDn_POSITION_FRAME h)
  let va := d.vactive h
  let d1 := ((d.frameEnds h abort).rasterCommitSet h early).rtCommit h (d.head h).nextFrame early
  let d2 := ((d1.frameClosed h abort (va - abort.getD va)).handoversAt h).subStep h
  let d3 := match abort with
    | some n => d2.marksSkipped h f n va
    | none => d2
  (d3.marksAtCommit h f va).commitStop h

/-- Is line VACTIVE the next line of the frame of raster head `h`? -/
def Dev.atCommit (d : Dev) (h : Nat) : Bool :=
  d.isRaster h && d.headState h != 0 && (d.head h).inFrame && (d.head h).lineBegun && d.nextLine h == d.vactive h

/-- An underrun of head `h` at line `n` (R280); `source` tells that the input was late. -/
def Dev.underrun (h n : Nat) (early source : Bool) (d : Dev) : Dev := (d.rasterCommit h early (some n)).underrunCounted h source

/-- HEAD_UNDERRUN: line `n` is not complete when it must start (R279). -/
def headUnderrun (h : Nat) (early : Bool) (d : Dev) : Dev :=
  let n := d.nextLine h
  if d.isRaster h && d.headState h != 0 && (d.head h).inFrame && decide (n < d.vactive h) then d.underrun h n early false else d

/-- HEAD_LINE_START: the next line of head `h` starts; a line-locked head whose input line has not come underruns (R162). -/
def headLineStart (h : Nat) (early : Bool) (planes : List (Nat × Nat)) (maps : List Nat) (errs : List (Nat × Ecc)) (d : Dev) : Dev :=
  let n := d.nextLine h
  if !d.mayStartLine h then d
  else if (d.head h).inFrame && d.lineMissing h n then d.underrun h n early true
  else d.startLine h n planes maps errs

/-! ### MIP heads (R296, R297, R345) -/

/-- Steps 1 to 4 of R13 at MIP head `h`, whose sub-frame begins: did a set apply? The substitutions that step 3 begins complete, and
post their records, after the marks of step 4 (R15, R201). -/
def Dev.mipCommit (h : Nat) (early : Bool) (d : Dev) : Bool × Dev :=
  let (applied, d1) := ((d.histCommit h (d.get (HDn_POSITION_FRAME h))).subFrame h).mipCommitSet h early
  let f := d1.get (HDn_POSITION_FRAME h)
  let d2 := (d1.rtCommit h f early).handoversAt h
  (applied, (d2.marksAtCommit h f 0).subAtCommit h)

/-- Does head `h` go on with actions 2 to 6? A STOPPED or CRACKED head only alternates its commons. -/
def Dev.mipActive (d : Dev) (h : Nat) : Bool := d.headState h == 1 || d.headState h == 2

/-- The phase boundary of MIP head `h`. The commons alternate while the panel is ON (R343); a STOPPED head has no commit points (R434),
and only its sub-frames go on. -/
def Dev.phaseBoundary (h : Nat) (early : Bool) (d : Dev) : Dev :=
  if !(d.isMip h && d.comsRun h) then d
  else if d.panelState h = 3 then d.comsStop h
  else if d.panelState h ≠ 2 then d
  else
    let phase := 1 - (d.mip h).phase
    let d1 := (d.lostRecords h).comsSwitch h phase
    if d1.mipActive h then
      let (applied, d2) := if phase = 0 then d1.mipCommit h early else (false, d1)
      d2.boundaryActions h (phase == 0) applied
    else (if phase = 0 then d1.subFrameTick h else d1).pushIdle h

/-- COMMIT_POINT of head `h`; `early` tells that the seal came at least 8 SCLK before it (R265). A MIP head's is the phase
boundary that begins phase 0. -/
def commitPoint (h : Nat) (early : Bool) (d : Dev) : Dev :=
  if d.isMip h then (if (d.mip h).phase = 1 then d.phaseBoundary h early else d)
  else if d.atCommit h then d.rasterCommit h early none
  else d

/-- MIP_RAMP_STEP of head `h`'s panel: the commons' first levels are the first phase boundary and commit point. -/
def mipRampStep (h : Nat) (early : Bool) (d : Dev) : Dev :=
  if !d.isMip h then d
  else
    let d1 := d.mipRamp h
    if d.panelState h = 1 ∧ d1.panelState h = 2 then (d1.onMip h (fun u => { u with phase := 1 })).phaseBoundary h early else d1

/-! ### Stream frames (R148, R149, R282, R510, R514) -/

/-- The heads of stream `n` leave idle when a newer frame is stored (R282). -/
def Dev.idleEnds (n : Nat) (before : List Nat) (d : Dev) : Dev :=
  if (d.stream n).done = before then d
  else foldS (filterRange 8 (fun h => d.isRaster h && (d.head h).sect.source == n)) Dev.idleEnd d

/-- STREAM_FRAME_START. In Canter and Trot nothing is stored; from Canter an accepted one wakes. -/
def frameStartRx (n frame height : Nat) (zeroOk : Bool) (d : Dev) : Dev :=
  if d.inRung then
    if !d.fromLink n then d
    else if !zeroOk || height != d.inHeight n then d.markErr n frame
    else d.wake 4
  else (streamFrameStart n frame height zeroOk d).idleEnds n (d.stream n).done

/-- STREAM_FRAME_END. -/
def frameEndRx (n frame : Nat) (zeroOk : Bool) (d : Dev) : Dev := (streamFrameEnd n frame zeroOk d).idleEnds n (d.stream n).done

/-- TPG_LINE: the generator's next line. -/
def tpgLineNext (n : Nat) (d : Dev) : Dev := (tpgLine n d).idleEnds n (d.stream n).done

/-! ### The commands of this file -/

def execCommitPoint (h : Fin 8) (early : Bool) (s : State) := s.on (commitPoint h early)
def execHeadLineStart (h : Fin 8) (early : Bool) (planes : List (Nat × Nat)) (maps : List Nat) (errs : List (Nat × Ecc)) (s : State) :=
  s.on (headLineStart h early planes maps errs)
def execHeadUnderrun (h : Fin 8) (early : Bool) (s : State) := s.on (headUnderrun h early)
def execMipPhaseBoundary (h : Fin 8) (early : Bool) (s : State) := s.on (Dev.phaseBoundary h early)
def execMipRampStep (h : Fin 8) (early : Bool) (s : State) := s.on (mipRampStep h early)
def execTpgLine (n : Fin 4) (s : State) := s.on (tpgLineNext n)

end Sys2Proof.Machine
end

