-- ==== Sys2Proof/Machine/Ptp.lean ====
section
/-! DEFINITION. PTP on E0 and E1 and the TIME sets of TEAM links (chapter 03, R106 to R113). -/
namespace Sys2Proof.Machine

/-! ### PTP (R106 to R109) -/

/-- The open exchange of port `p`. -/
def Dev.ptpPort (d : Dev) (p : Nat) : PtpPort := nth {} d.time.ptp p

/-- Changes the exchange of port `p`. -/
def Dev.onPtp (p : Nat) (f : PtpPort → PtpPort) (d : Dev) : Dev :=
  { d with time := { d.time with ptp := updAt d.time.ptp p f } }

/-- The portState codes of IEEE 1588-2019 that the ports take. -/
def psDisabled : Nat := 3
def psListening : Nat := 4
def psMaster : Nat := 6
def psPassive : Nat := 7
def psSlave : Nat := 9

/-- Does PTP run on port `p`? The port itself must be active (R425). -/
def Dev.ptpOn (d : Dev) (p : Nat) : Bool := d.flag (PTPp_CTRL_ENABLE p) && d.flag (Ep_CTRL_ENABLE p) && d.mode != 0

/-- TB0's time now, in ns. -/
def Dev.tb0Now (d : Dev) : Int := ((d.tb 0).total : Int)

/-- R107: the timestamps of a message received and sent at port `p` now, corrected for the port's fixed latency. -/
def Dev.rxStamp (d : Dev) (p : Nat) : Int := d.tb0Now - Config.ptpLatency p false
def Dev.txStamp (d : Dev) (p : Nat) : Int := d.tb0Now + Config.ptpLatency p true

/-- R106, R31: a received message is counted, and discarded when its domain, version or form is wrong. -/
def Dev.ptpReceive (p domain : Nat) (version2 wellFormed : Bool) (counter : Nat) (f : Dev → Dev) (d : Dev) : Dev :=
  if !d.ptpOn p then d
  else if !wellFormed then (d.inc (PTPp_COUNTk_V p 13)).guardFail 5 13
  else if !version2 || domain != d.get PTP_CTRL_DOMAIN then (d.inc (PTPp_COUNTk_V p 12)).guardFail 5 12
  else f (d.inc (PTPp_COUNTk_V p counter))

/-- A received message without its timestamp is counted as missed and measures nothing (R122); otherwise `f`. -/
def Dev.ptpStamped (p : Nat) (stamped : Bool) (f : Dev → Dev) (d : Dev) : Dev := if stamped then f d else d.inc (PTPp_COUNTk_V p 15)

/-- A frame of port `p` with message type `kind` leaves, counted at the port with its FCS (R417, R425). -/
def Dev.ptpOut (p kind : Nat) (msg : List Byte) (d : Dev) : Dev :=
  let l := macFrame (d.ptpFrame p kind msg)
  (((d.inc (Ep_COUNTk_V p 9)).addSat (Ep_COUNTk_V p 10) l.length).inc (Ep_COUNTk_V p 11)).send (.ptp p kind l)

/-- A message of port `p` leaves and is counted among the port's messages: the kind is its IEEE 1588 messageType. -/
def Dev.ptpSend (p kind counter : Nat) (msg : List Byte) (d : Dev) : Dev := (d.inc (PTPp_COUNTk_V p counter)).ptpOut p kind msg

/-- PTP_SYNC_TX (R106): a master port sends Sync with its departure, or in two-step mode with the flag set and a Follow_Up with the
departure. -/
def ptpSyncTx (p : Nat) (d : Dev) : Dev :=
  if d.ptpOn p && d.get (PTPp_STATE_V p) == psMaster then
    let seq := (d.ptpPort p).txSync
    let log := d.get (PTPp_INTERVALS_LOG_SYNC p)
    let d1 := d.onPtp p (fun x => { x with txSync := (seq + 1) % 65536 })
    let t := stampBytes (d.txStamp p)
    if d.flag (PTPp_CTRL_ONE_STEP p) then d1.ptpSend p 0 0 (d.ptpMsg p 0 0 0 seq log t)
    else (d1.ptpSend p 0 0 (d.ptpMsg p 0 0x200 0 seq log (stampBytes 0))).ptpSend p 8 2 (d.ptpMsg p 8 0 0 seq log t)
  else d

/-- Is port `p` the slave of the master `sender` (R106)? -/
def Dev.slaveOf (d : Dev) (p sender : Nat) : Bool := d.get (PTPp_STATE_V p) == psSlave && (d.ptpPort p).master == some sender

/-- A correction in 2^-16 ns, to the nearest ns. -/
def corrNs (c : Int) : Int := roundDiv c 65536

/-- R107, R109: the offset of a completed Sync exchange is reported in PTPp_OFFSET, and measures TB0 where port `p` is its source. -/
def Dev.ptpOffset (p : Nat) (t1 t2 corr : Int) (d : Dev) : Dev :=
  let e := t2 - t1 - corrNs corr - d.getI (PTPp_MEAN_DELAY_V p) - d.getI (PTPp_ASYM_V p)
  Dev.measured 0 (5 + p) e
    ((d.onPtp p (fun x => { x with t1 := t1, t2 := t2, corr := corr, waitFollowUp := false })).putI (PTPp_OFFSET_V p) e)

/-- PTP_SYNC_RX: stamped on TB0; of the port's master, a one-step Sync yields an offset at once, a two-step Sync waits for its
Follow_Up, with its correction in 2^-16 ns. -/
def ptpSyncRx (p domain : Nat) (version2 : Bool) (a : PtpArrival) (twoStep : Bool) (seq : Nat) (origin corr : Int) (d : Dev) : Dev :=
  d.ptpReceive p domain version2 a.wellFormed 1 (Dev.ptpStamped p a.stamped (fun s =>
    if s.slaveOf p a.sender then
      if twoStep then s.onPtp p (fun x => { x with arrived := s.rxStamp p, syncSeq := seq, syncCorr := corr, waitFollowUp := true })
      else s.ptpOffset p origin (s.rxStamp p) corr
    else s))

/-- PTP_FOLLOW_UP_RX: completes the master's Sync of the same sequence number; the corrections of the two add up. -/
def ptpFollowUpRx (p domain : Nat) (version2 : Bool) (m : PtpFrom) (seq : Nat) (origin corr : Int) (d : Dev) : Dev :=
  d.ptpReceive p domain version2 m.wellFormed 3 (fun s =>
    let x := s.ptpPort p
    if s.slaveOf p m.sender = true ∧ x.waitFollowUp = true ∧ x.syncSeq = seq then s.ptpOffset p origin x.arrived (x.syncCorr + corr)
    else s)

/-- PTP_DELAY_REQ_TX: a slave port sends Delay_Req, stamped at departure. -/
def ptpDelayReqTx (p : Nat) (d : Dev) : Dev :=
  if d.ptpOn p && d.get (PTPp_STATE_V p) == psSlave then
    let seq := ((d.ptpPort p).reqSeq + 1) % 65536
    (d.onPtp p (fun x => { x with t3 := d.txStamp p, reqSeq := seq, waitResp := true })).ptpSend p 1 4
      (d.ptpMsg p 1 0 0 seq 0x7F (stampBytes 0))
  else d

/-- PTP_DELAY_REQ_RX: a master port stamps the request and answers with its arrival and its correction. -/
def ptpDelayReqRx (p domain : Nat) (version2 : Bool) (a : PtpArrival) (r : PtpRequest) (requester : Nat) (d : Dev) : Dev :=
  d.ptpReceive p domain version2 a.wellFormed 5 (Dev.ptpStamped p a.stamped (fun s =>
    if s.get (PTPp_STATE_V p) = psMaster then
      s.ptpSend p 9 6 (s.ptpMsg p 9 0 (unsgn 64 r.corr) r.seq (s.get (PTPp_INTERVALS_LOG_DELAY_REQ p))
        (stampBytes (s.rxStamp p) ++ beBytes 10 requester))
    else s))

/-- The path delay of the last completed Sync and a Delay_Resp: ((t2 − t1) + (t4 − t3) − the corrections) / 2, to the nearest ns. -/
def PtpPort.delay (x : PtpPort) (t4 corr : Int) : Int := roundDiv (((x.t2 - x.t1) + (t4 - x.t3)) * 65536 - x.corr - corr) 131072

/-- PTP_DELAY_RESP_RX: the master's answer to the port's own request completes the path delay. -/
def ptpDelayRespRx (p domain : Nat) (version2 : Bool) (m : PtpFrom) (r : PtpResponse) (t4 : Int) (d : Dev) : Dev :=
  d.ptpReceive p domain version2 m.wellFormed 7 (fun s =>
    let x := s.ptpPort p
    if s.slaveOf p m.sender = true ∧ r.requester = s.ownPort p ∧ x.waitResp = true ∧ x.reqSeq = r.seq then
      (s.onPtp p (fun x => { x with waitResp := false })).putI (PTPp_MEAN_DELAY_V p) (x.delay t4 r.corr)
    else s)

/-- The clockClass that the device announces (R108). -/
def Dev.clockClass (d : Dev) : Nat :=
  if d.get (TBn_STATUS_STATE 0) = 3 then d.get PTP_HOLDOVER_CLASS_V else d.get PTP_QUALITY_CLASS

/-- The data set of this clock as a grandmaster (R108). -/
def Dev.ownSet (d : Dev) : Announce :=
  { senderId := d.clockId, senderPort := 0, gmId := d.clockId, priority1 := d.get PTP_PRIORITY1_V,
    quality := d.clockClass * 2 ^ 24 + d.get PTP_QUALITY_ACCURACY * 2 ^ 16 + d.get PTP_QUALITY_VARIANCE,
    priority2 := d.get PTP_PRIORITY2_V, steps := 0 }

/-- The fields of the data set comparison of IEEE 1588-2019, the most significant first. -/
def Announce.rank (a : Announce) : List Nat :=
  if a.gmId = a.senderId ∧ a.senderPort = 0 then [a.priority1, a.quality, a.priority2, a.gmId, 0, 0, 0]
  else [a.priority1, a.quality, a.priority2, a.gmId, a.steps + 1, a.senderId, a.senderPort]

/-- Is the first data set better than the second (R107)? The quality word orders class, accuracy and variance. -/
def Announce.better (a b : Announce) : Bool :=
  let rec go : List Nat → List Nat → Bool
    | x :: r, y :: t => if x = y then go r t else decide (x < y)
    | _, _ => false
  go a.rank b.rank

/-- The best of a list of foreign masters. -/
def bestOf (l : List Announce) : Option Announce :=
  l.foldl (fun acc a => match acc with
    | none => some a
    | some b => if a.better b then some a else some b) none

/-- The announce interval of port `p` in ns. -/
def Dev.announceNs (d : Dev) (p : Nat) : Rat :=
  let k := d.getI (PTPp_INTERVALS_LOG_ANNOUNCE p)
  1000000000 * 2 ^ k.toNat / 2 ^ (-k).toNat

/-- The foreign masters of port `p` that qualify: two Announces within the last four announce intervals, and fewer than 255 steps from
their grandmaster (assumption 16). -/
def Dev.qualified (d : Dev) (p : Nat) : List Announce :=
  (d.ptpPort p).foreign.filterMap (fun f => match f.heardBefore with
    | some t =>
      if (((d.tb 3).total - t : Nat) : Rat) ≤ 4 * d.announceNs p ∧ f.announce.steps < 255 then some f.announce else none
    | none => none)

/-- The best qualified master that port `p` hears. -/
def Dev.bestHere (d : Dev) (p : Nat) : Option Announce := if d.ptpOn p then bestOf (d.qualified p) else none

/-- The best master that the clock hears, and the port that hears it; of two alike, port 0. -/
def Dev.bestAll (d : Dev) : Option (Nat × Announce) := match d.bestHere 0, d.bestHere 1 with
  | some a, some b => if b.better a then some (1, b) else some (0, a)
  | some a, none => some (0, a)
  | none, some b => some (1, b)
  | none, none => none

/-- Is data set `b` better than `e`, which port `p` hears, by topology: of the same grandmaster, and as near to it, or one step nearer
with the port's identity above that of `e`'s sender? -/
def Dev.byTopology (d : Dev) (p : Nat) (b e : Announce) : Bool :=
  b.gmId == e.gmId && (b.steps == e.steps || (b.steps + 1 == e.steps && decide (portIdentity e.senderId e.senderPort < d.ownPort p)))

/-- The state that the BMCA gives port `p` (R106, R107); GM_ONLY never gives SLAVE. A port without a qualified master listens until its
announce receipt timeout. -/
def Dev.bmcaState (d : Dev) (p : Nat) : Nat :=
  let own := d.ownSet
  let gmOnly := d.get PTP_CTRL_TYPE == 2 || decide (d.clockClass < 128)
  match d.bestHere p, d.bestAll with
  | none, _ => if (d.ptpPort p).waited then psMaster else psListening
  | some e, some (q, b) =>
    if gmOnly then (if own.better e then psMaster else psPassive)
    else if own.better b then psMaster
    else if q = p then psSlave
    else if d.byTopology p b e then psPassive else psMaster
  | some _, none => psMaster

/-- The state of port `p` by its ROLE (R107, R136). With the type GM_ONLY, where no port enters SLAVE (R106), ROLE SLAVE listens
(DESIGN CHOICE, assumption 106). -/
def Dev.roleState (d : Dev) (p : Nat) : Nat :=
  if !d.flag (PTPp_CTRL_ENABLE p) then psDisabled
  else match d.get (PTPp_CTRL_ROLE p) with
    | 1 => psMaster
    | 2 => if d.get PTP_CTRL_TYPE = 2 then psListening else psSlave
    | 3 => psPassive
    | _ => d.bmcaState p

/-- The port in SLAVE state. -/
def Dev.slavePort (d : Dev) : Option Nat := (List.range 2).find? (fun p => d.ptpOn p && d.get (PTPp_STATE_V p) == psSlave)

/-- The master that port `p` follows: a port whose ROLE is SLAVE follows the best it has heard. -/
def Dev.masterOf (d : Dev) (p : Nat) : Option Announce := match d.bestHere p with
  | some a => some a
  | none => bestOf ((d.ptpPort p).foreign.map (·.announce))

/-- The parent of the clock. -/
def Dev.parent (d : Dev) : Option Announce := d.slavePort.bind d.masterOf

/-- Port `p` takes its state, and as a slave its master; with another master than before, no exchange is open. -/
def Dev.portDecide (p : Nat) (d : Dev) : Dev :=
  if d.flag (PTPp_CTRL_ENABLE p) then
    let d1 := d.put (PTPp_STATE_V p) (d.roleState p)
    let m := if d1.get (PTPp_STATE_V p) = psSlave then (d1.masterOf p).map (fun a => portIdentity a.senderId a.senderPort) else none
    if (d1.ptpPort p).master = m then d1 else d1.onPtp p (fun x => { x with master := m, waitFollowUp := false, waitResp := false })
  else d

/-- Runs the state decision on both ports and sets the parent and grandmaster (R107, R109). -/
def Dev.bmca (d : Dev) : Dev :=
  let d1 := foldS [0, 1] Dev.portDecide d
  let gm := match d1.parent with | some a => a.gmId | none => d1.clockId
  let pid := match d1.parent with | some a => a.senderId | none => d1.clockId
  let steps := match d1.parent with | some a => a.steps + 1 | none => 0
  let old := d1.get PTP_GM_HI_V * 2 ^ 32 + d1.get PTP_GM_LO_V
  let d2 := ((d1.put PTP_GM_HI_V (gm / 2 ^ 32)).put PTP_GM_LO_V gm).put PTP_STEPS_REMOVED_V steps
  let d3 := (d2.put PTP_PARENT_HI_V (pid / 2 ^ 32)).put PTP_PARENT_LO_V pid
  if old = gm then d3 else d3.timeEvt 21

/-- The synchronization metadata of ST 2059-2 in the 24 bytes of PTP_SM0 to PTP_SM5, PTP_SM0 first and its low byte first, as the
organization extension that follows an Announce (R108, assumption 16). -/
def Dev.smTlv (d : Dev) : List Byte :=
  if d.get PTP_CTRL_PROFILE = 1 then
    beBytes 2 3 ++ beBytes 2 30 ++ beBytes 6 0x6897E8000001 ++ (List.range 6).flatMap (fun k => leBytes 4 (d.get (PTP_SMk_V k)))
  else []

/-- The body of an Announce (R108). -/
def Dev.announceBody (d : Dev) : List Byte :=
  stampBytes 0 ++ beBytes 2 (d.get PTP_UTC_OFFSET_V) ++ beBytes 1 0 ++ beBytes 1 (d.get PTP_PRIORITY1_V)
    ++ qualityBytes d.ownSet.quality ++ beBytes 1 (d.get PTP_PRIORITY2_V)
    ++ beBytes 8 (d.get PTP_GM_HI_V * 2 ^ 32 + d.get PTP_GM_LO_V) ++ beBytes 2 (d.get PTP_STEPS_REMOVED_V)
    ++ beBytes 1 (d.get PTP_UTC_FLAGS_TIME_SOURCE) ++ d.smTlv

/-- PTP_ANNOUNCE_TX (R108): the configured priorities, quality, class and flags, timescale PTP; in the ST 2059-2 profile its metadata. -/
def ptpAnnounceTx (p : Nat) (d : Dev) : Dev :=
  if d.ptpOn p && d.get (PTPp_STATE_V p) == psMaster then
    let seq := (d.ptpPort p).txAnnounce
    (d.onPtp p (fun x => { x with txAnnounce := (seq + 1) % 65536 })).ptpSend p 11 8
      (d.ptpMsg p 11 d.timeFlags 0 seq (d.get (PTPp_INTERVALS_LOG_ANNOUNCE p)) d.announceBody)
  else d

/-- Records an Announce heard at `now`: in its sender's entry, or the first free one of the eight (R107). -/
def recordForeign (a : Announce) (now : Nat) (l : List Foreign) : List Foreign :=
  let same (f : Foreign) : Bool := f.announce.senderId == a.senderId && f.announce.senderPort == a.senderPort
  if l.any same then l.map (fun f => if same f then { announce := a, heardAt := now, heardBefore := some f.heardAt } else f)
  else if l.length < 8 then l ++ [{ announce := a, heardAt := now }] else l

/-- PTP_ANNOUNCE_RX (R107, R109): feeds the foreign master table and the BMCA. -/
def ptpAnnounceRx (p domain : Nat) (version2 wellFormed : Bool) (a : Announce) (d : Dev) : Dev :=
  d.ptpReceive p domain version2 wellFormed 9 (fun s =>
    if a.senderId = s.clockId then s
    else (s.onPtp p (fun x => { x with foreign := recordForeign { a with seen := s.nsc32 0 } (s.tb 3).total x.foreign })).bmca)

/-- PTP_ANNOUNCE_RECEIPT_TIMEOUT (R89, R107): the port's masters are gone, its reference is lost, and the BMCA runs. -/
def ptpAnnounceTimeout (p : Nat) (d : Dev) : Dev :=
  if d.ptpOn p then
    ((d.inc (PTPp_COUNTk_V p 14)).onPtp p (fun x => { x with foreign := [], waited := true })).sourceLost (5 + p) 0 |>.bmca
  else d

/-- The data set that a Management GET asks for (R106): 0 default, 1 current, 2 parent, 3 time properties, 4 port; none where it is not
one of them. -/
def Dev.dataSet (d : Dev) (p k : Nat) : Option (List Byte) :=
  let own := d.ownSet
  match k with
  | 0 => some (beBytes 1 (1 - d.get (PTPp_CTRL_ONE_STEP p)) ++ beBytes 1 0 ++ beBytes 2 (if d.get PTP_CTRL_TYPE = 0 then 1 else 2)
      ++ beBytes 1 own.priority1 ++ qualityBytes own.quality ++ beBytes 1 own.priority2 ++ beBytes 8 d.clockId
      ++ beBytes 1 (d.get PTP_CTRL_DOMAIN) ++ beBytes 1 0)
  | 1 => some (beBytes 2 (d.get PTP_STEPS_REMOVED_V) ++ match d.slavePort with
      | some q => intervalBytes (d.getI (PTPp_OFFSET_V q)) ++ intervalBytes (d.getI (PTPp_MEAN_DELAY_V q))
      | none => intervalBytes 0 ++ intervalBytes 0)
  | 2 =>
    let a := d.parent.getD own
    some (beBytes 8 a.senderId ++ beBytes 2 a.senderPort ++ beBytes 2 0 ++ beBytes 2 0xFFFF ++ beBytes 4 0x7FFFFFFF ++ beBytes 1 a.priority1
      ++ qualityBytes a.quality ++ beBytes 1 a.priority2 ++ beBytes 8 a.gmId)
  | 3 => some (beBytes 2 (d.get PTP_UTC_OFFSET_V) ++ beBytes 1 d.timeFlags ++ beBytes 1 (d.get PTP_UTC_FLAGS_TIME_SOURCE))
  | 4 => some (d.portId p ++ beBytes 1 (d.get (PTPp_STATE_V p)) ++ beBytes 1 (d.get (PTPp_INTERVALS_LOG_DELAY_REQ p))
      ++ intervalBytes (d.getI (PTPp_MEAN_DELAY_V p)) ++ beBytes 1 (d.get (PTPp_INTERVALS_LOG_ANNOUNCE p))
      ++ beBytes 1 (d.get (PTPp_INTERVALS_ANNOUNCE_TIMEOUT p)) ++ beBytes 1 (d.get (PTPp_INTERVALS_LOG_SYNC p)) ++ beBytes 1 1
      ++ beBytes 1 0 ++ beBytes 1 2)
  | _ => none

/-- A Management answer to `requester`: the action RESPONSE, and one TLV. -/
def Dev.managementAnswer (p seq requester tlv : Nat) (data : List Byte) (d : Dev) : Dev :=
  d.ptpOut p 13 (d.ptpMsg p 13 0 0 seq 0x7F (managementBody requester 2 tlv data))

/-- PTP_MANAGEMENT_GET (R106): a data set that the rule lists is answered. -/
def ptpManagementGet (p domain : Nat) (version2 wellFormed : Bool) (seq requester dataSet : Nat) (d : Dev) : Dev :=
  d.ptpReceive p domain version2 wellFormed 10 (fun s => match s.dataSet p dataSet with
    | some l => s.managementAnswer p seq requester 1 (beBytes 2 (0x2000 + dataSet) ++ l)
    | none => s)

/-- PTP_MANAGEMENT_SET: counted and refused (R106): a management error status, not settable, with the identifier asked for. -/
def ptpManagementSet (p domain : Nat) (version2 wellFormed : Bool) (seq requester ident : Nat) (d : Dev) : Dev :=
  d.ptpReceive p domain version2 wellFormed 10 (fun s =>
    s.managementAnswer p seq requester 2 (beBytes 2 4 ++ beBytes 2 ident ++ beBytes 4 0 ++ beBytes 2 0))

/-- PTP_SIGNALING_RX: counted. -/
def ptpSignalingRx (p domain : Nat) (version2 wellFormed : Bool) (d : Dev) : Dev :=
  d.ptpReceive p domain version2 wellFormed 11 id

/-- The guards of a write of PTPp_CTRL (R107, R136). -/
def ptpCtrlOk (p v : Nat) (d : Dev) : Bool :=
  !(d.flag (PTPp_CTRL_ENABLE p) && bitOf v 0 &&
      (bitsOf v 3 2 != d.get (PTPp_CTRL_TRANSPORT p) || bitsOf v 5 1 != d.get (PTPp_CTRL_ONE_STEP p)))
    && !(bitOf v 0 && d.get PTP_CTRL_TYPE == 0 && d.flag (PTPp_CTRL_ENABLE (1 - p)))

/-- What a write of PTPp_CTRL does beside its fields: enabling clears the counters, and the port takes its state. -/
def ptpCtrlWritten (p : Nat) (wasOn : Bool) (d : Dev) : Dev :=
  if d.flag (PTPp_CTRL_ENABLE p) then
    let d1 := if wasOn then d else foldS (List.range 16) (fun k s => s.put (PTPp_COUNTk_V p k) 0) d
    d1.bmca
  else (d.onPtp p (fun _ => {})).put (PTPp_STATE_V p) psDisabled |>.bmca

/-! ### TIME sets (R110 to R113, R138) -/

/-- A TIME block (R110). -/
def timeBlock (kind seq : Nat) (body : List Byte) : RBlock :=
  ⟨true, leBytes 1 0x78 ++ leBytes 1 (kind % 16 * 16 + seq % 16) ++ body⟩

/-- The pair of blocks of a pending step (R110). -/
def pairBlocks (seq : Nat) (p : StepPair) : List RBlock :=
  [timeBlock 8 seq (leBytes 4 (unsgn 32 p.sec) ++ leBytes 1 (p.tb % 2 + 2 * b2n p.onTb0) ++ leBytes 1 0),
   timeBlock 9 seq (leBytes 4 (unsgn 32 p.ns) ++ leBytes 2 p.boundary)]

/-- The step pair pending on time base `n` (R111, R113): the host's armed step, TB1's step that follows TB0's (R95), or a pair
received. -/
def Dev.pendingPair (d : Dev) (n : Nat) : Option StepPair :=
  if d.flag (TBn_STATUS_STEP_PENDING n) then
    some { tb := n, sec := (d.tb n).stepSec, ns := (d.tb n).stepNs, boundary := (d.tb n).stepAt % 65536, onTb0 := false }
  else match d.time.pairs.find? (fun p => p.tb == n) with
    | some p => some p
    | none =>
      if n = 1 ∧ d.followsTb0 1 = true then
        if d.flag (TBn_STATUS_STEP_PENDING 0) then
          some { tb := 1, sec := (d.tb 0).stepSec, ns := (d.tb 0).stepNs, boundary := (d.tb 0).stepAt % 65536, onTb0 := true }
        else match d.time.pairs.find? (fun p => p.tb == 0) with
          | some p => some { p with tb := 1, onTb0 := true }
          | none => none
      else none

/-- The blocks of a TIME set now (R111). -/
def Dev.timeSet (d : Dev) (seq : Nat) : List RBlock :=
  let t0 := d.tb 0
  let t1 := d.tb 1
  let ps := [0, 1].filterMap d.pendingPair
  let flags := b2n (d.get (TBn_STATUS_STATE 0) == 2) + 2 * b2n (d.get (TBn_STATUS_STATE 0) == 3) + 4 * b2n d.tcDiscFlag
    + 8 * b2n (d.pendingPair 0).isSome + 16 * b2n (d.pendingPair 1).isSome
  [timeBlock 1 seq (leBytes 4 t0.ns ++ leBytes 2 t0.frac), timeBlock 2 seq (leBytes 6 t0.sec),
   timeBlock 3 seq (leBytes 4 t1.ns ++ leBytes 2 t1.frac), timeBlock 4 seq (leBytes 6 t1.sec),
   timeBlock 5 seq (leBytes 2 (d.get TEAM_NODE_ID_V) ++ leBytes 1 flags
     ++ leBytes 1 (d.get TC_CTRL_RATE + 16 * d.get TEAM_TIME_STATUS_HOPS) ++ leBytes 2 0)]
    ++ ps.flatMap (pairBlocks seq)

/-- R138: a leader is its own leader. -/
def Dev.leaderOwn (d : Dev) : Dev :=
  if d.get TEAM_TIME_CTRL_UPSTREAM = 31 then d.put TEAM_TIME_STATUS_LEADER_NODE_ID (d.get TEAM_NODE_ID_V) else d

/-- R113, R138: TEAM_TIME_STATUS follows a write of TEAM_TIME_CTRL: with another UPSTREAM, or not enabled, no set is valid and no leader
known; a leader is 0 hops away and its own leader. -/
def Dev.teamTimeWritten (was : Nat) (d : Dev) : Dev :=
  Dev.leaderOwn (if d.flag TEAM_TIME_CTRL_ENABLE && d.get TEAM_TIME_CTRL_UPSTREAM == was then d
    else ((d.putB TEAM_TIME_STATUS_UPSTREAM_VALID false).put TEAM_TIME_STATUS_HOPS 0).put TEAM_TIME_STATUS_LEADER_NODE_ID 0)

/-- A write of TEAM_NODE_ID: a leader's ID is that of its team's leader (R138). -/
def teamNodeWrite (v : Nat) (d : Dev) : Dev := d.writeVia TEAM_NODE_ID v (fun _ => true) Dev.leaderOwn

/-- TIME_SET_TX: one set on every downstream link (R111). -/
def timeSetTx (d : Dev) : Dev :=
  if d.flag TEAM_TIME_CTRL_ENABLE && d.mode != 0 then
    let seq := d.time.setSeq
    let d1 := foldS (onesOf 16 (d.get TEAM_TIME_CTRL_DOWNSTREAM)) (fun k s => (d.timeSet seq).foldl (fun t b => t.timeColumn k b) s) d
    { d1 with time := { d1.time with setSeq := (seq + 1) % 16 } }
  else d

/-- Fields of a received TIME block. -/
def blkKind (b : List Byte) : Nat := ofLE (b.drop 1 |>.take 1) / 16
def blkSeq (b : List Byte) : Nat := ofLE (b.drop 1 |>.take 1) % 16
def blkField (b : List Byte) (lo n : Nat) : Nat := ofLE (b.drop lo |>.take n)

/-- The step pairs after the base blocks of a set; none where they are not pairs of the set's SEQ. -/
def parsePairs (seq : Nat) : List (List Byte) → Option (List StepPair)
  | [] => some []
  | [_] => none
  | a :: b :: r =>
    if blkKind a = 8 ∧ blkKind b = 9 ∧ blkSeq a = seq ∧ blkSeq b = seq then
      (parsePairs seq r).map (fun l =>
        { tb := blkField a 6 1 % 2, sec := sgn 32 (blkField a 2 4), ns := sgn 32 (blkField b 2 4),
          boundary := blkField b 6 2, onTb0 := bitOf (blkField a 6 1) 1 } :: l)
    else none

/-- R111: the step pairs of an acceptable set; none where the set is discarded. -/
def Dev.acceptSet (d : Dev) (l : List (List Byte)) : Option (List StepPair) :=
  match l with
  | b1 :: b2 :: b3 :: b4 :: b5 :: r =>
    let seq := blkSeq b1
    match parsePairs seq r with
    | none => none
    | some ps =>
      let fl := blkField b5 4 1
      if [b1, b2, b3, b4, b5].map blkKind = [1, 2, 3, 4, 5] ∧ [b2, b3, b4, b5].all (fun b => blkSeq b == seq) = true
          ∧ ps.length ≤ 2 ∧ (ps.map (·.tb)).Nodup
          ∧ bitOf fl 3 = ps.any (fun p => p.tb == 0) ∧ bitOf fl 4 = ps.any (fun p => p.tb == 1)
          ∧ blkField b1 2 4 < 1000000000 ∧ blkField b3 2 4 < 1000000000 ∧ ps.all (fun p => decide (p.ns < 1000000000)) = true
          ∧ blkField b5 2 2 ≠ d.get TEAM_NODE_ID_V then some ps else none
  | _ => none

/-- A time in ps. -/
def psOf (sec ns frac : Nat) : Int := ((sec * 1000000000 + ns : Nat) : Int) * 1000 + ((frac * 1000 / 65536 : Nat) : Int)

/-- TB0 now in ps. -/
def Dev.tb0Ps (d : Dev) : Int := psOf (d.tb 0).sec (d.tb 0).ns (d.tb 0).frac

/-- R113: a pair is kept for a time base whose source is TEAM while its boundary lies ahead. -/
def Dev.keepsPair (d : Dev) (p : StepPair) : Bool :=
  let now := if p.onTb0 then (d.tb 0).sec else (d.tb p.tb).sec
  d.get (TBn_CTRL_SOURCE p.tb) == 7 && modDist 16 p.boundary now != 0 && !past16 p.boundary now

/-- Is the block of a reserved KIND (R110)? -/
def badKind (b : List Byte) : Bool := blkKind b == 0 || decide (10 ≤ blkKind b)

/-- A list of blocks without the reserved ones before and after its set; one between two blocks of the set stays and breaks it. -/
def trimBad (l : List (List Byte)) : List (List Byte) := ((l.dropWhile badKind).reverse.dropWhile badKind).reverse

/-- TB1 now in ps. -/
def Dev.tb1Ps (d : Dev) : Int := psOf (d.tb 1).sec (d.tb 1).ns (d.tb 1).frac

/-- The nearest whole number of ns of a time in ps. -/
def nsOfPs (x : Int) : Int := roundDiv x 1000

/-- R112, R113: an accepted set from `link` that arrives now measures TB0 and TB1 against the upstream node's, less the link's delay. -/
def Dev.setMeasured (link : Nat) (l : List (List Byte)) (d : Dev) : Dev :=
  let b (k : Nat) : List Byte := nth [] l k
  let t (k : Nat) : Int := psOf (blkField (b (k + 1)) 2 6) (blkField (b k) 2 4) (blkField (b k) 6 2)
  let delay := d.getI (TTLk_DELAY_V link)
  let d1 := { d with time := { d.time with t1 := t 0, t2 := d.tb0Ps, sets := d.time.sets + 1 } }
  Dev.measured 1 7 (nsOfPs (d.tb1Ps - t 2 - delay)) (Dev.measured 0 7 (nsOfPs (d.tb0Ps - t 0 - delay)) d1)

/-- TIME_SET_RX: blocks of unknown kind and sets that fail R111 are counted; an accepted set from UPSTREAM measures the time bases and
gives its step pairs and the status of the upstream node. Only a set of the leader itself, of 0 hops, names the leader's node ID;
another leaves LEADER_NODE_ID as it was (DESIGN CHOICE, assumption 105). -/
def timeSetRx (link : Nat) (blocks : List (List Byte)) (d : Dev) : Dev :=
  if d.mode = 0 then d
  else
    let bad := (blocks.filter badKind).length
    let d1 := if bad = 0 then d else (d.addSat (TTLk_DISCARD_V link) bad).guardFail 5 10
    let l := trimBad blocks
    if !(d.flag TEAM_TIME_CTRL_ENABLE && d.get TEAM_TIME_CTRL_UPSTREAM == link) || l.isEmpty then d1
    else match d1.acceptSet l with
    | none => (d1.inc (TTLk_DISCARD_V link)).guardFail 5 11
    | some ps =>
      let status := nth [] l 4
      let hops := blkField status 5 1 / 16
      let d2 := d1.setMeasured link l
      let d3 := { d2 with time := { d2.time with pairs := ps.filter d2.keepsPair } }
      let d4 := (d3.putB TEAM_TIME_STATUS_UPSTREAM_VALID true).put TEAM_TIME_STATUS_HOPS (min (hops + 1) 15)
      if hops = 0 then d4.put TEAM_TIME_STATUS_LEADER_NODE_ID (blkField status 2 2) else d4

/-- TEAM_DELAY_REQ_TX: after 16 sets, DELAY_REQ upstream, stamped at departure (R112). -/
def teamDelayReqTx (d : Dev) : Dev :=
  if d.flag TEAM_TIME_CTRL_ENABLE && decide (d.get TEAM_TIME_CTRL_UPSTREAM < 16) && decide (16 ≤ d.time.sets) && d.mode != 0 then
    let seq := (d.time.reqSeq + 1) % 16
    Dev.timeColumn (d.get TEAM_TIME_CTRL_UPSTREAM) (timeBlock 6 seq (leBytes 2 (d.get TEAM_NODE_ID_V) ++ leBytes 4 0))
      { d with time := { d.time with reqSeq := seq, t3 := d.tb0Ps, sets := 0 } }
  else d

/-- TEAM_DELAY_REQ_RX: the upstream node answers with the arrival time (R112). -/
def teamDelayReqRx (link seq : Nat) (d : Dev) : Dev :=
  if d.flag TEAM_TIME_CTRL_ENABLE && bitOf (d.get TEAM_TIME_CTRL_DOWNSTREAM) link && d.mode != 0 then
    d.timeColumn link (timeBlock 7 seq (leBytes 4 (d.tb 0).ns ++ leBytes 2 (d.tb 0).frac))
  else d

/-- The signed distance of two times of day within a second, in ps. -/
def wrapPs (x : Int) : Int := (x + 500000000000) % 1000000000000 - 500000000000

/-- TEAM_DELAY_RSP_RX: the link delay of R112. -/
def teamDelayRspRx (link seq ns frac : Nat) (d : Dev) : Dev :=
  if d.flag TEAM_TIME_CTRL_ENABLE && d.get TEAM_TIME_CTRL_UPSTREAM == link && d.time.reqSeq == seq && d.mode != 0 then
    d.putI (TTLk_DELAY_V link)
      (((d.time.t2 - d.time.t1) + wrapPs (psOf 0 ns frac - d.time.t3)) / 2 + d.getI (TTLk_ASYM_V link))
  else d

/-- TEAM_STEP_APPLY: a follower applies the pair of time base `n` at its boundary (R113), with no discontinuity of the servo; in ACQUIRE
the collection restarts (R95). -/
def teamStepApply (n : Nat) (d : Dev) : Dev :=
  match d.time.pairs.find? (fun p => p.tb == n) with
  | none => d
  | some p =>
    let d1 := { d with time := { d.time with pairs := d.time.pairs.filter (fun q => q.tb != n) } }
    if d.get (TBn_CTRL_SOURCE n) = 7 then foldS (d.stepGroup n) (Dev.stepServo false) (d1.stepBy n (p.sec * 1000000000 + p.ns)) else d1

/-! ### The commands -/

/-- PTP_SYNC_TX. -/
def execPtpSyncTx (p : Fin 2) (s : State) := s.on (ptpSyncTx p)
/-- PTP_SYNC_RX. -/
def execPtpSyncRx (p : Fin 2) (domain : Nat) (version2 : Bool) (arrival : PtpArrival) (twoStep : Bool) (seq : Nat) (origin corr : Int)
    (s : State) := s.on (ptpSyncRx p domain version2 arrival twoStep seq origin corr)
/-- PTP_FOLLOW_UP_RX. -/
def execPtpFollowUpRx (p : Fin 2) (domain : Nat) (version2 : Bool) (came : PtpFrom) (seq : Nat) (origin corr : Int) (s : State) :=
  s.on (ptpFollowUpRx p domain version2 came seq origin corr)
/-- PTP_DELAY_REQ_TX. -/
def execPtpDelayReqTx (p : Fin 2) (s : State) := s.on (ptpDelayReqTx p)
/-- PTP_DELAY_REQ_RX. -/
def execPtpDelayReqRx (p : Fin 2) (domain : Nat) (version2 : Bool) (arrival : PtpArrival) (request : PtpRequest) (requester : Nat)
    (s : State) := s.on (ptpDelayReqRx p domain version2 arrival request requester)
/-- PTP_DELAY_RESP_RX. -/
def execPtpDelayRespRx (p : Fin 2) (domain : Nat) (version2 : Bool) (came : PtpFrom) (response : PtpResponse) (t4 : Int) (s : State) :=
  s.on (ptpDelayRespRx p domain version2 came response t4)
/-- PTP_ANNOUNCE_TX. -/
def execPtpAnnounceTx (p : Fin 2) (s : State) := s.on (ptpAnnounceTx p)
/-- PTP_ANNOUNCE_RX. -/
def execPtpAnnounceRx (p : Fin 2) (domain : Nat) (version2 wellFormed : Bool)
    (senderId senderPort gmId priority1 quality priority2 steps : Nat) (s : State) :=
  s.on (ptpAnnounceRx p domain version2 wellFormed
    { senderId := senderId, senderPort := senderPort, gmId := gmId, priority1 := priority1, quality := quality,
      priority2 := priority2, steps := steps })
/-- PTP_ANNOUNCE_RECEIPT_TIMEOUT. -/
def execPtpAnnounceReceiptTimeout (p : Fin 2) (s : State) := s.on (ptpAnnounceTimeout p)
/-- PTP_MANAGEMENT_GET. -/
def execPtpManagementGet (p : Fin 2) (domain : Nat) (version2 wellFormed : Bool) (asker : PtpAsker) (dataSet : Nat) (s : State) :=
  s.on (ptpManagementGet p domain version2 wellFormed asker.seq asker.requester dataSet)
/-- PTP_MANAGEMENT_SET. -/
def execPtpManagementSet (p : Fin 2) (domain : Nat) (version2 wellFormed : Bool) (asked : PtpSet) (s : State) :=
  s.on (ptpManagementSet p domain version2 wellFormed asked.seq asked.requester asked.ident)
/-- PTP_SIGNALING_RX. -/
def execPtpSignalingRx (p : Fin 2) (domain : Nat) (version2 wellFormed : Bool) (s : State) :=
  s.on (ptpSignalingRx p domain version2 wellFormed)
/-- TIME_SET_TX. -/
def execTimeSetTx (s : State) := s.on timeSetTx
/-- TIME_SET_RX. -/
def execTimeSetRx (link : Fin 16) (blocks : List (List Byte)) (s : State) := s.on (timeSetRx link blocks)
/-- TEAM_DELAY_REQ_TX. -/
def execTeamDelayReqTx (s : State) := s.on teamDelayReqTx
/-- TEAM_DELAY_REQ_RX. -/
def execTeamDelayReqRx (link : Fin 16) (seq : Fin 16) (s : State) := s.on (teamDelayReqRx link seq)
/-- TEAM_DELAY_RSP_RX. -/
def execTeamDelayRspRx (link : Fin 16) (seq : Fin 16) (ns frac : Nat) (s : State) := s.on (teamDelayRspRx link seq ns frac)
/-- TEAM_STEP_APPLY. -/
def execTeamStepApply (n : Fin 2) (s : State) := s.on (teamStepApply n)

end Sys2Proof.Machine
end

