-- ==== Sys2Proof/Machine/Team.lean ====
section
/-! DEFINITION. The team (chapter 11, R411 to R416): forwarded accesses and the probe on the leader, what a node passes on, event
blocks, stream distribution. -/
namespace Sys2Proof.Machine

/-- Changes the team unit. -/
def Dev.onTeam (f : TeamUnit → TeamUnit) (d : Dev) : Dev := { d with team := f d.team }

/-- The bytes of CMD_REQ and CMD_RSP on a TEAM link, with the data block that follows (R368). -/
def teamReq (op seq target source offset data : Nat) : List RBlock :=
  ctrlBlock [(1, 0x87), (1, op + 16 * seq), (1, target), (1, source), (3, offset), (1, 0)] ++ dataBlocks (leBytes 8 data)
def teamRsp (status seq target source offset data : Nat) : List RBlock :=
  ctrlBlock [(1, 0x99), (1, status + 16 * seq), (1, target), (1, source), (3, offset), (1, 0)] ++ dataBlocks (leBytes 8 data)

/-- The TEAM links that are up. -/
def Dev.teamLinks (d : Dev) : List Nat := (List.range 16).filter (fun j => (d.linkEntry j).profile == 4 && d.linkUp j)

/-- TEAM_STATUS and TEAM_PRESENT follow the positions and the access in flight. -/
def Dev.teamSync (d : Dev) : Dev :=
  let here := (List.range 64).filter (fun p => d.flag (TEAM_POSp_PRESENT p))
  let word (k : Nat) : Nat := here.foldl (fun a p => if p / 32 = k then a + 2 ^ (p % 32) else a) 0
  (((d.put TEAM_PRESENT_LO_V (word 0)).put TEAM_PRESENT_HI_V (word 1)).put TEAM_STATUS_PRESENT here.length).putB TEAM_STATUS_BUSY
    d.team.flight.isSome

/-- The route of the leader to position `p`: its link while it is up. -/
def Dev.leaderRoute (d : Dev) (p : Nat) : Option Nat :=
  if d.flag (TEAM_POSp_PRESENT p) && d.teamLinks.contains (d.get (TEAM_POSp_LINK p)) then some (d.get (TEAM_POSp_LINK p)) else none

/-- What a read returns to the host; a write returns nothing. -/
def FwdAccess.answer (a : FwdAccess) (v : Nat) (d : Dev) : Dev :=
  if a.probe || a.data.isSome then d
  else d.send (.completion false (if a.len = 4 then [v] else ((leBytes 4 v).drop a.lo).take a.len |>.map (·.toNat)))

/-- The access in flight is over. -/
def Dev.landed (d : Dev) : Dev := d.onTeam (fun u => { u with flight := none })

/-- R413: a forwarded access ends with a result. -/
def Dev.fwdEnd (a : FwdAccess) (result v : Nat) (d : Dev) : Dev :=
  let word := result * 2 ^ 28 + b2n a.data.isSome * 2 ^ 26 + a.target * 2 ^ 20 + a.offset
  let d1 := (d.setWord TEAM_FWD_LAST word).teamSync
  let d2 := if 2 ≤ result then (d1.inc TEAM_FWD_TIMEOUT_COUNT_V).post clsTeam result 0xFF [word] else d1
  a.answer (if result = 0 then v else 0xFFFFFFFF) d2

/-- The CMD_REQ of an access leaves (R412): on its route, or a probe's on every TEAM link that is up. -/
def Dev.fwdSend (a : FwdAccess) (links : List Nat) (d : Dev) : Dev :=
  let x := { a with seq := d.team.seq, sentAt := (d.tb 3).total }
  let d1 := links.foldl (fun s j => s.linkStream j (teamReq (if a.data.isSome then 1 else 2) x.seq a.target 0 a.offset (a.data.getD 0))) d
  ((d1.onTeam (fun u => { u with flight := some x, seq := (u.seq + 1) % 16 })).inc TEAM_FWD_COUNT_V).teamSync

/-- An access starts, or ends with NO_TARGET at once (R413). -/
def Dev.fwdStart (a : FwdAccess) (d : Dev) : Dev :=
  match d.leaderRoute a.target with
  | some j => d.fwdSend a [j]
  | none => if a.probe then d.fwdSend a d.teamLinks else d.fwdEnd a 2 0

/-- The accesses that wait start while none is in flight. -/
def Dev.fwdNext (d : Dev) : Dev :=
  d.team.waiting.foldl (fun s a =>
    if s.team.flight.isSome then s
    else (s.onTeam (fun u => { u with waiting := u.waiting.drop 1 })).fwdStart a) d

/-- After a probe's read: the next position, or the end (R414). -/
def Dev.probeNext (p : Nat) (d : Dev) : Dev :=
  if p < 63 then d.fwdStart { target := p + 1, offset := 0, data := none, probe := true }
  else d.putB TEAM_STATUS_PROBING false

/-- A forwarded access is asked for on the leader; team access of a follower reads all ones and drops writes (R394). -/
def Dev.fwdAsk (target offset lo len : Nat) (data : Option Nat) (d : Dev) : Dev :=
  let a : FwdAccess := { target := target, offset := offset, lo := lo, len := len, data := data }
  if !d.isLeader then a.answer 0xFFFFFFFF d
  else if !d.flag TEAM_CTRL_ENABLE then d.fwdEnd a 2 0
  else if d.team.flight.isSome then d.onTeam (fun u => { u with waiting := u.waiting ++ [a] })
  else d.fwdStart a

/-- R416: may TEAM_DISTn take `v`? It names TEAM links, each with one stream in each direction. -/
def distOk (n v : Nat) (d : Dev) : Bool :=
  let team (j : Nat) : Bool := (d.linkEntry j).profile == 4
  let rx := bitOf v 31
  let others := (List.range 4).filter (· != n)
  (onesOf 16 v).all (fun j => team j && others.all (fun m => !bitOf (d.get (TEAM_DISTn_TX_MASK m)) j))
    && (!rx || (team (bitsOf v 24 4)
      && others.all (fun m => !(d.flag (TEAM_DISTn_RX_ENABLE m) && d.get (TEAM_DISTn_RX_LINK m) == bitsOf v 24 4))))

/-- A write of TEAM_CTRL: PROBE on the leader starts a probe, unless one runs (R414). -/
def teamCtrlWrite (v : Nat) (d : Dev) : Dev :=
  d.writeVia TEAM_CTRL v (fun _ => true) (fun s =>
    if !bitOf v 30 || !s.isLeader || s.flag TEAM_STATUS_PROBING then s
    else
      let s1 := s.putB TEAM_STATUS_PROBING true
      let a : FwdAccess := { target := 1, offset := 0, data := none, probe := true }
      if s1.team.flight.isSome then s1.onTeam (fun u => { u with waiting := a :: u.waiting }) else s1.fwdStart a)

/-- An access that ended gives way: to the probe's next position, else to those that wait. -/
def Dev.fwdDone (a : FwdAccess) (d : Dev) : Dev := (if a.probe then d.probeNext a.target else d).fwdNext

/-- TEAM_FORWARD_TIMEOUT: 50 µs without the CMD_RSP of the access in flight. -/
def fwdTimeout (d : Dev) : Dev :=
  match d.team.flight with
  | none => d
  | some a =>
    let d1 := if a.probe then d.put (TEAM_POSp_PRESENT a.target) 0 else d
    (d1.landed.fwdEnd a 3 0).fwdDone a

/-- The link on which a node passes something on to position `p`: its route, or every other TEAM link that is up (R412). -/
def Dev.passLinks (d : Dev) (p from' : Nat) : List Nat :=
  let up := d.teamLinks.filter (· != from')
  match cellFind d.team.routes p with
  | some j => if up.contains j then [j] else up
  | none => up

/-- A CMD_REQ that is not for this node goes on (R412). -/
def Dev.passReq (link op seq target source offset data : Nat) (d : Dev) : Dev :=
  let d1 := (d.passLinks target link).foldl (fun s j => s.linkStream j (teamReq op seq target source offset data)) d
  d1.onTeam (fun u => { u with returns := (target, source, seq, link) :: u.returns.filter (fun r => !(r.1 == target && r.2.1 == source && r.2.2.1 == seq)) })

/-- TEAM_CMD_RSP_RX on `link`: it ends the access in flight, or goes back toward its source; the route is learned. -/
def teamRspRx (link status seq target source offset data : Nat) (d : Dev) : Dev :=
  if !d.teamLinks.contains link then d
  else if source = d.position then
    match d.team.flight with
    | none => d
    | some a =>
      if a.target ≠ target ∨ a.seq ≠ seq ∨ a.offset ≠ offset then d
      else
        let rtt := min 65535 ((d.tb 3).total - a.sentAt)
        let d1 := ((d.put (TEAM_POSp_PRESENT target) 1).put (TEAM_POSp_LINK target) link).put (TEAM_POSp_RTT_NS target) rtt
        ((if status ≤ 1 then d1 else d).landed.fwdEnd a (min status 2) data).fwdDone a
  else
    let d1 := d.onTeam (fun u => { u with routes := cellPut u.routes target link })
    match d.team.returns.find? (fun r => r.1 == target && r.2.1 == source && r.2.2.1 == seq) with
    | some r => (d1.linkStream r.2.2.2 (teamRsp status seq target source offset data)).onTeam (fun u => { u with returns := u.returns.erase r })
    | none => d1

/-- The record that 32 bytes hold (R403). -/
def recOf (b : List Byte) : Rec :=
  let n (o k : Nat) : Nat := ofLE ((b.drop o).take k)
  { cls := n 2 1, code := n 4 2, inst := n 6 1, fault := bitOf (n 7 1) 0, nsc32 := n 8 4, sec := n 12 4,
    data := (List.range 4).map (fun k => n (16 + 4 * k) 4), fwd := true, pos := n 3 1 % 64 }

/-- TEAM_EVENT_RX: a follower passes it upstream; the leader posts it with FORWARDED (R415). -/
def teamEventRx (link source seq : Nat) (bytes : List Byte) (d : Dev) : Dev :=
  if !d.teamLinks.contains link then d
  else if !d.isLeader then
    let up := d.get TEAM_TIME_CTRL_UPSTREAM
    if d.teamLinks.contains up then d.linkStream up (eventBlock source seq bytes) else d
  else
    let gap := match cellFind d.evt.fwdSeq source with
      | some e => e != seq
      | none => false
    let d1 := if gap then d.putB TEAM_STATUS_EVT_GAP true else d
    let d2 : Dev := { d1 with evt := { d1.evt with fwdSeq := cellPut d1.evt.fwdSeq source ((seq + 1) % 256) } }
    (d2.inc TEAM_EVT_COUNT_V).ringPost { recOf bytes with pos := source % 64 }

/-- R416: a PIXEL_IN block of stream `n` goes onto the TEAM links of TX_MASK. -/
def Dev.distribute (n : Nat) (blocks : List RBlock) (d : Dev) : Dev :=
  foldS (onesOf 16 (d.get (TEAM_DISTn_TX_MASK n))) (fun j s => s.linkStream j blocks) d

/-! ### The commands of this file -/

def execTeamCmdRspRx (link status seq : Fin 16) (target source : Fin 64) (offset : Fin 1048576) (data : Word) (s : State) :=
  s.on (teamRspRx link status seq target source offset data.toNat)
def execTeamForwardTimeout (s : State) := s.on fwdTimeout
def execTeamEventRx (link : Fin 16) (source : Fin 64) (seq : Fin 256) (bytes : List Byte) (s : State) :=
  s.on (teamEventRx link source seq bytes)

end Sys2Proof.Machine
end

