-- ==== Sys2Proof/Machine/Test.lean ====
section
/-! DEFINITION. Boundary scan and test (chapter 19): the instructions of the test access port, the self-test, the girth test and the
snapshot. -/
namespace Sys2Proof.Machine

/-- Changes the test access port. -/
def Dev.onTap (f : TapUnit → TapUnit) (d : Dev) : Dev := { d with tap := f d.tap }

/-- The eight bits of Capture-IR (R580). -/
def Dev.tapCapture (d : Dev) : Nat :=
  let failed := bitsOf d.tap.mbist 43 4 != 0 || bitsOf d.tap.mbist 0 28 != 0
  1 + 4 * b2n d.tap.refused + 8 * b2n (bitOf d.tap.mbist 47) + 16 * b2n (bitOf d.tap.mbist 47 && failed)

/-- R582: may an intrusive instruction be accepted? -/
def Dev.tapOpen (d : Dev) : Bool := d.rung == 0 && allBelow 8 (fun h => d.panelState h == 0)

/-- The TAP leaves an intrusive instruction: as if TOP_RESET had been written; a reset that waited begins (R582). -/
def Dev.tapLeave (d : Dev) : Dev :=
  let last := if d.power.heldReset = 0 then 5 else min d.power.heldReset 5
  ((d.onTap (fun u => { u with running := false })).initEnter last false).put TOP_RESET_CAUSE_LAST 5

/-- Update-IR with instruction `code` (R580, R582). TEST_TAP_COUNT, whose meaning the spec does not give, takes a free value. -/
def Dev.tapLoad (code : Nat) (d : Dev) : Dev :=
  let was := d.halted
  let d1 := d.send (.jtagIr d.tapCapture)
  let refused := intrusive code && !d.tapOpen
  let d2 := d1.onTap (fun u => { u with ir := if refused then 0xFF else code, refused := refused, girth := none, state := 12 })
  let d3 := if was && !d2.halted then d2.tapLeave else d2
  let d4 := if refused then d3.inc TEST_REFUSED_COUNT_V else d3
  let d5 := (d4.put TEST_IR_CODE d4.tap.ir).putB TEST_IR_REFUSED refused
  (d5.put TEST_TAP_COUNT_V d5.free).drawn

/-- Does the port answer? In Walk, Stand and Stable it is held in Test-Logic-Reset (R547). -/
def Dev.tapLive (d : Dev) : Bool := decide (d.rung ≤ 2) || decide (6 ≤ d.rung)

/-- An instruction is loaded, and if it was accepted its data scan follows. -/
def Dev.tapRun (code : Nat) (f : Dev → Dev) (d : Dev) : Dev :=
  if !d.tapLive then d
  else
    let d1 := d.tapLoad code
    if d1.tap.ir = code then f d1 else d1

/-- TAP_RESET: TRST_N low or five TMS-high cycles. -/
def tapReset (d : Dev) : Dev :=
  if !d.tapLive then d
  else
    let was := d.halted
    let d1 := d.onTap (fun u => { u with ir := 1, refused := false, girth := none, state := 15 })
    let d2 := if was then d1.tapLeave else d1
    (d2.put TEST_IR_CODE 1).put TEST_IR_REFUSED 0

/-- The 1-bit bypass register: a 0 goes out before the bits that come in, `n` of them. -/
def bypassScan (n tdi : Nat) (d : Dev) : Dev := d.send (.jtag d.tap.ir (tdi * 2 % 2 ^ n))

/-- A scan of the boundary register: `pins` is captured and shifted out, `data` comes in (R580, R585). -/
def boundaryScan (pins data : Nat) (d : Dev) : Dev := (d.send (.jtag d.tap.ir pins)).onTap (fun u => { u with bsr := data })

/-- The pins follow the boundary cells. -/
def Dev.drives (d : Dev) : Dev := d.send (.cells d.tap.bsr)

/-- The data cells of the AC output pins (R584, R585): E0, E1, PCIe, LN18 to LN35, LN0 to LN17. -/
def acCells : List Nat :=
  [112, 116, 122, 126, 130, 134] ++ (List.range 18).map (fun k => 138 + 4 * k) ++ (List.range 18).map (fun k => 357 + 4 * k)

/-- The boundary cells with those of the AC outputs inverted. -/
def acFlipped (v : Nat) : Nat := acCells.foldl (fun a c => putBits a c 1 (1 - bitsOf v c 1)) v

/-- EXTEST: the cells drive the pins before and after the scan. -/
def extest (code pins data : Nat) (d : Dev) : Dev := d.tapRun code (fun s => (boundaryScan pins data s.drives).drives) 

/-- EXTEST_PULSE: one transition of the AC pins in Run-Test/Idle, and back (R584). -/
def extestPulse (pins data : Nat) (d : Dev) : Dev :=
  d.tapRun 4 (fun s =>
    let s1 := (boundaryScan pins data s.drives).drives
    (s1.send (.cells (acFlipped s1.tap.bsr))).drives)

/-- EXTEST_TRAIN: the AC pins toggle at each of `n` falling TCK edges in Run-Test/Idle (R584). -/
def extestTrain (pins data n : Nat) (d : Dev) : Dev :=
  d.tapRun 5 (fun s =>
    let s1 := (boundaryScan pins data s.drives).drives
    foldS (List.range n) (fun k t => t.send (.cells (if k % 2 = 0 then acFlipped t.tap.bsr else t.tap.bsr))) s1)

/-- HIGHZ: every output is high impedance; every bank switch is open (R583). -/
def highz (n tdi : Nat) (d : Dev) : Dev :=
  d.tapRun 7 (fun s => bypassScan n tdi (s.onPins (fun u => { u with level := List.replicate 48 .hiz })))

/-- R583, R548: the voltage code of PCTL bank `b`'s switch, where it is closed. Code 0 is VDD_IO18. -/
def Dev.bankSwitch (d : Dev) (b : Nat) : Option Nat :=
  if 3 ≤ d.tap.ir ∧ d.tap.ir ≤ 6 then some (match d.pins.lastVolts with | some l => nth 0 l b | none => 0)
  else if d.halted then none
  else if anyBelow 8 (fun k => nth false d.pins.mapped (8 * b + k)) then some (nth 0 d.tack.pinVolts b) else none

/-- MBIST_RUN: the march and the engines' BIST start (R587). -/
def mbistRun (d : Dev) : Dev := d.tapRun 0x20 (Dev.onTap (fun u => { u with mbist := 0, running := true }))

/-- MBIST_DONE: the failing rows of the scratchpad, the ledger, line/LUT and sequencer memory, and the failing engines. It maps no
spare and changes no farrier record. -/
def mbistDone (rows : List Nat) (engines : Nat) (d : Dev) : Dev :=
  if !(d.tap.ir == 0x20 && d.tap.running) then d
  else
    let r (k : Nat) : Nat := nth 0 rows k
    let flags := (List.range 4).foldl (fun a k => a + b2n (r k != 0) * 2 ^ k) 0
    let v := 2 ^ 47 + flags * 2 ^ 43 + min 2047 (r 0 + r 1 + r 2 + r 3) * 2 ^ 32 + engines % 2 ^ 28
    let d1 := d.onTap (fun u => { u with mbist := v, running := false })
    let d2 := foldS (List.range 4) (fun k s => s.put (TEST_ARRAY_FAILk_V k) (r k)) d1
    let d3 := foldS (List.range 28) (fun k s => s.bistCount k (!bitOf engines k)) d2
    ((d3.put TEST_MBIST_LO_RESULT_LO (v % 2 ^ 32)).put TEST_MBIST_HI_RESULT_HI (v / 2 ^ 32)).send (.jtag 0x20 v)

/-- GIRTH_TEST: VALID clears, and the loops are measured in turn (R588). -/
def girthTest (d : Dev) : Dev :=
  d.tapRun 0x21 (fun s => (foldS (List.range 4) (fun g t => t.put (TEST_GIRTHg_VALID g) 0) s).onTap (fun u => { u with girth := some 0 }))

/-- The 100 bits of the girth register (R588). -/
def Dev.girthReg (d : Dev) : Nat := (List.range 4).foldl (fun a g => a + d.word (TEST_GIRTHg g) % 2 ^ 25 * 2 ^ (25 * g)) 0

/-- GIRTH_TEST_LOOP_DONE: loop `g` measured `mohm` (0xFFFFFF open) with `mv` of force; open without VBIAS_IN. After the last loop
the register is shifted out. -/
def girthLoopDone (g mohm mv : Nat) (vbias : Bool) (d : Dev) : Dev :=
  if d.tap.girth ≠ some g then d
  else
    let m := if vbias then min mohm 0xFFFFFF else 0xFFFFFF
    let d1 := ((d.put (TEST_GIRTHg_MOHM g) m).put (TEST_GIRTHg_VALID g) 1).put (TEST_GIRTHg_FORCE_MV_V g) mv
    let d2 := d1.onTap (fun u => { u with girth := if g < 3 then some (g + 1) else none })
    if g < 3 then d2 else d2.send (.jtag 0x21 d2.girthReg)

/-- A write of TEST_CTRL: SNAP captures the boundary register (R589). -/
def testSnapWrite (v pins : Nat) (d : Dev) : Dev :=
  d.writeVia TEST_CTRL v (fun _ => true) (fun s =>
    if v ≠ 1 then s
    else (foldS (List.range 14) (fun k t => t.put (TEST_BSR_SNAPk_V k) (bitsOf pins (32 * k) 32)) s).put TEST_SNAP_TIME_V (s.nsc32 0))

/-! ### The commands of this file -/

def execTapReset (s : State) := s.always tapReset
def execJtagBypass (n : Nat) (tdi : Nat) (s : State) := s.always (fun d => d.tapRun 0xFF (bypassScan n tdi))
def execJtagIdcode (s : State) := s.always (fun d => d.tapRun 1 (fun t => t.send (.jtag 1 0x296409AB)))
def execSamplePreload (pins data : BitVec 431) (s : State) := s.always (fun d => d.tapRun 2 (boundaryScan pins.toNat data.toNat))
def execExtest (pins data : BitVec 431) (s : State) := s.always (extest 3 pins.toNat data.toNat)
def execExtestPulse (pins data : BitVec 431) (s : State) := s.always (extestPulse pins.toNat data.toNat)
def execExtestTrain (pins data : BitVec 431) (n : Nat) (s : State) := s.always (extestTrain pins.toNat data.toNat n)
def execClamp (n : Nat) (tdi : Nat) (s : State) := s.always (fun d => d.tapRun 6 (fun t => bypassScan n tdi t.drives))
def execHighz (n : Nat) (tdi : Nat) (s : State) := s.always (highz n tdi)
def execMbistRun (s : State) := s.always mbistRun
def execMbistDone (rows : List Nat) (engines : BitVec 28) (s : State) := s.always (mbistDone rows engines.toNat)
def execGirthTest (s : State) := s.always girthTest
def execGirthTestLoopDone (g : Fin 4) (mohm mv : Nat) (vbias : Bool) (s : State) := s.on (girthLoopDone g mohm mv vbias)
/-- LEAVE_INTRUSIVE: an instruction that is not intrusive is loaded in place of an intrusive one. -/
def execLeaveIntrusive (s : State) := s.always (fun d => if d.halted then d.tapLoad 0xFF else d)

end Sys2Proof.Machine
end

