-- ==== Sys2Proof/Machine/HostWrite.lean ====
section
/-! DEFINITION. A write of any register by the host, the SPI target, a forwarded access or a record of DEFAULT_TABLES: which
effect of the chapters it has (R3 to R6, R35, R266), and FAR_APPROVE. -/
namespace Sys2Proof.Machine

/-! ### FAR_APPROVE (R497) -/

/-- A released request whose window is now starts at once: a lane (R387), an element, a sensor, an engine of a head that does not scan
(R200). The others wait for the windows of R495. -/
def Dev.farWindow (q : FarRequest) (d : Dev) : Dev :=
  match q.cls with
  | 0 => match d.engineHead q.inst with
    | some h => d.subNow h
    | none => d
  | 1 => d.laneWindow (q.inst / 16)
  | 5 => d.swapApproved q
  | 6 => d.sensorsNow
  | _ => d

/-- The request of entry k is released; a post-package repair waits for Walk (R449). -/
def Dev.farApprove (k : Nat) (d : Dev) : Dev :=
  let q := d.askRequest k
  let d1 := d.askClear k
  if q.cls = 4 then
    { d1.put MEM_SPARE_STATUS_PPR_PENDING (d1.memu.pprQueue.length + 1) with
      memu := { d1.memu with pprQueue := d1.memu.pprQueue ++ [q.inst] } }
  else Dev.farWindow q { d1 with far := { d1.far with queue := d1.far.queue ++ [q] } }

/-- A write of FAR_APPROVE. -/
def farApproveWrite (v : Nat) (d : Dev) : Dev := d.writeVia FAR_APPROVE v (fun s => s.askValid v) (Dev.farApprove v)

/-! ### Event enables (R591) -/

/-- The event registers of a block: enable, status, class of the records. -/
def evtRegs (k : Nat) : Nat × Nat × Nat :=
  nth (TIME_EVT_ENABLE, TIME_EVT_STATUS, clsTime)
    [(TIME_EVT_ENABLE, TIME_EVT_STATUS, clsTime), (MIP_EVT_ENABLE, MIP_EVT_STATUS, clsMip),
     (HAR_EVT_ENABLE, HAR_EVT_STATUS, clsHarness), (MEM_EVT_ENABLE, MEM_EVT_STATUS, clsMem),
     (CE_EVT_ENABLE, CE_EVT_STATUS, clsDma), (CAL_EVT_ENABLE, CAL_EVT_STATUS, clsCal),
     (FAR_EVT_ENABLE, FAR_EVT_STATUS, clsFarrier), (POWER_EVT_ENABLE, POWER_EVT_STATUS, clsPower)] k

/-- A write of the `k`th enable register. -/
def enableWrite (k v : Nat) (d : Dev) : Dev :=
  let (en, st, cls) := evtRegs k
  if d.judged || d.writeOk en v then d.enableWritten st en cls v else d.reject en

/-! ### Writes by block -/

/-- A write with no effect beyond the access types (R3). -/
def plainWrite (r v : Nat) (d : Dev) : Dev := d.writeVia r v (fun _ => true) id

/-- A write that has a condition of its own and no further effect. -/
def guardedWrite (r v : Nat) (ok : Dev → Bool) (d : Dev) : Dev := d.writeVia r v ok id

/-- TB: the registers of time base `n` (R122). -/
def tbRegWrite (n off r v : Nat) (d : Dev) : Dev :=
  match off with
  | 0x00 => tbCtrlWrite n v d
  | 0x08 => guardedWrite r v (fun s => s.get (TBn_STATUS_STATE n) == 0 || s.get (TBn_STATUS_STATE n) == 3) d
  | 0x10 => tbLatch n v d
  | 0x28 => d.writeVia r v (fun _ => true) (Dev.setReturned n)
  | 0x34 => stepCtrlWrite n v d
  | _ => plainWrite r v d

/-- TIME block (R122 to R138). A write of PTP_CTRL that makes the type ORDINARY while both ports are enabled is taken, and both stay enabled
(assumption 79). -/
def timeWrite (r v : Nat) (d : Dev) : Dev :=
  if r < 0x4400 then tbRegWrite ((r - 0x4000) / 0x100) (r % 0x100) r v d
  else if r < 0x4600 then (if r % 0x20 = 0x14 then capPop ((r - 0x4400) / 0x20) v d else plainWrite r v d)
  else if r = TC_CTRL then tcCtrlWrite v d
  else if r = SYNCIN_ENABLE then syncInEnableWrite v d
  else if r = PPSOUT_WIDTH then ppsWidthWrite v d
  else if r = SYNCOUT_CTRL then guardedWrite r v (fun _ => syncOutOk (bitsOf v 28 3) (bitsOf v 24 4)) d
  else if r = TIME_EVT_ENABLE then enableWrite 0 v d
  else if 0x4700 ≤ r ∧ r ≤ 0x4720 then d.writeVia r v (fun _ => true) Dev.bmca
  else if r = PTPp_CTRL 0 ∨ r = PTPp_CTRL 1 then
    let p := (r - 0x4800) / 0x200
    d.writeVia r v (ptpCtrlOk p v) (ptpCtrlWritten p (d.flag (PTPp_CTRL_ENABLE p)))
  else if r = TEAM_NODE_ID then teamNodeWrite v d
  else if r = TEAM_TIME_CTRL then
    d.writeVia r v (fun s => (onesOf 16 v).all (fun j => (s.linkEntry j).profile == 4)
      && (bitsOf v 24 5 == 31 || (s.linkEntry (bitsOf v 24 5)).profile == 4)) (Dev.teamTimeWritten (d.get TEAM_TIME_CTRL_UPSTREAM))
  else plainWrite r v d

/-- SCHED block (R139 to R142). -/
def schedWrite (r v : Nat) (d : Dev) : Dev :=
  if r < 0x7000 then
    let m := (r - 0x6000) / 0x10
    match r % 0x10 with
    | 0x0 => triggerWrite m v d
    | 0x4 => whenWrite m v d
    | 0x8 => actionWrite m v d
    | 0xC => markCtrlWrite m v d
    | _ => plainWrite r v d
  else if r = SCHED_DISARM_ALL then disarmAllWrite v d
  else plainWrite r v d

/-- R169: line lock needs a raster head fed by the stream it names. -/
def lineLockOk (h v : Nat) (d : Dev) : Bool :=
  !bitOf v 31 || (d.isRaster h && (d.head h).sect.source == bitsOf v 28 2)

/-- INPUT block (R164 to R170). -/
def inputWrite (r v : Nat) (d : Dev) : Dev :=
  if r < 0x8400 then
    let n := (r - 0x8000) / 0x100
    match r % 0x100 with
    | 0x00 => inCtrlWrite n v d
    | 0x04 => guardedWrite r v (inSizeOk n v) d
    | 0x08 => guardedWrite r v (inFbBaseOk n v) d
    | 0x10 => d.writeVia r v (tpgCtrlOk n v) (Dev.tpgCtrlWritten n)
    | _ => plainWrite r v d
  else if r < 0x8500 ∧ r % 0x20 = 0 then guardedWrite r v (lineLockOk ((r - 0x8400) / 0x20) v) d
  else guardedWrite r v (Dev.fabricWriteOk r v) d

/-- HEADS block: register `off` of head `h` (R288, R328). -/
def headRegWrite (h off r v : Nat) (d : Dev) : Dev :=
  match off with
  | 0x00 => headCtrlWrite h v d
  | 0x04 => headResetWrite h v d
  | 0x0C => headCommitWrite h v d
  | 0x70 => stallCtrlWrite h v d
  | 0xA0 => qPushWrite h v d
  | 0xA8 => qFlushWrite h v d
  | 0xD0 => recPopWrite h v d
  | 0x300 => guardedWrite r v (fun s => !s.isMip h && decide (bitsOf v 28 4 < (s.headLinks h).length)) d
  | 0x308 => cmdGoWrite h v d
  | 0x103C => refreshGoWrite h v d
  | _ =>
    if off < 0x40 then plainWrite r v d
    else if off < 0x1000 then guardedWrite r v (fun s => !s.isMip h) d
    else guardedWrite r v (fun s => !s.isRaster h || off == 0x1048 || off == 0x104C) d

/-- MIP block (R330 to R334). A bitmap word written through SPI in Stand changes what the island shows at its next render
(R326). -/
def mipRegWrite (r v : Nat) (d : Dev) : Dev :=
  if r < 0x30080 ∧ r % 0x20 = 0 then comCtrlWrite ((r - 0x30000) / 0x20) v d
  else if r < 0x30080 ∧ r % 0x20 = 4 then comRowsWrite ((r - 0x30000) / 0x20) v d
  else if r = MIP_WT_SRC_LO then wtSrcWrite v d
  else if r = MIP_HALT_POS then haltPosWrite v d
  else if r = MIP_WT_LOAD then wtLoadWrite v d
  else if r = MIP_EVT_ENABLE then enableWrite 1 v d
  else if r = MIP_GIRTH_MAP then girthMapWrite v d
  else if r = MIP_HALT_CTRL then haltCtrlWrite v d
  else if r = MIP_HALT_BATTERY then guardedWrite r v (fun _ => haltBatteryOk v) d
  else if r = MIP_HALT_BMP_DATA then bmpDataWrite v d
  else plainWrite r v d

/-- HARNESS block (R335 to R358). -/
def harnessWrite (r v : Nat) (d : Dev) : Dev :=
  if r = HAR_EVT_ENABLE then enableWrite 2 v d
  else if r = HAR_THERM_CTRL then thermCtrlWrite v d
  else if r = HAR_PUMP_CTRL then pumpCtrlWrite v d
  else if r = HAR_DISCH_GO then harDischWrite v d
  else if r = HAR_PCTL_DISCHk 1 then guardedWrite r v (fun _ => decide (v < 65536)) d
  else if r = HAR_GMA_FS_MV then gmaFsWrite v d
  else if r = HAR_VCOMR_CTRL then vcomrCtrlWrite v d
  else if r = HAR_VCOMR_CODE then vcomrCodeWrite v d
  else if 0x38100 ≤ r ∧ r < 0x38300 ∧ r % 0x80 < 0x18 ∧ r % 4 = 0 then biasWrite (6 * ((r - 0x38100) / 0x80) + r % 0x80 / 4) v d
  else if 0x38400 ≤ r ∧ r < 0x38520 ∧ r % 0x10 = 0 then gmaCtrlWrite ((r - 0x38400) / 0x10) v d
  else if 0x38600 ≤ r ∧ r < 0x38640 ∧ r % 8 = 0 then panelCtrlWrite ((r - 0x38600) / 8) v d
  else if 0x38700 ≤ r ∧ r < 0x38740 ∧ r % 0x10 = 0 then girthCtrlWrite ((r - 0x38700) / 0x10) v d
  else plainWrite r v d

/-- LANES and LINKS blocks (R382, R389). -/
def laneRegWrite (r v : Nat) (d : Dev) : Dev :=
  if r < 0x49000 then
    let n := (r - 0x40000) / 0x400
    match r % 0x400 with
    | 0x00 => lnCtrlWrite n v d
    | 0x2C => eyeCtrlWrite n v d
    | 0x40 => testCtrlWrite n v d
    | _ => plainWrite r v d
  else if 0x50000 ≤ r ∧ r < 0x50400 then
    let j := (r - 0x50000) / 0x40
    if r % 0x40 = 0 then lkCtrlWrite j v d else d.writeVia r v (fun s => s.linkState j != 0) id
  else plainWrite r v d

/-- NET block (R423 to R425). -/
def netWrite (r v : Nat) (d : Dev) : Dev :=
  if 0x58400 ≤ r ∧ r < 0x58500 then
    let q := (r - 0x58400) / 0x20
    match r % 0x20 with
    | 0x00 => nqCtrlWrite q v d
    | 0x18 => nqTailWrite q v d
    | _ => plainWrite r v d
  else if 0x58A00 ≤ r ∧ r < 0x58C00 ∧ r % 0x40 = 0 then tsCtrlWrite ((r - 0x58A00) / 0x40) v d
  else plainWrite r v d

/-- HOST block (R401, R416). -/
def hostBlockWrite (r v : Nat) (d : Dev) : Dev :=
  if 0x60100 ≤ r ∧ r < 0x60300 then
    let c := (r - 0x60100) / 0x40
    match r % 0x40 with
    | 0x00 => dmaCtrlWrite c v d
    | 0x08 => dmaRingWrite c r v d
    | 0x0C => dmaRingWrite c r v d
    | 0x10 => dmaRingWrite c r v d
    | 0x14 => dmaTailWrite c v d
    | _ => plainWrite r v d
  else if r = TEAM_CTRL then teamCtrlWrite v d
  else if 0x60420 ≤ r ∧ r < 0x60430 then guardedWrite r v (distOk ((r - 0x60420) / 4) v) d
  else plainWrite r v d

/-- MEM block (R450 to R452). A register record of DEFAULT_TABLES hands a bank over whoever owns it (R433). -/
def memRegWrite (seq : Bool) (r v : Nat) (d : Dev) : Dev :=
  if r = MEM_EVT_ENABLE then enableWrite 3 v d
  else if r = MEM_ATOM_OP then atomWrite v {} d
  else if 0x68100 ≤ r ∧ r < 0x68300 ∧ r % 0x20 = 0 then
    sbOwnerWrite ((r - 0x68100) / 0x20) (if seq then putBits v 31 1 1 else v) d
  else if r = MEM_MARCH_CTRL then marchCtrlWrite v d
  else plainWrite r v d

/-- CE block (R477, R478). -/
def ceWrite (r v : Nat) (d : Dev) : Dev :=
  if r = CE_CTRL then ceCtrlWrite v d
  else if r = CE_EVT_ENABLE then enableWrite 4 v d
  else if r = CE_TABLE_CTRL then ceTableCtrlWrite v d
  else if 0x70100 ≤ r ∧ r < 0x70200 then
    let q := (r - 0x70100) / 0x40
    match r % 0x40 with
    | 0x00 => ceqCtrlWrite q v d
    | 0x08 => ceRingWrite q r v d
    | 0x0C => ceRingWrite q r v d
    | 0x10 => ceRingWrite q r v d
    | 0x14 => ceTailWrite q v d
    | _ => plainWrite r v d
  else plainWrite r v d

/-- CAL and FARRIER blocks (R505 to R508). -/
def calFarWrite (r v : Nat) (d : Dev) : Dev :=
  if r = CAL_REQUEST then calRequestWrite v d
  else if r = CAL_EVT_ENABLE then enableWrite 5 v d
  else if r = CAL_STORE_CTRL then calStoreWrite v d
  else if r = FAR_EVT_ENABLE then enableWrite 6 v d
  else if r = FAR_APPROVE then farApproveWrite v d
  else if r = FAR_DECLINE then farDeclineWrite v d
  else plainWrite r v d

/-- R524: the five thresholds descend strictly. -/
def shedDescends (k v : Nat) (d : Dev) : Bool :=
  let t (j : Nat) : Nat := if j = k then v else d.get (POWER_SHED_THRESHk_V j)
  allBelow 4 (fun j => decide (t (j + 1) < t j))

/-- POWER and TEST blocks (R530 to R532, R589). -/
def powerTestWrite (pins r v : Nat) (d : Dev) : Dev :=
  if r = POWER_RUNG_CTRL then rungCtrlWrite v d
  else if r = POWER_SHED_REENABLE then reenableWrite v d
  else if r = POWER_EVT_ENABLE then enableWrite 7 v d
  else if 0x80050 ≤ r ∧ r ≤ 0x80060 then guardedWrite r v (shedDescends ((r - 0x80050) / 4) v) d
  else if r = TEST_CTRL then testSnapWrite v pins d
  else plainWrite r v d

/-- TOP, TACK and EVT blocks (R31, R70 to R76, R408). -/
def topWrite (r v : Nat) (d : Dev) : Dev :=
  if r = TOP_RESET then topResetWrite v d
  else if r = TACK_CONTROL then tackControlWrite v d
  else if r = TACK_PUSH_ADDR_LO ∨ r = TACK_PUSH_ADDR_HI ∨ r = TACK_PUSH_LENGTH then pushRegWrite r v d
  else if r = TACK_PUSH_GO then pushGoWrite v d
  else if r = TACK_RT_CONTROL then rtControlWrite v d
  else if r = TACK_RT_ADDR_LO ∨ r = TACK_RT_ADDR_HI ∨ r = TACK_RT_LENGTH then rtRegWrite r v d
  else if r = EVT_CTRL then evtCtrlWrite v d
  else if r = EVT_CONS then evtConsWrite v d
  else if r = EVT_INJECT then evtInject v d
  else if r = EVT_FLOG_CLEAR then evtFlogClear v d
  else plainWrite r v d

/-- The write by the block that holds the register (R534). -/
def blockWrite (seq : Bool) (pins r v : Nat) (d : Dev) : Dev :=
  if r < 0x04000 then topWrite r v d
  else if r < 0x06000 then timeWrite r v d
  else if r < 0x08000 then schedWrite r v d
  else if r < 0x10000 then inputWrite r v d
  else if r < 0x20000 then guardedWrite r v (Dev.fabricWriteOk r v) d
  else if r < 0x30000 then headRegWrite ((r - 0x20000) / 0x2000) (r % 0x2000) r v d
  else if r < 0x38000 then mipRegWrite r v d
  else if r < 0x40000 then harnessWrite r v d
  else if r < 0x58000 then laneRegWrite r v d
  else if r < 0x60000 then netWrite r v d
  else if r < 0x68000 then hostBlockWrite r v d
  else if r < 0x70000 then memRegWrite seq r v d
  else if r < 0x78000 then ceWrite r v d
  else if r < 0x80000 then calFarWrite r v d
  else powerTestWrite pins r v d

/-- R266: is `r` a register of a head's set that is sealed? -/
def Dev.sealedHead (d : Dev) (r : Nat) : Option Nat :=
  match headOf r with
  | some h => if d.flag (HDn_SHADOW_STATE_V h) && isRws r then some h else none
  | none => none

/-- A write of the word `v` to register `r`. `seq` tells that the sequencer makes it, for a record of DEFAULT_TABLES; `pins`
holds the pins' levels for a capture of the boundary register (R589). A register of a sealed set rejects it (R266). -/
def hostWrite (seq : Bool) (pins r v : Nat) (d : Dev) : Dev :=
  match d.sealedHead r with
  | some h =>
    if d.regWritable r then
      let d1 := d.reject r
      d1.inc (HDn_SEAL_REJECT_COUNT_V h)
    else d.reject r
  | none => blockWrite seq pins r v d

end Sys2Proof.Machine
end

