-- ==== Sys2Proof/Machine/Read.lean ====
section
/-! DEFINITION. A read of any register: the stored word, or what a live register shows now (R3, R6, R16, R394). -/
namespace Sys2Proof.Machine

/-- Word `k` of a list of bytes, little-endian; 0 past its end. -/
def wordAt (l : List Byte) (k : Nat) : Nat := ofLE ((l.drop (4 * k)).take 4)

/-- The bits of a word by a test of each. -/
def wordOf (f : Nat → Bool) : Nat := (List.range 32).foldl (fun a j => a + b2n (f j) * 2 ^ j) 0

/-- What a measured register of `w` bits shows; one of the harness die while its control link runs. -/
def Dev.measure (d : Dev) (r w : Nat) : Nat := Config.measured r (d.tb 3).total % 2 ^ w
def Dev.harMeasure (d : Dev) (r w : Nat) : Nat := if d.flag HAR_STATUS_LINK_UP then d.measure r w else 0

/-- The foreign master `m` of port `p` as FMm shows it (R107, R122). -/
def Dev.foreignWord (d : Dev) (p m k : Nat) : Nat :=
  match (d.ptpPort p).foreign[m]? with
  | none => 0
  | some f =>
    let a := f.announce
    nth 0 [a.senderId / 2 ^ 32 % 2 ^ 32, a.senderId % 2 ^ 32, a.senderPort % 2 ^ 16, a.priority1 % 256, a.priority2 % 256,
      a.quality % 2 ^ 32, a.steps % 2 ^ 16, a.seen % 2 ^ 32] k

/-- Live registers of the TIME block. -/
def Dev.timeRead (d : Dev) (r : Nat) : Nat :=
  if r < 0x4400 then
    let n := (r - 0x4000) / 0x100
    match r % 0x100 with
    | 0x0C => d.nsc32 n
    | 0x40 => if d.get (TBn_STATUS_STATE n) = 3 then ((d.tb 3).total - (d.tb n).holdAt) / 1000000000 % 2 ^ 32 else 0
    | _ => d.word r
  else if r < 0x4600 then
    let c := (r - 0x4400) / 0x20
    let s := (d.cap c).headD {}
    match r % 0x20 with
    | 0x08 => s.sec % 2 ^ 32
    | 0x0C => s.ns
    | 0x10 => s.frac
    | _ => d.word r
  else if r = TC_LABEL then
    let code := d.get TC_CTRL_RATE
    (labelAt (d.tb 1).total code).word (code == 3)
  else if r = TC_COUNT then frameCount (d.tb 1).total (d.get TC_CTRL_RATE) % 2 ^ 32
  else if 0x4900 ≤ r ∧ r < 0x4C00 ∧ 0x100 ≤ r % 0x200 then d.foreignWord ((r - 0x4800) / 0x200) (r % 0x100 / 0x20) (r % 0x20 / 4)
  else d.word r

/-- Live registers of the SCHED and INPUT blocks. -/
def Dev.schedInputRead (d : Dev) (r : Nat) : Nat :=
  if r = SCHED_STATUS then (List.range 256).countP (fun m => d.flag (Mm_CTRL_ARM m))
  else if 0x7020 ≤ r ∧ r < 0x7040 then d.armedWord ((r - 0x7020) / 4)
  else if 0x8000 ≤ r ∧ r < 0x8400 then
    let n := (r - 0x8000) / 0x100
    match r % 0x100 with
    | 0x18 => putBits (d.word r) 24 5 ((d.streamLink n).getD 31)
    | 0x28 => d.frameBytes n
    | _ => d.word r
  else if 0x8400 ≤ r ∧ r < 0x8500 ∧ r % 0x20 = 8 then
    let h := (r - 0x8400) / 0x20
    if d.isRaster h then min 24000 (Config.pipeNs h) else 0
  else d.word r

/-- Live registers of head `h`. -/
def Dev.headRead (d : Dev) (h off r : Nat) : Nat :=
  if d.isMip h then
    if 0x1100 ≤ off ∧ off < 0x1180 then d.wfInfo h ((off - 0x1100) / 4)
    else match off with
      | 0x101C => putBits (d.word r) 27 1 (b2n (d.cracked h))
      | 0x1050 => d.pushLoad h % 2 ^ 24
      | 0x1054 => d.capAt h (d.app (HDn_MIP_CTRL_FREQ h)) % 2 ^ 24
      | _ => d.word r
  else
    let rec' := (d.head h).records.head?
    match off with
    | 0xA4 => putBits (d.word r) 0 5 (d.head h).queue.length
    | 0xC0 => match rec' with | some x => 2 ^ 31 + x.frame % 2 ^ 16 | none => 0
    | 0xC4 => match rec' with | some x => x.time % 2 ^ 32 | none => 0
    | 0xC8 => match rec' with | some x => x.flags % 2 ^ 32 | none => 0
    | 0xCC => match rec' with | some x => x.tag % 2 ^ 16 | none => 0
    | 0xE0 => (d.headLinks h).foldl (fun a j => a + b2n (d.linkUp j) * 2 ^ j) 0
    | _ => d.word r

/-- Live registers of the MIP and HARNESS blocks. -/
def Dev.panelRead (d : Dev) (r : Nat) : Nat :=
  if r < 0x30080 ∧ r % 0x20 = 0x10 then min (2 ^ 32 - 1) (d.openMs ((r - 0x30000) / 0x20))
  else if r = MIP_HALT_BMP_DATA then d.bmpWord
  else if r = HAR_PUMP_VPOS_MV ∨ r = HAR_PUMP_VNEG_MV ∨ r = HAR_VCOMR_MV ∨ r = HAR_VBIAS_MV then d.harMeasure r 16
  else if r = HAR_VCOMR_IOUT then d.harMeasure r 32
  else if r = HAR_HOLD_STATUS then putBits (d.word r) 30 1 (d.harMeasure r 1)
  else if r = HAR_DISCH_STATUS ∧ d.flag HAR_DISCH_STATUS_ACTIVE = true then
    putBits (d.word r) 0 16 (min 65535 (((d.tb 3).total - d.harn.dischAt) / 1000))
  else if 0x38100 ≤ r ∧ r < 0x38300 then
    let off := r % 0x80
    if off = 0x18 then putBits (d.word r) 0 6 (d.slewing ((r - 0x38100) / 0x80))
    else if off = 0x1C then d.harMeasure r 32
    else if 0x40 ≤ off ∧ off < 0x58 then d.harMeasure r 16
    else d.word r
  else if 0x38400 ≤ r ∧ r < 0x38520 ∧ r % 0x10 = 8 then d.harMeasure r 16
  else d.word r

/-- Live registers of the MEM and CE blocks. -/
def Dev.memRead (d : Dev) (r : Nat) : Nat :=
  if r = MEM_DRAM_STATUS then
    let up := decide (8 ≤ d.get TOP_STATUS_INIT_STEP)
    let trained := up && !(d.mode == 7 && d.get TOP_STATUS_SAFE_CAUSE == 6)
    let w := putBits (putBits (d.word r) 31 1 (b2n trained)) 30 1 (b2n (d.rung == 2 || d.rung == 3))
    putBits w 0 8 (if trained then 0xFF else if up then d.measure r 8 else 0)
  else if r = MEM_STATUS then
    let w := putBits (d.word r) 30 1 (b2n (d.flag MEM_STATUS_GROOM_SRAM && d.flag MEM_GROOM_CTRL_SRAM_EN))
    putBits w 29 1 (b2n (d.flag MEM_STATUS_GROOM_DRAM && d.flag MEM_GROOM_CTRL_DRAM_EN))
  else if 0x68600 ≤ r ∧ r < 0x68800 ∧ r % 8 = 4 then
    let k := (r - 0x68600) / 8
    if d.flag (MEM_CLOGk_INFO_VALID k) then putBits (d.word r) 8 5 (min (d.clogAge k) 24) else d.word r
  else if 0x68A40 ≤ r ∧ r < 0x68A80 then
    wordOf (fun j => d.granuleSet (d.get MEM_INITMAP_SEL_V * 512 + 32 * ((r - 0x68A40) / 4) + j))
  else if 0x68B00 ≤ r ∧ r < 0x68B80 ∧ r % 0x10 = 0x0C then
    (if 8 ≤ d.get TOP_STATUS_INIT_STEP then d.measure r 6 else 0)
  else if r = CE_STATUS then
    let runs (dec : Bool) : Bool := anyBelow 4 (fun q => d.get (CEq_STATUS_STATE q) == 2 && (d.ceDesc q).encodes != dec)
    let heldJobs := anyBelow 4 (fun q => d.get (CEq_STATUS_STATE q) == 5)
    let w := putBits (putBits (putBits (d.word r) 31 1 (b2n (runs false))) 30 1 (b2n (runs true))) 29 1 (b2n heldJobs)
    putBits (putBits w 24 3 (if runs false then 5 else 7)) 20 3 (if runs true then 6 else 7)
  else if 0x70080 ≤ r ∧ r < 0x70090 then crc32 (tableBytes (builtInTable ((r - 0x70080) / 4)))
  else if 0x700A0 ≤ r ∧ r < 0x700C0 then Config.measured r (d.tb 3).total % 1001
  else d.word r

/-- Live registers of the CAL and FARRIER blocks. -/
def Dev.calFarRead (d : Dev) (r : Nat) : Nat :=
  if 0x78030 ≤ r ∧ r < 0x7803C then
    let k := (r - 0x78030) / 4
    wordOf (fun j => decide (32 * k + j < 88) && d.get (CAL_ITEMi_STATE (32 * k + j)) == 1)
  else if r = FAR_STATUS then
    putBits (d.word r) 31 1 (b2n (d.engines.sub.isSome
      || anyBelow 16 (fun j => d.get (LKj_STATUS_SPARE_STATE j) == 1 || d.get (LKj_STATUS_SPARE_STATE j) == 2)))
  else if 0x7C0C0 ≤ r ∧ r < 0x7C0E0 then
    match d.far.log[d.get FAR_LOG_SEL_V]? with
    | some (seq, l) => wordAt (l.bytes seq) ((r - 0x7C0C0) / 4)
    | none => 0
  else d.word r

/-- Live registers of the POWER, TOP and EVT blocks. -/
def Dev.topRead (d : Dev) (r : Nat) : Nat :=
  let now := (d.tb 3).total
  if r = TOP_UPTIME_S then (d.tb 3).sec % 2 ^ 32
  else if r = TOP_ROSC_KHZ ∨ r = POWER_MW then d.measure r 32
  else if (r = POWER_VSYS_MV ∨ r = POWER_VSYS_MIN_MV) ∧ d.word r = 0 then d.measure r 16
  else if 0x80100 ≤ r ∧ r < 0x80134 ∧ bitOf (d.get POWER_RAIL_STATUS_V) ((r - 0x80100) / 4) = true then d.measure r 16
  else if 0x50 ≤ r ∧ r < 0x60 then Config.uid ((r - 0x50) / 4) % 2 ^ 32
  else if 0xA0 ≤ r ∧ r < 0xC0 ∧ (r - 0xA0) / 4 = d.mode then min (2 ^ 32 - 1) (d.word r + (now - d.power.modeAt) / 1000000000)
  else if 0x80160 ≤ r ∧ r < 0x80178 ∧ (r - 0x80160) / 4 = d.rung then
    min (2 ^ 32 - 1) (d.word r + (now - d.power.rungAt) / 1000000000)
  else if 0x2100 ≤ r ∧ r < 0x2200 then
    let k := (r - 0x2100) / 4
    match d.evt.flog[d.get EVT_FLOG_SEL_V + k / 8]? with
    | some b => wordAt b (k % 8)
    | none => 0
  else d.word r

/-- R177, R237: is `r` a register of a stage type that its head's chain does not hold? It reads its reset value. -/
def Dev.stageAbsent (d : Dev) (r : Nat) : Bool :=
  let h := r % 0x800 / 0x100
  if 0x11000 ≤ r ∧ r < 0x11800 then match stageOfReg (r % 0x100) with
    | some 7 => decide ((d.chain h).countP (fun e => e.kind == 7) ≤ (r % 0x100 - 0x80) / 0x20)
    | some k => !d.has h k
    | none => false
  else if 0x14000 ≤ r ∧ r < 0x14800 then (corrStageOfReg (r % 0x100)).any (fun k => !d.has h k)
  else false

/-- The word that register `r` holds or shows now, by its block. -/
def Dev.show (d : Dev) (r : Nat) : Nat :=
  if r % 4 ≠ 0 then 0
  else if (specOf r).isNone then 0
  else if r < 0x04000 then d.topRead r
  else if r < 0x06000 then d.timeRead r
  else if r < 0x10000 then d.schedInputRead r
  else if d.stageAbsent r then (resetWord r).toNat
  else if 0x11000 ≤ r ∧ r < 0x11800 ∧ r % 0x100 = 4 then putBits (d.word r) 0 5 (d.chain ((r - 0x11000) / 0x100)).length
  else if 0x20000 ≤ r ∧ r < 0x30000 then d.headRead ((r - 0x20000) / 0x2000) (r % 0x2000) r
  else if 0x30000 ≤ r ∧ r < 0x40000 then d.panelRead r
  else if 0x68000 ≤ r ∧ r < 0x78000 then d.memRead r
  else if 0x78000 ≤ r ∧ r < 0x80000 then d.calFarRead r
  else if 0x80000 ≤ r ∧ r < 0x90000 then d.topRead r
  else if r = TEST_STATUS then d.tap.state
  else if r = TEST_IR then d.tap.ir + 2 ^ 31 * b2n d.tap.refused
  else d.word r

/-- A read of register `r`: 0 from an unassigned offset (R6) and from a block that R16 does not open (R394). A read of
MIP_HALT_BMP_DATA moves its address on (R330). -/
def Dev.readReg (r : Nat) (d : Dev) : Nat × Dev :=
  if !d.regOpen r then (0, d)
  else (d.show r, if r = MIP_HALT_BMP_DATA then d.bmpNext else d)

end Sys2Proof.Machine
end

