-- ==== Sys2Proof/Machine/Access.lean ====
section
/-! DEFINITION. How the host, the SPI target and the team reach registers and memory (chapter 11, R393 to R395, R409 to R413,
R435), and the accesses that wait for the end of a rung (R514). -/
namespace Sys2Proof.Machine

/-! ### Accesses that wait for the end of a rung (R514) -/

/-- Is rung `t` in force, being entered or being left? -/
def Dev.about (d : Dev) (t : Nat) : Bool :=
  d.rung == t || (d.rung == 6 && d.get POWER_RUNG_STATUS_TARGET == t) || (d.rung == 7 && d.get POWER_RUNG_STATUS_LAST_FROM == t)

/-- An access is a HOST wake event and waits for the exit. -/
def Dev.holdAccess (q : HostReq) (d : Dev) : Dev := (d.wake 2).onPower (fun u => { u with held := u.held ++ [q] })

/-- What a PCIe request does: nothing in OFF, where only the SPI target reaches registers (R16); in Walk it wakes the device and is
completed after the exit. -/
def Dev.pcie (q : HostReq) (f : Dev → Dev) (d : Dev) : Dev := if d.mode = 0 then d else if d.about 3 then d.holdAccess q else f d

/-! ### Reads and writes by device address (R395, R535) -/

/-- The bytes of register words from offset `r` up to `r + n`, each word read once (R394). -/
def Dev.readRegs (r n : Nat) (d : Dev) : List Nat × Dev :=
  (List.range ((r + n + 3) / 4 - r / 4)).foldl (fun (x : List Nat × Dev) k =>
    let (v, s) := x.2.readReg (4 * (r / 4 + k))
    (x.1 ++ [v], s)) ([], d)

/-- Register words written from offset `r` up; a write that does not cover whole words is rejected (R394). -/
def Dev.writeRegs (r : Nat) (bytes : List Byte) (d : Dev) : Dev :=
  if r % 4 ≠ 0 ∨ bytes.length % 4 ≠ 0 then d.reject (r / 4 * 4)
  else foldS (List.range (bytes.length / 4)) (fun k s => hostWrite false 0 (r + 4 * k) (wordAt bytes k) s) d

/-- A completion of the `n` bytes from offset `r` up of the register words in `l`: whole words, or the bytes covered (R394). -/
def Dev.regAnswer (r n : Nat) (l : List Nat) (d : Dev) : Dev :=
  d.send (.completion false (if r % 4 = 0 ∧ n % 4 = 0 then l else ((l.flatMap (leBytes 4)).drop (r % 4)).take n |>.map (·.toNat)))

/-- Where this model numbers the bytes of BAR4 and of the configuration space: above the 40-bit space. -/
def bar4Base : Nat := 2 ^ 41
def cfgBase : Nat := 2 ^ 42

/-- A host read of `n` bytes at device address `a` (R395): words of registers, or bytes of memory. -/
def Dev.busRead (a n : Nat) (x : HostReads) (d : Dev) : Dev :=
  if cfgBase ≤ a then d.send (.completion false ((List.range n).map (fun k => (d.cfgByte (a - cfgBase + k)).toNat)))
  else if bar4Base ≤ a then d.send (.completion false ((List.range n).map (fun k => (d.bar4Byte (a - bar4Base + k)).toNat)))
  else match regionOf a with
  | .ownRegs =>
    let (l, s) := d.readRegs (a - 0x7F00000000) n
    s.regAnswer (a - 0x7F00000000) n l
  | .teamView =>
    let p := (a - 0x7E00000000) / 0x100000
    let r := (a - 0x7E00000000) % 0x100000
    if p = 0 then
      let (l, s) := d.readRegs r n
      s.regAnswer r n l
    else d.fwdAsk p (r / 4 * 4) (r % 4) n none
  | .unassigned | .seqMem => d.hostRead a n x
  | _ => if d.mode < 3 then d.send (.completion false (List.replicate n 0)) else (d.hostRead a n x).ledgerMended

/-- A host write at device address `a` (R395, R435). A write to a waveform table buffer is dropped (R303). -/
def Dev.busWrite (a : Nat) (bytes : List Byte) (errs : List (Nat × Ecc)) (portA : List (Nat × Byte)) (d : Dev) : Dev :=
  if cfgBase ≤ a then bytes.zipIdx.foldl (fun s (b, k) => s.cfgWrite (a - cfgBase + k) b) d
  else if bar4Base ≤ a then bytes.zipIdx.foldl (fun s (b, k) => s.bar4Write (a - bar4Base + k) b) d
  else match regionOf a with
  | .ownRegs => d.writeRegs (a - 0x7F00000000) bytes
  | .teamView =>
    let p := (a - 0x7E00000000) / 0x100000
    let r := (a - 0x7E00000000) % 0x100000
    if p = 0 then d.writeRegs r bytes
    else if r % 4 ≠ 0 ∨ bytes.length ≠ 4 then (if d.isLeader then d.reject (r / 4 * 4) else d)
    else d.fwdAsk p r 0 4 (some (ofLE bytes))
  | .unassigned | .seqMem => d.hostWriteMem a bytes [] []
  | _ =>
    if d.mode < 3 then d
    else
      let (stored, s) := d.waveKept a bytes
      s.hostWriteMem a stored errs portA

/-- R393: the device address of an offset in BAR2. -/
def Dev.bar2 (d : Dev) (o : Nat) : Nat := d.get HOST_BAR2_BASE_V * 2 ^ 28 + o

/-- The address of a host access: BAR4 has 8 KiB, the configuration space 4 KiB. -/
def Dev.hostAddr (d : Dev) (x : HostAddr) : Nat :=
  match x.space with
  | .bar2 => d.bar2 x.offset.toNat
  | .bar4 => bar4Base + x.offset.toNat % 8192
  | .config => cfgBase + x.offset.toNat % 4096

/-- A host read through PCI Express; in Trot an access to DRAM waits, as any request does in Walk (R514). -/
def hostMemoryRead (a n : Nat) (x : HostReads) (d : Dev) : Dev :=
  if d.mode = 0 ∨ n = 0 then d
  else if d.about 3 || (d.about 2 && regionOf a == .dram) then d.holdAccess (.memRead a n)
  else d.busRead a n x

/-- A host write through PCI Express. -/
def hostMemoryWrite (a : Nat) (bytes : List Byte) (errs : List (Nat × Ecc)) (portA : List (Nat × Byte)) (d : Dev) : Dev :=
  if d.mode = 0 ∨ bytes = [] then d
  else if d.about 3 || (d.about 2 && regionOf a == .dram) then d.holdAccess (.memWrite a bytes)
  else d.busWrite a bytes errs portA

/-- The host writes a register through BAR0 window 0; `whole` tells whether the byte enables cover the word. -/
def registerWrite (r v : Nat) (whole : Bool) (d : Dev) : Dev :=
  if whole then d.pcie (.reg r v) (hostWrite false 0 r v) else d.pcie (.memWrite (0x7F00000000 + r / 4 * 4) [0]) (Dev.reject (r / 4 * 4))

/-- The accesses that waited are completed after the exit, in order. -/
def Dev.heldPerform (d : Dev) : Dev :=
  d.power.held.foldl (fun s q => match q with
    | .reg r v => hostWrite false 0 r v s
    | .memWrite a bytes => s.busWrite a bytes [] []
    | .memRead a n => s.busRead a n {}) (d.onPower (fun u => { u with held := [] }))

/-- RUNG_EXIT_COMPLETE: the exit, then what waited for it. -/
def rungExitAll (bad : List Nat) (d : Dev) : Dev := if d.rung = 7 then (rungExitComplete bad d).heldPerform else d

/-! ### The team (R411 to R413, R536) -/

/-- Does register `r` reject a write of `v` (R5)? -/
def Dev.rejects (d : Dev) (r v : Nat) : Bool := !(d.sealedHead r).isNone || (hostWrite false 0 r v (d.put TOP_REJECT_COUNT_V 0)).get TOP_REJECT_COUNT_V == 1

/-- An access through window `p` of BAR0: window 0 is the device's own register space. -/
def teamRead (p offset n : Nat) (d : Dev) : Dev :=
  if d.mode = 0 then d
  else if d.about 3 then d.holdAccess (.memRead (0x7E00000000 + p * 0x100000 + offset) n)
  else d.busRead (0x7E00000000 + p * 0x100000 + offset) n {}
def teamWrite (p offset v : Nat) (d : Dev) : Dev :=
  if d.mode = 0 then d
  else if d.about 3 then d.holdAccess (.memWrite (0x7E00000000 + p * 0x100000 + offset) (leBytes 4 v))
  else d.busWrite (0x7E00000000 + p * 0x100000 + offset) (leBytes 4 v) [] []

/-- TEAM_CMD_REQ_RX on `link`: performed and answered where this node is the target, else passed on. -/
def cmdReqRx (link op seq target source offset data : Nat) (d : Dev) : Dev :=
  if !d.teamLinks.contains link then d
  else if target = d.position then
    let answer (s : Dev) (status v : Nat) : Dev := s.linkStream link (teamRsp status seq target source offset v)
    match op with
    | 1 => answer (hostWrite false 0 offset data d) (b2n (d.rejects offset data)) data
    | 2 =>
      let (v, s) := d.readReg offset
      if d.regOpen offset then answer s 0 v else answer d 1 0xFFFFFFFF
    | _ => d
  else d.passReq link op seq target source offset data

/-! ### The SPI target (R409, R410) -/

/-- Does the SPI target reach only the always-on island: in OFF (R410), and in Walk, whose main logic is off? -/
def Dev.islandOnly (d : Dev) : Bool := d.mode == 0 || d.about 3

/-- May the SPI target be used: SPI_CTRL.ENABLE? -/
def Dev.spiOn (d : Dev) : Bool := d.mode == 0 || d.flag SPI_CTRL_V

/-- The island's registers: those that only a power-on reset resets (R519). -/
def islandReg (a : Nat) : Bool := regionOf a == .ownRegs && isPorOnly (a - 0x7F00000000)

/-- Does a write through SPI change what the halter area shows, so that the island renders it (R326)? -/
def halterReg (r : Nat) : Bool := decide (0x30200 ≤ r ∧ r < 0x30600)

/-- One word that SPI WRITE writes. In TACK it writes the staging area too (R54). -/
def Dev.spiWord (a v : Nat) (d : Dev) : Dev :=
  if regionOf a = .teamView then d
  else if d.islandOnly then (if islandReg a then hostWrite false 0 (a - 0x7F00000000) v d else d)
  else if d.mode = 2 ∧ 0x1DBC00000 ≤ a ∧ a < 0x1DC000000 then d.agentWrite 0 a (leBytes 4 v)
  else d.busWrite a (leBytes 4 v) [] []

/-- SPI_WRITE: whole words from an address up; a partial word is discarded. In Stand a write of the halter registers has the area
rendered (R326). -/
def spiWrite (a : Nat) (bytes : List Byte) (d : Dev) : Dev :=
  if !d.spiOn then d
  else
    let n := bytes.length / 4
    let d1 := foldS (List.range n) (fun k s => s.spiWord (a + 4 * k) (wordAt bytes k)) (d.put SPI_STATUS_LAST_OP 2)
    if d1.halterOn && anyBelow n (fun k => islandReg (a + 4 * k) && halterReg (a + 4 * k - 0x7F00000000)) then d1.haltRender else d1

/-- What SPI READ returns of the word at `a`: all ones where it reaches nothing, and, LATE, where the memory makes it wait. -/
def Dev.spiFetch (a : Nat) (errs : List (Nat × Ecc)) (d : Dev) : Nat × Dev :=
  match regionOf a with
  | .ownRegs => if d.islandOnly && !islandReg a then (0xFFFFFFFF, d) else d.readReg (a - 0x7F00000000)
  | .teamView => (0xFFFFFFFF, d)
  | .unassigned | .seqMem => (0xFFFFFFFF, d)
  | _ =>
    if d.islandOnly then (0xFFFFFFFF, d)
    else if d.mode < 3 then (0, d)
    else
      match d.hostFetch a 4 { errs := errs } with
      | (.ok (_, l), s) => (ofLE l, s.ledgerMended)
      | (.error _, s) => (0xFFFFFFFF, s.put SPI_STATUS_LATE 1)

/-- SPI_READ of `n` words; `late` names those that were not fetched in time. -/
def spiRead (a n : Nat) (late : List Nat) (errs : List (Nat × Ecc)) (d : Dev) : Dev :=
  if !d.spiOn then d
  else
    let (l, s) := (List.range n).foldl (fun (x : List Nat × Dev) k =>
      if late.contains k then (x.1 ++ [0xFFFFFFFF], x.2.put SPI_STATUS_LATE 1)
      else
        let (v, t) := x.2.spiFetch (a + 4 * k) errs
        (x.1 ++ [v], t)) ([], d.put SPI_STATUS_LAST_OP 0x0B)
    s.send (.spi l)

/-- SPI_STATUS: the mode and the error flags. -/
def spiStatus (d : Dev) : Dev :=
  if !d.spiOn then d
  else (d.send (.spi [d.mode + 8 * d.get SPI_STATUS_LATE + 16 * d.get SPI_STATUS_BAD_OP])).put SPI_STATUS_LAST_OP 5

/-- SPI_WAKE. -/
def spiWake (d : Dev) : Dev := if !d.spiOn then d else Dev.wake 1 (if d.mode = 0 then d else d.put SPI_STATUS_LAST_OP 0xAB)

/-- SPI_BAD_OPCODE. -/
def spiBadOpcode (op : Nat) (d : Dev) : Dev :=
  if !d.spiOn || d.mode == 0 then d else ((d.put SPI_STATUS_BAD_OP 1).inc SPI_ERR_COUNT_V).put SPI_STATUS_LAST_OP op

/-! ### The commands of this file -/

/-- REGISTER_WRITE. -/
def execRegisterWrite (r : Fin 1048576) (v : Word) (whole : Bool) (s : State) := s.on (registerWrite r v.toNat whole)
/-- EVT_STATUS_ENABLE_WRITE: one of the event enable registers (R591). -/
def execEvtStatusEnableWrite (which : Fin 8) (v : Word) (s : State) :=
  s.on (Dev.pcie (.reg (evtRegs which).1 v.toNat) (enableWrite which v.toNat))
/-- FAR_APPROVE. -/
def execFarApprove (k : Fin 16) (s : State) := s.on (Dev.pcie (.reg FAR_APPROVE k) (farApproveWrite k))
/-- HOST_MEMORY_READ of `n` bytes at an offset in BAR2, BAR4 or the configuration space. -/
def execHostMemoryRead (o : HostAddr) (n : Nat) (x : HostReads) (s : State) :=
  s.on (fun d => hostMemoryRead (d.hostAddr o) n x d)
/-- HOST_MEMORY_WRITE at such an offset. -/
def execHostMemoryWrite (o : HostAddr) (bytes : List Byte) (errs : List (Nat × Ecc)) (portA : List (Nat × Byte)) (s : State) :=
  s.on (fun d => hostMemoryWrite (d.hostAddr o) bytes errs portA d)
/-- TEAM_FORWARDED_READ. -/
def execTeamForwardedRead (p : Fin 64) (o : RegBytes) (s : State) :=
  s.on (teamRead p o.offset (min (o.last + 1) (4 - o.offset % 4)))
/-- TEAM_FORWARDED_WRITE. -/
def execTeamForwardedWrite (p : Fin 64) (offset : Fin 1048576) (v : Word) (s : State) := s.on (teamWrite p offset v.toNat)
/-- TEAM_CMD_REQ_RX. -/
def execTeamCmdReqRx (link op seq : Fin 16) (target source : Fin 64) (offset : Fin 1048576) (data : Word) (s : State) :=
  s.on (cmdReqRx link op seq target source offset data.toNat)
/-- SPI_WRITE. -/
def execSpiWrite (a : BitVec 40) (bytes : List Byte) (s : State) := s.on (spiWrite a.toNat bytes)
/-- SPI_READ. -/
def execSpiRead (a : BitVec 40) (n : Nat) (late : List Nat) (errs : List (Nat × Ecc)) (s : State) := s.on (spiRead a.toNat n late errs)
/-- SPI_STATUS. -/
def execSpiStatus (s : State) := s.on spiStatus
/-- SPI_WAKE. -/
def execSpiWake (s : State) := s.on spiWake
/-- SPI_BAD_OPCODE. -/
def execSpiBadOpcode (op : Fin 256) (s : State) := s.on (spiBadOpcode op)
/-- RUNG_EXIT_COMPLETE. -/
def execRungExitComplete (bad : List Nat) (s : State) := s.on (rungExitAll bad)

end Sys2Proof.Machine
end

