-- ==== Sys2Proof/Machine/Camera.lean ====
section
/-! DEFINITION. The blocks of an input stream as they arrive (R145) and as the team passes them on (R416). An operand `mbz` holds
the fields that R145 marks 0, lowest byte first. -/
namespace Sys2Proof.Machine

/-- A block of stream `n` arrives: it goes onto the TEAM links of TX_MASK (R416), and the stream takes it. -/
def Dev.blockIn (n : Nat) (blocks : List RBlock) (f : Dev → Dev) (d : Dev) : Dev := if d.fromLink n then f (d.distribute n blocks) else d

/-- A FRAME_MARK block (R145). -/
def frameMark (kind mbz frame height : Nat) : List RBlock :=
  ctrlBlock [(1, 0x66), (1, kind + 16 * (mbz % 16)), (2, frame), (2, height), (2, mbz / 16)]

/-- STREAM_FRAME_START; `kind` above 0 stands for the reserved KIND `kind + 3` (R149). -/
def execStreamFrameStart (n : Fin 4) (kind : Fin 13) (mbz : Fin 1048576) (frame height : Fin 65536) (s : State) :=
  s.on (Dev.blockIn n (frameMark (if kind.val = 0 then 0 else kind + 3) mbz frame height)
    (frameStartRx n frame height (kind.val == 0 && mbz.val == 0)))
/-- STREAM_FRAME_END. -/
def execStreamFrameEnd (n : Fin 4) (mbz : Fin 1048576) (height frame : Fin 65536) (s : State) :=
  s.on (Dev.blockIn n (frameMark 1 mbz frame height) (frameEndRx n frame (mbz.val == 0 && height.val == 0)))
/-- STREAM_EXPOSURE_START. -/
def execStreamExposureStart (n : Fin 4) (mbz : Fin 1048576) (height frame : Fin 65536) (s : State) :=
  s.on (Dev.blockIn n (frameMark 2 mbz frame height) (streamExposureStart n frame (mbz.val == 0 && height.val == 0)))
/-- STREAM_EXPOSURE_END. -/
def execStreamExposureEnd (n : Fin 4) (mbz : Fin 1048576) (height frame : Fin 65536) (s : State) :=
  s.on (Dev.blockIn n (frameMark 3 mbz frame height) (streamExposureEnd n frame (mbz.val == 0 && height.val == 0)))
/-- STREAM_LINE_START. -/
def execStreamLineStart (n : Fin 4) (format mbz : Fin 16) (frame line width : Fin 65536) (s : State) :=
  s.on (Dev.blockIn n (ctrlBlock [(1, 0x4B), (1, format + 16 * mbz), (2, frame), (2, line), (2, width)])
    (streamLineStart n format frame line width (mbz.val == 0)))
/-- STREAM_DATA_BLOCK: the 8 payload bytes, payload byte 0 in bits 7 to 0. -/
def execStreamDataBlock (n : Fin 4) (payload : BitVec 64) (s : State) :=
  s.on (Dev.blockIn n (dataBlocks (leBytes 8 payload.toNat)) (streamDataBlock n (leBytes 8 payload.toNat)))
/-- STREAM_LINE_END. -/
def execStreamLineEnd (n : Fin 4) (mbz : Fin 16777216) (crc line : Fin 65536) (s : State) :=
  s.on (Dev.blockIn n (ctrlBlock [(1, 0x55), (1, mbz % 256), (2, crc), (2, line), (2, mbz / 256)])
    (streamLineEnd n crc line (mbz.val == 0)))

end Sys2Proof.Machine
end

