-- ==== Sys2Proof/Machine/HostRows.lean ====
section
/-! DEFINITION. The commands that are one write of one register by the host. In Walk such a write is a PCIe request, which wakes
the device and is completed after the exit (R514). -/
namespace Sys2Proof.Machine

/-! ### Cal -/

/-- CAL_REQUEST_ITEM. -/
def execCalRequestItem (i : Fin 256) (s : State) := s.on (Dev.pcie (.reg CAL_REQUEST i) (calRequestWrite i))

/-- CAL_REQUEST_ALL. -/
def execCalRequestAll (i : Fin 256) (s : State) := s.on (Dev.pcie (.reg CAL_REQUEST (2 ^ 31 + i)) (calRequestWrite (2 ^ 31 + i)))

/-- CAL_STORE_GO. -/
def execCalStoreGo (s : State) := s.on (Dev.pcie (.reg CAL_STORE_CTRL (2 ^ 31)) (calStoreWrite (2 ^ 31)))

/-- FAR_DECLINE. -/
def execFarDecline (k : Fin 16) (s : State) := s.on (Dev.pcie (.reg FAR_DECLINE k) (farDeclineWrite k))

/-! ### Ce -/

/-- CE_TABLE_LOAD: CE_TABLE_CTRL with GO set. -/
def execCeTableLoad (slot : Fin 8) (s : State) := s.on (Dev.pcie (.reg CE_TABLE_CTRL (2 ^ 31 + slot)) (ceTableCtrlWrite (2 ^ 31 + slot)))

/-- CE_QUEUE_ENABLE: CEq_CTRL with ENABLE set. -/
def execCeQueueEnable (q : Fin 4) (s : State) := s.on (Dev.pcie (.reg (CEq_CTRL q) (2 ^ 31)) (ceqCtrlWrite q (2 ^ 31)))

/-- CE_QUEUE_DISABLE: CEq_CTRL with ENABLE clear. -/
def execCeQueueDisable (q : Fin 4) (s : State) := s.on (Dev.pcie (.reg (CEq_CTRL q) 0) (ceqCtrlWrite q 0))

/-- CE_QUEUE_GO. -/
def execCeQueueGo (q : Fin 4) (s : State) := s.on (Dev.pcie (.reg (CEq_CTRL q) (2 ^ 31 + 2 ^ 30)) (ceqCtrlWrite q (2 ^ 31 + 2 ^ 30)))

/-- CE_QUEUE_RESTART. -/
def execCeQueueRestart (q : Fin 4) (s : State) := s.on (Dev.pcie (.reg (CEq_CTRL q) (2 ^ 31 + 2 ^ 29)) (ceqCtrlWrite q (2 ^ 31 + 2 ^ 29)))

/-- CE_QUEUE_ABORT. -/
def execCeQueueAbort (q : Fin 4) (s : State) := s.on (Dev.pcie (.reg (CEq_CTRL q) (2 ^ 31 + 2 ^ 28)) (ceqCtrlWrite q (2 ^ 31 + 2 ^ 28)))

/-- CE_TAIL_WRITE. -/
def execCeTailWrite (q : Fin 4) (v : Word) (s : State) := s.on (Dev.pcie (.reg (CEq_TAIL q) v.toNat) (ceTailWrite q v.toNat))

/-! ### Column -/

/-- HEAD_CMD_WRITE: HDn_CMD_GO with OP WRITE. -/
def execHeadCmdWrite (h : Fin 8) (s : State) := s.on (fun d => if d.get (HDn_CMD_CTRL_OP h) = 1 then Dev.pcie (.reg (HDn_CMD_GO h) 1) (cmdGoWrite h 1) d else d)

/-- HEAD_CMD_READ: HDn_CMD_GO with OP READ. -/
def execHeadCmdRead (h : Fin 8) (s : State) := s.on (fun d => if d.get (HDn_CMD_CTRL_OP h) = 2 then Dev.pcie (.reg (HDn_CMD_GO h) 1) (cmdGoWrite h 1) d else d)

/-! ### Dma -/

/-- DMA_ENABLE: DMAc_CTRL with ENABLE set. -/
def execDmaEnable (c : Fin 8) (s : State) := s.on (Dev.pcie (.reg (DMAc_CTRL c) (2 ^ 31)) (dmaCtrlWrite c (2 ^ 31)))

/-- DMA_DISABLE: DMAc_CTRL with ENABLE clear. -/
def execDmaDisable (c : Fin 8) (s : State) := s.on (Dev.pcie (.reg (DMAc_CTRL c) 0) (dmaCtrlWrite c 0))

/-- DMA_GO. -/
def execDmaGo (c : Fin 8) (s : State) := s.on (Dev.pcie (.reg (DMAc_CTRL c) (2 ^ 31 + 2 ^ 30)) (dmaCtrlWrite c (2 ^ 31 + 2 ^ 30)))

/-- DMA_RESTART. -/
def execDmaRestart (c : Fin 8) (s : State) := s.on (Dev.pcie (.reg (DMAc_CTRL c) (2 ^ 31 + 2 ^ 29)) (dmaCtrlWrite c (2 ^ 31 + 2 ^ 29)))

/-- DMA_ABORT. -/
def execDmaAbort (c : Fin 8) (s : State) := s.on (Dev.pcie (.reg (DMAc_CTRL c) (2 ^ 31 + 2 ^ 28)) (dmaCtrlWrite c (2 ^ 31 + 2 ^ 28)))

/-- DMA_TAIL_WRITE, with the host memory that the host has written. -/
def execDmaTailWrite (c : Fin 8) (v : Word) (host : List Host.Cell) (s : State) := s.on (fun d => Dev.pcie (.reg (DMAc_TAIL c) v.toNat) (dmaTailWrite c v.toNat) (d.given host))

/-- EVT_ENABLE: EVT_CTRL with ENABLE set. -/
def execEvtEnable (bank : Fin 16) (s : State) := s.on (Dev.pcie (.reg EVT_CTRL (2 ^ 31 + bank)) (evtCtrlWrite (2 ^ 31 + bank)))

/-- EVT_CONS_WRITE. -/
def execEvtConsWrite (v : Word) (s : State) := s.on (Dev.pcie (.reg EVT_CONS v.toNat) (evtConsWrite v.toNat))

/-- EVT_INJECT. -/
def execEvtInject (v : Word) (s : State) := s.on (Dev.pcie (.reg EVT_INJECT v.toNat) (evtInject v.toNat))

/-- EVT_FLOG_CLEAR. -/
def execEvtFlogClear (v : Word) (s : State) := s.on (Dev.pcie (.reg EVT_FLOG_CLEAR v.toNat) (evtFlogClear v.toNat))

/-! ### Lanes -/

/-- RELUNGE: a write of LKj_CTRL with RELUNGE set. -/
def execRelunge (j : Fin 16) (v : Word) (s : State) := s.on (fun d => if bitOf v.toNat 31 then Dev.pcie (.reg (LKj_CTRL j) v.toNat) (lkCtrlWrite j v.toNat) d else d)

/-- SPARE_GO: a write of LKj_CTRL with SPARE_GO set and RELUNGE clear. -/
def execSpareGo (j : Fin 16) (v : Word) (s : State) :=
  s.on (fun d => if bitOf v.toNat 30 && !bitOf v.toNat 31 then Dev.pcie (.reg (LKj_CTRL j) v.toNat) (lkCtrlWrite j v.toNat) d else d)

/-- EYE_SCAN_GO: a write of LNn_EYE_CTRL with GO set. -/
def execEyeScanGo (n : Fin 36) (v : Word) (s : State) := s.on (fun d => if bitOf v.toNat 31 then Dev.pcie (.reg (LNn_EYE_CTRL n) v.toNat) (eyeCtrlWrite n v.toNat) d else d)

/-- TEST_INJECT: a write of LNn_TEST_CTRL with INJECT set. -/
def execTestInject (n : Fin 36) (v : Word) (s : State) := s.on (fun d => if bitOf v.toNat 27 then Dev.pcie (.reg (LNn_TEST_CTRL n) v.toNat) (testCtrlWrite n v.toNat) d else d)

/-! ### Mem -/

/-- SB_HANDOVER_REQUEST. -/
def execSbHandoverRequest (n : Fin 16) (v : Word) (s : State) := s.on (Dev.pcie (.reg (SBn_OWNER n) v.toNat) (sbOwnerWrite n v.toNat))

/-- MEM_ATOM_ADD32. -/
def execMemAtomAdd32 (x : AtomMeets) (s : State) := s.on (Dev.pcie (.reg MEM_ATOM_OP 0) (atomWrite 0 x))

/-- MEM_ATOM_ADD64. -/
def execMemAtomAdd64 (x : AtomMeets) (s : State) := s.on (Dev.pcie (.reg MEM_ATOM_OP 1) (atomWrite 1 x))

/-- MEM_ATOM_SWAP32. -/
def execMemAtomSwap32 (x : AtomMeets) (s : State) := s.on (Dev.pcie (.reg MEM_ATOM_OP 2) (atomWrite 2 x))

/-- MEM_ATOM_SWAP64. -/
def execMemAtomSwap64 (x : AtomMeets) (s : State) := s.on (Dev.pcie (.reg MEM_ATOM_OP 3) (atomWrite 3 x))

/-- MARCH_P_GO. -/
def execMarchPGo (bank : Fin 16) (background : Bool) (s : State) :=
  s.on (Dev.pcie (.reg MEM_MARCH_CTRL (2 ^ 31 + b2n background * 2 ^ 29 + bank)) (marchCtrlWrite (2 ^ 31 + b2n background * 2 ^ 29 + bank)))

/-- MARCH_P_ABORT. -/
def execMarchPAbort (bank : Fin 16) (background : Bool) (s : State) :=
  s.on (Dev.pcie (.reg MEM_MARCH_CTRL (2 ^ 30 + b2n background * 2 ^ 29 + bank)) (marchCtrlWrite (2 ^ 30 + b2n background * 2 ^ 29 + bank)))

/-! ### Mip -/

/-- MIP_RUN: RUN = 1 written to a MIP head. -/
def execMipRun (h : Fin 8) (s : State) := s.on (fun d => if d.isMip h then Dev.pcie (.reg (HDn_CTRL h) 1) (headCtrlWrite h 1) d else d)

/-- MIP_STOP: RUN = 0 written to a MIP head. -/
def execMipStop (h : Fin 8) (s : State) := s.on (fun d => if d.isMip h then Dev.pcie (.reg (HDn_CTRL h) 0) (headCtrlWrite h 0) d else d)

/-- HEAD_RUN: RUN = 1 written to a head that is not a MIP head. -/
def execHeadRun (h : Fin 8) (s : State) := s.on (fun d => if d.isMip h then d else Dev.pcie (.reg (HDn_CTRL h) 1) (headCtrlWrite h 1) d)

/-- HEAD_STOP: RUN = 0 written to a head that is not a MIP head. -/
def execHeadStop (h : Fin 8) (s : State) := s.on (fun d => if d.isMip h then d else Dev.pcie (.reg (HDn_CTRL h) 0) (headCtrlWrite h 0) d)

/-- MIP_REFRESH_GO. -/
def execMipRefreshGo (h : Fin 8) (s : State) := s.on (Dev.pcie (.reg (HDn_MIP_REFRESH_GO h) 1) (refreshGoWrite h 1))

/-- MIP_WT_LOAD. -/
def execMipWtLoad (h : Fin 8) (buffer : Fin 2) (s : State) := s.on (Dev.pcie (.reg MIP_WT_LOAD (2 ^ 31 + 256 * buffer + h)) (wtLoadWrite (2 ^ 31 + 256 * buffer + h)))

/-! ### Net -/

/-- NET_QUEUE_TAIL_WRITE. -/
def execNetQueueTailWrite (q : Fin 8) (v : Word) (s : State) := s.on (Dev.pcie (.reg (NQq_TAIL q) v.toNat) (nqTailWrite q v.toNat))

/-! ### Panel -/

/-- PANEL_POWER_ON: a write of PANELh_CTRL with POWER set. -/
def execPanelPowerOn (h : Fin 8) (s : State) := s.on (Dev.pcie (.reg (PANELh_CTRL h) 1) (panelCtrlWrite h 1))

/-- PANEL_POWER_OFF: a write of PANELh_CTRL with POWER clear. -/
def execPanelPowerOff (h : Fin 8) (s : State) := s.on (Dev.pcie (.reg (PANELh_CTRL h) 0) (panelCtrlWrite h 0))

/-- HAR_DISCH_GO. -/
def execHarDischGo (v : Word) (s : State) := s.on (Dev.pcie (.reg HAR_DISCH_GO v.toNat) (harDischWrite v.toNat))

/-- GIRTH_REBASE: a write of GIRTHg_CTRL with REBASE set. -/
def execGirthRebase (g : Fin 4) (rise : Fin 256) (confirm : Fin 16) (s : State) :=
  s.on (Dev.pcie (.reg (GIRTHg_CTRL g) (2 ^ 31 + rise * 256 + confirm)) (girthCtrlWrite g (2 ^ 31 + rise * 256 + confirm)))

/-! ### Power -/

def execPerHeadReset (h : Fin 8) (s : State) := s.on (Dev.pcie (.reg (HDn_RESET h) 1) (headResetWrite h 1))

def execRungRequestGallop (s : State) := s.on (Dev.pcie (.reg POWER_RUNG_CTRL (2 ^ 31)) (rungCtrlWrite (2 ^ 31)))

def execRungRequestCanter (s : State) := s.on (Dev.pcie (.reg POWER_RUNG_CTRL (2 ^ 31 + 1)) (rungCtrlWrite (2 ^ 31 + 1)))

def execRungRequestTrot (s : State) := s.on (Dev.pcie (.reg POWER_RUNG_CTRL (2 ^ 31 + 2)) (rungCtrlWrite (2 ^ 31 + 2)))

def execRungRequestWalk (s : State) := s.on (Dev.pcie (.reg POWER_RUNG_CTRL (2 ^ 31 + 3)) (rungCtrlWrite (2 ^ 31 + 3)))

def execRungRequestStand (s : State) := s.on (Dev.pcie (.reg POWER_RUNG_CTRL (2 ^ 31 + 4)) (rungCtrlWrite (2 ^ 31 + 4)))

def execRungRequestStable (s : State) := s.on (Dev.pcie (.reg POWER_RUNG_CTRL (2 ^ 31 + 5)) (rungCtrlWrite (2 ^ 31 + 5)))

def execShedReenable (s : State) := s.on (Dev.pcie (.reg POWER_SHED_REENABLE 1) (reenableWrite 1))

/-! ### Raster -/

/-- QUEUE_PUSH: a write of HDn_Q_PUSH. -/
def execQueuePush (h : Fin 8) (v : Word) (s : State) := s.on (Dev.pcie (.reg (HDn_Q_PUSH h) v.toNat) (qPushWrite h v.toNat))

/-- QUEUE_FLUSH: a write of HDn_Q_FLUSH. -/
def execQueueFlush (h : Fin 8) (s : State) := s.on (Dev.pcie (.reg (HDn_Q_FLUSH h) 1) (qFlushWrite h 1))

/-- RECORD_POP: a write of HDn_REC_POP. -/
def execRecordPop (h : Fin 8) (s : State) := s.on (Dev.pcie (.reg (HDn_REC_POP h) 1) (recPopWrite h 1))

/-! ### Sched -/

/-- MARK_ARM: a write of Mm_CTRL with ARM = 1. -/
def execMarkArm (m : Fin 256) (v : Word) (s : State) := s.on (fun d => if bitOf v.toNat 31 then Dev.pcie (.reg (Mm_CTRL m) v.toNat) (markCtrlWrite m v.toNat) d else d)

/-- MARK_DISARM: a write of Mm_CTRL with ARM = 0. -/
def execMarkDisarm (m : Fin 256) (v : Word) (s : State) := s.on (fun d => if bitOf v.toNat 31 then d else Dev.pcie (.reg (Mm_CTRL m) v.toNat) (markCtrlWrite m v.toNat) d)

/-- SCHED_DISARM_ALL. -/
def execSchedDisarmAll (s : State) := s.on (Dev.pcie (.reg SCHED_DISARM_ALL 1) (disarmAllWrite 1))

/-- HEAD_COMMIT. -/
def execHeadCommit (h : Fin 8) (s : State) := s.on (Dev.pcie (.reg (HDn_COMMIT h) 1) (headCommitWrite h 1))

/-! ### Stream -/

/-- STREAM_ENABLE: a write of INn_CTRL with ENABLE set. -/
def execStreamEnable (n : Fin 4) (format fbCount : Nat) (s : State) :=
  s.on (Dev.pcie (.reg (INn_CTRL n) (2 ^ 31 + format % 16 * 2 ^ 24 + fbCount % 8 * 2 ^ 20)) (inCtrlWrite n (2 ^ 31 + format % 16 * 2 ^ 24 + fbCount % 8 * 2 ^ 20)))

/-- STREAM_DISABLE: a write of INn_CTRL with ENABLE clear. -/
def execStreamDisable (n : Fin 4) (format fbCount : Nat) (s : State) :=
  s.on (Dev.pcie (.reg (INn_CTRL n) (format % 16 * 2 ^ 24 + fbCount % 8 * 2 ^ 20)) (inCtrlWrite n (format % 16 * 2 ^ 24 + fbCount % 8 * 2 ^ 20)))

/-! ### Tack -/

/-- TACK_PUSH_GO. -/
def execTackPushGo (s : State) := s.on (Dev.pcie (.reg TACK_PUSH_GO 1) (pushGoWrite 1))

/-- BURN_ROLLBACK: the other bits of the word written are those that TACK_CONTROL holds. -/
def execBurnRollback (s : State) := s.on (fun d => Dev.pcie (.reg TACK_CONTROL (256 + d.get TACK_CONTROL_NEXT_SLOT)) (tackControlWrite (256 + d.get TACK_CONTROL_NEXT_SLOT)) d)

/-- RETACK_START. -/
def execRetackStart (h : Fin 8) (s : State) := s.on (Dev.pcie (.reg TACK_RT_CONTROL (256 + h)) (rtControlWrite (256 + h)))

/-- RETACK_ABANDON. -/
def execRetackAbandon (s : State) := s.on (fun d => Dev.pcie (.reg TACK_RT_CONTROL (512 + d.get TACK_RT_CONTROL_HEAD)) (rtControlWrite (512 + d.get TACK_RT_CONTROL_HEAD)) d)

/-! ### Team -/

def execTeamProbe (v : Word) (s : State) := s.on (fun d => if bitOf v.toNat 30 then Dev.pcie (.reg TEAM_CTRL v.toNat) (teamCtrlWrite v.toNat) d else d)

/-! ### Test -/

def execTestSnap (pins : BitVec 431) (s : State) := s.on (Dev.pcie (.reg TEST_CTRL 1) (testSnapWrite 1 pins.toNat))

/-! ### Time -/

/-- TB_LATCH. -/
def execTbLatch (n : Fin 4) (v : Word) (s : State) := s.on (Dev.pcie (.reg (TBn_LATCH n) v.toNat) (tbLatch n v.toNat))

/-- TB_CTRL_WRITE. -/
def execTbCtrlWrite (n : Fin 4) (v : Word) (s : State) := s.on (Dev.pcie (.reg (TBn_CTRL n) v.toNat) (tbCtrlWrite n v.toNat))

/-- STEP_ARM. -/
def execStepArm (n : Fin 4) (s : State) := s.on (Dev.pcie (.reg (TBn_STEP_CTRL n) 1) (stepCtrlWrite n 1))

/-- STEP_CANCEL. -/
def execStepCancel (n : Fin 4) (s : State) := s.on (Dev.pcie (.reg (TBn_STEP_CTRL n) 2) (stepCtrlWrite n 2))

/-- STEP_RESUME. -/
def execStepResume (n : Fin 4) (s : State) := s.on (Dev.pcie (.reg (TBn_STEP_CTRL n) 4) (stepCtrlWrite n 4))

/-- TC_RATE_CHANGE. -/
def execTcRateChange (v : Word) (s : State) := s.on (Dev.pcie (.reg TC_CTRL v.toNat) (tcCtrlWrite v.toNat))

/-- CAP_POP. -/
def execCapPop (c : Fin 16) (v : Word) (s : State) := s.on (Dev.pcie (.reg (CAPc_POP c) v.toNat) (capPop c v.toNat))

end Sys2Proof.Machine
end

