-- ==== Sys2Proof/Machine/Crypto.lean ====
section
/-! DEFINITION. SHA-256 and the verification of an ECDSA P-256 signature, which R55 and R56 name and leave to their standards
(assumption 6). -/
namespace Sys2Proof.Machine

/-! ### SHA-256, from its recurrences: the standard's a to d are four successive terms of one sequence, its e to h of another -/

/-- The integer part of the `k`th root of `n`, below 2^`bits`, bit by bit from the top. -/
def rootBits (k n bits : Nat) : Nat :=
  (List.range bits).foldr (fun i r => if (r + 2 ^ i) ^ k ≤ n then r + 2 ^ i else r) 0

/-- The primes below `n`. -/
def primesTo (n : Nat) : List Nat := (List.range n).filter (fun p => decide (2 ≤ p) && allBelow p (fun q => decide (q < 2) || p % q != 0))

/-- The first 32 bits behind the point of the `k`th roots of the primes below `n`. -/
def rootFractions (k n : Nat) : List Nat := (primesTo n).map (fun p => rootBits k (p * 2 ^ (32 * k)) 37 % 2 ^ 32)

/-- The constants of the rounds and the first hash: cube roots of 64 primes, square roots of 8. -/
def shaConst : List Nat := rootFractions 3 312
def shaFirst : List Nat := rootFractions 2 20

/-- The exclusive or of the images of a 32-bit word under rotations to the right by `l` and shifts to the right by `m`. -/
def shaMix (l m : List Nat) (v : Nat) : Nat :=
  Nat.xor (l.foldl (fun a k => Nat.xor a ((v + v * 2 ^ 32) / 2 ^ k % 2 ^ 32)) 0) (m.foldl (fun a k => Nat.xor a (v / 2 ^ k)) 0)

/-- The message schedule of a block: its words, newest first, and `n` further terms. -/
def shaTerms (words : List Nat) (n : Nat) : List Nat :=
  (List.range n).foldl (fun w _ =>
    ((nth 0 w 15 + nth 0 w 6 + shaMix [7, 18] [3] (nth 0 w 14) + shaMix [17, 19] [10] (nth 0 w 1)) % 2 ^ 32) :: w) words.reverse

/-- The next terms of the two sequences, newest first, for the sum of a schedule word and its constant. -/
def shaNext (x : List Nat × List Nat) (kw : Nat) : List Nat × List Nat :=
  let (p, q) := x
  let choice := Nat.xor (nth 0 q 2) (Nat.land (nth 0 q 0) (Nat.xor (nth 0 q 1) (nth 0 q 2)))
  let major := Nat.xor (Nat.land (nth 0 p 0) (nth 0 p 1)) (Nat.land (nth 0 p 2) (Nat.xor (nth 0 p 0) (nth 0 p 1)))
  let t := kw + choice + nth 0 q 3 + shaMix [6, 11, 25] [] (nth 0 q 0)
  (((t + major + shaMix [2, 13, 22] [] (nth 0 p 0)) % 2 ^ 32) :: p, ((t + nth 0 p 3) % 2 ^ 32) :: q)

/-- The hash after a block of 16 words. -/
def shaAfter (hash words : List Nat) : List Nat :=
  let (p, q) := ((shaTerms words 48).reverse.zipWith (· + ·) shaConst).foldl shaNext (hash.take 4, hash.drop 4)
  (List.range 8).map (fun k => (nth 0 hash k + nth 0 (p.take 4 ++ q.take 4) k) % 2 ^ 32)

/-- The message with what the standard adds: a one, zeros, its length in bits. -/
def shaPadded (l : List Byte) : List Byte :=
  let zeros := (64 - (l.length + 9) % 64) % 64
  l ++ 0x80 :: (List.replicate zeros 0 ++ (leBytes 8 (8 * l.length)).reverse)

/-- SHA-256 of a message, as a number. -/
def sha256 (l : List Byte) : Nat :=
  let m := shaPadded l
  let word (k : Nat) : Nat := ofBE ((m.drop (4 * k)).take 4)
  let hash := (List.range (m.length / 64)).foldl (fun h b => shaAfter h ((List.range 16).map (fun k => word (16 * b + k)))) shaFirst
  hash.foldl (fun a w => a * 2 ^ 32 + w) 0

/-! ### ECDSA on P-256 -/

/-- The prime of the field, the order of the group, the curve's b, and the base point. -/
def ecP : Nat := 0xffffffff00000001000000000000000000000000ffffffffffffffffffffffff
def ecN : Nat := 0xffffffff00000000ffffffffffffffffbce6faada7179e84f3b9cac2fc632551
def ecB : Nat := 0x5ac635d8aa3a93e7b3ebbd55769886bc651d06b0cc53b0f63bce3c3e27d2604b
def ecG : Nat × Nat :=
  (0x6b17d1f2e12c4247f8bce6e563a440f277037d812deb33a0f4a13945d898c296, 0x4fe342e2fe1a7f9b8ee7eb4a7c0f9e162bce33576b315ececbb6406837bf51f5)

/-- `a` to the power of the low `k` bits of `e`, modulo `m`. -/
def powMod (m : Nat) : Nat → Nat → Nat → Nat
  | 0, _, _ => 1
  | k + 1, a, e => (if e % 2 = 1 then a else 1) * powMod m k (a * a % m) (e / 2) % m

/-- The inverse of `a` modulo the prime `m`. -/
def invMod (m a : Nat) : Nat := powMod m 256 (a % m) (m - 2)

/-- The difference modulo the field's prime. -/
def ecSub (a b : Nat) : Nat := (a + (ecP - b % ecP)) % ecP

/-- The sum of two points of the curve; `none` is the point at infinity. -/
def ecAdd (p q : Option (Nat × Nat)) : Option (Nat × Nat) :=
  match p, q with
  | none, _ => q
  | _, none => p
  | some (x1, y1), some (x2, y2) =>
    if x1 = x2 ∧ (y1 + y2) % ecP = 0 then none
    else
      let l := if x1 = x2 then (3 * x1 * x1 + (ecP - 3)) * invMod ecP (2 * y1) % ecP
        else ecSub y2 y1 * invMod ecP (ecSub x2 x1) % ecP
      let x3 := ecSub (l * l) (x1 + x2)
      some (x3, ecSub (l * ecSub x1 x3) y1)

/-- `p` times the low `k` bits of `n`. -/
def ecMul : Nat → Nat → Option (Nat × Nat) → Option (Nat × Nat)
  | 0, _, _ => none
  | k + 1, n, p => ecAdd (if n % 2 = 1 then p else none) (ecMul k (n / 2) (ecAdd p p))

/-- Is (x, y) a point of the curve? -/
def ecOn (x y : Nat) : Bool := decide (x < ecP ∧ y < ecP) && y * y % ecP == (x * x * x + (ecP - 3) * x + ecB) % ecP

/-- Does (r, s) verify as the signature of the hash `e` under the public key (x, y)? -/
def ecdsaOk (e x y r s : Nat) : Bool :=
  decide (1 ≤ r ∧ r < ecN ∧ 1 ≤ s ∧ s < ecN) && ecOn x y &&
    (let w := invMod ecN s
     match ecAdd (ecMul 256 (e * w % ecN) (some ecG)) (ecMul 256 (r * w % ecN) (some (x, y))) with
     | none => false
     | some (x1, _) => x1 % ecN == r)

end Sys2Proof.Machine
end

