-- ==== Sys2Proof/Machine/ImageCheck.lean ====
section
/-! DEFINITION. The checks of an image (R37 to R51, R55 to R57, R63, R64, R544): header, key, rollback, signature, structure,
DEFAULT_TABLES, resources. A check that fails gives a cause code of R58; 0 stands for a pass. -/
namespace Sys2Proof.Machine

/-! ### Header, key, rollback, signature (R37, R55 to R57) -/

/-- Are `n` bytes at offset `o` all 0? -/
def zerosAt (l : List Byte) (o n : Nat) : Bool := ((l.drop o).take n).all (· == 0)

/-- The fields of a header. -/
def imgKind (img : List Byte) : Nat := leAt img 6 2
def imgSize (img : List Byte) : Nat := leAt img 8 4
def imgVersion (img : List Byte) : Nat := leAt img 0xC 4
def imgRollback (img : List Byte) : Nat := leAt img 0x10 2
def imgKeySlot (img : List Byte) : Nat := leAt img 0x12 1
def imgBuildId (img : List Byte) : Nat := leAt img 0x14 4
def imgBase (img : List Byte) : Nat := leAt img 0x18 4

/-- MAGIC, FORMAT, KIND and SIZE of a header (R53). -/
def headerIs (kind : Nat) (img : List Byte) : Bool :=
  leAt img 0 4 == 0x4B434154 && leAt img 4 2 == 1 && imgKind img == kind && imgSize img % 64 == 0
    && decide (1024 ≤ imgSize img ∧ imgSize img ≤ (if kind = 1 then 4194304 else 524288))

/-- The checks of R37 for an image of a kind. -/
def headerOk (kind : Nat) (img : List Byte) : Bool :=
  headerIs kind img && decide (256 ≤ img.length) && decide (imgRollback img ≤ 64) && decide (imgKeySlot img ≤ 2)
    && decide (1 ≤ leAt img 0x13 1 ∧ leAt img 0x13 1 ≤ 64) && (kind != 1 || imgBase img == 0)
    && (kind != 2 || (imgHeads img).length == 1) && zerosAt img 0x1D 3 && zerosAt img 0x60 160

/-- The key check (R56): the root key unless it is disabled, a customer key that is programmed and not revoked. -/
def Dev.keyOk (d : Dev) (img : List Byte) : Bool :=
  sha256 ((img.drop 0x20).take 64) == Config.keyHash (imgKeySlot img) &&
    (match imgKeySlot img with
     | 0 => !d.flag TACK_KEY_ROOT_DISABLED
     | 1 => d.flag TACK_KEY_CK0_PROGRAMMED && !d.flag TACK_KEY_CK0_REVOKED
     | _ => d.flag TACK_KEY_CK1_PROGRAMMED && !d.flag TACK_KEY_CK1_REVOKED)

/-- Checks 1 to 3 of R55 on a header whose SIZE must be `size` where one is given. -/
def Dev.headerFault (d : Dev) (kind : Nat) (size : Option Nat) (img : List Byte) : Nat :=
  if !headerOk kind img || !(size.all (· == imgSize img)) then 2
  else if !d.keyOk img then 3
  else if imgRollback img < d.get TACK_ROLLBACK_FUSE_COUNT then 4
  else 0

/-- Checks 4 and 5 of R55. -/
def signatureOk (img : List Byte) : Bool :=
  let n := imgSize img
  let be (o : Nat) : Nat := ofBE ((img.drop o).take 32)
  img.length == n && ecdsaOk (sha256 (img.take (n - 64))) (be 0x20) (be 0x40) (be (n - 64)) (be (n - 32))

/-! ### The directory (R38 to R40) -/

/-- The section types that a head has, and those of the whole image. -/
def headKind (k : Nat) : Bool := k == 0x10 || k == 0x11
def globalKind (k : Nat) : Bool := decide (1 ≤ k ∧ k ≤ 5)

/-- Does a section's TYPE go with its INSTANCE, and its INSTANCE with HEAD_MASK? -/
def Section.instOk (s : Section) (img : List Byte) : Bool :=
  if globalKind s.kind then s.inst == 0xFFFF
  else if headKind s.kind then (imgHeads img).contains s.inst
  else s.kind == 6 && (s.inst == 0xFFFF || (imgHeads img).contains s.inst)

/-- Do the sections from offset `o` up follow one another as R40 says, with zeros between them, up to offset `last`? DESIGN CHOICE:
the bytes before the first section and after the last must be 0 too (assumption 69). -/
def placedOk (img : List Byte) (last : Nat) : Nat → List Section → Bool
  | o, [] => decide (o ≤ last) && zerosAt img o (last - o)
  | o, s :: r => decide (o ≤ s.first) && s.first % 64 == 0 && zerosAt img o (s.first - o) && placedOk img last (s.first + s.size) r

/-- The directory of an image: reserved bytes, types, instances, placement, and no section twice. -/
def directoryOk (img : List Byte) : Bool :=
  let l := imgSections img
  allBelow l.length (fun k => zerosAt img (268 + 16 * k) 4) && l.all (fun s => s.instOk img)
    && placedOk img (imgSize img - 64) (256 + 16 * l.length) l && decide ((l.map (fun s => (s.kind, s.inst))).Nodup)

/-- Is the section of a type and an instance there? -/
def hasSection (img : List Byte) (kind inst : Nat) : Bool := (imgSection img kind inst).isSome

/-- The sections that R39 demands. -/
def sectionsThere (img : List Byte) : Bool :=
  (imgKind img != 1 || [1, 2, 3, 4, 5].all (fun k => hasSection img k 0xFFFF))
    && (imgHeads img).all (fun h => hasSection img 0x10 h && hasSection img 0x11 h)

/-! ### The global sections (R41 to R45, R544) -/

/-- CLOCK_PLAN; `mip` and `raster` tell each head's class. -/
def clockOk (b : List Byte) (raster : Nat → Bool) : Bool :=
  b.length == 40 && allBelow 9 (fun q => decide (leAt b q 1 ≤ 5)) && zerosAt b 9 3 && zerosAt b 0x24 4
    && allBelow 4 (fun p => leAt b (12 + 4 * p) 4 == 0 || decide (400000 ≤ leAt b (12 + 4 * p) 4 ∧ leAt b (12 + 4 * p) 4 ≤ 1600000))
    && allBelow 8 (fun n => if raster n then decide (leAt b (28 + n) 1 ≤ 3) else leAt b (28 + n) 1 == 0xFF)

/-- The functions and owners that a pin accepts (R544). -/
def pinFunctionOk (p : Nat) (e : PinEntry) : Bool :=
  match e.function with
  | 0 => true
  | 3 => true
  | 4 => (p == 48 && e.owner == 0) || (p == 50 && e.owner == 1)
  | 5 => (p == 49 && e.owner == 0) || (p == 51 && e.owner == 1)
  | 1 => decide (p < 48)
  | 2 => decide (p < 48)
  | 6 => decide (p < 48)
  | _ => false

/-- One entry of PIN_MAP. -/
def pinOk (p : Nat) (e : PinEntry) : Bool :=
  pinFunctionOk p e && decide (e.flags < 8) && (if e.function = 1 then decide (e.index < 32) else e.index == 0)
    && (match e.function with
        | 1 => decide (e.owner < 8)
        | 2 => decide (e.owner < 8)
        | 6 => decide (e.owner < 8)
        | 4 => true
        | 5 => true
        | _ => e.owner == 0xFF)

/-- PIN_MAP. -/
def pinMapOk (b : List Byte) : Bool :=
  b.length == 264 && allBelow 6 (fun k => decide (leAt b k 1 ≤ 1)) && zerosAt b 6 2 && allBelow 64 (fun p => pinOk p (pinOf b p))

/-- One entry of LINK_MAP at offset `o`; `rates` are the quads' rate codes. -/
def linkEntryOk (b : List Byte) (o : Nat) (rates : Nat → Nat) (pin : Nat → Nat) : Bool :=
  let byte (k : Nat) : Nat := leAt b (o + k) 1
  let lanes := onesOf 36 (leAt b (o + 8) 8)
  let all := lanes ++ (if byte 2 < 36 then [byte 2] else [])
  if byte 0 = 0 then zerosAt b o 16
  else
    decide (byte 0 ≤ 5) && decide (1 ≤ byte 1 ∧ byte 1 ≤ 16) && byte 1 == lanes.length && (byte 2 == 0xFF || decide (byte 2 < 36))
      && decide (leAt b (o + 8) 8 < 2 ^ 36) && decide (byte 3 ≤ 5) && all.all (fun k => rates (k / 4) == byte 3)
      && (byte 4 == 0 || (byte 4 == 1 && byte 0 == 2))
      && (match byte 0 with
          | 1 => decide (byte 5 < 4)
          | 2 => decide (byte 5 < 8)
          | 3 => decide (byte 5 < 8)
          | _ => byte 5 == 0)
      && (if byte 4 = 1 then decide (byte 6 < 48) && pin (byte 6) == 2 else byte 6 == 0xFF) && decide (byte 7 ≤ 1)

/-- LINK_MAP. -/
def linkMapOk (b : List Byte) (rates : Nat → Nat) (pin : Nat → Nat) : Bool :=
  b.length == 256 && allBelow 16 (fun j => linkEntryOk b (16 * j) rates pin)

/-- BANK_OWNER. -/
def bankOwnerOk (b : List Byte) : Bool :=
  b.length == 32 && allBelow 16 (fun n => (decide (leAt b n 1 ≤ 6) || decide (8 ≤ leAt b n 1 ∧ leAt b n 1 ≤ 15)) && decide (leAt b (16 + n) 1 < 8))

/-- SEQ_FIRMWARE. -/
def firmwareOk (b : List Byte) : Bool :=
  decide (16 ≤ b.length) && leAt b 0 4 % 4096 == 0 && 16 + leAt b 8 4 == b.length && decide (leAt b 0 4 + leAt b 8 4 ≤ 1048576)

/-- The global sections of a FULL image. -/
def globalsOk (img : List Byte) : Bool :=
  let raster (n : Nat) : Bool := (imgHeads img).contains n && !(headImage img n).mip
  let clock := imgGlobal img 1
  let pins := imgGlobal img 2
  clockOk clock raster && pinMapOk pins
    && linkMapOk (imgGlobal img 3) (fun q => leAt clock q 1) (fun p => (pinOf pins p).function)
    && bankOwnerOk (imgGlobal img 4) && firmwareOk (imgGlobal img 5)

/-! ### The head sections (R47 to R49) -/

/-- HEAD_DESC. -/
def headDescOk (b : List Byte) : Bool :=
  b.length == 32 && decide (leAt b 0 1 ≤ 1) && decide (leAt b 1 1 ≤ 15) && zerosAt b 2 2 && decide (leAt b 8 4 ≤ 16384)
    && decide (leAt b 12 2 ≤ 1023) && decide (leAt b 14 2 ≤ 1024) && zerosAt b 16 16

/-- One entry of STAGE_GRAPH at offset `o`. -/
def stageOk (b : List Byte) (o : Nat) : Bool :=
  let n := leAt b (o + 1) 1
  decide (1 ≤ leAt b o 1 ∧ leAt b o 1 ≤ 14) && decide (1 ≤ n ∧ n ≤ 3)
    && allBelow 3 (fun i => if i < n then decide (leAt b (o + 2 + i) 1 < 28) else leAt b (o + 2 + i) 1 == 0xFF)
    && decide (leAt b (o + 5) 1 ≤ 1) && zerosAt b (o + 10) 2 && (if leAt b o 1 = 14 then leAt b (o + 14) 2 == 0 else leAt b (o + 12) 4 == 0)

/-- STAGE_GRAPH as bytes. -/
def stageGraphOk (b : List Byte) : Bool :=
  let n := leAt b 0 1
  decide (1 ≤ n ∧ n ≤ 16) && b.length == 8 + 16 * n && (decide (leAt b 1 1 ≤ 3) || leAt b 1 1 == 0x10) && zerosAt b 2 6
    && allBelow n (fun j => stageOk b (8 + 16 * j))

/-- The rules of R49 for a head; `links` is the mask of its links in LINK_MAP where it is judged here. -/
def graphOk (x : HeadImage) (links : Option Nat) : Bool :=
  let c := x.sect.chain
  let count (k : Nat) : Nat := c.countP (fun e => e.kind == k)
  let last := c.getLast?.map (fun e => (e.kind, e.param))
  (x.sect.source == 16 || c.head?.map (·.kind) == some 1)
    && (match last with
        | some (14, p) => links.all (· == p)
        | _ => false)
    && (if x.mip then count 9 == 0 && count 10 == 0 && count 12 == 1 && count 13 == 1 && count 14 == 1
        else count 11 == 0 && count 13 == 0)
    && allBelow 15 (fun k => decide (count k ≤ (if k = 7 then 2 else 1)))
    && c.all (fun e => decide (e.lmOffset + e.lmUnits ≤ x.lineUnits))

/-- The mask of the links that LINK_MAP gives to head `h`. -/
def linkMask (links : Nat → LinkEntry) (h : Nat) : Nat :=
  (filterRange 16 (fun j => ((links j).profile == 2 || (links j).profile == 3) && (links j).owner == h)).foldl (fun a j => a + 2 ^ j) 0

/-- The structure checks of a head's sections. -/
def headOk (img : List Byte) (links : Option (Nat → LinkEntry)) (h : Nat) : Bool :=
  headDescOk ((imgSection img 0x10 h).getD []) && stageGraphOk ((imgSection img 0x11 h).getD [])
    && graphOk (headImage img h) (links.map (fun l => linkMask l h))

/-! ### DEFAULT_TABLES as judged (R46, R303) -/

/-- Every record of an image in apply order, with the head of its instance; none where a section does not divide into records. -/
def imgRecords (img : List Byte) : Option (List (Option Nat × TableRec)) :=
  ((none, 0xFFFF) :: (imgHeads img).map (fun h => (some h, h))).foldr (fun (o, inst) a =>
    match a, imgTables img inst with
    | some l, some t => some (t.map (fun r => (o, r)) ++ l)
    | _, _ => none) (some [])

/-- The size of a record's words in bytes. -/
def TableRec.size (r : TableRec) : Nat := 4 * r.words.length

/-- Does a memory record lie in the line/LUT partition of a head's section? -/
def TableRec.inPartition (r : TableRec) (x : HeadImage) : Bool :=
  decide (0x4200000000 + 4096 * x.lineBase ≤ r.addr ∧ r.addr + r.size ≤ 0x4200000000 + 4096 * (x.lineBase + x.lineUnits))

/-- Does a memory record lie in line/LUT memory or in DRAM? -/
def TableRec.inMemory (r : TableRec) : Bool :=
  (regionOf r.addr == .dram && regionOf (r.addr + r.size - 1) == .dram)
    || (regionOf r.addr == .lineMem && regionOf (r.addr + r.size - 1) == .lineMem)

/-- A write by the sequencer, and whether it is rejected. The limits of R16 do not apply to it, so it is made as in READY. -/
def Dev.seqTry (r v : Nat) (d : Dev) : Bool × Dev :=
  let s := hostWrite true 0 r v ((d.put TOP_STATUS_MODE 3).put TOP_REJECT_COUNT_V 0)
  (s.get TOP_REJECT_COUNT_V != 0, s)

/-- Every head STOPPED and every panel OFF, as the judgement assumes. -/
def Dev.stilled (d : Dev) : Dev := foldS (List.range 8) (fun h s => (s.put (HDn_STATUS_STATE h) 0).put (PANELh_STATUS_STATE h) 0) d

/-- A register record is judged. -/
def Dev.judgeRegs (d : Dev) : List (Nat × Nat) → Nat × Dev
  | [] => (0, d)
  | (a, v) :: l =>
    if regionOf a ≠ .ownRegs then (6, d)
    else
      let (bad, s) := d.seqTry (a - 0x7F00000000) v
      if bad then (6, d) else s.stilled.judgeRegs l

/-- The words of a record with their addresses. -/
def TableRec.pairs (r : TableRec) : List (Nat × Nat) := r.words.zipIdx.map (fun (v, k) => (r.addr + 4 * k, v))

/-- The records are judged in order on a scratch copy of the block. A record outside its head's partition is a fault of step 7,
which a fault of step 6 in a later record comes before (R55). -/
def Dev.judge (img : List Byte) (d : Dev) : List (Option Nat × TableRec) → Nat × Dev
  | [] => (0, d)
  | (o, r) :: l =>
    if r.memory then
      match o with
      | some h =>
        if r.inPartition (headImage img h) then (d.memRecord r).judge img l
        else
          let (c, s) := d.judge img l
          (if c = 6 then 6 else 7, s)
      | none => if r.inMemory then (d.memRecord r).judge img l else (6, d)
    else
      let (c, s) := d.judgeRegs r.pairs
      if c = 0 then s.judge img l else (c, s)

/-- The waveform table buffers of head `h` that a memory record writes. -/
def Dev.wavesWritten (d : Dev) (h : Nat) (l : List (Option Nat × TableRec)) : List Nat :=
  match d.stage h 13 with
  | none => []
  | some e =>
    filterRange (buffers e 8) (fun b =>
      let a := d.lmBase h e + b * 32768
      l.any (fun (_, r) => r.memory && decide (r.addr < a + 32768 ∧ a < r.addr + r.size)))

/-- Does a waveform table that the records write fail (R303)? The shadow set of each head gives MEMBITS and FREQ. -/
def Dev.wavesBad (d : Dev) (heads : List Nat) (l : List (Option Nat × TableRec)) : Bool :=
  heads.any (fun h =>
    let s := d.applyWords h
    d.isMip h && (d.wavesWritten h l).any (fun b =>
      (tableFault (s.mipM h) (s.app (HDn_MIP_CTRL_FREQ h)) (d.bytesAt (d.waveBase h + b * 32768) 32768)).isSome))

/-- R47: is a MIP head's ledger share too small for its panel as the records leave it? -/
def Dev.shareSmall (d : Dev) (heads : List Nat) : Bool :=
  heads.any (fun h => d.isMip h
    && decide (64 * d.get (TACK_LEDGERn_UNITS h) < tilesOf (d.get (HDn_MIP_PANEL_WIDTH h)) (d.get (HDn_MIP_PANEL_HEIGHT h))))

/-- The waveform tables of a list of heads that the records write are valid (R303). -/
def Dev.wavesValid (heads : List Nat) (l : List (Option Nat × TableRec)) (d : Dev) : Dev :=
  foldS heads (fun h s => (s.wavesWritten h l).foldl (fun t b =>
    t.put MIP_WT_STATUS_VALID (Nat.lor (t.get MIP_WT_STATUS_VALID) (2 ^ (2 * h + b)))) s) d

/-- The judgement of the records of an image on a scratch copy that holds its structure; the waveform tables of a HEAD image are
judged here, those of a FULL image at step 7 of R59 (R303). -/
def Dev.tablesFault (img : List Byte) (waves : Bool) (d : Dev) : Nat :=
  match imgRecords img with
  | none => 6
  | some l =>
    let (c, s) := d.judge img l
    if c ≠ 0 then c
    else if waves && s.wavesBad (imgHeads img) l then 6
    else if s.shareSmall (imgHeads img) then 7
    else 0

/-! ### Resources (R41, R43, R44, R47, R50, R51, R64, R439) -/

/-- Do two ranges of `n` and `m` units share one? -/
def overlap (a n b m : Nat) : Bool := decide (a < b + m ∧ b < a + n ∧ 0 < n ∧ 0 < m)

/-- Is `p` true of no two heads of a list? -/
def noPair (l : List Nat) (p : Nat → Nat → Bool) : Bool := l.all (fun a => l.all (fun b => a == b || !p a b))

/-- R439: does a row that no spare covers lie in a head's share or partition? -/
def Dev.rowsHit (d : Dev) (x : HeadImage) : Bool :=
  d.memu.badRows.any (fun a =>
    overlap a 1024 (0x4100000000 + 512 * x.ledgerBase) (512 * x.ledgerUnits)
      || overlap a 1024 (0x4200000000 + 4096 * x.lineBase) (4096 * x.lineUnits))

/-- The ends of a head's share and partition. -/
def HeadImage.endsOk (x : HeadImage) : Bool := decide (x.ledgerBase + x.ledgerUnits ≤ 16384) && decide (x.lineBase + x.lineUnits ≤ 1024)

/-- Every lane that LINK_MAP names, data lanes and spares. -/
def imgLanes (b : List Byte) : List Nat := (List.range 16).flatMap (fun j => (linkOf b j).lanes ++ (linkOf b j).spare.toList)

/-- The resource checks of a FULL image. -/
def Dev.resourcesOk (d : Dev) (img : List Byte) : Bool :=
  let heads := imgHeads img
  let x := headImage img
  let clock := imgGlobal img 1
  let owner (n : Nat) : Nat := leAt (imgGlobal img 4) n 1
  let engines := heads.flatMap (fun h => (x h).engines)
  let retired := (engines.filter (d.enginesIn 3).contains).length
  heads.all (fun h => (x h).mip || leAt clock (12 + 4 * leAt clock (28 + h) 1) 4 != 0)
    && decide (imgLanes (imgGlobal img 3)).Nodup
    && anyBelow 16 (fun n => owner n == 2) && allBelow 16 (fun n => decide (owner n < 8) || heads.contains (owner n - 8))
    && allBelow 16 (fun n => d.get (SBn_STATUS_STATE n) != 3 || owner n == 1)
    && heads.all (fun h => (x h).endsOk && !d.rowsHit (x h))
    && noPair heads (fun a b => overlap (x a).ledgerBase (x a).ledgerUnits (x b).ledgerBase (x b).ledgerUnits
      || overlap (x a).lineBase (x a).lineUnits (x b).lineBase (x b).lineUnits)
    && decide engines.Nodup && decide (engines.length ≤ 24)
    && decide (retired ≤ (filterRange 28 (fun k => !engines.contains k && !(d.enginesIn 3).contains k)).length)

/-- The scratch copy on which a FULL image is judged: every register at its reset value, and the structure of the image. -/
def judgeBase (img : List Byte) : Dev := Dev.structApply img (({} : Dev).put TOP_STATUS_MODE 3)

/-- Checks 4 to 7 of R55 on a FULL image. -/
def Dev.fullFault (d : Dev) (img : List Byte) : Nat :=
  let structure' := directoryOk img && sectionsThere img && globalsOk img
    && (imgHeads img).all (headOk img (some (linkOf (imgGlobal img 3))))
  if !signatureOk img then 5
  else if !structure' then 6
  else
    let c := (judgeBase img).tablesFault img false
    if c = 6 then 6 else if !d.resourcesOk img then 7 else c

/-! ### A HEAD image (R63, R64) -/

/-- Does register offset `r` belong to head `h`: its HEADS instance, its stages and bands, the registers of its engines, and those
of the MIP block that address its tiles, which are the rows of its commons (R63, R318; assumption 26)? -/
def Dev.headOwns (d : Dev) (h : Nat) (x : HeadImage) (r : Nat) : Bool :=
  (decide (0x10000 ≤ r) && headOf r == some h)
    || (decide (0x30000 ≤ r ∧ r < 0x30080) && r % 0x20 == 4 && d.ownsCom h ((r - 0x30000) / 0x20))
    || (decide (0x10100 ≤ r ∧ r < 0x102C0) && x.engines.contains ((r - 0x10100) / 0x10))

/-- R63: does a HEAD image for head `h` touch a global resource? A chain that does not end in FORMAT fails under R49 instead. -/
def Dev.touchesGlobal (d : Dev) (h : Nat) (img : List Byte) : Bool :=
  let x := headImage img h
  imgHeads img != [h] || (imgSections img).any (fun s => s.inst == 0xFFFF) || x.mip != d.isMip h
    || x.sect.chain.getLast?.any (fun e => e.kind == 14 && e.param != linkMask d.linkEntry h)
    || ((imgRecords img).getD []).any (fun (_, r) =>
        if r.memory then !r.inPartition x
        else r.pairs.any (fun (a, _) => regionOf a != .ownRegs || !d.headOwns h x (a - 0x7F00000000)))

/-- R64, R439. -/
def Dev.rtResourcesOk (d : Dev) (h : Nat) (img : List Byte) : Bool :=
  let x := headImage img h
  let others := filterRange 8 (fun g => g != h && d.headPresent g)
  x.engines.all (fun k => (d.get (SEk_STATUS_STATE k) == 1 && d.get (SEk_STATUS_HEAD k) == h) || d.rtSpare k)
    && decide x.engines.Nodup && decide ((x.engines.filter d.rtSpare).length + 4 ≤ ((List.range 28).filter d.rtSpare).length)
    && x.endsOk && !d.rowsHit x
    && others.all (fun g => !overlap x.ledgerBase x.ledgerUnits (d.get (TACK_LEDGERn_BASE g)) (d.get (TACK_LEDGERn_UNITS g)))
    && (h :: others).all (fun g => !overlap x.lineBase x.lineUnits (d.get (TACK_HEADn_LINEMEM_BASE g)) (d.get (TACK_HEADn_LINEMEM_UNITS g)))

/-- The scratch copy on which a HEAD image is judged: the block with the new section in force. DESIGN CHOICE: here too every head
counts as STOPPED and every panel as OFF (assumption 70). -/
def Dev.rtJudgeBase (d : Dev) (h : Nat) (img : List Byte) : Dev :=
  (((d.put TOP_STATUS_MODE 3).put (HDn_SHADOW_STATE_V h) 0).headApply h (headImage img h)).stilled

/-- The checks of a re-tack of head `h` on the copy (R55, R63 to R65). -/
def Dev.rtFault (d : Dev) (h : Nat) (img : List Byte) : Nat :=
  let c := d.headerFault 2 (some (d.get TACK_RT_LENGTH_V)) img
  if c ≠ 0 then c
  else if !signatureOk img then 5
  else if imgBase img ≠ d.get TACK_BUILD_ID_V then 8
  else if !directoryOk img || !sectionsThere img then 6
  else if d.touchesGlobal h img then 9
  else if !headOk img none h then 6
  else
    let t := (d.rtJudgeBase h img).tablesFault img true
    if t = 6 then 6 else if !d.rtResourcesOk h img then 7 else t

end Sys2Proof.Machine
end

