-- ==== Sys2Proof/Machine/Image.lean ====
section
/-! DEFINITION. The load of an image (R52 to R61) and the steps of a re-tack (R62 to R69), by the events that end them. -/
namespace Sys2Proof.Machine

/-! ### The load (R53 to R55, R58, R61) -/

/-- SELECT and FETCH end here where no source is left: SAFE with cause NO_IMAGE. -/
def Dev.loadSettled (d : Dev) : Dev := if d.get TACK_STATUS_STATE = 7 then d.fatal 2 0 else d

/-- A failure of the load. -/
def Dev.loadFailed (cause : Nat) (d : Dev) : Dev := (d.loadFails cause).loadSettled

/-- What TACK_SLOTA_VERSION and TACK_SLOTB_VERSION show of a slot header. -/
def slotVersion (h : Option (List Byte)) : Nat := match h with
  | some b => if headerOk 1 b then imgVersion b else 0xFFFFFFFF
  | none => 0xFFFFFFFF

/-- Is a slot header a candidate (R53)? -/
def Dev.candidate (d : Dev) (h : Option (List Byte)) : Bool := match h with
  | some b => headerIs 1 b && decide (imgRollback b ≤ 64 ∧ d.get TACK_ROLLBACK_FUSE_COUNT ≤ imgRollback b)
  | none => false

/-- The order in which the sources are tried (R53): the forced slot, the newer, the other, the recovery slot. -/
def Dev.sourceOrder (d : Dev) (a b : Option (List Byte)) : List Nat :=
  let version (h : Option (List Byte)) : Nat := (h.map imgVersion).getD 0
  let byAge := if version a < version b then [1, 0] else [0, 1]
  let ok := byAge.filter (fun k => d.candidate (if k = 0 then a else b))
  let forced := ok.filter (fun k => d.get TACK_CONTROL_NEXT_SLOT == k + 1)
  forced ++ ok.filter (fun k => !forced.contains k) ++ [2]

/-- The flash address of a slot (R52): 0 slot A, 1 slot B, 2 recovery. -/
def imgSlotAddr (k : Nat) : Nat := k * 0x0400000

/-- The host bus address of a pushed image (R54). -/
def Dev.pushAddr (d : Dev) : Nat := d.get TACK_PUSH_ADDR_LO_V + d.get TACK_PUSH_ADDR_HI_V * 2 ^ 32

/-- The bytes in the staging area (R54). -/
def Dev.staged (d : Dev) (o n : Nat) : List Byte := d.memBytes (0x1DBC00000 + o) n

/-- What the board has in flash, or the host in its memory, at offset `o` of the image's source: no row of the table puts it there,
so it comes with the read (assumption 9). -/
def Dev.sourceGiven (o : Nat) (l : List Byte) (d : Dev) : Dev :=
  if d.tack.source < 3 then d.flashStore (imgSlotAddr d.tack.source + o) l
  else if d.tack.source = 3 then d.hostStore (d.pushAddr + o) l
  else d

/-- `n` bytes at offset `o` of the source that the image is fetched from (R52, R54). -/
def Dev.sourceBytes (d : Dev) (o n : Nat) : List Byte :=
  if d.tack.source < 3 then d.flashBytes (imgSlotAddr d.tack.source + o) n
  else if d.tack.source = 3 then d.hostBytes (d.pushAddr + o) n
  else d.staged o n

/-- The header in slot `k`, where the slot answers with `x`. -/
def Dev.slotHeader (d : Dev) (k : Nat) (x : Option (List Byte)) : Option (List Byte) := x.map (fun _ => d.flashBytes (imgSlotAddr k) 256)

/-- SELECT with BOOTSEL 00: the headers of slots A and B have been read. -/
def Dev.slotsRead (xa xb : Option (List Byte)) (d : Dev) : Dev :=
  let d := (d.flashStore (imgSlotAddr 0) ((xa.getD []).take 256)).flashStore (imgSlotAddr 1) ((xb.getD []).take 256)
  let a := d.slotHeader 0 xa
  let b := d.slotHeader 1 xb
  let d1 := (d.put TACK_SLOTA_VERSION_V (slotVersion a)).put TACK_SLOTB_VERSION_V (slotVersion b)
  ((d1.onTack (fun u => { u with left := d.sourceOrder a b })).put TACK_CONTROL_NEXT_SLOT 0).selectNext

/-- FETCH: the header has been read; checks 1 to 3 of R55. -/
def Dev.headerRead (h : List Byte) (d : Dev) : Dev :=
  let push := decide (3 ≤ d.tack.source)
  let c := d.headerFault 1 (if push then some (d.get TACK_PUSH_LENGTH_V) else none) h
  if c = 0 then d.onTack (fun u => { u with header := some h }) else d.loadFailed c

/-- IMAGE_HEADER_READ: in SELECT the headers of slots A and B; in FETCH the header of the source being fetched, which for an SPI push
lies in the staging area. `a` and `b` are what flash, or the host's memory, holds there. A fetch through PCI Express fails while bus mastering is off (R54). -/
def imageHeaderRead (a b : Option (List Byte)) (d : Dev) : Dev :=
  if d.mode ≠ 2 then d
  else match d.get TACK_STATUS_STATE with
  | 1 => if d.get TACK_STATUS_SOURCE = 0 then d.slotsRead a b else d
  | 2 =>
    if d.tack.header.isSome then d
    else if d.tack.source = 4 then d.headerRead (d.sourceBytes 0 256)
    else if d.tack.source = 3 ∧ d.flag HOST_STATUS_BUS_MASTER = false then d.loadFailed 1
    else match a with
      | some h =>
        let s := d.sourceGiven 0 (h.take 256)
        s.headerRead (s.sourceBytes 0 256)
      | none => d
  | _ => d

/-- IMAGE_READ_COMPLETE: the rest of the image has been fetched. What comes through PCI Express goes to the staging area. -/
def imageReadComplete (rest : List Byte) (d : Dev) : Dev :=
  match d.tack.header with
  | none => d
  | some h =>
    if d.mode ≠ 2 ∨ d.get TACK_STATUS_STATE ≠ 2 then d
    else
      let n := imgSize h
      let s := d.sourceGiven 256 (rest.take (n - 256))
      let img := h ++ s.sourceBytes 256 (n - 256)
      let d1 := if d.tack.source = 3 then s.agentWrite 1 0x1DBC00000 img else s
      (d1.put TACK_STATUS_STATE 3).onTack (fun u => { u with image := img })

/-- XSPI_READ_TIMEOUT: in SELECT the slot headers are unreadable; in FETCH the source fails. -/
def xspiReadTimeout (d : Dev) : Dev :=
  if d.mode ≠ 2 then d
  else match d.get TACK_STATUS_STATE with
  | 1 => d.slotsRead none none
  | 2 => if d.tack.source < 3 then d.loadFailed 1 else d
  | _ => d

/-- PUSH_FETCH_ERROR. -/
def pushFetchError (d : Dev) : Dev := if d.mode = 2 ∧ d.get TACK_STATUS_STATE = 2 ∧ d.tack.source = 3 then d.loadFailed 1 else d

/-! ### APPLY (R59) -/

/-- A write of DEFAULT_TABLES that passed at verification: it is made without being checked again. -/
def Dev.seqWrite (r v : Nat) (d : Dev) : Dev :=
  let s := hostWrite true 0 r v { d.put TOP_STATUS_MODE 3 with judged := true }
  { (if s.mode = 3 then s.put TOP_STATUS_MODE d.mode else s) with judged := false }

/-- A record of DEFAULT_TABLES takes effect. -/
def Dev.recordApply (r : TableRec) (d : Dev) : Dev :=
  if r.memory then d.agentWrite 1 r.addr (r.words.flatMap (leBytes 4))
  else r.pairs.foldl (fun s p => s.seqWrite (p.1 - 0x7F00000000) p.2) d

/-- Steps 1 to 6 of R59. -/
def Dev.imageApply (img : List Byte) (d : Dev) : Dev :=
  ((imgRecords img).getD []).foldl (fun s p => s.recordApply p.2) (d.structApply img)

/-- R301, R303: does WT_SEL of MIP head `h`'s shadow set name a valid buffer? -/
def Dev.wtSelOk (d : Dev) (h : Nat) : Bool := bitOf (d.get MIP_WT_STATUS_VALID) (2 * h + d.get (HDn_MIP_CTRL_WT_SEL h))

/-- Step 7: the waveform tables of the heads are valid, and each head's shadow set applies as that of a STOPPED head (R264, R303). A
MIP head's set whose WT_SEL names no valid buffer stays open, as R301 says of the check that it fails (assumption 18). -/
def Dev.headSetsApply (img : List Byte) (d : Dev) : Dev :=
  foldS (imgHeads img) (fun h s =>
    if !s.isMip h then s.rasterApplyStopped h else if s.wtSelOk h then s.mipApplyStopped h else s)
    (d.wavesValid (imgHeads img) ((imgRecords img).getD []))

/-- The registers that show the running image. -/
def Dev.imageShown (img : List Byte) (d : Dev) : Dev :=
  let d1 := ((d.put TACK_IMAGE_VERSION_V (imgVersion img)).put TACK_BUILD_ID_V (imgBuildId img)).put TACK_IMAGE_SIZE_V (imgSize img)
  let d2 := ((d1.put TACK_KEY_KEY_USED (imgKeySlot img)).put TACK_ROLLBACK_IMAGE_COUNT (imgRollback img)).put TACK_FW_VERSION_V
    (leAt (imgGlobal img 5) 12 4)
  (d2.put TACK_STATUS_SLOT (if d.tack.source < 3 then d.tack.source + 1 else 0)).attempt d.tack.source 0 0xFF

/-- READY is reached (R520): the start-up times, the mode, a recorded shed level. -/
def Dev.readyReached (d : Dev) : Dev :=
  let now := (d.tb 3).total
  let us (t : Nat) : Nat := (now - t) / 1000 % 2 ^ 32
  let d1 := ((d.put (TOP_STEP_USk_V 8) (us d.power.stepAt)).put (TOP_STEP_USk_V 9) 0).put TOP_READY_US_V (us d.power.initAt)
  ((d1.put TOP_STATUS_INIT_STEP 15).setMode 3).shedRecorded

/-- IMAGE_VERIFY_COMPLETE: the checks end; the image begins to apply or the attempt fails. -/
def imageVerifyComplete (d : Dev) : Dev :=
  if d.mode ≠ 2 ∨ d.get TACK_STATUS_STATE ≠ 3 then d
  else
    let c := d.fullFault d.tack.image
    if c = 0 then (d.put TACK_STATUS_STATE 4).imageApply d.tack.image else d.loadFailed c

/-- IMAGE_APPLY_COMPLETE: step 7 of R59. A waveform table that the image wrote and that breaks R303 fails it with BAD_SECTION, as a
failure of VERIFY does (assumption 18), and DESIGN CHOICE: what steps 1 to 6 wrote stays (assumption 100); otherwise the sequencer starts and the mode becomes READY. -/
def imageApplyComplete (d : Dev) : Dev :=
  if d.mode ≠ 2 ∨ d.get TACK_STATUS_STATE ≠ 4 then d
  else if d.wavesBad (imgHeads d.tack.image) ((imgRecords d.tack.image).getD []) then d.loadFailed 6
  else
    let img := d.tack.image
    let fw := imgGlobal img 5
    let d2 := ((d.headSetsApply img).imageShown img).onTack (fun u => { u with
      fwLoad := leAt fw 0 4, fwEntry := leAt fw 4 4, fwCode := fw.drop 16, header := none, image := [] })
    (d2.put TACK_STATUS_STATE 5).readyReached

/-! ### The re-tack (R65, R69) -/

/-- RETACK_COPY_COMPLETE: the image has been copied. Where a unit read uncorrectable, the copy holds a free value. -/
def retackCopyComplete (errs : List (Nat × Ecc)) (d : Dev) : Dev :=
  if d.get TACK_RT_STATUS_STATE ≠ 1 then d
  else
    let n := d.get TACK_RT_LENGTH_V
    let (bad, l, d1) := d.agentRead 1 (d.get TACK_RT_ADDR_LO_V + d.get TACK_RT_ADDR_HI_V * 2 ^ 32) n errs
    let d2 := if bad then d1.drawn.onTack (fun u => { u with rtImage := leBytes n d1.free }) else d1.onTack (fun u => { u with rtImage := l })
    d2.put TACK_RT_STATUS_STATE 2

/-- RETACK_VERIFY_COMPLETE: the checks end; a failed re-tack is abandoned; the spares of the image as copied stay reserved. -/
def retackVerifyComplete (d : Dev) : Dev :=
  if d.get TACK_RT_STATUS_STATE ≠ 2 then d
  else
    let h := d.get TACK_RT_STATUS_HEAD
    let c := d.rtFault h d.tack.rtImage
    if c ≠ 0 then (d.attempt 5 c h).rtAbandon 5 c
    else (d.rtReserve (headImage d.tack.rtImage h)).put TACK_RT_STATUS_STATE 3

/-- The records of a HEAD image in PREPARE: memory words are written, register words enter the shadow set. -/
def Dev.rtRecord (r : TableRec) (d : Dev) : Dev :=
  if r.memory then d.agentWrite 1 r.addr (r.words.flatMap (leBytes 4))
  else r.pairs.foldl (fun s p => s.writePlain (p.1 - 0x7F00000000) p.2) d

/-- PREPARE's outcome: the section's records and sets stand as sealed shadow values, ARMED (R65); the seal ends idle (R282). -/
def Dev.rtPrepared (d : Dev) : Dev :=
  let h := d.get TACK_RT_STATUS_HEAD
  let l := (imgRecords d.tack.rtImage).getD []
  let keys := d.setKeys h ++ (l.filter (fun p => !p.2.memory)).flatMap (fun p => p.2.pairs.map (fun q => q.1 - 0x7F00000000))
  let waves := (d.headApply h (headImage d.tack.rtImage h)).wavesWritten h l
  let d1 := d.onTack (fun u => { u with rtShadow := keys.map (fun r => (r, d.wordBv r)), rtWaves := waves })
  (((l.foldl (fun s p => s.rtRecord p.2) d1).put (HDn_SHADOW_STATE_V h) 1).put TACK_RT_STATUS_STATE 4).idleEnd h

/-- RETACK_PREPARE_COMPLETE: the shadow set is filled and sealed; a head that does not scan takes the section at once. -/
def retackPrepareComplete (d : Dev) : Dev :=
  if d.get TACK_RT_STATUS_STATE ≠ 3 then d
  else
    let h := d.get TACK_RT_STATUS_HEAD
    let d2 := d.rtPrepared
    if d2.scans h then d2
    else if d2.isMip h then d2.restSet h
    else (d2.rasterApplyStopped h).rtAtRest h

/-! ### The commands of this file -/

/-- IMAGE_HEADER_READ. -/
def execImageHeaderRead (a b : Option (List Byte)) (s : State) := s.on (imageHeaderRead a b)
/-- IMAGE_READ_COMPLETE: the bytes after the header. -/
def execImageReadComplete (rest : List Byte) (s : State) := s.on (imageReadComplete rest)
/-- XSPI_READ_TIMEOUT. -/
def execXspiReadTimeout (s : State) := s.on xspiReadTimeout
/-- IMAGE_VERIFY_COMPLETE. -/
def execImageVerifyComplete (s : State) := s.on imageVerifyComplete
/-- IMAGE_APPLY_COMPLETE. -/
def execImageApplyComplete (s : State) := s.on imageApplyComplete
/-- RETACK_COPY_COMPLETE. -/
def execRetackCopyComplete (errs : List (Nat × Ecc)) (s : State) := s.on (retackCopyComplete errs)
/-- RETACK_VERIFY_COMPLETE. -/
def execRetackVerifyComplete (s : State) := s.on retackVerifyComplete
/-- RETACK_PREPARE_COMPLETE. -/
def execRetackPrepareComplete (s : State) := s.on retackPrepareComplete
/-- PUSH_FETCH_ERROR. -/
def execPushFetchError (s : State) := s.on pushFetchError

end Sys2Proof.Machine
end

