-- ==== Sys2Proof/Machine/Dispatch.lean ====
section
/-! DEFINITION. The effect of each command on everything but the queue: one arm per constructor, each a direct call of its meaning. -/
namespace Sys2Proof.Machine
open Host

/-- The effect of a command. -/
def exec (i : Instr) (s : State) : Host.Outcome State Fault Refusal :=
  match i with
  | .registerWrite r v whole => Sys2Proof.Machine.execRegisterWrite r v whole s
  | .powerOnReset => Sys2Proof.Machine.execPowerOnReset s
  | .perstNAssert => Sys2Proof.Machine.execPerstNAssert s
  | .perstNDeassert => Sys2Proof.Machine.execPerstNDeassert s
  | .topReset v => Sys2Proof.Machine.execTopReset v s
  | .perHeadReset h => Sys2Proof.Machine.execPerHeadReset h s
  | .initStepComplete x => Sys2Proof.Machine.execInitStepComplete x s
  | .refclkLost n => Sys2Proof.Machine.execRefclkLost n s
  | .refclkRegained n => Sys2Proof.Machine.execRefclkRegained n s
  | .peRefclkLost => Sys2Proof.Machine.execPeRefclkLost s
  | .harnessLinkSilent => Sys2Proof.Machine.execHarnessLinkSilent s
  | .thermalTrip n temp => Sys2Proof.Machine.execThermalTrip n temp s
  | .commitPoint h early => Sys2Proof.Machine.execCommitPoint h early s
  | .bankHandover n => Sys2Proof.Machine.execBankHandover n s
  | .imageHeaderRead a b => Sys2Proof.Machine.execImageHeaderRead a b s
  | .imageReadComplete rest => Sys2Proof.Machine.execImageReadComplete rest s
  | .xspiReadTimeout => Sys2Proof.Machine.execXspiReadTimeout s
  | .imageVerifyComplete => Sys2Proof.Machine.execImageVerifyComplete s
  | .imageApplyComplete => Sys2Proof.Machine.execImageApplyComplete s
  | .tackPushGo => Sys2Proof.Machine.execTackPushGo s
  | .burnRollback => Sys2Proof.Machine.execBurnRollback s
  | .retackStart h => Sys2Proof.Machine.execRetackStart h s
  | .retackAbandon => Sys2Proof.Machine.execRetackAbandon s
  | .retackCopyComplete errs => Sys2Proof.Machine.execRetackCopyComplete errs s
  | .retackVerifyComplete => Sys2Proof.Machine.execRetackVerifyComplete s
  | .retackPrepareComplete => Sys2Proof.Machine.execRetackPrepareComplete s
  | .tbLatch n v => Sys2Proof.Machine.execTbLatch n v s
  | .tbCtrlWrite n v => Sys2Proof.Machine.execTbCtrlWrite n v s
  | .servoMeasurement n src arg ppb => Sys2Proof.Machine.execServoMeasurement n src arg ppb s
  | .referenceLost input => Sys2Proof.Machine.execReferenceLost input s
  | .stepArm n => Sys2Proof.Machine.execStepArm n s
  | .stepCancel n => Sys2Proof.Machine.execStepCancel n s
  | .stepResume n => Sys2Proof.Machine.execStepResume n s
  | .stepApply n => Sys2Proof.Machine.execStepApply n s
  | .tcRateChange v => Sys2Proof.Machine.execTcRateChange v s
  | .ltcOutWord => Sys2Proof.Machine.execLtcOutWord s
  | .ltcInWord found hours minutes seconds frames drop user => Sys2Proof.Machine.execLtcInWord found hours minutes seconds frames drop user s
  | .syncInEdge format rate => Sys2Proof.Machine.execSyncInEdge format rate s
  | .syncOutFrame => Sys2Proof.Machine.execSyncOutFrame s
  | .ppsOutPulse => Sys2Proof.Machine.execPpsOutPulse s
  | .ppsOutPulseEnd => Sys2Proof.Machine.execPpsOutPulseEnd s
  | .ppsInEdge falling quarter => Sys2Proof.Machine.execPpsInEdge falling quarter s
  | .captureEvent c edge => Sys2Proof.Machine.execCaptureEvent c edge s
  | .capPop c v => Sys2Proof.Machine.execCapPop c v s
  | .ptpSyncTx p => Sys2Proof.Machine.execPtpSyncTx p s
  | .ptpSyncRx p domain version2 arrival twoStep seq origin corr => Sys2Proof.Machine.execPtpSyncRx p domain version2 arrival twoStep seq origin corr s
  | .ptpFollowUpRx p domain version2 came seq origin corr => Sys2Proof.Machine.execPtpFollowUpRx p domain version2 came seq origin corr s
  | .ptpDelayReqTx p => Sys2Proof.Machine.execPtpDelayReqTx p s
  | .ptpDelayReqRx p domain version2 arrival request requester => Sys2Proof.Machine.execPtpDelayReqRx p domain version2 arrival request requester s
  | .ptpDelayRespRx p domain version2 came response t4 => Sys2Proof.Machine.execPtpDelayRespRx p domain version2 came response t4 s
  | .ptpAnnounceTx p => Sys2Proof.Machine.execPtpAnnounceTx p s
  | .ptpAnnounceRx p domain version2 wellFormed senderId senderPort gmId priority1 quality priority2 steps => Sys2Proof.Machine.execPtpAnnounceRx p domain version2 wellFormed senderId senderPort gmId priority1 quality priority2 steps s
  | .ptpAnnounceReceiptTimeout p => Sys2Proof.Machine.execPtpAnnounceReceiptTimeout p s
  | .ptpManagementGet p domain version2 wellFormed asker dataSet => Sys2Proof.Machine.execPtpManagementGet p domain version2 wellFormed asker dataSet s
  | .ptpManagementSet p domain version2 wellFormed asked => Sys2Proof.Machine.execPtpManagementSet p domain version2 wellFormed asked s
  | .ptpSignalingRx p domain version2 wellFormed => Sys2Proof.Machine.execPtpSignalingRx p domain version2 wellFormed s
  | .timeSetTx => Sys2Proof.Machine.execTimeSetTx s
  | .timeSetRx link blocks => Sys2Proof.Machine.execTimeSetRx link blocks s
  | .teamDelayReqTx => Sys2Proof.Machine.execTeamDelayReqTx s
  | .teamDelayReqRx link seq => Sys2Proof.Machine.execTeamDelayReqRx link seq s
  | .teamDelayRspRx link seq ns frac => Sys2Proof.Machine.execTeamDelayRspRx link seq ns frac s
  | .teamStepApply n => Sys2Proof.Machine.execTeamStepApply n s
  | .markArm m v => Sys2Proof.Machine.execMarkArm m v s
  | .markDisarm m v => Sys2Proof.Machine.execMarkDisarm m v s
  | .schedDisarmAll => Sys2Proof.Machine.execSchedDisarmAll s
  | .markTrigger marks => Sys2Proof.Machine.execMarkTrigger marks s
  | .markPositionPassed m => Sys2Proof.Machine.execMarkPositionPassed m s
  | .pctlPulseEnd p => Sys2Proof.Machine.execPctlPulseEnd p s
  | .streamEnable n format fbCount => Sys2Proof.Machine.execStreamEnable n format fbCount s
  | .streamDisable n format fbCount => Sys2Proof.Machine.execStreamDisable n format fbCount s
  | .streamFrameStart n kind mbz frame height => Sys2Proof.Machine.execStreamFrameStart n kind mbz frame height s
  | .streamFrameEnd n mbz height frame => Sys2Proof.Machine.execStreamFrameEnd n mbz height frame s
  | .streamExposureStart n mbz height frame => Sys2Proof.Machine.execStreamExposureStart n mbz height frame s
  | .streamExposureEnd n mbz height frame => Sys2Proof.Machine.execStreamExposureEnd n mbz height frame s
  | .streamLineStart n format mbz frame line width => Sys2Proof.Machine.execStreamLineStart n format mbz frame line width s
  | .streamDataBlock n payload => Sys2Proof.Machine.execStreamDataBlock n payload s
  | .streamLineEnd n mbz crc line => Sys2Proof.Machine.execStreamLineEnd n mbz crc line s
  | .streamFrameTimeout n linkDown => Sys2Proof.Machine.execStreamFrameTimeout n linkDown s
  | .lineStoreComplete n => Sys2Proof.Machine.execLineStoreComplete n s
  | .tpgFrameStart n => Sys2Proof.Machine.execTpgFrameStart n s
  | .tpgLine n => Sys2Proof.Machine.execTpgLine n s
  | .lineLockAcquire h => Sys2Proof.Machine.execLineLockAcquire h s
  | .engineParityError k => Sys2Proof.Machine.execEngineParityError k s
  | .engineBistStart k => Sys2Proof.Machine.execEngineBistStart k s
  | .engineBistComplete k pass => Sys2Proof.Machine.execEngineBistComplete k pass s
  | .engineSubstitutionComplete => Sys2Proof.Machine.execEngineSubstitutionComplete s
  | .bandReading h => Sys2Proof.Machine.execBandReading h s
  | .anchorCopyComplete h => Sys2Proof.Machine.execAnchorCopyComplete h s
  | .odBuildStart => Sys2Proof.Machine.execOdBuildStart s
  | .odBuildComplete us => Sys2Proof.Machine.execOdBuildComplete us s
  | .headFrameStart h => Sys2Proof.Machine.execHeadFrameStart h s
  | .headLineStart h early planes maps errs => Sys2Proof.Machine.execHeadLineStart h early planes maps errs s
  | .headCommit h => Sys2Proof.Machine.execHeadCommit h s
  | .headRun h => Sys2Proof.Machine.execHeadRun h s
  | .headStop h => Sys2Proof.Machine.execHeadStop h s
  | .hpllLock h => Sys2Proof.Machine.execHpllLock h s
  | .hpllLockTimeout h => Sys2Proof.Machine.execHpllLockTimeout h s
  | .regaitLungeTimeout h => Sys2Proof.Machine.execRegaitLungeTimeout h s
  | .queuePush h v => Sys2Proof.Machine.execQueuePush h v s
  | .queueFlush h => Sys2Proof.Machine.execQueueFlush h s
  | .headUnderrun h early => Sys2Proof.Machine.execHeadUnderrun h early s
  | .recordPop h => Sys2Proof.Machine.execRecordPop h s
  | .headCmdWrite h => Sys2Proof.Machine.execHeadCmdWrite h s
  | .headCmdRead h => Sys2Proof.Machine.execHeadCmdRead h s
  | .cmdRspRx j status seq addr data => Sys2Proof.Machine.execCmdRspRx j status seq addr data s
  | .cmdRspTimeout h => Sys2Proof.Machine.execCmdRspTimeout h s
  | .lockNHigh j => Sys2Proof.Machine.execLockNHigh j s
  | .lockNLow j => Sys2Proof.Machine.execLockNLow j s
  | .mipPhaseBoundary h early => Sys2Proof.Machine.execMipPhaseBoundary h early s
  | .mipPassEnd h reads => Sys2Proof.Machine.execMipPassEnd h reads s
  | .mipRun h => Sys2Proof.Machine.execMipRun h s
  | .mipStop h => Sys2Proof.Machine.execMipStop h s
  | .mipRefreshGo h => Sys2Proof.Machine.execMipRefreshGo h s
  | .mipWtLoad h buffer => Sys2Proof.Machine.execMipWtLoad h buffer s
  | .mipWtLoadDone errs => Sys2Proof.Machine.execMipWtLoadDone errs s
  | .mipReadDataRx h plane row first count payload crc => Sys2Proof.Machine.execMipReadDataRx h plane row first count payload crc s
  | .mipReadbackTimeout h => Sys2Proof.Machine.execMipReadbackTimeout h s
  | .balanceFault c => Sys2Proof.Machine.execBalanceFault c s
  | .halterRender => Sys2Proof.Machine.execHalterRender s
  | .halterPhase => Sys2Proof.Machine.execHalterPhase s
  | .panelPowerOn h => Sys2Proof.Machine.execPanelPowerOn h s
  | .panelPowerOff h => Sys2Proof.Machine.execPanelPowerOff h s
  | .rasterRampStep h => Sys2Proof.Machine.execRasterRampStep h s
  | .mipRampStep h early => Sys2Proof.Machine.execMipRampStep h early s
  | .rampSettleTimeout h => Sys2Proof.Machine.execRampSettleTimeout h s
  | .pumpFailure => Sys2Proof.Machine.execPumpFailure s
  | .pwrfailNLow => Sys2Proof.Machine.execPwrfailNLow s
  | .vsysCritical mv => Sys2Proof.Machine.execVsysCritical mv s
  | .vbiasLow mv => Sys2Proof.Machine.execVbiasLow mv s
  | .harDischGo v => Sys2Proof.Machine.execHarDischGo v s
  | .outputOverload o => Sys2Proof.Machine.execOutputOverload o s
  | .harnessOvertemp temp => Sys2Proof.Machine.execHarnessOvertemp temp s
  | .dischargePinSwitch h => Sys2Proof.Machine.execDischargePinSwitch h s
  | .dischargeComplete h => Sys2Proof.Machine.execDischargeComplete h s
  | .holdArmed mv => Sys2Proof.Machine.execHoldArmed mv s
  | .holdLow mv => Sys2Proof.Machine.execHoldLow mv s
  | .girthMeasurement g mohm range => Sys2Proof.Machine.execGirthMeasurement g mohm range s
  | .girthRebase g rise confirm => Sys2Proof.Machine.execGirthRebase g rise confirm s
  | .thermConversion t code => Sys2Proof.Machine.execThermConversion t code s
  | .avddgLow mv => Sys2Proof.Machine.execAvddgLow mv s
  | .laneBlockRx n h0 h1 payload fill => Sys2Proof.Machine.execLaneBlockRx n h0 h1 payload fill s
  | .blockLock n ppm => Sys2Proof.Machine.execBlockLock n ppm s
  | .blockLockLoss n => Sys2Proof.Machine.execBlockLockLoss n s
  | .lossOfSignal n => Sys2Proof.Machine.execLossOfSignal n s
  | .lossOfLock n => Sys2Proof.Machine.execLossOfLock n s
  | .lungeTimeout n => Sys2Proof.Machine.execLungeTimeout n s
  | .absentRetry n => Sys2Proof.Machine.execAbsentRetry n s
  | .alignRx n a skew late => Sys2Proof.Machine.execAlignRx n a skew late s
  | .greetSetRx j g => Sys2Proof.Machine.execGreetSetRx j g s
  | .alignColumnTx j => Sys2Proof.Machine.execAlignColumnTx j s
  | .exerciseColumnTx j => Sys2Proof.Machine.execExerciseColumnTx j s
  | .exerciseRx n bits => Sys2Proof.Machine.execExerciseRx n bits s
  | .relunge j v => Sys2Proof.Machine.execRelunge j v s
  | .spareGo j v => Sys2Proof.Machine.execSpareGo j v s
  | .spareCompareDone j compared mismatches => Sys2Proof.Machine.execSpareCompareDone j compared mismatches s
  | .adaptFreeze n => Sys2Proof.Machine.execAdaptFreeze n s
  | .revertCheck n => Sys2Proof.Machine.execRevertCheck n s
  | .eyeMarginUpdate n height width ctle dfe => Sys2Proof.Machine.execEyeMarginUpdate n height width ctle dfe s
  | .laneDegraded n => Sys2Proof.Machine.execLaneDegraded n s
  | .eyeScanGo n v => Sys2Proof.Machine.execEyeScanGo n v s
  | .eyeScanDone n errors => Sys2Proof.Machine.execEyeScanDone n errors s
  | .testInject n v => Sys2Proof.Machine.execTestInject n v s
  | .teamForwardedRead p o => Sys2Proof.Machine.execTeamForwardedRead p o s
  | .teamForwardedWrite p offset v => Sys2Proof.Machine.execTeamForwardedWrite p offset v s
  | .teamCmdReqRx link op seq target source offset data => Sys2Proof.Machine.execTeamCmdReqRx link op seq target source offset data s
  | .teamCmdRspRx link status seq target source offset data => Sys2Proof.Machine.execTeamCmdRspRx link status seq target source offset data s
  | .teamForwardTimeout => Sys2Proof.Machine.execTeamForwardTimeout s
  | .teamEventRx link source seq bytes => Sys2Proof.Machine.execTeamEventRx link source seq bytes s
  | .teamProbe v => Sys2Proof.Machine.execTeamProbe v s
  | .hostMemoryRead o n x => Sys2Proof.Machine.execHostMemoryRead o n x s
  | .hostMemoryWrite o bytes errs portA => Sys2Proof.Machine.execHostMemoryWrite o bytes errs portA s
  | .pcieLinkReset down => Sys2Proof.Machine.execPcieLinkReset down s
  | .msixHeldSend x => Sys2Proof.Machine.execMsixHeldSend x s
  | .moderationIntervalEnd v => Sys2Proof.Machine.execModerationIntervalEnd v s
  | .dmaEnable c => Sys2Proof.Machine.execDmaEnable c s
  | .dmaDisable c => Sys2Proof.Machine.execDmaDisable c s
  | .dmaGo c => Sys2Proof.Machine.execDmaGo c s
  | .dmaRestart c => Sys2Proof.Machine.execDmaRestart c s
  | .dmaAbort c => Sys2Proof.Machine.execDmaAbort c s
  | .dmaTailWrite c v host => Sys2Proof.Machine.execDmaTailWrite c v host s
  | .dmaDescriptorDone c host errs => Sys2Proof.Machine.execDmaDescriptorDone c host errs s
  | .dmaDescriptorFail c host hostRead errs => Sys2Proof.Machine.execDmaDescriptorFail c host hostRead errs s
  | .evtEnable bank => Sys2Proof.Machine.execEvtEnable bank s
  | .evtConsWrite v => Sys2Proof.Machine.execEvtConsWrite v s
  | .evtInject v => Sys2Proof.Machine.execEvtInject v s
  | .evtFlogClear v => Sys2Proof.Machine.execEvtFlogClear v s
  | .evtStatusEnableWrite which v => Sys2Proof.Machine.execEvtStatusEnableWrite which v s
  | .spiWrite a bytes => Sys2Proof.Machine.execSpiWrite a bytes s
  | .spiRead a n late errs => Sys2Proof.Machine.execSpiRead a n late errs s
  | .spiStatus => Sys2Proof.Machine.execSpiStatus s
  | .spiWake => Sys2Proof.Machine.execSpiWake s
  | .spiBadOpcode op => Sys2Proof.Machine.execSpiBadOpcode op s
  | .ethFrameRx p frame fcs => Sys2Proof.Machine.execEthFrameRx p frame fcs s
  | .netQueueTailWrite q v => Sys2Proof.Machine.execNetQueueTailWrite q v s
  | .ethFrameTxDone q errs => Sys2Proof.Machine.execEthFrameTxDone q errs s
  | .tileStreamDatagramRx payload => Sys2Proof.Machine.execTileStreamDatagramRx payload s
  | .tileStreamDatagramTx h => Sys2Proof.Machine.execTileStreamDatagramTx h s
  | .sbHandoverRequest n v => Sys2Proof.Machine.execSbHandoverRequest n v s
  | .bankWipeDone n failRows => Sys2Proof.Machine.execBankWipeDone n failRows s
  | .memAtomAdd32 x => Sys2Proof.Machine.execMemAtomAdd32 x s
  | .memAtomAdd64 x => Sys2Proof.Machine.execMemAtomAdd64 x s
  | .memAtomSwap32 x => Sys2Proof.Machine.execMemAtomSwap32 x s
  | .memAtomSwap64 x => Sys2Proof.Machine.execMemAtomSwap64 x s
  | .marchPGo bank background => Sys2Proof.Machine.execMarchPGo bank background s
  | .marchPAbort bank background => Sys2Proof.Machine.execMarchPAbort bank background s
  | .marchPRowStart => Sys2Proof.Machine.execMarchPRowStart s
  | .marchPRowDone fails => Sys2Proof.Machine.execMarchPRowDone fails s
  | .marchPResume => Sys2Proof.Machine.execMarchPResume s
  | .initMapFillDone g => Sys2Proof.Machine.execInitMapFillDone g s
  | .backgroundFillComplete => Sys2Proof.Machine.execBackgroundFillComplete s
  | .groomRead dram ecc intervened => Sys2Proof.Machine.execGroomRead dram ecc intervened s
  | .targetedWriteback k => Sys2Proof.Machine.execTargetedWriteback k s
  | .clogEntryExpire k => Sys2Proof.Machine.execClogEntryExpire k s
  | .dramPageRemap => Sys2Proof.Machine.execDramPageRemap s
  | .ceTableLoad slot => Sys2Proof.Machine.execCeTableLoad slot s
  | .ceTableLoadDone errs => Sys2Proof.Machine.execCeTableLoadDone errs s
  | .ceQueueEnable q => Sys2Proof.Machine.execCeQueueEnable q s
  | .ceQueueDisable q => Sys2Proof.Machine.execCeQueueDisable q s
  | .ceQueueGo q => Sys2Proof.Machine.execCeQueueGo q s
  | .ceQueueRestart q => Sys2Proof.Machine.execCeQueueRestart q s
  | .ceQueueAbort q => Sys2Proof.Machine.execCeQueueAbort q s
  | .ceTailWrite q v => Sys2Proof.Machine.execCeTailWrite q v s
  | .ceJobEnd q errs => Sys2Proof.Machine.execCeJobEnd q errs s
  | .calRequestItem item => Sys2Proof.Machine.execCalRequestItem item s
  | .calRequestAll item => Sys2Proof.Machine.execCalRequestAll item s
  | .internalSensorReading har phys => Sys2Proof.Machine.execInternalSensorReading har phys s
  | .calRunStart drift refv bandgap ua => Sys2Proof.Machine.execCalRunStart drift refv bandgap ua s
  | .calMeasureDone drift refv bandgap m => Sys2Proof.Machine.execCalMeasureDone drift refv bandgap m s
  | .calResultApply item => Sys2Proof.Machine.execCalResultApply item s
  | .calQuietTimeout => Sys2Proof.Machine.execCalQuietTimeout s
  | .refvRecheck drift refv bandgap => Sys2Proof.Machine.execRefvRecheck drift refv bandgap s
  | .calStoreGo => Sys2Proof.Machine.execCalStoreGo s
  | .calAutoStore => Sys2Proof.Machine.execCalAutoStore s
  | .calStoreEraseDone => Sys2Proof.Machine.execCalStoreEraseDone s
  | .calStoreProgramDone ok => Sys2Proof.Machine.execCalStoreProgramDone ok s
  | .calStoreCommitDone ok => Sys2Proof.Machine.execCalStoreCommitDone ok s
  | .farApprove k => Sys2Proof.Machine.execFarApprove k s
  | .farDecline k => Sys2Proof.Machine.execFarDecline k s
  | .farrierLogWrite ok => Sys2Proof.Machine.execFarrierLogWrite ok s
  | .sensorFailure p => Sys2Proof.Machine.execSensorFailure p s
  | .lockstepMismatch x => Sys2Proof.Machine.execLockstepMismatch x s
  | .lockstepRestartDone us => Sys2Proof.Machine.execLockstepRestartDone us s
  | .seqCheckpoint => Sys2Proof.Machine.execSeqCheckpoint s
  | .rungRequestGallop => Sys2Proof.Machine.execRungRequestGallop s
  | .rungRequestCanter => Sys2Proof.Machine.execRungRequestCanter s
  | .rungRequestTrot => Sys2Proof.Machine.execRungRequestTrot s
  | .rungRequestWalk => Sys2Proof.Machine.execRungRequestWalk s
  | .rungRequestStand => Sys2Proof.Machine.execRungRequestStand s
  | .rungRequestStable => Sys2Proof.Machine.execRungRequestStable s
  | .rungEntryBegin => Sys2Proof.Machine.execRungEntryBegin s
  | .rungRequestTimeout => Sys2Proof.Machine.execRungRequestTimeout s
  | .rungEntryComplete repairs => Sys2Proof.Machine.execRungEntryComplete repairs s
  | .wakeNLow => Sys2Proof.Machine.execWakeNLow s
  | .wakeTimer => Sys2Proof.Machine.execWakeTimer s
  | .wakeRelease => Sys2Proof.Machine.execWakeRelease s
  | .rungExitComplete bad => Sys2Proof.Machine.execRungExitComplete bad s
  | .shedLevelReached n mv => Sys2Proof.Machine.execShedLevelReached n mv s
  | .shedRecovery mv => Sys2Proof.Machine.execShedRecovery mv s
  | .reenableOk mv => Sys2Proof.Machine.execReenableOk mv s
  | .shedReenable => Sys2Proof.Machine.execShedReenable s
  | .railFault k mv => Sys2Proof.Machine.execRailFault k mv s
  | .xtal32kLoss => Sys2Proof.Machine.execXtal32kLoss s
  | .xtal32kRestore => Sys2Proof.Machine.execXtal32kRestore s
  | .tapReset => Sys2Proof.Machine.execTapReset s
  | .jtagBypass n tdi => Sys2Proof.Machine.execJtagBypass n tdi s
  | .jtagIdcode => Sys2Proof.Machine.execJtagIdcode s
  | .samplePreload pins data => Sys2Proof.Machine.execSamplePreload pins data s
  | .extest pins data => Sys2Proof.Machine.execExtest pins data s
  | .extestPulse pins data => Sys2Proof.Machine.execExtestPulse pins data s
  | .extestTrain pins data n => Sys2Proof.Machine.execExtestTrain pins data n s
  | .clamp n tdi => Sys2Proof.Machine.execClamp n tdi s
  | .highz n tdi => Sys2Proof.Machine.execHighz n tdi s
  | .mbistRun => Sys2Proof.Machine.execMbistRun s
  | .mbistDone rows engines => Sys2Proof.Machine.execMbistDone rows engines s
  | .girthTest => Sys2Proof.Machine.execGirthTest s
  | .leaveIntrusive => Sys2Proof.Machine.execLeaveIntrusive s
  | .testSnap pins => Sys2Proof.Machine.execTestSnap pins s
  | .ethBlockLockLoss p fault => Sys2Proof.Machine.execEthBlockLockLoss p fault s
  | .ethBlockLockGained p => Sys2Proof.Machine.execEthBlockLockGained p s
  | .pcieLinkUp x errs => Sys2Proof.Machine.execPcieLinkUp x errs s
  | .pcieRequestWake => Sys2Proof.Machine.execPcieRequestWake s
  | .haltBmpDataRead => Sys2Proof.Machine.execHaltBmpDataRead s
  | .pushFetchError => Sys2Proof.Machine.execPushFetchError s
  | .holdExhausted mv => Sys2Proof.Machine.execHoldExhausted mv s
  | .avddgRestored mv => Sys2Proof.Machine.execAvddgRestored mv s
  | .dramRefreshDerate c code hot => Sys2Proof.Machine.execDramRefreshDerate c code hot s
  | .girthTestLoopDone g mohm mv vbias => Sys2Proof.Machine.execGirthTestLoopDone g mohm mv vbias s

end Sys2Proof.Machine
end

