-- ==== Sys2Proof/Safety.lean ====
section
/-! DEFINITION. The notions in which claims about the block are stated: when a command acts at once, what two states share, and the
invariant of R19. -/
namespace Sys2Proof.Machine

/-- No intrusive instruction of the test access port halts the block (R582). -/
abbrev State.live (s : State) : Prop := s.dev.halted = false

/-- A host access acts now: the block is not halted, not in OFF (R16), and neither in Walk nor entering or leaving it (R514). -/
abbrev State.hostLive (s : State) : Prop := s.dev.halted = false ∧ s.dev.mode ≠ 0 ∧ s.dev.about 3 = false

/-- A host's write of `v` to register `r` acts now and passes R4, R6 and R16. -/
abbrev State.takes (s : State) (r v : Nat) : Prop := s.hostLive ∧ s.dev.writeOk r v = true

/-- The registers that follow the heads' scanning after any command (R19): TOP_STATUS, and the counts and times of READY and RUN. -/
def modeRegs : List Nat := [TOP_STATUS, TOP_MODE_COUNTk 3, TOP_MODE_COUNTk 4, TOP_MODE_TIME_Sk 3, TOP_MODE_TIME_Sk 4]

/-- Every register outside `l` and `modeRegs` holds the same word. -/
def keepsRegs (l : List Nat) (d e : Dev) : Prop := ∀ r, r ∉ modeRegs → r ∉ l → e.word r = d.word r

/-- Every byte of device memory reads as before. -/
def keepsMem (d e : Dev) : Prop := ∀ a, e.byteAt a = d.byteAt a

/-- Every byte of device memory outside the `n` from address `a` up reads as before. -/
def keepsMemBut (a n : Nat) (d e : Dev) : Prop := ∀ x, x < a ∨ a + n ≤ x → e.byteAt x = d.byteAt x

/-- The command completes: it answers a next state whose queue is the one it was given and whose block meets `P`. -/
def Completes (c : Instr) (s : State) (P : Dev → Prop) : Prop := ∃ t, exec c s = .next t ∧ t.pending = s.pending ∧ P t.dev

/-- Every panel is OFF, and no fast discharge is in progress (R341, R346). -/
abbrev Dev.panelsOff (d : Dev) : Prop := (∀ h, h < 8 → d.panelState h = 0) ∧ d.flag HAR_DISCH_STATUS_ACTIVE = false

/-- R19: in RUN some head scans, in READY none. -/
abbrev Dev.modeAgrees (d : Dev) : Prop := (d.mode = 3 → d.anyScans = false) ∧ (d.mode = 4 → d.anyScans = true)

end Sys2Proof.Machine

namespace Sys2Proof

/-- The commands that act while the functional logic is halted (R582): those of the test access port, and the reset sources. -/
def Instr.actsHalted : Instr → Bool
  | .powerOnReset | .perstNAssert | .perstNDeassert | .topReset _ | .tapReset | .jtagBypass .. | .jtagIdcode | .samplePreload ..
  | .extest .. | .extestPulse .. | .extestTrain .. | .clamp .. | .highz .. | .mbistRun | .mbistDone .. | .girthTest
  | .leaveIntrusive => true
  | _ => false

end Sys2Proof
end

