-- ==== Sys2Proof/Certificates/Slice0/Obligations.lean ====
section
/-! DEFINITION. The statements for the provers. A row of a group says, for one command, for every state that meets the
hypotheses: exec answers a next state, its queue is the one given, and what the block then holds (`e`), against what it held
(`s.dev`). -/
open Sys2Proof Sys2Proof.Machine

/-- The reset sources of the device and the start-up steps. From every state in which the functional logic is not halted, initStepComplete completes, and from every state each of powerOnReset, perstNAssert, perstNDeassert, topReset: exec answers a next state, whose queue is the one given and whose block is the command's own effect on the block it found. Further clauses, each under hypotheses of its own on the state and the operands, say what then holds. powerOnReset: mode, TOP_RESET_CAUSE_LAST, memory, tap, flash. perstNAssert: mode, TOP_RESET_CAUSE_LAST, TOP_STATUS_INIT_STEP, power.perstLow, memory, time, evt.flog. perstNDeassert: power.perstLow; the frame of the registers. topReset: mode, TOP_RESET_CAUSE_LAST, TOP_STATUS_INIT_STEP, memory, time, evt.flog. initStepComplete: mode, TOP_STATUS_INIT_STEP, TOP_STATUS_MODE, TACK_STATUS_SOURCE. Rests on R28, R514, R520, R522. -/
def Obligations.ResetsEnterInit : Prop :=
  (∀ (s : State),
    Completes (.powerOnReset) s (fun e => e = settle (powerOnReset s.dev))) ∧
  (∀ (s : State),
    Completes (.perstNAssert) s (fun e => e = settle (perstAssert s.dev))) ∧
  (∀ (s : State),
    Completes (.perstNDeassert) s (fun e => e = settle (perstDeassert s.dev))) ∧
  (∀ (s : State) (v : Word),
    Completes (.topReset v) s (fun e => e = settle ((topResetWrite v.toNat) s.dev))) ∧
  (∀ (s : State) (x : InitData),
    s.dev.halted = false → Completes (.initStepComplete x) s (fun e => e = settle ((initStepComplete x) s.dev))) ∧
  (∀ (s : State),
    s.dev.flag HAR_DISCH_STATUS_ACTIVE = false →
    Completes (.powerOnReset) s (fun e =>
    e.mode = 1 ∧ e.get TOP_RESET_CAUSE_LAST = 1 ∧ e.mem = [] ∧ e.tap = {} ∧ e.flash = s.dev.flash)) ∧
  (∀ (s : State),
    s.live → s.dev.mode ≠ 0 → s.dev.panelsOff →
    Completes (.perstNAssert) s (fun e =>
    e.mode = 1 ∧ e.get TOP_RESET_CAUSE_LAST = 4 ∧ e.get TOP_STATUS_INIT_STEP = 1 ∧ e.power.perstLow = true ∧ e.mem = [] ∧ e.time = s.dev.time ∧ e.evt.flog = s.dev.evt.flog)) ∧
  (∀ (s : State),
    s.dev.mode ≠ 0 →
    Completes (.perstNDeassert) s (fun e =>
    e = settle (s.dev.onPower (fun u => { u with perstLow := false })) ∧ e.power.perstLow = false ∧ keepsRegs [] s.dev e ∧ keepsMem s.dev e)) ∧
  (∀ (s : State),
    s.live → s.dev.mode ≠ 0 → s.dev.writeOk TOP_RESET 0x5A = true → s.dev.panelsOff →
    Completes (.topReset 0x5A) s (fun e =>
    e.mode = 1 ∧ e.get TOP_RESET_CAUSE_LAST = 5 ∧ e.get TOP_STATUS_INIT_STEP = 1 ∧ e.mem = [] ∧ e.time = s.dev.time ∧ e.evt.flog = s.dev.evt.flog)) ∧
  (∀ (s : State) (x : InitData),
    s.live → s.dev.mode = 1 → s.dev.get TOP_STATUS_INIT_STEP = 7 → s.dev.power.perstLow = false → x.trained = true →
    Completes (.initStepComplete x) s (fun e =>
    e.mode = 2 ∧ e.get TOP_STATUS_INIT_STEP = 8 ∧ e.get TOP_STATUS_MODE = 2 ∧ e.get TACK_STATUS_SOURCE = x.bootsel)) ∧
  (∀ (s : State) (x : InitData) (k : Fin 8),
    s.live → s.dev.mode = 1 → s.dev.get TOP_STATUS_INIT_STEP = k.val → s.dev.power.perstLow = false →
    Completes (.initStepComplete x) s (fun e =>
    e = settle ((((s.dev.put (TOP_STEP_USk_V k) (((s.dev.tb 3).total - s.dev.power.stepAt) / 1000 % 2 ^ 32)).onPower (fun u => { u with stepAt := (s.dev.tb 3).total })).put TOP_STATUS_INIT_STEP (k + 1)).initStep k x)))

/-- Losses and returns of the reference clocks. From every state in which the functional logic is not halted, each of refclkRegained, refclkLost, peRefclkLost, xtal32kLoss, xtal32kRestore completes: exec answers a next state, whose queue is the one given and whose block is the command's own effect on the block it found. Further clauses, each under hypotheses of its own on the state and the operands, say what then holds. refclkRegained: TOP_REFCLK_STATUS. refclkLost: TOP_REFCLK_STATUS. peRefclkLost: the next block outright. xtal32kLoss: power.islandRc, evt.flog. xtal32kRestore: power.islandRc; the frame of the registers. Rests on R26, R27, R550. -/
def Obligations.ClockEvents : Prop :=
  (∀ (s : State) (n : Fin 2),
    s.dev.halted = false → Completes (.refclkRegained n) s (fun e => e = settle ((refclkRegained n) s.dev))) ∧
  (∀ (s : State) (n : Fin 2),
    s.dev.halted = false → Completes (.refclkLost n) s (fun e => e = settle ((refclkLost n) s.dev))) ∧
  (∀ (s : State),
    s.dev.halted = false → Completes (.peRefclkLost) s (fun e => e = settle (peRefclkLost s.dev))) ∧
  (∀ (s : State),
    s.dev.halted = false → Completes (.xtal32kLoss) s (fun e => e = settle (xtalLoss s.dev))) ∧
  (∀ (s : State),
    s.dev.halted = false → Completes (.xtal32kRestore) s (fun e => e = settle (xtalRestore s.dev))) ∧
  (∀ (s : State) (n : Fin 2),
    s.live →
    Completes (.refclkRegained n) s (fun e =>
    bitOf (e.get TOP_REFCLK_STATUS_V) n = true ∧ keepsMem s.dev e)) ∧
  (∀ (s : State) (n : Fin 2),
    s.live → bitOf (s.dev.get TOP_REFCLK_STATUS_V) (1 - n) = true →
    Completes (.refclkLost n) s (fun e =>
    bitOf (e.get TOP_REFCLK_STATUS_V) n = false ∧ bitOf (e.get TOP_REFCLK_STATUS_V) (1 - n) = true)) ∧
  (∀ (s : State),
    s.live →
    Completes (.peRefclkLost) s (fun e =>
    e = settle (pcieLinkReset true (s.dev.put TOP_REFCLK_STATUS_V (putBits (s.dev.get TOP_REFCLK_STATUS_V) 2 1 0))))) ∧
  (∀ (s : State),
    s.live → s.dev.power.islandRc = false →
    Completes (.xtal32kLoss) s (fun e =>
    e.power.islandRc = true ∧ e.evt.flog ≠ [])) ∧
  (∀ (s : State),
    s.live →
    Completes (.xtal32kRestore) s (fun e =>
    e.power.islandRc = false ∧ keepsRegs [] s.dev e ∧ keepsMem s.dev e))

/-- Fatal causes, lockstep and checkpoints. From every state in which the functional logic is not halted, each of thermalTrip, harnessLinkSilent, lockstepMismatch, lockstepRestartDone, seqCheckpoint completes: exec answers a next state, whose queue is the one given and whose block is the command's own effect on the block it found. Further clauses, each under hypotheses of its own on the state and the operands, say what then holds. thermalTrip: mode, TOP_STATUS_SAFE_CAUSE. harnessLinkSilent: mode, TOP_STATUS_SAFE_CAUSE, HAR_STATUS_LINK_UP. lockstepMismatch: FAR_LOCKSTEP_COUNT, FAR_LOCKSTEP_GROUP, FAR_LOCKSTEP_TIME, far.restarts. lockstepRestartDone: FAR_LOCKSTEP_LAST_US, mode, TOP_STATUS_SAFE_CAUSE; the frame of the registers. seqCheckpoint: far.checkpoint; the frame of the registers. Rests on R22, R502. -/
def Obligations.FatalCauses : Prop :=
  (∀ (s : State) (n : Fin 8) (temp : Int),
    s.dev.halted = false → Completes (.thermalTrip n temp) s (fun e => e = settle ((thermalTrip n temp) s.dev))) ∧
  (∀ (s : State),
    s.dev.halted = false → Completes (.harnessLinkSilent) s (fun e => e = settle (harnessSilent s.dev))) ∧
  (∀ (s : State) (x : Mismatch),
    s.dev.halted = false → Completes (.lockstepMismatch x) s (fun e => e = settle ((lockstepMismatch x.group (x.word.map (fun p => (p.1.val, p.2)))) s.dev))) ∧
  (∀ (s : State) (us : Nat),
    s.dev.halted = false → Completes (.lockstepRestartDone us) s (fun e => e = settle ((lockstepDone us) s.dev))) ∧
  (∀ (s : State),
    s.dev.halted = false → Completes (.seqCheckpoint) s (fun e => e = settle (seqCheckpoint s.dev))) ∧
  (∀ (s : State) (n : Fin 8) (temp : Int),
    s.live → 2080 < temp → s.dev.mode ≠ 0 → s.dev.mode ≠ 7 →
    Completes (.thermalTrip n temp) s (fun e =>
    e = settle ((s.dev.putI TOP_TEMP_MAX_V (max temp (s.dev.getI TOP_TEMP_MAX_V))).fatal 5 n) ∧ e.mode = 7 ∧ e.get TOP_STATUS_SAFE_CAUSE = 5)) ∧
  (∀ (s : State),
    s.live → s.dev.mode ≠ 0 → s.dev.mode ≠ 7 →
    Completes (.harnessLinkSilent) s (fun e =>
    e = settle (((s.dev.discharge 8 (fun _ => true)).put HAR_STATUS_LINK_UP 0).fatal 4 0) ∧ e.mode = 7 ∧ e.get TOP_STATUS_SAFE_CAUSE = 4 ∧ e.get HAR_STATUS_LINK_UP = 0)) ∧
  (∀ (s : State) (g : Fin 65536),
    s.live → s.dev.mode ≠ 0 → s.dev.far.restarts = [] →
    Completes (.lockstepMismatch ⟨g, none⟩) s (fun e =>
    e = settle (((((Dev.farEvt 6 (((({ s.dev with far := { s.dev.far with restarts := [(s.dev.tb 3).total] } } : Dev).inc FAR_LOCKSTEP_COUNT).put FAR_LOCKSTEP_TIME_V (s.dev.nsc32 0)).put FAR_LOCKSTEP_GROUP_V g)).rtAbandon 4 0).odAbandon).calCancel (fun _ => true)).storeRestart) ∧ e.get FAR_LOCKSTEP_COUNT = min (s.dev.get FAR_LOCKSTEP_COUNT + 1) (2 ^ FAR_LOCKSTEP_COUNT.w - 1) ∧ e.get FAR_LOCKSTEP_GROUP_V = g ∧ e.get FAR_LOCKSTEP_TIME_V = s.dev.nsc32 0 ∧ e.far.restarts = [(s.dev.tb 3).total])) ∧
  (∀ (s : State) (us : Nat),
    s.live → s.dev.mode ≠ 0 → us ≤ 1000 →
    Completes (.lockstepRestartDone us) s (fun e =>
    e.get FAR_LOCKSTEP_LAST_US = us ∧ keepsRegs [FAR_LOCKSTEP] s.dev e ∧ keepsMem s.dev e)) ∧
  (∀ (s : State) (us : Nat),
    s.live → s.dev.mode ≠ 0 → 1000 < us →
    Completes (.lockstepRestartDone us) s (fun e =>
    e = settle (s.dev.fatal 3 us) ∧ e.mode = 7 ∧ (s.dev.mode = 7 ∨ e.get TOP_STATUS_SAFE_CAUSE = 3))) ∧
  (∀ (s : State),
    s.live → s.dev.mode ≠ 0 →
    Completes (.seqCheckpoint) s (fun e =>
    e.far.checkpoint = (s.dev.tb 3).total ∧ keepsRegs [] s.dev e ∧ keepsMem s.dev e))

/-- Rung requests of the host. From every state in which the functional logic is not halted, each of rungRequestCanter, rungRequestTrot, rungRequestWalk, rungRequestStand, rungRequestStable, rungRequestGallop completes: exec answers a next state, whose queue is the one given and whose block is the command's own effect on the block it found. Further clauses, each under hypotheses of its own on the state and the operands, say what then holds. rungRequestCanter: POWER_RUNG_STATUS_TARGET, POWER_RUNG_STATUS_RESULT, power.waiting; the frame of the registers. rungRequestTrot: POWER_RUNG_STATUS_TARGET, POWER_RUNG_STATUS_RESULT, power.waiting; the frame of the registers. rungRequestWalk: POWER_RUNG_STATUS_TARGET, POWER_RUNG_STATUS_RESULT, power.waiting; the frame of the registers. rungRequestStand: POWER_RUNG_STATUS_TARGET, POWER_RUNG_STATUS_RESULT, power.waiting; the frame of the registers. rungRequestStable: POWER_RUNG_STATUS_TARGET, POWER_RUNG_STATUS_RESULT, power.waiting; the frame of the registers. rungRequestGallop: POWER_RUNG_STATUS_STATE, POWER_RUNG_STATUS_LAST_FROM. Rests on R513, R514. -/
def Obligations.RungRequests : Prop :=
  (∀ (s : State),
    s.dev.halted = false → Completes (.rungRequestCanter) s (fun e => e = settle ((Dev.pcie (.reg POWER_RUNG_CTRL (2 ^ 31 + 1)) (rungCtrlWrite (2 ^ 31 + 1))) s.dev))) ∧
  (∀ (s : State),
    s.dev.halted = false → Completes (.rungRequestTrot) s (fun e => e = settle ((Dev.pcie (.reg POWER_RUNG_CTRL (2 ^ 31 + 2)) (rungCtrlWrite (2 ^ 31 + 2))) s.dev))) ∧
  (∀ (s : State),
    s.dev.halted = false → Completes (.rungRequestWalk) s (fun e => e = settle ((Dev.pcie (.reg POWER_RUNG_CTRL (2 ^ 31 + 3)) (rungCtrlWrite (2 ^ 31 + 3))) s.dev))) ∧
  (∀ (s : State),
    s.dev.halted = false → Completes (.rungRequestStand) s (fun e => e = settle ((Dev.pcie (.reg POWER_RUNG_CTRL (2 ^ 31 + 4)) (rungCtrlWrite (2 ^ 31 + 4))) s.dev))) ∧
  (∀ (s : State),
    s.dev.halted = false → Completes (.rungRequestStable) s (fun e => e = settle ((Dev.pcie (.reg POWER_RUNG_CTRL (2 ^ 31 + 5)) (rungCtrlWrite (2 ^ 31 + 5))) s.dev))) ∧
  (∀ (s : State),
    s.dev.halted = false → Completes (.rungRequestGallop) s (fun e => e = settle ((Dev.pcie (.reg POWER_RUNG_CTRL (2 ^ 31)) (rungCtrlWrite (2 ^ 31))) s.dev))) ∧
  (∀ (s : State),
    s.takes POWER_RUNG_CTRL (2 ^ 31 + 1) → s.dev.rung = 0 → s.dev.rungStatic 1 = true →
    Completes (.rungRequestCanter) s (fun e =>
    e.get POWER_RUNG_STATUS_TARGET = 1 ∧ e.get POWER_RUNG_STATUS_RESULT = 0 ∧ e.power.waiting = true ∧ keepsRegs [POWER_RUNG_CTRL, POWER_RUNG_STATUS] s.dev e ∧ keepsMem s.dev e)) ∧
  (∀ (s : State),
    s.takes POWER_RUNG_CTRL (2 ^ 31 + 2) → s.dev.rung = 0 → s.dev.rungStatic 2 = true →
    Completes (.rungRequestTrot) s (fun e =>
    e.get POWER_RUNG_STATUS_TARGET = 2 ∧ e.get POWER_RUNG_STATUS_RESULT = 0 ∧ e.power.waiting = true ∧ keepsRegs [POWER_RUNG_CTRL, POWER_RUNG_STATUS] s.dev e ∧ keepsMem s.dev e)) ∧
  (∀ (s : State),
    s.takes POWER_RUNG_CTRL (2 ^ 31 + 3) → s.dev.rung = 0 → s.dev.rungStatic 3 = true →
    Completes (.rungRequestWalk) s (fun e =>
    e.get POWER_RUNG_STATUS_TARGET = 3 ∧ e.get POWER_RUNG_STATUS_RESULT = 0 ∧ e.power.waiting = true ∧ keepsRegs [POWER_RUNG_CTRL, POWER_RUNG_STATUS] s.dev e ∧ keepsMem s.dev e)) ∧
  (∀ (s : State),
    s.takes POWER_RUNG_CTRL (2 ^ 31 + 4) → s.dev.rung = 0 → s.dev.rungStatic 4 = true →
    Completes (.rungRequestStand) s (fun e =>
    e.get POWER_RUNG_STATUS_TARGET = 4 ∧ e.get POWER_RUNG_STATUS_RESULT = 0 ∧ e.power.waiting = true ∧ keepsRegs [POWER_RUNG_CTRL, POWER_RUNG_STATUS] s.dev e ∧ keepsMem s.dev e)) ∧
  (∀ (s : State),
    s.takes POWER_RUNG_CTRL (2 ^ 31 + 5) → s.dev.rung = 0 → s.dev.rungStatic 5 = true →
    Completes (.rungRequestStable) s (fun e =>
    e.get POWER_RUNG_STATUS_TARGET = 5 ∧ e.get POWER_RUNG_STATUS_RESULT = 0 ∧ e.power.waiting = true ∧ keepsRegs [POWER_RUNG_CTRL, POWER_RUNG_STATUS] s.dev e ∧ keepsMem s.dev e)) ∧
  (∀ (s : State),
    s.takes POWER_RUNG_CTRL (2 ^ 31) → (s.dev.rung = 1 ∨ s.dev.rung = 2) → bitOf (s.dev.word POWER_WAKE_ENABLE) 2 = true →
    Completes (.rungRequestGallop) s (fun e =>
    e.get POWER_RUNG_STATUS_STATE = 7 ∧ e.get POWER_RUNG_STATUS_LAST_FROM = s.dev.rung))

/-- Entry to a rung, its end, and wake events. From every state in which the functional logic is not halted, each of rungEntryBegin, rungRequestTimeout, rungEntryComplete, rungExitComplete, wakeNLow, wakeTimer, pcieRequestWake, wakeRelease completes: exec answers a next state, whose queue is the one given and whose block is the command's own effect on the block it found. Further clauses, each under hypotheses of its own on the state and the operands, say what then holds. rungEntryBegin: rung. rungRequestTimeout: POWER_RUNG_STATUS_RESULT, power.waiting. rungEntryComplete: rung. rungExitComplete: mode, TOP_RESET_CAUSE_LAST. wakeNLow: POWER_RUNG_STATUS_STATE, POWER_RUNG_STATUS_LAST_FROM. wakeTimer: POWER_RUNG_STATUS_STATE, POWER_RUNG_STATUS_LAST_FROM. pcieRequestWake: POWER_RUNG_STATUS_STATE, POWER_RUNG_STATUS_LAST_FROM. wakeRelease: POWER_RUNG_STATUS_STATE, POWER_RUNG_STATUS_LAST_FROM, power.wakeHeld. Rests on R513, R514, R517. -/
def Obligations.RungsAndWakes : Prop :=
  (∀ (s : State),
    s.dev.halted = false → Completes (.rungEntryBegin) s (fun e => e = settle (rungEntryBegin s.dev))) ∧
  (∀ (s : State),
    s.dev.halted = false → Completes (.rungRequestTimeout) s (fun e => e = settle (rungTimeout s.dev))) ∧
  (∀ (s : State) (repairs : List Bool),
    s.dev.halted = false → Completes (.rungEntryComplete repairs) s (fun e => e = settle ((rungEntryComplete repairs) s.dev))) ∧
  (∀ (s : State) (bad : List Nat),
    s.dev.halted = false → Completes (.rungExitComplete bad) s (fun e => e = settle ((rungExitAll bad) s.dev))) ∧
  (∀ (s : State),
    s.dev.halted = false → Completes (.wakeNLow) s (fun e => e = settle ((Dev.wake 0) s.dev))) ∧
  (∀ (s : State),
    s.dev.halted = false → Completes (.wakeTimer) s (fun e => e = settle (wakeTimer s.dev))) ∧
  (∀ (s : State),
    s.dev.halted = false → Completes (.pcieRequestWake) s (fun e => e = settle ((fun d => if d.rung = 3 then d.wake 2 else d) s.dev))) ∧
  (∀ (s : State),
    s.dev.halted = false → Completes (.wakeRelease) s (fun e => e = settle (wakeRelease s.dev))) ∧
  (∀ (s : State),
    s.live → s.dev.power.waiting = true → s.dev.rung = 0 → s.dev.rungDynamic (s.dev.get POWER_RUNG_STATUS_TARGET) = true → s.dev.get POWER_RUNG_STATUS_TARGET < 4 →
    Completes (.rungEntryBegin) s (fun e =>
    e = settle ((s.dev.rungBegin (s.dev.get POWER_RUNG_STATUS_TARGET)).streamsWait) ∧ e.rung = 6)) ∧
  (∀ (s : State),
    s.live → s.dev.power.waiting = true → s.dev.rung = 0 → s.dev.rungDynamic (s.dev.get POWER_RUNG_STATUS_TARGET) = true → 4 ≤ s.dev.get POWER_RUNG_STATUS_TARGET →
    Completes (.rungEntryBegin) s (fun e =>
    e = settle ((((s.dev.rungBegin (s.dev.get POWER_RUNG_STATUS_TARGET)).streamsWait).headsStopNow).panelsRamp (s.dev.get POWER_RUNG_STATUS_TARGET) 1) ∧ e.rung = 6)) ∧
  (∀ (s : State),
    s.live → s.dev.power.waiting = true →
    Completes (.rungRequestTimeout) s (fun e =>
    e = settle ((((((s.dev.put POWER_RUNG_STATUS_RESULT 2).onPower (fun u => { u with waiting := false })).inc POWER_RUNG_FAIL_COUNT_V).powerEvt 5).dmaResume).ceResume) ∧ e.get POWER_RUNG_STATUS_RESULT = 2 ∧ e.power.waiting = false)) ∧
  (∀ (s : State) (r : List Bool) (t : Fin 6),
    s.live → s.dev.rung = 6 → 0 < t.val → s.dev.get POWER_RUNG_STATUS_TARGET = t.val → (t.val < 4 ∨ s.dev.panelsDown t = true) → s.dev.flag HAR_DISCH_STATUS_ACTIVE = false → s.dev.power.wakeHeld = false →
    Completes (.rungEntryComplete r) s (fun e =>
    e = settle (s.dev.rungRest t r) ∧ e.rung = t.val)) ∧
  (∀ (s : State) (b : List Nat),
    s.live → s.dev.rung = 7 → 4 ≤ s.dev.get POWER_RUNG_STATUS_LAST_FROM → s.dev.power.held = [] →
    Completes (.rungExitComplete b) s (fun e =>
    e.mode = 1 ∧ e.get TOP_RESET_CAUSE_LAST = s.dev.get POWER_RUNG_STATUS_LAST_FROM - 2)) ∧
  (∀ (s : State) (b : List Nat),
    s.live → s.dev.rung = 7 →
    Completes (.rungExitComplete b) s (fun e =>
    e = settle ((Sys2Proof.Machine.rungExitComplete b s.dev).heldPerform))) ∧
  (∀ (s : State),
    s.live → (s.dev.rung = 1 ∨ s.dev.rung = 2 ∨ s.dev.rung = 3) → bitOf (s.dev.word POWER_WAKE_ENABLE) 0 = true →
    Completes (.wakeNLow) s (fun e =>
    e.get POWER_RUNG_STATUS_STATE = 7 ∧ e.get POWER_RUNG_STATUS_LAST_FROM = s.dev.rung)) ∧
  (∀ (s : State),
    s.live → due32 (s.dev.get POWER_WAKE_TIME_V) (s.dev.nsc32 0) = true → (s.dev.rung = 1 ∨ s.dev.rung = 2 ∨ s.dev.rung = 3) → bitOf (s.dev.word POWER_WAKE_ENABLE) 3 = true →
    Completes (.wakeTimer) s (fun e =>
    e.get POWER_RUNG_STATUS_STATE = 7 ∧ e.get POWER_RUNG_STATUS_LAST_FROM = s.dev.rung)) ∧
  (∀ (s : State),
    s.live → s.dev.rung = 3 → bitOf (s.dev.word POWER_WAKE_ENABLE) 2 = true →
    Completes (.pcieRequestWake) s (fun e =>
    e.get POWER_RUNG_STATUS_STATE = 7 ∧ e.get POWER_RUNG_STATUS_LAST_FROM = 3)) ∧
  (∀ (s : State),
    s.live → s.dev.power.wakeHeld = true → (s.dev.rung = 4 ∨ s.dev.rung = 5) →
    Completes (.wakeRelease) s (fun e =>
    e.get POWER_RUNG_STATUS_STATE = 7 ∧ e.get POWER_RUNG_STATUS_LAST_FROM = s.dev.rung ∧ e.power.wakeHeld = false))

/-- Shedding and the supplies. From every state in which the functional logic is not halted, each of shedLevelReached, shedRecovery, reenableOk, shedReenable, railFault, vsysCritical, pwrfailNLow completes: exec answers a next state, whose queue is the one given and whose block is the command's own effect on the block it found. Further clauses, each under hypotheses of its own on the state and the operands, say what then holds. shedLevelReached: shedLevel, mode, POWER_SHED_STATUS_REENABLE_OK. shedRecovery: POWER_SHED_STATUS_LEVEL, POWER_EVT_STATUS. reenableOk: POWER_SHED_STATUS_REENABLE_OK, POWER_EVT_STATUS, POWER_VSYS_MV. shedReenable: shedLevel, POWER_SHED_STATUS_REENABLE_OK. railFault: shedLevel. vsysCritical: shedLevel. pwrfailNLow: the next block outright. Rests on R346, R524, R526, R529. -/
def Obligations.SupplyEvents : Prop :=
  (∀ (s : State) (n : Fin 5) (mv : Fin 65536),
    s.dev.halted = false → Completes (.shedLevelReached n mv) s (fun e => e = settle ((shedReached n mv) s.dev))) ∧
  (∀ (s : State) (mv : Fin 65536),
    s.dev.halted = false → Completes (.shedRecovery mv) s (fun e => e = settle ((shedRecovery mv) s.dev))) ∧
  (∀ (s : State) (mv : Fin 65536),
    s.dev.halted = false → Completes (.reenableOk mv) s (fun e => e = settle ((reenableOk mv) s.dev))) ∧
  (∀ (s : State),
    s.dev.halted = false → Completes (.shedReenable) s (fun e => e = settle ((Dev.pcie (.reg POWER_SHED_REENABLE 1) (reenableWrite 1)) s.dev))) ∧
  (∀ (s : State) (k : Fin 13) (mv : Fin 65536),
    s.dev.halted = false → Completes (.railFault k mv) s (fun e => e = settle ((railFault k mv) s.dev))) ∧
  (∀ (s : State) (mv : Fin 65536),
    s.dev.halted = false → Completes (.vsysCritical mv) s (fun e => e = settle ((vsysCritical mv) s.dev))) ∧
  (∀ (s : State),
    s.dev.halted = false → Completes (.pwrfailNLow) s (fun e => e = settle (pwrfailLow s.dev))) ∧
  (∀ (s : State) (n : Fin 5) (mv : Fin 65536),
    s.live → 1 ≤ n.val → n.val ≤ 3 → s.dev.flag POWER_SHED_CTRL_ENABLE = true → s.dev.shedLevel < n.val → mv.val < s.dev.get (POWER_SHED_THRESHk_V (n.val - 1)) → 3 ≤ s.dev.mode → s.dev.mode ≤ 6 → s.dev.rung = 0 →
    Completes (.shedLevelReached n mv) s (fun e =>
    e = settle (((s.dev.vsys mv).put POWER_SHED_STATUS_REENABLE_OK 0).shedApply n) ∧ e.shedLevel = n.val ∧ e.mode = 6)) ∧
  (∀ (s : State) (n : Fin 5) (mv : Fin 65536),
    s.live → n.val = 4 → mv.val < s.dev.get (POWER_SHED_THRESHk_V 3) → s.dev.shedLevel < 4 → (s.dev.rung ≠ 6 ∨ s.dev.get POWER_RUNG_STATUS_TARGET < 4) → s.dev.mode ≠ 0 →
    Completes (.shedLevelReached n mv) s (fun e =>
    e = settle ((((s.dev.vsys mv).put POWER_SHED_STATUS_REENABLE_OK 0).shedDeep 4).rungForced 4) ∧ e.shedLevel = 4 ∧ e.get POWER_SHED_STATUS_REENABLE_OK = 0)) ∧
  (∀ (s : State) (mv : Fin 65536),
    s.live → s.dev.flag POWER_SHED_STATUS_RECORDED = false → s.dev.shedLevel = 2 → s.dev.recoverAt 2 ≤ mv.val →
    Completes (.shedRecovery mv) s (fun e =>
    e.get POWER_SHED_STATUS_LEVEL = 1 ∧ bitOf (e.word POWER_EVT_STATUS) 3 = true)) ∧
  (∀ (s : State) (mv : Fin 65536),
    s.live → s.dev.shedLevel = 3 → s.dev.recoverAt 1 ≤ mv.val →
    Completes (.reenableOk mv) s (fun e =>
    e.get POWER_SHED_STATUS_REENABLE_OK = 1 ∧ bitOf (e.word POWER_EVT_STATUS) 4 = true ∧ e.get POWER_VSYS_MV_V = mv)) ∧
  (∀ (s : State),
    s.takes POWER_SHED_REENABLE 1 → s.dev.mode ≠ 7 → s.dev.flag POWER_SHED_STATUS_REENABLE_OK = true →
    Completes (.shedReenable) s (fun e =>
    e = settle (((((((s.dev.writePlain POWER_SHED_REENABLE 1).put POWER_SHED_STATUS_REENABLE_OK 0).setShed 0).shed2Left).ceHoldSync).shedLanes 0).shedOver) ∧ e.shedLevel = 0 ∧ e.get POWER_SHED_STATUS_REENABLE_OK = 0)) ∧
  (∀ (s : State) (k : Fin 13) (mv : Fin 65536),
    s.live → k.val ≠ 2 → k.val ≠ 12 → s.dev.railsMayGo = false → s.dev.shedLevel ≠ 5 →
    Completes (.railFault k mv) s (fun e =>
    e = settle (((((((s.dev.put POWER_RAIL_STATUS_V (putBits (s.dev.get POWER_RAIL_STATUS_V) k 1 0)).put (POWER_RAIL_MVk_V k) mv).inc POWER_RAIL_FAULT_COUNT_V).powerEvt 7).shedDeep 5)).critical 2) ∧ e.shedLevel = 5)) ∧
  (∀ (s : State) (mv : Fin 65536),
    s.live → s.dev.shedLevel ≠ 5 → mv.val < s.dev.get (POWER_SHED_THRESHk_V 4) →
    Completes (.vsysCritical mv) s (fun e =>
    e = settle (((s.dev.vsys mv).shedDeep 5).critical 2) ∧ e.shedLevel = 5)) ∧
  (∀ (s : State),
    s.live → s.dev.rung = 0 → s.dev.mode ≠ 0 →
    Completes (.pwrfailNLow) s (fun e =>
    e = settle (((s.dev.onPower (fun u => { u with pwrfailAt := some (u.pwrfailAt.getD (s.dev.tb 3).total) })).discharge 1 (fun _ => true)).rungForced 5)))

/-- Panel power of a head. From every state in which the functional logic is not halted, each of panelPowerOn, panelPowerOff, rasterRampStep, rampSettleTimeout completes: exec answers a next state, whose queue is the one given and whose block is the command's own effect on the block it found. Further clauses, each under hypotheses of its own on the state and the operands, say what then holds. panelPowerOn: the panel state. panelPowerOff: the panel state. rasterRampStep: the panel state. rampSettleTimeout: the panel state. Rests on R341, R342, R344. -/
def Obligations.PanelPower : Prop :=
  (∀ (s : State) (h : Fin 8),
    s.dev.halted = false → Completes (.panelPowerOn h) s (fun e => e = settle ((Dev.pcie (.reg (PANELh_CTRL h) 1) (panelCtrlWrite h 1)) s.dev))) ∧
  (∀ (s : State) (h : Fin 8),
    s.dev.halted = false → Completes (.panelPowerOff h) s (fun e => e = settle ((Dev.pcie (.reg (PANELh_CTRL h) 0) (panelCtrlWrite h 0)) s.dev))) ∧
  (∀ (s : State) (h : Fin 8),
    s.dev.halted = false → Completes (.rasterRampStep h) s (fun e => e = settle ((rasterRampStep h) s.dev))) ∧
  (∀ (s : State) (h : Fin 8),
    s.dev.halted = false → Completes (.rampSettleTimeout h) s (fun e => e = settle ((rampSettleTimeout h) s.dev))) ∧
  (∀ (s : State) (h : Fin 8),
    s.takes (PANELh_CTRL h) 1 → s.dev.panelState h = 0 → s.dev.powerOk h = true →
    Completes (.panelPowerOn h) s (fun e =>
    e = settle ((s.dev.writePlain (PANELh_CTRL h) 1).panelPower h true) ∧ e.panelState h = 1)) ∧
  (∀ (s : State) (h : Fin 8),
    s.takes (PANELh_CTRL h) 0 → s.dev.headState h = 0 →
    Completes (.panelPowerOff h) s (fun e =>
    e = settle (((s.dev.writePlain (PANELh_CTRL h) 0)).rampDown h 1) ∧ (s.dev.panelState h = 2 → e.panelState h = 3))) ∧
  (∀ (s : State) (h : Fin 8),
    s.live → s.dev.isRaster h = true → s.dev.panelState h = 1 → s.dev.ownsVcomR h = false →
    Completes (.rasterRampStep h) s (fun e =>
    e = settle (s.dev.setPanel h 2) ∧ e.panelState h = 2)) ∧
  (∀ (s : State) (h : Fin 8),
    s.live → s.dev.isRaster h = true → s.dev.panelState h = 3 → (nth {} s.dev.harn.panels h).step = 1 →
    Completes (.rasterRampStep h) s (fun e =>
    e = settle (s.dev.panelOff h) ∧ e.panelState h = 0)) ∧
  (∀ (s : State) (h : Fin 8),
    s.live → s.dev.panelState h = 1 →
    Completes (.rampSettleTimeout h) s (fun e =>
    e = settle (s.dev.rampDown h 9) ∧ e.panelState h = 3))

/-- Fast discharge and its end. From every state in which the functional logic is not halted, each of pumpFailure, vbiasLow, outputOverload, harnessOvertemp, harDischGo, dischargePinSwitch, dischargeComplete completes: exec answers a next state, whose queue is the one given and whose block is the command's own effect on the block it found. Further clauses, each under hypotheses of its own on the state and the operands, say what then holds. pumpFailure: HAR_PUMP_STATUS_FAIL, the panel state. vbiasLow: the panel state. outputOverload: the panel state. harnessOvertemp: HAR_STATUS_HOT, the panel state. harDischGo: the panel state. dischargePinSwitch: the panel state. dischargeComplete: the panel state. Rests on R335, R346, R348, R353, R354. -/
def Obligations.FastDischarge : Prop :=
  (∀ (s : State),
    s.dev.halted = false → Completes (.pumpFailure) s (fun e => e = settle (pumpFailure s.dev))) ∧
  (∀ (s : State) (mv : Fin 65536),
    s.dev.halted = false → Completes (.vbiasLow mv) s (fun e => e = settle ((vbiasLow mv) s.dev))) ∧
  (∀ (s : State) (o : Fin 23),
    s.dev.halted = false → Completes (.outputOverload o) s (fun e => e = settle ((outputOverload o) s.dev))) ∧
  (∀ (s : State) (temp : Int),
    s.dev.halted = false → Completes (.harnessOvertemp temp) s (fun e => e = settle ((harnessOvertemp temp) s.dev))) ∧
  (∀ (s : State) (v : Word),
    s.dev.halted = false → Completes (.harDischGo v) s (fun e => e = settle ((Dev.pcie (.reg HAR_DISCH_GO v.toNat) (harDischWrite v.toNat)) s.dev))) ∧
  (∀ (s : State) (h : Fin 8),
    s.dev.halted = false → Completes (.dischargePinSwitch h) s (fun e => e = settle ((dischargePinSwitch h) s.dev))) ∧
  (∀ (s : State) (h : Fin 8),
    s.dev.halted = false → Completes (.dischargeComplete h) s (fun e => e = settle ((dischargeComplete h) s.dev))) ∧
  (∀ (s : State),
    s.live → s.dev.flag HAR_PUMP_STATUS_RUNNING = true →
    Completes (.pumpFailure) s (fun e =>
    e = settle ((((s.dev.put HAR_PUMP_STATUS_FAIL 1).put HAR_PUMP_STATUS_REGULATED 0).harEvt 6).discharge 11 s.dev.isMip) ∧ e.get HAR_PUMP_STATUS_FAIL = 1 ∧ (∀ k : Fin 8, s.dev.isMip k = true ∧ 1 ≤ s.dev.panelState k ∧ s.dev.panelState k ≤ 3 → e.panelState k = 4))) ∧
  (∀ (s : State) (mv : Fin 65536),
    s.live → mv.val < 4200 →
    Completes (.vbiasLow mv) s (fun e =>
    e = settle (s.dev.discharge 3 (fun _ => true)) ∧ (∀ k : Fin 8, 1 ≤ s.dev.panelState k ∧ s.dev.panelState k ≤ 3 → e.panelState k = 4))) ∧
  (∀ (s : State) (x : Fin 23) (h : Nat),
    s.live → s.dev.outputOwner x = some h →
    Completes (.outputOverload x) s (fun e =>
    e = settle (((if x.val < 4 then s.dev.put (BIASc_STATUS_OVERLOAD x) 1 else s.dev).harEvt 5 h).discharge 7 (fun k => k == h)) ∧ (1 ≤ s.dev.panelState h ∧ s.dev.panelState h ≤ 3 → e.panelState h = 4))) ∧
  (∀ (s : State) (temp : Int),
    s.live →
    Completes (.harnessOvertemp temp) s (fun e =>
    e = settle ((((s.dev.putI HAR_TEMP_V temp).put HAR_STATUS_HOT 1).harEvt 3).discharge 9 (fun _ => true)) ∧ e.get HAR_STATUS_HOT = 1 ∧ (∀ k : Fin 8, 1 ≤ s.dev.panelState k ∧ s.dev.panelState k ≤ 3 → e.panelState k = 4))) ∧
  (∀ (s : State) (v : Word),
    s.takes HAR_DISCH_GO v.toNat → (∀ h ∈ onesOf 8 v.toNat, s.dev.headState h = 0) →
    Completes (.harDischGo v) s (fun e =>
    e = settle ((s.dev.writePlain HAR_DISCH_GO v.toNat).discharge 5 (bitOf v.toNat)) ∧ (∀ k : Fin 8, bitOf v.toNat k = true ∧ 1 ≤ s.dev.panelState k ∧ s.dev.panelState k ≤ 3 → e.panelState k = 4))) ∧
  (∀ (s : State) (h : Fin 8),
    s.live → s.dev.panelState h = 4 → s.dev.isMip h = false →
    Completes (.dischargePinSwitch h) s (fun e =>
    e = settle ((foldS (s.dev.headPins h) (fun p t => t.drive p (bitOf (t.word (HAR_PCTL_DISCHk (p / 32))) (p % 32))) s.dev).gammaOff h) ∧ e.panelState h = 4)) ∧
  (∀ (s : State) (h : Fin 8),
    s.live → s.dev.panelState h = 4 →
    Completes (.dischargeComplete h) s (fun e =>
    e = settle ((s.dev.dischargeEnd h).afterDischarge) ∧ e.panelState h = 0))

/-- Measurements of the harness die. From every state in which the functional logic is not halted, each of holdArmed, holdLow, holdExhausted, avddgRestored, avddgLow, thermConversion, girthMeasurement, girthRebase completes: exec answers a next state, whose queue is the one given and whose block is the command's own effect on the block it found. Further clauses, each under hypotheses of its own on the state and the operands, say what then holds. holdArmed: HAR_HOLD_MV, HAR_HOLD_STATUS_ARMED, HAR_HOLD_STATUS_LOW; the frame of the registers. holdLow: HAR_HOLD_MV, HAR_HOLD_STATUS_ARMED, HAR_HOLD_STATUS_LOW, HAR_EVT_STATUS. holdExhausted: pins.level, harn.gma. avddgRestored: HAR_AVDDG_MV, HAR_STATUS_AVDDG_OK; the frame of the registers. avddgLow: HAR_AVDDG_MV, HAR_STATUS_AVDDG_OK; the frame of the registers. thermConversion: THERMt_CODE, THERMt_TEMP_VALID, THERMt_TEMP_OPEN, THERMt_TEMP_SHORT, THERMt_TEMP_TEMP; the frame of the registers. girthMeasurement: the next block outright. girthRebase: GIRTHg_STATUS_BASELINE_VALID, harn.girths; the frame of the registers. Rests on R349, R351, R352, R355. -/
def Obligations.HarnessMeasurements : Prop :=
  (∀ (s : State) (mv : Fin 65536),
    s.dev.halted = false → Completes (.holdArmed mv) s (fun e => e = settle ((holdArmed mv) s.dev))) ∧
  (∀ (s : State) (mv : Fin 65536),
    s.dev.halted = false → Completes (.holdLow mv) s (fun e => e = settle ((holdLow mv) s.dev))) ∧
  (∀ (s : State) (mv : Fin 65536),
    s.dev.halted = false → Completes (.holdExhausted mv) s (fun e => e = settle ((holdExhausted mv) s.dev))) ∧
  (∀ (s : State) (mv : Fin 65536),
    s.dev.halted = false → Completes (.avddgRestored mv) s (fun e => e = settle ((avddgRestored mv) s.dev))) ∧
  (∀ (s : State) (mv : Fin 65536),
    s.dev.halted = false → Completes (.avddgLow mv) s (fun e => e = settle ((avddgLow mv) s.dev))) ∧
  (∀ (s : State) (t : Fin 8) (code : Fin 4096),
    s.dev.halted = false → Completes (.thermConversion t code) s (fun e => e = settle ((thermConversion t code) s.dev))) ∧
  (∀ (s : State) (g : Fin 4) (mohm : Nat) (range : Fin 3),
    s.dev.halted = false → Completes (.girthMeasurement g mohm range) s (fun e => e = settle ((girthMeasurement g mohm range) s.dev))) ∧
  (∀ (s : State) (g : Fin 4) (rise : Fin 256) (confirm : Fin 16),
    s.dev.halted = false → Completes (.girthRebase g rise confirm) s (fun e => e = settle ((Dev.pcie (.reg (GIRTHg_CTRL g) (2 ^ 31 + rise * 256 + confirm)) (girthCtrlWrite g (2 ^ 31 + rise * 256 + confirm))) s.dev))) ∧
  (∀ (s : State) (mv : Fin 65536),
    s.live →
    Completes (.holdArmed mv) s (fun e =>
    e.get HAR_HOLD_MV_V = mv ∧ e.get HAR_HOLD_STATUS_ARMED = 1 ∧ e.get HAR_HOLD_STATUS_LOW = 0 ∧ keepsRegs [HAR_HOLD_MV, HAR_HOLD_STATUS] s.dev e ∧ keepsMem s.dev e)) ∧
  (∀ (s : State) (mv : Fin 65536) (h : Fin 8),
    s.live → s.dev.panelState h ≠ 0 →
    Completes (.holdLow mv) s (fun e =>
    e.get HAR_HOLD_MV_V = mv ∧ e.get HAR_HOLD_STATUS_ARMED = 0 ∧ e.get HAR_HOLD_STATUS_LOW = 1 ∧ bitOf (e.word HAR_EVT_STATUS) 7 = true)) ∧
  (∀ (s : State) (mv : Fin 65536),
    s.live →
    Completes (.holdExhausted mv) s (fun e =>
    e.pins.level = List.replicate 48 .hiz ∧ (∀ h : Fin 8, ∀ k : Fin 18, s.dev.ownsGma h k = true → k.val < s.dev.harn.gma.length → nth 1 e.harn.gma k = 0))) ∧
  (∀ (s : State) (mv : Fin 65536),
    s.live → (s.dev.get HAR_GMA_FS_MV_V : Int) + 300 ≤ sgn 16 mv →
    Completes (.avddgRestored mv) s (fun e =>
    e.get HAR_AVDDG_MV_V = mv ∧ e.get HAR_STATUS_AVDDG_OK = 1 ∧ keepsRegs [HAR_AVDDG_MV, HAR_STATUS] s.dev e ∧ keepsMem s.dev e)) ∧
  (∀ (s : State) (mv : Fin 65536),
    s.live → (s.dev.get HAR_GMA_FS_MV_V : Int) + 300 ≤ sgn 16 mv →
    Completes (.avddgLow mv) s (fun e =>
    e.get HAR_AVDDG_MV_V = mv ∧ e.get HAR_STATUS_AVDDG_OK = 1 ∧ keepsRegs [HAR_AVDDG_MV, HAR_STATUS] s.dev e ∧ keepsMem s.dev e)) ∧
  (∀ (s : State) (t : Fin 8) (c : Fin 4096),
    s.live → bitOf (s.dev.get HAR_THERM_CTRL_V) t = true → 16 < c.val → c.val < 4080 →
    Completes (.thermConversion t c) s (fun e =>
    e.get (THERMt_CODE_V t) = c ∧ e.get (THERMt_TEMP_VALID t) = 1 ∧ e.get (THERMt_TEMP_OPEN t) = 0 ∧ e.get (THERMt_TEMP_SHORT t) = 0 ∧ e.getI (THERMt_TEMP_TEMP t) = thermTemp (if s.dev.flag (THERMt_NOMINAL_PULLUP t) then 100000 else 10000) c (s.dev.get (THERMt_NOMINAL_OHMS t)) (s.dev.get (THERMt_BETA_V t)) ∧ keepsRegs [THERMt_CODE t, THERMt_TEMP t] s.dev e ∧ keepsMem s.dev e)) ∧
  (∀ (s : State) (g : Fin 4) (mohm : Nat) (r : Fin 3),
    s.live → s.dev.mode ≠ 0 → s.dev.girthOn g = true → (s.dev.girthMeasure g mohm r).1 = false →
    Completes (.girthMeasurement g mohm r) s (fun e =>
    e = settle (s.dev.girthMeasure g mohm r).2)) ∧
  (∀ (s : State) (g : Fin 4) (a : Fin 256) (k : Fin 16),
    s.takes (GIRTHg_CTRL g) (2 ^ 31 + a.val * 256 + k.val) →
    Completes (.girthRebase g a k) s (fun e =>
    e.get (GIRTHg_STATUS_BASELINE_VALID g) = 0 ∧ (g.val < s.dev.harn.girths.length → nth { rises := 1 } e.harn.girths g = {}) ∧ keepsRegs [GIRTHg_CTRL g, GIRTHg_STATUS g] s.dev e ∧ keepsMem s.dev e))

/-- Pushes and the load of an image. From every state in which the functional logic is not halted, each of tackPushGo, burnRollback, pushFetchError, imageHeaderRead, imageReadComplete, xspiReadTimeout, imageVerifyComplete, imageApplyComplete completes: exec answers a next state, whose queue is the one given and whose block is the command's own effect on the block it found. Further clauses, each under hypotheses of its own on the state and the operands, say what then holds. tackPushGo: TACK_STATUS_STATE, tack.source, tack.header; the frame of the registers. burnRollback: TACK_ROLLBACK_FUSE_COUNT; the frame of the registers. pushFetchError: the next block outright. imageHeaderRead: TACK_STATUS_STATE. imageReadComplete: TACK_STATUS_STATE, tack.image; the frame of the registers. xspiReadTimeout: TACK_STATUS_STATE, tack.source, TACK_SLOTA_VERSION, TACK_SLOTB_VERSION. imageVerifyComplete: TACK_STATUS_STATE. imageApplyComplete: TACK_STATUS_STATE. Rests on R54, R55, R57, R58, R59, R61. -/
def Obligations.ImageLoads : Prop :=
  (∀ (s : State),
    s.dev.halted = false → Completes (.tackPushGo) s (fun e => e = settle ((Dev.pcie (.reg TACK_PUSH_GO 1) (pushGoWrite 1)) s.dev))) ∧
  (∀ (s : State),
    s.dev.halted = false → Completes (.burnRollback) s (fun e => e = settle ((fun d => Dev.pcie (.reg TACK_CONTROL (256 + d.get TACK_CONTROL_NEXT_SLOT)) (tackControlWrite (256 + d.get TACK_CONTROL_NEXT_SLOT)) d) s.dev))) ∧
  (∀ (s : State),
    s.dev.halted = false → Completes (.pushFetchError) s (fun e => e = settle (pushFetchError s.dev))) ∧
  (∀ (s : State) (a b : Option (List Byte)),
    s.dev.halted = false → Completes (.imageHeaderRead a b) s (fun e => e = settle ((imageHeaderRead a b) s.dev))) ∧
  (∀ (s : State) (rest : List Byte),
    s.dev.halted = false → Completes (.imageReadComplete rest) s (fun e => e = settle ((imageReadComplete rest) s.dev))) ∧
  (∀ (s : State),
    s.dev.halted = false → Completes (.xspiReadTimeout) s (fun e => e = settle (xspiReadTimeout s.dev))) ∧
  (∀ (s : State),
    s.dev.halted = false → Completes (.imageVerifyComplete) s (fun e => e = settle (imageVerifyComplete s.dev))) ∧
  (∀ (s : State),
    s.dev.halted = false → Completes (.imageApplyComplete) s (fun e => e = settle (imageApplyComplete s.dev))) ∧
  (∀ (s : State),
    s.takes TACK_PUSH_GO 1 → s.dev.get TACK_STATUS_STATE = 6 →
    Completes (.tackPushGo) s (fun e =>
    e.get TACK_STATUS_STATE = 2 ∧ e.tack.source = 1 + s.dev.get TACK_STATUS_SOURCE ∧ e.tack.header = none ∧ keepsRegs [TACK_PUSH_GO, TACK_STATUS] s.dev e ∧ keepsMem s.dev e)) ∧
  (∀ (s : State),
    s.takes TACK_CONTROL (256 + s.dev.get TACK_CONTROL_NEXT_SLOT) →
    Completes (.burnRollback) s (fun e =>
    e.get TACK_ROLLBACK_FUSE_COUNT = max (s.dev.get TACK_ROLLBACK_FUSE_COUNT) (s.dev.get TACK_ROLLBACK_IMAGE_COUNT) ∧ keepsRegs [TACK_CONTROL, TACK_ROLLBACK] s.dev e ∧ keepsMem s.dev e)) ∧
  (∀ (s : State),
    s.live → s.dev.mode = 2 → s.dev.get TACK_STATUS_STATE = 2 → s.dev.tack.source = 3 →
    Completes (.pushFetchError) s (fun e =>
    e = settle (s.dev.loadFailed 1))) ∧
  (∀ (s : State) (a : Option (List Byte)) (b : Option (List Byte)),
    s.live → s.dev.mode = 2 → s.dev.get TACK_STATUS_STATE = 1 → s.dev.get TACK_STATUS_SOURCE = 0 →
    Completes (.imageHeaderRead a b) s (fun e =>
    e = settle (s.dev.slotsRead a b) ∧ e.get TACK_STATUS_STATE = 2)) ∧
  (∀ (s : State) (a : Option (List Byte)) (b : Option (List Byte)) (l : List Byte),
    s.live → s.dev.mode = 2 → s.dev.get TACK_STATUS_STATE = 2 → s.dev.tack.header = none → s.dev.tack.source < 3 → a = some l →
    Completes (.imageHeaderRead a b) s (fun e =>
    e = settle ((s.dev.sourceGiven 0 (l.take 256)).headerRead ((s.dev.sourceGiven 0 (l.take 256)).sourceBytes 0 256)))) ∧
  (∀ (s : State) (r : List Byte) (l : List Byte),
    s.live → s.dev.mode = 2 → s.dev.get TACK_STATUS_STATE = 2 → s.dev.tack.header = some l → s.dev.tack.source < 3 →
    Completes (.imageReadComplete r) s (fun e =>
    e.get TACK_STATUS_STATE = 3 ∧ e.tack.image = l ++ (s.dev.sourceGiven 256 (r.take (imgSize l - 256))).sourceBytes 256 (imgSize l - 256) ∧ keepsRegs [TACK_STATUS] s.dev e ∧ keepsMem s.dev e)) ∧
  (∀ (s : State),
    s.live → s.dev.mode = 2 → s.dev.get TACK_STATUS_STATE = 1 →
    Completes (.xspiReadTimeout) s (fun e =>
    e.get TACK_STATUS_STATE = 2 ∧ e.tack.source = 2 ∧ e.get TACK_SLOTA_VERSION_V = 0xFFFFFFFF ∧ e.get TACK_SLOTB_VERSION_V = 0xFFFFFFFF)) ∧
  (∀ (s : State),
    s.live → s.dev.mode = 2 → s.dev.get TACK_STATUS_STATE = 3 →
    Completes (.imageVerifyComplete) s (fun e =>
    e = settle (if s.dev.fullFault s.dev.tack.image = 0 then (s.dev.put TACK_STATUS_STATE 4).imageApply s.dev.tack.image else s.dev.loadFailed (s.dev.fullFault s.dev.tack.image)) ∧ (s.dev.fullFault s.dev.tack.image = 0 → e.get TACK_STATUS_STATE = 4))) ∧
  (∀ (s : State),
    s.live → s.dev.mode = 2 → s.dev.get TACK_STATUS_STATE = 4 → s.dev.wavesBad (imgHeads s.dev.tack.image) ((imgRecords s.dev.tack.image).getD []) = false →
    Completes (.imageApplyComplete) s (fun e =>
    e = settle ((((((s.dev.headSetsApply s.dev.tack.image).imageShown s.dev.tack.image).onTack (fun u => { u with fwLoad := leAt (imgGlobal s.dev.tack.image 5) 0 4, fwEntry := leAt (imgGlobal s.dev.tack.image 5) 4 4, fwCode := (imgGlobal s.dev.tack.image 5).drop 16, header := none, image := [] })).put TACK_STATUS_STATE 5)).readyReached) ∧ e.get TACK_STATUS_STATE = 5))

/-- The partial re-tack. From every state in which the functional logic is not halted, each of retackStart, retackAbandon, retackCopyComplete, retackVerifyComplete, retackPrepareComplete completes: exec answers a next state, whose queue is the one given and whose block is the command's own effect on the block it found. Further clauses, each under hypotheses of its own on the state and the operands, say what then holds. retackStart: mode, TACK_RT_STATUS_STATE, TACK_RT_STATUS_HEAD, tack.rtImage. retackAbandon: TACK_RT_STATUS_STATE, mode. retackCopyComplete: TACK_RT_STATUS_STATE. retackVerifyComplete: TACK_RT_STATUS_STATE. retackPrepareComplete: TACK_RT_STATUS_STATE. Rests on R62, R65, R67. -/
def Obligations.Retack : Prop :=
  (∀ (s : State) (h : Fin 8),
    s.dev.halted = false → Completes (.retackStart h) s (fun e => e = settle ((Dev.pcie (.reg TACK_RT_CONTROL (256 + h)) (rtControlWrite (256 + h))) s.dev))) ∧
  (∀ (s : State),
    s.dev.halted = false → Completes (.retackAbandon) s (fun e => e = settle ((fun d => Dev.pcie (.reg TACK_RT_CONTROL (512 + d.get TACK_RT_CONTROL_HEAD)) (rtControlWrite (512 + d.get TACK_RT_CONTROL_HEAD)) d) s.dev))) ∧
  (∀ (s : State) (errs : List (Nat × Ecc)),
    s.dev.halted = false → Completes (.retackCopyComplete errs) s (fun e => e = settle ((retackCopyComplete errs) s.dev))) ∧
  (∀ (s : State),
    s.dev.halted = false → Completes (.retackVerifyComplete) s (fun e => e = settle (retackVerifyComplete s.dev))) ∧
  (∀ (s : State),
    s.dev.halted = false → Completes (.retackPrepareComplete) s (fun e => e = settle (retackPrepareComplete s.dev))) ∧
  (∀ (s : State) (h : Fin 8),
    s.takes TACK_RT_CONTROL (256 + h.val) → s.dev.rtActive = false → (s.dev.writePlain TACK_RT_CONTROL (256 + h.val)).rtStartOk h = true → s.dev.rtStartOk h = true →
    Completes (.retackStart h) s (fun e =>
    e.mode = 5 ∧ e.get TACK_RT_STATUS_STATE = 1 ∧ e.get TACK_RT_STATUS_HEAD = h ∧ e.tack.rtImage = [])) ∧
  (∀ (s : State),
    s.takes TACK_RT_CONTROL (512 + s.dev.get TACK_RT_CONTROL_HEAD) → s.dev.rtActive = true →
    Completes (.retackAbandon) s (fun e =>
    e = settle ((s.dev.writePlain TACK_RT_CONTROL (512 + s.dev.get TACK_RT_CONTROL_HEAD)).rtAbandon 1 0) ∧ e.get TACK_RT_STATUS_STATE = 6 ∧ e.mode ≠ 5)) ∧
  (∀ (s : State) (errs : List (Nat × Ecc)),
    s.live → s.dev.get TACK_RT_STATUS_STATE = 1 →
    Completes (.retackCopyComplete errs) s (fun e =>
    e.get TACK_RT_STATUS_STATE = 2)) ∧
  (∀ (s : State),
    s.live → s.dev.get TACK_RT_STATUS_STATE = 2 →
    Completes (.retackVerifyComplete) s (fun e =>
    e = settle (if s.dev.rtFault (s.dev.get TACK_RT_STATUS_HEAD) s.dev.tack.rtImage = 0 then (s.dev.rtReserve (headImage s.dev.tack.rtImage (s.dev.get TACK_RT_STATUS_HEAD))).put TACK_RT_STATUS_STATE 3 else (s.dev.attempt 5 (s.dev.rtFault (s.dev.get TACK_RT_STATUS_HEAD) s.dev.tack.rtImage) (s.dev.get TACK_RT_STATUS_HEAD)).rtAbandon 5 (s.dev.rtFault (s.dev.get TACK_RT_STATUS_HEAD) s.dev.tack.rtImage)) ∧ (s.dev.rtFault (s.dev.get TACK_RT_STATUS_HEAD) s.dev.tack.rtImage = 0 → e.get TACK_RT_STATUS_STATE = 3))) ∧
  (∀ (s : State),
    s.live → s.dev.get TACK_RT_STATUS_STATE = 3 → s.dev.rtPrepared.scans (s.dev.get TACK_RT_STATUS_HEAD) = true →
    Completes (.retackPrepareComplete) s (fun e =>
    e = settle s.dev.rtPrepared ∧ e.get TACK_RT_STATUS_STATE = 4)) ∧
  (∀ (s : State),
    s.live → s.dev.get TACK_RT_STATUS_STATE = 3 → s.dev.rtPrepared.scans (s.dev.get TACK_RT_STATUS_HEAD) = false → s.dev.rtPrepared.isMip (s.dev.get TACK_RT_STATUS_HEAD) = false →
    Completes (.retackPrepareComplete) s (fun e =>
    e = settle ((s.dev.rtPrepared.rasterApplyStopped (s.dev.get TACK_RT_STATUS_HEAD)).rtAtRest (s.dev.get TACK_RT_STATUS_HEAD)) ∧ e.get TACK_RT_STATUS_STATE = 5))

/-- The time bases and their servo. From every state in which the functional logic is not halted, each of tbLatch, tbCtrlWrite, stepArm, stepCancel, stepResume, stepApply, servoMeasurement, referenceLost, tcRateChange completes: exec answers a next state, whose queue is the one given and whose block is the command's own effect on the block it found. Further clauses, each under hypotheses of its own on the state and the operands, say what then holds. tbLatch: TBn_SNAP_SEC_LO, TBn_SNAP_NS, TBn_SNAP_FRAC, time; the frame of the registers. tbCtrlWrite: TBn_CTRL_SOURCE, TBn_STATUS_STATE, TBn_STATUS_LOST, TBn_STATUS_DISCONTINUITY; the frame of the registers. stepArm: TBn_STATUS_STEP_PENDING, tb.stepSec, tb.stepNs, tb.stepAt; the frame of the registers. stepCancel: TBn_STATUS_STEP_PENDING, time; the frame of the registers. stepResume: TBn_STATUS_STATE. stepApply: TBn_STATUS_STEP_PENDING. servoMeasurement: TBn_STATUS_STATE, TBn_STATUS_DISCONTINUITY. referenceLost: TBn_STATUS_STATE, TBn_STATUS_LOST. tcRateChange: TC_CTRL_RATE, TC_STATUS_DISC, time.tcDisc, TC_DISC_COUNT. Rests on R88, R90, R93, R94, R97. -/
def Obligations.TimeBases : Prop :=
  (∀ (s : State) (n : Fin 4) (v : Word),
    s.dev.halted = false → Completes (.tbLatch n v) s (fun e => e = settle ((Dev.pcie (.reg (TBn_LATCH n) v.toNat) (tbLatch n v.toNat)) s.dev))) ∧
  (∀ (s : State) (n : Fin 4) (v : Word),
    s.dev.halted = false → Completes (.tbCtrlWrite n v) s (fun e => e = settle ((Dev.pcie (.reg (TBn_CTRL n) v.toNat) (tbCtrlWrite n v.toNat)) s.dev))) ∧
  (∀ (s : State) (n : Fin 4),
    s.dev.halted = false → Completes (.stepArm n) s (fun e => e = settle ((Dev.pcie (.reg (TBn_STEP_CTRL n) 1) (stepCtrlWrite n 1)) s.dev))) ∧
  (∀ (s : State) (n : Fin 4),
    s.dev.halted = false → Completes (.stepCancel n) s (fun e => e = settle ((Dev.pcie (.reg (TBn_STEP_CTRL n) 2) (stepCtrlWrite n 2)) s.dev))) ∧
  (∀ (s : State) (n : Fin 4),
    s.dev.halted = false → Completes (.stepResume n) s (fun e => e = settle ((Dev.pcie (.reg (TBn_STEP_CTRL n) 4) (stepCtrlWrite n 4)) s.dev))) ∧
  (∀ (s : State) (n : Fin 4),
    s.dev.halted = false → Completes (.stepApply n) s (fun e => e = settle ((stepApply n) s.dev))) ∧
  (∀ (s : State) (n : Fin 4) (src : Fin 16) (arg : Fin 4) (ppb : Int),
    s.dev.halted = false → Completes (.servoMeasurement n src arg ppb) s (fun e => e = settle ((servoMeasurement n src arg ppb) s.dev))) ∧
  (∀ (s : State) (input : RefInput),
    s.dev.halted = false → Completes (.referenceLost input) s (fun e => e = settle ((referenceLost input.source input.stream) s.dev))) ∧
  (∀ (s : State) (v : Word),
    s.dev.halted = false → Completes (.tcRateChange v) s (fun e => e = settle ((Dev.pcie (.reg TC_CTRL v.toNat) (tcCtrlWrite v.toNat)) s.dev))) ∧
  (∀ (s : State) (n : Fin 4) (v : Word),
    s.takes (TBn_LATCH n) v.toNat → v ≠ 0 →
    Completes (.tbLatch n v) s (fun e =>
    e.get (TBn_SNAP_SEC_LO_V n) = (s.dev.tb n).sec % 2 ^ 32 ∧ e.get (TBn_SNAP_NS_V n) = (s.dev.tb n).ns % 2 ^ 32 ∧ e.get (TBn_SNAP_FRAC_V n) = (s.dev.tb n).frac % 2 ^ 16 ∧ keepsRegs [TBn_LATCH n, TBn_SNAP_SEC_HI n, TBn_SNAP_SEC_LO n, TBn_SNAP_NS n, TBn_SNAP_FRAC n] s.dev e ∧ keepsMem s.dev e ∧ e.time = s.dev.time)) ∧
  (∀ (s : State) (n : Fin 4) (v : Word),
    s.takes (TBn_CTRL n) v.toNat → tbCtrlOk n v.toNat = true → bitsOf v.toNat 28 4 ≠ s.dev.get (TBn_CTRL_SOURCE n) →
    Completes (.tbCtrlWrite n v) s (fun e =>
    e.get (TBn_CTRL_SOURCE n) = bitsOf v.toNat 28 4 ∧ e.get (TBn_STATUS_STATE n) = (if bitsOf v.toNat 28 4 = 0 then 0 else 1) ∧ e.flag (TBn_STATUS_LOST n) = false ∧ e.flag (TBn_STATUS_DISCONTINUITY n) = false ∧ keepsRegs [TBn_CTRL n, TBn_STATUS n] s.dev e ∧ keepsMem s.dev e)) ∧
  (∀ (s : State) (n : Fin 4),
    s.takes (TBn_STEP_CTRL n) 1 → n ≠ 3 → s.dev.flag (TBn_STATUS_STEP_PENDING n) = false → s.dev.stepFits n = true →
    Completes (.stepArm n) s (fun e =>
    e.flag (TBn_STATUS_STEP_PENDING n) = true ∧ keepsRegs [TBn_STEP_CTRL n, TBn_STATUS n] s.dev e ∧ keepsMem s.dev e ∧ (n.val < s.dev.time.tbs.length → (e.tb n).stepSec = s.dev.getI (TBn_STEP_SEC_V n) ∧ (e.tb n).stepNs = s.dev.getI (TBn_STEP_NS_V n) ∧ (e.tb n).stepAt = (s.dev.tb n).nextBoundary))) ∧
  (∀ (s : State) (n : Fin 4),
    s.takes (TBn_STEP_CTRL n) 2 →
    Completes (.stepCancel n) s (fun e =>
    e.flag (TBn_STATUS_STEP_PENDING n) = false ∧ keepsRegs [TBn_STEP_CTRL n, TBn_STATUS n] s.dev e ∧ keepsMem s.dev e ∧ e.time = s.dev.time)) ∧
  (∀ (s : State) (n : Fin 4),
    s.takes (TBn_STEP_CTRL n) 4 → n ≠ 3 → s.dev.get (TBn_STATUS_STATE n) = 3 → s.dev.flag (TBn_STATUS_DISCONTINUITY n) = true →
    Completes (.stepResume n) s (fun e =>
    e = settle ((s.dev.writePlain (TBn_STEP_CTRL n) 4).enterLocked n) ∧ e.get (TBn_STATUS_STATE n) = 2)) ∧
  (∀ (s : State) (n : Fin 4),
    s.live → s.dev.flag (TBn_STATUS_STEP_PENDING n) = true →
    Completes (.stepApply n) s (fun e =>
    e = settle (foldS (s.dev.stepGroup n) (Dev.stepServo true) (Dev.stepBy n ((s.dev.tb n).stepSec * 1000000000 + (s.dev.tb n).stepNs) (s.dev.putB (TBn_STATUS_STEP_PENDING n) false))) ∧ e.flag (TBn_STATUS_STEP_PENDING n) = false)) ∧
  (∀ (s : State) (n : Fin 4) (src : Fin 16) (arg : Fin 4) (x : Int) (ppb : Int),
    s.live → s.dev.get (TBn_CTRL_SOURCE n) = src → s.dev.get (TBn_CTRL_ARG n) = arg → 2 ≤ s.dev.get (TBn_CTRL_SOURCE n) → s.dev.get (TBn_CTRL_SOURCE n) ≠ 3 → s.dev.get (TBn_CTRL_SOURCE n) ≠ 8 → (s.dev.tb n).meas = some x → s.dev.mode ≠ 0 → s.dev.get (TBn_STATUS_STATE n) = 2 → s.dev.get (TBn_DISC_THRESH_V n) < x.natAbs →
    Completes (.servoMeasurement n src arg ppb) s (fun e =>
    e = settle (Dev.enterDisc n ((Dev.recordOffset n x (s.dev.onTb n (fun t => { t with meas := none }))).enterHoldover n)) ∧ e.get (TBn_STATUS_STATE n) = 3 ∧ e.flag (TBn_STATUS_DISCONTINUITY n) = true)) ∧
  (∀ (s : State) (src : Fin 16) (arg : Fin 4) (n : Fin 3),
    s.live → src.val ≠ 0 → src.val ≠ 3 → src.val ≠ 8 → s.dev.mode ≠ 0 → n.val < s.dev.time.tbs.length → s.dev.usesSource src arg n = true → s.dev.get (TBn_STATUS_STATE n) = 2 →
    Completes (.referenceLost ⟨src, arg⟩) s (fun e =>
    e = settle (s.dev.sourceLost src arg) ∧ e.get (TBn_STATUS_STATE n) = 3 ∧ e.flag (TBn_STATUS_LOST n) = true)) ∧
  (∀ (s : State) (v : Word),
    s.takes TC_CTRL v.toNat → bitsOf v.toNat 28 4 ≠ s.dev.get TC_CTRL_RATE →
    Completes (.tcRateChange v) s (fun e =>
    e.get TC_CTRL_RATE = bitsOf v.toNat 28 4 ∧ e.flag TC_STATUS_DISC = true ∧ e.time.tcDisc = true ∧ e.get TC_DISC_COUNT_V = min (s.dev.get TC_DISC_COUNT_V + 1) (2 ^ 32 - 1)))

/-- Timecode, sync and pulse inputs and outputs. From every state in which the functional logic is not halted, each of ltcOutWord, ltcInWord, syncInEdge, syncOutFrame, ppsOutPulse, ppsOutPulseEnd, ppsInEdge, captureEvent, capPop completes: exec answers a next state, whose queue is the one given and whose block is the command's own effect on the block it found. Further clauses, each under hypotheses of its own on the state and the operands, say what then holds. ltcOutWord: what is sent; the frame of the registers. ltcInWord: TC_STATUS_LTC_VALID, LTCIN_USERBITS, LTCIN_LABEL; the frame of the registers. syncInEdge: SYNCIN_STATUS_PRESENT, SYNCIN_STATUS_FORMAT, SYNCIN_STATUS_RATE; the frame of the registers. syncOutFrame: what is sent; the frame of the registers. ppsOutPulse: time; the frame of the registers. ppsOutPulseEnd: time; the frame of the registers. ppsInEdge: PPSIN_COUNT, time.ppsIn; the frame of the registers. captureEvent: the FIFO, CAPc_STATUS_LEVEL; the frame of the registers. capPop: the FIFO, CAPc_STATUS_LEVEL; the frame of the registers. Rests on R100, R101, R102, R103, R104, R105. -/
def Obligations.TimecodeAndSync : Prop :=
  (∀ (s : State),
    s.dev.halted = false → Completes (.ltcOutWord) s (fun e => e = settle (ltcOutWord s.dev))) ∧
  (∀ (s : State) (found : LtcFound) (hours minutes seconds frames : Nat) (drop : Bool) (user : Word),
    s.dev.halted = false → Completes (.ltcInWord found hours minutes seconds frames drop user) s (fun e => e = settle ((ltcInWord found.check { hours := hours, minutes := minutes, seconds := seconds, frames := frames } drop user.toNat found.ago) s.dev))) ∧
  (∀ (s : State) (format : Fin 8) (rate : Fin 16),
    s.dev.halted = false → Completes (.syncInEdge format rate) s (fun e => e = settle ((syncInEdge format rate) s.dev))) ∧
  (∀ (s : State),
    s.dev.halted = false → Completes (.syncOutFrame) s (fun e => e = settle (syncOutFrame s.dev))) ∧
  (∀ (s : State),
    s.dev.halted = false → Completes (.ppsOutPulse) s (fun e => e = settle (ppsOutPulse s.dev))) ∧
  (∀ (s : State),
    s.dev.halted = false → Completes (.ppsOutPulseEnd) s (fun e => e = settle (ppsOutPulseEnd s.dev))) ∧
  (∀ (s : State) (falling : Bool) (quarter : Fin 4),
    s.dev.halted = false → Completes (.ppsInEdge falling quarter) s (fun e => e = settle ((ppsInEdge falling quarter) s.dev))) ∧
  (∀ (s : State) (c : Fin 16) (edge : InputEdge),
    s.dev.halted = false → Completes (.captureEvent c edge) s (fun e => e = settle ((captureEvent c edge.quarter edge.falling) s.dev))) ∧
  (∀ (s : State) (c : Fin 16) (v : Word),
    s.dev.halted = false → Completes (.capPop c v) s (fun e => e = settle ((Dev.pcie (.reg (CAPc_POP c) v.toNat) (capPop c v.toNat)) s.dev))) ∧
  (∀ (s : State) (l : TcLabel),
    s.live → s.dev.flag TC_CTRL_LTC_OUT_EN = true → s.dev.mode ≠ 0 → l = nearestLabel (((s.dev.tb 1).total : Int) - s.dev.getI LTCOUT_OFFSET_V) (s.dev.get TC_CTRL_RATE) →
    Completes (.ltcOutWord) s (fun e =>
    e.sent = .ltcWord (ltcBits { l with frames := l.frames * ltcNominal (s.dev.get TC_CTRL_RATE) / nominal (s.dev.get TC_CTRL_RATE) } (s.dev.get TC_CTRL_RATE == 3) (s.dev.get TC_USERBITS_V) (s.dev.get TC_CTRL_BGF) (ltcNominal (s.dev.get TC_CTRL_RATE))) :: s.dev.sent ∧ keepsRegs [] s.dev e ∧ keepsMem s.dev e)) ∧
  (∀ (s : State) (h : Nat) (m : Nat) (sec : Nat) (f : Nat) (drop : Bool) (user : Word) (ago : Nat),
    s.live → s.dev.flag TC_CTRL_LTC_IN_EN = true → s.dev.mode ≠ 0 →
    Completes (.ltcInWord ⟨0, ago⟩ h m sec f drop user) s (fun e =>
    e.flag TC_STATUS_LTC_VALID = true ∧ e.get LTCIN_USERBITS_V = user.toNat ∧ e.word LTCIN_LABEL = ({ hours := h, minutes := m, seconds := sec, frames := f } : TcLabel).word drop % 2 ^ 32 ∧ keepsRegs [TC_STATUS, LTCIN_USERBITS, LTCIN_LABEL] s.dev e ∧ keepsMem s.dev e)) ∧
  (∀ (s : State) (f : Fin 8) (r : Fin 16),
    s.live → s.dev.flag SYNCIN_ENABLE_V = true → s.dev.mode ≠ 0 → syncInOk f r = true →
    Completes (.syncInEdge f r) s (fun e =>
    e.flag SYNCIN_STATUS_PRESENT = true ∧ e.get SYNCIN_STATUS_FORMAT = f ∧ e.get SYNCIN_STATUS_RATE = r ∧ keepsRegs [SYNCIN_STATUS] s.dev e ∧ keepsMem s.dev e)) ∧
  (∀ (s : State),
    s.live → s.dev.get SYNCOUT_CTRL_FORMAT ≠ 0 → s.dev.mode ≠ 0 →
    Completes (.syncOutFrame) s (fun e =>
    e.sent = .syncOut (s.dev.get SYNCOUT_CTRL_FORMAT) (s.dev.get SYNCOUT_CTRL_RATE) :: s.dev.sent ∧ keepsRegs [] s.dev e ∧ keepsMem s.dev e)) ∧
  (∀ (s : State),
    s.live → s.dev.mode ≠ 0 → s.dev.get PPSOUT_WIDTH_V ≠ 0 → s.dev.time.ppsNext ≤ s.dev.ppsSecond →
    Completes (.ppsOutPulse) s (fun e =>
    e.time = { s.dev.time with ppsOut := true, ppsNext := s.dev.ppsSecond + 1 } ∧ keepsRegs [] s.dev e ∧ keepsMem s.dev e)) ∧
  (∀ (s : State),
    s.live →
    Completes (.ppsOutPulseEnd) s (fun e =>
    e.time = { s.dev.time with ppsOut := false } ∧ keepsRegs [] s.dev e ∧ keepsMem s.dev e)) ∧
  (∀ (s : State) (falling : Bool) (q : Fin 4),
    s.live → s.dev.mode ≠ 0 → s.dev.flag PPSIN_EDGE_V = falling →
    Completes (.ppsInEdge falling q) s (fun e =>
    e.get PPSIN_COUNT_V = min (s.dev.get PPSIN_COUNT_V + 1) (2 ^ 32 - 1) ∧ e.time.ppsIn = s.dev.stampNow 0 q ∧ keepsRegs [PPSIN_COUNT] s.dev e ∧ keepsMem s.dev e)) ∧
  (∀ (s : State) (c : Fin 16) (q : Fin 4) (falling : Bool),
    s.live → 1 ≤ s.dev.get (CAPc_CTRL_SOURCE c) → s.dev.get (CAPc_CTRL_SOURCE c) ≤ 3 → (s.dev.get (CAPc_CTRL_SOURCE c) = 1 → s.dev.capEdge c falling = true) → (s.dev.cap c).length < 4 →
    Completes (.captureEvent c ⟨q, falling⟩) s (fun e =>
    (c.val < s.dev.time.caps.length → e.cap c = s.dev.cap c ++ [s.dev.stampNow (s.dev.get (CAPc_CTRL_TB c)) q]) ∧ e.get (CAPc_STATUS_LEVEL c) = (s.dev.cap c).length + 1 ∧ keepsRegs [CAPc_STATUS c] s.dev e ∧ keepsMem s.dev e)) ∧
  (∀ (s : State) (c : Fin 16) (v : Word),
    s.takes (CAPc_POP c) v.toNat → v ≠ 0 → (s.dev.cap c).length ≤ 4 →
    Completes (.capPop c v) s (fun e =>
    (c.val < s.dev.time.caps.length → e.cap c = (s.dev.cap c).tail) ∧ e.get (CAPc_STATUS_LEVEL c) = (s.dev.cap c).length - 1 ∧ keepsRegs [CAPc_POP c, CAPc_STATUS c] s.dev e ∧ keepsMem s.dev e))

/-- What a PTP port sends. From every state in which the functional logic is not halted, each of ptpSyncTx, ptpDelayReqTx, ptpAnnounceTx, ptpDelayReqRx, ptpManagementGet, ptpManagementSet completes: exec answers a next state, whose queue is the one given and whose block is the command's own effect on the block it found. Further clauses, each under hypotheses of its own on the state and the operands, say what then holds. ptpSyncTx: PTPp_COUNTk, what is sent. ptpDelayReqTx: PTPp_COUNTk, what is sent. ptpAnnounceTx: PTPp_COUNTk, what is sent. ptpDelayReqRx: PTPp_COUNTk, what is sent. ptpManagementGet: PTPp_COUNTk, what is sent. ptpManagementSet: PTPp_COUNTk, what is sent. Rests on R106, R108. -/
def Obligations.PtpSends : Prop :=
  (∀ (s : State) (p : Fin 2),
    s.dev.halted = false → Completes (.ptpSyncTx p) s (fun e => e = settle ((ptpSyncTx p) s.dev))) ∧
  (∀ (s : State) (p : Fin 2),
    s.dev.halted = false → Completes (.ptpDelayReqTx p) s (fun e => e = settle ((ptpDelayReqTx p) s.dev))) ∧
  (∀ (s : State) (p : Fin 2),
    s.dev.halted = false → Completes (.ptpAnnounceTx p) s (fun e => e = settle ((ptpAnnounceTx p) s.dev))) ∧
  (∀ (s : State) (p : Fin 2) (domain : Nat) (version2 : Bool) (arrival : PtpArrival) (request : PtpRequest) (requester : Nat),
    s.dev.halted = false → Completes (.ptpDelayReqRx p domain version2 arrival request requester) s (fun e => e = settle ((ptpDelayReqRx p domain version2 arrival request requester) s.dev))) ∧
  (∀ (s : State) (p : Fin 2) (domain : Nat) (version2 wellFormed : Bool) (asker : PtpAsker) (dataSet : Nat),
    s.dev.halted = false → Completes (.ptpManagementGet p domain version2 wellFormed asker dataSet) s (fun e => e = settle ((ptpManagementGet p domain version2 wellFormed asker.seq asker.requester dataSet) s.dev))) ∧
  (∀ (s : State) (p : Fin 2) (domain : Nat) (version2 wellFormed : Bool) (asked : PtpSet),
    s.dev.halted = false → Completes (.ptpManagementSet p domain version2 wellFormed asked) s (fun e => e = settle ((ptpManagementSet p domain version2 wellFormed asked.seq asked.requester asked.ident) s.dev))) ∧
  (∀ (s : State) (p : Fin 2),
    s.live → s.dev.ptpOn p = true → s.dev.get (PTPp_STATE_V p) = psMaster → s.dev.flag (PTPp_CTRL_ONE_STEP p) = false →
    Completes (.ptpSyncTx p) s (fun e =>
    e.get (PTPp_COUNTk_V p 0) = min (s.dev.get (PTPp_COUNTk_V p 0) + 1) (2 ^ 32 - 1) ∧ e.get (PTPp_COUNTk_V p 2) = min (s.dev.get (PTPp_COUNTk_V p 2) + 1) (2 ^ 32 - 1) ∧ e.sent = .ptp p 8 (macFrame (s.dev.ptpFrame p 8 (s.dev.ptpMsg p 8 0 0 (s.dev.ptpPort p).txSync (s.dev.get (PTPp_INTERVALS_LOG_SYNC p)) (stampBytes (s.dev.txStamp p))))) :: .ptp p 0 (macFrame (s.dev.ptpFrame p 0 (s.dev.ptpMsg p 0 0x200 0 (s.dev.ptpPort p).txSync (s.dev.get (PTPp_INTERVALS_LOG_SYNC p)) (stampBytes 0)))) :: s.dev.sent ∧ keepsMem s.dev e)) ∧
  (∀ (s : State) (p : Fin 2),
    s.live → s.dev.ptpOn p = true → s.dev.get (PTPp_STATE_V p) = psSlave →
    Completes (.ptpDelayReqTx p) s (fun e =>
    e.get (PTPp_COUNTk_V p 4) = min (s.dev.get (PTPp_COUNTk_V p 4) + 1) (2 ^ 32 - 1) ∧ e.sent = .ptp p 1 (macFrame (s.dev.ptpFrame p 1 (s.dev.ptpMsg p 1 0 0 (((s.dev.ptpPort p).reqSeq + 1) % 65536) 0x7F (stampBytes 0)))) :: s.dev.sent ∧ keepsMem s.dev e)) ∧
  (∀ (s : State) (p : Fin 2),
    s.live → s.dev.ptpOn p = true → s.dev.get (PTPp_STATE_V p) = psMaster →
    Completes (.ptpAnnounceTx p) s (fun e =>
    e.get (PTPp_COUNTk_V p 8) = min (s.dev.get (PTPp_COUNTk_V p 8) + 1) (2 ^ 32 - 1) ∧ e.sent = .ptp p 11 (macFrame (s.dev.ptpFrame p 11 (s.dev.ptpMsg p 11 s.dev.timeFlags 0 (s.dev.ptpPort p).txAnnounce (s.dev.get (PTPp_INTERVALS_LOG_ANNOUNCE p)) s.dev.announceBody))) :: s.dev.sent ∧ keepsMem s.dev e)) ∧
  (∀ (s : State) (p : Fin 2) (dom : Nat) (snd : Nat) (seq : Nat) (c : Int) (who : Nat),
    s.live → s.dev.ptpOn p = true → dom = s.dev.get PTP_CTRL_DOMAIN → s.dev.get (PTPp_STATE_V p) = psMaster →
    Completes (.ptpDelayReqRx p dom true ⟨⟨true, snd⟩, true⟩ ⟨seq, c⟩ who) s (fun e =>
    e.get (PTPp_COUNTk_V p 5) = min (s.dev.get (PTPp_COUNTk_V p 5) + 1) (2 ^ 32 - 1) ∧ e.get (PTPp_COUNTk_V p 6) = min (s.dev.get (PTPp_COUNTk_V p 6) + 1) (2 ^ 32 - 1) ∧ e.sent = .ptp p 9 (macFrame (s.dev.ptpFrame p 9 (s.dev.ptpMsg p 9 0 (unsgn 64 c) seq (s.dev.get (PTPp_INTERVALS_LOG_DELAY_REQ p)) (stampBytes (s.dev.rxStamp p) ++ beBytes 10 who)))) :: s.dev.sent ∧ keepsMem s.dev e)) ∧
  (∀ (s : State) (p : Fin 2) (dom : Nat) (seq : Nat) (who : Nat) (k : Nat) (l : List Byte),
    s.live → s.dev.ptpOn p = true → dom = s.dev.get PTP_CTRL_DOMAIN → s.dev.dataSet p k = some l →
    Completes (.ptpManagementGet p dom true true ⟨seq, who⟩ k) s (fun e =>
    e.get (PTPp_COUNTk_V p 10) = min (s.dev.get (PTPp_COUNTk_V p 10) + 1) (2 ^ 32 - 1) ∧ e.sent = .ptp p 13 (macFrame (s.dev.ptpFrame p 13 (s.dev.ptpMsg p 13 0 0 seq 0x7F (managementBody who 2 1 (beBytes 2 (0x2000 + k) ++ l))))) :: s.dev.sent ∧ keepsMem s.dev e)) ∧
  (∀ (s : State) (p : Fin 2) (dom : Nat) (seq : Nat) (who : Nat) (ident : Nat),
    s.live → s.dev.ptpOn p = true → dom = s.dev.get PTP_CTRL_DOMAIN →
    Completes (.ptpManagementSet p dom true true ⟨⟨seq, who⟩, ident⟩) s (fun e =>
    e.get (PTPp_COUNTk_V p 10) = min (s.dev.get (PTPp_COUNTk_V p 10) + 1) (2 ^ 32 - 1) ∧ e.sent = .ptp p 13 (macFrame (s.dev.ptpFrame p 13 (s.dev.ptpMsg p 13 0 0 seq 0x7F (managementBody who 2 2 (beBytes 2 4 ++ beBytes 2 ident ++ beBytes 4 0 ++ beBytes 2 0))))) :: s.dev.sent ∧ keepsMem s.dev e))

/-- What a PTP port receives and discards. From every state in which the functional logic is not halted, each of ptpSyncRx, ptpFollowUpRx, ptpDelayRespRx, ptpAnnounceRx, ptpAnnounceReceiptTimeout, ptpSignalingRx completes: exec answers a next state, whose queue is the one given and whose block is the command's own effect on the block it found. Further clauses, each under hypotheses of its own on the state and the operands, say what then holds. ptpSyncRx: PTPp_COUNTk, PTPp_OFFSET, time; the frame of the registers. ptpFollowUpRx: PTPp_COUNTk, PTPp_OFFSET; the frame of the registers. ptpDelayRespRx: PTPp_COUNTk, PTPp_MEAN_DELAY; the frame of the registers. ptpAnnounceRx: PTPp_COUNTk. ptpAnnounceReceiptTimeout: PTPp_COUNTk. ptpSignalingRx: PTPp_COUNTk; the frame of the registers. Rests on R89, R106, R107, R109. -/
def Obligations.PtpReceptions : Prop :=
  (∀ (s : State) (p : Fin 2) (domain : Nat) (version2 : Bool) (arrival : PtpArrival) (twoStep : Bool) (seq : Nat) (origin corr : Int),
    s.dev.halted = false → Completes (.ptpSyncRx p domain version2 arrival twoStep seq origin corr) s (fun e => e = settle ((ptpSyncRx p domain version2 arrival twoStep seq origin corr) s.dev))) ∧
  (∀ (s : State) (p : Fin 2) (domain : Nat) (version2 : Bool) (came : PtpFrom) (seq : Nat) (origin corr : Int),
    s.dev.halted = false → Completes (.ptpFollowUpRx p domain version2 came seq origin corr) s (fun e => e = settle ((ptpFollowUpRx p domain version2 came seq origin corr) s.dev))) ∧
  (∀ (s : State) (p : Fin 2) (domain : Nat) (version2 : Bool) (came : PtpFrom) (response : PtpResponse) (t4 : Int),
    s.dev.halted = false → Completes (.ptpDelayRespRx p domain version2 came response t4) s (fun e => e = settle ((ptpDelayRespRx p domain version2 came response t4) s.dev))) ∧
  (∀ (s : State) (p : Fin 2) (domain : Nat) (version2 wellFormed : Bool) (senderId senderPort gmId priority1 quality priority2 steps : Nat),
    s.dev.halted = false → Completes (.ptpAnnounceRx p domain version2 wellFormed senderId senderPort gmId priority1 quality priority2 steps) s (fun e => e = settle ((ptpAnnounceRx p domain version2 wellFormed { senderId := senderId, senderPort := senderPort, gmId := gmId, priority1 := priority1, quality := quality, priority2 := priority2, steps := steps }) s.dev))) ∧
  (∀ (s : State) (p : Fin 2),
    s.dev.halted = false → Completes (.ptpAnnounceReceiptTimeout p) s (fun e => e = settle ((ptpAnnounceTimeout p) s.dev))) ∧
  (∀ (s : State) (p : Fin 2) (domain : Nat) (version2 wellFormed : Bool),
    s.dev.halted = false → Completes (.ptpSignalingRx p domain version2 wellFormed) s (fun e => e = settle ((ptpSignalingRx p domain version2 wellFormed) s.dev))) ∧
  (∀ (s : State) (p : Fin 2) (dom : Nat) (snd : Nat) (seq : Nat) (t1 : Int) (c : Int),
    s.live → s.dev.ptpOn p = true → dom = s.dev.get PTP_CTRL_DOMAIN → (s.dev.ptpPort p).master = some snd → s.dev.get (PTPp_STATE_V p) = psSlave → p.val < s.dev.time.ptp.length →
    Completes (.ptpSyncRx p dom true ⟨⟨true, snd⟩, true⟩ false seq t1 c) s (fun e =>
    e.get (PTPp_COUNTk_V p 1) = min (s.dev.get (PTPp_COUNTk_V p 1) + 1) (2 ^ 32 - 1) ∧ e.get (PTPp_OFFSET_V p) = unsgn 32 (s.dev.rxStamp p - t1 - corrNs c - s.dev.getI (PTPp_MEAN_DELAY_V p) - s.dev.getI (PTPp_ASYM_V p)) ∧ keepsRegs [PTPp_COUNTk p 1, PTPp_OFFSET p] s.dev e ∧ keepsMem s.dev e)) ∧
  (∀ (s : State) (p : Fin 2) (dom : Nat) (snd : Nat) (seq : Nat) (t1 : Int) (c : Int),
    s.live → s.dev.ptpOn p = true → dom = s.dev.get PTP_CTRL_DOMAIN → (s.dev.ptpPort p).master = some snd → s.dev.get (PTPp_STATE_V p) = psSlave → (s.dev.ptpPort p).waitFollowUp = true → (s.dev.ptpPort p).syncSeq = seq →
    Completes (.ptpFollowUpRx p dom true ⟨true, snd⟩ seq t1 c) s (fun e =>
    e.get (PTPp_COUNTk_V p 3) = min (s.dev.get (PTPp_COUNTk_V p 3) + 1) (2 ^ 32 - 1) ∧ e.get (PTPp_OFFSET_V p) = unsgn 32 ((s.dev.ptpPort p).arrived - t1 - corrNs ((s.dev.ptpPort p).syncCorr + c) - s.dev.getI (PTPp_MEAN_DELAY_V p) - s.dev.getI (PTPp_ASYM_V p)) ∧ keepsRegs [PTPp_COUNTk p 3, PTPp_OFFSET p] s.dev e ∧ keepsMem s.dev e)) ∧
  (∀ (s : State) (p : Fin 2) (dom : Nat) (snd : Nat) (seq : Nat) (c : Int) (t4 : Int),
    s.live → s.dev.ptpOn p = true → dom = s.dev.get PTP_CTRL_DOMAIN → (s.dev.ptpPort p).master = some snd → s.dev.get (PTPp_STATE_V p) = psSlave → (s.dev.ptpPort p).waitResp = true → (s.dev.ptpPort p).reqSeq = seq →
    Completes (.ptpDelayRespRx p dom true ⟨true, snd⟩ ⟨⟨seq, c⟩, s.dev.ownPort p⟩ t4) s (fun e =>
    e.get (PTPp_COUNTk_V p 7) = min (s.dev.get (PTPp_COUNTk_V p 7) + 1) (2 ^ 32 - 1) ∧ e.get (PTPp_MEAN_DELAY_V p) = unsgn 32 (roundDiv ((((s.dev.ptpPort p).t2 - (s.dev.ptpPort p).t1) + (t4 - (s.dev.ptpPort p).t3)) * 65536 - (s.dev.ptpPort p).corr - c) 131072) ∧ keepsRegs [PTPp_COUNTk p 7, PTPp_MEAN_DELAY p] s.dev e ∧ keepsMem s.dev e)) ∧
  (∀ (s : State) (p : Fin 2) (dom : Nat) (sid : Nat) (sp : Nat) (gm : Nat) (p1 : Nat) (q : Nat) (p2 : Nat) (st : Nat),
    s.live → s.dev.ptpOn p = true → dom = s.dev.get PTP_CTRL_DOMAIN → sid ≠ s.dev.clockId →
    Completes (.ptpAnnounceRx p dom true true sid sp gm p1 q p2 st) s (fun e =>
    e = settle (((s.dev.inc (PTPp_COUNTk_V p 9)).onPtp p (fun x => { x with foreign := recordForeign { senderId := sid, senderPort := sp, gmId := gm, priority1 := p1, quality := q, priority2 := p2, steps := st, seen := s.dev.nsc32 0 } (s.dev.tb 3).total x.foreign })).bmca) ∧ e.get (PTPp_COUNTk_V p 9) = min (s.dev.get (PTPp_COUNTk_V p 9) + 1) (2 ^ 32 - 1))) ∧
  (∀ (s : State) (p : Fin 2),
    s.live → s.dev.ptpOn p = true →
    Completes (.ptpAnnounceReceiptTimeout p) s (fun e =>
    e = settle (Dev.bmca (Dev.sourceLost (5 + p) 0 ((s.dev.inc (PTPp_COUNTk_V p 14)).onPtp p (fun x => { x with foreign := [], waited := true })))) ∧ e.get (PTPp_COUNTk_V p 14) = min (s.dev.get (PTPp_COUNTk_V p 14) + 1) (2 ^ 32 - 1))) ∧
  (∀ (s : State) (p : Fin 2) (dom : Nat),
    s.live → s.dev.ptpOn p = true → dom = s.dev.get PTP_CTRL_DOMAIN →
    Completes (.ptpSignalingRx p dom true true) s (fun e =>
    e.get (PTPp_COUNTk_V p 11) = min (s.dev.get (PTPp_COUNTk_V p 11) + 1) (2 ^ 32 - 1) ∧ keepsRegs [PTPp_COUNTk p 11] s.dev e ∧ keepsMem s.dev e)) ∧
  (∀ (s : State) (p : Fin 2) (dom : Nat) (v2 : Bool) (snd : Nat) (st : Bool) (ts : Bool) (seq : Nat) (t1 : Int) (c : Int),
    s.live → s.dev.ptpOn p = true →
    Completes (.ptpSyncRx p dom v2 ⟨⟨false, snd⟩, st⟩ ts seq t1 c) s (fun e =>
    e.get (PTPp_COUNTk_V p 13) = min (s.dev.get (PTPp_COUNTk_V p 13) + 1) (2 ^ 32 - 1) ∧ keepsRegs [PTPp_COUNTk p 13] s.dev e ∧ e.time = s.dev.time ∧ keepsMem s.dev e)) ∧
  (∀ (s : State) (p : Fin 2) (dom : Nat) (v2 : Bool) (snd : Nat) (st : Bool) (ts : Bool) (seq : Nat) (t1 : Int) (c : Int),
    s.live → s.dev.ptpOn p = true → (v2 = false ∨ dom ≠ s.dev.get PTP_CTRL_DOMAIN) →
    Completes (.ptpSyncRx p dom v2 ⟨⟨true, snd⟩, st⟩ ts seq t1 c) s (fun e =>
    e.get (PTPp_COUNTk_V p 12) = min (s.dev.get (PTPp_COUNTk_V p 12) + 1) (2 ^ 32 - 1) ∧ keepsRegs [PTPp_COUNTk p 12] s.dev e ∧ e.time = s.dev.time ∧ keepsMem s.dev e)) ∧
  (∀ (s : State) (p : Fin 2) (dom : Nat) (v2 : Bool) (seq : Nat) (who : Nat) (k : Nat),
    s.live → s.dev.ptpOn p = true → (v2 = false ∨ dom ≠ s.dev.get PTP_CTRL_DOMAIN) →
    Completes (.ptpManagementGet p dom v2 true ⟨seq, who⟩ k) s (fun e =>
    e.get (PTPp_COUNTk_V p 12) = min (s.dev.get (PTPp_COUNTk_V p 12) + 1) (2 ^ 32 - 1) ∧ keepsRegs [PTPp_COUNTk p 12] s.dev e ∧ e.sent = s.dev.sent ∧ keepsMem s.dev e))

/-- TIME sets and the team delay. From every state in which the functional logic is not halted, each of timeSetTx, timeSetRx, teamDelayReqTx, teamDelayReqRx, teamDelayRspRx, teamStepApply completes: exec answers a next state, whose queue is the one given and whose block is the command's own effect on the block it found. Further clauses, each under hypotheses of its own on the state and the operands, say what then holds. timeSetTx: time, what is sent; the frame of the registers. timeSetRx: TTLk_DISCARD, time, TEAM_TIME_STATUS_UPSTREAM_VALID, time.pairs, time.t2; the frame of the registers. teamDelayReqTx: time, what is sent; the frame of the registers. teamDelayReqRx: what is sent; the frame of the registers. teamDelayRspRx: TTLk_DELAY, time; the frame of the registers. teamStepApply: time.pairs. Rests on R111, R112, R113. -/
def Obligations.TeamTime : Prop :=
  (∀ (s : State),
    s.dev.halted = false → Completes (.timeSetTx) s (fun e => e = settle (timeSetTx s.dev))) ∧
  (∀ (s : State) (link : Fin 16) (blocks : List (List Byte)),
    s.dev.halted = false → Completes (.timeSetRx link blocks) s (fun e => e = settle ((timeSetRx link blocks) s.dev))) ∧
  (∀ (s : State),
    s.dev.halted = false → Completes (.teamDelayReqTx) s (fun e => e = settle (teamDelayReqTx s.dev))) ∧
  (∀ (s : State) (link : Fin 16) (seq : Fin 16),
    s.dev.halted = false → Completes (.teamDelayReqRx link seq) s (fun e => e = settle ((teamDelayReqRx link seq) s.dev))) ∧
  (∀ (s : State) (link : Fin 16) (seq : Fin 16) (ns frac : Nat),
    s.dev.halted = false → Completes (.teamDelayRspRx link seq ns frac) s (fun e => e = settle ((teamDelayRspRx link seq ns frac) s.dev))) ∧
  (∀ (s : State) (n : Fin 2),
    s.dev.halted = false → Completes (.teamStepApply n) s (fun e => e = settle ((teamStepApply n) s.dev))) ∧
  (∀ (s : State),
    s.live → s.dev.flag TEAM_TIME_CTRL_ENABLE = true → s.dev.mode ≠ 0 →
    Completes (.timeSetTx) s (fun e =>
    e.time = { s.dev.time with setSeq := (s.dev.time.setSeq + 1) % 16 } ∧ (∀ k ∈ onesOf 16 (s.dev.get TEAM_TIME_CTRL_DOWNSTREAM), ∀ b ∈ s.dev.timeSet s.dev.time.setSeq, Sent.block k [b] ∈ e.sent) ∧ keepsRegs [] s.dev e ∧ keepsMem s.dev e)) ∧
  (∀ (s : State) (k : Fin 16) (l : List (List Byte)),
    s.live → s.dev.flag TEAM_TIME_CTRL_ENABLE = true → s.dev.get TEAM_TIME_CTRL_UPSTREAM = k → s.dev.mode ≠ 0 → l ≠ [] → (∀ b ∈ l, 1 ≤ blkKind b ∧ blkKind b ≤ 9) → s.dev.acceptSet l = none →
    Completes (.timeSetRx k l) s (fun e =>
    e.get (TTLk_DISCARD_V k) = min (s.dev.get (TTLk_DISCARD_V k) + 1) (2 ^ 32 - 1) ∧ e.time = s.dev.time ∧ keepsRegs [TTLk_DISCARD k] s.dev e ∧ keepsMem s.dev e)) ∧
  (∀ (s : State) (k : Fin 16) (l : List (List Byte)) (ps : List StepPair),
    s.live → s.dev.flag TEAM_TIME_CTRL_ENABLE = true → s.dev.get TEAM_TIME_CTRL_UPSTREAM = k → s.dev.mode ≠ 0 → (∀ b ∈ l, 1 ≤ blkKind b ∧ blkKind b ≤ 9) → s.dev.acceptSet l = some ps →
    Completes (.timeSetRx k l) s (fun e =>
    e.flag TEAM_TIME_STATUS_UPSTREAM_VALID = true ∧ e.time.pairs = ps.filter s.dev.keepsPair ∧ e.time.t2 = s.dev.tb0Ps ∧ keepsMem s.dev e)) ∧
  (∀ (s : State),
    s.live → s.dev.flag TEAM_TIME_CTRL_ENABLE = true → s.dev.get TEAM_TIME_CTRL_UPSTREAM < 16 → 16 ≤ s.dev.time.sets → s.dev.mode ≠ 0 →
    Completes (.teamDelayReqTx) s (fun e =>
    e.time = { s.dev.time with reqSeq := (s.dev.time.reqSeq + 1) % 16, t3 := s.dev.tb0Ps, sets := 0 } ∧ Sent.block (s.dev.get TEAM_TIME_CTRL_UPSTREAM) [timeBlock 6 ((s.dev.time.reqSeq + 1) % 16) (leBytes 2 (s.dev.get TEAM_NODE_ID_V) ++ leBytes 4 0)] ∈ e.sent ∧ keepsRegs [] s.dev e ∧ keepsMem s.dev e)) ∧
  (∀ (s : State) (k : Fin 16) (q : Fin 16),
    s.live → s.dev.flag TEAM_TIME_CTRL_ENABLE = true → bitOf (s.dev.get TEAM_TIME_CTRL_DOWNSTREAM) k = true → s.dev.mode ≠ 0 →
    Completes (.teamDelayReqRx k q) s (fun e =>
    Sent.block k [timeBlock 7 q (leBytes 4 (s.dev.tb 0).ns ++ leBytes 2 (s.dev.tb 0).frac)] ∈ e.sent ∧ keepsRegs [] s.dev e ∧ keepsMem s.dev e)) ∧
  (∀ (s : State) (k : Fin 16) (q : Fin 16) (ns : Nat) (fr : Nat),
    s.live → s.dev.flag TEAM_TIME_CTRL_ENABLE = true → s.dev.get TEAM_TIME_CTRL_UPSTREAM = k → s.dev.time.reqSeq = q → s.dev.mode ≠ 0 →
    Completes (.teamDelayRspRx k q ns fr) s (fun e =>
    e.get (TTLk_DELAY_V k) = unsgn 32 (((s.dev.time.t2 - s.dev.time.t1) + wrapPs (psOf 0 ns fr - s.dev.time.t3)) / 2 + s.dev.getI (TTLk_ASYM_V k)) ∧ keepsRegs [TTLk_DELAY k] s.dev e ∧ keepsMem s.dev e ∧ e.time = s.dev.time)) ∧
  (∀ (s : State) (n : Fin 2) (p : StepPair),
    s.live → s.dev.time.pairs.find? (fun q => q.tb == n.val) = some p → s.dev.get (TBn_CTRL_SOURCE n) = 7 →
    Completes (.teamStepApply n) s (fun e =>
    e = settle (foldS (s.dev.stepGroup n) (Dev.stepServo false) (({ s.dev with time := { s.dev.time with pairs := s.dev.time.pairs.filter (fun q => q.tb != n.val) } } : Dev).stepBy n (p.sec * 1000000000 + p.ns))) ∧ e.time.pairs = s.dev.time.pairs.filter (fun q => q.tb != n.val)))

/-- Arming, firing and missing of marks. From every state in which the functional logic is not halted, each of markArm, markDisarm, schedDisarmAll, markTrigger, markPositionPassed, pctlPulseEnd completes: exec answers a next state, whose queue is the one given and whose block is the command's own effect on the block it found. Further clauses, each under hypotheses of its own on the state and the operands, say what then holds. markArm: Mm_CTRL_ARM, Mm_CTRL_FIRE_COUNT, Mm_CTRL_LATE, Mm_CTRL_MISSED, Mm_CTRL_REPEAT; the frame of the registers. markDisarm: Mm_CTRL_ARM; the frame of the registers. schedDisarmAll: Mm_CTRL_ARM. markTrigger: the frame of the registers. markPositionPassed: the next block outright. pctlPulseEnd: pins.level, pins.pulsing; the frame of the registers. Rests on R116, R117, R119, R120, R121. -/
def Obligations.Marks : Prop :=
  (∀ (s : State) (m : Fin 256) (v : Word),
    s.dev.halted = false → Completes (.markArm m v) s (fun e => e = settle ((fun d => if bitOf v.toNat 31 then Dev.pcie (.reg (Mm_CTRL m) v.toNat) (markCtrlWrite m v.toNat) d else d) s.dev))) ∧
  (∀ (s : State) (m : Fin 256) (v : Word),
    s.dev.halted = false → Completes (.markDisarm m v) s (fun e => e = settle ((fun d => if bitOf v.toNat 31 then d else Dev.pcie (.reg (Mm_CTRL m) v.toNat) (markCtrlWrite m v.toNat) d) s.dev))) ∧
  (∀ (s : State),
    s.dev.halted = false → Completes (.schedDisarmAll) s (fun e => e = settle ((Dev.pcie (.reg SCHED_DISARM_ALL 1) (disarmAllWrite 1)) s.dev))) ∧
  (∀ (s : State) (marks : List Nat),
    s.dev.halted = false → Completes (.markTrigger marks) s (fun e => e = settle ((markTrigger marks) s.dev))) ∧
  (∀ (s : State) (m : Fin 256),
    s.dev.halted = false → Completes (.markPositionPassed m) s (fun e => e = settle ((markPositionPassed m) s.dev))) ∧
  (∀ (s : State) (p : Fin 48),
    s.dev.halted = false → Completes (.pctlPulseEnd p) s (fun e => e = settle ((pulseEnd p) s.dev))) ∧
  (∀ (s : State) (m : Fin 256) (v : Word),
    s.takes (Mm_CTRL m) v.toNat → bitOf v.toNat 31 = true → bitOf v.toNat 30 = false → s.dev.flag (Mm_CTRL_ARM m) = false → s.dev.get (Mm_TRIGGER_KIND m) = 1 → past32 (s.dev.get (Mm_WHEN_V m)) (s.dev.nsc32 (s.dev.get (Mm_TRIGGER_SOURCE m))) = false →
    Completes (.markArm m v) s (fun e =>
    e.flag (Mm_CTRL_ARM m) = true ∧ e.get (Mm_CTRL_FIRE_COUNT m) = 0 ∧ e.get (Mm_CTRL_LATE m) = 0 ∧ e.get (Mm_CTRL_MISSED m) = 0 ∧ keepsRegs [Mm_CTRL m] s.dev e ∧ keepsMem s.dev e)) ∧
  (∀ (s : State) (m : Fin 256) (v : Word),
    s.takes (Mm_CTRL m) v.toNat → bitOf v.toNat 31 = true → bitOf v.toNat 30 = true → s.dev.flag (Mm_CTRL_ARM m) = false → 2 ≤ s.dev.get (Mm_TRIGGER_KIND m) → s.dev.get (Mm_TRIGGER_KIND m) ≤ 4 →
    Completes (.markArm m v) s (fun e =>
    e.flag (Mm_CTRL_ARM m) = true ∧ e.flag (Mm_CTRL_REPEAT m) = true ∧ e.get (Mm_CTRL_FIRE_COUNT m) = 0 ∧ keepsRegs [Mm_CTRL m] s.dev e ∧ keepsMem s.dev e)) ∧
  (∀ (s : State) (m : Fin 256) (v : Word),
    s.takes (Mm_CTRL m) v.toNat → bitOf v.toNat 31 = false → markCtrlOk m v.toNat s.dev = true →
    Completes (.markDisarm m v) s (fun e =>
    e.flag (Mm_CTRL_ARM m) = false ∧ keepsRegs [Mm_CTRL m] s.dev e ∧ keepsMem s.dev e)) ∧
  (∀ (s : State),
    s.takes SCHED_DISARM_ALL 1 →
    Completes (.schedDisarmAll) s (fun e =>
    (∀ m : Fin 256, e.flag (Mm_CTRL_ARM m) = false) ∧ keepsMem s.dev e)) ∧
  (∀ (s : State) (m : Fin 256),
    s.live → s.dev.schedRuns = true → (s.dev.sched.shots.any (fun p => p.1 == m.val)) = false → s.dev.markDue m = true →
    Completes (.markTrigger [m.val]) s (fun e =>
    e = settle (s.dev.markFire m))) ∧
  (∀ (s : State) (m : Fin 256),
    s.live → s.dev.markDue m = false →
    Completes (.markTrigger [m.val]) s (fun e =>
    keepsRegs [] s.dev e ∧ keepsMem s.dev e)) ∧
  (∀ (s : State) (m : Fin 256),
    s.live → s.dev.schedRuns = true → (s.dev.sched.shots.any (fun p => p.1 == m.val)) = false → s.dev.flag (Mm_CTRL_ARM m) = true → s.dev.flag (Mm_CTRL_REPEAT m) = true → s.dev.get (Mm_TRIGGER_KIND m) ≠ 4 →
    Completes (.markPositionPassed m) s (fun e =>
    e = settle (s.dev.markMiss m))) ∧
  (∀ (s : State) (m : Fin 256),
    s.live → s.dev.schedRuns = true → (s.dev.sched.shots.any (fun p => p.1 == m.val)) = false → s.dev.flag (Mm_CTRL_ARM m) = true → s.dev.flag (Mm_CTRL_REPEAT m) = false → s.dev.markPast m = true →
    Completes (.markPositionPassed m) s (fun e =>
    e = settle (if s.dev.flag (Mm_CTRL_LATE_POLICY m) then s.dev.markDrop m else (s.dev.markLate m).markFire m))) ∧
  (∀ (s : State) (p : Fin 48),
    s.live → nth false s.dev.pins.pulsing p = true → nth false s.dev.pins.mapped p = true →
    Completes (.pctlPulseEnd p) s (fun e =>
    (p.val < s.dev.pins.level.length → nth .hiz e.pins.level p = .low) ∧ nth true e.pins.pulsing p = false ∧ keepsRegs [] s.dev e ∧ keepsMem s.dev e))

/-- Commits and RUN of a head. From every state in which the functional logic is not halted, each of headCommit, commitPoint, headRun, headStop completes: exec answers a next state, whose queue is the one given and whose block is the command's own effect on the block it found. Further clauses, each under hypotheses of its own on the state and the operands, say what then holds. headCommit: HDn_SHADOW_STATE, applied; the frame of the registers. commitPoint: HDn_SHADOW_STATE. headRun: HDn_STATUS_STATE, HDn_STATUS_PLL_FAIL; the frame of the registers. headStop: HDn_STATUS_STATE, applied, the head state; the frame of the registers. Rests on R13, R261, R262, R266. -/
def Obligations.HeadCommitRunStop : Prop :=
  (∀ (s : State) (h : Fin 8),
    s.dev.halted = false → Completes (.headCommit h) s (fun e => e = settle ((Dev.pcie (.reg (HDn_COMMIT h) 1) (headCommitWrite h 1)) s.dev))) ∧
  (∀ (s : State) (h : Fin 8) (early : Bool),
    s.dev.halted = false → Completes (.commitPoint h early) s (fun e => e = settle ((commitPoint h early) s.dev))) ∧
  (∀ (s : State) (h : Fin 8),
    s.dev.halted = false → Completes (.headRun h) s (fun e => e = settle ((fun d => if d.isMip h then d else Dev.pcie (.reg (HDn_CTRL h) 1) (headCtrlWrite h 1) d) s.dev))) ∧
  (∀ (s : State) (h : Fin 8),
    s.dev.halted = false → Completes (.headStop h) s (fun e => e = settle ((fun d => if d.isMip h then d else Dev.pcie (.reg (HDn_CTRL h) 0) (headCtrlWrite h 0) d) s.dev))) ∧
  (∀ (s : State) (h : Fin 8),
    s.takes (HDn_COMMIT h) 1 → s.dev.flag (HDn_SHADOW_STATE_V h) = false → s.dev.commitSetOk h = true →
    Completes (.headCommit h) s (fun e =>
    e = settle ((s.dev.writePlain (HDn_COMMIT h) 1).headSeal h) ∧ (s.dev.scans h = true → e.get (HDn_SHADOW_STATE_V h) = 1))) ∧
  (∀ (s : State) (h : Fin 8),
    s.takes (HDn_COMMIT h) 1 → s.dev.flag (HDn_SHADOW_STATE_V h) = true →
    Completes (.headCommit h) s (fun e =>
    e.flag (HDn_SHADOW_STATE_V h) = true ∧ keepsRegs [HDn_COMMIT h] s.dev e ∧ keepsMem s.dev e ∧ e.applied = s.dev.applied)) ∧
  (∀ (s : State) (h : Fin 8) (early : Bool),
    s.live → s.dev.isMip h = false → s.dev.atCommit h = true →
    Completes (.commitPoint h early) s (fun e =>
    e = settle (s.dev.rasterCommit h early none) ∧ e.get (HDn_SHADOW_STATE_V h) = 0)) ∧
  (∀ (s : State) (h : Fin 8) (early : Bool),
    s.live → s.dev.isMip h = true → (s.dev.mip h).phase = 1 →
    Completes (.commitPoint h early) s (fun e =>
    e = settle (s.dev.phaseBoundary h early))) ∧
  (∀ (s : State) (h : Fin 8),
    s.takes (HDn_CTRL h) 1 → s.dev.isMip h = false → s.dev.headPresent h = true → s.dev.headState h = 0 → s.dev.rasterRunOk h = true →
    Completes (.headRun h) s (fun e =>
    e.get (HDn_STATUS_STATE h) = 1 ∧ e.get (HDn_STATUS_PLL_FAIL h) = 0 ∧ keepsRegs [HDn_CTRL h, HDn_STATUS h, TOP_PLL_STATUS] s.dev e ∧ keepsMem s.dev e)) ∧
  (∀ (s : State) (h : Fin 8),
    s.takes (HDn_CTRL h) 1 → s.dev.isMip h = false → s.dev.headPresent h = true → s.dev.headState h = 2 → s.dev.rasterRunOk h = true →
    Completes (.headRun h) s (fun e =>
    e.get (HDn_STATUS_STATE h) = 1 ∧ keepsRegs [HDn_CTRL h, HDn_STATUS h] s.dev e ∧ keepsMem s.dev e)) ∧
  (∀ (s : State) (h : Fin 8),
    s.takes (HDn_CTRL h) 0 → s.dev.isMip h = false → s.dev.headState h = 1 →
    Completes (.headStop h) s (fun e =>
    e.get (HDn_STATUS_STATE h) = 2 ∧ keepsRegs [HDn_CTRL h, HDn_STATUS h] s.dev e ∧ keepsMem s.dev e ∧ e.applied = s.dev.applied)) ∧
  (∀ (s : State) (h : Fin 8),
    s.takes (HDn_CTRL h) 0 → s.dev.isMip h = false → s.dev.headState h = 3 →
    Completes (.headStop h) s (fun e =>
    e = settle ((s.dev.writePlain (HDn_CTRL h) 0).rasterStopped h) ∧ e.headState h = 0))

/-- Enabling a stream and the end of its frames. From every state in which the functional logic is not halted, each of streamEnable, streamDisable, streamFrameTimeout, lineStoreComplete, tpgFrameStart, tpgLine completes: exec answers a next state, whose queue is the one given and whose block is the command's own effect on the block it found. Further clauses, each under hypotheses of its own on the state and the operands, say what then holds. streamEnable: INn_STATUS_STATE, INn_CTRL_ENABLE, INn_CTRL_FORMAT, INn_CTRL_FB_COUNT, INn_FRAME_COUNT, INn_CRC_ERR_COUNT. streamDisable: INn_STATUS_STATE, INn_CTRL_ENABLE. streamFrameTimeout: INn_STATUS_STATE, INn_TIMEOUT_COUNT, INn_LAST_ERR_CAUSE. lineStoreComplete: stream.draining; the frame of the registers. tpgFrameStart: the stream state, INn_STATUS_FRAME. tpgLine: stream.tpgLine. Rests on R148, R153, R157. -/
def Obligations.StreamControl : Prop :=
  (∀ (s : State) (n : Fin 4) (format fbCount : Nat),
    s.dev.halted = false → Completes (.streamEnable n format fbCount) s (fun e => e = settle ((Dev.pcie (.reg (INn_CTRL n) (2 ^ 31 + format % 16 * 2 ^ 24 + fbCount % 8 * 2 ^ 20)) (inCtrlWrite n (2 ^ 31 + format % 16 * 2 ^ 24 + fbCount % 8 * 2 ^ 20))) s.dev))) ∧
  (∀ (s : State) (n : Fin 4) (format fbCount : Nat),
    s.dev.halted = false → Completes (.streamDisable n format fbCount) s (fun e => e = settle ((Dev.pcie (.reg (INn_CTRL n) (format % 16 * 2 ^ 24 + fbCount % 8 * 2 ^ 20)) (inCtrlWrite n (format % 16 * 2 ^ 24 + fbCount % 8 * 2 ^ 20))) s.dev))) ∧
  (∀ (s : State) (n : Fin 4) (linkDown : Bool),
    s.dev.halted = false → Completes (.streamFrameTimeout n linkDown) s (fun e => e = settle ((streamFrameTimeout n linkDown) s.dev))) ∧
  (∀ (s : State) (n : Fin 4),
    s.dev.halted = false → Completes (.lineStoreComplete n) s (fun e => e = settle ((lineStoreComplete n) s.dev))) ∧
  (∀ (s : State) (n : Fin 4),
    s.dev.halted = false → Completes (.tpgFrameStart n) s (fun e => e = settle ((tpgFrameStart n) s.dev))) ∧
  (∀ (s : State) (n : Fin 4),
    s.dev.halted = false → Completes (.tpgLine n) s (fun e => e = settle ((tpgLineNext n) s.dev))) ∧
  (∀ (s : State) (n : Fin 4) (f : Fin 4) (k : Fin 5),
    s.takes (INn_CTRL n) (2 ^ 31 + f % 16 * 2 ^ 24 + k % 8 * 2 ^ 20) → inCtrlOk n (2 ^ 31 + f % 16 * 2 ^ 24 + k % 8 * 2 ^ 20) s.dev = true → s.dev.flag (INn_CTRL_ENABLE n) = false →
    Completes (.streamEnable n f k) s (fun e =>
    e.get (INn_STATUS_STATE n) = 1 ∧ e.flag (INn_CTRL_ENABLE n) = true ∧ e.get (INn_CTRL_FORMAT n) = f ∧ e.get (INn_CTRL_FB_COUNT n) = k ∧ e.get (INn_FRAME_COUNT_V n) = 0 ∧ e.get (INn_CRC_ERR_COUNT_V n) = 0 ∧ keepsMem s.dev e)) ∧
  (∀ (s : State) (n : Fin 4) (f : Fin 4) (k : Fin 5),
    s.takes (INn_CTRL n) (f % 16 * 2 ^ 24 + k % 8 * 2 ^ 20) → inCtrlOk n (f % 16 * 2 ^ 24 + k % 8 * 2 ^ 20) s.dev = true → s.dev.flag (INn_CTRL_ENABLE n) = true →
    Completes (.streamDisable n f k) s (fun e =>
    e.get (INn_STATUS_STATE n) = 0 ∧ e.flag (INn_CTRL_ENABLE n) = false ∧ keepsMem s.dev e)) ∧
  (∀ (s : State) (n : Fin 4) (down : Bool),
    s.live → 1 ≤ s.dev.inState n → s.dev.inState n ≤ 3 → (down = true ∨ s.dev.inRung = false) → (down = false ∨ (s.dev.stream n).tpg = false) →
    Completes (.streamFrameTimeout n down) s (fun e =>
    e.get (INn_STATUS_STATE n) = 4 ∧ e.get (INn_TIMEOUT_COUNT_V n) = min (s.dev.get (INn_TIMEOUT_COUNT_V n) + 1) (2 ^ 32 - 1) ∧ e.get (INn_LAST_ERR_CAUSE n) = 7 ∧ keepsMem s.dev e)) ∧
  (∀ (s : State) (n : Fin 4),
    s.live →
    Completes (.lineStoreComplete n) s (fun e =>
    (n.val < s.dev.streams.length → (e.stream n).draining = (s.dev.stream n).draining - 1) ∧ keepsRegs [] s.dev e ∧ keepsMem s.dev e)) ∧
  (∀ (s : State) (n : Fin 4),
    s.live → s.dev.inState n ≠ 0 → (s.dev.stream n).tpg = true → s.dev.inRung = false → (s.dev.stream n).prevFrame = none →
    Completes (.tpgFrameStart n) s (fun e =>
    e = settle (((s.dev.onStream n (fun u => { u with tpgLine := 0 })).frameStart n ((s.dev.get (INn_STATUS_FRAME n) + 1) % 65536) (s.dev.inHeight n) true).exposureStart n ((s.dev.get (INn_STATUS_FRAME n) + 1) % 65536)) ∧ e.inState n = 2 ∧ e.get (INn_STATUS_FRAME n) = (s.dev.get (INn_STATUS_FRAME n) + 1) % 65536)) ∧
  (∀ (s : State) (n : Fin 4),
    s.live → (s.dev.stream n).tpg = true → s.dev.inState n = 2 → (s.dev.stream n).tpgLine < s.dev.inHeight n → n.val < s.dev.streams.length →
    Completes (.tpgLine n) s (fun e =>
    (e.stream n).tpgLine = (s.dev.stream n).tpgLine + 1))

/-- Frames and exposures from the camera. From every state in which the functional logic is not halted, each of streamFrameStart, streamFrameEnd, streamExposureStart, streamExposureEnd completes: exec answers a next state, whose queue is the one given and whose block is the command's own effect on the block it found. Further clauses, each under hypotheses of its own on the state and the operands, say what then holds. streamFrameStart: the stream state, INn_STATUS_FRAME, INn_MARK_ERR_COUNT, INn_LAST_ERR_CAUSE; the frame of the registers. streamFrameEnd: the stream state. streamExposureStart: stream.exposure; the frame of the registers. streamExposureEnd: INn_EXPOSURE_NS, stream.phases; the frame of the registers. Rests on R148, R149. -/
def Obligations.StreamFrames : Prop :=
  (∀ (s : State) (n : Fin 4) (kind : Fin 13) (mbz : Fin 1048576) (frame height : Fin 65536),
    s.dev.halted = false → Completes (.streamFrameStart n kind mbz frame height) s (fun e => e = settle ((Dev.blockIn n (frameMark (if kind.val = 0 then 0 else kind + 3) mbz frame height) (frameStartRx n frame height (kind.val == 0 && mbz.val == 0))) s.dev))) ∧
  (∀ (s : State) (n : Fin 4) (mbz : Fin 1048576) (height frame : Fin 65536),
    s.dev.halted = false → Completes (.streamFrameEnd n mbz height frame) s (fun e => e = settle ((Dev.blockIn n (frameMark 1 mbz frame height) (frameEndRx n frame (mbz.val == 0 && height.val == 0))) s.dev))) ∧
  (∀ (s : State) (n : Fin 4) (mbz : Fin 1048576) (height frame : Fin 65536),
    s.dev.halted = false → Completes (.streamExposureStart n mbz height frame) s (fun e => e = settle ((Dev.blockIn n (frameMark 2 mbz frame height) (streamExposureStart n frame (mbz.val == 0 && height.val == 0))) s.dev))) ∧
  (∀ (s : State) (n : Fin 4) (mbz : Fin 1048576) (height frame : Fin 65536),
    s.dev.halted = false → Completes (.streamExposureEnd n mbz height frame) s (fun e => e = settle ((Dev.blockIn n (frameMark 3 mbz frame height) (streamExposureEnd n frame (mbz.val == 0 && height.val == 0))) s.dev))) ∧
  (∀ (s : State) (n : Fin 4) (frame : Fin 65536) (height : Fin 65536),
    s.live → s.dev.fromLink n = true → s.dev.inRung = false → (s.dev.stream n).line = none → s.dev.inState n ≠ 2 → s.dev.inHeight n = height.val →
    Completes (.streamFrameStart n 0 0 frame height) s (fun e =>
    e = settle (Dev.idleEnds n (s.dev.stream n).done (let x := ((s.dev.distribute n (frameMark 0 0 frame height)).openFrame n frame).phaseArrives n 0 frame; if x.get (TBn_CTRL_ARG 2) = n then x.measured 2 10 (alignedOffset (x.tb 2).total (x.get (TBn_CTRL_PERIOD 2))) else x)) ∧ e.inState n = 2 ∧ e.get (INn_STATUS_FRAME n) = frame.val)) ∧
  (∀ (s : State) (n : Fin 4) (frame : Fin 65536),
    s.live → s.dev.fromLink n = true → (s.dev.stream n).line = none → s.dev.inState n = 2 → s.dev.get (INn_STATUS_FRAME n) = frame.val →
    Completes (.streamFrameEnd n 0 0 frame) s (fun e =>
    e = settle (((((s.dev.distribute n (frameMark 1 0 frame 0)).completeFrame n).put (INn_STATUS_STATE n) 3).phaseArrives n 1 frame).idleEnds n (s.dev.stream n).done) ∧ e.inState n = 3)) ∧
  (∀ (s : State) (n : Fin 4) (frame : Fin 65536),
    s.live → s.dev.fromLink n = true → n.val < s.dev.streams.length →
    Completes (.streamExposureStart n 0 0 frame) s (fun e =>
    (e.stream n).exposure = some (frame.val, (s.dev.tb 0).total) ∧ keepsRegs [] s.dev e ∧ keepsMem s.dev e)) ∧
  (∀ (s : State) (n : Fin 4) (frame : Fin 65536) (t : Nat),
    s.live → s.dev.fromLink n = true → n.val < s.dev.streams.length → (s.dev.stream n).exposure = some (frame.val, t) →
    Completes (.streamExposureEnd n 0 0 frame) s (fun e =>
    e.get (INn_EXPOSURE_NS_V n) = ((s.dev.tb 0).total + 2 ^ 32 - t % 2 ^ 32) % 2 ^ 32 ∧ (e.stream n).phases = (s.dev.stream n).phases ++ [(frame.val, 3)] ∧ keepsRegs [INn_EXPOSURE_NS n] s.dev e ∧ keepsMem s.dev e)) ∧
  (∀ (s : State) (n : Fin 4) (kind : Fin 13) (mbz : Fin 1048576) (frame : Fin 65536) (height : Fin 65536),
    s.live → s.dev.fromLink n = true → s.dev.inRung = false → (s.dev.stream n).line = none → (kind ≠ 0 ∨ mbz ≠ 0 ∨ s.dev.inHeight n ≠ height.val) → (∀ h : Fin 8, s.dev.isRaster h = false) →
    Completes (.streamFrameStart n kind mbz frame height) s (fun e =>
    e.get (INn_MARK_ERR_COUNT_V n) = min (s.dev.get (INn_MARK_ERR_COUNT_V n) + 1) (2 ^ 32 - 1) ∧ e.get (INn_LAST_ERR_CAUSE n) = 5 ∧ keepsRegs [INn_MARK_ERR_COUNT n, INn_LAST_ERR n] s.dev e ∧ keepsMem s.dev e))

/-- Lines from the camera. From every state in which the functional logic is not halted, each of streamLineStart, streamDataBlock, streamLineEnd completes: exec answers a next state, whose queue is the one given and whose block is the command's own effect on the block it found. Further clauses, each under hypotheses of its own on the state and the operands, say what then holds. streamLineStart: stream.line; the frame of the registers. streamDataBlock: stream.line, INn_LEN_ERR_COUNT, INn_LAST_ERR_CAUSE; the frame of the registers. streamLineEnd: the next block outright. Rests on R150. -/
def Obligations.StreamLines : Prop :=
  (∀ (s : State) (n : Fin 4) (format mbz : Fin 16) (frame line width : Fin 65536),
    s.dev.halted = false → Completes (.streamLineStart n format mbz frame line width) s (fun e => e = settle ((Dev.blockIn n (ctrlBlock [(1, 0x4B), (1, format + 16 * mbz), (2, frame), (2, line), (2, width)]) (streamLineStart n format frame line width (mbz.val == 0))) s.dev))) ∧
  (∀ (s : State) (n : Fin 4) (payload : BitVec 64),
    s.dev.halted = false → Completes (.streamDataBlock n payload) s (fun e => e = settle ((Dev.blockIn n (dataBlocks (leBytes 8 payload.toNat)) (streamDataBlock n (leBytes 8 payload.toNat))) s.dev))) ∧
  (∀ (s : State) (n : Fin 4) (mbz : Fin 16777216) (crc line : Fin 65536),
    s.dev.halted = false → Completes (.streamLineEnd n mbz crc line) s (fun e => e = settle ((Dev.blockIn n (ctrlBlock [(1, 0x55), (1, mbz % 256), (2, crc), (2, line), (2, mbz / 256)]) (streamLineEnd n crc line (mbz.val == 0))) s.dev))) ∧
  (∀ (s : State) (n : Fin 4) (f : Fin 16) (frame : Fin 65536) (y : Fin 65536) (w : Fin 65536),
    s.live → s.dev.fromLink n = true → n.val < s.dev.streams.length → (s.dev.stream n).line = none →
    Completes (.streamLineStart n f 0 frame y w) s (fun e =>
    (e.stream n).line = some { format := f, frame := frame, line := y, width := w, zeroOk := true, bytes := [], outside := !decide (s.dev.inState n = 2), overrun := decide (2 ≤ (s.dev.stream n).draining) } ∧ keepsRegs [] s.dev e ∧ keepsMem s.dev e)) ∧
  (∀ (s : State) (n : Fin 4) (p : BitVec 64) (l : OpenLine),
    s.live → s.dev.fromLink n = true → n.val < s.dev.streams.length → (s.dev.stream n).line = some l →
    Completes (.streamDataBlock n p) s (fun e =>
    (e.stream n).line = some { l with bytes := l.bytes ++ leBytes 8 p.toNat } ∧ keepsRegs [] s.dev e ∧ keepsMem s.dev e)) ∧
  (∀ (s : State) (n : Fin 4) (p : BitVec 64),
    s.live → s.dev.fromLink n = true → (s.dev.stream n).line = none →
    Completes (.streamDataBlock n p) s (fun e =>
    e.get (INn_LEN_ERR_COUNT_V n) = min (s.dev.get (INn_LEN_ERR_COUNT_V n) + 1) (2 ^ 32 - 1) ∧ e.get (INn_LAST_ERR_CAUSE n) = 2 ∧ keepsRegs [INn_LEN_ERR_COUNT n, INn_LAST_ERR n] s.dev e ∧ keepsMem s.dev e)) ∧
  (∀ (s : State) (n : Fin 4) (crc : Fin 65536) (y : Fin 65536) (l : OpenLine),
    s.live → s.dev.fromLink n = true → n.val < s.dev.streams.length → (s.dev.stream n).line = some l → l.outside = false → l.frame = s.dev.get (INn_STATUS_FRAME n) → s.dev.posLine n < l.line → l.line < s.dev.inHeight n → l.format = s.dev.inFormat n → l.zeroOk = true → l.width = s.dev.inWidth n → y.val = l.line → l.bytes.length = 8 * lineBlocks l.width l.format → crc.val = crc16 (l.head ++ l.bytes) → l.overrun = false →
    Completes (.streamLineEnd n 0 crc y) s (fun e =>
    e = settle (((s.dev.distribute n (ctrlBlock [(1, 0x55), (1, 0), (2, crc), (2, y), (2, 0)])).onStream n (fun u => { u with line := none })).acceptLine n l.line l.bytes)))

/-- HPLL lock and its absence. From every state in which the functional logic is not halted, each of hpllLock, hpllLockTimeout, regaitLungeTimeout completes: exec answers a next state, whose queue is the one given and whose block is the command's own effect on the block it found. Further clauses, each under hypotheses of its own on the state and the operands, say what then holds. hpllLock: HDn_STATUS_STATE, head.pllFor; the frame of the registers. hpllLockTimeout: head.pllTries, the head state, HDn_STATUS_PLL_FAIL; the frame of the registers. regaitLungeTimeout: head.lungeWait; the frame of the registers. Rests on R262, R270, R272. -/
def Obligations.HpllEvents : Prop :=
  (∀ (s : State) (h : Fin 8),
    s.dev.halted = false → Completes (.hpllLock h) s (fun e => e = settle ((hpllLock h) s.dev))) ∧
  (∀ (s : State) (h : Fin 8),
    s.dev.halted = false → Completes (.hpllLockTimeout h) s (fun e => e = settle ((hpllLockTimeout h) s.dev))) ∧
  (∀ (s : State) (h : Fin 8),
    s.dev.halted = false → Completes (.regaitLungeTimeout h) s (fun e => e = settle ((regaitLungeTimeout h) s.dev))) ∧
  (∀ (s : State) (h : Fin 8),
    s.live → (s.dev.head h).pllFor = 1 → h.val < s.dev.heads.length →
    Completes (.hpllLock h) s (fun e =>
    e.get (HDn_STATUS_STATE h) = s.dev.headState h ∧ (e.head h).pllFor = 0 ∧ keepsRegs [TOP_PLL_STATUS, HDn_APPLIED_RATE 0, HDn_APPLIED_RATE 1, HDn_APPLIED_RATE 2, HDn_APPLIED_RATE 3, HDn_APPLIED_RATE 4, HDn_APPLIED_RATE 5, HDn_APPLIED_RATE 6, HDn_APPLIED_RATE 7] s.dev e ∧ keepsMem s.dev e)) ∧
  (∀ (s : State) (h : Fin 8),
    s.live → (s.dev.head h).pllFor ≠ 0 → (s.dev.head h).pllTries < 2 → h.val < s.dev.heads.length →
    Completes (.hpllLockTimeout h) s (fun e =>
    (e.head h).pllTries = (s.dev.head h).pllTries + 1 ∧ keepsRegs [] s.dev e ∧ keepsMem s.dev e)) ∧
  (∀ (s : State) (h : Fin 8),
    s.live → (s.dev.head h).pllFor ≠ 0 → 2 ≤ (s.dev.head h).pllTries →
    Completes (.hpllLockTimeout h) s (fun e =>
    e = settle ((((s.dev.onHead h (fun u => { u with pllFor := 0, pllTries := 0 })).rasterStopped h).put (HDn_STATUS_PLL_FAIL h) 1).flogWrite clsDevice 0 h [s.dev.word (HDn_STATUS h)]) ∧ e.headState h = 0 ∧ e.get (HDn_STATUS_PLL_FAIL h) = 1)) ∧
  (∀ (s : State) (h : Fin 8),
    s.live → s.dev.headState h = 3 → s.dev.get (HDn_STATUS_SWITCH_STEP h) = 3 → h.val < s.dev.heads.length →
    Completes (.regaitLungeTimeout h) s (fun e =>
    (e.head h).lungeWait = [] ∧ keepsRegs [] s.dev e ∧ keepsMem s.dev e))

/-- The frame queue and the records of a raster head. From every state in which the functional logic is not halted, each of queuePush, queueFlush, recordPop completes: exec answers a next state, whose queue is the one given and whose block is the command's own effect on the block it found. Further clauses, each under hypotheses of its own on the state and the operands, say what then holds. queuePush: head.queue. queueFlush: head.queue, applied; the frame of the registers. recordPop: head.records, HDn_REC_STATUS_LEVEL; the frame of the registers. Rests on R273, R278, R286. -/
def Obligations.FrameQueue : Prop :=
  (∀ (s : State) (h : Fin 8) (v : Word),
    s.dev.halted = false → Completes (.queuePush h v) s (fun e => e = settle ((Dev.pcie (.reg (HDn_Q_PUSH h) v.toNat) (qPushWrite h v.toNat)) s.dev))) ∧
  (∀ (s : State) (h : Fin 8),
    s.dev.halted = false → Completes (.queueFlush h) s (fun e => e = settle ((Dev.pcie (.reg (HDn_Q_FLUSH h) 1) (qFlushWrite h 1)) s.dev))) ∧
  (∀ (s : State) (h : Fin 8),
    s.dev.halted = false → Completes (.recordPop h) s (fun e => e = settle ((Dev.pcie (.reg (HDn_REC_POP h) 1) (recPopWrite h 1)) s.dev))) ∧
  (∀ (s : State) (h : Fin 8) (v : Word),
    s.takes (HDn_Q_PUSH h) v.toNat → qPushOk h s.dev = true → (s.dev.head h).queue ≠ [] → h.val < s.dev.heads.length →
    Completes (.queuePush h v) s (fun e =>
    e = settle ((s.dev.writePlain (HDn_Q_PUSH h) v.toNat).qAdd h { base := s.dev.get (HDn_Q_BASE_V h), time := s.dev.get (HDn_Q_TIME_V h), tag := bitsOf v.toNat 0 16, next := bitOf v.toNat 17, drop := bitOf v.toNat 18, tb := bitsOf v.toNat 19 2 }) ∧ (e.head h).queue = (s.dev.head h).queue ++ [{ base := s.dev.get (HDn_Q_BASE_V h), time := s.dev.get (HDn_Q_TIME_V h), tag := bitsOf v.toNat 0 16, next := bitOf v.toNat 17, drop := bitOf v.toNat 18, tb := bitsOf v.toNat 19 2 }])) ∧
  (∀ (s : State) (h : Fin 8),
    s.takes (HDn_Q_FLUSH h) 1 → s.dev.isMip h = false → h.val < s.dev.heads.length →
    Completes (.queueFlush h) s (fun e =>
    (e.head h).queue = [] ∧ keepsRegs [HDn_Q_FLUSH h] s.dev e ∧ keepsMem s.dev e ∧ e.applied = s.dev.applied)) ∧
  (∀ (s : State) (h : Fin 8),
    s.takes (HDn_REC_POP h) 1 → s.dev.isMip h = false → h.val < s.dev.heads.length → (s.dev.head h).records.length ≤ 16 →
    Completes (.recordPop h) s (fun e =>
    (e.head h).records = (s.dev.head h).records.drop 1 ∧ e.get (HDn_REC_STATUS_LEVEL h) = (s.dev.head h).records.length - 1 ∧ keepsRegs [HDn_REC_POP h, HDn_REC_STATUS h] s.dev e ∧ keepsMem s.dev e))

/-- Frames and lines of a raster head. From every state in which the functional logic is not halted, each of lineLockAcquire, headFrameStart, headLineStart, headUnderrun completes: exec answers a next state, whose queue is the one given and whose block is the command's own effect on the block it found. Further clauses, each under hypotheses of its own on the state and the operands, say what then holds. lineLockAcquire: LLh_CTRL_STATE, LLh_ANCHOR_NS; the frame of the registers. headFrameStart: HDn_COUNTk. headLineStart: the next block outright. headUnderrun: the next block outright. Rests on R163, R248, R256, R280. -/
def Obligations.HeadScan : Prop :=
  (∀ (s : State) (h : Fin 8),
    s.dev.halted = false → Completes (.lineLockAcquire h) s (fun e => e = settle ((lineLockAcquire h) s.dev))) ∧
  (∀ (s : State) (h : Fin 8),
    s.dev.halted = false → Completes (.headFrameStart h) s (fun e => e = settle ((headFrameStart h) s.dev))) ∧
  (∀ (s : State) (h : Fin 8) (early : Bool) (planes : List (Nat × Nat)) (maps : List Nat) (errs : List (Nat × Ecc)),
    s.dev.halted = false → Completes (.headLineStart h early planes maps errs) s (fun e => e = settle ((headLineStart h early planes maps errs) s.dev))) ∧
  (∀ (s : State) (h : Fin 8) (early : Bool),
    s.dev.halted = false → Completes (.headUnderrun h early) s (fun e => e = settle ((headUnderrun h early) s.dev))) ∧
  (∀ (s : State) (h : Fin 8),
    s.live → s.dev.isRaster h = true → s.dev.get (LLh_CTRL_STATE h) = 1 → s.dev.inState (s.dev.app (LLh_CTRL_STREAM h)) = 2 → s.dev.get (INn_LINE_PERIOD_V (s.dev.app (LLh_CTRL_STREAM h))) ≠ 0 → s.dev.lockPeriodOk h = true →
    Completes (.lineLockAcquire h) s (fun e =>
    e.get (LLh_CTRL_STATE h) = 2 ∧ e.get (LLh_ANCHOR_NS_V h) = unsgn 32 (s.dev.anchorNs h) ∧ keepsRegs [LLh_CTRL h, LLh_ANCHOR_NS h] s.dev e ∧ keepsMem s.dev e)) ∧
  (∀ (s : State) (h : Fin 8),
    s.live → s.dev.mayStartFrame h = true → s.dev.headState h = 1 → (s.dev.head h).started = true → 4 ≤ (s.dev.head h).sect.source → (s.dev.head h).sect.source ≠ 16 → s.dev.appB (HDn_FLOCK_CTRL_ENABLE h) = false → h.val < s.dev.heads.length →
    Completes (.headFrameStart h) s (fun e =>
    e = settle (((((((s.dev.put (HDn_POSITION_FRAME h) (s.dev.head h).nextFrame).put (HDn_POSITION_LINE h) 0).inc (HDn_COUNTk_V h 0)).onHead h (fun u => { u with nextFrame := ((s.dev.head h).nextFrame + 1) % 65536, startTime := s.dev.nsc32 0, inFrame := true, lineBegun := false, margin := none, tag := 0, lateLines := 0, idleOver := false, flockWait := none, flags := Nat.lor u.flags (if u.dropMark then 64 else 0), dropMark := false, stallPos := 0, stallRows := [], stallFit := true, frameLines := s.dev.vtotal h })).fabricFrameStart h)).frameMark h 0 (s.dev.head h).nextFrame (s.dev.vactive h)) ∧ e.get (HDn_COUNTk_V h 0) = min (s.dev.get (HDn_COUNTk_V h 0) + 1) (2 ^ 32 - 1))) ∧
  (∀ (s : State) (h : Fin 8) (early : Bool) (planes : List (Nat × Nat)) (maps : List Nat) (errs : List (Nat × Ecc)),
    s.live → s.dev.mayStartLine h = true → (s.dev.head h).inFrame = false →
    Completes (.headLineStart h early planes maps errs) s (fun e =>
    e = settle (s.dev.startLine h (s.dev.nextLine h) planes maps errs))) ∧
  (∀ (s : State) (h : Fin 8) (early : Bool) (planes : List (Nat × Nat)) (maps : List Nat) (errs : List (Nat × Ecc)),
    s.live → s.dev.mayStartLine h = true → s.dev.lineMissing h (s.dev.nextLine h) = false →
    Completes (.headLineStart h early planes maps errs) s (fun e =>
    e = settle (s.dev.startLine h (s.dev.nextLine h) planes maps errs))) ∧
  (∀ (s : State) (h : Fin 8) (early : Bool),
    s.live → s.dev.isRaster h = true → s.dev.headState h ≠ 0 → (s.dev.head h).inFrame = true → s.dev.nextLine h < s.dev.vactive h →
    Completes (.headUnderrun h early) s (fun e =>
    e = settle ((s.dev.rasterCommit h early (some (s.dev.nextLine h))).underrunCounted h false)))

/-- Configuration commands to the column drivers. From every state in which the functional logic is not halted, each of headCmdWrite, headCmdRead, cmdRspTimeout, cmdRspRx completes: exec answers a next state, whose queue is the one given and whose block is the command's own effect on the block it found. Further clauses, each under hypotheses of its own on the state and the operands, say what then holds. headCmdWrite: HDn_CMD_STATUS_STATE, HDn_CMD_STATUS_SEQ, head.cmd; the frame of the registers. headCmdRead: HDn_CMD_STATUS_STATE, HDn_CMD_STATUS_SEQ, head.cmd; the frame of the registers. cmdRspTimeout: HDn_CMD_STATUS_STATE, HDn_CMD_STATUS_RESULT; the frame of the registers. cmdRspRx: HDn_CMD_STATUS_STATE, HDn_CMD_STATUS_RESULT, HDn_CMD_RDATA; the frame of the registers. Rests on R258. -/
def Obligations.ColumnCommands : Prop :=
  (∀ (s : State) (h : Fin 8),
    s.dev.halted = false → Completes (.headCmdWrite h) s (fun e => e = settle ((fun d => if d.get (HDn_CMD_CTRL_OP h) = 1 then Dev.pcie (.reg (HDn_CMD_GO h) 1) (cmdGoWrite h 1) d else d) s.dev))) ∧
  (∀ (s : State) (h : Fin 8),
    s.dev.halted = false → Completes (.headCmdRead h) s (fun e => e = settle ((fun d => if d.get (HDn_CMD_CTRL_OP h) = 2 then Dev.pcie (.reg (HDn_CMD_GO h) 1) (cmdGoWrite h 1) d else d) s.dev))) ∧
  (∀ (s : State) (h : Fin 8),
    s.dev.halted = false → Completes (.cmdRspTimeout h) s (fun e => e = settle ((cmdRspTimeout h) s.dev))) ∧
  (∀ (s : State) (j : Fin 16) (status seq : Fin 16) (addr : Fin 256) (data : Word),
    s.dev.halted = false → Completes (.cmdRspRx j status seq addr data) s (fun e => e = settle ((cmdRspRx j status seq addr data.toNat) s.dev))) ∧
  (∀ (s : State) (h : Fin 8),
    s.takes (HDn_CMD_GO h) 1 → s.dev.isMip h = false → s.dev.get (HDn_CMD_CTRL_OP h) = 1 → (s.dev.get (HDn_CMD_STATUS_STATE h) = 0 ∨ s.dev.get (HDn_CMD_STATUS_STATE h) = 3) → (s.dev.head h).inFrame = true → h.val < s.dev.heads.length →
    Completes (.headCmdWrite h) s (fun e =>
    e.get (HDn_CMD_STATUS_STATE h) = 1 ∧ e.get (HDn_CMD_STATUS_SEQ h) = (s.dev.get (HDn_CMD_STATUS_SEQ h) + 1) % 16 ∧ (e.head h).cmd = [s.dev.get (HDn_CMD_CTRL_LINK h), 1, s.dev.get (HDn_CMD_CTRL_DEVICE h), s.dev.get (HDn_CMD_CTRL_ADDR h), s.dev.get (HDn_CMD_DATA_V h)] ∧ keepsRegs [HDn_CMD_GO h, HDn_CMD_STATUS h] s.dev e ∧ keepsMem s.dev e)) ∧
  (∀ (s : State) (h : Fin 8),
    s.takes (HDn_CMD_GO h) 1 → s.dev.isMip h = false → s.dev.get (HDn_CMD_CTRL_OP h) = 2 → (s.dev.get (HDn_CMD_STATUS_STATE h) = 0 ∨ s.dev.get (HDn_CMD_STATUS_STATE h) = 3) → (s.dev.head h).inFrame = true → h.val < s.dev.heads.length →
    Completes (.headCmdRead h) s (fun e =>
    e.get (HDn_CMD_STATUS_STATE h) = 1 ∧ e.get (HDn_CMD_STATUS_SEQ h) = (s.dev.get (HDn_CMD_STATUS_SEQ h) + 1) % 16 ∧ (e.head h).cmd = [s.dev.get (HDn_CMD_CTRL_LINK h), 2, s.dev.get (HDn_CMD_CTRL_DEVICE h), s.dev.get (HDn_CMD_CTRL_ADDR h), s.dev.get (HDn_CMD_DATA_V h)] ∧ keepsRegs [HDn_CMD_GO h, HDn_CMD_STATUS h] s.dev e ∧ keepsMem s.dev e)) ∧
  (∀ (s : State) (h : Fin 8),
    s.live → s.dev.get (HDn_CMD_STATUS_STATE h) = 2 →
    Completes (.cmdRspTimeout h) s (fun e =>
    e.get (HDn_CMD_STATUS_STATE h) = 3 ∧ e.get (HDn_CMD_STATUS_RESULT h) = 3 ∧ keepsRegs [HDn_CMD_STATUS h] s.dev e ∧ keepsMem s.dev e)) ∧
  (∀ (s : State) (j : Fin 16) (st : Fin 16) (seq : Fin 16) (addr : Fin 256) (data : Word) (h : Nat),
    s.live → (s.dev.linkEntry j).profile = 2 → s.dev.linkUp j = true → (s.dev.linkEntry j).owner = h → h < 8 → s.dev.isMip h = false → s.dev.get (HDn_CMD_STATUS_STATE h) = 2 → seq.val = s.dev.get (HDn_CMD_STATUS_SEQ h) → st.val < 3 → nth 0 (s.dev.head h).cmd 1 = 2 →
    Completes (.cmdRspRx j st seq addr data) s (fun e =>
    e.get (HDn_CMD_STATUS_STATE h) = 3 ∧ e.get (HDn_CMD_STATUS_RESULT h) = st ∧ e.get (HDn_CMD_RDATA_V h) = data.toNat ∧ keepsRegs [HDn_CMD_STATUS h, HDn_CMD_RDATA h] s.dev e ∧ keepsMem s.dev e))

/-- RUN, refresh and phase boundaries of a MIP head. From every state in which the functional logic is not halted, each of mipRun, mipStop, mipRefreshGo, mipPhaseBoundary, mipRampStep completes: exec answers a next state, whose queue is the one given and whose block is the command's own effect on the block it found. Further clauses, each under hypotheses of its own on the state and the operands, say what then holds. mipRun: the head state, HDn_STATUS_STATE; the frame of the registers. mipStop: HDn_STATUS_STATE, mip.runs; the frame of the registers. mipRefreshGo: HDn_MIP_COUNTk. mipPhaseBoundary: the next block outright. mipRampStep: the next block outright. Rests on R297, R298, R299, R345. -/
def Obligations.MipHeads : Prop :=
  (∀ (s : State) (h : Fin 8),
    s.dev.halted = false → Completes (.mipRun h) s (fun e => e = settle ((fun d => if d.isMip h then Dev.pcie (.reg (HDn_CTRL h) 1) (headCtrlWrite h 1) d else d) s.dev))) ∧
  (∀ (s : State) (h : Fin 8),
    s.dev.halted = false → Completes (.mipStop h) s (fun e => e = settle ((fun d => if d.isMip h then Dev.pcie (.reg (HDn_CTRL h) 0) (headCtrlWrite h 0) d else d) s.dev))) ∧
  (∀ (s : State) (h : Fin 8),
    s.dev.halted = false → Completes (.mipRefreshGo h) s (fun e => e = settle ((Dev.pcie (.reg (HDn_MIP_REFRESH_GO h) 1) (refreshGoWrite h 1)) s.dev))) ∧
  (∀ (s : State) (h : Fin 8) (early : Bool),
    s.dev.halted = false → Completes (.mipPhaseBoundary h early) s (fun e => e = settle ((Dev.phaseBoundary h early) s.dev))) ∧
  (∀ (s : State) (h : Fin 8) (early : Bool),
    s.dev.halted = false → Completes (.mipRampStep h early) s (fun e => e = settle ((mipRampStep h early) s.dev))) ∧
  (∀ (s : State) (h : Fin 8),
    s.takes (HDn_CTRL h) 1 → s.dev.isMip h = true → s.dev.headState h = 0 → s.dev.mipRunOk h = true →
    Completes (.mipRun h) s (fun e =>
    e = settle (((s.dev.writePlain (HDn_CTRL h) 1).put (HDn_STATUS_STATE h) 1).fullPush h) ∧ e.headState h = 1)) ∧
  (∀ (s : State) (h : Fin 8),
    s.takes (HDn_CTRL h) 1 → s.dev.isMip h = true → s.dev.headState h = 2 → s.dev.mipRunOk h = true →
    Completes (.mipRun h) s (fun e =>
    e.get (HDn_STATUS_STATE h) = 1 ∧ keepsRegs [HDn_CTRL h, HDn_STATUS h] s.dev e ∧ keepsMem s.dev e)) ∧
  (∀ (s : State) (h : Fin 8),
    s.takes (HDn_CTRL h) 0 → s.dev.isMip h = true → s.dev.headState h = 1 → (s.dev.mip h).runs ≠ [] →
    Completes (.mipStop h) s (fun e =>
    e.get (HDn_STATUS_STATE h) = 2 ∧ keepsRegs [HDn_CTRL h, HDn_STATUS h] s.dev e ∧ keepsMem s.dev e ∧ (e.mip h).runs = (s.dev.mip h).runs)) ∧
  (∀ (s : State) (h : Fin 8),
    s.takes (HDn_MIP_REFRESH_GO h) 1 → s.dev.isMip h = true → s.dev.get (HDn_MIP_REFRESH_SIZE_W h) = 0 →
    Completes (.mipRefreshGo h) s (fun e =>
    e = settle (((s.dev.writePlain (HDn_MIP_REFRESH_GO h) 1).fullPush h).inc (HDn_MIP_COUNTk_V h 15)) ∧ e.get (HDn_MIP_COUNTk_V h 15) = min (s.dev.get (HDn_MIP_COUNTk_V h 15) + 1) (2 ^ 32 - 1))) ∧
  (∀ (s : State) (h : Fin 8) (early : Bool),
    s.live → s.dev.isMip h = true → s.dev.comsRun h = true → s.dev.panelState h = 3 →
    Completes (.mipPhaseBoundary h early) s (fun e =>
    e = settle (s.dev.comsStop h))) ∧
  (∀ (s : State) (h : Fin 8) (early : Bool),
    s.live → s.dev.panelState h ≠ 2 → s.dev.panelState h ≠ 3 →
    Completes (.mipPhaseBoundary h early) s (fun e =>
    e = settle s.dev)) ∧
  (∀ (s : State) (h : Fin 8) (early : Bool),
    s.live → s.dev.isMip h = true → s.dev.comsRun h = true → s.dev.panelState h = 2 → (s.dev.mip h).phase = 0 → (((s.dev.lostRecords h).comsSwitch h 1).mipActive h) = false →
    Completes (.mipPhaseBoundary h early) s (fun e =>
    e = settle (((s.dev.lostRecords h).comsSwitch h 1).pushIdle h))) ∧
  (∀ (s : State) (h : Fin 8) (early : Bool),
    s.live → s.dev.isMip h = true → s.dev.comsRun h = true → s.dev.panelState h = 2 → (s.dev.mip h).phase = 0 → (((s.dev.lostRecords h).comsSwitch h 1).mipActive h) = true →
    Completes (.mipPhaseBoundary h early) s (fun e =>
    e = settle (((s.dev.lostRecords h).comsSwitch h 1).boundaryActions h false false))) ∧
  (∀ (s : State) (h : Fin 8) (early : Bool),
    s.live → s.dev.isMip h = true → ¬ (s.dev.panelState h = 1 ∧ (s.dev.mipRamp h).panelState h = 2) →
    Completes (.mipRampStep h early) s (fun e =>
    e = settle (s.dev.mipRamp h)))

/-- Passes and readback of a MIP head. From every state in which the functional logic is not halted, each of mipPassEnd, mipReadDataRx, mipReadbackTimeout, balanceFault completes: exec answers a next state, whose queue is the one given and whose block is the command's own effect on the block it found. Further clauses, each under hypotheses of its own on the state and the operands, say what then holds. mipPassEnd: HDn_MIP_STATUS_PASS_BUSY. mipReadDataRx: the next block outright. mipReadbackTimeout: the next block outright. balanceFault: COMc_STATUS_BAL_FAULT, MIP_EVT_STATUS. Rests on R307, R321, R322. -/
def Obligations.MipPasses : Prop :=
  (∀ (s : State) (h : Fin 8) (reads : PassReads),
    s.dev.halted = false → Completes (.mipPassEnd h reads) s (fun e => e = settle ((mipPassEnd h reads.planes reads.maps reads.errs) s.dev))) ∧
  (∀ (s : State) (h : Fin 8) (plane : Fin 4) (row first count : Nat) (payload : List Byte) (crc : Nat),
    s.dev.halted = false → Completes (.mipReadDataRx h plane row first count payload crc) s (fun e => e = settle ((mipReadDataRx h plane row first count payload crc) s.dev))) ∧
  (∀ (s : State) (h : Fin 8),
    s.dev.halted = false → Completes (.mipReadbackTimeout h) s (fun e => e = settle ((mipReadbackTimeout h) s.dev))) ∧
  (∀ (s : State) (c : Fin 4),
    s.dev.halted = false → Completes (.balanceFault c) s (fun e => e = settle ((balanceFault c) s.dev))) ∧
  (∀ (s : State) (h : Fin 8) (planes : List (Nat × Nat)) (maps : List Nat) (errs : List (Nat × Ecc)),
    s.live → s.dev.isMip h = true → s.dev.flag (HDn_MIP_STATUS_PASS_BUSY h) = true →
    Completes (.mipPassEnd h ⟨planes, maps, errs⟩) s (fun e =>
    e.flag (HDn_MIP_STATUS_PASS_BUSY h) = false)) ∧
  (∀ (s : State) (h : Fin 8) (p : Fin 4) (row : Nat) (f : Nat) (n : Nat) (l : List Byte) (crc : Nat),
    s.live → s.dev.isMip h = true → s.dev.readbackOn h = true → (f ≠ 0 ∨ n ≠ s.dev.mipW h ∨ (s.dev.mip h).rbAwait.contains (row, p.val) = false) →
    Completes (.mipReadDataRx h p row f n l crc) s (fun e =>
    e = settle (s.dev.readbackFailure h))) ∧
  (∀ (s : State) (h : Fin 8) (r : List (Nat × Nat)) (x : Nat × Nat),
    s.live → (s.dev.mip h).rbAwait = x :: r →
    Completes (.mipReadbackTimeout h) s (fun e =>
    e = settle ((s.dev.onMip h (fun u => { u with rbAwait := r })).readbackFailure h))) ∧
  (∀ (s : State) (c : Fin 4),
    s.live → s.dev.getI (COMc_BALANCE_V c) ≠ 0 → s.dev.flag (COMc_STATUS_BAL_FAULT c) = false →
    Completes (.balanceFault c) s (fun e =>
    e.flag (COMc_STATUS_BAL_FAULT c) = true ∧ bitOf (e.word MIP_EVT_STATUS) (4 + c) = true ∧ e = settle (Dev.mipEvt (4 + c) ((s.dev.put (COMc_STATUS_BAL_FAULT c) 1).flogWrite clsMip (4 + c) 0xFF [s.dev.word (COMc_BALANCE c)]))))

/-- Waveform loads and the halter area. From every state in which the functional logic is not halted, each of mipWtLoad, mipWtLoadDone, halterRender, halterPhase, haltBmpDataRead completes: exec answers a next state, whose queue is the one given and whose block is the command's own effect on the block it found. Further clauses, each under hypotheses of its own on the state and the operands, say what then holds. mipWtLoad: MIP_WT_STATUS_STATE, harn.wtLoad; the frame of the registers. mipWtLoadDone: MIP_WT_STATUS_STATE, harn.wtLoad. halterRender: the next block outright. halterPhase: the frame of the registers. haltBmpDataRead: what is sent, MIP_HALT_BMP_ADDR; the frame of the registers. Rests on R303, R326, R330. -/
def Obligations.WaveAndHalter : Prop :=
  (∀ (s : State) (h : Fin 8) (buffer : Fin 2),
    s.dev.halted = false → Completes (.mipWtLoad h buffer) s (fun e => e = settle ((Dev.pcie (.reg MIP_WT_LOAD (2 ^ 31 + 256 * buffer + h)) (wtLoadWrite (2 ^ 31 + 256 * buffer + h))) s.dev))) ∧
  (∀ (s : State) (errs : List (Nat × Ecc)),
    s.dev.halted = false → Completes (.mipWtLoadDone errs) s (fun e => e = settle ((wtLoadDone errs) s.dev))) ∧
  (∀ (s : State),
    s.dev.halted = false → Completes (.halterRender) s (fun e => e = settle (halterRender s.dev))) ∧
  (∀ (s : State),
    s.dev.halted = false → Completes (.halterPhase) s (fun e => e = settle (halterPhase s.dev))) ∧
  (∀ (s : State),
    s.dev.halted = false → Completes (.haltBmpDataRead) s (fun e => e = settle (bmpDataRead s.dev))) ∧
  (∀ (s : State) (h : Fin 8) (b : Fin 2),
    s.takes MIP_WT_LOAD (2 ^ 31 + 256 * b.val + h.val) → s.dev.isMip h = true → s.dev.harn.wtLoad = none →
    Completes (.mipWtLoad h b) s (fun e =>
    e.get MIP_WT_STATUS_STATE = 1 ∧ e.harn.wtLoad = some (h.val, b.val) ∧ keepsRegs [MIP_WT_LOAD, MIP_WT_STATUS] s.dev e ∧ keepsMem s.dev e)) ∧
  (∀ (s : State) (errs : List (Nat × Ecc)) (h : Nat) (b : Nat),
    s.live → s.dev.harn.wtLoad = some (h, b) → dramEnd < s.dev.get MIP_WT_SRC_LO_V + s.dev.get MIP_WT_SRC_HI_V * 2 ^ 32 + 32768 → (s.dev.onHarn (fun u => { u with wtLoad := none })).wtInUse h b = false →
    Completes (.mipWtLoadDone errs) s (fun e =>
    e = settle (Dev.mipEvt 2 (((s.dev.onHarn (fun u => { u with wtLoad := none })).put MIP_WT_STATUS_STATE 3).setWord MIP_WT_ERR (8 * 2 ^ 28 + 0 * 2 ^ 24 + 0 * 2 ^ 16 + 0 * 256 + b * 8 + h)) h) ∧ e.get MIP_WT_STATUS_STATE = 3 ∧ e.harn.wtLoad = none)) ∧
  (∀ (s : State),
    s.live → s.dev.halterOn = true →
    Completes (.halterRender) s (fun e =>
    e = settle s.dev.haltRender)) ∧
  (∀ (s : State),
    s.live → s.dev.halterOn = true → s.dev.panelState (s.dev.get MIP_HALT_CTRL_HEAD) = 2 →
    Completes (.halterPhase) s (fun e =>
    keepsRegs [] s.dev e ∧ keepsMem s.dev e ∧ (s.dev.get MIP_HALT_CTRL_HEAD < s.dev.heads.length → (e.mip (s.dev.get MIP_HALT_CTRL_HEAD)).phase = if (s.dev.tb 1).ns < 500000000 then 0 else 1))) ∧
  (∀ (s : State),
    s.live → s.dev.regOpen MIP_HALT_BMP_DATA = true →
    Completes (.haltBmpDataRead) s (fun e =>
    e.sent = .completion false [s.dev.bmpWord] :: s.dev.sent ∧ e.get MIP_HALT_BMP_ADDR_V = (s.dev.get MIP_HALT_BMP_ADDR_V + 4) % 2048 ∧ keepsRegs [MIP_HALT_BMP_ADDR] s.dev e ∧ keepsMem s.dev e))

/-- Engine errors, BIST and substitution. From every state in which the functional logic is not halted, each of engineParityError, engineBistStart, engineBistComplete, engineSubstitutionComplete, perHeadReset completes: exec answers a next state, whose queue is the one given and whose block is the command's own effect on the block it found. Further clauses, each under hypotheses of its own on the state and the operands, say what then holds. engineParityError: SEk_ERR_COUNT, engines; the frame of the registers. engineBistStart: SEk_STATUS_STATE. engineBistComplete: SEk_STATUS_STATE, SEk_STATUS_BIST_FAIL. engineSubstitutionComplete: engines.sub; the frame of the registers. perHeadReset: the next block outright. Rests on R28, R201, R203, R204. -/
def Obligations.Engines : Prop :=
  (∀ (s : State) (k : Fin 28),
    s.dev.halted = false → Completes (.engineParityError k) s (fun e => e = settle ((engineParityError k) s.dev))) ∧
  (∀ (s : State) (k : Fin 28),
    s.dev.halted = false → Completes (.engineBistStart k) s (fun e => e = settle ((engineBistStart k) s.dev))) ∧
  (∀ (s : State) (k : Fin 28) (pass : Bool),
    s.dev.halted = false → Completes (.engineBistComplete k pass) s (fun e => e = settle ((engineBistComplete k pass) s.dev))) ∧
  (∀ (s : State),
    s.dev.halted = false → Completes (.engineSubstitutionComplete) s (fun e => e = settle (substitutionComplete s.dev))) ∧
  (∀ (s : State) (h : Fin 8),
    s.dev.halted = false → Completes (.perHeadReset h) s (fun e => e = settle ((Dev.pcie (.reg (HDn_RESET h) 1) (headResetWrite h 1)) s.dev))) ∧
  (∀ (s : State) (k : Fin 28),
    s.live → s.dev.engineHead k = none → s.dev.engines.parity = [] →
    Completes (.engineParityError k) s (fun e =>
    e.get (SEk_ERR_COUNT_V k) = min (s.dev.get (SEk_ERR_COUNT_V k) + 1) (2 ^ 32 - 1) ∧ e.engines = { s.dev.engines with parity := [(k.val, (s.dev.tb 3).total)] } ∧ keepsRegs [SEk_ERR_COUNT k] s.dev e ∧ keepsMem s.dev e)) ∧
  (∀ (s : State) (k : Fin 28),
    s.live → s.dev.get (SEk_STATUS_STATE k) = 2 →
    Completes (.engineBistStart k) s (fun e =>
    e = settle (Dev.engineSync (s.dev.put (SEk_STATUS_STATE k) 6)) ∧ e.get (SEk_STATUS_STATE k) = 6)) ∧
  (∀ (s : State) (k : Fin 28),
    s.live → s.dev.get (SEk_STATUS_STATE k) = 6 →
    Completes (.engineBistComplete k true) s (fun e =>
    e = settle (Dev.engineSync (((s.dev.bistCount k true).put (SEk_STATUS_STATE k) 2).putB (SEk_STATUS_BIST_FAIL k) false)) ∧ e.get (SEk_STATUS_STATE k) = 2)) ∧
  (∀ (s : State) (k : Fin 28),
    s.live → s.dev.get (SEk_STATUS_STATE k) = 6 →
    Completes (.engineBistComplete k false) s (fun e =>
    e = settle (((s.dev.bistCount k false).putB (SEk_STATUS_BIST_FAIL k) true).engineFails k 0) ∧ e.flag (SEk_STATUS_BIST_FAIL k) = true)) ∧
  (∀ (s : State),
    s.live → s.dev.engines.sub = none → (∀ h : Fin 8, (s.dev.head h).resetHeld = false) →
    Completes (.engineSubstitutionComplete) s (fun e =>
    e = settle s.dev ∧ keepsRegs [] s.dev e ∧ keepsMem s.dev e)) ∧
  (∀ (s : State) (a : Nat) (k : Nat) (h : Nat),
    s.live → s.dev.engines.sub = some (a, k, h) → h < 8 → (∀ h : Fin 8, ((s.dev.subEnd).head h).resetHeld = false) → ((s.dev.subEnd).head h).inFrame = true →
    Completes (.engineSubstitutionComplete) s (fun e =>
    e = settle (s.dev.subEnd) ∧ e.engines.sub = none)) ∧
  (∀ (s : State) (h : Fin 8),
    s.takes (HDn_RESET h) 1 → s.dev.headPresent h = true → s.dev.engines.sub = none →
    Completes (.perHeadReset h) s (fun e =>
    e = settle ((s.dev.writePlain (HDn_RESET h) 1).headReset h)))

/-- Temperature bands and the overdrive tables. From every state in which the functional logic is not halted, each of bandReading, anchorCopyComplete, odBuildStart, odBuildComplete completes: exec answers a next state, whose queue is the one given and whose block is the command's own effect on the block it found. Further clauses, each under hypotheses of its own on the state and the operands, say what then holds. bandReading: BANDh_TEMP_VALID, BANDh_STATUS_SOURCE, BANDh_STATUS_FALLBACK, BANDh_TEMP_TEMP; the frame of the registers. anchorCopyComplete: STh_OD_STATUS_ANCHOR_ERR. odBuildStart: STh_OD_STATUS_BUILDING, FAB_CORR_BUILD_BUSY, FAB_CORR_BUILD_HEAD; the frame of the registers. odBuildComplete: fab.odBuild. Rests on R215, R224, R227. -/
def Obligations.Overdrive : Prop :=
  (∀ (s : State) (h : Fin 8),
    s.dev.halted = false → Completes (.bandReading h) s (fun e => e = settle ((bandReading h) s.dev))) ∧
  (∀ (s : State) (h : Fin 8),
    s.dev.halted = false → Completes (.anchorCopyComplete h) s (fun e => e = settle ((anchorCopyComplete h) s.dev))) ∧
  (∀ (s : State),
    s.dev.halted = false → Completes (.odBuildStart) s (fun e => e = settle (odBuildStart s.dev))) ∧
  (∀ (s : State) (us : Nat),
    s.dev.halted = false → Completes (.odBuildComplete us) s (fun e => e = settle ((odBuildComplete us) s.dev))) ∧
  (∀ (s : State) (h : Fin 8),
    s.live → s.dev.headPresent h = true → 3 ≤ s.dev.mode → 8 ≤ (s.dev.head h).sect.tempSource → (s.dev.head h).sect.tempSource < 16 → s.dev.flag (TSk_TEMP_VALID ((s.dev.head h).sect.tempSource - 8)) = false →
    Completes (.bandReading h) s (fun e =>
    e.flag (BANDh_TEMP_VALID h) = false ∧ e.get (BANDh_STATUS_SOURCE h) = (s.dev.head h).sect.tempSource ∧ e.flag (BANDh_STATUS_FALLBACK h) = false ∧ keepsRegs [BANDh_TEMP h, BANDh_STATUS h] s.dev e ∧ keepsMem s.dev e)) ∧
  (∀ (s : State) (h : Fin 8),
    s.live → s.dev.headPresent h = true → 3 ≤ s.dev.mode → 8 ≤ (s.dev.head h).sect.tempSource → (s.dev.head h).sect.tempSource < 16 → s.dev.flag (TSk_TEMP_VALID ((s.dev.head h).sect.tempSource - 8)) = true → s.dev.appB (BANDh_CTRL_FORCE h) = true →
    Completes (.bandReading h) s (fun e =>
    e.flag (BANDh_TEMP_VALID h) = true ∧ e.getI (BANDh_TEMP_TEMP h) = s.dev.getI (TSk_TEMP_TEMP ((s.dev.head h).sect.tempSource - 8)) ∧ e.get (BANDh_STATUS_SOURCE h) = (s.dev.head h).sect.tempSource ∧ keepsMem s.dev e)) ∧
  (∀ (s : State) (h : Fin 8),
    s.live → (s.dev.fab h).odCopy = true → s.dev.app (STh_OD_CTRL_V h) = 1 → (sgn 16 (s.dev.dpNum (s.dev.app (STh_OD_ANCHOR_BASE_V h) * 256) 2) < -880 ∨ 2400 < sgn 16 (s.dev.dpNum (s.dev.app (STh_OD_ANCHOR_BASE_V h) * 256) 2)) →
    Completes (.anchorCopyComplete h) s (fun e =>
    e = settle (Dev.odSync (((s.dev.onFab h (fun u => { u with odCopy := false })).put (STh_OD_STATUS_BUILDING h) (b2n ((s.dev.onFab h (fun u => { u with odCopy := false })).fab h).odBuild.isSome)).putB (STh_OD_STATUS_ANCHOR_ERR h) true)) ∧ e.flag (STh_OD_STATUS_ANCHOR_ERR h) = true)) ∧
  (∀ (s : State),
    s.live → (∀ h : Fin 8, s.dev.odNeed h = none) →
    Completes (.odBuildStart) s (fun e =>
    e = settle s.dev ∧ keepsRegs [] s.dev e ∧ keepsMem s.dev e)) ∧
  (∀ (s : State) (h : Fin 8) (band : Nat) (gen : Nat),
    s.live → (∀ k : Fin 8, k < h → s.dev.odNeed k = none) → s.dev.odNeed h = some (band, gen) → (s.dev.fab h).odCopy = false → s.dev.odBusy = false → s.dev.flag (STh_OD_STATUS_TABLE h) = false →
    Completes (.odBuildStart) s (fun e =>
    e = settle (Dev.odSync ((((((s.dev.onFab h (fun u => { u with odBuild := some (0, band, gen), odTags := updAt u.odTags 0 (fun _ => none) })).put (STh_OD_STATUS_BUILDING h) 1).put (STh_OD_STATUS_BUILD_BAND h) band).put FAB_CORR_BUILD_BUSY 1).put FAB_CORR_BUILD_HEAD h).put FAB_CORR_BUILD_BAND band)) ∧ e.get (STh_OD_STATUS_BUILDING h) = 1 ∧ e.get FAB_CORR_BUILD_BUSY = 1 ∧ e.get FAB_CORR_BUILD_HEAD = h)) ∧
  (∀ (s : State) (us : Nat) (h : Fin 8) (buf : Nat) (band : Nat) (gen : Nat) (k : StageEntry),
    s.live → (∀ k : Fin 8, k < h → (s.dev.fab k).odBuild = none) → (s.dev.fab h).odBuild = some (buf, band, gen) → s.dev.stage h 9 = some k →
    Completes (.odBuildComplete us) s (fun e =>
    e = settle (Dev.odSync (((((s.dev.agentWrite 1 (s.dev.lmBase h k + buf * 8192) (synthesise (s.dev.fab h).anchors (s.dev.synthTemp h band))).onFab h (fun u => { u with odBuild := none, odTags := updAt u.odTags buf (fun _ => some (band, gen)) })).put (STh_OD_STATUS_BUILDING h) (b2n (((s.dev.agentWrite 1 (s.dev.lmBase h k + buf * 8192) (synthesise (s.dev.fab h).anchors (s.dev.synthTemp h band))).onFab h (fun u => { u with odBuild := none, odTags := updAt u.odTags buf (fun _ => some (band, gen)) })).fab h).odCopy)).put (STh_OD_BUILD_US_V h) us).put FAB_CORR_BUILD_BUSY 0)) ∧ (e.fab h).odBuild = none))

/-- Block lock, loss of signal and the blocks of a lane. From every state in which the functional logic is not halted, each of blockLock, blockLockLoss, lossOfSignal, lossOfLock, lungeTimeout, absentRetry, laneBlockRx completes: exec answers a next state, whose queue is the one given and whose block is the command's own effect on the block it found. Further clauses, each under hypotheses of its own on the state and the operands, say what then holds. blockLock: the lane state, LNn_STATUS_LOS, LNn_STATUS_LOL; the frame of the registers. blockLockLoss: the lane state, LNn_COUNTk, LNn_STATUS_LOCK_LOST; the frame of the registers. lossOfSignal: the lane state, LNn_STATUS_LOS, LNn_STATUS_LOS_SEEN, LNn_COUNTk; the frame of the registers. lossOfLock: LNn_STATUS_LOL. lungeTimeout: the lane state; the frame of the registers. absentRetry: LNn_EQ_STATUS_CTLE, LNn_DFE; the frame of the registers. laneBlockRx: LNn_COUNTk, the lane state, LNn_STATUS_LOCK_LOST, lane.valid, lane.slip, LNn_STATUS_LOS, LNn_STATUS_LOL, what is sent; the frame of the registers. Rests on R369, R370, R372. -/
def Obligations.LaneReceivers : Prop :=
  (∀ (s : State) (n : Fin 36) (ppm : Int),
    s.dev.halted = false → Completes (.blockLock n ppm) s (fun e => e = settle ((blockLock n ppm) s.dev))) ∧
  (∀ (s : State) (n : Fin 36),
    s.dev.halted = false → Completes (.blockLockLoss n) s (fun e => e = settle ((Dev.lockEnds n) s.dev))) ∧
  (∀ (s : State) (n : Fin 36),
    s.dev.halted = false → Completes (.lossOfSignal n) s (fun e => e = settle ((lossOfSignal n) s.dev))) ∧
  (∀ (s : State) (n : Fin 36),
    s.dev.halted = false → Completes (.lossOfLock n) s (fun e => e = settle ((lossOfLock n) s.dev))) ∧
  (∀ (s : State) (n : Fin 36),
    s.dev.halted = false → Completes (.lungeTimeout n) s (fun e => e = settle ((lungeTimeout n) s.dev))) ∧
  (∀ (s : State) (n : Fin 36),
    s.dev.halted = false → Completes (.absentRetry n) s (fun e => e = settle ((absentRetry n) s.dev))) ∧
  (∀ (s : State) (n : Fin 36) (h0 h1 : Bool) (payload : BitVec 64) (fill : Fin 33),
    s.dev.halted = false → Completes (.laneBlockRx n h0 h1 payload fill) s (fun e => e = settle ((laneBlockRx n h0 h1 payload.toNat fill) s.dev))) ∧
  (∀ (s : State) (n : Fin 36) (ppm : Int),
    s.live → (s.dev.laneState n = 1 ∨ s.dev.laneState n = 4) →
    Completes (.blockLock n ppm) s (fun e =>
    e.laneState n = 2 ∧ e.flag (LNn_STATUS_LOS n) = false ∧ e.flag (LNn_STATUS_LOL n) = false ∧ keepsRegs [LNn_STATUS n, LNn_PPM n] s.dev e ∧ keepsMem s.dev e)) ∧
  (∀ (s : State) (n : Fin 36),
    s.live → s.dev.laneState n = 2 →
    Completes (.blockLockLoss n) s (fun e =>
    e.laneState n = 1 ∧ e.get (LNn_COUNTk_V n 0) = min (s.dev.get (LNn_COUNTk_V n 0) + 1) (2 ^ 32 - 1) ∧ e.flag (LNn_STATUS_LOCK_LOST n) = true ∧ keepsRegs [LNn_STATUS n, LNn_COUNTk n 0, LNn_EQ_STATUS n] s.dev e ∧ keepsMem s.dev e)) ∧
  (∀ (s : State) (n : Fin 36),
    s.live → 1 ≤ s.dev.laneState n → s.dev.laneState n ≠ 4 → s.dev.laneState n ≠ 3 → s.dev.laneLink n = none →
    Completes (.lossOfSignal n) s (fun e =>
    e.laneState n = 4 ∧ e.flag (LNn_STATUS_LOS n) = true ∧ e.flag (LNn_STATUS_LOS_SEEN n) = true ∧ e.get (LNn_COUNTk_V n 1) = min (s.dev.get (LNn_COUNTk_V n 1) + 1) (2 ^ 32 - 1) ∧ keepsRegs [LNn_STATUS n, LNn_COUNTk n 1, LNn_EQ_STATUS n] s.dev e ∧ keepsMem s.dev e)) ∧
  (∀ (s : State) (n : Fin 36),
    s.live → s.dev.laneState n ≠ 0 → s.dev.laneState n ≠ 4 →
    Completes (.lossOfSignal n) s (fun e =>
    e = settle ((((Dev.rxFails n 1 s.dev).put (LNn_STATUS_LOS n) 1).put (LNn_STATUS_LOS_SEEN n) 1).laneGoes n 4) ∧ e.get (LNn_STATUS_LOS n) = 1 ∧ e.get (LNn_STATUS_LOS_SEEN n) = 1 ∧ e.laneState n = 4)) ∧
  (∀ (s : State) (n : Fin 36),
    s.live → s.dev.laneState n ≠ 0 →
    Completes (.lossOfLock n) s (fun e =>
    e = settle ((s.dev.put (LNn_STATUS_LOL n) 1).lockEnds n) ∧ e.get (LNn_STATUS_LOL n) = 1)) ∧
  (∀ (s : State) (n : Fin 36),
    s.live → (s.dev.laneState n = 1 ∨ s.dev.laneState n = 2) → s.dev.laneLink n = none →
    Completes (.lungeTimeout n) s (fun e =>
    e.laneState n = 4 ∧ keepsRegs [LNn_STATUS n, LNn_EQ_STATUS n] s.dev e ∧ keepsMem s.dev e)) ∧
  (∀ (s : State) (n : Fin 36),
    s.live → s.dev.laneState n = 4 →
    Completes (.absentRetry n) s (fun e =>
    e.get (LNn_EQ_STATUS_CTLE n) = 0 ∧ e.word (LNn_DFE n) = 0 ∧ keepsRegs [LNn_EQ_STATUS n, LNn_DFE n] s.dev e ∧ keepsMem s.dev e)) ∧
  (∀ (s : State) (n : Fin 36) (hb : Bool) (p : BitVec 64) (fill : Fin 33),
    s.live → (s.dev.laneState n = 2 ∨ s.dev.laneState n = 3 ∨ s.dev.laneState n = 5) → s.dev.get (LNn_CTRL_LOOPBACK n) ≠ 1 → s.dev.get (LNn_CTRL_LOOPBACK n) ≠ 2 → 12 ≤ fill.val → fill.val ≤ 20 → (onesOf 128 (((s.dev.lane n).headers * 2 + 1) % 2 ^ 128)).length < 24 →
    Completes (.laneBlockRx n hb hb p fill) s (fun e =>
    e.get (LNn_COUNTk_V n 2) = min (s.dev.get (LNn_COUNTk_V n 2) + 1) (2 ^ 32 - 1) ∧ e.laneState n = s.dev.laneState n ∧ keepsRegs [LNn_COUNTk n 2] s.dev e ∧ keepsMem s.dev e)) ∧
  (∀ (s : State) (n : Fin 36) (hb : Bool) (p : BitVec 64) (fill : Fin 33),
    s.live → s.dev.laneState n = 2 → s.dev.get (LNn_CTRL_LOOPBACK n) ≠ 1 → s.dev.get (LNn_CTRL_LOOPBACK n) ≠ 2 → 12 ≤ fill.val → fill.val ≤ 20 → 24 ≤ (onesOf 128 (((s.dev.lane n).headers * 2 + 1) % 2 ^ 128)).length →
    Completes (.laneBlockRx n hb hb p fill) s (fun e =>
    e.get (LNn_COUNTk_V n 2) = min (s.dev.get (LNn_COUNTk_V n 2) + 1) (2 ^ 32 - 1) ∧ e.laneState n = 1 ∧ e.get (LNn_COUNTk_V n 0) = min (s.dev.get (LNn_COUNTk_V n 0) + 1) (2 ^ 32 - 1) ∧ e.flag (LNn_STATUS_LOCK_LOST n) = true ∧ keepsRegs [LNn_STATUS n, LNn_COUNTk n 0, LNn_COUNTk n 2, LNn_EQ_STATUS n] s.dev e ∧ keepsMem s.dev e)) ∧
  (∀ (s : State) (n : Fin 36) (hb : Bool) (p : BitVec 64) (fill : Fin 33),
    s.live → (s.dev.laneState n = 1 ∨ s.dev.laneState n = 4) → n.val < s.dev.lanes.length → s.dev.get (LNn_CTRL_LOOPBACK n) ≠ 1 → s.dev.get (LNn_CTRL_LOOPBACK n) ≠ 2 →
    Completes (.laneBlockRx n hb hb p fill) s (fun e =>
    e.laneState n = s.dev.laneState n ∧ (e.lane n).valid = 0 ∧ (e.lane n).slip = ((s.dev.lane n).slip + 1) % 66 ∧ keepsRegs [] s.dev e ∧ keepsMem s.dev e)) ∧
  (∀ (s : State) (n : Fin 36) (hb : Bool) (p : BitVec 64) (fill : Fin 33),
    s.live → (s.dev.laneState n = 1 ∨ s.dev.laneState n = 4) → n.val < s.dev.lanes.length → s.dev.get (LNn_CTRL_LOOPBACK n) ≠ 1 → s.dev.get (LNn_CTRL_LOOPBACK n) ≠ 2 → (s.dev.lane n).valid < 95 →
    Completes (.laneBlockRx n hb (!hb) p fill) s (fun e =>
    e.laneState n = s.dev.laneState n ∧ (e.lane n).valid = (s.dev.lane n).valid + 1 ∧ keepsRegs [] s.dev e ∧ keepsMem s.dev e)) ∧
  (∀ (s : State) (n : Fin 36) (hb : Bool) (p : BitVec 64) (fill : Fin 33),
    s.live → (s.dev.laneState n = 1 ∨ s.dev.laneState n = 4) → n.val < s.dev.lanes.length → s.dev.get (LNn_CTRL_LOOPBACK n) ≠ 1 → s.dev.get (LNn_CTRL_LOOPBACK n) ≠ 2 → 95 ≤ (s.dev.lane n).valid →
    Completes (.laneBlockRx n hb (!hb) p fill) s (fun e =>
    e.laneState n = 2 ∧ e.flag (LNn_STATUS_LOS n) = false ∧ e.flag (LNn_STATUS_LOL n) = false ∧ keepsRegs [LNn_STATUS n] s.dev e ∧ keepsMem s.dev e)) ∧
  (∀ (s : State) (n : Fin 36) (p : BitVec 64),
    s.live → (s.dev.laneState n = 2 ∨ s.dev.laneState n = 3 ∨ s.dev.laneState n = 5) → s.dev.get (LNn_CTRL_LOOPBACK n) = 0 → s.dev.flag (LNn_CTRL_RX_INVERT n) = false →
    Completes (.laneBlockRx n true false p 16) s (fun e =>
    e = settle (((s.dev.onLane n (fun u => { u with rx := (descramble 64 (s.dev.lane n).rx p.toNat).2 })).laneClass n true (descramble 64 (s.dev.lane n).rx p.toNat).1).headerSeen n true))) ∧
  (∀ (s : State) (n : Fin 36) (h0 : Bool) (h1 : Bool) (p : BitVec 64) (fill : Fin 33),
    s.live → s.dev.laneState n = 0 →
    Completes (.laneBlockRx n h0 h1 p fill) s (fun e =>
    keepsRegs [] s.dev e ∧ keepsMem s.dev e ∧ e.sent = s.dev.sent))

/-- ALIGN and GREET on a link. From every state in which the functional logic is not halted, each of alignRx, alignColumnTx, greetSetRx, lockNHigh, lockNLow completes: exec answers a next state, whose queue is the one given and whose block is the command's own effect on the block it found. Further clauses, each under hypotheses of its own on the state and the operands, say what then holds. alignRx: the lane state, LNn_COUNTk, LNn_ALIGN_RX_ASEQ, lane.late; the frame of the registers. alignColumnTx: the next block outright. greetSetRx: LKj_PARTNER0_PROFILE, LKj_PARTNER0_LANES, LKj_PARTNER0_NODE_ID, LKj_PARTNER1_VENDOR, LKj_PARTNER1_DEVICE, the link state, LKj_COUNTk. lockNHigh: the link state. lockNLow: the link state. Rests on R259, R364, R371, R374. -/
def Obligations.LinkAlignment : Prop :=
  (∀ (s : State) (n : Fin 36) (a : Align) (skew : Fin 65) (late : Bool),
    s.dev.halted = false → Completes (.alignRx n a skew late) s (fun e => e = settle ((alignRx n a skew late) s.dev))) ∧
  (∀ (s : State) (j : Fin 16),
    s.dev.halted = false → Completes (.alignColumnTx j) s (fun e => e = settle ((alignColumnTx j) s.dev))) ∧
  (∀ (s : State) (j : Fin 16) (g : Greet),
    s.dev.halted = false → Completes (.greetSetRx j g) s (fun e => e = settle ((greetSetRx j g) s.dev))) ∧
  (∀ (s : State) (j : Fin 16),
    s.dev.halted = false → Completes (.lockNHigh j) s (fun e => e = settle ((lockNHigh j) s.dev))) ∧
  (∀ (s : State) (j : Fin 16),
    s.dev.halted = false → Completes (.lockNLow j) s (fun e => e = settle ((lockNLow j) s.dev))) ∧
  (∀ (s : State) (n : Fin 36) (a : Align) (k : Fin 65) (late : Bool) (j : Nat),
    s.live → s.dev.laneLink n = some j → (s.dev.laneState n = 2 ∨ s.dev.laneState n = 3) → s.dev.consistent j n a = false →
    Completes (.alignRx n a k late) s (fun e =>
    e = settle (((((((((s.dev.put (LNn_ALIGN_RX_ASEQ n) a.aseq).put (LNn_ALIGN_RX_LANE n) a.lane).put (LNn_ALIGN_RX_LINK n) a.link).putB (LNn_ALIGN_RX_SPARE n) a.spare).putB (LNn_ALIGN_RX_DUP n) a.dup).putB (LNn_ALIGN_RX_RETIRED n) a.retired).onLane n (fun u => { u with atAlign := u.blocks, blocks := 0 })).laneGoes n 5).guardFail 1 32))) ∧
  (∀ (s : State) (n : Fin 36) (a : Align) (k : Fin 65) (j : Nat),
    s.live → s.dev.laneLink n = some j → s.dev.laneState n = 3 → s.dev.consistent j n a = true → a.spare = false →
    Completes (.alignRx n a k false) s (fun e =>
    e = settle ((Dev.countCheck j n ((((((((((s.dev.put (LNn_ALIGN_RX_ASEQ n) a.aseq).put (LNn_ALIGN_RX_LANE n) a.lane).put (LNn_ALIGN_RX_LINK n) a.link).putB (LNn_ALIGN_RX_SPARE n) a.spare).putB (LNn_ALIGN_RX_DUP n) a.dup).putB (LNn_ALIGN_RX_RETIRED n) a.retired).onLane n (fun u => { u with atAlign := u.blocks, blocks := 0 })).put (LNn_STATUS_LINK_LANE n) a.lane).onLane n (fun u => { u with late := false })).put (LNn_SKEW_V n) k)).linkGreets j))) ∧
  (∀ (s : State) (n : Fin 36) (a : Align) (k : Fin 65) (j : Nat),
    s.live → s.dev.laneLink n = some j → (s.dev.laneState n = 2 ∨ s.dev.laneState n = 5) → s.dev.consistent j n a = true → a.spare = false →
    Completes (.alignRx n a k true) s (fun e =>
    e.laneState n = 3 ∧ e.get (LNn_COUNTk_V n 4) = min (s.dev.get (LNn_COUNTk_V n 4) + 1) (2 ^ 32 - 1) ∧ e.get (LNn_ALIGN_RX_ASEQ n) = a.aseq % 65536 ∧ (n.val < s.dev.lanes.length → (e.lane n).late = true) ∧ keepsRegs [LNn_STATUS n, LNn_LUNGE_US n, LNn_ALIGN_RX n, LNn_COUNTk n 4] s.dev e ∧ keepsMem s.dev e)) ∧
  (∀ (s : State) (j : Fin 16),
    s.live → s.dev.linkState j ≠ 0 →
    Completes (.alignColumnTx j) s (fun e =>
    e = settle ((s.dev.alignColumn j).laneWindow j))) ∧
  (∀ (s : State) (j : Fin 16) (g : Greet),
    s.live → s.dev.linkState j = 1 → (s.dev.streamLanes j).all (fun n => s.dev.laneState n != 3) = false → j.val < s.dev.links.length →
    Completes (.greetSetRx j g) s (fun e =>
    e.get (LKj_PARTNER0_PROFILE j) = g.profile % 16 ∧ e.get (LKj_PARTNER0_LANES j) = g.lanes % 32 ∧ e.get (LKj_PARTNER0_NODE_ID j) = g.nodeId % 65536 ∧ e.get (LKj_PARTNER1_VENDOR j) = g.vendor % 65536 ∧ e.get (LKj_PARTNER1_DEVICE j) = g.device % 65536 ∧ e.linkState j = 1 ∧ keepsMem s.dev e)) ∧
  (∀ (s : State) (j : Fin 16) (g : Greet),
    s.live → s.dev.linkState j = 2 → (s.dev.streamLanes j).all (fun n => s.dev.laneState n != 3) = false → (g.profile ≠ (s.dev.linkEntry j).profile ∨ g.lanes ≠ s.dev.linkLanes j) →
    Completes (.greetSetRx j g) s (fun e =>
    e.linkState j = 4 ∧ e.get (LKj_COUNTk_V j 3) = min (s.dev.get (LKj_COUNTk_V j 3) + 1) (2 ^ 32 - 1) ∧ keepsMem s.dev e)) ∧
  (∀ (s : State) (j : Fin 16) (g : Greet),
    s.live → (s.dev.linkState j = 2 ∨ s.dev.linkState j = 4) → (s.dev.streamLanes j).all (fun n => s.dev.laneState n != 3) = false → g.profile = (s.dev.linkEntry j).profile → g.lanes = s.dev.linkLanes j →
    Completes (.greetSetRx j g) s (fun e =>
    e.linkState j = 3 ∧ e.get (LKj_COUNTk_V j 0) = min (s.dev.get (LKj_COUNTk_V j 0) + 1) (2 ^ 32 - 1) ∧ keepsMem s.dev e)) ∧
  (∀ (s : State) (j : Fin 16),
    s.live → (s.dev.linkEntry j).txOnly = true → s.dev.linkState j = 5 →
    Completes (.lockNHigh j) s (fun e =>
    e = settle (s.dev.linkCame j) ∧ e.linkState j = 3)) ∧
  (∀ (s : State) (j : Fin 16),
    s.live → (s.dev.linkEntry j).txOnly = true → s.dev.linkState j = 3 →
    Completes (.lockNLow j) s (fun e =>
    e = settle (s.dev.linkDrop j false) ∧ e.linkState j = 5))

/-- RELUNGE, spares and EXERCISE of a link. From every state in which the functional logic is not halted, each of relunge, spareGo, spareCompareDone, exerciseColumnTx, exerciseRx completes: exec answers a next state, whose queue is the one given and whose block is the command's own effect on the block it found. Further clauses, each under hypotheses of its own on the state and the operands, say what then holds. relunge: the link state. spareGo: LKj_STATUS_SPARE_STATE, LKj_STATUS_SPARE_LANE, link.request, link.compared. spareCompareDone: LKj_SPARE_COMPARED, LKj_SPARE_MISMATCHES, link.compared; the frame of the registers. exerciseColumnTx: what is sent; the frame of the registers. exerciseRx: lane.exercise, LNn_EQ_STATUS_FROZEN; the frame of the registers. Rests on R380, R387, R391. -/
def Obligations.LinkCommands : Prop :=
  (∀ (s : State) (j : Fin 16) (v : Word),
    s.dev.halted = false → Completes (.relunge j v) s (fun e => e = settle ((fun d => if bitOf v.toNat 31 then Dev.pcie (.reg (LKj_CTRL j) v.toNat) (lkCtrlWrite j v.toNat) d else d) s.dev))) ∧
  (∀ (s : State) (j : Fin 16) (v : Word),
    s.dev.halted = false → Completes (.spareGo j v) s (fun e => e = settle ((fun d => if bitOf v.toNat 30 && !bitOf v.toNat 31 then Dev.pcie (.reg (LKj_CTRL j) v.toNat) (lkCtrlWrite j v.toNat) d else d) s.dev))) ∧
  (∀ (s : State) (j : Fin 16) (compared mismatches : Nat),
    s.dev.halted = false → Completes (.spareCompareDone j compared mismatches) s (fun e => e = settle ((spareCompareDone j compared mismatches) s.dev))) ∧
  (∀ (s : State) (j : Fin 16),
    s.dev.halted = false → Completes (.exerciseColumnTx j) s (fun e => e = settle ((exerciseColumnTx j) s.dev))) ∧
  (∀ (s : State) (n : Fin 36) (bits : BitVec 56),
    s.dev.halted = false → Completes (.exerciseRx n bits) s (fun e => e = settle ((exerciseRx n bits.toNat) s.dev))) ∧
  (∀ (s : State) (j : Fin 16) (v : Word),
    s.takes (LKj_CTRL j) v.toNat → bitOf v.toNat 31 = true → s.dev.linkState j ≠ 0 → bitOf v.toNat 30 = false → s.dev.mode ≠ 7 → (bitOf v.toNat 23 = true → bitsOf v.toNat 24 4 < s.dev.linkLanes j) →
    Completes (.relunge j v) s (fun e =>
    e = settle ((s.dev.writePlain (LKj_CTRL j) v.toNat).relungeAll j) ∧ e.linkState j = 1)) ∧
  (∀ (s : State) (j : Fin 16) (v : Word),
    s.takes (LKj_CTRL j) v.toNat → bitOf v.toNat 31 = false → bitOf v.toNat 30 = true → s.dev.linkState j ≠ 0 → s.dev.spareGoOk j (bitsOf v.toNat 24 4) = true → j.val < s.dev.links.length → s.dev.mode ≠ 7 → (bitOf v.toNat 23 = true → bitsOf v.toNat 24 4 < s.dev.linkLanes j) →
    Completes (.spareGo j v) s (fun e =>
    e.get (LKj_STATUS_SPARE_STATE j) = 1 ∧ e.get (LKj_STATUS_SPARE_LANE j) = bitsOf v.toNat 24 4 ∧ (e.link j).request = none ∧ (e.link j).compared = false ∧ keepsMem s.dev e)) ∧
  (∀ (s : State) (j : Fin 16) (a : Nat) (b : Nat),
    s.live → s.dev.get (LKj_STATUS_SPARE_STATE j) = 2 → (s.dev.link j).compared = false → j.val < s.dev.links.length →
    Completes (.spareCompareDone j a b) s (fun e =>
    e.get (LKj_SPARE_COMPARED j) = min a 65535 ∧ e.get (LKj_SPARE_MISMATCHES j) = min b 65535 ∧ (e.link j).compared = true ∧ keepsRegs [LKj_SPARE j] s.dev e ∧ keepsMem s.dev e)) ∧
  (∀ (s : State) (j : Fin 16),
    s.live → s.dev.linkState j ≠ 0 → (s.dev.linkEntry j).exercise = true → (∀ n ∈ s.dev.allLanes j, s.dev.get (LNn_CTRL_LOOPBACK n) % 2 = 0) →
    Completes (.exerciseColumnTx j) s (fun e =>
    keepsRegs [] s.dev e ∧ keepsMem s.dev e ∧ e.sent.length = s.dev.sent.length + (if (s.dev.link j).sinceFill + 256 < 512 then 256 else 257) * ((s.dev.allLanes j).filter (fun n => s.dev.laneSends n)).length)) ∧
  (∀ (s : State) (n : Fin 36) (b : BitVec 56),
    s.live → (s.dev.laneState n = 2 ∨ s.dev.laneState n = 3 ∨ s.dev.laneState n = 5) → (s.dev.lane n).exercise = none → n.val < s.dev.lanes.length →
    Completes (.exerciseRx n b) s (fun e =>
    (e.lane n).exercise = some (lastBits 31 56 b.toNat) ∧ e.flag (LNn_EQ_STATUS_FROZEN n) = false ∧ keepsRegs [LNn_EQ_STATUS n] s.dev e ∧ keepsMem s.dev e))

/-- Eye scans, margins and test blocks of a lane. From every state in which the functional logic is not halted, each of eyeScanGo, eyeScanDone, testInject, adaptFreeze, revertCheck, eyeMarginUpdate, laneDegraded completes: exec answers a next state, whose queue is the one given and whose block is the command's own effect on the block it found. Further clauses, each under hypotheses of its own on the state and the operands, say what then holds. eyeScanGo: lane.eyeBusy, LNn_EYE_RESULT; the frame of the registers. eyeScanDone: LNn_EYE_RESULT_DONE, LNn_EYE_RESULT_ERRORS, LNn_EYE_RESULT_SATURATED, lane.eyeBusy; the frame of the registers. testInject: lane.inject; the frame of the registers. adaptFreeze: LNn_EQ_STATUS_FROZEN, LNn_EQ_STATUS_SNAP_VALID, LNn_EQ_STATUS_CTLE_SNAP, LNn_SNAP_DFE, LNn_COUNTk; the frame of the registers. revertCheck: LNn_EQ_STATUS_CTLE, LNn_DFE, LNn_EQ_STATUS_REVERTED; the frame of the registers. eyeMarginUpdate: LNn_EYE_MARGIN_HEIGHT, LNn_EYE_MARGIN_WIDTH; the frame of the registers. laneDegraded: LNn_STATUS_DEGRADED; the frame of the registers. Rests on R378, R379, R381, R383. -/
def Obligations.LaneMargins : Prop :=
  (∀ (s : State) (n : Fin 36) (v : Word),
    s.dev.halted = false → Completes (.eyeScanGo n v) s (fun e => e = settle ((fun d => if bitOf v.toNat 31 then Dev.pcie (.reg (LNn_EYE_CTRL n) v.toNat) (eyeCtrlWrite n v.toNat) d else d) s.dev))) ∧
  (∀ (s : State) (n : Fin 36) (errors : Nat),
    s.dev.halted = false → Completes (.eyeScanDone n errors) s (fun e => e = settle ((eyeScanDone n errors) s.dev))) ∧
  (∀ (s : State) (n : Fin 36) (v : Word),
    s.dev.halted = false → Completes (.testInject n v) s (fun e => e = settle ((fun d => if bitOf v.toNat 27 then Dev.pcie (.reg (LNn_TEST_CTRL n) v.toNat) (testCtrlWrite n v.toNat) d else d) s.dev))) ∧
  (∀ (s : State) (n : Fin 36),
    s.dev.halted = false → Completes (.adaptFreeze n) s (fun e => e = settle ((adaptFreeze n) s.dev))) ∧
  (∀ (s : State) (n : Fin 36),
    s.dev.halted = false → Completes (.revertCheck n) s (fun e => e = settle ((revertCheck n) s.dev))) ∧
  (∀ (s : State) (n : Fin 36) (height width : Nat) (ctle : Fin 32) (dfe : BitVec 30),
    s.dev.halted = false → Completes (.eyeMarginUpdate n height width ctle dfe) s (fun e => e = settle ((eyeMarginUpdate n height width ctle dfe.toNat) s.dev))) ∧
  (∀ (s : State) (n : Fin 36),
    s.dev.halted = false → Completes (.laneDegraded n) s (fun e => e = settle ((laneDegraded n) s.dev))) ∧
  (∀ (s : State) (n : Fin 36) (v : Word),
    s.takes (LNn_EYE_CTRL n) v.toNat → bitOf v.toNat 31 = true → (s.dev.lane n).eyeBusy = false → n.val < s.dev.lanes.length →
    Completes (.eyeScanGo n v) s (fun e =>
    (e.lane n).eyeBusy = true ∧ e.word (LNn_EYE_RESULT n) = 0 ∧ keepsRegs [LNn_EYE_CTRL n, LNn_EYE_RESULT n] s.dev e ∧ keepsMem s.dev e)) ∧
  (∀ (s : State) (n : Fin 36) (x : Nat),
    s.live → (s.dev.lane n).eyeBusy = true → n.val < s.dev.lanes.length →
    Completes (.eyeScanDone n x) s (fun e =>
    e.flag (LNn_EYE_RESULT_DONE n) = true ∧ e.get (LNn_EYE_RESULT_ERRORS n) = min x (2 ^ 24 - 1) ∧ e.flag (LNn_EYE_RESULT_SATURATED n) = decide (2 ^ 24 - 1 < x) ∧ (e.lane n).eyeBusy = false ∧ keepsRegs [LNn_EYE_RESULT n] s.dev e ∧ keepsMem s.dev e)) ∧
  (∀ (s : State) (n : Fin 36) (v : Word),
    s.takes (LNn_TEST_CTRL n) v.toNat → bitOf v.toNat 27 = true → n.val < s.dev.lanes.length →
    Completes (.testInject n v) s (fun e =>
    (e.lane n).inject = true ∧ keepsRegs [LNn_TEST_CTRL n] s.dev e ∧ keepsMem s.dev e)) ∧
  (∀ (s : State) (n : Fin 36),
    s.live → s.dev.flag (LNn_EQ_CTRL_ADAPT n) = true → s.dev.flag (LNn_EQ_CTRL_FREEZE_EN n) = true → s.dev.flag (LNn_EQ_STATUS_FROZEN n) = false → s.dev.laneState n = 3 →
    Completes (.adaptFreeze n) s (fun e =>
    e.flag (LNn_EQ_STATUS_FROZEN n) = true ∧ e.flag (LNn_EQ_STATUS_SNAP_VALID n) = true ∧ e.get (LNn_EQ_STATUS_CTLE_SNAP n) = s.dev.get (LNn_EQ_STATUS_CTLE n) ∧ e.word (LNn_SNAP_DFE n) = s.dev.word (LNn_DFE n) ∧ e.get (LNn_COUNTk_V n 10) = min (s.dev.get (LNn_COUNTk_V n 10) + 1) (2 ^ 32 - 1) ∧ keepsRegs [LNn_EQ_STATUS n, LNn_SNAP_DFE n, LNn_COUNTk n 10] s.dev e ∧ keepsMem s.dev e)) ∧
  (∀ (s : State) (n : Fin 36),
    s.live → s.dev.flag (LNn_EQ_STATUS_SNAP_VALID n) = true → s.dev.flag (LNn_EQ_STATUS_FROZEN n) = false → (s.dev.lane n).marginLow = true → s.dev.flag (LNn_EQ_CTRL_REVERT_EN n) = true →
    Completes (.revertCheck n) s (fun e =>
    e.get (LNn_EQ_STATUS_CTLE n) = s.dev.get (LNn_EQ_STATUS_CTLE_SNAP n) ∧ e.word (LNn_DFE n) = s.dev.word (LNn_SNAP_DFE n) ∧ e.flag (LNn_EQ_STATUS_REVERTED n) = true ∧ keepsRegs [LNn_EQ_STATUS n, LNn_DFE n, LNn_COUNTk n 11] s.dev e ∧ keepsMem s.dev e)) ∧
  (∀ (s : State) (n : Fin 36) (a : Nat) (b : Nat) (c : Fin 32) (dfe : BitVec 30),
    s.live → s.dev.laneState n ≠ 0 →
    Completes (.eyeMarginUpdate n a b c dfe) s (fun e =>
    e.get (LNn_EYE_MARGIN_HEIGHT n) = min a 255 ∧ e.get (LNn_EYE_MARGIN_WIDTH n) = min b 64 ∧ keepsRegs [LNn_EYE_MARGIN n, LNn_STATUS n, LNn_EQ_STATUS n, LNn_DFE n] s.dev e ∧ keepsMem s.dev e)) ∧
  (∀ (s : State) (n : Fin 36),
    s.live → (s.dev.lane n).marginLow = true → s.dev.flag (LNn_STATUS_DEGRADED n) = false → s.dev.laneLink n = none →
    Completes (.laneDegraded n) s (fun e =>
    e.flag (LNn_STATUS_DEGRADED n) = true ∧ keepsRegs [LNn_STATUS n] s.dev e ∧ keepsMem s.dev e))

/-- Register access by the host. From every state in which the functional logic is not halted, each of registerWrite, evtStatusEnableWrite, farApprove completes: exec answers a next state, whose queue is the one given and whose block is the command's own effect on the block it found. Further clauses, each under hypotheses of its own on the state and the operands, say what then holds. registerWrite: TC_USERBITS, TOP_REJECT_COUNT, TOP_REJECT_ADDR; the frame of the registers. evtStatusEnableWrite: the next block outright. farApprove: the request. Rests on R5, R497, R591. -/
def Obligations.RegisterAccess : Prop :=
  (∀ (s : State) (r : Fin 1048576) (v : Word) (whole : Bool),
    s.dev.halted = false → Completes (.registerWrite r v whole) s (fun e => e = settle ((registerWrite r v.toNat whole) s.dev))) ∧
  (∀ (s : State) (which : Fin 8) (v : Word),
    s.dev.halted = false → Completes (.evtStatusEnableWrite which v) s (fun e => e = settle ((Dev.pcie (.reg (evtRegs which).1 v.toNat) (enableWrite which v.toNat)) s.dev))) ∧
  (∀ (s : State) (k : Fin 16),
    s.dev.halted = false → Completes (.farApprove k) s (fun e => e = settle ((Dev.pcie (.reg FAR_APPROVE k) (farApproveWrite k)) s.dev))) ∧
  (∀ (s : State) (r : Fin 1048576) (v : Word),
    s.hostLive →
    Completes (.registerWrite r v true) s (fun e =>
    e = settle (hostWrite false 0 r v.toNat s.dev))) ∧
  (∀ (s : State) (v : Word),
    s.takes TC_USERBITS v.toNat →
    Completes (.registerWrite ⟨TC_USERBITS, by decide⟩ v true) s (fun e =>
    e.word TC_USERBITS = v.toNat ∧ keepsRegs [TC_USERBITS] s.dev e ∧ keepsMem s.dev e)) ∧
  (∀ (s : State) (r : Fin 1048576) (v : Word),
    s.hostLive → s.dev.mode ≠ 0 →
    Completes (.registerWrite r v false) s (fun e =>
    e.get TOP_REJECT_COUNT_V = min (s.dev.get TOP_REJECT_COUNT_V + 1) (2 ^ 32 - 1) ∧ e.get TOP_REJECT_ADDR_V = r / 4 * 4 ∧ keepsRegs [TOP_REJECT_COUNT, TOP_REJECT_ADDR] s.dev e ∧ keepsMem s.dev e)) ∧
  (∀ (s : State) (k : Fin 8) (v : Word),
    s.takes (evtRegs k).1 v.toNat →
    Completes (.evtStatusEnableWrite k v) s (fun e =>
    e.word (evtRegs k).1 = v.toNat ∧ e = settle (s.dev.enableWritten (evtRegs k).2.1 (evtRegs k).1 (evtRegs k).2.2 v.toNat))) ∧
  (∀ (s : State) (k : Fin 16),
    s.takes FAR_APPROVE k → s.dev.askValid k = true → (s.dev.askRequest k).cls ≠ 4 →
    Completes (.farApprove k) s (fun e =>
    e = settle (Dev.farWindow (s.dev.askRequest k) (((s.dev.writePlain FAR_APPROVE k).askClear k) |> fun d => { d with far := { d.far with queue := d.far.queue ++ [s.dev.askRequest k] } })) ∧ e.askValid k = false))

/-- Memory access by the host and the SPI target. From every state in which the functional logic is not halted, each of hostMemoryRead, hostMemoryWrite, spiWrite, spiRead, spiStatus, spiWake, spiBadOpcode completes: exec answers a next state, whose queue is the one given and whose block is the command's own effect on the block it found. Further clauses, each under hypotheses of its own on the state and the operands, say what then holds. hostMemoryRead: power.held, what is sent; the frame of the registers. hostMemoryWrite: the bytes stored, memory. spiWrite: SPI_STATUS_LAST_OP; the frame of the registers. spiRead: SPI_STATUS_LAST_OP, what is sent; the frame of the registers. spiStatus: what is sent, SPI_STATUS_LAST_OP; the frame of the registers. spiWake: POWER_RUNG_STATUS_STATE, POWER_RUNG_STATUS_LAST_FROM, SPI_STATUS_LAST_OP. spiBadOpcode: SPI_STATUS_BAD_OP, SPI_STATUS_LAST_OP, SPI_ERR_COUNT; the frame of the registers. Rests on R395, R409, R435. -/
def Obligations.HostMemory : Prop :=
  (∀ (s : State) (o : HostAddr) (n : Nat) (x : HostReads),
    s.dev.halted = false → Completes (.hostMemoryRead o n x) s (fun e => e = settle ((fun d => hostMemoryRead (d.hostAddr o) n x d) s.dev))) ∧
  (∀ (s : State) (o : HostAddr) (bytes : List Byte) (errs : List (Nat × Ecc)) (portA : List (Nat × Byte)),
    s.dev.halted = false → Completes (.hostMemoryWrite o bytes errs portA) s (fun e => e = settle ((fun d => hostMemoryWrite (d.hostAddr o) bytes errs portA d) s.dev))) ∧
  (∀ (s : State) (a : BitVec 40) (bytes : List Byte),
    s.dev.halted = false → Completes (.spiWrite a bytes) s (fun e => e = settle ((spiWrite a.toNat bytes) s.dev))) ∧
  (∀ (s : State) (a : BitVec 40) (n : Nat) (late : List Nat) (errs : List (Nat × Ecc)),
    s.dev.halted = false → Completes (.spiRead a n late errs) s (fun e => e = settle ((spiRead a.toNat n late errs) s.dev))) ∧
  (∀ (s : State),
    s.dev.halted = false → Completes (.spiStatus) s (fun e => e = settle (spiStatus s.dev))) ∧
  (∀ (s : State),
    s.dev.halted = false → Completes (.spiWake) s (fun e => e = settle (spiWake s.dev))) ∧
  (∀ (s : State) (op : Fin 256),
    s.dev.halted = false → Completes (.spiBadOpcode op) s (fun e => e = settle ((spiBadOpcode op) s.dev))) ∧
  (∀ (s : State) (o : HostAddr) (n : Nat) (x : HostReads),
    s.hostLive → s.dev.mode ≠ 0 → n ≠ 0 → s.dev.about 2 = false →
    Completes (.hostMemoryRead o n x) s (fun e =>
    e = settle (s.dev.busRead (s.dev.hostAddr o) n x))) ∧
  (∀ (s : State) (o : HostAddr) (n : Nat) (x : HostReads),
    s.live → s.dev.about 3 = true → s.dev.mode ≠ 0 → n ≠ 0 →
    Completes (.hostMemoryRead o n x) s (fun e =>
    e = settle (s.dev.holdAccess (.memRead (s.dev.hostAddr o) n)) ∧ e.power.held = s.dev.power.held ++ [.memRead (s.dev.hostAddr o) n])) ∧
  (∀ (s : State) (o : HostAddr) (b : List Byte) (errs : List (Nat × Ecc)) (pa : List (Nat × Byte)),
    s.hostLive → s.dev.mode ≠ 0 → b ≠ [] → s.dev.about 2 = false →
    Completes (.hostMemoryWrite o b errs pa) s (fun e =>
    e = settle (s.dev.busWrite (s.dev.hostAddr o) b errs pa))) ∧
  (∀ (s : State) (a : BitVec 40) (b : List Byte),
    s.live → s.dev.spiOn = true → b.length < 4 → s.dev.halterOn = false →
    Completes (.spiWrite a b) s (fun e =>
    e.get SPI_STATUS_LAST_OP = 2 ∧ keepsRegs [SPI_STATUS] s.dev e ∧ keepsMem s.dev e)) ∧
  (∀ (s : State) (a : BitVec 40) (b : List Byte),
    s.live → s.dev.spiOn = true → b.length = 4 → s.dev.halterOn = false → ((s.dev.put SPI_STATUS_LAST_OP 2).spiWord a.toNat (wordAt b 0)).halterOn = false →
    Completes (.spiWrite a b) s (fun e =>
    e = settle ((s.dev.put SPI_STATUS_LAST_OP 2).spiWord a.toNat (wordAt b 0)))) ∧
  (∀ (s : State) (a : BitVec 40) (errs : List (Nat × Ecc)),
    s.live → s.dev.spiOn = true →
    Completes (.spiRead a 1 [] errs) s (fun e =>
    e = settle (((s.dev.put SPI_STATUS_LAST_OP 0x0B).spiFetch a.toNat errs).2.send (.spi [((s.dev.put SPI_STATUS_LAST_OP 0x0B).spiFetch a.toNat errs).1])) ∧ e.get SPI_STATUS_LAST_OP = 0x0B)) ∧
  (∀ (s : State) (a : BitVec 40) (n : Nat) (errs : List (Nat × Ecc)),
    s.live → s.dev.spiOn = true →
    Completes (.spiRead a n (List.range n) errs) s (fun e =>
    e.sent = .spi (List.replicate n 0xFFFFFFFF) :: s.dev.sent ∧ keepsRegs [SPI_STATUS] s.dev e ∧ keepsMem s.dev e)) ∧
  (∀ (s : State),
    s.live → s.dev.spiOn = true →
    Completes (.spiStatus) s (fun e =>
    e.sent = .spi [s.dev.mode + 8 * s.dev.get SPI_STATUS_LATE + 16 * s.dev.get SPI_STATUS_BAD_OP] :: s.dev.sent ∧ e.get SPI_STATUS_LAST_OP = 5 ∧ keepsRegs [SPI_STATUS] s.dev e ∧ keepsMem s.dev e)) ∧
  (∀ (s : State),
    s.live → s.dev.spiOn = true → (s.dev.rung = 1 ∨ s.dev.rung = 2 ∨ s.dev.rung = 3) → s.dev.mode ≠ 0 → bitOf (s.dev.word POWER_WAKE_ENABLE) 1 = true →
    Completes (.spiWake) s (fun e =>
    e.get POWER_RUNG_STATUS_STATE = 7 ∧ e.get POWER_RUNG_STATUS_LAST_FROM = s.dev.rung ∧ e.get SPI_STATUS_LAST_OP = 0xAB)) ∧
  (∀ (s : State) (op : Fin 256),
    s.live → s.dev.spiOn = true → s.dev.mode ≠ 0 →
    Completes (.spiBadOpcode op) s (fun e =>
    e.flag SPI_STATUS_BAD_OP = true ∧ e.get SPI_STATUS_LAST_OP = op ∧ e.get SPI_ERR_COUNT_V = min (s.dev.get SPI_ERR_COUNT_V + 1) (2 ^ 32 - 1) ∧ keepsRegs [SPI_STATUS, SPI_ERR_COUNT] s.dev e ∧ keepsMem s.dev e)) ∧
  (∀ (s : State) (a : BitVec 28) (b : List Byte),
    s.hostLive → 3 ≤ s.dev.mode → s.dev.about 2 = false → s.dev.memu.allFilled = true → s.dev.memu.poison = [] → b ≠ [] → s.dev.bar2 a.toNat + b.length ≤ 0x1DC000000 →
    Completes (.hostMemoryWrite ⟨.bar2, a⟩ b [] []) s (fun e =>
    (∀ k : Fin b.length, e.byteAt (s.dev.bar2 a.toNat + k) = nth 0 b k) ∧ keepsMemBut (s.dev.bar2 a.toNat) b.length s.dev e ∧ (Memory.wf s.dev.mem → Memory.wf e.mem))) ∧
  (∀ (s : State) (a : BitVec 28) (n : Nat),
    s.hostLive → 3 ≤ s.dev.mode → s.dev.about 2 = false → s.dev.memu.allFilled = true → s.dev.memu.poison = [] → n ≠ 0 → s.dev.bar2 a.toNat + n ≤ 0x1DC000000 →
    Completes (.hostMemoryRead ⟨.bar2, a⟩ n {}) s (fun e =>
    e.sent = .completion false ((s.dev.bytesAt (s.dev.bar2 a.toNat) n).map (·.toNat)) :: s.dev.sent ∧ keepsRegs [] s.dev e ∧ keepsMem s.dev e))

/-- Forwarded accesses of the team. From every state in which the functional logic is not halted, each of teamForwardedRead, teamForwardedWrite, teamCmdReqRx, teamCmdRspRx, teamForwardTimeout, teamEventRx, teamProbe completes: exec answers a next state, whose queue is the one given and whose block is the command's own effect on the block it found. Further clauses, each under hypotheses of its own on the state and the operands, say what then holds. teamForwardedRead: what is sent, TEAM_FWD_LAST_RESULT, TEAM_FWD_TIMEOUT_COUNT. teamForwardedWrite: the next block outright. teamCmdReqRx: the frame of the registers. teamCmdRspRx: TEAM_POSp_PRESENT, TEAM_POSp_LINK. teamForwardTimeout: the frame of the registers. teamEventRx: the frame of the registers. teamProbe: TEAM_STATUS_PROBING. Rests on R412, R413, R414, R415. -/
def Obligations.TeamAccess : Prop :=
  (∀ (s : State) (p : Fin 64) (o : RegBytes),
    s.dev.halted = false → Completes (.teamForwardedRead p o) s (fun e => e = settle ((teamRead p o.offset (min (o.last + 1) (4 - o.offset % 4))) s.dev))) ∧
  (∀ (s : State) (p : Fin 64) (offset : Fin 1048576) (v : Word),
    s.dev.halted = false → Completes (.teamForwardedWrite p offset v) s (fun e => e = settle ((teamWrite p offset v.toNat) s.dev))) ∧
  (∀ (s : State) (link op seq : Fin 16) (target source : Fin 64) (offset : Fin 1048576) (data : Word),
    s.dev.halted = false → Completes (.teamCmdReqRx link op seq target source offset data) s (fun e => e = settle ((cmdReqRx link op seq target source offset data.toNat) s.dev))) ∧
  (∀ (s : State) (link status seq : Fin 16) (target source : Fin 64) (offset : Fin 1048576) (data : Word),
    s.dev.halted = false → Completes (.teamCmdRspRx link status seq target source offset data) s (fun e => e = settle ((teamRspRx link status seq target source offset data.toNat) s.dev))) ∧
  (∀ (s : State),
    s.dev.halted = false → Completes (.teamForwardTimeout) s (fun e => e = settle (fwdTimeout s.dev))) ∧
  (∀ (s : State) (link : Fin 16) (source : Fin 64) (seq : Fin 256) (bytes : List Byte),
    s.dev.halted = false → Completes (.teamEventRx link source seq bytes) s (fun e => e = settle ((teamEventRx link source seq bytes) s.dev))) ∧
  (∀ (s : State) (v : Word),
    s.dev.halted = false → Completes (.teamProbe v) s (fun e => e = settle ((fun d => if bitOf v.toNat 30 then Dev.pcie (.reg TEAM_CTRL v.toNat) (teamCtrlWrite v.toNat) d else d) s.dev))) ∧
  (∀ (s : State) (p : Fin 64) (o : RegBytes),
    s.hostLive → s.dev.mode ≠ 0 →
    Completes (.teamForwardedRead p o) s (fun e =>
    e = settle (s.dev.busRead (0x7E00000000 + p * 0x100000 + o.offset) (min (o.last + 1) (4 - o.offset % 4)) {}))) ∧
  (∀ (s : State) (p : Fin 64) (o : RegBytes),
    s.hostLive → 3 ≤ s.dev.mode → p ≠ 0 → o.offset.val % 4 = 0 → o.last = 3 → s.dev.isLeader = true → s.dev.flag TEAM_CTRL_ENABLE = false →
    Completes (.teamForwardedRead p o) s (fun e =>
    e.sent.head? = some (.completion false [0xFFFFFFFF]) ∧ e.get TEAM_FWD_LAST_RESULT = 2 ∧ e.get TEAM_FWD_TIMEOUT_COUNT_V = min (s.dev.get TEAM_FWD_TIMEOUT_COUNT_V + 1) (2 ^ 32 - 1))) ∧
  (∀ (s : State) (p : Fin 64) (o : Fin 1048576) (v : Word),
    s.hostLive → s.dev.mode ≠ 0 →
    Completes (.teamForwardedWrite p o v) s (fun e =>
    e = settle (s.dev.busWrite (0x7E00000000 + p * 0x100000 + o) (leBytes 4 v.toNat) [] []))) ∧
  (∀ (s : State) (l : Fin 16) (q : Fin 16) (t : Fin 64) (c : Fin 64) (o : Fin 1048576) (x : Word),
    s.live → s.dev.teamLinks.contains l.val = true → t.val = s.dev.position → s.dev.regOpen o = true → o.val ≠ MIP_HALT_BMP_DATA →
    Completes (.teamCmdReqRx l 2 q t c o x) s (fun e =>
    e = settle (Dev.linkStream l (teamRsp 0 q t c o (s.dev.show o)) s.dev) ∧ keepsRegs [] s.dev e ∧ keepsMem s.dev e)) ∧
  (∀ (s : State) (l : Fin 16) (op : Fin 16) (q : Fin 16) (t : Fin 64) (c : Fin 64) (o : Fin 1048576) (x : Word),
    s.live → s.dev.teamLinks.contains l.val = true → t.val ≠ s.dev.position →
    Completes (.teamCmdReqRx l op q t c o x) s (fun e =>
    e = settle (s.dev.passReq l op q t c o x.toNat))) ∧
  (∀ (s : State) (l : Fin 16) (st : Fin 16) (q : Fin 16) (t : Fin 64) (o : Fin 1048576) (x : Word) (a : FwdAccess),
    s.live → s.dev.position < 64 → s.dev.teamLinks.contains l.val = true → s.dev.team.flight = some a → a.target = t.val → a.seq = q.val → a.offset = o.val → st.val ≤ 1 →
    Completes (.teamCmdRspRx l st q t ⟨s.dev.position % 64, Nat.mod_lt _ (by decide)⟩ o x) s (fun e =>
    e = settle (Dev.fwdDone a (Dev.fwdEnd a st x.toNat (Dev.landed (((s.dev.put (TEAM_POSp_PRESENT t) 1).put (TEAM_POSp_LINK t) l).put (TEAM_POSp_RTT_NS t) (min 65535 ((s.dev.tb 3).total - a.sentAt)))))) ∧ e.get (TEAM_POSp_PRESENT t) = 1 ∧ e.get (TEAM_POSp_LINK t) = l.val)) ∧
  (∀ (s : State) (a : FwdAccess),
    s.live → s.dev.team.flight = some a → a.probe = false →
    Completes (.teamForwardTimeout) s (fun e =>
    e = settle (Dev.fwdNext (Dev.fwdEnd a 3 0 s.dev.landed)))) ∧
  (∀ (s : State),
    s.live → s.dev.team.flight = none →
    Completes (.teamForwardTimeout) s (fun e =>
    e = settle s.dev ∧ keepsRegs [] s.dev e ∧ keepsMem s.dev e)) ∧
  (∀ (s : State) (l : Fin 16) (c : Fin 64) (q : Fin 256) (b : List Byte),
    s.live → s.dev.teamLinks.contains l.val = true → s.dev.isLeader = false → s.dev.teamLinks.contains (s.dev.get TEAM_TIME_CTRL_UPSTREAM) = true →
    Completes (.teamEventRx l c q b) s (fun e =>
    e = settle (Dev.linkStream (s.dev.get TEAM_TIME_CTRL_UPSTREAM) (eventBlock c q b) s.dev) ∧ keepsRegs [] s.dev e ∧ keepsMem s.dev e)) ∧
  (∀ (s : State) (l : Fin 16) (c : Fin 64) (q : Fin 256) (b : List Byte),
    s.live → s.dev.teamLinks.contains l.val = true → s.dev.isLeader = true → cellFind s.dev.evt.fwdSeq c = none →
    Completes (.teamEventRx l c q b) s (fun e =>
    e = settle ((Dev.inc { s.dev with evt := { s.dev.evt with fwdSeq := cellPut s.dev.evt.fwdSeq c ((q + 1) % 256) } } TEAM_EVT_COUNT_V).ringPost { recOf b with pos := c % 64 }))) ∧
  (∀ (s : State) (v : Word),
    s.takes TEAM_CTRL v.toNat → bitOf v.toNat 30 = true → (s.dev.writePlain TEAM_CTRL v.toNat).isLeader = true → s.dev.flag TEAM_STATUS_PROBING = false → s.dev.team.flight = none → s.dev.team.waiting = [] →
    Completes (.teamProbe v) s (fun e =>
    e = settle (Dev.fwdStart { target := 1, offset := 0, data := none, probe := true } ((s.dev.writePlain TEAM_CTRL v.toNat).putB TEAM_STATUS_PROBING true)) ∧ e.flag TEAM_STATUS_PROBING = true))

/-- The control of a DMA channel. From every state in which the functional logic is not halted, each of dmaEnable, dmaDisable, dmaGo, dmaRestart, dmaAbort, dmaTailWrite, dmaDescriptorDone, dmaDescriptorFail completes: exec answers a next state, whose queue is the one given and whose block is the command's own effect on the block it found. Further clauses, each under hypotheses of its own on the state and the operands, say what then holds. dmaEnable: DMAc_STATUS_STATE, DMAc_CTRL_ENABLE; the frame of the registers. dmaDisable: DMAc_STATUS_STATE, DMAc_CTRL_ENABLE; the frame of the registers. dmaGo: DMAc_STATUS_STATE; the frame of the registers. dmaRestart: DMAc_STATUS_STATE; the frame of the registers. dmaAbort: DMAc_STATUS_STATE, DMAc_HEAD; the frame of the registers. dmaTailWrite: DMAc_TAIL; the frame of the registers. dmaDescriptorDone: DMAc_STATUS_STATE, DMAc_HEAD, DMAc_STATUS_LAST_RESULT, DMAc_DONE_COUNT. dmaDescriptorFail: DMAc_STATUS_STATE. Rests on R399, R400, R401. -/
def Obligations.DmaControl : Prop :=
  (∀ (s : State) (c : Fin 8),
    s.dev.halted = false → Completes (.dmaEnable c) s (fun e => e = settle ((Dev.pcie (.reg (DMAc_CTRL c) (2 ^ 31)) (dmaCtrlWrite c (2 ^ 31))) s.dev))) ∧
  (∀ (s : State) (c : Fin 8),
    s.dev.halted = false → Completes (.dmaDisable c) s (fun e => e = settle ((Dev.pcie (.reg (DMAc_CTRL c) 0) (dmaCtrlWrite c 0)) s.dev))) ∧
  (∀ (s : State) (c : Fin 8),
    s.dev.halted = false → Completes (.dmaGo c) s (fun e => e = settle ((Dev.pcie (.reg (DMAc_CTRL c) (2 ^ 31 + 2 ^ 30)) (dmaCtrlWrite c (2 ^ 31 + 2 ^ 30))) s.dev))) ∧
  (∀ (s : State) (c : Fin 8),
    s.dev.halted = false → Completes (.dmaRestart c) s (fun e => e = settle ((Dev.pcie (.reg (DMAc_CTRL c) (2 ^ 31 + 2 ^ 29)) (dmaCtrlWrite c (2 ^ 31 + 2 ^ 29))) s.dev))) ∧
  (∀ (s : State) (c : Fin 8),
    s.dev.halted = false → Completes (.dmaAbort c) s (fun e => e = settle ((Dev.pcie (.reg (DMAc_CTRL c) (2 ^ 31 + 2 ^ 28)) (dmaCtrlWrite c (2 ^ 31 + 2 ^ 28))) s.dev))) ∧
  (∀ (s : State) (c : Fin 8) (v : Word) (host : List Host.Cell),
    s.dev.halted = false → Completes (.dmaTailWrite c v host) s (fun e => e = settle ((fun d => Dev.pcie (.reg (DMAc_TAIL c) v.toNat) (dmaTailWrite c v.toNat) (d.given host)) s.dev))) ∧
  (∀ (s : State) (c : Fin 8) (host : List Host.Cell) (errs : List (Nat × Ecc)),
    s.dev.halted = false → Completes (.dmaDescriptorDone c host errs) s (fun e => e = settle ((dmaDescriptorDone c host errs) s.dev))) ∧
  (∀ (s : State) (c : Fin 8) (host : List Host.Cell) (hostRead : HostFail) (errs : List (Nat × Ecc)),
    s.dev.halted = false → Completes (.dmaDescriptorFail c host hostRead errs) s (fun e => e = settle ((dmaDescriptorFail c host hostRead errs) s.dev))) ∧
  (∀ (s : State) (c : Fin 8),
    s.takes (DMAc_CTRL c) (2 ^ 31) → s.dev.get (DMAc_STATUS_STATE c) = 0 → s.dev.get (DMAc_TAIL_V c) = s.dev.get (DMAc_HEAD_V c) →
    Completes (.dmaEnable c) s (fun e =>
    e.get (DMAc_STATUS_STATE c) = 1 ∧ e.flag (DMAc_CTRL_ENABLE c) = true ∧ keepsRegs [DMAc_CTRL c, DMAc_STATUS c] s.dev e ∧ keepsMem s.dev e)) ∧
  (∀ (s : State) (c : Fin 8),
    s.takes (DMAc_CTRL c) 0 → s.dev.get (DMAc_STATUS_STATE c) ≠ 2 →
    Completes (.dmaDisable c) s (fun e =>
    e.get (DMAc_STATUS_STATE c) = 0 ∧ e.flag (DMAc_CTRL_ENABLE c) = false ∧ keepsRegs [DMAc_CTRL c, DMAc_STATUS c] s.dev e ∧ keepsMem s.dev e)) ∧
  (∀ (s : State) (c : Fin 8),
    s.takes (DMAc_CTRL c) (2 ^ 31 + 2 ^ 30) → s.dev.get (DMAc_STATUS_STATE c) = 3 → s.dev.rungHolds = false →
    Completes (.dmaGo c) s (fun e =>
    e.get (DMAc_STATUS_STATE c) = 2 ∧ keepsRegs [DMAc_CTRL c, DMAc_STATUS c] s.dev e ∧ keepsMem s.dev e)) ∧
  (∀ (s : State) (c : Fin 8),
    s.takes (DMAc_CTRL c) (2 ^ 31 + 2 ^ 29) → s.dev.get (DMAc_STATUS_STATE c) = 4 → s.dev.rungHolds = false →
    Completes (.dmaRestart c) s (fun e =>
    e.get (DMAc_STATUS_STATE c) = 2 ∧ keepsRegs [DMAc_CTRL c, DMAc_STATUS c] s.dev e ∧ keepsMem s.dev e)) ∧
  (∀ (s : State) (c : Fin 8),
    s.takes (DMAc_CTRL c) (2 ^ 31 + 2 ^ 28) → s.dev.get (DMAc_STATUS_STATE c) = 4 →
    Completes (.dmaAbort c) s (fun e =>
    e.get (DMAc_STATUS_STATE c) = 1 ∧ e.get (DMAc_HEAD_V c) = s.dev.get (DMAc_TAIL_V c) ∧ keepsRegs [DMAc_CTRL c, DMAc_STATUS c, DMAc_HEAD c] s.dev e ∧ keepsMem s.dev e)) ∧
  (∀ (s : State) (c : Fin 8) (v : Word) (l : List Host.Cell),
    s.takes (DMAc_TAIL c) v.toNat → v.toNat < s.dev.dmaSize c → s.dev.get (DMAc_STATUS_STATE c) ≠ 1 →
    Completes (.dmaTailWrite c v l) s (fun e =>
    e.get (DMAc_TAIL_V c) = v.toNat ∧ keepsRegs [DMAc_TAIL c] s.dev e ∧ keepsMem s.dev e)) ∧
  (∀ (s : State) (c : Fin 8) (l : List Host.Cell) (errs : List (Nat × Ecc)),
    s.live → s.dev.get (DMAc_STATUS_STATE c) = 2 → (s.dev.given l).dmaCheck ((s.dev.given l).dmaDesc c) ≠ 0 →
    Completes (.dmaDescriptorDone c l errs) s (fun e =>
    e = settle ((s.dev.given l).dmaFail c ((s.dev.given l).dmaCheck ((s.dev.given l).dmaDesc c))) ∧ e.get (DMAc_STATUS_STATE c) = (if s.dev.flag (DMAc_CTRL_ENABLE c) = true then 4 else 0))) ∧
  (∀ (s : State) (c : Fin 8) (l : List Host.Cell) (errs : List (Nat × Ecc)) (q : DmaDesc),
    s.live → s.dev.get (DMAc_STATUS_STATE c) = 2 → (s.dev.given l).dmaDesc c = q → (s.dev.given l).dmaCheck q = 0 → q.flags = 18 →
    Completes (.dmaDescriptorDone c l errs) s (fun e =>
    e.get (DMAc_HEAD_V c) = (s.dev.get (DMAc_HEAD_V c) + 1) % s.dev.dmaSize c ∧ e.get (DMAc_STATUS_LAST_RESULT c) = 0 ∧ e.get (DMAc_DONE_COUNT_V c) = min (s.dev.get (DMAc_DONE_COUNT_V c) + 1) (2 ^ 32 - 1))) ∧
  (∀ (s : State) (c : Fin 8) (l : List Host.Cell) (errs : List (Nat × Ecc)),
    s.live → s.dev.get (DMAc_STATUS_STATE c) = 2 →
    Completes (.dmaDescriptorFail c l .timeout errs) s (fun e =>
    e = settle (Dev.dmaFail c 1 ((s.dev.given l).inc (HOST_ERR_COUNTk_V 4))) ∧ e.get (DMAc_STATUS_STATE c) = (if s.dev.flag (DMAc_CTRL_ENABLE c) = true then 4 else 0))) ∧
  (∀ (s : State) (c : Fin 8) (l : List Host.Cell) (errs : List (Nat × Ecc)),
    s.live → s.dev.get (DMAc_STATUS_STATE c) = 2 →
    Completes (.dmaDescriptorFail c l .completion errs) s (fun e =>
    e = settle (Dev.dmaFail c 1 (s.dev.given l))))

/-- The event ring, the fault log and MSI-X. From every state in which the functional logic is not halted, each of evtEnable, evtConsWrite, evtInject, evtFlogClear, msixHeldSend, moderationIntervalEnd, pcieLinkReset, pcieLinkUp completes: exec answers a next state, whose queue is the one given and whose block is the command's own effect on the block it found. Further clauses, each under hypotheses of its own on the state and the operands, say what then holds. evtEnable: EVT_CTRL_ENABLE, evt; the frame of the registers. evtConsWrite: EVT_CONS; the frame of the registers. evtInject: the next block outright. evtFlogClear: evt.flog, EVT_FLOG_COUNT, EVT_FLOG_LOST; the frame of the registers. msixHeldSend: HOST_STATUS_MSIX_ENABLE, HOST_STATUS_BUS_MASTER, evt.vecs; the frame of the registers. moderationIntervalEnd: evt.vecs; the frame of the registers. pcieLinkReset: evt.vecs, HOST_ERR_COUNTk, DMAc_CTRL, HOST_STATUS. pcieLinkUp: HOST_STATUS_LINK_UP, HOST_STATUS_SPEED, HOST_STATUS_WIDTH, HOST_STATUS_PM; the frame of the registers. Rests on R392, R396, R397, R402, R405, R406, R408, R423. -/
def Obligations.EventRing : Prop :=
  (∀ (s : State) (bank : Fin 16),
    s.dev.halted = false → Completes (.evtEnable bank) s (fun e => e = settle ((Dev.pcie (.reg EVT_CTRL (2 ^ 31 + bank)) (evtCtrlWrite (2 ^ 31 + bank))) s.dev))) ∧
  (∀ (s : State) (v : Word),
    s.dev.halted = false → Completes (.evtConsWrite v) s (fun e => e = settle ((Dev.pcie (.reg EVT_CONS v.toNat) (evtConsWrite v.toNat)) s.dev))) ∧
  (∀ (s : State) (v : Word),
    s.dev.halted = false → Completes (.evtInject v) s (fun e => e = settle ((Dev.pcie (.reg EVT_INJECT v.toNat) (evtInject v.toNat)) s.dev))) ∧
  (∀ (s : State) (v : Word),
    s.dev.halted = false → Completes (.evtFlogClear v) s (fun e => e = settle ((Dev.pcie (.reg EVT_FLOG_CLEAR v.toNat) (evtFlogClear v.toNat)) s.dev))) ∧
  (∀ (s : State) (x : MsixSet),
    s.dev.halted = false → Completes (.msixHeldSend x) s (fun e => e = settle ((msixHeldSend x) s.dev))) ∧
  (∀ (s : State) (v : Fin 64),
    s.dev.halted = false → Completes (.moderationIntervalEnd v) s (fun e => e = settle ((moderationIntervalEnd v) s.dev))) ∧
  (∀ (s : State) (down : Bool),
    s.dev.halted = false → Completes (.pcieLinkReset down) s (fun e => e = settle ((pcieLinkReset down) s.dev))) ∧
  (∀ (s : State) (x : PcieLink) (errs : List (Fin 8)),
    s.dev.halted = false → Completes (.pcieLinkUp x errs) s (fun e => e = settle ((pcieLinkUp x errs) s.dev))) ∧
  (∀ (s : State) (b : Fin 16),
    s.takes EVT_CTRL (2 ^ 31 + b.val) → s.dev.get (SBn_OWNER_OWNER b) = 2 → s.dev.flag (SBn_OWNER_SHARE_READ b) = true → s.dev.flag EVT_CTRL_ENABLE = false →
    Completes (.evtEnable b) s (fun e =>
    e.flag EVT_CTRL_ENABLE = true ∧ e.evt = { s.dev.evt with phase := true } ∧ keepsRegs [EVT_CTRL, EVT_HIGH_WATER] s.dev e ∧ keepsMem s.dev e)) ∧
  (∀ (s : State) (v : Word),
    s.takes EVT_CONS v.toNat → (v.toNat % 16384 + 16384 - s.dev.get EVT_CONS_V) % 16384 ≤ s.dev.ringUsed →
    Completes (.evtConsWrite v) s (fun e =>
    e.get EVT_CONS_V = v.toNat % 16384 ∧ keepsRegs [EVT_CONS, EVT_STATUS] s.dev e ∧ keepsMem s.dev e)) ∧
  (∀ (s : State) (v : Word),
    s.takes EVT_INJECT v.toNat →
    Completes (.evtInject v) s (fun e =>
    e = settle ((s.dev.writePlain EVT_INJECT v.toNat).post clsHost (bitsOf v.toNat 0 16) 0xFF [s.dev.get EVT_INJECT_ARG_V]))) ∧
  (∀ (s : State) (v : Word),
    s.takes EVT_FLOG_CLEAR v.toNat → bitOf v.toNat 0 = true →
    Completes (.evtFlogClear v) s (fun e =>
    e.evt.flog = [] ∧ e.get EVT_FLOG_COUNT_V = 0 ∧ e.get EVT_FLOG_LOST_V = 0 ∧ keepsRegs [EVT_FLOG_CLEAR, EVT_FLOG_COUNT, EVT_FLOG_LOST] s.dev e ∧ keepsMem s.dev e)) ∧
  (∀ (s : State) (x : MsixSet),
    s.live → (∀ y ∈ s.dev.evt.vecs, y.held = false) → x.vec.val < s.dev.evt.vecs.length →
    Completes (.msixHeldSend x) s (fun e =>
    e.flag HOST_STATUS_MSIX_ENABLE = x.enable ∧ e.flag HOST_STATUS_BUS_MASTER = x.master ∧ (nth {} e.evt.vecs x.vec).masked = x.masked ∧ keepsRegs [HOST_STATUS] s.dev e ∧ keepsMem s.dev e)) ∧
  (∀ (s : State) (v : Fin 64),
    s.live → (nth {} s.dev.evt.vecs v).moderating = true → (nth {} s.dev.evt.vecs v).waiting = false → v.val < s.dev.evt.vecs.length →
    Completes (.moderationIntervalEnd v) s (fun e =>
    (nth {} e.evt.vecs v).moderating = false ∧ keepsRegs [] s.dev e ∧ keepsMem s.dev e)) ∧
  (∀ (s : State),
    s.live →
    Completes (.pcieLinkReset true) s (fun e =>
    e.evt.vecs = List.replicate 64 {} ∧ e.get (HOST_ERR_COUNTk_V 9) = min (s.dev.get (HOST_ERR_COUNTk_V 9) + 1) (2 ^ 32 - 1) ∧ (∀ c : Fin 8, e.word (DMAc_CTRL c) = 0) ∧ e.word HOST_STATUS = 0 ∧ keepsMem s.dev e)) ∧
  (∀ (s : State),
    s.live →
    Completes (.pcieLinkReset false) s (fun e =>
    e = settle s.dev.endpointReset ∧ e.word HOST_STATUS = 0)) ∧
  (∀ (s : State) (x : PcieLink),
    s.live → s.dev.mode ≠ 0 → x.speed.val ≠ 0 → (x.width.val = 1 ∨ x.width.val = 2 ∨ x.width.val = 4) →
    Completes (.pcieLinkUp x []) s (fun e =>
    e.flag HOST_STATUS_LINK_UP = true ∧ e.get HOST_STATUS_SPEED = x.speed ∧ e.get HOST_STATUS_WIDTH = x.width ∧ e.get HOST_STATUS_PM = x.pm ∧ keepsRegs [HOST_STATUS, TOP_REFCLK_STATUS] s.dev e ∧ keepsMem s.dev e))

/-- Ethernet ports and the tile stream. From every state in which the functional logic is not halted, each of ethFrameRx, ethBlockLockLoss, ethBlockLockGained, netQueueTailWrite, ethFrameTxDone, tileStreamDatagramRx, tileStreamDatagramTx completes: exec answers a next state, whose queue is the one given and whose block is the command's own effect on the block it found. Further clauses, each under hypotheses of its own on the state and the operands, say what then holds. ethFrameRx: Ep_COUNTk; the frame of the registers. ethBlockLockLoss: Ep_STATUS_LINK_UP, Ep_STATUS_LOCAL_FAULT, Ep_STATUS_HI_BER, Ep_COUNTk, Ep_STATUS_REMOTE_FAULT; the frame of the registers. ethBlockLockGained: Ep_STATUS_LINK_UP, Ep_STATUS_LOCAL_FAULT, Ep_STATUS_REMOTE_FAULT, Ep_STATUS_HI_BER; the frame of the registers. netQueueTailWrite: NQq_TAIL; the frame of the registers. ethFrameTxDone: the next block outright. tileStreamDatagramRx: TS_ERR_COUNTk; the frame of the registers. tileStreamDatagramTx: head.ts, what is sent, TSh_TX_FRAMES, TSh_SEQ; the frame of the registers. Rests on R417, R418, R419, R421, R422. -/
def Obligations.EthernetAndTileStreams : Prop :=
  (∀ (s : State) (p : Fin 2) (frame : List Byte) (fcs : Word),
    s.dev.halted = false → Completes (.ethFrameRx p frame fcs) s (fun e => e = settle ((ethFrameRx p frame fcs.toNat) s.dev))) ∧
  (∀ (s : State) (p : Fin 2) (fault : EthFault),
    s.dev.halted = false → Completes (.ethBlockLockLoss p fault) s (fun e => e = settle ((ethLockLoss p fault) s.dev))) ∧
  (∀ (s : State) (p : Fin 2),
    s.dev.halted = false → Completes (.ethBlockLockGained p) s (fun e => e = settle ((ethLockGained p) s.dev))) ∧
  (∀ (s : State) (q : Fin 8) (v : Word),
    s.dev.halted = false → Completes (.netQueueTailWrite q v) s (fun e => e = settle ((Dev.pcie (.reg (NQq_TAIL q) v.toNat) (nqTailWrite q v.toNat)) s.dev))) ∧
  (∀ (s : State) (q : Fin 8) (errs : List (Nat × Ecc)),
    s.dev.halted = false → Completes (.ethFrameTxDone q errs) s (fun e => e = settle ((ethFrameTxDone q errs) s.dev))) ∧
  (∀ (s : State) (payload : List Byte),
    s.dev.halted = false → Completes (.tileStreamDatagramRx payload) s (fun e => e = settle ((tileStreamRx payload) s.dev))) ∧
  (∀ (s : State) (h : Fin 8),
    s.dev.halted = false → Completes (.tileStreamDatagramTx h) s (fun e => e = settle ((tileStreamTx h) s.dev))) ∧
  (∀ (s : State) (p : Fin 2) (l : List Byte) (f : Word),
    s.live → f.toNat ≠ crc32 l → s.dev.flag (Ep_CTRL_ENABLE p) = true → s.dev.flag (Ep_STATUS_LINK_UP p) = true →
    Completes (.ethFrameRx p l f) s (fun e =>
    e.get (Ep_COUNTk_V p 2) = min (s.dev.get (Ep_COUNTk_V p 2) + 1) (2 ^ 32 - 1) ∧ keepsRegs [Ep_COUNTk p 2] s.dev e ∧ keepsMem s.dev e)) ∧
  (∀ (s : State) (p : Fin 2) (l : List Byte) (f : Word),
    s.live → f.toNat = crc32 l → s.dev.flag (Ep_CTRL_ENABLE p) = true → s.dev.flag (Ep_STATUS_LINK_UP p) = true → l.length < 60 →
    Completes (.ethFrameRx p l f) s (fun e =>
    e.get (Ep_COUNTk_V p 3) = min (s.dev.get (Ep_COUNTk_V p 3) + 1) (2 ^ 32 - 1) ∧ keepsRegs [Ep_COUNTk p 3] s.dev e ∧ keepsMem s.dev e)) ∧
  (∀ (s : State) (p : Fin 2) (l : List Byte) (f : Word),
    s.live → f.toNat = crc32 l → s.dev.flag (Ep_CTRL_ENABLE p) = true → s.dev.flag (Ep_STATUS_LINK_UP p) = true → 60 ≤ l.length → l.length ≤ 1518 → be16 l (typeAt l) = 0x8808 → be16 l (typeAt l + 2) = 1 →
    Completes (.ethFrameRx p l f) s (fun e =>
    e.get (Ep_COUNTk_V p 0) = min (s.dev.get (Ep_COUNTk_V p 0) + 1) (2 ^ 32 - 1) ∧ e.get (Ep_COUNTk_V p 6) = min (s.dev.get (Ep_COUNTk_V p 6) + 1) (2 ^ 32 - 1) ∧ keepsRegs [Ep_COUNTk p 0, Ep_COUNTk p 1, Ep_COUNTk p 6] s.dev e ∧ keepsMem s.dev e)) ∧
  (∀ (s : State) (p : Fin 2),
    s.live →
    Completes (.ethBlockLockLoss p .hiBer) s (fun e =>
    e.flag (Ep_STATUS_LINK_UP p) = false ∧ e.flag (Ep_STATUS_LOCAL_FAULT p) = true ∧ e.flag (Ep_STATUS_HI_BER p) = true ∧ e.get (Ep_COUNTk_V p 15) = min (s.dev.get (Ep_COUNTk_V p 15) + 1) (2 ^ 32 - 1) ∧ keepsRegs [Ep_STATUS p, Ep_COUNTk p 15] s.dev e ∧ keepsMem s.dev e)) ∧
  (∀ (s : State) (p : Fin 2),
    s.live →
    Completes (.ethBlockLockLoss p .lockLost) s (fun e =>
    e.flag (Ep_STATUS_LINK_UP p) = false ∧ e.flag (Ep_STATUS_LOCAL_FAULT p) = true ∧ e.get (Ep_COUNTk_V p 14) = min (s.dev.get (Ep_COUNTk_V p 14) + 1) (2 ^ 32 - 1) ∧ keepsRegs [Ep_STATUS p, Ep_COUNTk p 14] s.dev e ∧ keepsMem s.dev e)) ∧
  (∀ (s : State) (p : Fin 2),
    s.live →
    Completes (.ethBlockLockLoss p .remote) s (fun e =>
    e.flag (Ep_STATUS_LINK_UP p) = false ∧ e.flag (Ep_STATUS_REMOTE_FAULT p) = true ∧ keepsRegs [Ep_STATUS p] s.dev e ∧ keepsMem s.dev e)) ∧
  (∀ (s : State) (p : Fin 2),
    s.live →
    Completes (.ethBlockLockGained p) s (fun e =>
    e.flag (Ep_STATUS_LINK_UP p) = true ∧ e.flag (Ep_STATUS_LOCAL_FAULT p) = false ∧ e.flag (Ep_STATUS_REMOTE_FAULT p) = false ∧ e.flag (Ep_STATUS_HI_BER p) = false ∧ keepsRegs [Ep_STATUS p] s.dev e ∧ keepsMem s.dev e)) ∧
  (∀ (s : State) (q : Fin 8) (v : Word),
    s.takes (NQq_TAIL q) v.toNat → v.toNat < s.dev.nqSize q →
    Completes (.netQueueTailWrite q v) s (fun e =>
    e.get (NQq_TAIL_V q) = v.toNat ∧ keepsRegs [NQq_TAIL q] s.dev e ∧ keepsMem s.dev e)) ∧
  (∀ (s : State) (q : Fin 8) (errs : List (Nat × Ecc)),
    s.live → q.val % 4 < 2 → s.dev.nqOffered q = true → s.dev.inRung = false → s.dev.shedLevel < 3 → s.dev.flag (Ep_CTRL_ENABLE (q / 4)) = true → s.dev.txTurn (q / 4) (q % 4) = true → s.dev.flag (Ep_CTRL_JUMBO (q / 4)) = false → 1518 < s.dev.dpNum (s.dev.nqDesc q + 8) 2 →
    Completes (.ethFrameTxDone q errs) s (fun e =>
    e = settle (s.dev.nqComplete q 1 0))) ∧
  (∀ (s : State) (l : List Byte),
    s.live → s.dev.shedLevel = 0 → s.dev.inRung = false → anyBelow 8 (fun h => s.dev.flag (TSh_CTRL_RX h)) = true → l.length < 32 →
    Completes (.tileStreamDatagramRx l) s (fun e =>
    e.get (TS_ERR_COUNTk_V 0) = min (s.dev.get (TS_ERR_COUNTk_V 0) + 1) (2 ^ 32 - 1) ∧ keepsRegs [TS_ERR_COUNTk 0] s.dev e ∧ keepsMem s.dev e)) ∧
  (∀ (s : State) (h : Fin 8),
    s.live → s.dev.flag TS_CTRL_TX_ENABLE = false →
    Completes (.tileStreamDatagramTx h) s (fun e =>
    e = settle s.dev ∧ keepsRegs [] s.dev e ∧ keepsMem s.dev e)) ∧
  (∀ (s : State) (h : Fin 8) (g : TsFrame),
    s.live → s.dev.flag TS_CTRL_TX_ENABLE = true → s.dev.flag (Ep_CTRL_ENABLE (s.dev.get TS_CTRL_PORT)) = true → s.dev.txTurn (s.dev.get TS_CTRL_PORT) 2 = true → s.dev.shedLevel = 0 → s.dev.inRung = false → (s.dev.head h).ts.frames = [g] → (s.dev.head h).ts.tiles = [] → g.closed = true → h.val < s.dev.heads.length →
    Completes (.tileStreamDatagramTx h) s (fun e =>
    (e.head h).ts.frames = [] ∧ e.sent.length = s.dev.sent.length + 1 ∧ e.get (TSh_TX_FRAMES_V h) = min (s.dev.get (TSh_TX_FRAMES_V h) + 1) (2 ^ 32 - 1) ∧ e.get (TSh_SEQ_V h) = (s.dev.get (TSh_SEQ_V h) + 1) % 2 ^ 32 ∧ keepsMem s.dev e))

/-- Ownership of the scratchpad banks. From every state in which the functional logic is not halted, each of sbHandoverRequest, bankHandover, bankWipeDone completes: exec answers a next state, whose queue is the one given and whose block is the command's own effect on the block it found. Further clauses, each under hypotheses of its own on the state and the operands, say what then holds. sbHandoverRequest: SBn_OWNER_PENDING, SBn_OWNER_NEXT, SBn_STATUS_STATE; the frame of the registers. bankHandover: the frame of the registers. bankWipeDone: SBn_STATUS_STATE, MEM_COUNTk, memory. Rests on R433, R434. -/
def Obligations.BankOwnership : Prop :=
  (∀ (s : State) (n : Fin 16) (v : Word),
    s.dev.halted = false → Completes (.sbHandoverRequest n v) s (fun e => e = settle ((Dev.pcie (.reg (SBn_OWNER n) v.toNat) (sbOwnerWrite n v.toNat)) s.dev))) ∧
  (∀ (s : State) (n : Fin 16),
    s.dev.halted = false → Completes (.bankHandover n) s (fun e => e = settle ((bankHandover n) s.dev))) ∧
  (∀ (s : State) (n : Fin 16) (failRows : List Nat),
    s.dev.halted = false → Completes (.bankWipeDone n failRows) s (fun e => e = settle ((bankWipeDone n failRows) s.dev))) ∧
  (∀ (s : State) (n : Fin 16) (v : Word),
    s.takes (SBn_OWNER n) v.toNat → sbOwnerOk n v.toNat s.dev = true → bitsOf v.toNat 0 4 ≠ s.dev.get (SBn_OWNER_OWNER n) → s.dev.get (SBn_STATUS_STATE n) = 0 →
    Completes (.sbHandoverRequest n v) s (fun e =>
    e.flag (SBn_OWNER_PENDING n) = true ∧ e.get (SBn_OWNER_NEXT n) = bitsOf v.toNat 0 4 ∧ e.get (SBn_STATUS_STATE n) = 1 ∧ keepsRegs [SBn_OWNER n, SBn_STATUS n] s.dev e ∧ keepsMem s.dev e)) ∧
  (∀ (s : State) (n : Fin 16),
    s.live → s.dev.handoverHead n = none →
    Completes (.bankHandover n) s (fun e =>
    e = settle (s.dev.handover n))) ∧
  (∀ (s : State) (n : Fin 16),
    s.live → s.dev.handoverHead n = none → s.dev.flag (SBn_OWNER_PENDING n) = false →
    Completes (.bankHandover n) s (fun e =>
    e = settle s.dev ∧ keepsRegs [] s.dev e ∧ keepsMem s.dev e)) ∧
  (∀ (s : State) (n : Fin 16) (l : List Nat),
    s.live → s.dev.get (SBn_STATUS_STATE n) = 2 → l = [] → s.dev.memu.waits = [] →
    Completes (.bankWipeDone n l) s (fun e =>
    e.get (SBn_STATUS_STATE n) = 0 ∧ e.get (MEM_COUNTk_V 8) = min (s.dev.get (MEM_COUNTk_V 8) + 1) (2 ^ 32 - 1) ∧ (∀ a, 0x4000000000 + n.val * 0x80000 ≤ a → a < 0x4000000000 + n.val * 0x80000 + 0x80000 → cellFind e.mem a = none)))

/-- Atomic operations on the scratchpad. From every state in which the functional logic is not halted, each of memAtomAdd32, memAtomAdd64, memAtomSwap32, memAtomSwap64 completes: exec answers a next state, whose queue is the one given and whose block is the command's own effect on the block it found. Further clauses, each under hypotheses of its own on the state and the operands, say what then holds. memAtomAdd32: the number stored, MEM_ATOM_OLD_LO, MEM_COUNTk. memAtomAdd64: the number stored, MEM_ATOM_OLD_LO, MEM_COUNTk. memAtomSwap32: the number stored, MEM_ATOM_OLD_LO, MEM_COUNTk. memAtomSwap64: the number stored, MEM_ATOM_OLD_LO, MEM_COUNTk. Rests on R437. -/
def Obligations.Atomics : Prop :=
  (∀ (s : State) (x : AtomMeets),
    s.dev.halted = false → Completes (.memAtomAdd32 x) s (fun e => e = settle ((Dev.pcie (.reg MEM_ATOM_OP 0) (atomWrite 0 x)) s.dev))) ∧
  (∀ (s : State) (x : AtomMeets),
    s.dev.halted = false → Completes (.memAtomAdd64 x) s (fun e => e = settle ((Dev.pcie (.reg MEM_ATOM_OP 1) (atomWrite 1 x)) s.dev))) ∧
  (∀ (s : State) (x : AtomMeets),
    s.dev.halted = false → Completes (.memAtomSwap32 x) s (fun e => e = settle ((Dev.pcie (.reg MEM_ATOM_OP 2) (atomWrite 2 x)) s.dev))) ∧
  (∀ (s : State) (x : AtomMeets),
    s.dev.halted = false → Completes (.memAtomSwap64 x) s (fun e => e = settle ((Dev.pcie (.reg MEM_ATOM_OP 3) (atomWrite 3 x)) s.dev))) ∧
  (∀ (s : State),
    s.takes MEM_ATOM_OP 0 → atomOk 0 s.dev = true → s.dev.get (SBn_STATUS_STATE (bankOf s.dev.atomAddr)) = 0 → s.dev.memu.marchPhase = 0 → s.dev.mayWrite (bankOf s.dev.atomAddr) 0 = true → s.dev.memu.poison = [] →
    Completes (.memAtomAdd32 {}) s (fun e =>
    e.loadN s.dev.atomAddr 4 = (s.dev.loadN s.dev.atomAddr 4 + s.dev.get MEM_ATOM_DATA_LO_V) % 2 ^ 32 ∧ e.get MEM_ATOM_OLD_LO_V = s.dev.loadN s.dev.atomAddr 4 % 2 ^ 32 ∧ e.get (MEM_COUNTk_V 9) = min (s.dev.get (MEM_COUNTk_V 9) + 1) (2 ^ 32 - 1) ∧ keepsMemBut s.dev.atomAddr 4 s.dev e)) ∧
  (∀ (s : State),
    s.takes MEM_ATOM_OP 1 → atomOk 1 s.dev = true → s.dev.get (SBn_STATUS_STATE (bankOf s.dev.atomAddr)) = 0 → s.dev.memu.marchPhase = 0 → s.dev.mayWrite (bankOf s.dev.atomAddr) 0 = true → s.dev.memu.poison = [] →
    Completes (.memAtomAdd64 {}) s (fun e =>
    e.loadN s.dev.atomAddr 8 = (s.dev.loadN s.dev.atomAddr 8 + (s.dev.get MEM_ATOM_DATA_LO_V + s.dev.get MEM_ATOM_DATA_HI_V * 2 ^ 32)) % 2 ^ 64 ∧ e.get MEM_ATOM_OLD_LO_V = s.dev.loadN s.dev.atomAddr 8 % 2 ^ 32 ∧ e.get (MEM_COUNTk_V 9) = min (s.dev.get (MEM_COUNTk_V 9) + 1) (2 ^ 32 - 1) ∧ keepsMemBut s.dev.atomAddr 8 s.dev e)) ∧
  (∀ (s : State),
    s.takes MEM_ATOM_OP 2 → atomOk 2 s.dev = true → s.dev.get (SBn_STATUS_STATE (bankOf s.dev.atomAddr)) = 0 → s.dev.memu.marchPhase = 0 → s.dev.mayWrite (bankOf s.dev.atomAddr) 0 = true → s.dev.memu.poison = [] →
    Completes (.memAtomSwap32 {}) s (fun e =>
    e.loadN s.dev.atomAddr 4 = s.dev.get MEM_ATOM_DATA_LO_V ∧ e.get MEM_ATOM_OLD_LO_V = s.dev.loadN s.dev.atomAddr 4 % 2 ^ 32 ∧ e.get (MEM_COUNTk_V 9) = min (s.dev.get (MEM_COUNTk_V 9) + 1) (2 ^ 32 - 1) ∧ keepsMemBut s.dev.atomAddr 4 s.dev e)) ∧
  (∀ (s : State),
    s.takes MEM_ATOM_OP 3 → atomOk 3 s.dev = true → s.dev.get (SBn_STATUS_STATE (bankOf s.dev.atomAddr)) = 0 → s.dev.memu.marchPhase = 0 → s.dev.mayWrite (bankOf s.dev.atomAddr) 0 = true → s.dev.memu.poison = [] →
    Completes (.memAtomSwap64 {}) s (fun e =>
    e.loadN s.dev.atomAddr 8 = (s.dev.get MEM_ATOM_DATA_LO_V + s.dev.get MEM_ATOM_DATA_HI_V * 2 ^ 32) ∧ e.get MEM_ATOM_OLD_LO_V = s.dev.loadN s.dev.atomAddr 8 % 2 ^ 32 ∧ e.get (MEM_COUNTk_V 9) = min (s.dev.get (MEM_COUNTk_V 9) + 1) (2 ^ 32 - 1) ∧ keepsMemBut s.dev.atomAddr 8 s.dev e))

/-- The march of the scratchpad. From every state in which the functional logic is not halted, each of marchPGo, marchPAbort, marchPRowStart, marchPRowDone, marchPResume completes: exec answers a next state, whose queue is the one given and whose block is the command's own effect on the block it found. Further clauses, each under hypotheses of its own on the state and the operands, say what then holds. marchPGo: MEM_MARCH_STATUS_BUSY, MEM_MARCH_STATUS_REQUESTED, MEM_MARCH_STATUS_BANK, MEM_MARCH_STATUS_ROW, memu.marchPhase; the frame of the registers. marchPAbort: MEM_MARCH_STATUS_BUSY, memu.marchPhase; the frame of the registers. marchPRowStart: memu, MEM_MARCH_STATUS_BUSY, MEM_MARCH_STATUS_REQUESTED, MEM_MARCH_STATUS_BANK, MEM_MARCH_STATUS_ROW; the frame of the registers. marchPRowDone: MEM_MARCH_STATUS_ROW, MEM_MARCH_ROWS, memu.marchPhase; the frame of the registers. marchPResume: memu; the frame of the registers. Rests on R440, R441. -/
def Obligations.March : Prop :=
  (∀ (s : State) (bank : Fin 16) (background : Bool),
    s.dev.halted = false → Completes (.marchPGo bank background) s (fun e => e = settle ((Dev.pcie (.reg MEM_MARCH_CTRL (2 ^ 31 + b2n background * 2 ^ 29 + bank)) (marchCtrlWrite (2 ^ 31 + b2n background * 2 ^ 29 + bank))) s.dev))) ∧
  (∀ (s : State) (bank : Fin 16) (background : Bool),
    s.dev.halted = false → Completes (.marchPAbort bank background) s (fun e => e = settle ((Dev.pcie (.reg MEM_MARCH_CTRL (2 ^ 30 + b2n background * 2 ^ 29 + bank)) (marchCtrlWrite (2 ^ 30 + b2n background * 2 ^ 29 + bank))) s.dev))) ∧
  (∀ (s : State),
    s.dev.halted = false → Completes (.marchPRowStart) s (fun e => e = settle (marchRowStart s.dev))) ∧
  (∀ (s : State) (fails : Bool),
    s.dev.halted = false → Completes (.marchPRowDone fails) s (fun e => e = settle ((marchRowDone fails) s.dev))) ∧
  (∀ (s : State),
    s.dev.halted = false → Completes (.marchPResume) s (fun e => e = settle (marchResume s.dev))) ∧
  (∀ (s : State) (b : Fin 16) (bg : Bool),
    s.takes MEM_MARCH_CTRL (2 ^ 31 + b2n bg * 2 ^ 29 + b.val) → s.dev.memu.marchPhase = 0 →
    Completes (.marchPGo b bg) s (fun e =>
    e.flag MEM_MARCH_STATUS_BUSY = true ∧ e.flag MEM_MARCH_STATUS_REQUESTED = true ∧ e.get MEM_MARCH_STATUS_BANK = b ∧ e.get MEM_MARCH_STATUS_ROW = 0 ∧ e.memu.marchPhase = 1 ∧ keepsRegs [MEM_MARCH_CTRL, MEM_MARCH_STATUS, MEM_STATUS, SBn_STATUS b] s.dev e ∧ keepsMem s.dev e)) ∧
  (∀ (s : State) (b : Fin 16) (bg : Bool),
    s.takes MEM_MARCH_CTRL (2 ^ 30 + b2n bg * 2 ^ 29 + b.val) → s.dev.memu.marchPhase ≠ 0 →
    Completes (.marchPAbort b bg) s (fun e =>
    e.flag MEM_MARCH_STATUS_BUSY = false ∧ e.memu.marchPhase = 0 ∧ keepsRegs [MEM_MARCH_CTRL, MEM_MARCH_STATUS, MEM_STATUS, SBn_STATUS (s.dev.get MEM_MARCH_STATUS_BANK)] s.dev e ∧ keepsMem s.dev e)) ∧
  (∀ (s : State),
    s.live → (∀ b : Fin 16, s.dev.lendable b = false) →
    Completes (.marchPRowStart) s (fun e =>
    keepsRegs [] s.dev e ∧ keepsMem s.dev e ∧ e.memu = s.dev.memu)) ∧
  (∀ (s : State) (b : Fin 16),
    s.live → s.dev.flag MEM_MARCH_CTRL_BACKGROUND = true → s.dev.memu.marchPhase = 0 → s.dev.get POWER_SHED_STATUS_LEVEL = 0 → s.dev.memu.marchNext < 8192 → s.dev.memu.marchNext / 512 = b.val → s.dev.lendable b = true →
    Completes (.marchPRowStart) s (fun e =>
    e.flag MEM_MARCH_STATUS_BUSY = true ∧ e.flag MEM_MARCH_STATUS_REQUESTED = false ∧ e.get MEM_MARCH_STATUS_BANK = b ∧ e.get MEM_MARCH_STATUS_ROW = s.dev.memu.marchNext % 512 ∧ e.memu = { s.dev.memu with marchPhase := 1, marchNext := (s.dev.memu.marchNext + 1) % 8192 } ∧ keepsMem s.dev e)) ∧
  (∀ (s : State),
    s.live → s.dev.memu.marchPhase = 1 → s.dev.flag MEM_MARCH_STATUS_REQUESTED = true → s.dev.get MEM_MARCH_STATUS_ROW < 511 → s.dev.get MEM_MARCH_STATUS_BANK < 16 →
    Completes (.marchPRowDone false) s (fun e =>
    e.get MEM_MARCH_STATUS_ROW = s.dev.get MEM_MARCH_STATUS_ROW + 1 ∧ e.get (MEM_MARCH_ROWS_V) = min (s.dev.get (MEM_MARCH_ROWS_V) + 1) (2 ^ 32 - 1) ∧ e.memu.marchPhase = 1 ∧ keepsRegs [MEM_MARCH_ROWS, MEM_MARCH_STATUS, MEM_STATUS, SBn_STATUS (s.dev.get MEM_MARCH_STATUS_BANK)] s.dev e ∧ keepsMem s.dev e)) ∧
  (∀ (s : State),
    s.live → s.dev.memu.marchPhase = 2 →
    Completes (.marchPResume) s (fun e =>
    e.memu = { s.dev.memu with marchPhase := 1 } ∧ keepsRegs [] s.dev e ∧ keepsMem s.dev e))

/-- Fills, grooming, the correctable log and DRAM repair. From every state in which the functional logic is not halted, each of initMapFillDone, backgroundFillComplete, groomRead, targetedWriteback, clogEntryExpire, dramPageRemap, dramRefreshDerate completes: exec answers a next state, whose queue is the one given and whose block is the command's own effect on the block it found. Further clauses, each under hypotheses of its own on the state and the operands, say what then holds. initMapFillDone: the next block outright. backgroundFillComplete: MEM_STATUS_INIT_DONE, memu.allFilled, MEM_EVT_STATUS. groomRead: the frame of the registers. targetedWriteback: MEM_CLOGk_INFO_WRITTEN_BACK, MEM_COUNTk; the frame of the registers. clogEntryExpire: MEM_CLOGk_INFO, MEM_CLOGk_ADDR, MEM_CLOG_USED; the frame of the registers. dramPageRemap: memu.sparePages; the frame of the registers. dramRefreshDerate: MEM_CHc_TEMP, memu.hotChannels, MEM_DRAM_STATUS_DERATED; the frame of the registers. Rests on R442, R444, R445, R446, R448, R449. -/
def Obligations.MemoryUpkeep : Prop :=
  (∀ (s : State) (g : Nat),
    s.dev.halted = false → Completes (.initMapFillDone g) s (fun e => e = settle ((initMapFillDone g) s.dev))) ∧
  (∀ (s : State),
    s.dev.halted = false → Completes (.backgroundFillComplete) s (fun e => e = settle (backgroundFillComplete s.dev))) ∧
  (∀ (s : State) (dram : Bool) (ecc : Ecc) (intervened : Bool),
    s.dev.halted = false → Completes (.groomRead dram ecc intervened) s (fun e => e = settle ((groomStep dram ecc intervened) s.dev))) ∧
  (∀ (s : State) (k : Fin 64),
    s.dev.halted = false → Completes (.targetedWriteback k) s (fun e => e = settle ((targetedWriteback k) s.dev))) ∧
  (∀ (s : State) (k : Fin 64),
    s.dev.halted = false → Completes (.clogEntryExpire k) s (fun e => e = settle ((clogExpire k) s.dev))) ∧
  (∀ (s : State),
    s.dev.halted = false → Completes (.dramPageRemap) s (fun e => e = settle (dramPageRemap s.dev))) ∧
  (∀ (s : State) (c : Fin 8) (code : Fin 32) (hot : Bool),
    s.dev.halted = false → Completes (.dramRefreshDerate c code hot) s (fun e => e = settle ((dramRefreshDerate c code hot) s.dev))) ∧
  (∀ (s : State) (g : Nat),
    s.live → s.dev.granuleSet g = false → s.dev.filling g = true →
    Completes (.initMapFillDone g) s (fun e =>
    e = settle (Dev.proceed g ((s.dev.setGranule g).inc (MEM_COUNTk_V 14))))) ∧
  (∀ (s : State),
    s.live → s.dev.flag MEM_STATUS_INIT_DONE = false → s.dev.mode ≠ 0 → s.dev.memu.waits = [] →
    Completes (.backgroundFillComplete) s (fun e =>
    e.flag MEM_STATUS_INIT_DONE = true ∧ e.memu.allFilled = true ∧ bitOf (e.word MEM_EVT_STATUS) 5 = true)) ∧
  (∀ (s : State) (ecc : Ecc) (i : Bool),
    s.live → s.dev.flag MEM_GROOM_CTRL_DRAM_EN = false →
    Completes (.groomRead true ecc i) s (fun e =>
    e = settle s.dev ∧ keepsRegs [] s.dev e ∧ keepsMem s.dev e)) ∧
  (∀ (s : State) (ecc : Ecc) (i : Bool),
    s.live → s.dev.mode ≠ 0 → s.dev.flag MEM_GROOM_CTRL_SRAM_EN = true →
    Completes (.groomRead false ecc i) s (fun e =>
    e = settle (groomSram ecc i (s.dev.putB MEM_STATUS_GROOM_SRAM true)))) ∧
  (∀ (s : State) (k : Fin 64),
    s.live → s.dev.flag (MEM_CLOGk_INFO_VALID k) = true → s.dev.flag (MEM_CLOGk_INFO_WRITTEN_BACK k) = false → 16 ≤ s.dev.get (MEM_CLOGk_INFO_COUNT k) →
    Completes (.targetedWriteback k) s (fun e =>
    e.flag (MEM_CLOGk_INFO_WRITTEN_BACK k) = true ∧ e.get (MEM_COUNTk_V 12) = min (s.dev.get (MEM_COUNTk_V 12) + 1) (2 ^ 32 - 1) ∧ keepsRegs [MEM_CLOGk_INFO k, MEM_COUNTk 12] s.dev e ∧ keepsMem s.dev e)) ∧
  (∀ (s : State) (k : Fin 64),
    s.live → s.dev.flag (MEM_CLOGk_INFO_VALID k) = true → s.dev.flag (MEM_CLOGk_INFO_HARD k) = false → 24 ≤ s.dev.clogAge k →
    Completes (.clogEntryExpire k) s (fun e =>
    e.word (MEM_CLOGk_INFO k) = 0 ∧ e.word (MEM_CLOGk_ADDR k) = 0 ∧ e.get MEM_CLOG_USED_V = s.dev.get MEM_CLOG_USED_V - 1 ∧ keepsRegs [MEM_CLOGk_INFO k, MEM_CLOGk_ADDR k, MEM_CLOG_USED] s.dev e ∧ keepsMem s.dev e)) ∧
  (∀ (s : State),
    s.live → s.dev.farReleased 3 = [] →
    Completes (.dramPageRemap) s (fun e =>
    e = settle s.dev ∧ keepsRegs [] s.dev e ∧ keepsMem s.dev e)) ∧
  (∀ (s : State) (q : FarRequest) (l : List FarRequest),
    s.live → s.dev.farReleased 3 = q :: l → s.dev.memu.sparePages.length = 16384 →
    Completes (.dramPageRemap) s (fun e =>
    e = settle ((s.dev.memEvt 3).farExhausted q))) ∧
  (∀ (s : State) (q : FarRequest) (l : List FarRequest),
    s.live → s.dev.farReleased 3 = q :: l → s.dev.memu.sparePages.length < 16384 →
    Completes (.dramPageRemap) s (fun e =>
    e = settle (Dev.rowRepair q.inst (Dev.farSubstituted q s.dev.memu.sparePages.length (Dev.spareLow ((fun d2 : Dev => if d2.granuleSet (121856 + s.dev.memu.sparePages.length / 16) = true then d2 else (d2.setGranule (121856 + s.dev.memu.sparePages.length / 16)).inc (MEM_COUNTk_V 14)) ((Dev.put { s.dev with memu := { s.dev.memu with sparePages := q.inst :: s.dev.memu.sparePages } } MEM_SPARE_LAST_V q.inst).put MEM_SPARE_STATUS_USED (s.dev.memu.sparePages.length + 1)))))) ∧ e.memu.sparePages = q.inst :: s.dev.memu.sparePages)) ∧
  (∀ (s : State) (c : Fin 8) (k : Fin 32) (hot : Bool),
    s.live →
    Completes (.dramRefreshDerate c k hot) s (fun e =>
    e.get (MEM_CHc_TEMP_V c) = k ∧ bitOf e.memu.hotChannels c = hot ∧ (∀ i : Fin 8, i ≠ c → bitOf e.memu.hotChannels i = bitOf s.dev.memu.hotChannels i) ∧ e.flag MEM_DRAM_STATUS_DERATED = decide (e.memu.hotChannels ≠ 0) ∧ keepsRegs [MEM_CHc_TEMP c, MEM_DRAM_STATUS] s.dev e ∧ keepsMem s.dev e))

/-- The queues and tables of the compression engine. From every state in which the functional logic is not halted, each of ceQueueEnable, ceQueueDisable, ceQueueGo, ceQueueRestart, ceQueueAbort, ceTailWrite, ceJobEnd, ceTableLoad, ceTableLoadDone completes: exec answers a next state, whose queue is the one given and whose block is the command's own effect on the block it found. Further clauses, each under hypotheses of its own on the state and the operands, say what then holds. ceQueueEnable: the next block outright. ceQueueDisable: CEq_STATUS_STATE, CEq_CTRL_ENABLE; the frame of the registers. ceQueueGo: the next block outright. ceQueueRestart: the next block outright. ceQueueAbort: CEq_HEAD, CEq_STATUS_STATE; the frame of the registers. ceTailWrite: CEq_TAIL. ceJobEnd: CEq_STATUS_STATE. ceTableLoad: CE_TABLE_STATUS_STATE, CE_TABLE_STATUS_SLOT; the frame of the registers. ceTableLoadDone: CE_TABLE_STATUS_STATE, CE_TABLE_STATUS_ERR, CE_EVT_STATUS. Rests on R462, R471, R472. -/
def Obligations.CompressionEngine : Prop :=
  (∀ (s : State) (q : Fin 4),
    s.dev.halted = false → Completes (.ceQueueEnable q) s (fun e => e = settle ((Dev.pcie (.reg (CEq_CTRL q) (2 ^ 31)) (ceqCtrlWrite q (2 ^ 31))) s.dev))) ∧
  (∀ (s : State) (q : Fin 4),
    s.dev.halted = false → Completes (.ceQueueDisable q) s (fun e => e = settle ((Dev.pcie (.reg (CEq_CTRL q) 0) (ceqCtrlWrite q 0)) s.dev))) ∧
  (∀ (s : State) (q : Fin 4),
    s.dev.halted = false → Completes (.ceQueueGo q) s (fun e => e = settle ((Dev.pcie (.reg (CEq_CTRL q) (2 ^ 31 + 2 ^ 30)) (ceqCtrlWrite q (2 ^ 31 + 2 ^ 30))) s.dev))) ∧
  (∀ (s : State) (q : Fin 4),
    s.dev.halted = false → Completes (.ceQueueRestart q) s (fun e => e = settle ((Dev.pcie (.reg (CEq_CTRL q) (2 ^ 31 + 2 ^ 29)) (ceqCtrlWrite q (2 ^ 31 + 2 ^ 29))) s.dev))) ∧
  (∀ (s : State) (q : Fin 4),
    s.dev.halted = false → Completes (.ceQueueAbort q) s (fun e => e = settle ((Dev.pcie (.reg (CEq_CTRL q) (2 ^ 31 + 2 ^ 28)) (ceqCtrlWrite q (2 ^ 31 + 2 ^ 28))) s.dev))) ∧
  (∀ (s : State) (q : Fin 4) (v : Word),
    s.dev.halted = false → Completes (.ceTailWrite q v) s (fun e => e = settle ((Dev.pcie (.reg (CEq_TAIL q) v.toNat) (ceTailWrite q v.toNat)) s.dev))) ∧
  (∀ (s : State) (q : Fin 4) (errs : List (Nat × Ecc)),
    s.dev.halted = false → Completes (.ceJobEnd q errs) s (fun e => e = settle ((ceJobEnd q errs) s.dev))) ∧
  (∀ (s : State) (slot : Fin 8),
    s.dev.halted = false → Completes (.ceTableLoad slot) s (fun e => e = settle ((Dev.pcie (.reg CE_TABLE_CTRL (2 ^ 31 + slot)) (ceTableCtrlWrite (2 ^ 31 + slot))) s.dev))) ∧
  (∀ (s : State) (errs : List (Nat × Ecc)),
    s.dev.halted = false → Completes (.ceTableLoadDone errs) s (fun e => e = settle ((ceTableLoadDone errs) s.dev))) ∧
  (∀ (s : State) (q : Fin 4),
    s.takes (CEq_CTRL q) (2 ^ 31) → s.dev.get (CEq_STATUS_STATE q) = 0 →
    Completes (.ceQueueEnable q) s (fun e =>
    e = settle (Dev.ceNext q ((s.dev.writePlain (CEq_CTRL q) (2 ^ 31)).put (CEq_STATUS_STATE q) 1)))) ∧
  (∀ (s : State) (q : Fin 4),
    s.takes (CEq_CTRL q) 0 → s.dev.get (CEq_STATUS_STATE q) ≠ 2 →
    Completes (.ceQueueDisable q) s (fun e =>
    e.get (CEq_STATUS_STATE q) = 0 ∧ e.flag (CEq_CTRL_ENABLE q) = false ∧ keepsRegs [CEq_CTRL q, CEq_STATUS q] s.dev e ∧ keepsMem s.dev e)) ∧
  (∀ (s : State) (q : Fin 4),
    s.takes (CEq_CTRL q) (2 ^ 31 + 2 ^ 30) → s.dev.get (CEq_STATUS_STATE q) = 3 →
    Completes (.ceQueueGo q) s (fun e =>
    e = settle (Dev.ceRelease q (s.dev.writePlain (CEq_CTRL q) (2 ^ 31 + 2 ^ 30))))) ∧
  (∀ (s : State) (q : Fin 4),
    s.takes (CEq_CTRL q) (2 ^ 31 + 2 ^ 29) → s.dev.get (CEq_STATUS_STATE q) = 4 →
    Completes (.ceQueueRestart q) s (fun e =>
    e = settle (Dev.ceRestart q (s.dev.writePlain (CEq_CTRL q) (2 ^ 31 + 2 ^ 29))))) ∧
  (∀ (s : State) (q : Fin 4),
    s.takes (CEq_CTRL q) (2 ^ 31 + 2 ^ 28) → s.dev.get (CEq_STATUS_STATE q) = 4 →
    Completes (.ceQueueAbort q) s (fun e =>
    e.get (CEq_HEAD_V q) = s.dev.get (CEq_TAIL_V q) ∧ e.get (CEq_STATUS_STATE q) = 1 ∧ keepsRegs [CEq_CTRL q, CEq_STATUS q, CEq_HEAD q] s.dev e ∧ keepsMem s.dev e)) ∧
  (∀ (s : State) (q : Fin 4) (v : Word),
    s.takes (CEq_TAIL q) v.toNat → v.toNat < 2 ^ s.dev.get (CEq_RING_SIZE_V q) →
    Completes (.ceTailWrite q v) s (fun e =>
    e = settle (Dev.ceNext q (s.dev.writePlain (CEq_TAIL q) v.toNat)) ∧ e.get (CEq_TAIL_V q) = v.toNat)) ∧
  (∀ (s : State) (q : Fin 4) (errs : List (Nat × Ecc)),
    s.live → s.dev.get (CEq_STATUS_STATE q) = 2 → s.dev.ce.serving.any (fun p => p.1 == q.val) = true → (s.dev.agentRead 3 (s.dev.ceAddr q) 64 errs).1 = true →
    Completes (.ceJobEnd q errs) s (fun e =>
    e = settle (Dev.ceFails q (s.dev.ceDesc q) 4 (s.dev.agentRead 3 (s.dev.ceAddr q) 64 errs).2.2))) ∧
  (∀ (s : State) (q : Fin 4) (errs : List (Nat × Ecc)),
    s.live → s.dev.get (CEq_STATUS_STATE q) = 2 → s.dev.ce.serving.any (fun p => p.1 == q.val) = true → (s.dev.agentRead 3 (s.dev.ceAddr q) 64 errs).1 = false → (s.dev.agentRead 3 (s.dev.ceAddr q) 64 errs).2.2.ceCheck (s.dev.ceDesc q) ≠ 0 →
    Completes (.ceJobEnd q errs) s (fun e =>
    e = settle (Dev.ceFails q (s.dev.ceDesc q) ((s.dev.agentRead 3 (s.dev.ceAddr q) 64 errs).2.2.ceCheck (s.dev.ceDesc q)) (s.dev.agentRead 3 (s.dev.ceAddr q) 64 errs).2.2) ∧ e.get (CEq_STATUS_STATE q) = (if s.dev.flag (CEq_CTRL_ENABLE q) = true then 4 else 0))) ∧
  (∀ (s : State) (q : Fin 4) (errs : List (Nat × Ecc)),
    s.live → s.dev.get (CEq_STATUS_STATE q) = 2 → s.dev.ce.serving.any (fun p => p.1 == q.val) = true → (s.dev.agentRead 3 (s.dev.ceAddr q) 64 errs).1 = false → (s.dev.agentRead 3 (s.dev.ceAddr q) 64 errs).2.2.ceCheck (s.dev.ceDesc q) = 0 → (s.dev.ceDesc q).encodes = true →
    Completes (.ceJobEnd q errs) s (fun e =>
    e = settle (Dev.ceEncodeJob q (s.dev.ceDesc q) errs (s.dev.agentRead 3 (s.dev.ceAddr q) 64 errs).2.2))) ∧
  (∀ (s : State) (q : Fin 4) (errs : List (Nat × Ecc)),
    s.live → s.dev.get (CEq_STATUS_STATE q) ≠ 2 →
    Completes (.ceJobEnd q errs) s (fun e =>
    e = settle s.dev)) ∧
  (∀ (s : State) (t : Fin 8),
    s.takes CE_TABLE_CTRL (2 ^ 31 + t.val) → s.dev.get CE_TABLE_STATUS_STATE ≠ 1 →
    Completes (.ceTableLoad t) s (fun e =>
    e.get CE_TABLE_STATUS_STATE = 1 ∧ e.get CE_TABLE_STATUS_SLOT = t ∧ keepsRegs [CE_TABLE_CTRL, CE_TABLE_STATUS] s.dev e ∧ keepsMem s.dev e)) ∧
  (∀ (s : State) (errs : List (Nat × Ecc)),
    s.live → s.dev.get CE_TABLE_STATUS_STATE = 1 → s.dev.get CE_CTRL_FB_TABLE = s.dev.get CE_TABLE_STATUS_SLOT →
    Completes (.ceTableLoadDone errs) s (fun e =>
    e.get CE_TABLE_STATUS_STATE = 3 ∧ e.get CE_TABLE_STATUS_ERR = 4 ∧ bitOf (e.word CE_EVT_STATUS) 2 = true))

/-- Calibration requests, runs and results. From every state in which the functional logic is not halted, each of calRequestItem, calRequestAll, calRunStart, calMeasureDone, calResultApply, calQuietTimeout, refvRecheck, internalSensorReading, sensorFailure completes: exec answers a next state, whose queue is the one given and whose block is the command's own effect on the block it found. Further clauses, each under hypotheses of its own on the state and the operands, say what then holds. calRequestItem: CAL_COUNTk. calRequestAll: CAL_COUNTk. calRunStart: cal.measuring, CAL_ITEMi_STATE. calMeasureDone: cal.measuring. calResultApply: the next block outright. calQuietTimeout: cal.measuring. refvRecheck: CAL_STATUS_REFV_BAD, CAL_REFV_UV, CAL_BANDGAP_UV; the frame of the registers. internalSensorReading: HAR_TEMP, HAR_STATUS_HOT, TSk_TEMP_TEMP. sensorFailure: the frame of the registers. Rests on R481, R482, R483, R486, R488, R489, R498. -/
def Obligations.Calibration : Prop :=
  (∀ (s : State) (i : Fin 256),
    s.dev.halted = false → Completes (.calRequestItem i) s (fun e => e = settle ((Dev.pcie (.reg CAL_REQUEST i) (calRequestWrite i)) s.dev))) ∧
  (∀ (s : State) (i : Fin 256),
    s.dev.halted = false → Completes (.calRequestAll i) s (fun e => e = settle ((Dev.pcie (.reg CAL_REQUEST (2 ^ 31 + i)) (calRequestWrite (2 ^ 31 + i))) s.dev))) ∧
  (∀ (s : State) (drift refv bandgap ua : Nat),
    s.dev.halted = false → Completes (.calRunStart drift refv bandgap ua) s (fun e => e = settle ((calRunStart drift refv bandgap ua) s.dev))) ∧
  (∀ (s : State) (drift refv bandgap : Nat) (m : CalMeas),
    s.dev.halted = false → Completes (.calMeasureDone drift refv bandgap m) s (fun e => e = settle ((calMeasureDone drift refv bandgap m) s.dev))) ∧
  (∀ (s : State) (i : Fin 88),
    s.dev.halted = false → Completes (.calResultApply i) s (fun e => e = settle ((calResultApply i) s.dev))) ∧
  (∀ (s : State),
    s.dev.halted = false → Completes (.calQuietTimeout) s (fun e => e = settle (calQuietTimeout s.dev))) ∧
  (∀ (s : State) (drift refv bandgap : Nat),
    s.dev.halted = false → Completes (.refvRecheck drift refv bandgap) s (fun e => e = settle ((refvRecheck drift refv bandgap) s.dev))) ∧
  (∀ (s : State) (har : Int) (phys : List Int),
    s.dev.halted = false → Completes (.internalSensorReading har phys) s (fun e => e = settle ((internalSensorReading har phys) s.dev))) ∧
  (∀ (s : State) (p : Fin 8),
    s.dev.halted = false → Completes (.sensorFailure p) s (fun e => e = settle ((sensorFailure p) s.dev))) ∧
  (∀ (s : State) (i : Fin 256),
    s.takes CAL_REQUEST i → i.val ≤ 87 →
    Completes (.calRequestItem i) s (fun e =>
    e = settle (Dev.inc (Dev.calPend true i (s.dev.writePlain CAL_REQUEST i)) (CAL_COUNTk_V 8)) ∧ e.get (CAL_COUNTk_V 8) = min (s.dev.get (CAL_COUNTk_V 8) + 1) (2 ^ 32 - 1))) ∧
  (∀ (s : State) (i : Fin 256),
    s.takes CAL_REQUEST (2 ^ 31 + i.val) → i.val ≤ 87 →
    Completes (.calRequestAll i) s (fun e =>
    e = settle (Dev.inc (foldS (List.range 88) (Dev.calPend true) (s.dev.writePlain CAL_REQUEST (2 ^ 31 + i.val))) (CAL_COUNTk_V 8)) ∧ e.get (CAL_COUNTk_V 8) = min (s.dev.get (CAL_COUNTk_V 8) + 1) (2 ^ 32 - 1))) ∧
  (∀ (s : State) (r : Nat) (a : Nat) (b : Nat) (ua : Nat) (i : Nat),
    s.live → s.dev.calTurn = some i → s.dev.calMayStart = true → refvReason r a b none = 0 → quietItem i = false →
    Completes (.calRunStart r a b ua) s (fun e =>
    e = settle (Dev.calSync (((((s.dev.put CAL_REFV_UV_V a).put CAL_BANDGAP_UV_V b).calStarts i a)).onCal (fun u => { u with refvFails := 0, quietWait := false }))) ∧ e.cal.measuring = some i ∧ e.get (CAL_ITEMi_STATE i) = 2)) ∧
  (∀ (s : State) (r : Nat) (a : Nat) (b : Nat) (ua : Nat) (i : Nat),
    s.live → s.dev.calTurn = some i → s.dev.calMayStart = true → refvReason r a b none ≠ 0 →
    Completes (.calRunStart r a b ua) s (fun e =>
    e = settle (Dev.refvFailed (Dev.calAbort i 1 (refvReason r a b none) ((((s.dev.put CAL_REFV_UV_V a).put CAL_BANDGAP_UV_V b).calStarts i a)))) ∧ e.cal.measuring = none)) ∧
  (∀ (s : State) (r : Nat) (a : Nat) (b : Nat) (m : CalMeas) (i : Nat),
    s.live → s.dev.cal.measuring = some i → s.dev.cal.quietWait = false → refvReason r a b (some s.dev.cal.refvStart) ≠ 0 →
    Completes (.calMeasureDone r a b m) s (fun e =>
    e = settle (Dev.refvFailed (Dev.calAbort i 1 (refvReason r a b (some s.dev.cal.refvStart)) ((s.dev.put CAL_REFV_UV_V a).put CAL_BANDGAP_UV_V b))) ∧ e.cal.measuring = none)) ∧
  (∀ (s : State) (r : Nat) (a : Nat) (b : Nat) (m : CalMeas) (i : Nat),
    s.live → s.dev.cal.measuring = some i → s.dev.cal.quietWait = false → refvReason r a b (some s.dev.cal.refvStart) = 0 → 80 ≤ i → m.gain.natAbs ≤ 10000 →
    Completes (.calMeasureDone r a b m) s (fun e =>
    e = settle (Sys2Proof.Machine.calResultApply i (Dev.calSync (((s.dev.put CAL_REFV_UV_V a).put CAL_BANDGAP_UV_V b).onCal (fun u => { u with measuring := none, quietWait := false, refvFails := 0, results := u.results ++ [{ item := i, kind := 0, m := m }] })))) ∧ e.cal.measuring = none)) ∧
  (∀ (s : State) (i : Fin 88),
    s.live → s.dev.calNow i = true →
    Completes (.calResultApply i) s (fun e =>
    e = settle (Dev.calApplyAt (· == i.val) s.dev))) ∧
  (∀ (s : State) (i : Nat),
    s.live → s.dev.cal.measuring = some i → s.dev.cal.quietWait = true →
    Completes (.calQuietTimeout) s (fun e =>
    e = settle (s.dev.calAbort i 1 3) ∧ e.cal.measuring = none)) ∧
  (∀ (s : State) (r : Nat) (a : Nat) (b : Nat),
    s.live → refvReason r a b none = 0 → s.dev.flag CAL_STATUS_REFV_BAD = true →
    Completes (.refvRecheck r a b) s (fun e =>
    e.flag CAL_STATUS_REFV_BAD = false ∧ e.get CAL_REFV_UV_V = a % 2 ^ 32 ∧ e.get CAL_BANDGAP_UV_V = b % 2 ^ 32 ∧ keepsRegs [CAL_STATUS, CAL_REFV_UV, CAL_BANDGAP_UV] s.dev e ∧ keepsMem s.dev e)) ∧
  (∀ (s : State) (t : Int) (l : List Int),
    s.live → s.dev.mode ≠ 0 → s.dev.flag CAL_CTRL_AUTO_TEMP = false → -2048 ≤ t → t < 2048 →
    Completes (.internalSensorReading t l) s (fun e =>
    e.getI HAR_TEMP_V = t ∧ e.flag HAR_STATUS_HOT = decide (2000 ≤ t) ∧ e.getI (TSk_TEMP_TEMP 6) = sgn 12 (unsgn 12 (nth 0 l 6)) ∧ keepsMem s.dev e)) ∧
  (∀ (s : State) (p : Fin 8),
    s.live → bitOf (s.dev.get FAR_SENSOR_STATUS_FAILED) p = true →
    Completes (.sensorFailure p) s (fun e =>
    e = settle s.dev ∧ keepsRegs [] s.dev e ∧ keepsMem s.dev e)) ∧
  (∀ (s : State) (p : Fin 8),
    s.live → bitOf (s.dev.get FAR_SENSOR_STATUS_FAILED) p = false → bitOf (s.dev.get FAR_SENSOR_STATUS_IN_USE) p = false →
    Completes (.sensorFailure p) s (fun e =>
    e = settle (Dev.farRetire { cls := 6, trig := 5, inst := p } p ((s.dev.put FAR_SENSOR_STATUS_FAILED (Nat.lor (s.dev.get FAR_SENSOR_STATUS_FAILED) (2 ^ p.val))).inc (FAR_TRIGk_V 5)))))

/-- The calibration record and the farrier's log. From every state in which the functional logic is not halted, each of calStoreGo, calAutoStore, calStoreEraseDone, calStoreProgramDone, calStoreCommitDone, farrierLogWrite, farDecline completes: exec answers a next state, whose queue is the one given and whose block is the command's own effect on the block it found. Further clauses, each under hypotheses of its own on the state and the operands, say what then holds. calStoreGo: CAL_STORE_STATUS_STATE. calAutoStore: CAL_STORE_STATUS_STATE, cal.dirtyAt; the frame of the registers. calStoreEraseDone: CAL_STORE_STATUS_STATE, flash; the frame of the registers. calStoreProgramDone: CAL_STORE_STATUS_STATE, CAL_SLOTA_SEQ, CAL_SLOTA_UNCOMMITTED, flash; the frame of the registers. calStoreCommitDone: CAL_STORE_STATUS_STATE, CAL_STORE_STATUS_DIRTY, CAL_STORE_STATUS_SLOT, CAL_SLOTB_VALID, CAL_SLOTB_UNCOMMITTED, CAL_COUNTk, flash, CAL_EVT_STATUS. farrierLogWrite: far.logQueue, FAR_STATUS_LOG_ERROR, FAR_LOG_SEQ, FAR_LOG_STATUS_ENTRIES; the frame of the registers. farDecline: FAR_DECLINE_COUNT, the request. Rests on R494, R497, R501. -/
def Obligations.CalStore : Prop :=
  (∀ (s : State),
    s.dev.halted = false → Completes (.calStoreGo) s (fun e => e = settle ((Dev.pcie (.reg CAL_STORE_CTRL (2 ^ 31)) (calStoreWrite (2 ^ 31))) s.dev))) ∧
  (∀ (s : State),
    s.dev.halted = false → Completes (.calAutoStore) s (fun e => e = settle (calAutoStore s.dev))) ∧
  (∀ (s : State),
    s.dev.halted = false → Completes (.calStoreEraseDone) s (fun e => e = settle (calEraseDone s.dev))) ∧
  (∀ (s : State) (ok : Bool),
    s.dev.halted = false → Completes (.calStoreProgramDone ok) s (fun e => e = settle ((calProgramDone ok) s.dev))) ∧
  (∀ (s : State) (ok : Bool),
    s.dev.halted = false → Completes (.calStoreCommitDone ok) s (fun e => e = settle ((calCommitDone ok) s.dev))) ∧
  (∀ (s : State) (ok : Bool),
    s.dev.halted = false → Completes (.farrierLogWrite ok) s (fun e => e = settle ((farrierLogWrite ok) s.dev))) ∧
  (∀ (s : State) (k : Fin 16),
    s.dev.halted = false → Completes (.farDecline k) s (fun e => e = settle ((Dev.pcie (.reg FAR_DECLINE k) (farDeclineWrite k)) s.dev))) ∧
  (∀ (s : State),
    s.takes CAL_STORE_CTRL (2 ^ 31) → (s.dev.mode = 3 ∨ s.dev.mode = 4) → s.dev.itemsIn 2 = [] → s.dev.get CAL_STORE_STATUS_STATE = 0 →
    Completes (.calStoreGo) s (fun e =>
    e.get CAL_STORE_STATUS_STATE = 1 ∧ keepsMem s.dev e)) ∧
  (∀ (s : State),
    s.live → s.dev.flag CAL_CTRL_AUTO_STORE = false →
    Completes (.calAutoStore) s (fun e =>
    e = settle s.dev ∧ keepsRegs [] s.dev e ∧ keepsMem s.dev e)) ∧
  (∀ (s : State),
    s.live → s.dev.flag CAL_CTRL_AUTO_STORE = true → s.dev.flag CAL_STORE_STATUS_DIRTY = true → s.dev.cal.dirtyAt + s.dev.get CAL_CTRL_STORE_MIN * 60000000000 ≤ (s.dev.tb 3).total → (s.dev.mode = 3 ∨ s.dev.mode = 4) → s.dev.itemsIn 2 = [] → s.dev.get CAL_STORE_STATUS_STATE = 0 →
    Completes (.calAutoStore) s (fun e =>
    e.get CAL_STORE_STATUS_STATE = 1 ∧ e.cal.dirtyAt = (s.dev.tb 3).total ∧ keepsMem s.dev e)) ∧
  (∀ (s : State),
    s.live → s.dev.get CAL_STORE_STATUS_STATE = 1 →
    Completes (.calStoreEraseDone) s (fun e =>
    e.get CAL_STORE_STATUS_STATE = 2 ∧ e.flash = s.dev.flash.filter (fun c => c.1 < slotAddr s.dev.cal.slot || decide (slotAddr s.dev.cal.slot + 65536 ≤ c.1)) ∧ keepsRegs [CAL_STORE_STATUS] s.dev e ∧ keepsMem s.dev e)) ∧
  (∀ (s : State),
    s.live → s.dev.get CAL_STORE_STATUS_STATE = 2 → s.dev.cal.slot = 0 →
    Completes (.calStoreProgramDone true) s (fun e =>
    e.get CAL_STORE_STATUS_STATE = 3 ∧ e.get CAL_SLOTA_SEQ = s.dev.storeSeq ∧ e.flag CAL_SLOTA_UNCOMMITTED = true ∧ e.flash = (s.dev.flashStore 0x0C00000 (s.dev.calRecord s.dev.storeSeq)).flash ∧ keepsRegs [CAL_STORE_STATUS, CAL_SLOTA] s.dev e ∧ keepsMem s.dev e)) ∧
  (∀ (s : State),
    s.live → s.dev.get CAL_STORE_STATUS_STATE = 3 → s.dev.cal.slot = 1 →
    Completes (.calStoreCommitDone true) s (fun e =>
    e.get CAL_STORE_STATUS_STATE = 0 ∧ e.flag CAL_STORE_STATUS_DIRTY = false ∧ e.get CAL_STORE_STATUS_SLOT = 2 ∧ e.flag CAL_SLOTB_VALID = true ∧ e.flag CAL_SLOTB_UNCOMMITTED = false ∧ e.get (CAL_COUNTk_V 9) = min (s.dev.get (CAL_COUNTk_V 9) + 1) (2 ^ 32 - 1) ∧ e.flash = (s.dev.flashStore (0x0C10000 + 4092) (leBytes 4 0xA55A0001)).flash)) ∧
  (∀ (s : State),
    s.live → s.dev.get CAL_STORE_STATUS_STATE = 3 →
    Completes (.calStoreCommitDone false) s (fun e =>
    e.get CAL_STORE_STATUS_STATE = 4 ∧ e.get (CAL_COUNTk_V 10) = min (s.dev.get (CAL_COUNTk_V 10) + 1) (2 ^ 32 - 1) ∧ bitOf (e.word CAL_EVT_STATUS) 5 = true)) ∧
  (∀ (s : State) (x : FarLog) (l : List FarLog),
    s.live → s.dev.far.logQueue = x :: l → s.dev.get FAR_LOG_STATUS_ENTRIES < 32768 →
    Completes (.farrierLogWrite true) s (fun e =>
    e.far.logQueue = l ∧ e.flag FAR_STATUS_LOG_ERROR = false ∧ e.get FAR_LOG_SEQ_V = (s.dev.get FAR_LOG_SEQ_V + 1) % 2 ^ 32 ∧ e.get FAR_LOG_STATUS_ENTRIES = s.dev.get FAR_LOG_STATUS_ENTRIES + 1 ∧ keepsRegs [FAR_STATUS, FAR_LOG_SEQ, FAR_LOG_STATUS] s.dev e ∧ keepsMem s.dev e)) ∧
  (∀ (s : State) (l : List FarLog),
    s.live → s.dev.far.logQueue = [] → l = [] →
    Completes (.farrierLogWrite true) s (fun e =>
    e = settle s.dev ∧ keepsRegs [] s.dev e ∧ keepsMem s.dev e)) ∧
  (∀ (s : State) (k : Fin 16),
    s.takes FAR_DECLINE k → s.dev.askValid k = true →
    Completes (.farDecline k) s (fun e =>
    e = settle (Dev.farLog (s.dev.askRequest k) 0 3 (Dev.inc (Dev.askClear k (s.dev.writePlain FAR_DECLINE k)) FAR_DECLINE_COUNT_V)) ∧ e.get FAR_DECLINE_COUNT_V = min (s.dev.get FAR_DECLINE_COUNT_V + 1) (2 ^ 32 - 1) ∧ e.askValid k = false))

/-- The instructions of the test access port. From every state in which the functional logic is not halted, each of girthTestLoopDone, testSnap completes, and from every state each of tapReset, jtagBypass, jtagIdcode, samplePreload, extest, extestPulse, extestTrain, clamp, highz, mbistRun, mbistDone, girthTest, leaveIntrusive: exec answers a next state, whose queue is the one given and whose block is the command's own effect on the block it found. Further clauses, each under hypotheses of its own on the state and the operands, say what then holds. tapReset: tap.ir, tap.refused, TEST_IR_CODE, TEST_IR_REFUSED; the frame of the registers. jtagBypass: tap.ir, what is sent; the frame of the registers. jtagIdcode: tap.ir, what is sent; the frame of the registers. samplePreload: tap.ir, tap.bsr, what is sent; the frame of the registers. extest: tap.ir, halted, tap.bsr, what is sent, TEST_IR_REFUSED, TEST_REFUSED_COUNT; the frame of the registers. extestPulse: tap.ir, halted, tap.bsr, what is sent; the frame of the registers. extestTrain: tap.ir, halted, tap.bsr, what is sent; the frame of the registers. clamp: tap.ir, halted, what is sent; the frame of the registers. highz: tap.ir, halted, pins.level, what is sent; the frame of the registers. mbistRun: tap.ir, halted, tap.running, tap.mbist; the frame of the registers. mbistDone: tap.mbist, tap.running, TEST_MBIST_HI_RESULT_HI, far, engines. girthTest: tap.ir, tap.girth, TEST_GIRTHg_VALID, halted. girthTestLoopDone: TEST_GIRTHg_MOHM, TEST_GIRTHg_VALID, tap.girth; the frame of the registers. leaveIntrusive: mode, TOP_RESET_CAUSE_LAST, tap.ir, halted, memory. testSnap: TEST_SNAP_TIME, TEST_BSR_SNAPk. Rests on R579, R580, R581, R582, R583, R584, R587, R588, R589. -/
def Obligations.TestInstructions : Prop :=
  (∀ (s : State),
    Completes (.tapReset) s (fun e => e = settle (tapReset s.dev))) ∧
  (∀ (s : State) (n : Nat) (tdi : Nat),
    Completes (.jtagBypass n tdi) s (fun e => e = settle ((fun d => d.tapRun 0xFF (bypassScan n tdi)) s.dev))) ∧
  (∀ (s : State),
    Completes (.jtagIdcode) s (fun e => e = settle ((fun d => d.tapRun 1 (fun t => t.send (.jtag 1 0x296409AB))) s.dev))) ∧
  (∀ (s : State) (pins data : BitVec 431),
    Completes (.samplePreload pins data) s (fun e => e = settle ((fun d => d.tapRun 2 (boundaryScan pins.toNat data.toNat)) s.dev))) ∧
  (∀ (s : State) (pins data : BitVec 431),
    Completes (.extest pins data) s (fun e => e = settle ((extest 3 pins.toNat data.toNat) s.dev))) ∧
  (∀ (s : State) (pins data : BitVec 431),
    Completes (.extestPulse pins data) s (fun e => e = settle ((extestPulse pins.toNat data.toNat) s.dev))) ∧
  (∀ (s : State) (pins data : BitVec 431) (n : Nat),
    Completes (.extestTrain pins data n) s (fun e => e = settle ((extestTrain pins.toNat data.toNat n) s.dev))) ∧
  (∀ (s : State) (n : Nat) (tdi : Nat),
    Completes (.clamp n tdi) s (fun e => e = settle ((fun d => d.tapRun 6 (fun t => bypassScan n tdi t.drives)) s.dev))) ∧
  (∀ (s : State) (n : Nat) (tdi : Nat),
    Completes (.highz n tdi) s (fun e => e = settle ((highz n tdi) s.dev))) ∧
  (∀ (s : State),
    Completes (.mbistRun) s (fun e => e = settle (mbistRun s.dev))) ∧
  (∀ (s : State) (rows : List Nat) (engines : BitVec 28),
    Completes (.mbistDone rows engines) s (fun e => e = settle ((mbistDone rows engines.toNat) s.dev))) ∧
  (∀ (s : State),
    Completes (.girthTest) s (fun e => e = settle (girthTest s.dev))) ∧
  (∀ (s : State) (g : Fin 4) (mohm mv : Nat) (vbias : Bool),
    s.dev.halted = false → Completes (.girthTestLoopDone g mohm mv vbias) s (fun e => e = settle ((girthLoopDone g mohm mv vbias) s.dev))) ∧
  (∀ (s : State),
    Completes (.leaveIntrusive) s (fun e => e = settle ((fun d => if d.halted then d.tapLoad 0xFF else d) s.dev))) ∧
  (∀ (s : State) (pins : BitVec 431),
    s.dev.halted = false → Completes (.testSnap pins) s (fun e => e = settle ((Dev.pcie (.reg TEST_CTRL 1) (testSnapWrite 1 pins.toNat)) s.dev))) ∧
  (∀ (s : State),
    s.dev.tapLive = true → s.dev.halted = false →
    Completes (.tapReset) s (fun e =>
    e.tap.ir = 1 ∧ e.tap.refused = false ∧ e.get TEST_IR_CODE = 1 ∧ e.flag TEST_IR_REFUSED = false ∧ keepsRegs [TEST_STATUS, TEST_IR] s.dev e ∧ keepsMem s.dev e)) ∧
  (∀ (s : State) (n : Nat) (x : Nat),
    s.dev.tapLive = true → s.dev.halted = false →
    Completes (.jtagBypass n x) s (fun e =>
    e.tap.ir = 0xFF ∧ e.sent = .jtag 0xFF (x * 2 % 2 ^ n) :: .jtagIr s.dev.tapCapture :: s.dev.sent ∧ keepsRegs [TEST_STATUS, TEST_IR, TEST_TAP_COUNT] s.dev e ∧ keepsMem s.dev e)) ∧
  (∀ (s : State),
    s.dev.tapLive = true → s.dev.halted = false →
    Completes (.jtagIdcode) s (fun e =>
    e.tap.ir = 1 ∧ e.sent = .jtag 1 0x296409AB :: .jtagIr s.dev.tapCapture :: s.dev.sent ∧ keepsRegs [TEST_STATUS, TEST_IR, TEST_TAP_COUNT] s.dev e ∧ keepsMem s.dev e)) ∧
  (∀ (s : State) (p : BitVec 431) (x : BitVec 431),
    s.dev.tapLive = true → s.dev.halted = false →
    Completes (.samplePreload p x) s (fun e =>
    e.tap.ir = 2 ∧ e.tap.bsr = x.toNat ∧ e.sent = .jtag 2 p.toNat :: .jtagIr s.dev.tapCapture :: s.dev.sent ∧ keepsRegs [TEST_STATUS, TEST_IR, TEST_TAP_COUNT] s.dev e ∧ keepsMem s.dev e)) ∧
  (∀ (s : State) (p : BitVec 431) (x : BitVec 431),
    s.dev.tapLive = true → s.dev.tapOpen = true → s.dev.halted = false →
    Completes (.extest p x) s (fun e =>
    e.tap.ir = 3 ∧ e.halted = true ∧ e.tap.bsr = x.toNat ∧ e.sent = .cells x.toNat :: .jtag 3 p.toNat :: .cells s.dev.tap.bsr :: .jtagIr s.dev.tapCapture :: s.dev.sent ∧ keepsRegs [TEST_STATUS, TEST_IR, TEST_TAP_COUNT] s.dev e ∧ keepsMem s.dev e)) ∧
  (∀ (s : State) (p : BitVec 431) (x : BitVec 431),
    s.dev.tapLive = true → s.dev.tapOpen = false → s.dev.halted = false →
    Completes (.extest p x) s (fun e =>
    e.tap.ir = 0xFF ∧ e.flag TEST_IR_REFUSED = true ∧ e.get TEST_REFUSED_COUNT_V = min (s.dev.get TEST_REFUSED_COUNT_V + 1) (2 ^ 32 - 1) ∧ e.halted = false ∧ keepsMem s.dev e)) ∧
  (∀ (s : State) (p : BitVec 431) (x : BitVec 431),
    s.dev.tapLive = true → s.dev.tapOpen = true → s.dev.halted = false →
    Completes (.extestPulse p x) s (fun e =>
    e.tap.ir = 4 ∧ e.halted = true ∧ e.tap.bsr = x.toNat ∧ e.sent.take 2 = [.cells x.toNat, .cells (acFlipped x.toNat)] ∧ keepsRegs [TEST_STATUS, TEST_IR, TEST_TAP_COUNT] s.dev e)) ∧
  (∀ (s : State) (p : BitVec 431) (x : BitVec 431) (n : Nat),
    s.dev.tapLive = true → s.dev.tapOpen = true → s.dev.halted = false →
    Completes (.extestTrain p x n) s (fun e =>
    e.tap.ir = 5 ∧ e.halted = true ∧ e.tap.bsr = x.toNat ∧ e.sent.length = s.dev.sent.length + n + 4 ∧ keepsRegs [TEST_STATUS, TEST_IR, TEST_TAP_COUNT] s.dev e)) ∧
  (∀ (s : State) (n : Nat) (x : Nat),
    s.dev.tapLive = true → s.dev.tapOpen = true → s.dev.halted = false →
    Completes (.clamp n x) s (fun e =>
    e.tap.ir = 6 ∧ e.halted = true ∧ e.sent = .jtag 6 (x * 2 % 2 ^ n) :: .cells s.dev.tap.bsr :: .jtagIr s.dev.tapCapture :: s.dev.sent ∧ keepsRegs [TEST_STATUS, TEST_IR, TEST_TAP_COUNT] s.dev e)) ∧
  (∀ (s : State) (n : Nat) (x : Nat),
    s.dev.tapLive = true → s.dev.tapOpen = true → s.dev.halted = false →
    Completes (.highz n x) s (fun e =>
    e.tap.ir = 7 ∧ e.halted = true ∧ e.pins.level = List.replicate 48 .hiz ∧ e.sent = .jtag 7 (x * 2 % 2 ^ n) :: .jtagIr s.dev.tapCapture :: s.dev.sent ∧ keepsRegs [TEST_STATUS, TEST_IR, TEST_TAP_COUNT] s.dev e)) ∧
  (∀ (s : State),
    s.dev.tapLive = true → s.dev.tapOpen = true → s.dev.halted = false →
    Completes (.mbistRun) s (fun e =>
    e.tap.ir = 0x20 ∧ e.halted = true ∧ e.tap.running = true ∧ e.tap.mbist = 0 ∧ keepsRegs [TEST_STATUS, TEST_IR, TEST_TAP_COUNT] s.dev e)) ∧
  (∀ (s : State) (l : List Nat) (x : BitVec 28),
    s.dev.tap.ir = 0x20 → s.dev.tap.running = true → l = [0, 0, 0, 0] → x = 0 →
    Completes (.mbistDone l x) s (fun e =>
    e.tap.mbist = 2 ^ 47 ∧ e.tap.running = false ∧ e.get TEST_MBIST_HI_RESULT_HI = 2 ^ 15 ∧ e.far = s.dev.far ∧ e.engines = s.dev.engines ∧ keepsMem s.dev e)) ∧
  (∀ (s : State),
    s.dev.tapLive = true → s.dev.halted = false →
    Completes (.girthTest) s (fun e =>
    e.tap.ir = 0x21 ∧ e.tap.girth = some 0 ∧ (∀ g : Fin 4, e.flag (TEST_GIRTHg_VALID g) = false) ∧ e.halted = false ∧ keepsMem s.dev e)) ∧
  (∀ (s : State) (g : Fin 4) (m : Nat) (mv : Nat) (vb : Bool),
    s.live → s.dev.tap.girth = some g.val → g.val < 3 →
    Completes (.girthTestLoopDone g m mv vb) s (fun e =>
    e.get (TEST_GIRTHg_MOHM g) = (if vb then min m 0xFFFFFF else 0xFFFFFF) ∧ e.flag (TEST_GIRTHg_VALID g) = true ∧ e.tap.girth = some (g.val + 1) ∧ keepsRegs [TEST_GIRTHg g, TEST_GIRTHg_FORCE_MV g] s.dev e ∧ keepsMem s.dev e)) ∧
  (∀ (s : State),
    s.dev.halted = true →
    Completes (.leaveIntrusive) s (fun e =>
    e.mode = 1 ∧ e.get TOP_RESET_CAUSE_LAST = 5 ∧ e.tap.ir = 0xFF ∧ e.halted = false ∧ e.mem = [])) ∧
  (∀ (s : State) (p : BitVec 431),
    s.takes TEST_CTRL 1 →
    Completes (.testSnap p) s (fun e =>
    e.get TEST_SNAP_TIME_V = s.dev.nsc32 0 % 2 ^ 32 ∧ (∀ k : Fin 14, e.get (TEST_BSR_SNAPk_V k) = bitsOf p.toNat (32 * k) 32) ∧ keepsMem s.dev e))

/-- A step runs the command in front of the queue. With a command at the front of the queue, a step is exec of that command on the state with the rest of the queue. With an empty queue it is one tick of the clock, which is the model's own choice (assumption 3). Rests on 01_architecture.md, 03_time_and_scheduler.md. -/
def Obligations.StepRunsFrontCommand : Prop :=
  (∀ (c : Instr) (q : List Instr) (d : Dev), step { pending := c :: q, dev := d } = exec c { pending := q, dev := d }) ∧
  ∀ d : Dev, step { pending := [], dev := d } = State.on { pending := [], dev := d } tick

/-- Every step answers a next state and takes one command. From every state a step answers a next state, whose queue is the queue without its front. Rests on 00_scope.md, 01_architecture.md. -/
def Obligations.EveryStepAnswers : Prop :=
  ∀ s : State, ∃ t, step s = .next t ∧ t.pending = s.pending.tail

/-- Every command completes from every state. For every command and every state, exec answers a next state whose queue is the one given: no command of the model ends in a fault or a refusal. Rests on 00_scope.md, 01_architecture.md. -/
def Obligations.EveryCommandCompletes : Prop :=
  ∀ (c : Instr) (s : State), ∃ t, exec c s = .next t ∧ t.pending = s.pending

/-- The state right after reset. Right after reset no command waits, the mode is INIT, every register holds its reset word, no memory holds a listed cell, and the mode agrees with the heads. What an unlisted byte reads as is the model's choice (assumption 1). Rests on R16, R28, R535. -/
def Obligations.ResetState : Prop :=
  State.reset.pending = [] ∧ State.reset.dev.mode = 1 ∧ (∀ r : Nat, State.reset.dev.word r = (resetWord r).toNat) ∧
  Memory.wf State.reset.dev.mem ∧ Memory.wf State.reset.dev.hostMem ∧ (∀ a : Nat, State.reset.dev.byteAt a = 0) ∧ State.reset.dev.modeAgrees

/-- Every step keeps the mode in agreement with the heads. In READY no head scans and in RUN some head does (R17, R19): from every state where that holds, every step that answers a next state leads to one where it holds, whatever command is taken. Rests on R16, R17, R19. -/
def Obligations.ModeFollowsHeads : Prop :=
  ∀ s t : State, s.dev.modeAgrees → step s = .next t → t.dev.modeAgrees

/-- While an intrusive test instruction is in force, only resets and the test access port act. While the functional logic is halted, every command but those of the test access port and the reset sources answers the state that it was given. Rests on R580, R582. -/
def Obligations.HaltedLogicDoesNothing : Prop :=
  ∀ (c : Instr) (s : State), s.dev.halted = true → c.actsHalted = false → exec c s = .next s

/-- A rejected register write changes no register and is counted. A register write that sets a reserved bit, gives a field an illegal value, reaches an unassigned offset or a block that the mode closes, or reaches a register of a sealed set, changes no register but the reject count and address, and the seal's own count; no memory; and no other part of the block. The count goes up by one and saturates. One command is one write, so the case of two writes in one cycle does not arise. Rests on R4, R5, R6, R16, R266. -/
def Obligations.RejectedWriteChangesNothing : Prop :=
  ∀ (s : State) (r : Fin 1048576) (v : Word), s.hostLive → s.dev.mode ≠ 0 → (s.dev.writeOk r v.toNat = false ∨ (s.dev.sealedHead r).isSome = true) →
  Completes (.registerWrite r v true) s (fun e =>
    e.get TOP_REJECT_COUNT_V = min (s.dev.get TOP_REJECT_COUNT_V + 1) (2 ^ 32 - 1) ∧ e.get TOP_REJECT_ADDR_V = r ∧
    keepsRegs ([TOP_REJECT_COUNT, TOP_REJECT_ADDR] ++ (List.range 8).map HDn_SEAL_REJECT_COUNT) s.dev e ∧ keepsMem s.dev e ∧
    { e with regs := s.dev.regs, power := s.dev.power } = s.dev)

/-- What a register write does to each field, by its access type. A write that a register of the FABRIC block takes leaves an RO field as it was, puts the written bits into an RW or RWS field, clears the bits of a W1C field that are written 1, and leaves a WO field 0; every other register, what is applied and memory stay. Rests on R3, R4, R266. -/
def Obligations.RegisterFieldAccessTypes : Prop :=
  ∀ (s : State) (r : Fin 1048576) (v : Word) (p : RegSpec), specOf r = some p → 0x10000 ≤ r.val → r.val < 0x20000 → s.takes r v.toNat →
  s.dev.sealedHead r = none → Dev.fabricWriteOk r v.toNat s.dev = true →
  Completes (.registerWrite r v true) s (fun e =>
    (∀ f ∈ p.fields, bitsOf (e.word r) f.lo f.w =
      match f.acc with
      | .ro => bitsOf (s.dev.word r) f.lo f.w
      | .rw => bitsOf v.toNat f.lo f.w
      | .rws => bitsOf v.toNat f.lo f.w
      | .w1c => Nat.land (bitsOf (s.dev.word r) f.lo f.w) (2 ^ f.w - 1 - bitsOf v.toNat f.lo f.w)
      | .wo => 0) ∧
    keepsRegs [r.val] s.dev e ∧ e.applied = s.dev.applied ∧ keepsMem s.dev e)

/-- An unassigned offset reads 0 and rejects writes. A host read of an unassigned offset inside the register space, through BAR2 wherever its window lies on it, returns 0 and changes no register and no memory. A write to such an offset is an out-of-range write: it is rejected, counted and captured, and changes nothing else. Formalises R6. -/
def Obligations.UnassignedOffset : Prop :=
  ∀ (s : State) (r : Fin 1048576) (v : Word), s.hostLive → s.dev.mode ≠ 0 → specOf r = none →
  (∀ a : BitVec 28, r.val % 4 = 0 → s.dev.bar2 a.toNat = 0x7F00000000 + r.val → Completes (.hostMemoryRead ⟨.bar2, a⟩ 4 {}) s (fun e =>
    e.sent = .completion false [0] :: s.dev.sent ∧ keepsRegs [] s.dev e ∧ keepsMem s.dev e)) ∧
  Completes (.registerWrite r v true) s (fun e =>
    e.get TOP_REJECT_COUNT_V = min (s.dev.get TOP_REJECT_COUNT_V + 1) (2 ^ 32 - 1) ∧ e.get TOP_REJECT_ADDR_V = r ∧
    keepsRegs [TOP_REJECT_COUNT, TOP_REJECT_ADDR] s.dev e ∧ keepsMem s.dev e)

/-- IDCODE returns 0x296409AB. The IDCODE instruction shifts out 0x2964_09AB, whose version field is 0x2, whose part number is 0x9640 and whose manufacturer code is 0x4D5. Formalises R581. -/
def Obligations.IdcodeValue : Prop :=
  ∀ s : State, s.dev.tapLive = true → s.live → Completes .jtagIdcode s (fun e =>
  ∃ x : Nat, e.sent = .jtag 1 x :: .jtagIr s.dev.tapCapture :: s.dev.sent ∧ x = 0x296409AB ∧
    bitsOf x 28 4 = 2 ∧ bitsOf x 12 16 = 0x9640 ∧ bitsOf x 1 11 = 0x4D5)

/-- In RETACK, a second request is rejected and the first continues. In RETACK, RETACK_START of any head, and a write of TACK_RT_CONTROL with START set, are rejected and counted under R5; the mode stays RETACK, and no register, no part of the re-tack in progress, no head and no memory changes. Formalises R21. -/
def Obligations.SecondRetackRejected : Prop :=
  ∀ s : State, s.hostLive → s.dev.mode = 5 →
  (∀ h : Fin 8, Completes (.retackStart h) s (fun e =>
    e.mode = 5 ∧ e.get TOP_REJECT_COUNT_V = min (s.dev.get TOP_REJECT_COUNT_V + 1) (2 ^ 32 - 1) ∧ e.get TOP_REJECT_ADDR_V = TACK_RT_CONTROL ∧
    keepsRegs [TOP_REJECT_COUNT, TOP_REJECT_ADDR] s.dev e ∧ e.tack = s.dev.tack ∧ e.heads = s.dev.heads ∧ keepsMem s.dev e)) ∧
  ∀ v : Word, bitOf v.toNat 8 = true → Completes (.registerWrite ⟨TACK_RT_CONTROL, by decide⟩ v true) s (fun e =>
    e.mode = 5 ∧ e.get TOP_REJECT_COUNT_V = min (s.dev.get TOP_REJECT_COUNT_V + 1) (2 ^ 32 - 1) ∧ e.get TOP_REJECT_ADDR_V = TACK_RT_CONTROL ∧
    keepsRegs [TOP_REJECT_COUNT, TOP_REJECT_ADDR] s.dev e ∧ e.tack = s.dev.tack ∧ e.heads = s.dev.heads ∧ keepsMem s.dev e)

/-- Loss of PE_REFCLK takes down the PCIe link only. Loss of PE_REFCLK takes the PCIe link down; the mode is unchanged and the SPI target stays available; and no register outside the HOST block changes but TOP_REFCLK_STATUS: no head, stream, lane, link, time base, panel or memory. Formalises R27. -/
def Obligations.PeRefclkLossTakesPcieOnly : Prop :=
  ∀ s : State, s.live → s.dev.modeAgrees → Completes .peRefclkLost s (fun e =>
  e.get HOST_STATUS_LINK_UP = 0 ∧ e.mode = s.dev.mode ∧ e.spiOn = s.dev.spiOn ∧ e.islandOnly = s.dev.islandOnly ∧
  (∀ r : Nat, r < 0x60000 ∨ 0x68000 ≤ r → r ≠ TOP_REFCLK_STATUS → e.word r = s.dev.word r) ∧ e.heads = s.dev.heads ∧ e.streams = s.dev.streams ∧
  e.lanes = s.dev.lanes ∧ e.links = s.dev.links ∧ e.time = s.dev.time ∧ e.harn = s.dev.harn ∧ e.mem = s.dev.mem)
end

