-- ==== Sys2Proof/Laws/Cells.lean ====
section
/-! SUPPORT. Laws of the sparse cells: what a lookup gives after a write, and the canonical form that every operation on a memory
keeps. -/
namespace Sys2Proof.Machine

theorem cellFind_cellPut {β : Type} (l : List (Nat × β)) (a : Nat) (b : β) (x : Nat) :
    cellFind (cellPut l a b) x = if a = x then some b else cellFind l x := by
  induction l with
  | nil => simp [cellPut, cellFind]
  | cons p r ih =>
    obtain ⟨y, c⟩ := p
    by_cases h1 : a < y
    · simp [cellPut, cellFind, h1]
    · by_cases h2 : a = y
      · subst h2; by_cases h3 : a = x <;> simp [cellPut, cellFind, h3]
      · by_cases h3 : y = x
        · subst h3; simp [cellPut, cellFind, h1, h2]
        · simp [cellPut, cellFind, h1, h2, h3, ih]

theorem cellFind_cellDel {β : Type} (l : List (Nat × β)) (a x : Nat) :
    cellFind (cellDel l a) x = if a = x then none else cellFind l x := by
  induction l with
  | nil => simp [cellDel, cellFind]
  | cons p r ih =>
    obtain ⟨y, c⟩ := p
    simp only [cellDel] at ih
    by_cases h1 : y = a
    · subst h1; by_cases h2 : y = x <;> simp_all [cellDel, cellFind]
    · by_cases h2 : y = x
      · subst h2; simp [cellDel, cellFind, h1, Ne.symm h1]
      · simp [cellDel, cellFind, h1, h2, ih]

/-- A lookup after a write, read with the default of the written key. -/
theorem cellFind_cellSet_same {β : Type} [DecidableEq β] (d : β) (l : List (Nat × β)) (a : Nat) (b : β) :
    (cellFind (cellSet d l a b) a).getD d = b := by
  unfold cellSet
  split
  · next h => simp [cellFind_cellDel, h]
  · simp [cellFind_cellPut]

/-- A write leaves the lookup of every other key alone. -/
theorem cellFind_cellSet_other {β : Type} [DecidableEq β] (d : β) (l : List (Nat × β)) (a : Nat) (b : β) (x : Nat) (h : a ≠ x) :
    cellFind (cellSet d l a b) x = cellFind l x := by
  unfold cellSet
  split
  · simp [cellFind_cellDel, h]
  · simp [cellFind_cellPut, h]

theorem mem_cellPut {β : Type} (l : List (Nat × β)) (a : Nat) (b : β) (p : Nat × β) :
    p ∈ cellPut l a b → p = (a, b) ∨ p ∈ l := by
  induction l with
  | nil => simp [cellPut]
  | cons q r ih =>
    obtain ⟨y, c⟩ := q
    unfold cellPut
    split
    · simp
    · split
      · simp only [List.mem_cons]; rintro (h | h)
        · exact .inl h
        · exact .inr (.inr h)
      · simp only [List.mem_cons]; rintro (h | h)
        · exact .inr (.inl h)
        · rcases ih h with h | h
          · exact .inl h
          · exact .inr (.inr h)

theorem sorted_cellPut {β : Type} (l : List (Nat × β)) (a : Nat) (b : β)
    (h : l.Pairwise (fun p q => p.1 < q.1)) : (cellPut l a b).Pairwise (fun p q => p.1 < q.1) := by
  induction l with
  | nil => simp [cellPut]
  | cons q r ih =>
    obtain ⟨y, c⟩ := q
    rw [List.pairwise_cons] at h
    unfold cellPut
    split
    · next h1 =>
      refine List.pairwise_cons.2 ⟨?_, List.pairwise_cons.2 h⟩
      intro p hp
      rcases List.mem_cons.1 hp with h2 | h2
      · subst h2; exact h1
      · exact Nat.lt_trans h1 (h.1 p h2)
    · split
      · next h2 => subst h2; exact List.pairwise_cons.2 ⟨h.1, h.2⟩
      · next h1 h2 =>
        refine List.pairwise_cons.2 ⟨?_, ih h.2⟩
        intro p hp
        rcases mem_cellPut r a b p hp with h3 | h3
        · subst h3; show y < a; omega
        · exact h.1 p h3

/-- Writing one key keeps the canonical form. -/
theorem cellSet_wf {β : Type} [DecidableEq β] (d : Nat → β) (l : List (Nat × β)) (a : Nat) (b : β) (h : cellsWf d l) :
    cellsWf d (cellSet (d a) l a b) := by
  unfold cellSet
  split
  · exact ⟨h.1.filter _, fun p hp => h.2 p (List.mem_of_mem_filter hp)⟩
  · next hb =>
    refine ⟨sorted_cellPut l a b h.1, fun p hp => ?_⟩
    rcases mem_cellPut l a b p hp with h3 | h3
    · subst h3; exact hb
    · exact h.2 p h3

/-- Removing a key keeps the canonical form. -/
theorem cellDel_wf {β : Type} (d : Nat → β) (l : List (Nat × β)) (a : Nat) (h : cellsWf d l) : cellsWf d (cellDel l a) :=
  ⟨h.1.filter _, fun p hp => h.2 p (List.mem_of_mem_filter hp)⟩

/-- Keeping some of the entries keeps the canonical form. -/
theorem filter_wf {β : Type} (d : Nat → β) (l : List (Nat × β)) (f : Nat × β → Bool) (h : cellsWf d l) : cellsWf d (l.filter f) :=
  ⟨h.1.filter _, fun p hp => h.2 p (List.mem_of_mem_filter hp)⟩

/-- Storing a list of bytes keeps the canonical form of a memory. -/
theorem storeCells_wf (l : List Host.Cell) (a : Nat) (bs : List Byte) (h : Memory.wf l) : Memory.wf (storeCells l a bs) := by
  induction bs generalizing l a with
  | nil => exact h
  | cons b r ih => exact ih _ _ (cellSet_wf (fun _ => 0) l a b h)

/-- The memories of the state after reset have the canonical form. -/
theorem reset_mem_wf : Memory.wf State.reset.dev.mem ∧ Memory.wf State.reset.dev.hostMem :=
  ⟨⟨List.Pairwise.nil, by intro p hp; cases hp⟩, ⟨List.Pairwise.nil, by intro p hp; cases hp⟩⟩

/-- A store leaves every byte outside the stored ones alone. -/
theorem cellFind_storeCells_other (l : List Host.Cell) (a : Nat) (bs : List Byte) (x : Nat) (h : x < a ∨ a + bs.length ≤ x) :
    cellFind (storeCells l a bs) x = cellFind l x := by
  induction bs generalizing l a with
  | nil => rfl
  | cons b r ih =>
    simp only [List.length_cons] at h
    rw [storeCells, ih _ _ (by omega), cellFind_cellSet_other _ _ _ _ _ (by omega)]

/-- A stored byte reads back. -/
theorem cellFind_storeCells_same (l : List Host.Cell) (a : Nat) (bs : List Byte) (k : Nat) (h : k < bs.length) :
    (cellFind (storeCells l a bs) (a + k)).getD 0 = bs[k] := by
  induction bs generalizing l a k with
  | nil => exact absurd h (Nat.not_lt_zero _)
  | cons b r ih =>
    cases k with
    | zero => rw [storeCells, cellFind_storeCells_other _ _ _ _ (by omega)]; exact cellFind_cellSet_same 0 l a b
    | succ k =>
      have := ih (cellSet 0 l a b) (a + 1) k (by simpa using h)
      rw [storeCells, show a + (k + 1) = a + 1 + k by omega, this]; rfl

end Sys2Proof.Machine
end

