-- ==== Sys2Proof/Laws/Words.lean ====
section
/-! SUPPORT. Laws of register words and fields: what a field reads after a write of it, of another field and of another register. -/
namespace Sys2Proof.Machine

/-! ### Bit fields -/

theorem bitsOf_putBits_same (v lo w x : Nat) : bitsOf (putBits v lo w x) lo w = x % 2 ^ w := by
  have hw : 2 ^ lo > 0 := Nat.pow_pos (by decide)
  have h1 : v % 2 ^ lo < 2 ^ lo := Nat.mod_lt _ hw
  unfold bitsOf putBits
  rw [Nat.pow_add]
  have h2 : (v % 2 ^ lo + x % 2 ^ w * 2 ^ lo + v / (2 ^ lo * 2 ^ w) * (2 ^ lo * 2 ^ w)) / 2 ^ lo
      = x % 2 ^ w + v / (2 ^ lo * 2 ^ w) * 2 ^ w := by
    have : v % 2 ^ lo + x % 2 ^ w * 2 ^ lo + v / (2 ^ lo * 2 ^ w) * (2 ^ lo * 2 ^ w)
        = v % 2 ^ lo + 2 ^ lo * (x % 2 ^ w + v / (2 ^ lo * 2 ^ w) * 2 ^ w) := by ring
    rw [this, Nat.add_mul_div_left _ _ hw, Nat.div_eq_of_lt h1, Nat.zero_add]
  rw [h2, Nat.add_mul_mod_self_right, Nat.mod_mod]

theorem testBit_putBits (v lo w x i : Nat) :
    (putBits v lo w x).testBit i = if lo ≤ i ∧ i < lo + w then x.testBit (i - lo) else v.testBit i := by
  have e : putBits v lo w x = v % 2 ^ lo ||| (x % 2 ^ w) <<< lo ||| (v >>> (lo + w)) <<< (lo + w) := by
    unfold putBits
    rw [Nat.shiftLeft_eq, Nat.shiftRight_eq_div_pow, Nat.shiftLeft_eq]
    have h1 : v % 2 ^ lo < 2 ^ lo := Nat.mod_lt _ (Nat.pow_pos (by decide))
    have h2 : x % 2 ^ w < 2 ^ w := Nat.mod_lt _ (Nat.pow_pos (by decide))
    have h3 : v % 2 ^ lo + x % 2 ^ w * 2 ^ lo = v % 2 ^ lo ||| x % 2 ^ w * 2 ^ lo := by
      have := Nat.two_pow_add_eq_or_of_lt h1 (x % 2 ^ w)
      rw [Nat.mul_comm, Nat.add_comm, this, Nat.or_comm]
    have h4 : v % 2 ^ lo + x % 2 ^ w * 2 ^ lo < 2 ^ (lo + w) := by
      rw [Nat.pow_add]
      have : (x % 2 ^ w + 1) * 2 ^ lo ≤ 2 ^ w * 2 ^ lo := Nat.mul_le_mul_right _ h2
      rw [Nat.add_mul, Nat.one_mul, Nat.mul_comm (2 ^ w)] at this
      omega
    have h5 := Nat.two_pow_add_eq_or_of_lt h4 (v / 2 ^ (lo + w))
    rw [← h3, Nat.mul_comm (v / 2 ^ (lo + w)), Nat.add_comm, h5, Nat.or_comm]
  rw [e]
  simp only [Nat.testBit_or, Nat.testBit_mod_two_pow, Nat.testBit_shiftLeft, Nat.testBit_shiftRight]
  by_cases h1 : i < lo
  · simp [h1, show ¬ lo ≤ i by omega, show ¬ lo + w ≤ i by omega]
  · by_cases h2 : i < lo + w
    · simp [h1, h2, show lo ≤ i by omega, show i - lo < w by omega, show ¬ lo + w ≤ i by omega]
    · simp [h1, h2, show lo ≤ i by omega, show ¬ i - lo < w by omega, show lo + w ≤ i by omega,
        show lo + w + (i - (lo + w)) = i by omega]

theorem testBit_bitsOf (v lo w i : Nat) : (bitsOf v lo w).testBit i = (decide (i < w) && v.testBit (lo + i)) := by
  unfold bitsOf
  rw [← Nat.shiftRight_eq_div_pow, Nat.testBit_mod_two_pow, Nat.testBit_shiftRight]

theorem bitsOf_putBits_other (v lo w x lo' w' : Nat) (h : lo + w ≤ lo' ∨ lo' + w' ≤ lo) :
    bitsOf (putBits v lo w x) lo' w' = bitsOf v lo' w' := by
  apply Nat.eq_of_testBit_eq
  intro i
  rw [testBit_bitsOf, testBit_bitsOf, testBit_putBits]
  by_cases hi : i < w'
  · rw [if_neg (by omega)]
  · simp [hi]

theorem bitsOf_mod (v lo w n : Nat) (h : lo + w ≤ n) : bitsOf (v % 2 ^ n) lo w = bitsOf v lo w := by
  apply Nat.eq_of_testBit_eq
  intro i
  rw [testBit_bitsOf, testBit_bitsOf, Nat.testBit_mod_two_pow]
  by_cases hi : i < w
  · simp [show lo + i < n by omega]
  · simp [hi]

theorem bitsOf_lt (v lo w : Nat) : bitsOf v lo w < 2 ^ w := Nat.mod_lt _ (Nat.pow_pos (by decide))

theorem b2n_mod (b : Bool) (w : Nat) (h : 0 < w) : b2n b % 2 ^ w = b2n b := by
  have : (2 : Nat) ^ 1 ≤ 2 ^ w := Nat.pow_le_pow_right (by decide) h
  cases b
  · exact Nat.zero_mod _
  · exact Nat.mod_eq_of_lt (by simp [b2n]; omega)

/-! ### Words -/

theorem wordBv_setWord (d : Dev) (r v r' : Nat) :
    (d.setWord r v).wordBv r' = if r = r' then BitVec.ofNat 32 v else d.wordBv r' := by
  unfold Dev.wordBv Dev.setWord
  dsimp only
  split
  · next h => subst h; exact cellFind_cellSet_same _ _ _ _
  · next h => simp only [cellFind_cellSet_other _ _ _ _ _ h]

theorem word_setWord_same (d : Dev) (r v : Nat) : (d.setWord r v).word r = v % 2 ^ 32 := by
  simp [Dev.word, wordBv_setWord]

theorem word_setWord_other (d : Dev) (r v r' : Nat) (h : r ≠ r') : (d.setWord r v).word r' = d.word r' := by
  simp [Dev.word, wordBv_setWord, h]

theorem word_put_other (d : Dev) (f : Fld) (x r : Nat) (h : f.addr ≠ r) : (d.put f x).word r = d.word r :=
  word_setWord_other _ _ _ _ h

theorem get_setWord_other (d : Dev) (r v : Nat) (g : Fld) (h : r ≠ g.addr) : (d.setWord r v).get g = d.get g := by
  simp [Dev.get, word_setWord_other, h]

theorem get_setWord_same (d : Dev) (v : Nat) (g : Fld) (h : g.lo + g.w ≤ 32) : (d.setWord g.addr v).get g = bitsOf v g.lo g.w := by
  rw [Dev.get, word_setWord_same, bitsOf_mod _ _ _ _ h]

theorem get_put_same (d : Dev) (f : Fld) (x : Nat) (h : f.lo + f.w ≤ 32) : (d.put f x).get f = x % 2 ^ f.w := by
  rw [Dev.put, get_setWord_same _ _ _ h, bitsOf_putBits_same]

/-- A field whose place is another register, or other bits of the register, keeps its value. -/
theorem get_put_other (d : Dev) (f g : Fld) (x : Nat) (h : f.addr ≠ g.addr ∨ f.lo + f.w ≤ g.lo ∨ g.lo + g.w ≤ f.lo)
    (hg : g.lo + g.w ≤ 32) : (d.put f x).get g = d.get g := by
  by_cases ha : f.addr = g.addr
  · have hb := h.resolve_left (fun hn => hn ha)
    unfold Dev.put
    rw [ha, get_setWord_same _ _ _ hg, bitsOf_putBits_other _ _ _ _ _ _ hb]
    rfl
  · exact get_setWord_other _ _ _ _ ha

theorem flag_putB_same (d : Dev) (f : Fld) (b : Bool) (h : f.lo + f.w ≤ 32) (hw : 0 < f.w) : (d.putB f b).flag f = b := by
  unfold Dev.flag Dev.putB
  rw [get_put_same _ _ _ h, b2n_mod _ _ hw]
  cases b <;> rfl

theorem get_inc_same (d : Dev) (f : Fld) (h : f.lo + f.w ≤ 32) : (d.inc f).get f = min (d.get f + 1) (2 ^ f.w - 1) := by
  have : 0 < 2 ^ f.w := Nat.pow_pos (by decide)
  unfold Dev.inc Dev.addSat
  rw [get_put_same _ _ _ h, Nat.mod_eq_of_lt (by omega)]

/-- A word has 32 bits. -/
theorem word_lt (d : Dev) (r : Nat) : d.word r < 2 ^ 32 := (d.wordBv r).isLt

theorem get_lt (d : Dev) (f : Fld) : d.get f < 2 ^ f.w := bitsOf_lt _ _ _

end Sys2Proof.Machine
end

