-- ==== Sys2Proof/Laws/State.lean ====
section
/-! SUPPORT. What each update of the block leaves alone: one lemma per field of the state and update, and the reads that follow
from them. -/
namespace Sys2Proof.Machine

variable (d : Dev)

/-! ### setWord -/

@[simp] theorem setWord_applied (r v : Nat) : (d.setWord r v).applied = d.applied := by unfold Dev.setWord; rfl
@[simp] theorem setWord_mem (r v : Nat) : (d.setWord r v).mem = d.mem := by unfold Dev.setWord; rfl
@[simp] theorem setWord_hostMem (r v : Nat) : (d.setWord r v).hostMem = d.hostMem := by unfold Dev.setWord; rfl
@[simp] theorem setWord_time (r v : Nat) : (d.setWord r v).time = d.time := by unfold Dev.setWord; rfl
@[simp] theorem setWord_evt (r v : Nat) : (d.setWord r v).evt = d.evt := by unfold Dev.setWord; rfl
@[simp] theorem setWord_memu (r v : Nat) : (d.setWord r v).memu = d.memu := by unfold Dev.setWord; rfl
@[simp] theorem setWord_far (r v : Nat) : (d.setWord r v).far = d.far := by unfold Dev.setWord; rfl
@[simp] theorem setWord_streams (r v : Nat) : (d.setWord r v).streams = d.streams := by unfold Dev.setWord; rfl
@[simp] theorem setWord_heads (r v : Nat) : (d.setWord r v).heads = d.heads := by unfold Dev.setWord; rfl
@[simp] theorem setWord_tack (r v : Nat) : (d.setWord r v).tack = d.tack := by unfold Dev.setWord; rfl
@[simp] theorem setWord_lanes (r v : Nat) : (d.setWord r v).lanes = d.lanes := by unfold Dev.setWord; rfl
@[simp] theorem setWord_links (r v : Nat) : (d.setWord r v).links = d.links := by unfold Dev.setWord; rfl
@[simp] theorem setWord_ce (r v : Nat) : (d.setWord r v).ce = d.ce := by unfold Dev.setWord; rfl
@[simp] theorem setWord_engines (r v : Nat) : (d.setWord r v).engines = d.engines := by unfold Dev.setWord; rfl
@[simp] theorem setWord_pins (r v : Nat) : (d.setWord r v).pins = d.pins := by unfold Dev.setWord; rfl
@[simp] theorem setWord_harn (r v : Nat) : (d.setWord r v).harn = d.harn := by unfold Dev.setWord; rfl
@[simp] theorem setWord_halt (r v : Nat) : (d.setWord r v).halt = d.halt := by unfold Dev.setWord; rfl
@[simp] theorem setWord_cal (r v : Nat) : (d.setWord r v).cal = d.cal := by unfold Dev.setWord; rfl
@[simp] theorem setWord_power (r v : Nat) : (d.setWord r v).power = d.power := by unfold Dev.setWord; rfl
@[simp] theorem setWord_tap (r v : Nat) : (d.setWord r v).tap = d.tap := by unfold Dev.setWord; rfl
@[simp] theorem setWord_team (r v : Nat) : (d.setWord r v).team = d.team := by unfold Dev.setWord; rfl
@[simp] theorem setWord_sched (r v : Nat) : (d.setWord r v).sched = d.sched := by unfold Dev.setWord; rfl
@[simp] theorem setWord_guards (r v : Nat) : (d.setWord r v).guards = d.guards := by unfold Dev.setWord; rfl
@[simp] theorem setWord_judged (r v : Nat) : (d.setWord r v).judged = d.judged := by unfold Dev.setWord; rfl
@[simp] theorem setWord_flash (r v : Nat) : (d.setWord r v).flash = d.flash := by unfold Dev.setWord; rfl
@[simp] theorem setWord_sent (r v : Nat) : (d.setWord r v).sent = d.sent := by unfold Dev.setWord; rfl
@[simp] theorem setWord_fresh (r v : Nat) : (d.setWord r v).fresh = d.fresh := by unfold Dev.setWord; rfl
@[simp] theorem setWord_appWord (r v : Nat) (k : Nat) : (d.setWord r v).appWord k = d.appWord k := by simp [Dev.appWord]
@[simp] theorem setWord_byteAt (r v : Nat) (k : Nat) : (d.setWord r v).byteAt k = d.byteAt k := by simp [Dev.byteAt]

/-! ### setAppWord -/

@[simp] theorem setAppWord_regs (r v : Nat) : (d.setAppWord r v).regs = d.regs := by unfold Dev.setAppWord; rfl
@[simp] theorem setAppWord_mem (r v : Nat) : (d.setAppWord r v).mem = d.mem := by unfold Dev.setAppWord; rfl
@[simp] theorem setAppWord_hostMem (r v : Nat) : (d.setAppWord r v).hostMem = d.hostMem := by unfold Dev.setAppWord; rfl
@[simp] theorem setAppWord_time (r v : Nat) : (d.setAppWord r v).time = d.time := by unfold Dev.setAppWord; rfl
@[simp] theorem setAppWord_evt (r v : Nat) : (d.setAppWord r v).evt = d.evt := by unfold Dev.setAppWord; rfl
@[simp] theorem setAppWord_memu (r v : Nat) : (d.setAppWord r v).memu = d.memu := by unfold Dev.setAppWord; rfl
@[simp] theorem setAppWord_far (r v : Nat) : (d.setAppWord r v).far = d.far := by unfold Dev.setAppWord; rfl
@[simp] theorem setAppWord_streams (r v : Nat) : (d.setAppWord r v).streams = d.streams := by unfold Dev.setAppWord; rfl
@[simp] theorem setAppWord_heads (r v : Nat) : (d.setAppWord r v).heads = d.heads := by unfold Dev.setAppWord; rfl
@[simp] theorem setAppWord_tack (r v : Nat) : (d.setAppWord r v).tack = d.tack := by unfold Dev.setAppWord; rfl
@[simp] theorem setAppWord_lanes (r v : Nat) : (d.setAppWord r v).lanes = d.lanes := by unfold Dev.setAppWord; rfl
@[simp] theorem setAppWord_links (r v : Nat) : (d.setAppWord r v).links = d.links := by unfold Dev.setAppWord; rfl
@[simp] theorem setAppWord_ce (r v : Nat) : (d.setAppWord r v).ce = d.ce := by unfold Dev.setAppWord; rfl
@[simp] theorem setAppWord_engines (r v : Nat) : (d.setAppWord r v).engines = d.engines := by unfold Dev.setAppWord; rfl
@[simp] theorem setAppWord_pins (r v : Nat) : (d.setAppWord r v).pins = d.pins := by unfold Dev.setAppWord; rfl
@[simp] theorem setAppWord_harn (r v : Nat) : (d.setAppWord r v).harn = d.harn := by unfold Dev.setAppWord; rfl
@[simp] theorem setAppWord_halt (r v : Nat) : (d.setAppWord r v).halt = d.halt := by unfold Dev.setAppWord; rfl
@[simp] theorem setAppWord_cal (r v : Nat) : (d.setAppWord r v).cal = d.cal := by unfold Dev.setAppWord; rfl
@[simp] theorem setAppWord_power (r v : Nat) : (d.setAppWord r v).power = d.power := by unfold Dev.setAppWord; rfl
@[simp] theorem setAppWord_tap (r v : Nat) : (d.setAppWord r v).tap = d.tap := by unfold Dev.setAppWord; rfl
@[simp] theorem setAppWord_team (r v : Nat) : (d.setAppWord r v).team = d.team := by unfold Dev.setAppWord; rfl
@[simp] theorem setAppWord_sched (r v : Nat) : (d.setAppWord r v).sched = d.sched := by unfold Dev.setAppWord; rfl
@[simp] theorem setAppWord_guards (r v : Nat) : (d.setAppWord r v).guards = d.guards := by unfold Dev.setAppWord; rfl
@[simp] theorem setAppWord_judged (r v : Nat) : (d.setAppWord r v).judged = d.judged := by unfold Dev.setAppWord; rfl
@[simp] theorem setAppWord_flash (r v : Nat) : (d.setAppWord r v).flash = d.flash := by unfold Dev.setAppWord; rfl
@[simp] theorem setAppWord_sent (r v : Nat) : (d.setAppWord r v).sent = d.sent := by unfold Dev.setAppWord; rfl
@[simp] theorem setAppWord_fresh (r v : Nat) : (d.setAppWord r v).fresh = d.fresh := by unfold Dev.setAppWord; rfl
@[simp] theorem setAppWord_word (r v : Nat) (k : Nat) : (d.setAppWord r v).word k = d.word k := by simp [Dev.word, Dev.wordBv]
@[simp] theorem setAppWord_get (r v : Nat) (f : Fld) : (d.setAppWord r v).get f = d.get f := by simp [Dev.get]
@[simp] theorem setAppWord_flag (r v : Nat) (f : Fld) : (d.setAppWord r v).flag f = d.flag f := by simp [Dev.flag]
@[simp] theorem setAppWord_byteAt (r v : Nat) (k : Nat) : (d.setAppWord r v).byteAt k = d.byteAt k := by simp [Dev.byteAt]

/-! ### store -/

@[simp] theorem store_regs (a : Nat) (l : List Byte) : (d.store a l).regs = d.regs := by unfold Dev.store; rfl
@[simp] theorem store_applied (a : Nat) (l : List Byte) : (d.store a l).applied = d.applied := by unfold Dev.store; rfl
@[simp] theorem store_hostMem (a : Nat) (l : List Byte) : (d.store a l).hostMem = d.hostMem := by unfold Dev.store; rfl
@[simp] theorem store_time (a : Nat) (l : List Byte) : (d.store a l).time = d.time := by unfold Dev.store; rfl
@[simp] theorem store_evt (a : Nat) (l : List Byte) : (d.store a l).evt = d.evt := by unfold Dev.store; rfl
@[simp] theorem store_memu (a : Nat) (l : List Byte) : (d.store a l).memu = d.memu := by unfold Dev.store; rfl
@[simp] theorem store_far (a : Nat) (l : List Byte) : (d.store a l).far = d.far := by unfold Dev.store; rfl
@[simp] theorem store_streams (a : Nat) (l : List Byte) : (d.store a l).streams = d.streams := by unfold Dev.store; rfl
@[simp] theorem store_heads (a : Nat) (l : List Byte) : (d.store a l).heads = d.heads := by unfold Dev.store; rfl
@[simp] theorem store_tack (a : Nat) (l : List Byte) : (d.store a l).tack = d.tack := by unfold Dev.store; rfl
@[simp] theorem store_lanes (a : Nat) (l : List Byte) : (d.store a l).lanes = d.lanes := by unfold Dev.store; rfl
@[simp] theorem store_links (a : Nat) (l : List Byte) : (d.store a l).links = d.links := by unfold Dev.store; rfl
@[simp] theorem store_ce (a : Nat) (l : List Byte) : (d.store a l).ce = d.ce := by unfold Dev.store; rfl
@[simp] theorem store_engines (a : Nat) (l : List Byte) : (d.store a l).engines = d.engines := by unfold Dev.store; rfl
@[simp] theorem store_pins (a : Nat) (l : List Byte) : (d.store a l).pins = d.pins := by unfold Dev.store; rfl
@[simp] theorem store_harn (a : Nat) (l : List Byte) : (d.store a l).harn = d.harn := by unfold Dev.store; rfl
@[simp] theorem store_halt (a : Nat) (l : List Byte) : (d.store a l).halt = d.halt := by unfold Dev.store; rfl
@[simp] theorem store_cal (a : Nat) (l : List Byte) : (d.store a l).cal = d.cal := by unfold Dev.store; rfl
@[simp] theorem store_power (a : Nat) (l : List Byte) : (d.store a l).power = d.power := by unfold Dev.store; rfl
@[simp] theorem store_tap (a : Nat) (l : List Byte) : (d.store a l).tap = d.tap := by unfold Dev.store; rfl
@[simp] theorem store_team (a : Nat) (l : List Byte) : (d.store a l).team = d.team := by unfold Dev.store; rfl
@[simp] theorem store_sched (a : Nat) (l : List Byte) : (d.store a l).sched = d.sched := by unfold Dev.store; rfl
@[simp] theorem store_guards (a : Nat) (l : List Byte) : (d.store a l).guards = d.guards := by unfold Dev.store; rfl
@[simp] theorem store_judged (a : Nat) (l : List Byte) : (d.store a l).judged = d.judged := by unfold Dev.store; rfl
@[simp] theorem store_flash (a : Nat) (l : List Byte) : (d.store a l).flash = d.flash := by unfold Dev.store; rfl
@[simp] theorem store_sent (a : Nat) (l : List Byte) : (d.store a l).sent = d.sent := by unfold Dev.store; rfl
@[simp] theorem store_fresh (a : Nat) (l : List Byte) : (d.store a l).fresh = d.fresh := by unfold Dev.store; rfl
@[simp] theorem store_word (a : Nat) (l : List Byte) (k : Nat) : (d.store a l).word k = d.word k := by simp [Dev.word, Dev.wordBv]
@[simp] theorem store_get (a : Nat) (l : List Byte) (f : Fld) : (d.store a l).get f = d.get f := by simp [Dev.get]
@[simp] theorem store_flag (a : Nat) (l : List Byte) (f : Fld) : (d.store a l).flag f = d.flag f := by simp [Dev.flag]
@[simp] theorem store_appWord (a : Nat) (l : List Byte) (k : Nat) : (d.store a l).appWord k = d.appWord k := by simp [Dev.appWord]

/-! ### hostStore -/

@[simp] theorem hostStore_regs (a : Nat) (l : List Byte) : (d.hostStore a l).regs = d.regs := by unfold Dev.hostStore; rfl
@[simp] theorem hostStore_applied (a : Nat) (l : List Byte) : (d.hostStore a l).applied = d.applied := by unfold Dev.hostStore; rfl
@[simp] theorem hostStore_mem (a : Nat) (l : List Byte) : (d.hostStore a l).mem = d.mem := by unfold Dev.hostStore; rfl
@[simp] theorem hostStore_time (a : Nat) (l : List Byte) : (d.hostStore a l).time = d.time := by unfold Dev.hostStore; rfl
@[simp] theorem hostStore_evt (a : Nat) (l : List Byte) : (d.hostStore a l).evt = d.evt := by unfold Dev.hostStore; rfl
@[simp] theorem hostStore_memu (a : Nat) (l : List Byte) : (d.hostStore a l).memu = d.memu := by unfold Dev.hostStore; rfl
@[simp] theorem hostStore_far (a : Nat) (l : List Byte) : (d.hostStore a l).far = d.far := by unfold Dev.hostStore; rfl
@[simp] theorem hostStore_streams (a : Nat) (l : List Byte) : (d.hostStore a l).streams = d.streams := by unfold Dev.hostStore; rfl
@[simp] theorem hostStore_heads (a : Nat) (l : List Byte) : (d.hostStore a l).heads = d.heads := by unfold Dev.hostStore; rfl
@[simp] theorem hostStore_tack (a : Nat) (l : List Byte) : (d.hostStore a l).tack = d.tack := by unfold Dev.hostStore; rfl
@[simp] theorem hostStore_lanes (a : Nat) (l : List Byte) : (d.hostStore a l).lanes = d.lanes := by unfold Dev.hostStore; rfl
@[simp] theorem hostStore_links (a : Nat) (l : List Byte) : (d.hostStore a l).links = d.links := by unfold Dev.hostStore; rfl
@[simp] theorem hostStore_ce (a : Nat) (l : List Byte) : (d.hostStore a l).ce = d.ce := by unfold Dev.hostStore; rfl
@[simp] theorem hostStore_engines (a : Nat) (l : List Byte) : (d.hostStore a l).engines = d.engines := by unfold Dev.hostStore; rfl
@[simp] theorem hostStore_pins (a : Nat) (l : List Byte) : (d.hostStore a l).pins = d.pins := by unfold Dev.hostStore; rfl
@[simp] theorem hostStore_harn (a : Nat) (l : List Byte) : (d.hostStore a l).harn = d.harn := by unfold Dev.hostStore; rfl
@[simp] theorem hostStore_halt (a : Nat) (l : List Byte) : (d.hostStore a l).halt = d.halt := by unfold Dev.hostStore; rfl
@[simp] theorem hostStore_cal (a : Nat) (l : List Byte) : (d.hostStore a l).cal = d.cal := by unfold Dev.hostStore; rfl
@[simp] theorem hostStore_power (a : Nat) (l : List Byte) : (d.hostStore a l).power = d.power := by unfold Dev.hostStore; rfl
@[simp] theorem hostStore_tap (a : Nat) (l : List Byte) : (d.hostStore a l).tap = d.tap := by unfold Dev.hostStore; rfl
@[simp] theorem hostStore_team (a : Nat) (l : List Byte) : (d.hostStore a l).team = d.team := by unfold Dev.hostStore; rfl
@[simp] theorem hostStore_sched (a : Nat) (l : List Byte) : (d.hostStore a l).sched = d.sched := by unfold Dev.hostStore; rfl
@[simp] theorem hostStore_guards (a : Nat) (l : List Byte) : (d.hostStore a l).guards = d.guards := by unfold Dev.hostStore; rfl
@[simp] theorem hostStore_judged (a : Nat) (l : List Byte) : (d.hostStore a l).judged = d.judged := by unfold Dev.hostStore; rfl
@[simp] theorem hostStore_flash (a : Nat) (l : List Byte) : (d.hostStore a l).flash = d.flash := by unfold Dev.hostStore; rfl
@[simp] theorem hostStore_sent (a : Nat) (l : List Byte) : (d.hostStore a l).sent = d.sent := by unfold Dev.hostStore; rfl
@[simp] theorem hostStore_fresh (a : Nat) (l : List Byte) : (d.hostStore a l).fresh = d.fresh := by unfold Dev.hostStore; rfl
@[simp] theorem hostStore_word (a : Nat) (l : List Byte) (k : Nat) : (d.hostStore a l).word k = d.word k := by simp [Dev.word, Dev.wordBv]
@[simp] theorem hostStore_get (a : Nat) (l : List Byte) (f : Fld) : (d.hostStore a l).get f = d.get f := by simp [Dev.get]
@[simp] theorem hostStore_flag (a : Nat) (l : List Byte) (f : Fld) : (d.hostStore a l).flag f = d.flag f := by simp [Dev.flag]
@[simp] theorem hostStore_appWord (a : Nat) (l : List Byte) (k : Nat) : (d.hostStore a l).appWord k = d.appWord k := by simp [Dev.appWord]
@[simp] theorem hostStore_byteAt (a : Nat) (l : List Byte) (k : Nat) : (d.hostStore a l).byteAt k = d.byteAt k := by simp [Dev.byteAt]

/-! ### put -/

@[simp] theorem put_applied (g : Fld) (x : Nat) : (d.put g x).applied = d.applied := setWord_applied ..
@[simp] theorem put_mem (g : Fld) (x : Nat) : (d.put g x).mem = d.mem := setWord_mem ..
@[simp] theorem put_hostMem (g : Fld) (x : Nat) : (d.put g x).hostMem = d.hostMem := setWord_hostMem ..
@[simp] theorem put_time (g : Fld) (x : Nat) : (d.put g x).time = d.time := setWord_time ..
@[simp] theorem put_evt (g : Fld) (x : Nat) : (d.put g x).evt = d.evt := setWord_evt ..
@[simp] theorem put_memu (g : Fld) (x : Nat) : (d.put g x).memu = d.memu := setWord_memu ..
@[simp] theorem put_far (g : Fld) (x : Nat) : (d.put g x).far = d.far := setWord_far ..
@[simp] theorem put_streams (g : Fld) (x : Nat) : (d.put g x).streams = d.streams := setWord_streams ..
@[simp] theorem put_heads (g : Fld) (x : Nat) : (d.put g x).heads = d.heads := setWord_heads ..
@[simp] theorem put_tack (g : Fld) (x : Nat) : (d.put g x).tack = d.tack := setWord_tack ..
@[simp] theorem put_lanes (g : Fld) (x : Nat) : (d.put g x).lanes = d.lanes := setWord_lanes ..
@[simp] theorem put_links (g : Fld) (x : Nat) : (d.put g x).links = d.links := setWord_links ..
@[simp] theorem put_ce (g : Fld) (x : Nat) : (d.put g x).ce = d.ce := setWord_ce ..
@[simp] theorem put_engines (g : Fld) (x : Nat) : (d.put g x).engines = d.engines := setWord_engines ..
@[simp] theorem put_pins (g : Fld) (x : Nat) : (d.put g x).pins = d.pins := setWord_pins ..
@[simp] theorem put_harn (g : Fld) (x : Nat) : (d.put g x).harn = d.harn := setWord_harn ..
@[simp] theorem put_halt (g : Fld) (x : Nat) : (d.put g x).halt = d.halt := setWord_halt ..
@[simp] theorem put_cal (g : Fld) (x : Nat) : (d.put g x).cal = d.cal := setWord_cal ..
@[simp] theorem put_power (g : Fld) (x : Nat) : (d.put g x).power = d.power := setWord_power ..
@[simp] theorem put_tap (g : Fld) (x : Nat) : (d.put g x).tap = d.tap := setWord_tap ..
@[simp] theorem put_team (g : Fld) (x : Nat) : (d.put g x).team = d.team := setWord_team ..
@[simp] theorem put_sched (g : Fld) (x : Nat) : (d.put g x).sched = d.sched := setWord_sched ..
@[simp] theorem put_guards (g : Fld) (x : Nat) : (d.put g x).guards = d.guards := setWord_guards ..
@[simp] theorem put_judged (g : Fld) (x : Nat) : (d.put g x).judged = d.judged := setWord_judged ..
@[simp] theorem put_flash (g : Fld) (x : Nat) : (d.put g x).flash = d.flash := setWord_flash ..
@[simp] theorem put_sent (g : Fld) (x : Nat) : (d.put g x).sent = d.sent := setWord_sent ..
@[simp] theorem put_fresh (g : Fld) (x : Nat) : (d.put g x).fresh = d.fresh := setWord_fresh ..
@[simp] theorem put_appWord (g : Fld) (x : Nat) (k : Nat) : (d.put g x).appWord k = d.appWord k := by simp [Dev.appWord]
@[simp] theorem put_byteAt (g : Fld) (x : Nat) (k : Nat) : (d.put g x).byteAt k = d.byteAt k := by simp [Dev.byteAt]

/-! ### putI -/

@[simp] theorem putI_applied (g : Fld) (x : Int) : (d.putI g x).applied = d.applied := put_applied ..
@[simp] theorem putI_mem (g : Fld) (x : Int) : (d.putI g x).mem = d.mem := put_mem ..
@[simp] theorem putI_hostMem (g : Fld) (x : Int) : (d.putI g x).hostMem = d.hostMem := put_hostMem ..
@[simp] theorem putI_time (g : Fld) (x : Int) : (d.putI g x).time = d.time := put_time ..
@[simp] theorem putI_evt (g : Fld) (x : Int) : (d.putI g x).evt = d.evt := put_evt ..
@[simp] theorem putI_memu (g : Fld) (x : Int) : (d.putI g x).memu = d.memu := put_memu ..
@[simp] theorem putI_far (g : Fld) (x : Int) : (d.putI g x).far = d.far := put_far ..
@[simp] theorem putI_streams (g : Fld) (x : Int) : (d.putI g x).streams = d.streams := put_streams ..
@[simp] theorem putI_heads (g : Fld) (x : Int) : (d.putI g x).heads = d.heads := put_heads ..
@[simp] theorem putI_tack (g : Fld) (x : Int) : (d.putI g x).tack = d.tack := put_tack ..
@[simp] theorem putI_lanes (g : Fld) (x : Int) : (d.putI g x).lanes = d.lanes := put_lanes ..
@[simp] theorem putI_links (g : Fld) (x : Int) : (d.putI g x).links = d.links := put_links ..
@[simp] theorem putI_ce (g : Fld) (x : Int) : (d.putI g x).ce = d.ce := put_ce ..
@[simp] theorem putI_engines (g : Fld) (x : Int) : (d.putI g x).engines = d.engines := put_engines ..
@[simp] theorem putI_pins (g : Fld) (x : Int) : (d.putI g x).pins = d.pins := put_pins ..
@[simp] theorem putI_harn (g : Fld) (x : Int) : (d.putI g x).harn = d.harn := put_harn ..
@[simp] theorem putI_halt (g : Fld) (x : Int) : (d.putI g x).halt = d.halt := put_halt ..
@[simp] theorem putI_cal (g : Fld) (x : Int) : (d.putI g x).cal = d.cal := put_cal ..
@[simp] theorem putI_power (g : Fld) (x : Int) : (d.putI g x).power = d.power := put_power ..
@[simp] theorem putI_tap (g : Fld) (x : Int) : (d.putI g x).tap = d.tap := put_tap ..
@[simp] theorem putI_team (g : Fld) (x : Int) : (d.putI g x).team = d.team := put_team ..
@[simp] theorem putI_sched (g : Fld) (x : Int) : (d.putI g x).sched = d.sched := put_sched ..
@[simp] theorem putI_guards (g : Fld) (x : Int) : (d.putI g x).guards = d.guards := put_guards ..
@[simp] theorem putI_judged (g : Fld) (x : Int) : (d.putI g x).judged = d.judged := put_judged ..
@[simp] theorem putI_flash (g : Fld) (x : Int) : (d.putI g x).flash = d.flash := put_flash ..
@[simp] theorem putI_sent (g : Fld) (x : Int) : (d.putI g x).sent = d.sent := put_sent ..
@[simp] theorem putI_fresh (g : Fld) (x : Int) : (d.putI g x).fresh = d.fresh := put_fresh ..
@[simp] theorem putI_appWord (g : Fld) (x : Int) (k : Nat) : (d.putI g x).appWord k = d.appWord k := by simp [Dev.appWord]
@[simp] theorem putI_byteAt (g : Fld) (x : Int) (k : Nat) : (d.putI g x).byteAt k = d.byteAt k := by simp [Dev.byteAt]

/-! ### putB -/

@[simp] theorem putB_applied (g : Fld) (b : Bool) : (d.putB g b).applied = d.applied := put_applied ..
@[simp] theorem putB_mem (g : Fld) (b : Bool) : (d.putB g b).mem = d.mem := put_mem ..
@[simp] theorem putB_hostMem (g : Fld) (b : Bool) : (d.putB g b).hostMem = d.hostMem := put_hostMem ..
@[simp] theorem putB_time (g : Fld) (b : Bool) : (d.putB g b).time = d.time := put_time ..
@[simp] theorem putB_evt (g : Fld) (b : Bool) : (d.putB g b).evt = d.evt := put_evt ..
@[simp] theorem putB_memu (g : Fld) (b : Bool) : (d.putB g b).memu = d.memu := put_memu ..
@[simp] theorem putB_far (g : Fld) (b : Bool) : (d.putB g b).far = d.far := put_far ..
@[simp] theorem putB_streams (g : Fld) (b : Bool) : (d.putB g b).streams = d.streams := put_streams ..
@[simp] theorem putB_heads (g : Fld) (b : Bool) : (d.putB g b).heads = d.heads := put_heads ..
@[simp] theorem putB_tack (g : Fld) (b : Bool) : (d.putB g b).tack = d.tack := put_tack ..
@[simp] theorem putB_lanes (g : Fld) (b : Bool) : (d.putB g b).lanes = d.lanes := put_lanes ..
@[simp] theorem putB_links (g : Fld) (b : Bool) : (d.putB g b).links = d.links := put_links ..
@[simp] theorem putB_ce (g : Fld) (b : Bool) : (d.putB g b).ce = d.ce := put_ce ..
@[simp] theorem putB_engines (g : Fld) (b : Bool) : (d.putB g b).engines = d.engines := put_engines ..
@[simp] theorem putB_pins (g : Fld) (b : Bool) : (d.putB g b).pins = d.pins := put_pins ..
@[simp] theorem putB_harn (g : Fld) (b : Bool) : (d.putB g b).harn = d.harn := put_harn ..
@[simp] theorem putB_halt (g : Fld) (b : Bool) : (d.putB g b).halt = d.halt := put_halt ..
@[simp] theorem putB_cal (g : Fld) (b : Bool) : (d.putB g b).cal = d.cal := put_cal ..
@[simp] theorem putB_power (g : Fld) (b : Bool) : (d.putB g b).power = d.power := put_power ..
@[simp] theorem putB_tap (g : Fld) (b : Bool) : (d.putB g b).tap = d.tap := put_tap ..
@[simp] theorem putB_team (g : Fld) (b : Bool) : (d.putB g b).team = d.team := put_team ..
@[simp] theorem putB_sched (g : Fld) (b : Bool) : (d.putB g b).sched = d.sched := put_sched ..
@[simp] theorem putB_guards (g : Fld) (b : Bool) : (d.putB g b).guards = d.guards := put_guards ..
@[simp] theorem putB_judged (g : Fld) (b : Bool) : (d.putB g b).judged = d.judged := put_judged ..
@[simp] theorem putB_flash (g : Fld) (b : Bool) : (d.putB g b).flash = d.flash := put_flash ..
@[simp] theorem putB_sent (g : Fld) (b : Bool) : (d.putB g b).sent = d.sent := put_sent ..
@[simp] theorem putB_fresh (g : Fld) (b : Bool) : (d.putB g b).fresh = d.fresh := put_fresh ..
@[simp] theorem putB_appWord (g : Fld) (b : Bool) (k : Nat) : (d.putB g b).appWord k = d.appWord k := by simp [Dev.appWord]
@[simp] theorem putB_byteAt (g : Fld) (b : Bool) (k : Nat) : (d.putB g b).byteAt k = d.byteAt k := by simp [Dev.byteAt]

/-! ### addSat -/

@[simp] theorem addSat_applied (g : Fld) (n : Nat) : (d.addSat g n).applied = d.applied := put_applied ..
@[simp] theorem addSat_mem (g : Fld) (n : Nat) : (d.addSat g n).mem = d.mem := put_mem ..
@[simp] theorem addSat_hostMem (g : Fld) (n : Nat) : (d.addSat g n).hostMem = d.hostMem := put_hostMem ..
@[simp] theorem addSat_time (g : Fld) (n : Nat) : (d.addSat g n).time = d.time := put_time ..
@[simp] theorem addSat_evt (g : Fld) (n : Nat) : (d.addSat g n).evt = d.evt := put_evt ..
@[simp] theorem addSat_memu (g : Fld) (n : Nat) : (d.addSat g n).memu = d.memu := put_memu ..
@[simp] theorem addSat_far (g : Fld) (n : Nat) : (d.addSat g n).far = d.far := put_far ..
@[simp] theorem addSat_streams (g : Fld) (n : Nat) : (d.addSat g n).streams = d.streams := put_streams ..
@[simp] theorem addSat_heads (g : Fld) (n : Nat) : (d.addSat g n).heads = d.heads := put_heads ..
@[simp] theorem addSat_tack (g : Fld) (n : Nat) : (d.addSat g n).tack = d.tack := put_tack ..
@[simp] theorem addSat_lanes (g : Fld) (n : Nat) : (d.addSat g n).lanes = d.lanes := put_lanes ..
@[simp] theorem addSat_links (g : Fld) (n : Nat) : (d.addSat g n).links = d.links := put_links ..
@[simp] theorem addSat_ce (g : Fld) (n : Nat) : (d.addSat g n).ce = d.ce := put_ce ..
@[simp] theorem addSat_engines (g : Fld) (n : Nat) : (d.addSat g n).engines = d.engines := put_engines ..
@[simp] theorem addSat_pins (g : Fld) (n : Nat) : (d.addSat g n).pins = d.pins := put_pins ..
@[simp] theorem addSat_harn (g : Fld) (n : Nat) : (d.addSat g n).harn = d.harn := put_harn ..
@[simp] theorem addSat_halt (g : Fld) (n : Nat) : (d.addSat g n).halt = d.halt := put_halt ..
@[simp] theorem addSat_cal (g : Fld) (n : Nat) : (d.addSat g n).cal = d.cal := put_cal ..
@[simp] theorem addSat_power (g : Fld) (n : Nat) : (d.addSat g n).power = d.power := put_power ..
@[simp] theorem addSat_tap (g : Fld) (n : Nat) : (d.addSat g n).tap = d.tap := put_tap ..
@[simp] theorem addSat_team (g : Fld) (n : Nat) : (d.addSat g n).team = d.team := put_team ..
@[simp] theorem addSat_sched (g : Fld) (n : Nat) : (d.addSat g n).sched = d.sched := put_sched ..
@[simp] theorem addSat_guards (g : Fld) (n : Nat) : (d.addSat g n).guards = d.guards := put_guards ..
@[simp] theorem addSat_judged (g : Fld) (n : Nat) : (d.addSat g n).judged = d.judged := put_judged ..
@[simp] theorem addSat_flash (g : Fld) (n : Nat) : (d.addSat g n).flash = d.flash := put_flash ..
@[simp] theorem addSat_sent (g : Fld) (n : Nat) : (d.addSat g n).sent = d.sent := put_sent ..
@[simp] theorem addSat_fresh (g : Fld) (n : Nat) : (d.addSat g n).fresh = d.fresh := put_fresh ..
@[simp] theorem addSat_appWord (g : Fld) (n : Nat) (k : Nat) : (d.addSat g n).appWord k = d.appWord k := by simp [Dev.appWord]
@[simp] theorem addSat_byteAt (g : Fld) (n : Nat) (k : Nat) : (d.addSat g n).byteAt k = d.byteAt k := by simp [Dev.byteAt]

/-! ### inc -/

@[simp] theorem inc_applied (g : Fld) : (d.inc g).applied = d.applied := addSat_applied ..
@[simp] theorem inc_mem (g : Fld) : (d.inc g).mem = d.mem := addSat_mem ..
@[simp] theorem inc_hostMem (g : Fld) : (d.inc g).hostMem = d.hostMem := addSat_hostMem ..
@[simp] theorem inc_time (g : Fld) : (d.inc g).time = d.time := addSat_time ..
@[simp] theorem inc_evt (g : Fld) : (d.inc g).evt = d.evt := addSat_evt ..
@[simp] theorem inc_memu (g : Fld) : (d.inc g).memu = d.memu := addSat_memu ..
@[simp] theorem inc_far (g : Fld) : (d.inc g).far = d.far := addSat_far ..
@[simp] theorem inc_streams (g : Fld) : (d.inc g).streams = d.streams := addSat_streams ..
@[simp] theorem inc_heads (g : Fld) : (d.inc g).heads = d.heads := addSat_heads ..
@[simp] theorem inc_tack (g : Fld) : (d.inc g).tack = d.tack := addSat_tack ..
@[simp] theorem inc_lanes (g : Fld) : (d.inc g).lanes = d.lanes := addSat_lanes ..
@[simp] theorem inc_links (g : Fld) : (d.inc g).links = d.links := addSat_links ..
@[simp] theorem inc_ce (g : Fld) : (d.inc g).ce = d.ce := addSat_ce ..
@[simp] theorem inc_engines (g : Fld) : (d.inc g).engines = d.engines := addSat_engines ..
@[simp] theorem inc_pins (g : Fld) : (d.inc g).pins = d.pins := addSat_pins ..
@[simp] theorem inc_harn (g : Fld) : (d.inc g).harn = d.harn := addSat_harn ..
@[simp] theorem inc_halt (g : Fld) : (d.inc g).halt = d.halt := addSat_halt ..
@[simp] theorem inc_cal (g : Fld) : (d.inc g).cal = d.cal := addSat_cal ..
@[simp] theorem inc_power (g : Fld) : (d.inc g).power = d.power := addSat_power ..
@[simp] theorem inc_tap (g : Fld) : (d.inc g).tap = d.tap := addSat_tap ..
@[simp] theorem inc_team (g : Fld) : (d.inc g).team = d.team := addSat_team ..
@[simp] theorem inc_sched (g : Fld) : (d.inc g).sched = d.sched := addSat_sched ..
@[simp] theorem inc_guards (g : Fld) : (d.inc g).guards = d.guards := addSat_guards ..
@[simp] theorem inc_judged (g : Fld) : (d.inc g).judged = d.judged := addSat_judged ..
@[simp] theorem inc_flash (g : Fld) : (d.inc g).flash = d.flash := addSat_flash ..
@[simp] theorem inc_sent (g : Fld) : (d.inc g).sent = d.sent := addSat_sent ..
@[simp] theorem inc_fresh (g : Fld) : (d.inc g).fresh = d.fresh := addSat_fresh ..
@[simp] theorem inc_appWord (g : Fld) (k : Nat) : (d.inc g).appWord k = d.appWord k := by simp [Dev.appWord]
@[simp] theorem inc_byteAt (g : Fld) (k : Nat) : (d.inc g).byteAt k = d.byteAt k := by simp [Dev.byteAt]

/-! ### send -/

@[simp] theorem send_regs (x : Sent) : (d.send x).regs = d.regs := by unfold Dev.send; rfl
@[simp] theorem send_applied (x : Sent) : (d.send x).applied = d.applied := by unfold Dev.send; rfl
@[simp] theorem send_mem (x : Sent) : (d.send x).mem = d.mem := by unfold Dev.send; rfl
@[simp] theorem send_hostMem (x : Sent) : (d.send x).hostMem = d.hostMem := by unfold Dev.send; rfl
@[simp] theorem send_time (x : Sent) : (d.send x).time = d.time := by unfold Dev.send; rfl
@[simp] theorem send_evt (x : Sent) : (d.send x).evt = d.evt := by unfold Dev.send; rfl
@[simp] theorem send_memu (x : Sent) : (d.send x).memu = d.memu := by unfold Dev.send; rfl
@[simp] theorem send_far (x : Sent) : (d.send x).far = d.far := by unfold Dev.send; rfl
@[simp] theorem send_streams (x : Sent) : (d.send x).streams = d.streams := by unfold Dev.send; rfl
@[simp] theorem send_heads (x : Sent) : (d.send x).heads = d.heads := by unfold Dev.send; rfl
@[simp] theorem send_tack (x : Sent) : (d.send x).tack = d.tack := by unfold Dev.send; rfl
@[simp] theorem send_lanes (x : Sent) : (d.send x).lanes = d.lanes := by unfold Dev.send; rfl
@[simp] theorem send_links (x : Sent) : (d.send x).links = d.links := by unfold Dev.send; rfl
@[simp] theorem send_ce (x : Sent) : (d.send x).ce = d.ce := by unfold Dev.send; rfl
@[simp] theorem send_engines (x : Sent) : (d.send x).engines = d.engines := by unfold Dev.send; rfl
@[simp] theorem send_pins (x : Sent) : (d.send x).pins = d.pins := by unfold Dev.send; rfl
@[simp] theorem send_harn (x : Sent) : (d.send x).harn = d.harn := by unfold Dev.send; rfl
@[simp] theorem send_halt (x : Sent) : (d.send x).halt = d.halt := by unfold Dev.send; rfl
@[simp] theorem send_cal (x : Sent) : (d.send x).cal = d.cal := by unfold Dev.send; rfl
@[simp] theorem send_power (x : Sent) : (d.send x).power = d.power := by unfold Dev.send; rfl
@[simp] theorem send_tap (x : Sent) : (d.send x).tap = d.tap := by unfold Dev.send; rfl
@[simp] theorem send_team (x : Sent) : (d.send x).team = d.team := by unfold Dev.send; rfl
@[simp] theorem send_sched (x : Sent) : (d.send x).sched = d.sched := by unfold Dev.send; rfl
@[simp] theorem send_guards (x : Sent) : (d.send x).guards = d.guards := by unfold Dev.send; rfl
@[simp] theorem send_judged (x : Sent) : (d.send x).judged = d.judged := by unfold Dev.send; rfl
@[simp] theorem send_flash (x : Sent) : (d.send x).flash = d.flash := by unfold Dev.send; rfl
@[simp] theorem send_fresh (x : Sent) : (d.send x).fresh = d.fresh := by unfold Dev.send; rfl
@[simp] theorem send_word (x : Sent) (k : Nat) : (d.send x).word k = d.word k := by simp [Dev.word, Dev.wordBv]
@[simp] theorem send_get (x : Sent) (f : Fld) : (d.send x).get f = d.get f := by simp [Dev.get]
@[simp] theorem send_flag (x : Sent) (f : Fld) : (d.send x).flag f = d.flag f := by simp [Dev.flag]
@[simp] theorem send_appWord (x : Sent) (k : Nat) : (d.send x).appWord k = d.appWord k := by simp [Dev.appWord]
@[simp] theorem send_byteAt (x : Sent) (k : Nat) : (d.send x).byteAt k = d.byteAt k := by simp [Dev.byteAt]

/-! ### drawn -/

@[simp] theorem drawn_regs : (d.drawn).regs = d.regs := by unfold Dev.drawn; rfl
@[simp] theorem drawn_applied : (d.drawn).applied = d.applied := by unfold Dev.drawn; rfl
@[simp] theorem drawn_mem : (d.drawn).mem = d.mem := by unfold Dev.drawn; rfl
@[simp] theorem drawn_hostMem : (d.drawn).hostMem = d.hostMem := by unfold Dev.drawn; rfl
@[simp] theorem drawn_time : (d.drawn).time = d.time := by unfold Dev.drawn; rfl
@[simp] theorem drawn_evt : (d.drawn).evt = d.evt := by unfold Dev.drawn; rfl
@[simp] theorem drawn_memu : (d.drawn).memu = d.memu := by unfold Dev.drawn; rfl
@[simp] theorem drawn_far : (d.drawn).far = d.far := by unfold Dev.drawn; rfl
@[simp] theorem drawn_streams : (d.drawn).streams = d.streams := by unfold Dev.drawn; rfl
@[simp] theorem drawn_heads : (d.drawn).heads = d.heads := by unfold Dev.drawn; rfl
@[simp] theorem drawn_tack : (d.drawn).tack = d.tack := by unfold Dev.drawn; rfl
@[simp] theorem drawn_lanes : (d.drawn).lanes = d.lanes := by unfold Dev.drawn; rfl
@[simp] theorem drawn_links : (d.drawn).links = d.links := by unfold Dev.drawn; rfl
@[simp] theorem drawn_ce : (d.drawn).ce = d.ce := by unfold Dev.drawn; rfl
@[simp] theorem drawn_engines : (d.drawn).engines = d.engines := by unfold Dev.drawn; rfl
@[simp] theorem drawn_pins : (d.drawn).pins = d.pins := by unfold Dev.drawn; rfl
@[simp] theorem drawn_harn : (d.drawn).harn = d.harn := by unfold Dev.drawn; rfl
@[simp] theorem drawn_halt : (d.drawn).halt = d.halt := by unfold Dev.drawn; rfl
@[simp] theorem drawn_cal : (d.drawn).cal = d.cal := by unfold Dev.drawn; rfl
@[simp] theorem drawn_power : (d.drawn).power = d.power := by unfold Dev.drawn; rfl
@[simp] theorem drawn_tap : (d.drawn).tap = d.tap := by unfold Dev.drawn; rfl
@[simp] theorem drawn_team : (d.drawn).team = d.team := by unfold Dev.drawn; rfl
@[simp] theorem drawn_sched : (d.drawn).sched = d.sched := by unfold Dev.drawn; rfl
@[simp] theorem drawn_guards : (d.drawn).guards = d.guards := by unfold Dev.drawn; rfl
@[simp] theorem drawn_judged : (d.drawn).judged = d.judged := by unfold Dev.drawn; rfl
@[simp] theorem drawn_flash : (d.drawn).flash = d.flash := by unfold Dev.drawn; rfl
@[simp] theorem drawn_sent : (d.drawn).sent = d.sent := by unfold Dev.drawn; rfl
@[simp] theorem drawn_word (k : Nat) : (d.drawn).word k = d.word k := by simp [Dev.word, Dev.wordBv]
@[simp] theorem drawn_get (f : Fld) : (d.drawn).get f = d.get f := by simp [Dev.get]
@[simp] theorem drawn_flag (f : Fld) : (d.drawn).flag f = d.flag f := by simp [Dev.flag]
@[simp] theorem drawn_appWord (k : Nat) : (d.drawn).appWord k = d.appWord k := by simp [Dev.appWord]
@[simp] theorem drawn_byteAt (k : Nat) : (d.drawn).byteAt k = d.byteAt k := by simp [Dev.byteAt]

/-! ### onHead -/

@[simp] theorem onHead_regs (h : Nat) (u : HeadUnit → HeadUnit) : (d.onHead h u).regs = d.regs := by unfold Dev.onHead; rfl
@[simp] theorem onHead_applied (h : Nat) (u : HeadUnit → HeadUnit) : (d.onHead h u).applied = d.applied := by unfold Dev.onHead; rfl
@[simp] theorem onHead_mem (h : Nat) (u : HeadUnit → HeadUnit) : (d.onHead h u).mem = d.mem := by unfold Dev.onHead; rfl
@[simp] theorem onHead_hostMem (h : Nat) (u : HeadUnit → HeadUnit) : (d.onHead h u).hostMem = d.hostMem := by unfold Dev.onHead; rfl
@[simp] theorem onHead_time (h : Nat) (u : HeadUnit → HeadUnit) : (d.onHead h u).time = d.time := by unfold Dev.onHead; rfl
@[simp] theorem onHead_evt (h : Nat) (u : HeadUnit → HeadUnit) : (d.onHead h u).evt = d.evt := by unfold Dev.onHead; rfl
@[simp] theorem onHead_memu (h : Nat) (u : HeadUnit → HeadUnit) : (d.onHead h u).memu = d.memu := by unfold Dev.onHead; rfl
@[simp] theorem onHead_far (h : Nat) (u : HeadUnit → HeadUnit) : (d.onHead h u).far = d.far := by unfold Dev.onHead; rfl
@[simp] theorem onHead_streams (h : Nat) (u : HeadUnit → HeadUnit) : (d.onHead h u).streams = d.streams := by unfold Dev.onHead; rfl
@[simp] theorem onHead_tack (h : Nat) (u : HeadUnit → HeadUnit) : (d.onHead h u).tack = d.tack := by unfold Dev.onHead; rfl
@[simp] theorem onHead_lanes (h : Nat) (u : HeadUnit → HeadUnit) : (d.onHead h u).lanes = d.lanes := by unfold Dev.onHead; rfl
@[simp] theorem onHead_links (h : Nat) (u : HeadUnit → HeadUnit) : (d.onHead h u).links = d.links := by unfold Dev.onHead; rfl
@[simp] theorem onHead_ce (h : Nat) (u : HeadUnit → HeadUnit) : (d.onHead h u).ce = d.ce := by unfold Dev.onHead; rfl
@[simp] theorem onHead_engines (h : Nat) (u : HeadUnit → HeadUnit) : (d.onHead h u).engines = d.engines := by unfold Dev.onHead; rfl
@[simp] theorem onHead_pins (h : Nat) (u : HeadUnit → HeadUnit) : (d.onHead h u).pins = d.pins := by unfold Dev.onHead; rfl
@[simp] theorem onHead_harn (h : Nat) (u : HeadUnit → HeadUnit) : (d.onHead h u).harn = d.harn := by unfold Dev.onHead; rfl
@[simp] theorem onHead_halt (h : Nat) (u : HeadUnit → HeadUnit) : (d.onHead h u).halt = d.halt := by unfold Dev.onHead; rfl
@[simp] theorem onHead_cal (h : Nat) (u : HeadUnit → HeadUnit) : (d.onHead h u).cal = d.cal := by unfold Dev.onHead; rfl
@[simp] theorem onHead_power (h : Nat) (u : HeadUnit → HeadUnit) : (d.onHead h u).power = d.power := by unfold Dev.onHead; rfl
@[simp] theorem onHead_tap (h : Nat) (u : HeadUnit → HeadUnit) : (d.onHead h u).tap = d.tap := by unfold Dev.onHead; rfl
@[simp] theorem onHead_team (h : Nat) (u : HeadUnit → HeadUnit) : (d.onHead h u).team = d.team := by unfold Dev.onHead; rfl
@[simp] theorem onHead_sched (h : Nat) (u : HeadUnit → HeadUnit) : (d.onHead h u).sched = d.sched := by unfold Dev.onHead; rfl
@[simp] theorem onHead_guards (h : Nat) (u : HeadUnit → HeadUnit) : (d.onHead h u).guards = d.guards := by unfold Dev.onHead; rfl
@[simp] theorem onHead_judged (h : Nat) (u : HeadUnit → HeadUnit) : (d.onHead h u).judged = d.judged := by unfold Dev.onHead; rfl
@[simp] theorem onHead_flash (h : Nat) (u : HeadUnit → HeadUnit) : (d.onHead h u).flash = d.flash := by unfold Dev.onHead; rfl
@[simp] theorem onHead_sent (h : Nat) (u : HeadUnit → HeadUnit) : (d.onHead h u).sent = d.sent := by unfold Dev.onHead; rfl
@[simp] theorem onHead_fresh (h : Nat) (u : HeadUnit → HeadUnit) : (d.onHead h u).fresh = d.fresh := by unfold Dev.onHead; rfl
@[simp] theorem onHead_word (h : Nat) (u : HeadUnit → HeadUnit) (k : Nat) : (d.onHead h u).word k = d.word k := by simp [Dev.word, Dev.wordBv]
@[simp] theorem onHead_get (h : Nat) (u : HeadUnit → HeadUnit) (f : Fld) : (d.onHead h u).get f = d.get f := by simp [Dev.get]
@[simp] theorem onHead_flag (h : Nat) (u : HeadUnit → HeadUnit) (f : Fld) : (d.onHead h u).flag f = d.flag f := by simp [Dev.flag]
@[simp] theorem onHead_appWord (h : Nat) (u : HeadUnit → HeadUnit) (k : Nat) : (d.onHead h u).appWord k = d.appWord k := by simp [Dev.appWord]
@[simp] theorem onHead_byteAt (h : Nat) (u : HeadUnit → HeadUnit) (k : Nat) : (d.onHead h u).byteAt k = d.byteAt k := by simp [Dev.byteAt]

/-! ### onPower -/

@[simp] theorem onPower_regs (u : PowerUnit → PowerUnit) : (d.onPower u).regs = d.regs := by unfold Dev.onPower; rfl
@[simp] theorem onPower_applied (u : PowerUnit → PowerUnit) : (d.onPower u).applied = d.applied := by unfold Dev.onPower; rfl
@[simp] theorem onPower_mem (u : PowerUnit → PowerUnit) : (d.onPower u).mem = d.mem := by unfold Dev.onPower; rfl
@[simp] theorem onPower_hostMem (u : PowerUnit → PowerUnit) : (d.onPower u).hostMem = d.hostMem := by unfold Dev.onPower; rfl
@[simp] theorem onPower_time (u : PowerUnit → PowerUnit) : (d.onPower u).time = d.time := by unfold Dev.onPower; rfl
@[simp] theorem onPower_evt (u : PowerUnit → PowerUnit) : (d.onPower u).evt = d.evt := by unfold Dev.onPower; rfl
@[simp] theorem onPower_memu (u : PowerUnit → PowerUnit) : (d.onPower u).memu = d.memu := by unfold Dev.onPower; rfl
@[simp] theorem onPower_far (u : PowerUnit → PowerUnit) : (d.onPower u).far = d.far := by unfold Dev.onPower; rfl
@[simp] theorem onPower_streams (u : PowerUnit → PowerUnit) : (d.onPower u).streams = d.streams := by unfold Dev.onPower; rfl
@[simp] theorem onPower_heads (u : PowerUnit → PowerUnit) : (d.onPower u).heads = d.heads := by unfold Dev.onPower; rfl
@[simp] theorem onPower_tack (u : PowerUnit → PowerUnit) : (d.onPower u).tack = d.tack := by unfold Dev.onPower; rfl
@[simp] theorem onPower_lanes (u : PowerUnit → PowerUnit) : (d.onPower u).lanes = d.lanes := by unfold Dev.onPower; rfl
@[simp] theorem onPower_links (u : PowerUnit → PowerUnit) : (d.onPower u).links = d.links := by unfold Dev.onPower; rfl
@[simp] theorem onPower_ce (u : PowerUnit → PowerUnit) : (d.onPower u).ce = d.ce := by unfold Dev.onPower; rfl
@[simp] theorem onPower_engines (u : PowerUnit → PowerUnit) : (d.onPower u).engines = d.engines := by unfold Dev.onPower; rfl
@[simp] theorem onPower_pins (u : PowerUnit → PowerUnit) : (d.onPower u).pins = d.pins := by unfold Dev.onPower; rfl
@[simp] theorem onPower_harn (u : PowerUnit → PowerUnit) : (d.onPower u).harn = d.harn := by unfold Dev.onPower; rfl
@[simp] theorem onPower_halt (u : PowerUnit → PowerUnit) : (d.onPower u).halt = d.halt := by unfold Dev.onPower; rfl
@[simp] theorem onPower_cal (u : PowerUnit → PowerUnit) : (d.onPower u).cal = d.cal := by unfold Dev.onPower; rfl
@[simp] theorem onPower_tap (u : PowerUnit → PowerUnit) : (d.onPower u).tap = d.tap := by unfold Dev.onPower; rfl
@[simp] theorem onPower_team (u : PowerUnit → PowerUnit) : (d.onPower u).team = d.team := by unfold Dev.onPower; rfl
@[simp] theorem onPower_sched (u : PowerUnit → PowerUnit) : (d.onPower u).sched = d.sched := by unfold Dev.onPower; rfl
@[simp] theorem onPower_guards (u : PowerUnit → PowerUnit) : (d.onPower u).guards = d.guards := by unfold Dev.onPower; rfl
@[simp] theorem onPower_judged (u : PowerUnit → PowerUnit) : (d.onPower u).judged = d.judged := by unfold Dev.onPower; rfl
@[simp] theorem onPower_flash (u : PowerUnit → PowerUnit) : (d.onPower u).flash = d.flash := by unfold Dev.onPower; rfl
@[simp] theorem onPower_sent (u : PowerUnit → PowerUnit) : (d.onPower u).sent = d.sent := by unfold Dev.onPower; rfl
@[simp] theorem onPower_fresh (u : PowerUnit → PowerUnit) : (d.onPower u).fresh = d.fresh := by unfold Dev.onPower; rfl
@[simp] theorem onPower_word (u : PowerUnit → PowerUnit) (k : Nat) : (d.onPower u).word k = d.word k := by simp [Dev.word, Dev.wordBv]
@[simp] theorem onPower_get (u : PowerUnit → PowerUnit) (f : Fld) : (d.onPower u).get f = d.get f := by simp [Dev.get]
@[simp] theorem onPower_flag (u : PowerUnit → PowerUnit) (f : Fld) : (d.onPower u).flag f = d.flag f := by simp [Dev.flag]
@[simp] theorem onPower_appWord (u : PowerUnit → PowerUnit) (k : Nat) : (d.onPower u).appWord k = d.appWord k := by simp [Dev.appWord]
@[simp] theorem onPower_byteAt (u : PowerUnit → PowerUnit) (k : Nat) : (d.onPower u).byteAt k = d.byteAt k := by simp [Dev.byteAt]

/-! ### onTack -/

@[simp] theorem onTack_regs (u : TackUnit → TackUnit) : (d.onTack u).regs = d.regs := by unfold Dev.onTack; rfl
@[simp] theorem onTack_applied (u : TackUnit → TackUnit) : (d.onTack u).applied = d.applied := by unfold Dev.onTack; rfl
@[simp] theorem onTack_mem (u : TackUnit → TackUnit) : (d.onTack u).mem = d.mem := by unfold Dev.onTack; rfl
@[simp] theorem onTack_hostMem (u : TackUnit → TackUnit) : (d.onTack u).hostMem = d.hostMem := by unfold Dev.onTack; rfl
@[simp] theorem onTack_time (u : TackUnit → TackUnit) : (d.onTack u).time = d.time := by unfold Dev.onTack; rfl
@[simp] theorem onTack_evt (u : TackUnit → TackUnit) : (d.onTack u).evt = d.evt := by unfold Dev.onTack; rfl
@[simp] theorem onTack_memu (u : TackUnit → TackUnit) : (d.onTack u).memu = d.memu := by unfold Dev.onTack; rfl
@[simp] theorem onTack_far (u : TackUnit → TackUnit) : (d.onTack u).far = d.far := by unfold Dev.onTack; rfl
@[simp] theorem onTack_streams (u : TackUnit → TackUnit) : (d.onTack u).streams = d.streams := by unfold Dev.onTack; rfl
@[simp] theorem onTack_heads (u : TackUnit → TackUnit) : (d.onTack u).heads = d.heads := by unfold Dev.onTack; rfl
@[simp] theorem onTack_lanes (u : TackUnit → TackUnit) : (d.onTack u).lanes = d.lanes := by unfold Dev.onTack; rfl
@[simp] theorem onTack_links (u : TackUnit → TackUnit) : (d.onTack u).links = d.links := by unfold Dev.onTack; rfl
@[simp] theorem onTack_ce (u : TackUnit → TackUnit) : (d.onTack u).ce = d.ce := by unfold Dev.onTack; rfl
@[simp] theorem onTack_engines (u : TackUnit → TackUnit) : (d.onTack u).engines = d.engines := by unfold Dev.onTack; rfl
@[simp] theorem onTack_pins (u : TackUnit → TackUnit) : (d.onTack u).pins = d.pins := by unfold Dev.onTack; rfl
@[simp] theorem onTack_harn (u : TackUnit → TackUnit) : (d.onTack u).harn = d.harn := by unfold Dev.onTack; rfl
@[simp] theorem onTack_halt (u : TackUnit → TackUnit) : (d.onTack u).halt = d.halt := by unfold Dev.onTack; rfl
@[simp] theorem onTack_cal (u : TackUnit → TackUnit) : (d.onTack u).cal = d.cal := by unfold Dev.onTack; rfl
@[simp] theorem onTack_power (u : TackUnit → TackUnit) : (d.onTack u).power = d.power := by unfold Dev.onTack; rfl
@[simp] theorem onTack_tap (u : TackUnit → TackUnit) : (d.onTack u).tap = d.tap := by unfold Dev.onTack; rfl
@[simp] theorem onTack_team (u : TackUnit → TackUnit) : (d.onTack u).team = d.team := by unfold Dev.onTack; rfl
@[simp] theorem onTack_sched (u : TackUnit → TackUnit) : (d.onTack u).sched = d.sched := by unfold Dev.onTack; rfl
@[simp] theorem onTack_guards (u : TackUnit → TackUnit) : (d.onTack u).guards = d.guards := by unfold Dev.onTack; rfl
@[simp] theorem onTack_judged (u : TackUnit → TackUnit) : (d.onTack u).judged = d.judged := by unfold Dev.onTack; rfl
@[simp] theorem onTack_flash (u : TackUnit → TackUnit) : (d.onTack u).flash = d.flash := by unfold Dev.onTack; rfl
@[simp] theorem onTack_sent (u : TackUnit → TackUnit) : (d.onTack u).sent = d.sent := by unfold Dev.onTack; rfl
@[simp] theorem onTack_fresh (u : TackUnit → TackUnit) : (d.onTack u).fresh = d.fresh := by unfold Dev.onTack; rfl
@[simp] theorem onTack_word (u : TackUnit → TackUnit) (k : Nat) : (d.onTack u).word k = d.word k := by simp [Dev.word, Dev.wordBv]
@[simp] theorem onTack_get (u : TackUnit → TackUnit) (f : Fld) : (d.onTack u).get f = d.get f := by simp [Dev.get]
@[simp] theorem onTack_flag (u : TackUnit → TackUnit) (f : Fld) : (d.onTack u).flag f = d.flag f := by simp [Dev.flag]
@[simp] theorem onTack_appWord (u : TackUnit → TackUnit) (k : Nat) : (d.onTack u).appWord k = d.appWord k := by simp [Dev.appWord]
@[simp] theorem onTack_byteAt (u : TackUnit → TackUnit) (k : Nat) : (d.onTack u).byteAt k = d.byteAt k := by simp [Dev.byteAt]

/-! ### onHarn -/

@[simp] theorem onHarn_regs (u : HarnUnit → HarnUnit) : (d.onHarn u).regs = d.regs := by unfold Dev.onHarn; rfl
@[simp] theorem onHarn_applied (u : HarnUnit → HarnUnit) : (d.onHarn u).applied = d.applied := by unfold Dev.onHarn; rfl
@[simp] theorem onHarn_mem (u : HarnUnit → HarnUnit) : (d.onHarn u).mem = d.mem := by unfold Dev.onHarn; rfl
@[simp] theorem onHarn_hostMem (u : HarnUnit → HarnUnit) : (d.onHarn u).hostMem = d.hostMem := by unfold Dev.onHarn; rfl
@[simp] theorem onHarn_time (u : HarnUnit → HarnUnit) : (d.onHarn u).time = d.time := by unfold Dev.onHarn; rfl
@[simp] theorem onHarn_evt (u : HarnUnit → HarnUnit) : (d.onHarn u).evt = d.evt := by unfold Dev.onHarn; rfl
@[simp] theorem onHarn_memu (u : HarnUnit → HarnUnit) : (d.onHarn u).memu = d.memu := by unfold Dev.onHarn; rfl
@[simp] theorem onHarn_far (u : HarnUnit → HarnUnit) : (d.onHarn u).far = d.far := by unfold Dev.onHarn; rfl
@[simp] theorem onHarn_streams (u : HarnUnit → HarnUnit) : (d.onHarn u).streams = d.streams := by unfold Dev.onHarn; rfl
@[simp] theorem onHarn_heads (u : HarnUnit → HarnUnit) : (d.onHarn u).heads = d.heads := by unfold Dev.onHarn; rfl
@[simp] theorem onHarn_tack (u : HarnUnit → HarnUnit) : (d.onHarn u).tack = d.tack := by unfold Dev.onHarn; rfl
@[simp] theorem onHarn_lanes (u : HarnUnit → HarnUnit) : (d.onHarn u).lanes = d.lanes := by unfold Dev.onHarn; rfl
@[simp] theorem onHarn_links (u : HarnUnit → HarnUnit) : (d.onHarn u).links = d.links := by unfold Dev.onHarn; rfl
@[simp] theorem onHarn_ce (u : HarnUnit → HarnUnit) : (d.onHarn u).ce = d.ce := by unfold Dev.onHarn; rfl
@[simp] theorem onHarn_engines (u : HarnUnit → HarnUnit) : (d.onHarn u).engines = d.engines := by unfold Dev.onHarn; rfl
@[simp] theorem onHarn_pins (u : HarnUnit → HarnUnit) : (d.onHarn u).pins = d.pins := by unfold Dev.onHarn; rfl
@[simp] theorem onHarn_halt (u : HarnUnit → HarnUnit) : (d.onHarn u).halt = d.halt := by unfold Dev.onHarn; rfl
@[simp] theorem onHarn_cal (u : HarnUnit → HarnUnit) : (d.onHarn u).cal = d.cal := by unfold Dev.onHarn; rfl
@[simp] theorem onHarn_power (u : HarnUnit → HarnUnit) : (d.onHarn u).power = d.power := by unfold Dev.onHarn; rfl
@[simp] theorem onHarn_tap (u : HarnUnit → HarnUnit) : (d.onHarn u).tap = d.tap := by unfold Dev.onHarn; rfl
@[simp] theorem onHarn_team (u : HarnUnit → HarnUnit) : (d.onHarn u).team = d.team := by unfold Dev.onHarn; rfl
@[simp] theorem onHarn_sched (u : HarnUnit → HarnUnit) : (d.onHarn u).sched = d.sched := by unfold Dev.onHarn; rfl
@[simp] theorem onHarn_guards (u : HarnUnit → HarnUnit) : (d.onHarn u).guards = d.guards := by unfold Dev.onHarn; rfl
@[simp] theorem onHarn_judged (u : HarnUnit → HarnUnit) : (d.onHarn u).judged = d.judged := by unfold Dev.onHarn; rfl
@[simp] theorem onHarn_flash (u : HarnUnit → HarnUnit) : (d.onHarn u).flash = d.flash := by unfold Dev.onHarn; rfl
@[simp] theorem onHarn_sent (u : HarnUnit → HarnUnit) : (d.onHarn u).sent = d.sent := by unfold Dev.onHarn; rfl
@[simp] theorem onHarn_fresh (u : HarnUnit → HarnUnit) : (d.onHarn u).fresh = d.fresh := by unfold Dev.onHarn; rfl
@[simp] theorem onHarn_word (u : HarnUnit → HarnUnit) (k : Nat) : (d.onHarn u).word k = d.word k := by simp [Dev.word, Dev.wordBv]
@[simp] theorem onHarn_get (u : HarnUnit → HarnUnit) (f : Fld) : (d.onHarn u).get f = d.get f := by simp [Dev.get]
@[simp] theorem onHarn_flag (u : HarnUnit → HarnUnit) (f : Fld) : (d.onHarn u).flag f = d.flag f := by simp [Dev.flag]
@[simp] theorem onHarn_appWord (u : HarnUnit → HarnUnit) (k : Nat) : (d.onHarn u).appWord k = d.appWord k := by simp [Dev.appWord]
@[simp] theorem onHarn_byteAt (u : HarnUnit → HarnUnit) (k : Nat) : (d.onHarn u).byteAt k = d.byteAt k := by simp [Dev.byteAt]

/-! ### onPins -/

@[simp] theorem onPins_regs (u : PinUnit → PinUnit) : (d.onPins u).regs = d.regs := by unfold Dev.onPins; rfl
@[simp] theorem onPins_applied (u : PinUnit → PinUnit) : (d.onPins u).applied = d.applied := by unfold Dev.onPins; rfl
@[simp] theorem onPins_mem (u : PinUnit → PinUnit) : (d.onPins u).mem = d.mem := by unfold Dev.onPins; rfl
@[simp] theorem onPins_hostMem (u : PinUnit → PinUnit) : (d.onPins u).hostMem = d.hostMem := by unfold Dev.onPins; rfl
@[simp] theorem onPins_time (u : PinUnit → PinUnit) : (d.onPins u).time = d.time := by unfold Dev.onPins; rfl
@[simp] theorem onPins_evt (u : PinUnit → PinUnit) : (d.onPins u).evt = d.evt := by unfold Dev.onPins; rfl
@[simp] theorem onPins_memu (u : PinUnit → PinUnit) : (d.onPins u).memu = d.memu := by unfold Dev.onPins; rfl
@[simp] theorem onPins_far (u : PinUnit → PinUnit) : (d.onPins u).far = d.far := by unfold Dev.onPins; rfl
@[simp] theorem onPins_streams (u : PinUnit → PinUnit) : (d.onPins u).streams = d.streams := by unfold Dev.onPins; rfl
@[simp] theorem onPins_heads (u : PinUnit → PinUnit) : (d.onPins u).heads = d.heads := by unfold Dev.onPins; rfl
@[simp] theorem onPins_tack (u : PinUnit → PinUnit) : (d.onPins u).tack = d.tack := by unfold Dev.onPins; rfl
@[simp] theorem onPins_lanes (u : PinUnit → PinUnit) : (d.onPins u).lanes = d.lanes := by unfold Dev.onPins; rfl
@[simp] theorem onPins_links (u : PinUnit → PinUnit) : (d.onPins u).links = d.links := by unfold Dev.onPins; rfl
@[simp] theorem onPins_ce (u : PinUnit → PinUnit) : (d.onPins u).ce = d.ce := by unfold Dev.onPins; rfl
@[simp] theorem onPins_engines (u : PinUnit → PinUnit) : (d.onPins u).engines = d.engines := by unfold Dev.onPins; rfl
@[simp] theorem onPins_harn (u : PinUnit → PinUnit) : (d.onPins u).harn = d.harn := by unfold Dev.onPins; rfl
@[simp] theorem onPins_halt (u : PinUnit → PinUnit) : (d.onPins u).halt = d.halt := by unfold Dev.onPins; rfl
@[simp] theorem onPins_cal (u : PinUnit → PinUnit) : (d.onPins u).cal = d.cal := by unfold Dev.onPins; rfl
@[simp] theorem onPins_power (u : PinUnit → PinUnit) : (d.onPins u).power = d.power := by unfold Dev.onPins; rfl
@[simp] theorem onPins_tap (u : PinUnit → PinUnit) : (d.onPins u).tap = d.tap := by unfold Dev.onPins; rfl
@[simp] theorem onPins_team (u : PinUnit → PinUnit) : (d.onPins u).team = d.team := by unfold Dev.onPins; rfl
@[simp] theorem onPins_sched (u : PinUnit → PinUnit) : (d.onPins u).sched = d.sched := by unfold Dev.onPins; rfl
@[simp] theorem onPins_guards (u : PinUnit → PinUnit) : (d.onPins u).guards = d.guards := by unfold Dev.onPins; rfl
@[simp] theorem onPins_judged (u : PinUnit → PinUnit) : (d.onPins u).judged = d.judged := by unfold Dev.onPins; rfl
@[simp] theorem onPins_flash (u : PinUnit → PinUnit) : (d.onPins u).flash = d.flash := by unfold Dev.onPins; rfl
@[simp] theorem onPins_sent (u : PinUnit → PinUnit) : (d.onPins u).sent = d.sent := by unfold Dev.onPins; rfl
@[simp] theorem onPins_fresh (u : PinUnit → PinUnit) : (d.onPins u).fresh = d.fresh := by unfold Dev.onPins; rfl
@[simp] theorem onPins_word (u : PinUnit → PinUnit) (k : Nat) : (d.onPins u).word k = d.word k := by simp [Dev.word, Dev.wordBv]
@[simp] theorem onPins_get (u : PinUnit → PinUnit) (f : Fld) : (d.onPins u).get f = d.get f := by simp [Dev.get]
@[simp] theorem onPins_flag (u : PinUnit → PinUnit) (f : Fld) : (d.onPins u).flag f = d.flag f := by simp [Dev.flag]
@[simp] theorem onPins_appWord (u : PinUnit → PinUnit) (k : Nat) : (d.onPins u).appWord k = d.appWord k := by simp [Dev.appWord]
@[simp] theorem onPins_byteAt (u : PinUnit → PinUnit) (k : Nat) : (d.onPins u).byteAt k = d.byteAt k := by simp [Dev.byteAt]

/-! ### onLane -/

@[simp] theorem onLane_regs (n : Nat) (u : LaneUnit → LaneUnit) : (d.onLane n u).regs = d.regs := by unfold Dev.onLane; rfl
@[simp] theorem onLane_applied (n : Nat) (u : LaneUnit → LaneUnit) : (d.onLane n u).applied = d.applied := by unfold Dev.onLane; rfl
@[simp] theorem onLane_mem (n : Nat) (u : LaneUnit → LaneUnit) : (d.onLane n u).mem = d.mem := by unfold Dev.onLane; rfl
@[simp] theorem onLane_hostMem (n : Nat) (u : LaneUnit → LaneUnit) : (d.onLane n u).hostMem = d.hostMem := by unfold Dev.onLane; rfl
@[simp] theorem onLane_time (n : Nat) (u : LaneUnit → LaneUnit) : (d.onLane n u).time = d.time := by unfold Dev.onLane; rfl
@[simp] theorem onLane_evt (n : Nat) (u : LaneUnit → LaneUnit) : (d.onLane n u).evt = d.evt := by unfold Dev.onLane; rfl
@[simp] theorem onLane_memu (n : Nat) (u : LaneUnit → LaneUnit) : (d.onLane n u).memu = d.memu := by unfold Dev.onLane; rfl
@[simp] theorem onLane_far (n : Nat) (u : LaneUnit → LaneUnit) : (d.onLane n u).far = d.far := by unfold Dev.onLane; rfl
@[simp] theorem onLane_streams (n : Nat) (u : LaneUnit → LaneUnit) : (d.onLane n u).streams = d.streams := by unfold Dev.onLane; rfl
@[simp] theorem onLane_heads (n : Nat) (u : LaneUnit → LaneUnit) : (d.onLane n u).heads = d.heads := by unfold Dev.onLane; rfl
@[simp] theorem onLane_tack (n : Nat) (u : LaneUnit → LaneUnit) : (d.onLane n u).tack = d.tack := by unfold Dev.onLane; rfl
@[simp] theorem onLane_links (n : Nat) (u : LaneUnit → LaneUnit) : (d.onLane n u).links = d.links := by unfold Dev.onLane; rfl
@[simp] theorem onLane_ce (n : Nat) (u : LaneUnit → LaneUnit) : (d.onLane n u).ce = d.ce := by unfold Dev.onLane; rfl
@[simp] theorem onLane_engines (n : Nat) (u : LaneUnit → LaneUnit) : (d.onLane n u).engines = d.engines := by unfold Dev.onLane; rfl
@[simp] theorem onLane_pins (n : Nat) (u : LaneUnit → LaneUnit) : (d.onLane n u).pins = d.pins := by unfold Dev.onLane; rfl
@[simp] theorem onLane_harn (n : Nat) (u : LaneUnit → LaneUnit) : (d.onLane n u).harn = d.harn := by unfold Dev.onLane; rfl
@[simp] theorem onLane_halt (n : Nat) (u : LaneUnit → LaneUnit) : (d.onLane n u).halt = d.halt := by unfold Dev.onLane; rfl
@[simp] theorem onLane_cal (n : Nat) (u : LaneUnit → LaneUnit) : (d.onLane n u).cal = d.cal := by unfold Dev.onLane; rfl
@[simp] theorem onLane_power (n : Nat) (u : LaneUnit → LaneUnit) : (d.onLane n u).power = d.power := by unfold Dev.onLane; rfl
@[simp] theorem onLane_tap (n : Nat) (u : LaneUnit → LaneUnit) : (d.onLane n u).tap = d.tap := by unfold Dev.onLane; rfl
@[simp] theorem onLane_team (n : Nat) (u : LaneUnit → LaneUnit) : (d.onLane n u).team = d.team := by unfold Dev.onLane; rfl
@[simp] theorem onLane_sched (n : Nat) (u : LaneUnit → LaneUnit) : (d.onLane n u).sched = d.sched := by unfold Dev.onLane; rfl
@[simp] theorem onLane_guards (n : Nat) (u : LaneUnit → LaneUnit) : (d.onLane n u).guards = d.guards := by unfold Dev.onLane; rfl
@[simp] theorem onLane_judged (n : Nat) (u : LaneUnit → LaneUnit) : (d.onLane n u).judged = d.judged := by unfold Dev.onLane; rfl
@[simp] theorem onLane_flash (n : Nat) (u : LaneUnit → LaneUnit) : (d.onLane n u).flash = d.flash := by unfold Dev.onLane; rfl
@[simp] theorem onLane_sent (n : Nat) (u : LaneUnit → LaneUnit) : (d.onLane n u).sent = d.sent := by unfold Dev.onLane; rfl
@[simp] theorem onLane_fresh (n : Nat) (u : LaneUnit → LaneUnit) : (d.onLane n u).fresh = d.fresh := by unfold Dev.onLane; rfl
@[simp] theorem onLane_word (n : Nat) (u : LaneUnit → LaneUnit) (k : Nat) : (d.onLane n u).word k = d.word k := by simp [Dev.word, Dev.wordBv]
@[simp] theorem onLane_get (n : Nat) (u : LaneUnit → LaneUnit) (f : Fld) : (d.onLane n u).get f = d.get f := by simp [Dev.get]
@[simp] theorem onLane_flag (n : Nat) (u : LaneUnit → LaneUnit) (f : Fld) : (d.onLane n u).flag f = d.flag f := by simp [Dev.flag]
@[simp] theorem onLane_appWord (n : Nat) (u : LaneUnit → LaneUnit) (k : Nat) : (d.onLane n u).appWord k = d.appWord k := by simp [Dev.appWord]
@[simp] theorem onLane_byteAt (n : Nat) (u : LaneUnit → LaneUnit) (k : Nat) : (d.onLane n u).byteAt k = d.byteAt k := by simp [Dev.byteAt]

/-! ### onLink -/

@[simp] theorem onLink_regs (j : Nat) (u : LinkUnit → LinkUnit) : (d.onLink j u).regs = d.regs := by unfold Dev.onLink; rfl
@[simp] theorem onLink_applied (j : Nat) (u : LinkUnit → LinkUnit) : (d.onLink j u).applied = d.applied := by unfold Dev.onLink; rfl
@[simp] theorem onLink_mem (j : Nat) (u : LinkUnit → LinkUnit) : (d.onLink j u).mem = d.mem := by unfold Dev.onLink; rfl
@[simp] theorem onLink_hostMem (j : Nat) (u : LinkUnit → LinkUnit) : (d.onLink j u).hostMem = d.hostMem := by unfold Dev.onLink; rfl
@[simp] theorem onLink_time (j : Nat) (u : LinkUnit → LinkUnit) : (d.onLink j u).time = d.time := by unfold Dev.onLink; rfl
@[simp] theorem onLink_evt (j : Nat) (u : LinkUnit → LinkUnit) : (d.onLink j u).evt = d.evt := by unfold Dev.onLink; rfl
@[simp] theorem onLink_memu (j : Nat) (u : LinkUnit → LinkUnit) : (d.onLink j u).memu = d.memu := by unfold Dev.onLink; rfl
@[simp] theorem onLink_far (j : Nat) (u : LinkUnit → LinkUnit) : (d.onLink j u).far = d.far := by unfold Dev.onLink; rfl
@[simp] theorem onLink_streams (j : Nat) (u : LinkUnit → LinkUnit) : (d.onLink j u).streams = d.streams := by unfold Dev.onLink; rfl
@[simp] theorem onLink_heads (j : Nat) (u : LinkUnit → LinkUnit) : (d.onLink j u).heads = d.heads := by unfold Dev.onLink; rfl
@[simp] theorem onLink_tack (j : Nat) (u : LinkUnit → LinkUnit) : (d.onLink j u).tack = d.tack := by unfold Dev.onLink; rfl
@[simp] theorem onLink_lanes (j : Nat) (u : LinkUnit → LinkUnit) : (d.onLink j u).lanes = d.lanes := by unfold Dev.onLink; rfl
@[simp] theorem onLink_ce (j : Nat) (u : LinkUnit → LinkUnit) : (d.onLink j u).ce = d.ce := by unfold Dev.onLink; rfl
@[simp] theorem onLink_engines (j : Nat) (u : LinkUnit → LinkUnit) : (d.onLink j u).engines = d.engines := by unfold Dev.onLink; rfl
@[simp] theorem onLink_pins (j : Nat) (u : LinkUnit → LinkUnit) : (d.onLink j u).pins = d.pins := by unfold Dev.onLink; rfl
@[simp] theorem onLink_harn (j : Nat) (u : LinkUnit → LinkUnit) : (d.onLink j u).harn = d.harn := by unfold Dev.onLink; rfl
@[simp] theorem onLink_halt (j : Nat) (u : LinkUnit → LinkUnit) : (d.onLink j u).halt = d.halt := by unfold Dev.onLink; rfl
@[simp] theorem onLink_cal (j : Nat) (u : LinkUnit → LinkUnit) : (d.onLink j u).cal = d.cal := by unfold Dev.onLink; rfl
@[simp] theorem onLink_power (j : Nat) (u : LinkUnit → LinkUnit) : (d.onLink j u).power = d.power := by unfold Dev.onLink; rfl
@[simp] theorem onLink_tap (j : Nat) (u : LinkUnit → LinkUnit) : (d.onLink j u).tap = d.tap := by unfold Dev.onLink; rfl
@[simp] theorem onLink_team (j : Nat) (u : LinkUnit → LinkUnit) : (d.onLink j u).team = d.team := by unfold Dev.onLink; rfl
@[simp] theorem onLink_sched (j : Nat) (u : LinkUnit → LinkUnit) : (d.onLink j u).sched = d.sched := by unfold Dev.onLink; rfl
@[simp] theorem onLink_guards (j : Nat) (u : LinkUnit → LinkUnit) : (d.onLink j u).guards = d.guards := by unfold Dev.onLink; rfl
@[simp] theorem onLink_judged (j : Nat) (u : LinkUnit → LinkUnit) : (d.onLink j u).judged = d.judged := by unfold Dev.onLink; rfl
@[simp] theorem onLink_flash (j : Nat) (u : LinkUnit → LinkUnit) : (d.onLink j u).flash = d.flash := by unfold Dev.onLink; rfl
@[simp] theorem onLink_sent (j : Nat) (u : LinkUnit → LinkUnit) : (d.onLink j u).sent = d.sent := by unfold Dev.onLink; rfl
@[simp] theorem onLink_fresh (j : Nat) (u : LinkUnit → LinkUnit) : (d.onLink j u).fresh = d.fresh := by unfold Dev.onLink; rfl
@[simp] theorem onLink_word (j : Nat) (u : LinkUnit → LinkUnit) (k : Nat) : (d.onLink j u).word k = d.word k := by simp [Dev.word, Dev.wordBv]
@[simp] theorem onLink_get (j : Nat) (u : LinkUnit → LinkUnit) (f : Fld) : (d.onLink j u).get f = d.get f := by simp [Dev.get]
@[simp] theorem onLink_flag (j : Nat) (u : LinkUnit → LinkUnit) (f : Fld) : (d.onLink j u).flag f = d.flag f := by simp [Dev.flag]
@[simp] theorem onLink_appWord (j : Nat) (u : LinkUnit → LinkUnit) (k : Nat) : (d.onLink j u).appWord k = d.appWord k := by simp [Dev.appWord]
@[simp] theorem onLink_byteAt (j : Nat) (u : LinkUnit → LinkUnit) (k : Nat) : (d.onLink j u).byteAt k = d.byteAt k := by simp [Dev.byteAt]

/-! ### onStream -/

@[simp] theorem onStream_regs (n : Nat) (u : StreamUnit → StreamUnit) : (d.onStream n u).regs = d.regs := by unfold Dev.onStream; rfl
@[simp] theorem onStream_applied (n : Nat) (u : StreamUnit → StreamUnit) : (d.onStream n u).applied = d.applied := by unfold Dev.onStream; rfl
@[simp] theorem onStream_mem (n : Nat) (u : StreamUnit → StreamUnit) : (d.onStream n u).mem = d.mem := by unfold Dev.onStream; rfl
@[simp] theorem onStream_hostMem (n : Nat) (u : StreamUnit → StreamUnit) : (d.onStream n u).hostMem = d.hostMem := by unfold Dev.onStream; rfl
@[simp] theorem onStream_time (n : Nat) (u : StreamUnit → StreamUnit) : (d.onStream n u).time = d.time := by unfold Dev.onStream; rfl
@[simp] theorem onStream_evt (n : Nat) (u : StreamUnit → StreamUnit) : (d.onStream n u).evt = d.evt := by unfold Dev.onStream; rfl
@[simp] theorem onStream_memu (n : Nat) (u : StreamUnit → StreamUnit) : (d.onStream n u).memu = d.memu := by unfold Dev.onStream; rfl
@[simp] theorem onStream_far (n : Nat) (u : StreamUnit → StreamUnit) : (d.onStream n u).far = d.far := by unfold Dev.onStream; rfl
@[simp] theorem onStream_heads (n : Nat) (u : StreamUnit → StreamUnit) : (d.onStream n u).heads = d.heads := by unfold Dev.onStream; rfl
@[simp] theorem onStream_tack (n : Nat) (u : StreamUnit → StreamUnit) : (d.onStream n u).tack = d.tack := by unfold Dev.onStream; rfl
@[simp] theorem onStream_lanes (n : Nat) (u : StreamUnit → StreamUnit) : (d.onStream n u).lanes = d.lanes := by unfold Dev.onStream; rfl
@[simp] theorem onStream_links (n : Nat) (u : StreamUnit → StreamUnit) : (d.onStream n u).links = d.links := by unfold Dev.onStream; rfl
@[simp] theorem onStream_ce (n : Nat) (u : StreamUnit → StreamUnit) : (d.onStream n u).ce = d.ce := by unfold Dev.onStream; rfl
@[simp] theorem onStream_engines (n : Nat) (u : StreamUnit → StreamUnit) : (d.onStream n u).engines = d.engines := by unfold Dev.onStream; rfl
@[simp] theorem onStream_pins (n : Nat) (u : StreamUnit → StreamUnit) : (d.onStream n u).pins = d.pins := by unfold Dev.onStream; rfl
@[simp] theorem onStream_harn (n : Nat) (u : StreamUnit → StreamUnit) : (d.onStream n u).harn = d.harn := by unfold Dev.onStream; rfl
@[simp] theorem onStream_halt (n : Nat) (u : StreamUnit → StreamUnit) : (d.onStream n u).halt = d.halt := by unfold Dev.onStream; rfl
@[simp] theorem onStream_cal (n : Nat) (u : StreamUnit → StreamUnit) : (d.onStream n u).cal = d.cal := by unfold Dev.onStream; rfl
@[simp] theorem onStream_power (n : Nat) (u : StreamUnit → StreamUnit) : (d.onStream n u).power = d.power := by unfold Dev.onStream; rfl
@[simp] theorem onStream_tap (n : Nat) (u : StreamUnit → StreamUnit) : (d.onStream n u).tap = d.tap := by unfold Dev.onStream; rfl
@[simp] theorem onStream_team (n : Nat) (u : StreamUnit → StreamUnit) : (d.onStream n u).team = d.team := by unfold Dev.onStream; rfl
@[simp] theorem onStream_sched (n : Nat) (u : StreamUnit → StreamUnit) : (d.onStream n u).sched = d.sched := by unfold Dev.onStream; rfl
@[simp] theorem onStream_guards (n : Nat) (u : StreamUnit → StreamUnit) : (d.onStream n u).guards = d.guards := by unfold Dev.onStream; rfl
@[simp] theorem onStream_judged (n : Nat) (u : StreamUnit → StreamUnit) : (d.onStream n u).judged = d.judged := by unfold Dev.onStream; rfl
@[simp] theorem onStream_flash (n : Nat) (u : StreamUnit → StreamUnit) : (d.onStream n u).flash = d.flash := by unfold Dev.onStream; rfl
@[simp] theorem onStream_sent (n : Nat) (u : StreamUnit → StreamUnit) : (d.onStream n u).sent = d.sent := by unfold Dev.onStream; rfl
@[simp] theorem onStream_fresh (n : Nat) (u : StreamUnit → StreamUnit) : (d.onStream n u).fresh = d.fresh := by unfold Dev.onStream; rfl
@[simp] theorem onStream_word (n : Nat) (u : StreamUnit → StreamUnit) (k : Nat) : (d.onStream n u).word k = d.word k := by simp [Dev.word, Dev.wordBv]
@[simp] theorem onStream_get (n : Nat) (u : StreamUnit → StreamUnit) (f : Fld) : (d.onStream n u).get f = d.get f := by simp [Dev.get]
@[simp] theorem onStream_flag (n : Nat) (u : StreamUnit → StreamUnit) (f : Fld) : (d.onStream n u).flag f = d.flag f := by simp [Dev.flag]
@[simp] theorem onStream_appWord (n : Nat) (u : StreamUnit → StreamUnit) (k : Nat) : (d.onStream n u).appWord k = d.appWord k := by simp [Dev.appWord]
@[simp] theorem onStream_byteAt (n : Nat) (u : StreamUnit → StreamUnit) (k : Nat) : (d.onStream n u).byteAt k = d.byteAt k := by simp [Dev.byteAt]

/-! ### onTeam -/

@[simp] theorem onTeam_regs (u : TeamUnit → TeamUnit) : (d.onTeam u).regs = d.regs := by unfold Dev.onTeam; rfl
@[simp] theorem onTeam_applied (u : TeamUnit → TeamUnit) : (d.onTeam u).applied = d.applied := by unfold Dev.onTeam; rfl
@[simp] theorem onTeam_mem (u : TeamUnit → TeamUnit) : (d.onTeam u).mem = d.mem := by unfold Dev.onTeam; rfl
@[simp] theorem onTeam_hostMem (u : TeamUnit → TeamUnit) : (d.onTeam u).hostMem = d.hostMem := by unfold Dev.onTeam; rfl
@[simp] theorem onTeam_time (u : TeamUnit → TeamUnit) : (d.onTeam u).time = d.time := by unfold Dev.onTeam; rfl
@[simp] theorem onTeam_evt (u : TeamUnit → TeamUnit) : (d.onTeam u).evt = d.evt := by unfold Dev.onTeam; rfl
@[simp] theorem onTeam_memu (u : TeamUnit → TeamUnit) : (d.onTeam u).memu = d.memu := by unfold Dev.onTeam; rfl
@[simp] theorem onTeam_far (u : TeamUnit → TeamUnit) : (d.onTeam u).far = d.far := by unfold Dev.onTeam; rfl
@[simp] theorem onTeam_streams (u : TeamUnit → TeamUnit) : (d.onTeam u).streams = d.streams := by unfold Dev.onTeam; rfl
@[simp] theorem onTeam_heads (u : TeamUnit → TeamUnit) : (d.onTeam u).heads = d.heads := by unfold Dev.onTeam; rfl
@[simp] theorem onTeam_tack (u : TeamUnit → TeamUnit) : (d.onTeam u).tack = d.tack := by unfold Dev.onTeam; rfl
@[simp] theorem onTeam_lanes (u : TeamUnit → TeamUnit) : (d.onTeam u).lanes = d.lanes := by unfold Dev.onTeam; rfl
@[simp] theorem onTeam_links (u : TeamUnit → TeamUnit) : (d.onTeam u).links = d.links := by unfold Dev.onTeam; rfl
@[simp] theorem onTeam_ce (u : TeamUnit → TeamUnit) : (d.onTeam u).ce = d.ce := by unfold Dev.onTeam; rfl
@[simp] theorem onTeam_engines (u : TeamUnit → TeamUnit) : (d.onTeam u).engines = d.engines := by unfold Dev.onTeam; rfl
@[simp] theorem onTeam_pins (u : TeamUnit → TeamUnit) : (d.onTeam u).pins = d.pins := by unfold Dev.onTeam; rfl
@[simp] theorem onTeam_harn (u : TeamUnit → TeamUnit) : (d.onTeam u).harn = d.harn := by unfold Dev.onTeam; rfl
@[simp] theorem onTeam_halt (u : TeamUnit → TeamUnit) : (d.onTeam u).halt = d.halt := by unfold Dev.onTeam; rfl
@[simp] theorem onTeam_cal (u : TeamUnit → TeamUnit) : (d.onTeam u).cal = d.cal := by unfold Dev.onTeam; rfl
@[simp] theorem onTeam_power (u : TeamUnit → TeamUnit) : (d.onTeam u).power = d.power := by unfold Dev.onTeam; rfl
@[simp] theorem onTeam_tap (u : TeamUnit → TeamUnit) : (d.onTeam u).tap = d.tap := by unfold Dev.onTeam; rfl
@[simp] theorem onTeam_sched (u : TeamUnit → TeamUnit) : (d.onTeam u).sched = d.sched := by unfold Dev.onTeam; rfl
@[simp] theorem onTeam_guards (u : TeamUnit → TeamUnit) : (d.onTeam u).guards = d.guards := by unfold Dev.onTeam; rfl
@[simp] theorem onTeam_judged (u : TeamUnit → TeamUnit) : (d.onTeam u).judged = d.judged := by unfold Dev.onTeam; rfl
@[simp] theorem onTeam_flash (u : TeamUnit → TeamUnit) : (d.onTeam u).flash = d.flash := by unfold Dev.onTeam; rfl
@[simp] theorem onTeam_sent (u : TeamUnit → TeamUnit) : (d.onTeam u).sent = d.sent := by unfold Dev.onTeam; rfl
@[simp] theorem onTeam_fresh (u : TeamUnit → TeamUnit) : (d.onTeam u).fresh = d.fresh := by unfold Dev.onTeam; rfl
@[simp] theorem onTeam_word (u : TeamUnit → TeamUnit) (k : Nat) : (d.onTeam u).word k = d.word k := by simp [Dev.word, Dev.wordBv]
@[simp] theorem onTeam_get (u : TeamUnit → TeamUnit) (f : Fld) : (d.onTeam u).get f = d.get f := by simp [Dev.get]
@[simp] theorem onTeam_flag (u : TeamUnit → TeamUnit) (f : Fld) : (d.onTeam u).flag f = d.flag f := by simp [Dev.flag]
@[simp] theorem onTeam_appWord (u : TeamUnit → TeamUnit) (k : Nat) : (d.onTeam u).appWord k = d.appWord k := by simp [Dev.appWord]
@[simp] theorem onTeam_byteAt (u : TeamUnit → TeamUnit) (k : Nat) : (d.onTeam u).byteAt k = d.byteAt k := by simp [Dev.byteAt]

/-! ### guardFail -/

@[simp] theorem guardFail_regs (n c : Nat) : (d.guardFail n c).regs = d.regs := by unfold Dev.guardFail; rfl
@[simp] theorem guardFail_applied (n c : Nat) : (d.guardFail n c).applied = d.applied := by unfold Dev.guardFail; rfl
@[simp] theorem guardFail_mem (n c : Nat) : (d.guardFail n c).mem = d.mem := by unfold Dev.guardFail; rfl
@[simp] theorem guardFail_hostMem (n c : Nat) : (d.guardFail n c).hostMem = d.hostMem := by unfold Dev.guardFail; rfl
@[simp] theorem guardFail_time (n c : Nat) : (d.guardFail n c).time = d.time := by unfold Dev.guardFail; rfl
@[simp] theorem guardFail_evt (n c : Nat) : (d.guardFail n c).evt = d.evt := by unfold Dev.guardFail; rfl
@[simp] theorem guardFail_memu (n c : Nat) : (d.guardFail n c).memu = d.memu := by unfold Dev.guardFail; rfl
@[simp] theorem guardFail_far (n c : Nat) : (d.guardFail n c).far = d.far := by unfold Dev.guardFail; rfl
@[simp] theorem guardFail_streams (n c : Nat) : (d.guardFail n c).streams = d.streams := by unfold Dev.guardFail; rfl
@[simp] theorem guardFail_heads (n c : Nat) : (d.guardFail n c).heads = d.heads := by unfold Dev.guardFail; rfl
@[simp] theorem guardFail_tack (n c : Nat) : (d.guardFail n c).tack = d.tack := by unfold Dev.guardFail; rfl
@[simp] theorem guardFail_lanes (n c : Nat) : (d.guardFail n c).lanes = d.lanes := by unfold Dev.guardFail; rfl
@[simp] theorem guardFail_links (n c : Nat) : (d.guardFail n c).links = d.links := by unfold Dev.guardFail; rfl
@[simp] theorem guardFail_ce (n c : Nat) : (d.guardFail n c).ce = d.ce := by unfold Dev.guardFail; rfl
@[simp] theorem guardFail_engines (n c : Nat) : (d.guardFail n c).engines = d.engines := by unfold Dev.guardFail; rfl
@[simp] theorem guardFail_pins (n c : Nat) : (d.guardFail n c).pins = d.pins := by unfold Dev.guardFail; rfl
@[simp] theorem guardFail_harn (n c : Nat) : (d.guardFail n c).harn = d.harn := by unfold Dev.guardFail; rfl
@[simp] theorem guardFail_halt (n c : Nat) : (d.guardFail n c).halt = d.halt := by unfold Dev.guardFail; rfl
@[simp] theorem guardFail_cal (n c : Nat) : (d.guardFail n c).cal = d.cal := by unfold Dev.guardFail; rfl
@[simp] theorem guardFail_power (n c : Nat) : (d.guardFail n c).power = d.power := by unfold Dev.guardFail; rfl
@[simp] theorem guardFail_tap (n c : Nat) : (d.guardFail n c).tap = d.tap := by unfold Dev.guardFail; rfl
@[simp] theorem guardFail_team (n c : Nat) : (d.guardFail n c).team = d.team := by unfold Dev.guardFail; rfl
@[simp] theorem guardFail_sched (n c : Nat) : (d.guardFail n c).sched = d.sched := by unfold Dev.guardFail; rfl
@[simp] theorem guardFail_judged (n c : Nat) : (d.guardFail n c).judged = d.judged := by unfold Dev.guardFail; rfl
@[simp] theorem guardFail_flash (n c : Nat) : (d.guardFail n c).flash = d.flash := by unfold Dev.guardFail; rfl
@[simp] theorem guardFail_sent (n c : Nat) : (d.guardFail n c).sent = d.sent := by unfold Dev.guardFail; rfl
@[simp] theorem guardFail_fresh (n c : Nat) : (d.guardFail n c).fresh = d.fresh := by unfold Dev.guardFail; rfl
@[simp] theorem guardFail_word (n c : Nat) (k : Nat) : (d.guardFail n c).word k = d.word k := by simp [Dev.word, Dev.wordBv]
@[simp] theorem guardFail_get (n c : Nat) (f : Fld) : (d.guardFail n c).get f = d.get f := by simp [Dev.get]
@[simp] theorem guardFail_flag (n c : Nat) (f : Fld) : (d.guardFail n c).flag f = d.flag f := by simp [Dev.flag]
@[simp] theorem guardFail_appWord (n c : Nat) (k : Nat) : (d.guardFail n c).appWord k = d.appWord k := by simp [Dev.appWord]
@[simp] theorem guardFail_byteAt (n c : Nat) (k : Nat) : (d.guardFail n c).byteAt k = d.byteAt k := by simp [Dev.byteAt]

/-! ### onTap -/

@[simp] theorem onTap_regs (u : TapUnit → TapUnit) : (d.onTap u).regs = d.regs := by unfold Dev.onTap; rfl
@[simp] theorem onTap_applied (u : TapUnit → TapUnit) : (d.onTap u).applied = d.applied := by unfold Dev.onTap; rfl
@[simp] theorem onTap_mem (u : TapUnit → TapUnit) : (d.onTap u).mem = d.mem := by unfold Dev.onTap; rfl
@[simp] theorem onTap_hostMem (u : TapUnit → TapUnit) : (d.onTap u).hostMem = d.hostMem := by unfold Dev.onTap; rfl
@[simp] theorem onTap_time (u : TapUnit → TapUnit) : (d.onTap u).time = d.time := by unfold Dev.onTap; rfl
@[simp] theorem onTap_evt (u : TapUnit → TapUnit) : (d.onTap u).evt = d.evt := by unfold Dev.onTap; rfl
@[simp] theorem onTap_memu (u : TapUnit → TapUnit) : (d.onTap u).memu = d.memu := by unfold Dev.onTap; rfl
@[simp] theorem onTap_far (u : TapUnit → TapUnit) : (d.onTap u).far = d.far := by unfold Dev.onTap; rfl
@[simp] theorem onTap_streams (u : TapUnit → TapUnit) : (d.onTap u).streams = d.streams := by unfold Dev.onTap; rfl
@[simp] theorem onTap_heads (u : TapUnit → TapUnit) : (d.onTap u).heads = d.heads := by unfold Dev.onTap; rfl
@[simp] theorem onTap_tack (u : TapUnit → TapUnit) : (d.onTap u).tack = d.tack := by unfold Dev.onTap; rfl
@[simp] theorem onTap_lanes (u : TapUnit → TapUnit) : (d.onTap u).lanes = d.lanes := by unfold Dev.onTap; rfl
@[simp] theorem onTap_links (u : TapUnit → TapUnit) : (d.onTap u).links = d.links := by unfold Dev.onTap; rfl
@[simp] theorem onTap_ce (u : TapUnit → TapUnit) : (d.onTap u).ce = d.ce := by unfold Dev.onTap; rfl
@[simp] theorem onTap_engines (u : TapUnit → TapUnit) : (d.onTap u).engines = d.engines := by unfold Dev.onTap; rfl
@[simp] theorem onTap_pins (u : TapUnit → TapUnit) : (d.onTap u).pins = d.pins := by unfold Dev.onTap; rfl
@[simp] theorem onTap_harn (u : TapUnit → TapUnit) : (d.onTap u).harn = d.harn := by unfold Dev.onTap; rfl
@[simp] theorem onTap_halt (u : TapUnit → TapUnit) : (d.onTap u).halt = d.halt := by unfold Dev.onTap; rfl
@[simp] theorem onTap_cal (u : TapUnit → TapUnit) : (d.onTap u).cal = d.cal := by unfold Dev.onTap; rfl
@[simp] theorem onTap_power (u : TapUnit → TapUnit) : (d.onTap u).power = d.power := by unfold Dev.onTap; rfl
@[simp] theorem onTap_team (u : TapUnit → TapUnit) : (d.onTap u).team = d.team := by unfold Dev.onTap; rfl
@[simp] theorem onTap_sched (u : TapUnit → TapUnit) : (d.onTap u).sched = d.sched := by unfold Dev.onTap; rfl
@[simp] theorem onTap_guards (u : TapUnit → TapUnit) : (d.onTap u).guards = d.guards := by unfold Dev.onTap; rfl
@[simp] theorem onTap_judged (u : TapUnit → TapUnit) : (d.onTap u).judged = d.judged := by unfold Dev.onTap; rfl
@[simp] theorem onTap_flash (u : TapUnit → TapUnit) : (d.onTap u).flash = d.flash := by unfold Dev.onTap; rfl
@[simp] theorem onTap_sent (u : TapUnit → TapUnit) : (d.onTap u).sent = d.sent := by unfold Dev.onTap; rfl
@[simp] theorem onTap_fresh (u : TapUnit → TapUnit) : (d.onTap u).fresh = d.fresh := by unfold Dev.onTap; rfl
@[simp] theorem onTap_word (u : TapUnit → TapUnit) (k : Nat) : (d.onTap u).word k = d.word k := by simp [Dev.word, Dev.wordBv]
@[simp] theorem onTap_get (u : TapUnit → TapUnit) (f : Fld) : (d.onTap u).get f = d.get f := by simp [Dev.get]
@[simp] theorem onTap_flag (u : TapUnit → TapUnit) (f : Fld) : (d.onTap u).flag f = d.flag f := by simp [Dev.flag]
@[simp] theorem onTap_appWord (u : TapUnit → TapUnit) (k : Nat) : (d.onTap u).appWord k = d.appWord k := by simp [Dev.appWord]
@[simp] theorem onTap_byteAt (u : TapUnit → TapUnit) (k : Nat) : (d.onTap u).byteAt k = d.byteAt k := by simp [Dev.byteAt]

/-! ### onCal -/

@[simp] theorem onCal_regs (u : CalUnit → CalUnit) : (d.onCal u).regs = d.regs := by unfold Dev.onCal; rfl
@[simp] theorem onCal_applied (u : CalUnit → CalUnit) : (d.onCal u).applied = d.applied := by unfold Dev.onCal; rfl
@[simp] theorem onCal_mem (u : CalUnit → CalUnit) : (d.onCal u).mem = d.mem := by unfold Dev.onCal; rfl
@[simp] theorem onCal_hostMem (u : CalUnit → CalUnit) : (d.onCal u).hostMem = d.hostMem := by unfold Dev.onCal; rfl
@[simp] theorem onCal_time (u : CalUnit → CalUnit) : (d.onCal u).time = d.time := by unfold Dev.onCal; rfl
@[simp] theorem onCal_evt (u : CalUnit → CalUnit) : (d.onCal u).evt = d.evt := by unfold Dev.onCal; rfl
@[simp] theorem onCal_memu (u : CalUnit → CalUnit) : (d.onCal u).memu = d.memu := by unfold Dev.onCal; rfl
@[simp] theorem onCal_far (u : CalUnit → CalUnit) : (d.onCal u).far = d.far := by unfold Dev.onCal; rfl
@[simp] theorem onCal_streams (u : CalUnit → CalUnit) : (d.onCal u).streams = d.streams := by unfold Dev.onCal; rfl
@[simp] theorem onCal_heads (u : CalUnit → CalUnit) : (d.onCal u).heads = d.heads := by unfold Dev.onCal; rfl
@[simp] theorem onCal_tack (u : CalUnit → CalUnit) : (d.onCal u).tack = d.tack := by unfold Dev.onCal; rfl
@[simp] theorem onCal_lanes (u : CalUnit → CalUnit) : (d.onCal u).lanes = d.lanes := by unfold Dev.onCal; rfl
@[simp] theorem onCal_links (u : CalUnit → CalUnit) : (d.onCal u).links = d.links := by unfold Dev.onCal; rfl
@[simp] theorem onCal_ce (u : CalUnit → CalUnit) : (d.onCal u).ce = d.ce := by unfold Dev.onCal; rfl
@[simp] theorem onCal_engines (u : CalUnit → CalUnit) : (d.onCal u).engines = d.engines := by unfold Dev.onCal; rfl
@[simp] theorem onCal_pins (u : CalUnit → CalUnit) : (d.onCal u).pins = d.pins := by unfold Dev.onCal; rfl
@[simp] theorem onCal_harn (u : CalUnit → CalUnit) : (d.onCal u).harn = d.harn := by unfold Dev.onCal; rfl
@[simp] theorem onCal_halt (u : CalUnit → CalUnit) : (d.onCal u).halt = d.halt := by unfold Dev.onCal; rfl
@[simp] theorem onCal_power (u : CalUnit → CalUnit) : (d.onCal u).power = d.power := by unfold Dev.onCal; rfl
@[simp] theorem onCal_tap (u : CalUnit → CalUnit) : (d.onCal u).tap = d.tap := by unfold Dev.onCal; rfl
@[simp] theorem onCal_team (u : CalUnit → CalUnit) : (d.onCal u).team = d.team := by unfold Dev.onCal; rfl
@[simp] theorem onCal_sched (u : CalUnit → CalUnit) : (d.onCal u).sched = d.sched := by unfold Dev.onCal; rfl
@[simp] theorem onCal_guards (u : CalUnit → CalUnit) : (d.onCal u).guards = d.guards := by unfold Dev.onCal; rfl
@[simp] theorem onCal_judged (u : CalUnit → CalUnit) : (d.onCal u).judged = d.judged := by unfold Dev.onCal; rfl
@[simp] theorem onCal_flash (u : CalUnit → CalUnit) : (d.onCal u).flash = d.flash := by unfold Dev.onCal; rfl
@[simp] theorem onCal_sent (u : CalUnit → CalUnit) : (d.onCal u).sent = d.sent := by unfold Dev.onCal; rfl
@[simp] theorem onCal_fresh (u : CalUnit → CalUnit) : (d.onCal u).fresh = d.fresh := by unfold Dev.onCal; rfl
@[simp] theorem onCal_word (u : CalUnit → CalUnit) (k : Nat) : (d.onCal u).word k = d.word k := by simp [Dev.word, Dev.wordBv]
@[simp] theorem onCal_get (u : CalUnit → CalUnit) (f : Fld) : (d.onCal u).get f = d.get f := by simp [Dev.get]
@[simp] theorem onCal_flag (u : CalUnit → CalUnit) (f : Fld) : (d.onCal u).flag f = d.flag f := by simp [Dev.flag]
@[simp] theorem onCal_appWord (u : CalUnit → CalUnit) (k : Nat) : (d.onCal u).appWord k = d.appWord k := by simp [Dev.appWord]
@[simp] theorem onCal_byteAt (u : CalUnit → CalUnit) (k : Nat) : (d.onCal u).byteAt k = d.byteAt k := by simp [Dev.byteAt]

/-! ### onTb -/

@[simp] theorem onTb_regs (n : Nat) (u : TimeBase → TimeBase) : (d.onTb n u).regs = d.regs := by unfold Dev.onTb; rfl
@[simp] theorem onTb_applied (n : Nat) (u : TimeBase → TimeBase) : (d.onTb n u).applied = d.applied := by unfold Dev.onTb; rfl
@[simp] theorem onTb_mem (n : Nat) (u : TimeBase → TimeBase) : (d.onTb n u).mem = d.mem := by unfold Dev.onTb; rfl
@[simp] theorem onTb_hostMem (n : Nat) (u : TimeBase → TimeBase) : (d.onTb n u).hostMem = d.hostMem := by unfold Dev.onTb; rfl
@[simp] theorem onTb_evt (n : Nat) (u : TimeBase → TimeBase) : (d.onTb n u).evt = d.evt := by unfold Dev.onTb; rfl
@[simp] theorem onTb_memu (n : Nat) (u : TimeBase → TimeBase) : (d.onTb n u).memu = d.memu := by unfold Dev.onTb; rfl
@[simp] theorem onTb_far (n : Nat) (u : TimeBase → TimeBase) : (d.onTb n u).far = d.far := by unfold Dev.onTb; rfl
@[simp] theorem onTb_streams (n : Nat) (u : TimeBase → TimeBase) : (d.onTb n u).streams = d.streams := by unfold Dev.onTb; rfl
@[simp] theorem onTb_heads (n : Nat) (u : TimeBase → TimeBase) : (d.onTb n u).heads = d.heads := by unfold Dev.onTb; rfl
@[simp] theorem onTb_tack (n : Nat) (u : TimeBase → TimeBase) : (d.onTb n u).tack = d.tack := by unfold Dev.onTb; rfl
@[simp] theorem onTb_lanes (n : Nat) (u : TimeBase → TimeBase) : (d.onTb n u).lanes = d.lanes := by unfold Dev.onTb; rfl
@[simp] theorem onTb_links (n : Nat) (u : TimeBase → TimeBase) : (d.onTb n u).links = d.links := by unfold Dev.onTb; rfl
@[simp] theorem onTb_ce (n : Nat) (u : TimeBase → TimeBase) : (d.onTb n u).ce = d.ce := by unfold Dev.onTb; rfl
@[simp] theorem onTb_engines (n : Nat) (u : TimeBase → TimeBase) : (d.onTb n u).engines = d.engines := by unfold Dev.onTb; rfl
@[simp] theorem onTb_pins (n : Nat) (u : TimeBase → TimeBase) : (d.onTb n u).pins = d.pins := by unfold Dev.onTb; rfl
@[simp] theorem onTb_harn (n : Nat) (u : TimeBase → TimeBase) : (d.onTb n u).harn = d.harn := by unfold Dev.onTb; rfl
@[simp] theorem onTb_halt (n : Nat) (u : TimeBase → TimeBase) : (d.onTb n u).halt = d.halt := by unfold Dev.onTb; rfl
@[simp] theorem onTb_cal (n : Nat) (u : TimeBase → TimeBase) : (d.onTb n u).cal = d.cal := by unfold Dev.onTb; rfl
@[simp] theorem onTb_power (n : Nat) (u : TimeBase → TimeBase) : (d.onTb n u).power = d.power := by unfold Dev.onTb; rfl
@[simp] theorem onTb_tap (n : Nat) (u : TimeBase → TimeBase) : (d.onTb n u).tap = d.tap := by unfold Dev.onTb; rfl
@[simp] theorem onTb_team (n : Nat) (u : TimeBase → TimeBase) : (d.onTb n u).team = d.team := by unfold Dev.onTb; rfl
@[simp] theorem onTb_sched (n : Nat) (u : TimeBase → TimeBase) : (d.onTb n u).sched = d.sched := by unfold Dev.onTb; rfl
@[simp] theorem onTb_guards (n : Nat) (u : TimeBase → TimeBase) : (d.onTb n u).guards = d.guards := by unfold Dev.onTb; rfl
@[simp] theorem onTb_judged (n : Nat) (u : TimeBase → TimeBase) : (d.onTb n u).judged = d.judged := by unfold Dev.onTb; rfl
@[simp] theorem onTb_flash (n : Nat) (u : TimeBase → TimeBase) : (d.onTb n u).flash = d.flash := by unfold Dev.onTb; rfl
@[simp] theorem onTb_sent (n : Nat) (u : TimeBase → TimeBase) : (d.onTb n u).sent = d.sent := by unfold Dev.onTb; rfl
@[simp] theorem onTb_fresh (n : Nat) (u : TimeBase → TimeBase) : (d.onTb n u).fresh = d.fresh := by unfold Dev.onTb; rfl
@[simp] theorem onTb_word (n : Nat) (u : TimeBase → TimeBase) (k : Nat) : (d.onTb n u).word k = d.word k := by simp [Dev.word, Dev.wordBv]
@[simp] theorem onTb_get (n : Nat) (u : TimeBase → TimeBase) (f : Fld) : (d.onTb n u).get f = d.get f := by simp [Dev.get]
@[simp] theorem onTb_flag (n : Nat) (u : TimeBase → TimeBase) (f : Fld) : (d.onTb n u).flag f = d.flag f := by simp [Dev.flag]
@[simp] theorem onTb_appWord (n : Nat) (u : TimeBase → TimeBase) (k : Nat) : (d.onTb n u).appWord k = d.appWord k := by simp [Dev.appWord]
@[simp] theorem onTb_byteAt (n : Nat) (u : TimeBase → TimeBase) (k : Nat) : (d.onTb n u).byteAt k = d.byteAt k := by simp [Dev.byteAt]

/-! ### onVec -/

@[simp] theorem onVec_regs (v : Nat) (u : Vec → Vec) : (d.onVec v u).regs = d.regs := by unfold Dev.onVec; rfl
@[simp] theorem onVec_applied (v : Nat) (u : Vec → Vec) : (d.onVec v u).applied = d.applied := by unfold Dev.onVec; rfl
@[simp] theorem onVec_mem (v : Nat) (u : Vec → Vec) : (d.onVec v u).mem = d.mem := by unfold Dev.onVec; rfl
@[simp] theorem onVec_hostMem (v : Nat) (u : Vec → Vec) : (d.onVec v u).hostMem = d.hostMem := by unfold Dev.onVec; rfl
@[simp] theorem onVec_time (v : Nat) (u : Vec → Vec) : (d.onVec v u).time = d.time := by unfold Dev.onVec; rfl
@[simp] theorem onVec_memu (v : Nat) (u : Vec → Vec) : (d.onVec v u).memu = d.memu := by unfold Dev.onVec; rfl
@[simp] theorem onVec_far (v : Nat) (u : Vec → Vec) : (d.onVec v u).far = d.far := by unfold Dev.onVec; rfl
@[simp] theorem onVec_streams (v : Nat) (u : Vec → Vec) : (d.onVec v u).streams = d.streams := by unfold Dev.onVec; rfl
@[simp] theorem onVec_heads (v : Nat) (u : Vec → Vec) : (d.onVec v u).heads = d.heads := by unfold Dev.onVec; rfl
@[simp] theorem onVec_tack (v : Nat) (u : Vec → Vec) : (d.onVec v u).tack = d.tack := by unfold Dev.onVec; rfl
@[simp] theorem onVec_lanes (v : Nat) (u : Vec → Vec) : (d.onVec v u).lanes = d.lanes := by unfold Dev.onVec; rfl
@[simp] theorem onVec_links (v : Nat) (u : Vec → Vec) : (d.onVec v u).links = d.links := by unfold Dev.onVec; rfl
@[simp] theorem onVec_ce (v : Nat) (u : Vec → Vec) : (d.onVec v u).ce = d.ce := by unfold Dev.onVec; rfl
@[simp] theorem onVec_engines (v : Nat) (u : Vec → Vec) : (d.onVec v u).engines = d.engines := by unfold Dev.onVec; rfl
@[simp] theorem onVec_pins (v : Nat) (u : Vec → Vec) : (d.onVec v u).pins = d.pins := by unfold Dev.onVec; rfl
@[simp] theorem onVec_harn (v : Nat) (u : Vec → Vec) : (d.onVec v u).harn = d.harn := by unfold Dev.onVec; rfl
@[simp] theorem onVec_halt (v : Nat) (u : Vec → Vec) : (d.onVec v u).halt = d.halt := by unfold Dev.onVec; rfl
@[simp] theorem onVec_cal (v : Nat) (u : Vec → Vec) : (d.onVec v u).cal = d.cal := by unfold Dev.onVec; rfl
@[simp] theorem onVec_power (v : Nat) (u : Vec → Vec) : (d.onVec v u).power = d.power := by unfold Dev.onVec; rfl
@[simp] theorem onVec_tap (v : Nat) (u : Vec → Vec) : (d.onVec v u).tap = d.tap := by unfold Dev.onVec; rfl
@[simp] theorem onVec_team (v : Nat) (u : Vec → Vec) : (d.onVec v u).team = d.team := by unfold Dev.onVec; rfl
@[simp] theorem onVec_sched (v : Nat) (u : Vec → Vec) : (d.onVec v u).sched = d.sched := by unfold Dev.onVec; rfl
@[simp] theorem onVec_guards (v : Nat) (u : Vec → Vec) : (d.onVec v u).guards = d.guards := by unfold Dev.onVec; rfl
@[simp] theorem onVec_judged (v : Nat) (u : Vec → Vec) : (d.onVec v u).judged = d.judged := by unfold Dev.onVec; rfl
@[simp] theorem onVec_flash (v : Nat) (u : Vec → Vec) : (d.onVec v u).flash = d.flash := by unfold Dev.onVec; rfl
@[simp] theorem onVec_sent (v : Nat) (u : Vec → Vec) : (d.onVec v u).sent = d.sent := by unfold Dev.onVec; rfl
@[simp] theorem onVec_fresh (v : Nat) (u : Vec → Vec) : (d.onVec v u).fresh = d.fresh := by unfold Dev.onVec; rfl
@[simp] theorem onVec_word (v : Nat) (u : Vec → Vec) (k : Nat) : (d.onVec v u).word k = d.word k := by simp [Dev.word, Dev.wordBv]
@[simp] theorem onVec_get (v : Nat) (u : Vec → Vec) (f : Fld) : (d.onVec v u).get f = d.get f := by simp [Dev.get]
@[simp] theorem onVec_flag (v : Nat) (u : Vec → Vec) (f : Fld) : (d.onVec v u).flag f = d.flag f := by simp [Dev.flag]
@[simp] theorem onVec_appWord (v : Nat) (u : Vec → Vec) (k : Nat) : (d.onVec v u).appWord k = d.appWord k := by simp [Dev.appWord]
@[simp] theorem onVec_byteAt (v : Nat) (u : Vec → Vec) (k : Nat) : (d.onVec v u).byteAt k = d.byteAt k := by simp [Dev.byteAt]

/-! ### causeSet -/

@[simp] theorem causeSet_regs (status b inst : Nat) : (d.causeSet status b inst).regs = d.regs := by unfold Dev.causeSet; rfl
@[simp] theorem causeSet_applied (status b inst : Nat) : (d.causeSet status b inst).applied = d.applied := by unfold Dev.causeSet; rfl
@[simp] theorem causeSet_mem (status b inst : Nat) : (d.causeSet status b inst).mem = d.mem := by unfold Dev.causeSet; rfl
@[simp] theorem causeSet_hostMem (status b inst : Nat) : (d.causeSet status b inst).hostMem = d.hostMem := by unfold Dev.causeSet; rfl
@[simp] theorem causeSet_time (status b inst : Nat) : (d.causeSet status b inst).time = d.time := by unfold Dev.causeSet; rfl
@[simp] theorem causeSet_memu (status b inst : Nat) : (d.causeSet status b inst).memu = d.memu := by unfold Dev.causeSet; rfl
@[simp] theorem causeSet_far (status b inst : Nat) : (d.causeSet status b inst).far = d.far := by unfold Dev.causeSet; rfl
@[simp] theorem causeSet_streams (status b inst : Nat) : (d.causeSet status b inst).streams = d.streams := by unfold Dev.causeSet; rfl
@[simp] theorem causeSet_heads (status b inst : Nat) : (d.causeSet status b inst).heads = d.heads := by unfold Dev.causeSet; rfl
@[simp] theorem causeSet_tack (status b inst : Nat) : (d.causeSet status b inst).tack = d.tack := by unfold Dev.causeSet; rfl
@[simp] theorem causeSet_lanes (status b inst : Nat) : (d.causeSet status b inst).lanes = d.lanes := by unfold Dev.causeSet; rfl
@[simp] theorem causeSet_links (status b inst : Nat) : (d.causeSet status b inst).links = d.links := by unfold Dev.causeSet; rfl
@[simp] theorem causeSet_ce (status b inst : Nat) : (d.causeSet status b inst).ce = d.ce := by unfold Dev.causeSet; rfl
@[simp] theorem causeSet_engines (status b inst : Nat) : (d.causeSet status b inst).engines = d.engines := by unfold Dev.causeSet; rfl
@[simp] theorem causeSet_pins (status b inst : Nat) : (d.causeSet status b inst).pins = d.pins := by unfold Dev.causeSet; rfl
@[simp] theorem causeSet_harn (status b inst : Nat) : (d.causeSet status b inst).harn = d.harn := by unfold Dev.causeSet; rfl
@[simp] theorem causeSet_halt (status b inst : Nat) : (d.causeSet status b inst).halt = d.halt := by unfold Dev.causeSet; rfl
@[simp] theorem causeSet_cal (status b inst : Nat) : (d.causeSet status b inst).cal = d.cal := by unfold Dev.causeSet; rfl
@[simp] theorem causeSet_power (status b inst : Nat) : (d.causeSet status b inst).power = d.power := by unfold Dev.causeSet; rfl
@[simp] theorem causeSet_tap (status b inst : Nat) : (d.causeSet status b inst).tap = d.tap := by unfold Dev.causeSet; rfl
@[simp] theorem causeSet_team (status b inst : Nat) : (d.causeSet status b inst).team = d.team := by unfold Dev.causeSet; rfl
@[simp] theorem causeSet_sched (status b inst : Nat) : (d.causeSet status b inst).sched = d.sched := by unfold Dev.causeSet; rfl
@[simp] theorem causeSet_guards (status b inst : Nat) : (d.causeSet status b inst).guards = d.guards := by unfold Dev.causeSet; rfl
@[simp] theorem causeSet_judged (status b inst : Nat) : (d.causeSet status b inst).judged = d.judged := by unfold Dev.causeSet; rfl
@[simp] theorem causeSet_flash (status b inst : Nat) : (d.causeSet status b inst).flash = d.flash := by unfold Dev.causeSet; rfl
@[simp] theorem causeSet_sent (status b inst : Nat) : (d.causeSet status b inst).sent = d.sent := by unfold Dev.causeSet; rfl
@[simp] theorem causeSet_fresh (status b inst : Nat) : (d.causeSet status b inst).fresh = d.fresh := by unfold Dev.causeSet; rfl
@[simp] theorem causeSet_word (status b inst : Nat) (k : Nat) : (d.causeSet status b inst).word k = d.word k := by simp [Dev.word, Dev.wordBv]
@[simp] theorem causeSet_get (status b inst : Nat) (f : Fld) : (d.causeSet status b inst).get f = d.get f := by simp [Dev.get]
@[simp] theorem causeSet_flag (status b inst : Nat) (f : Fld) : (d.causeSet status b inst).flag f = d.flag f := by simp [Dev.flag]
@[simp] theorem causeSet_appWord (status b inst : Nat) (k : Nat) : (d.causeSet status b inst).appWord k = d.appWord k := by simp [Dev.appWord]
@[simp] theorem causeSet_byteAt (status b inst : Nat) (k : Nat) : (d.causeSet status b inst).byteAt k = d.byteAt k := by simp [Dev.byteAt]

end Sys2Proof.Machine
end

