-- ==== Sys2Proof/Laws/Memory.lean ====
section
/-! SUPPORT. Every operation that writes a memory keeps its canonical form: device memory, the host's memory, and flash, whose
unlisted bytes read 0xFF. Every definition that writes one of the three fields is here, and the compound ones that stand directly
over them. -/
namespace Sys2Proof.Machine

/-- The canonical form of flash. -/
abbrev flashWf (l : List Host.Cell) : Prop := cellsWf (fun _ => 0xFF) l

variable (d : Dev)

theorem store_wf (a : Nat) (l : List Byte) (h : Memory.wf d.mem) : Memory.wf (d.store a l).mem := by
  unfold Dev.store; exact storeCells_wf _ _ _ h

theorem storeN_wf (a n v : Nat) (h : Memory.wf d.mem) : Memory.wf (d.storeN a n v).mem := store_wf d _ _ h

theorem hostStore_wf (a : Nat) (l : List Byte) (h : Memory.wf d.hostMem) : Memory.wf (d.hostStore a l).hostMem := by
  unfold Dev.hostStore; exact storeCells_wf _ _ _ h

theorem given_wf (l : List Host.Cell) (h : Memory.wf d.hostMem) : Memory.wf (d.given l).hostMem := by
  unfold Dev.given
  induction l generalizing d with
  | nil => exact h
  | cons c r ih => exact ih _ (hostStore_wf d _ _ h)

theorem clearMem_wf (a n : Nat) (h : Memory.wf d.mem) : Memory.wf (d.clearMem a n).mem := filter_wf _ _ _ h

/-- Writing a list of cells, one after the other. -/
theorem foldCells_wf (l r : List Host.Cell) (h : Memory.wf l) : Memory.wf (r.foldl (fun m c => cellSet 0 m c.1 c.2) l) := by
  induction r generalizing l with
  | nil => exact h
  | cons c r ih => exact ih _ (cellSet_wf (fun _ => 0) l c.1 c.2 h)

/-- A fold of steps that each leave device memory alone leaves it alone. -/
theorem foldS_mem (l : List Nat) (f : Nat → Dev → Dev) (h : ∀ k (e : Dev), (f k e).mem = e.mem) : (foldS l f d).mem = d.mem := by
  unfold foldS
  induction l generalizing d with
  | nil => rfl
  | cons k r ih => rw [List.foldl_cons, ih, h]

theorem unitWritten_mem (u : Nat) : (d.unitWritten u).mem = d.mem := by
  unfold Dev.unitWritten; dsimp only; split <;> rfl

theorem marchYield_mem (n : Nat) : (d.marchYield n).mem = d.mem := by unfold Dev.marchYield; split <;> simp

theorem storeWhole_wf (a : Nat) (l : List Byte) (h : Memory.wf d.mem) : Memory.wf (d.storeWhole a l).mem :=
  store_wf _ _ _ (by rw [foldS_mem _ _ _ (fun k e => unitWritten_mem e k)]; exact h)

/-- The bytes of a unit, put one after the other. -/
theorem putBytes_wf (l : List (Nat × Byte)) (h : Memory.wf d.mem) : Memory.wf (l.foldl (fun t c => t.store c.1 [c.2]) d).mem := by
  induction l generalizing d with
  | nil => exact h
  | cons c r ih => exact ih _ (store_wf d _ _ h)

theorem ringStore_wf (a : Nat) (l : List Byte) (h : Memory.wf d.mem) : Memory.wf (d.ringStore a l).mem := by
  unfold Dev.ringStore
  dsimp only
  split
  · exact h
  · exact h
  · exact storeWhole_wf _ _ _ (by rw [marchYield_mem]; exact h)

theorem signalVec_mem (v : Nat) : (d.signalVec v).mem = d.mem := by
  unfold Dev.signalVec Dev.sendVec Dev.send
  split <;> [skip; split] <;> simp

/-- A record in the event ring. -/
theorem ringPost_wf (r : Rec) (h : Memory.wf d.mem) : Memory.wf (d.ringPost r).mem := by
  unfold Dev.ringPost
  split <;> [skip; (split <;> [skip; split])]
  · simpa using h
  · exact h
  · simpa using h
  · dsimp only
    rw [signalVec_mem, apply_ite Dev.mem]
    simp only [putB_mem, put_mem, inc_mem, ite_self]
    exact ringStore_wf d _ _ h

theorem setRecord_wf (t i v : Nat) (h : Memory.wf d.mem) : Memory.wf (d.setRecord t i v).mem := by
  unfold Dev.setRecord
  split
  · exact storeWhole_wf d _ _ h
  · exact h

theorem recPut_wf (t i : Nat) (l : List (Nat × Nat × Nat)) (h : Memory.wf d.mem) : Memory.wf (d.recPut t i l).mem :=
  setRecord_wf d _ _ _ h

/-- A fold of steps that each keep the form keeps it. -/
theorem foldS_wf (l : List Nat) (f : Nat → Dev → Dev) (hf : ∀ k (e : Dev), Memory.wf e.mem → Memory.wf (f k e).mem)
    (h : Memory.wf d.mem) : Memory.wf (foldS l f d).mem := by
  unfold foldS
  induction l generalizing d with
  | nil => exact h
  | cons k r ih => exact ih _ (hf k d h)

theorem fullTiles_wf (t : Nat) (p : Nat → Bool) (h : Memory.wf d.mem) : Memory.wf (d.fullTiles t p).mem := by
  unfold Dev.fullTiles
  rw [put_mem]
  exact foldS_wf d _ _ (fun k e he => recPut_wf e _ _ _ he) h

theorem shareFresh_wf (t : Nat) (h : Memory.wf d.mem) : Memory.wf (d.shareFresh t).mem := by
  unfold Dev.shareFresh
  dsimp only
  split
  · exact fullTiles_wf _ _ _ (foldS_wf _ _ _ (fun k e he => recPut_wf e _ _ _ he) (filter_wf _ _ _ h))
  · exact filter_wf _ _ _ h

theorem setGranule_mem (g : Nat) : (d.setGranule g).mem = d.mem := by unfold Dev.setGranule; split <;> simp

theorem saveGranules_mem : d.saveGranules.mem = d.mem := foldS_mem _ _ _ (fun k e => by simp [setGranule_mem])

theorem walkSave_wf (h : Memory.wf d.mem) : Memory.wf d.walkSave.mem :=
  foldCells_wf _ _ (filter_wf _ _ _ (by rw [saveGranules_mem]; exact h))

theorem walkRestore_wf (bad : List Nat) (h : Memory.wf d.mem) : Memory.wf (d.walkRestore bad).mem :=
  foldCells_wf _ _ (filter_wf _ _ _ h)

theorem flashCells_wf (l : List Host.Cell) (a : Nat) (bs : List Byte) (h : flashWf l) : flashWf (flashCells l a bs) := by
  induction bs generalizing l a with
  | nil => exact h
  | cons b r ih => exact ih _ _ (cellSet_wf (fun _ => 0xFF) l a b h)

theorem flashStore_wf (a : Nat) (l : List Byte) (h : flashWf d.flash) : flashWf (d.flashStore a l).flash := flashCells_wf _ _ _ h

theorem flashErase_wf (a n : Nat) (h : flashWf d.flash) : flashWf (d.flashErase a n).flash := filter_wf _ _ _ h

/-- Entering INIT empties device memory. -/
theorem initEnter_mem (last : Nat) (held : Bool) : (d.initEnter last held).mem = [] := by
  by_cases h : last = 1 <;> simp [Dev.initEnter, h, Dev.inc, Dev.addSat, Dev.putB, Dev.put, Dev.setWord, Dev.onPower]

/-- A byte of device memory after a store. -/
theorem byteAt_store_same (a : Nat) (l : List Byte) (k : Nat) (h : k < l.length) : (d.store a l).byteAt (a + k) = l[k] := by
  unfold Dev.store; exact cellFind_storeCells_same _ _ _ _ h

theorem byteAt_store_other (a : Nat) (l : List Byte) (x : Nat) (h : x < a ∨ a + l.length ≤ x) :
    (d.store a l).byteAt x = d.byteAt x := by
  unfold Dev.store; exact congrArg (·.getD 0) (cellFind_storeCells_other _ _ _ _ h)

end Sys2Proof.Machine
end

