-- ==== Sys2Proof/Laws/Settle.lean ====
section
/-! SUPPORT. What following the heads' scanning (R19) changes: the mode, its counters and its times, and nothing else. -/
namespace Sys2Proof.Machine

variable (d : Dev)

theorem word_modeTimed (r : Nat) (h : TOP_MODE_TIME_Sk d.mode ≠ r) : d.modeTimed.word r = d.word r := by
  simp only [Dev.modeTimed, onPower_word, Dev.addSat]
  exact word_put_other d _ _ r h

/-- What an entry to a mode leaves alone. -/
theorem word_setMode (m r : Nat) (h1 : TOP_MODE_TIME_Sk d.mode ≠ r) (h2 : TOP_STATUS ≠ r) (h3 : TOP_MODE_COUNTk m ≠ r) :
    (Dev.setMode m d).word r = d.word r := by
  unfold Dev.setMode
  split
  · rfl
  · rw [Dev.inc, Dev.addSat, word_put_other _ _ _ _ h3, Dev.putB, word_put_other _ _ _ _ h2, word_put_other _ _ _ _ h2, word_modeTimed d r h1]

/-- Three outcomes of `settle`. -/
theorem settle_cases : settle d = d ∨ (d.mode = 3 ∧ settle d = d.setMode 4) ∨ (d.mode = 4 ∧ settle d = d.setMode 3) := by
  unfold settle
  split
  · next h => exact .inr (.inl ⟨h.1, rfl⟩)
  · split
    · next h => exact .inr (.inr ⟨h.1, rfl⟩)
    · exact .inl rfl

/-- `settle` leaves every register alone that does not show the mode. -/
theorem word_settle (r : Nat) (h : r ∉ modeRegs) : (settle d).word r = d.word r := by
  simp only [modeRegs, List.mem_cons, List.not_mem_nil, or_false, not_or] at h
  obtain ⟨h1, h2, h3, h4, h5⟩ := h
  rcases settle_cases d with e | ⟨hm, e⟩ | ⟨hm, e⟩
  · rw [e]
  · rw [e]; exact word_setMode d 4 r (by rw [hm]; exact Ne.symm h4) (Ne.symm h1) (Ne.symm h3)
  · rw [e]; exact word_setMode d 3 r (by rw [hm]; exact Ne.symm h5) (Ne.symm h1) (Ne.symm h2)

theorem get_settle (f : Fld) (h : f.addr ∉ modeRegs) : (settle d).get f = d.get f := by
  simp [Dev.get, word_settle d _ h]

@[simp] theorem modeTimed_mem : d.modeTimed.mem = d.mem := by
  unfold Dev.modeTimed; dsimp only; rw [onPower_mem, addSat_mem]

@[simp] theorem setMode_mem (m : Nat) : (Dev.setMode m d).mem = d.mem := by
  unfold Dev.setMode; split
  · rfl
  · rw [inc_mem, putB_mem, put_mem, modeTimed_mem]

@[simp] theorem settle_mem : (settle d).mem = d.mem := by
  rcases settle_cases d with e | ⟨_, e⟩ | ⟨_, e⟩ <;> simp [e]

@[simp] theorem modeTimed_hostMem : d.modeTimed.hostMem = d.hostMem := by
  unfold Dev.modeTimed; dsimp only; rw [onPower_hostMem, addSat_hostMem]

@[simp] theorem setMode_hostMem (m : Nat) : (Dev.setMode m d).hostMem = d.hostMem := by
  unfold Dev.setMode; split
  · rfl
  · rw [inc_hostMem, putB_hostMem, put_hostMem, modeTimed_hostMem]

@[simp] theorem settle_hostMem : (settle d).hostMem = d.hostMem := by
  rcases settle_cases d with e | ⟨_, e⟩ | ⟨_, e⟩ <;> simp [e]

@[simp] theorem modeTimed_applied : d.modeTimed.applied = d.applied := by
  unfold Dev.modeTimed; dsimp only; rw [onPower_applied, addSat_applied]

@[simp] theorem setMode_applied (m : Nat) : (Dev.setMode m d).applied = d.applied := by
  unfold Dev.setMode; split
  · rfl
  · rw [inc_applied, putB_applied, put_applied, modeTimed_applied]

@[simp] theorem settle_applied : (settle d).applied = d.applied := by
  rcases settle_cases d with e | ⟨_, e⟩ | ⟨_, e⟩ <;> simp [e]

@[simp] theorem modeTimed_time : d.modeTimed.time = d.time := by
  unfold Dev.modeTimed; dsimp only; rw [onPower_time, addSat_time]

@[simp] theorem setMode_time (m : Nat) : (Dev.setMode m d).time = d.time := by
  unfold Dev.setMode; split
  · rfl
  · rw [inc_time, putB_time, put_time, modeTimed_time]

@[simp] theorem settle_time : (settle d).time = d.time := by
  rcases settle_cases d with e | ⟨_, e⟩ | ⟨_, e⟩ <;> simp [e]

@[simp] theorem modeTimed_evt : d.modeTimed.evt = d.evt := by
  unfold Dev.modeTimed; dsimp only; rw [onPower_evt, addSat_evt]

@[simp] theorem setMode_evt (m : Nat) : (Dev.setMode m d).evt = d.evt := by
  unfold Dev.setMode; split
  · rfl
  · rw [inc_evt, putB_evt, put_evt, modeTimed_evt]

@[simp] theorem settle_evt : (settle d).evt = d.evt := by
  rcases settle_cases d with e | ⟨_, e⟩ | ⟨_, e⟩ <;> simp [e]

@[simp] theorem modeTimed_memu : d.modeTimed.memu = d.memu := by
  unfold Dev.modeTimed; dsimp only; rw [onPower_memu, addSat_memu]

@[simp] theorem setMode_memu (m : Nat) : (Dev.setMode m d).memu = d.memu := by
  unfold Dev.setMode; split
  · rfl
  · rw [inc_memu, putB_memu, put_memu, modeTimed_memu]

@[simp] theorem settle_memu : (settle d).memu = d.memu := by
  rcases settle_cases d with e | ⟨_, e⟩ | ⟨_, e⟩ <;> simp [e]

@[simp] theorem modeTimed_far : d.modeTimed.far = d.far := by
  unfold Dev.modeTimed; dsimp only; rw [onPower_far, addSat_far]

@[simp] theorem setMode_far (m : Nat) : (Dev.setMode m d).far = d.far := by
  unfold Dev.setMode; split
  · rfl
  · rw [inc_far, putB_far, put_far, modeTimed_far]

@[simp] theorem settle_far : (settle d).far = d.far := by
  rcases settle_cases d with e | ⟨_, e⟩ | ⟨_, e⟩ <;> simp [e]

@[simp] theorem modeTimed_streams : d.modeTimed.streams = d.streams := by
  unfold Dev.modeTimed; dsimp only; rw [onPower_streams, addSat_streams]

@[simp] theorem setMode_streams (m : Nat) : (Dev.setMode m d).streams = d.streams := by
  unfold Dev.setMode; split
  · rfl
  · rw [inc_streams, putB_streams, put_streams, modeTimed_streams]

@[simp] theorem settle_streams : (settle d).streams = d.streams := by
  rcases settle_cases d with e | ⟨_, e⟩ | ⟨_, e⟩ <;> simp [e]

@[simp] theorem modeTimed_heads : d.modeTimed.heads = d.heads := by
  unfold Dev.modeTimed; dsimp only; rw [onPower_heads, addSat_heads]

@[simp] theorem setMode_heads (m : Nat) : (Dev.setMode m d).heads = d.heads := by
  unfold Dev.setMode; split
  · rfl
  · rw [inc_heads, putB_heads, put_heads, modeTimed_heads]

@[simp] theorem settle_heads : (settle d).heads = d.heads := by
  rcases settle_cases d with e | ⟨_, e⟩ | ⟨_, e⟩ <;> simp [e]

@[simp] theorem modeTimed_tack : d.modeTimed.tack = d.tack := by
  unfold Dev.modeTimed; dsimp only; rw [onPower_tack, addSat_tack]

@[simp] theorem setMode_tack (m : Nat) : (Dev.setMode m d).tack = d.tack := by
  unfold Dev.setMode; split
  · rfl
  · rw [inc_tack, putB_tack, put_tack, modeTimed_tack]

@[simp] theorem settle_tack : (settle d).tack = d.tack := by
  rcases settle_cases d with e | ⟨_, e⟩ | ⟨_, e⟩ <;> simp [e]

@[simp] theorem modeTimed_lanes : d.modeTimed.lanes = d.lanes := by
  unfold Dev.modeTimed; dsimp only; rw [onPower_lanes, addSat_lanes]

@[simp] theorem setMode_lanes (m : Nat) : (Dev.setMode m d).lanes = d.lanes := by
  unfold Dev.setMode; split
  · rfl
  · rw [inc_lanes, putB_lanes, put_lanes, modeTimed_lanes]

@[simp] theorem settle_lanes : (settle d).lanes = d.lanes := by
  rcases settle_cases d with e | ⟨_, e⟩ | ⟨_, e⟩ <;> simp [e]

@[simp] theorem modeTimed_links : d.modeTimed.links = d.links := by
  unfold Dev.modeTimed; dsimp only; rw [onPower_links, addSat_links]

@[simp] theorem setMode_links (m : Nat) : (Dev.setMode m d).links = d.links := by
  unfold Dev.setMode; split
  · rfl
  · rw [inc_links, putB_links, put_links, modeTimed_links]

@[simp] theorem settle_links : (settle d).links = d.links := by
  rcases settle_cases d with e | ⟨_, e⟩ | ⟨_, e⟩ <;> simp [e]

@[simp] theorem modeTimed_ce : d.modeTimed.ce = d.ce := by
  unfold Dev.modeTimed; dsimp only; rw [onPower_ce, addSat_ce]

@[simp] theorem setMode_ce (m : Nat) : (Dev.setMode m d).ce = d.ce := by
  unfold Dev.setMode; split
  · rfl
  · rw [inc_ce, putB_ce, put_ce, modeTimed_ce]

@[simp] theorem settle_ce : (settle d).ce = d.ce := by
  rcases settle_cases d with e | ⟨_, e⟩ | ⟨_, e⟩ <;> simp [e]

@[simp] theorem modeTimed_engines : d.modeTimed.engines = d.engines := by
  unfold Dev.modeTimed; dsimp only; rw [onPower_engines, addSat_engines]

@[simp] theorem setMode_engines (m : Nat) : (Dev.setMode m d).engines = d.engines := by
  unfold Dev.setMode; split
  · rfl
  · rw [inc_engines, putB_engines, put_engines, modeTimed_engines]

@[simp] theorem settle_engines : (settle d).engines = d.engines := by
  rcases settle_cases d with e | ⟨_, e⟩ | ⟨_, e⟩ <;> simp [e]

@[simp] theorem modeTimed_pins : d.modeTimed.pins = d.pins := by
  unfold Dev.modeTimed; dsimp only; rw [onPower_pins, addSat_pins]

@[simp] theorem setMode_pins (m : Nat) : (Dev.setMode m d).pins = d.pins := by
  unfold Dev.setMode; split
  · rfl
  · rw [inc_pins, putB_pins, put_pins, modeTimed_pins]

@[simp] theorem settle_pins : (settle d).pins = d.pins := by
  rcases settle_cases d with e | ⟨_, e⟩ | ⟨_, e⟩ <;> simp [e]

@[simp] theorem modeTimed_harn : d.modeTimed.harn = d.harn := by
  unfold Dev.modeTimed; dsimp only; rw [onPower_harn, addSat_harn]

@[simp] theorem setMode_harn (m : Nat) : (Dev.setMode m d).harn = d.harn := by
  unfold Dev.setMode; split
  · rfl
  · rw [inc_harn, putB_harn, put_harn, modeTimed_harn]

@[simp] theorem settle_harn : (settle d).harn = d.harn := by
  rcases settle_cases d with e | ⟨_, e⟩ | ⟨_, e⟩ <;> simp [e]

@[simp] theorem modeTimed_halt : d.modeTimed.halt = d.halt := by
  unfold Dev.modeTimed; dsimp only; rw [onPower_halt, addSat_halt]

@[simp] theorem setMode_halt (m : Nat) : (Dev.setMode m d).halt = d.halt := by
  unfold Dev.setMode; split
  · rfl
  · rw [inc_halt, putB_halt, put_halt, modeTimed_halt]

@[simp] theorem settle_halt : (settle d).halt = d.halt := by
  rcases settle_cases d with e | ⟨_, e⟩ | ⟨_, e⟩ <;> simp [e]

@[simp] theorem modeTimed_cal : d.modeTimed.cal = d.cal := by
  unfold Dev.modeTimed; dsimp only; rw [onPower_cal, addSat_cal]

@[simp] theorem setMode_cal (m : Nat) : (Dev.setMode m d).cal = d.cal := by
  unfold Dev.setMode; split
  · rfl
  · rw [inc_cal, putB_cal, put_cal, modeTimed_cal]

@[simp] theorem settle_cal : (settle d).cal = d.cal := by
  rcases settle_cases d with e | ⟨_, e⟩ | ⟨_, e⟩ <;> simp [e]

@[simp] theorem modeTimed_tap : d.modeTimed.tap = d.tap := by
  unfold Dev.modeTimed; dsimp only; rw [onPower_tap, addSat_tap]

@[simp] theorem setMode_tap (m : Nat) : (Dev.setMode m d).tap = d.tap := by
  unfold Dev.setMode; split
  · rfl
  · rw [inc_tap, putB_tap, put_tap, modeTimed_tap]

@[simp] theorem settle_tap : (settle d).tap = d.tap := by
  rcases settle_cases d with e | ⟨_, e⟩ | ⟨_, e⟩ <;> simp [e]

@[simp] theorem modeTimed_team : d.modeTimed.team = d.team := by
  unfold Dev.modeTimed; dsimp only; rw [onPower_team, addSat_team]

@[simp] theorem setMode_team (m : Nat) : (Dev.setMode m d).team = d.team := by
  unfold Dev.setMode; split
  · rfl
  · rw [inc_team, putB_team, put_team, modeTimed_team]

@[simp] theorem settle_team : (settle d).team = d.team := by
  rcases settle_cases d with e | ⟨_, e⟩ | ⟨_, e⟩ <;> simp [e]

@[simp] theorem modeTimed_flash : d.modeTimed.flash = d.flash := by
  unfold Dev.modeTimed; dsimp only; rw [onPower_flash, addSat_flash]

@[simp] theorem setMode_flash (m : Nat) : (Dev.setMode m d).flash = d.flash := by
  unfold Dev.setMode; split
  · rfl
  · rw [inc_flash, putB_flash, put_flash, modeTimed_flash]

@[simp] theorem settle_flash : (settle d).flash = d.flash := by
  rcases settle_cases d with e | ⟨_, e⟩ | ⟨_, e⟩ <;> simp [e]

@[simp] theorem modeTimed_sent : d.modeTimed.sent = d.sent := by
  unfold Dev.modeTimed; dsimp only; rw [onPower_sent, addSat_sent]

@[simp] theorem setMode_sent (m : Nat) : (Dev.setMode m d).sent = d.sent := by
  unfold Dev.setMode; split
  · rfl
  · rw [inc_sent, putB_sent, put_sent, modeTimed_sent]

@[simp] theorem settle_sent : (settle d).sent = d.sent := by
  rcases settle_cases d with e | ⟨_, e⟩ | ⟨_, e⟩ <;> simp [e]

@[simp] theorem modeTimed_fresh : d.modeTimed.fresh = d.fresh := by
  unfold Dev.modeTimed; dsimp only; rw [onPower_fresh, addSat_fresh]

@[simp] theorem setMode_fresh (m : Nat) : (Dev.setMode m d).fresh = d.fresh := by
  unfold Dev.setMode; split
  · rfl
  · rw [inc_fresh, putB_fresh, put_fresh, modeTimed_fresh]

@[simp] theorem settle_fresh : (settle d).fresh = d.fresh := by
  rcases settle_cases d with e | ⟨_, e⟩ | ⟨_, e⟩ <;> simp [e]

@[simp] theorem settle_byteAt (a : Nat) : (settle d).byteAt a = d.byteAt a := by simp [Dev.byteAt]

theorem settle_appWord (r : Nat) : (settle d).appWord r = d.appWord r := by simp [Dev.appWord]

/-- A live block takes the command's effect, then follows the heads. -/
theorem on_live (s : State) (f : Dev → Dev) (h : s.dev.halted = false) : s.on f = .next { s with dev := settle (f s.dev) } := by
  simp [State.on, State.always, h]

/-- A host access that acts now has its effect. -/
theorem pcie_now (q : HostReq) (f : Dev → Dev) (m : d.mode ≠ 0) (h : d.about 3 = false) : Dev.pcie q f d = f d := by
  simp [Dev.pcie, m, h]

/-- A write that passes is stored and has its effect. -/
theorem writeVia_taken (r v : Nat) (ok : Dev → Bool) (f : Dev → Dev) (h1 : d.writeOk r v = true) (h2 : ok d = true) :
    Dev.writeVia r v ok f d = f (d.writePlain r v) := by simp [Dev.writeVia, h1, h2]

/-- A write that does not pass is rejected, unless a judgement has passed it already. -/
theorem writeVia_rejected (r v : Nat) (ok : Dev → Bool) (f : Dev → Dev) (j : d.judged = false) (h : d.writeOk r v = false) :
    Dev.writeVia r v ok f d = d.reject r := by simp [Dev.writeVia, j, h]

/-- A plain write changes one word. -/
theorem word_writePlain_other (r v r' : Nat) (h : r ≠ r') : (d.writePlain r v).word r' = d.word r' := by
  unfold Dev.writePlain
  split
  · exact word_setWord_other _ _ _ _ h
  · rfl

theorem get_writePlain_other (r v : Nat) (g : Fld) (h : r ≠ g.addr) : (d.writePlain r v).get g = d.get g := by
  simp [Dev.get, word_writePlain_other _ _ _ _ h]

end Sys2Proof.Machine
end

