-- ==== Sys2Proof/Laws/Step.lean ====
section
/-! SUPPORT. All that a command can do to the state as a whole: it is one effect on the block, guarded by the halt of R582 or not,
after which the mode follows the heads; the queue is left alone. -/
namespace Sys2Proof.Machine

/-- A guarded effect answers a next state with the same queue. -/
theorem on_answers (s : State) (f : Dev → Dev) : ∃ t, s.on f = .next t ∧ t.pending = s.pending := by
  unfold State.on; split <;> exact ⟨_, rfl, rfl⟩

/-- A guarded effect while the logic is halted. -/
theorem on_halted (s : State) (f : Dev → Dev) (h : s.dev.halted = true) : s.on f = .next s := if_pos h

/-- An unguarded effect. -/
theorem always_next (s : State) (f : Dev → Dev) : s.always f = .next { s with dev := settle (f s.dev) } := rfl

/-- The shape of every command: its effect is one function of the block, guarded unless the command acts while halted. -/
theorem exec_shape (c : Instr) : ∃ f : Dev → Dev, ∀ s, exec c s = if c.actsHalted then s.always f else s.on f := by
  cases c <;> exact ⟨_, fun _ => rfl⟩

end Sys2Proof.Machine
end

