-- ==== Sys2Proof/WellFormed.lean ====
section
/-! DEFINITION. Which commands are well formed: an operand that its type does not bound stays inside what the wires, the format or the
array it names can hold. -/
namespace Sys2Proof

/-- Does a signed value fit 16 bits? -/
def halfWord (x : Int) : Bool := decide (-32768 ≤ x ∧ x < 32768)

/-- Is a command well formed? -/
def wellFormed (i : Instr) : Bool :=
  match i with
  | .registerWrite _ _ _ => true
  | .powerOnReset => true
  | .perstNAssert => true
  | .perstNDeassert => true
  | .topReset _ => true
  | .perHeadReset _ => true
  | .initStepComplete x => x.cal.all (fun r => decide (r.item < 88))
  | .refclkLost _ => true
  | .refclkRegained _ => true
  | .peRefclkLost => true
  | .harnessLinkSilent => true
  | .thermalTrip _ temp => halfWord temp
  | .commitPoint _ _ => true
  | .bankHandover _ => true
  | .imageHeaderRead a b => a.all (fun l => l.length == 256) && b.all (fun l => l.length == 256)
  | .imageReadComplete rest => decide (rest.length ≤ 4194304)
  | .xspiReadTimeout => true
  | .imageVerifyComplete => true
  | .imageApplyComplete => true
  | .tackPushGo => true
  | .burnRollback => true
  | .retackStart _ => true
  | .retackAbandon => true
  | .retackCopyComplete _ => true
  | .retackVerifyComplete => true
  | .retackPrepareComplete => true
  | .tbLatch _ _ => true
  | .tbCtrlWrite _ _ => true
  | .servoMeasurement _ _ _ _ => true
  | .referenceLost _ => true
  | .stepArm _ => true
  | .stepCancel _ => true
  | .stepResume _ => true
  | .stepApply _ => true
  | .tcRateChange _ => true
  | .ltcOutWord => true
  | .ltcInWord found hours minutes seconds frames _ _ => decide (found.check < 6 ∧ hours < 64 ∧ minutes < 128 ∧ seconds < 128 ∧ frames < 64)
  | .syncInEdge _ _ => true
  | .syncOutFrame => true
  | .ppsOutPulse => true
  | .ppsOutPulseEnd => true
  | .ppsInEdge _ _ => true
  | .captureEvent _ _ => true
  | .capPop _ _ => true
  | .ptpSyncTx _ => true
  | .ptpSyncRx _ domain _ arrival _ seq _ _ => decide (domain < 256 ∧ seq < 65536 ∧ arrival.sender < 2 ^ 80)
  | .ptpFollowUpRx _ domain _ came seq _ _ => decide (domain < 256 ∧ seq < 65536 ∧ came.sender < 2 ^ 80)
  | .ptpDelayReqTx _ => true
  | .ptpDelayReqRx _ domain _ _ request requester => decide (domain < 256 ∧ request.seq < 65536 ∧ requester < 2 ^ 80)
  | .ptpDelayRespRx _ domain _ came response _ =>
    decide (domain < 256 ∧ response.seq < 65536 ∧ came.sender < 2 ^ 80 ∧ response.requester < 2 ^ 80)
  | .ptpAnnounceTx _ => true
  | .ptpAnnounceRx _ domain _ _ senderId senderPort gmId priority1 _ priority2 steps =>
    decide (domain < 256 ∧ senderId < 2 ^ 64 ∧ senderPort < 65536 ∧ gmId < 2 ^ 64 ∧ priority1 < 256 ∧ priority2 < 256 ∧ steps < 65536)
  | .ptpAnnounceReceiptTimeout _ => true
  | .ptpManagementGet _ domain _ _ asker dataSet =>
    decide (domain < 256 ∧ asker.seq < 65536 ∧ asker.requester < 2 ^ 80 ∧ dataSet < 8192)
  | .ptpManagementSet _ domain _ _ asked =>
    decide (domain < 256 ∧ asked.seq < 65536 ∧ asked.requester < 2 ^ 80 ∧ asked.ident < 65536)
  | .ptpSignalingRx _ domain _ _ => decide (domain < 256)
  | .timeSetTx => true
  | .timeSetRx _ blocks => blocks.all (fun b => b.length == 8)
  | .teamDelayReqTx => true
  | .teamDelayReqRx _ _ => true
  | .teamDelayRspRx _ _ ns frac => decide (ns < 2 ^ 32 ∧ frac < 65536)
  | .teamStepApply _ => true
  | .markArm _ _ => true
  | .markDisarm _ _ => true
  | .schedDisarmAll => true
  | .markTrigger marks => marks.all (fun m => decide (m < 256))
  | .markPositionPassed _ => true
  | .pctlPulseEnd _ => true
  | .streamEnable _ format fbCount => decide (format < 4 ∧ fbCount < 8)
  | .streamDisable _ format fbCount => decide (format < 4 ∧ fbCount < 8)
  | .streamFrameStart _ _ _ _ _ => true
  | .streamFrameEnd _ _ _ _ => true
  | .streamExposureStart _ _ _ _ => true
  | .streamExposureEnd _ _ _ _ => true
  | .streamLineStart _ _ _ _ _ _ => true
  | .streamDataBlock _ _ => true
  | .streamLineEnd _ _ _ _ => true
  | .streamFrameTimeout _ _ => true
  | .lineStoreComplete _ => true
  | .tpgFrameStart _ => true
  | .tpgLine _ => true
  | .lineLockAcquire _ => true
  | .engineParityError _ => true
  | .engineBistStart _ => true
  | .engineBistComplete _ _ => true
  | .engineSubstitutionComplete => true
  | .bandReading _ => true
  | .anchorCopyComplete _ => true
  | .odBuildStart => true
  | .odBuildComplete _ => true
  | .headFrameStart _ => true
  | .headLineStart _ _ planes _ _ => planes.all (fun p => decide (p.1 < 2 ∧ p.2 < 65536))
  | .headCommit _ => true
  | .headRun _ => true
  | .headStop _ => true
  | .hpllLock _ => true
  | .hpllLockTimeout _ => true
  | .regaitLungeTimeout _ => true
  | .queuePush _ _ => true
  | .queueFlush _ => true
  | .headUnderrun _ _ => true
  | .recordPop _ => true
  | .headCmdWrite _ => true
  | .headCmdRead _ => true
  | .cmdRspRx _ _ _ _ _ => true
  | .cmdRspTimeout _ => true
  | .lockNHigh _ => true
  | .lockNLow _ => true
  | .mipPhaseBoundary _ _ => true
  | .mipPassEnd _ reads => reads.planes.all (fun p => decide (p.1 < 2 ∧ p.2 < 65536))
  | .mipRun _ => true
  | .mipStop _ => true
  | .mipRefreshGo _ => true
  | .mipWtLoad _ _ => true
  | .mipWtLoadDone _ => true
  | .mipReadDataRx _ _ row first count _ crc => decide (row < 65536 ∧ first < 65536 ∧ count < 65536 ∧ crc < 65536)
  | .mipReadbackTimeout _ => true
  | .balanceFault _ => true
  | .halterRender => true
  | .halterPhase => true
  | .panelPowerOn _ => true
  | .panelPowerOff _ => true
  | .rasterRampStep _ => true
  | .mipRampStep _ _ => true
  | .rampSettleTimeout _ => true
  | .pumpFailure => true
  | .pwrfailNLow => true
  | .vsysCritical _ => true
  | .vbiasLow _ => true
  | .harDischGo _ => true
  | .outputOverload _ => true
  | .harnessOvertemp temp => halfWord temp
  | .dischargePinSwitch _ => true
  | .dischargeComplete _ => true
  | .holdArmed _ => true
  | .holdLow _ => true
  | .girthMeasurement _ mohm _ => decide (mohm < 2 ^ 24)
  | .girthRebase _ _ _ => true
  | .thermConversion _ _ => true
  | .avddgLow _ => true
  | .laneBlockRx _ _ _ _ _ => true
  | .blockLock _ _ => true
  | .blockLockLoss _ => true
  | .lossOfSignal _ => true
  | .lossOfLock _ => true
  | .lungeTimeout _ => true
  | .absentRetry _ => true
  | .alignRx _ _ _ _ => true
  | .greetSetRx _ _ => true
  | .alignColumnTx _ => true
  | .exerciseColumnTx _ => true
  | .exerciseRx _ _ => true
  | .relunge _ _ => true
  | .spareGo _ _ => true
  | .spareCompareDone _ _ _ => true
  | .adaptFreeze _ => true
  | .revertCheck _ => true
  | .eyeMarginUpdate _ _ _ _ _ => true
  | .laneDegraded _ => true
  | .eyeScanGo _ _ => true
  | .eyeScanDone _ _ => true
  | .testInject _ _ => true
  | .teamForwardedRead _ _ => true
  | .teamForwardedWrite _ _ _ => true
  | .teamCmdReqRx _ _ _ _ _ _ _ => true
  | .teamCmdRspRx _ _ _ _ _ _ _ => true
  | .teamForwardTimeout => true
  | .teamEventRx _ _ _ bytes => bytes.length == 32
  | .teamProbe _ => true
  | .hostMemoryRead _ n _ => decide (n ≤ 4096)
  | .hostMemoryWrite _ bytes _ _ => decide (bytes.length ≤ 4096)
  | .pcieLinkReset _ => true
  | .msixHeldSend _ => true
  | .moderationIntervalEnd _ => true
  | .dmaEnable _ => true
  | .dmaDisable _ => true
  | .dmaGo _ => true
  | .dmaRestart _ => true
  | .dmaAbort _ => true
  | .dmaTailWrite _ _ _ => true
  | .dmaDescriptorDone _ _ _ => true
  | .dmaDescriptorFail _ _ _ _ => true
  | .evtEnable _ => true
  | .evtConsWrite _ => true
  | .evtInject _ => true
  | .evtFlogClear _ => true
  | .evtStatusEnableWrite _ _ => true
  | .spiWrite _ _ => true
  | .spiRead _ _ _ _ => true
  | .spiStatus => true
  | .spiWake => true
  | .spiBadOpcode _ => true
  | .ethFrameRx _ _ _ => true
  | .netQueueTailWrite _ _ => true
  | .ethFrameTxDone _ _ => true
  | .tileStreamDatagramRx _ => true
  | .tileStreamDatagramTx _ => true
  | .sbHandoverRequest _ _ => true
  | .bankWipeDone _ _ => true
  | .memAtomAdd32 _ => true
  | .memAtomAdd64 _ => true
  | .memAtomSwap32 _ => true
  | .memAtomSwap64 _ => true
  | .marchPGo _ _ => true
  | .marchPAbort _ _ => true
  | .marchPRowStart => true
  | .marchPRowDone _ => true
  | .marchPResume => true
  | .initMapFillDone g => decide (g < 122880)
  | .backgroundFillComplete => true
  | .groomRead _ _ _ => true
  | .targetedWriteback _ => true
  | .clogEntryExpire _ => true
  | .dramPageRemap => true
  | .ceTableLoad _ => true
  | .ceTableLoadDone _ => true
  | .ceQueueEnable _ => true
  | .ceQueueDisable _ => true
  | .ceQueueGo _ => true
  | .ceQueueRestart _ => true
  | .ceQueueAbort _ => true
  | .ceTailWrite _ _ => true
  | .ceJobEnd _ _ => true
  | .calRequestItem _ => true
  | .calRequestAll _ => true
  | .internalSensorReading har phys => halfWord har && phys.length == 8 && phys.all halfWord
  | .calRunStart _ _ _ _ => true
  | .calMeasureDone _ _ _ _ => true
  | .calResultApply _ => true
  | .calQuietTimeout => true
  | .refvRecheck _ _ _ => true
  | .calStoreGo => true
  | .calAutoStore => true
  | .calStoreEraseDone => true
  | .calStoreProgramDone _ => true
  | .calStoreCommitDone _ => true
  | .farApprove _ => true
  | .farDecline _ => true
  | .farrierLogWrite _ => true
  | .sensorFailure _ => true
  | .lockstepMismatch _ => true
  | .lockstepRestartDone _ => true
  | .seqCheckpoint => true
  | .rungRequestGallop => true
  | .rungRequestCanter => true
  | .rungRequestTrot => true
  | .rungRequestWalk => true
  | .rungRequestStand => true
  | .rungRequestStable => true
  | .rungEntryBegin => true
  | .rungRequestTimeout => true
  | .rungEntryComplete _ => true
  | .wakeNLow => true
  | .wakeTimer => true
  | .wakeRelease => true
  | .rungExitComplete _ => true
  | .shedLevelReached _ _ => true
  | .shedRecovery _ => true
  | .reenableOk _ => true
  | .shedReenable => true
  | .railFault _ _ => true
  | .xtal32kLoss => true
  | .xtal32kRestore => true
  | .tapReset => true
  | .jtagBypass n tdi => decide (tdi < 2 ^ n)
  | .jtagIdcode => true
  | .samplePreload _ _ => true
  | .extest _ _ => true
  | .extestPulse _ _ => true
  | .extestTrain _ _ _ => true
  | .clamp n tdi => decide (tdi < 2 ^ n)
  | .highz n tdi => decide (tdi < 2 ^ n)
  | .mbistRun => true
  | .mbistDone rows _ => rows.length == 4
  | .girthTest => true
  | .leaveIntrusive => true
  | .testSnap _ => true
  | .ethBlockLockLoss _ _ => true
  | .ethBlockLockGained _ => true
  | .pcieLinkUp x _ => x.speed != 0 && [1, 2, 4].contains x.width.val
  | .pcieRequestWake => true
  | .haltBmpDataRead => true
  | .pushFetchError => true
  | .holdExhausted _ => true
  | .avddgRestored _ => true
  | .dramRefreshDerate _ _ _ => true
  | .girthTestLoopDone _ _ _ _ => true

/-- A well-formed command. -/
abbrev WellFormed (i : Instr) : Prop := wellFormed i = true

end Sys2Proof
end

