-- ==== Sys2Proof/Tests/Slice0.lean ====
section
/-! SUPPORT. Tests: ill-formed commands that each check refuses, values that the chapters give, and for every statement with
hypotheses a state and operands that meet them. The `witness_` theorems follow the statements of the same names. -/
open Sys2Proof Sys2Proof.Machine
set_option Elab.async false

/-! ### Ill-formed commands -/

theorem test_illFormed_1 : ∀ c ∈ ([.thermalTrip 0 32768,
    .imageHeaderRead (some [0]) none,
    .imageHeaderRead none (some [0]),
    .ltcInWord ⟨6, 0⟩ 0 0 0 0 false 0,
    .ltcInWord ⟨0, 0⟩ 64 0 0 0 false 0,
    .ltcInWord ⟨0, 0⟩ 0 128 0 0 false 0,
    .ltcInWord ⟨0, 0⟩ 0 0 128 0 false 0,
    .ltcInWord ⟨0, 0⟩ 0 0 0 64 false 0,
    .ptpSyncRx 0 256 true ⟨⟨true, 0⟩, true⟩ true 0 0 0,
    .ptpSyncRx 0 0 true ⟨⟨true, 0⟩, true⟩ true 65536 0 0,
    .ptpSyncRx 0 0 true ⟨⟨true, 2 ^ 80⟩, true⟩ true 0 0 0,
    .ptpFollowUpRx 0 256 true ⟨true, 0⟩ 0 0 0,
    .ptpFollowUpRx 0 0 true ⟨true, 0⟩ 65536 0 0,
    .ptpFollowUpRx 0 0 true ⟨true, 2 ^ 80⟩ 0 0 0,
    .ptpDelayReqRx 0 256 true ⟨⟨true, 0⟩, true⟩ ⟨0, 0⟩ 0,
    .ptpDelayReqRx 0 0 true ⟨⟨true, 0⟩, true⟩ ⟨65536, 0⟩ 0,
    .ptpDelayReqRx 0 0 true ⟨⟨true, 0⟩, true⟩ ⟨0, 0⟩ (2 ^ 80),
    .ptpDelayRespRx 0 256 true ⟨true, 0⟩ ⟨⟨0, 0⟩, 0⟩ 0] : List Instr), ¬ WellFormed c := by decide

theorem test_illFormed_2 : ∀ c ∈ ([.ptpDelayRespRx 0 0 true ⟨true, 0⟩ ⟨⟨65536, 0⟩, 0⟩ 0,
    .ptpDelayRespRx 0 0 true ⟨true, 2 ^ 80⟩ ⟨⟨0, 0⟩, 0⟩ 0,
    .ptpDelayRespRx 0 0 true ⟨true, 0⟩ ⟨⟨0, 0⟩, 2 ^ 80⟩ 0,
    .initStepComplete { cal := [{ item := 88, a := ⟨0, 0, 0, 0, 0, 0⟩, b := ⟨0, 0, 0, 0, 0, 0⟩, refv := 0, bandgap := 0, refvEnd := 0, bandgapEnd := 0 }] },
    .pcieLinkUp ⟨0, 4, 0⟩ [],
    .pcieLinkUp ⟨1, 3, 0⟩ [],
    .ptpAnnounceRx 0 256 true true 0 0 0 0 0 0 0,
    .ptpAnnounceRx 0 0 true true (2 ^ 64) 0 0 0 0 0 0,
    .ptpAnnounceRx 0 0 true true 0 65536 0 0 0 0 0,
    .ptpAnnounceRx 0 0 true true 0 0 (2 ^ 64) 0 0 0 0,
    .ptpAnnounceRx 0 0 true true 0 0 0 256 0 0 0,
    .ptpAnnounceRx 0 0 true true 0 0 0 0 0 256 0,
    .ptpAnnounceRx 0 0 true true 0 0 0 0 0 0 65536,
    .ptpManagementGet 0 256 true true ⟨0, 0⟩ 0,
    .ptpManagementGet 0 0 true true ⟨65536, 0⟩ 0,
    .ptpManagementGet 0 0 true true ⟨0, 2 ^ 80⟩ 0,
    .ptpManagementGet 0 0 true true ⟨0, 0⟩ 8192,
    .ptpManagementSet 0 256 true true ⟨⟨0, 0⟩, 0⟩] : List Instr), ¬ WellFormed c := by decide

theorem test_illFormed_3 : ∀ c ∈ ([.ptpManagementSet 0 0 true true ⟨⟨65536, 0⟩, 0⟩,
    .ptpManagementSet 0 0 true true ⟨⟨0, 2 ^ 80⟩, 0⟩,
    .ptpManagementSet 0 0 true true ⟨⟨0, 0⟩, 65536⟩,
    .ptpSignalingRx 0 256 true true,
    .timeSetRx 0 [[0]],
    .teamDelayRspRx 0 0 (2 ^ 32) 0,
    .teamDelayRspRx 0 0 0 65536,
    .markTrigger [256],
    .streamEnable 0 4 0,
    .streamEnable 0 0 8,
    .streamDisable 0 4 0,
    .streamDisable 0 0 8,
    .headLineStart 0 false [(2, 0)] [] [],
    .headLineStart 0 false [(0, 65536)] [] [],
    .mipPassEnd 0 ⟨[(2, 0)], [], []⟩,
    .mipPassEnd 0 ⟨[(0, 65536)], [], []⟩,
    .mipReadDataRx 0 0 65536 0 0 [] 0,
    .mipReadDataRx 0 0 0 65536 0 [] 0] : List Instr), ¬ WellFormed c := by decide

theorem test_illFormed_4 : ∀ c ∈ ([.mipReadDataRx 0 0 0 0 65536 [] 0,
    .mipReadDataRx 0 0 0 0 0 [] 65536,
    .harnessOvertemp (-32769),
    .girthMeasurement 0 16777216 0,
    .teamEventRx 0 0 0 [0],
    .hostMemoryRead ⟨.bar2, 0⟩ 4097 {},
    .initMapFillDone 122880,
    .internalSensorReading 32768 (List.replicate 8 0),
    .internalSensorReading 0 [0],
    .internalSensorReading 0 (List.replicate 8 32768),
    .jtagBypass 2 4,
    .clamp 2 4,
    .highz 2 4,
    .mbistDone [] 0] : List Instr), ¬ WellFormed c := by decide

theorem test_illFormed_hostWrite : ¬ WellFormed (.hostMemoryWrite ⟨.bar2, 0⟩ (List.replicate 4097 0) [] []) := by
  simp only [WellFormed, wellFormed, List.length_replicate]; decide

theorem test_illFormed_image : ¬ WellFormed (.imageReadComplete (List.replicate 4194305 0)) := by
  simp only [WellFormed, wellFormed, List.length_replicate]; decide

theorem test_wellFormed_extremes : WellFormed (.thermalTrip 7 32767) ∧ WellFormed (.initMapFillDone 122879) ∧ WellFormed (.clamp 2 3) := by decide

/-- The block in READY, every other register at its reset word. -/
abbrev rdy : Dev := ({} : Dev).put TOP_STATUS_MODE 3

/-! ### Values that the chapters give -/

/-- No word spells a command: the table gives no row bits. -/
theorem test_noWordSpells : decodeTableWord 32 0 = none := rfl

/-- Chapter 00's example of R8: now 0xFFFF_F000. -/
theorem test_nscWrap : past32 0x00000800 0xFFFFF000 = false ∧ due32 0x00000800 0xFFFFF000 = false ∧ past32 0x7FFFF000 0xFFFFF000 = true ∧
    past32 0xFFFFE000 0xFFFFF000 = true := by decide

/-- R146: the check value of the CRC-16. -/
theorem test_crc16 : crc16 [0x31, 0x32, 0x33, 0x34, 0x35, 0x36, 0x37, 0x38, 0x39] = 0x29B1 := by decide +kernel

/-- Chapter 14's example: spare B at 4,000 mV takes tap 147 and COMBO 5. -/
theorem test_biasSetting : biasSetting 125 0 4000 = (147, 5) := by decide +kernel

/-- Chapter 16's example: LN27_STATUS is at 0x4_6C04. -/
theorem test_lane27 : LNn_STATUS 27 = 0x46C04 := by decide

/-- Chapter 16's example: HD1_GAIT_HTOTAL rejects a write that sets the reserved bit 15, and R5 captures it. -/
theorem test_reservedBitRejected :
    (Dev.get (Dev.reject 0x22040 rdy) TOP_REJECT_ADDR_V = 0x22040) ∧ rdy.writeOk 0x22040 0x8000 = false := by decide +kernel

/-- R581. -/
theorem test_idcode : bitsOf 0x296409AB 28 4 = 2 ∧ bitsOf 0x296409AB 12 16 = 0x9640 ∧ bitsOf 0x296409AB 1 11 = 0x4D5 := by decide

/-- R537: the identity register. -/
theorem test_topId : (resetWord TOP_ID).toNat = 0x96401ED4 := by decide +kernel

/-! ### Witnesses of the whole-block statements -/

/-- A state in which one raster head is there and scans. -/
abbrev running : Dev := (rdy.put (TACK_HEADn_PRESENT 0) 1).put (HDn_STATUS_STATE 0) 1

theorem witness_ModeFollowsHeads : ∃ s t : State, s.dev.modeAgrees ∧ step s = .next t :=
  ⟨{ dev := rdy, pending := [.tapReset] }, _, by decide +kernel, rfl⟩

/-- The premise of the mode statement in RUN, and where it fails. -/
theorem witness_modeAgrees : Dev.modeAgrees ((running).put TOP_STATUS_MODE 4) ∧ ¬ running.modeAgrees := by decide +kernel

theorem witness_HaltedLogicDoesNothing : ∃ (c : Instr) (s : State), s.dev.halted = true ∧ c.actsHalted = false :=
  ⟨.headRun 0, { dev := { rdy with tap := { rdy.tap with ir := 3 } }, pending := [] }, by decide +kernel⟩

theorem witness_RejectedWriteChangesNothing :
    (∃ (s : State) (r : Fin 1048576) (v : Word), s.hostLive ∧ s.dev.mode ≠ 0 ∧ s.dev.writeOk r v.toNat = false) ∧
    ∃ (s : State) (r : Fin 1048576), s.hostLive ∧ s.dev.mode ≠ 0 ∧ (s.dev.sealedHead r).isSome = true :=
  ⟨⟨{ dev := rdy, pending := [] }, 0x22040, 0x8000, by decide +kernel⟩,
    ⟨{ dev := rdy.put (HDn_SHADOW_STATE_V 1) 1, pending := [] }, 0x22040, by decide +kernel⟩⟩

theorem witness_RegisterFieldAccessTypes : ∃ (s : State) (r : Fin 1048576) (v : Word) (p : RegSpec), specOf r = some p ∧
    0x10000 ≤ r.val ∧ r.val < 0x20000 ∧ s.takes r v.toNat ∧ s.dev.sealedHead r = none ∧ Dev.fabricWriteOk r v.toNat s.dev = true :=
  ⟨{ dev := rdy, pending := [] }, ⟨(STh_BYPASS 0), by decide +kernel⟩, 0, (specOf (STh_BYPASS 0)).get (by decide +kernel), by decide +kernel⟩

theorem witness_UnassignedOffset : ∃ (s : State) (r : Fin 1048576) (a : BitVec 28), s.hostLive ∧ s.dev.mode ≠ 0 ∧ specOf r = none ∧ r.val % 4 = 0 ∧
    s.dev.bar2 a.toNat = 0x7F00000000 + r.val :=
  ⟨{ dev := rdy.put HOST_BAR2_BASE_V 0x7F0, pending := [] }, 0xFFFFC, 0xFFFFC, by decide +kernel⟩

theorem witness_IdcodeValue : ∃ s : State, s.dev.tapLive = true ∧ s.live := ⟨{ dev := rdy, pending := [] }, by decide +kernel⟩

theorem witness_SecondRetackRejected : ∃ (s : State) (v : Word), s.hostLive ∧ s.dev.mode = 5 ∧ bitOf v.toNat 8 = true :=
  ⟨{ dev := rdy.put TOP_STATUS_MODE 5, pending := [] }, 0x100, by decide +kernel⟩

theorem witness_PeRefclkLossTakesPcieOnly : ∃ s : State, s.live ∧ s.dev.modeAgrees := ⟨{ dev := rdy, pending := [] }, by decide +kernel⟩

/-- The premise of the clauses that give each command's effect. -/
theorem witness_live : ∃ s : State, s.dev.halted = false := ⟨{ dev := rdy, pending := [] }, by decide +kernel⟩

/-! ### Witnesses of the statements about commands -/

theorem witness_ResetsEnterInit :
    (∃ (s : State), s.dev.flag HAR_DISCH_STATUS_ACTIVE = false) ∧
    (∃ (s : State), s.live ∧ s.dev.mode ≠ 0 ∧ s.dev.panelsOff) ∧
    (∃ (s : State), s.dev.mode ≠ 0) ∧
    (∃ (s : State), s.live ∧ s.dev.mode ≠ 0 ∧ s.dev.writeOk TOP_RESET 0x5A = true ∧ s.dev.panelsOff) ∧
    (∃ (s : State) (x : InitData), s.live ∧ s.dev.mode = 1 ∧ s.dev.get TOP_STATUS_INIT_STEP = 7 ∧ s.dev.power.perstLow = false ∧ x.trained = true) ∧
    (∃ (s : State) (k : Fin 8), s.live ∧ s.dev.mode = 1 ∧ s.dev.get TOP_STATUS_INIT_STEP = k.val ∧ s.dev.power.perstLow = false) :=
  ⟨⟨{ dev := rdy, pending := [] }, by decide +kernel⟩,
    ⟨{ dev := rdy, pending := [] }, by decide +kernel⟩,
    ⟨{ dev := rdy, pending := [] }, by decide +kernel⟩,
    ⟨{ dev := rdy, pending := [] }, by decide +kernel⟩,
    ⟨{ dev := (({} : Dev).put TOP_STATUS_INIT_STEP 7), pending := [] }, { trained := true }, by decide +kernel⟩,
    ⟨{ dev := (({} : Dev).put TOP_STATUS_INIT_STEP 2), pending := [] }, 2, by decide +kernel⟩⟩

theorem witness_ClockEvents :
    (∃ (s : State), s.live) ∧
    (∃ (s : State) (n : Fin 2), s.live ∧ bitOf (s.dev.get TOP_REFCLK_STATUS_V) (1 - n) = true) ∧
    (∃ (s : State), s.live) ∧
    (∃ (s : State), s.live ∧ s.dev.power.islandRc = false) ∧
    (∃ (s : State), s.live) :=
  ⟨⟨{ dev := rdy, pending := [] }, by decide +kernel⟩,
    ⟨{ dev := (rdy.put TOP_REFCLK_STATUS_V 7), pending := [] }, 0, by decide +kernel⟩,
    ⟨{ dev := rdy, pending := [] }, by decide +kernel⟩,
    ⟨{ dev := rdy, pending := [] }, by decide +kernel⟩,
    ⟨{ dev := rdy, pending := [] }, by decide +kernel⟩⟩

theorem witness_FatalCauses :
    (∃ (s : State) (temp : Int), s.live ∧ 2080 < temp ∧ s.dev.mode ≠ 0 ∧ s.dev.mode ≠ 7) ∧
    (∃ (s : State), s.live ∧ s.dev.mode ≠ 0 ∧ s.dev.mode ≠ 7) ∧
    (∃ (s : State), s.live ∧ s.dev.mode ≠ 0 ∧ s.dev.far.restarts = []) ∧
    (∃ (s : State) (us : Nat), s.live ∧ s.dev.mode ≠ 0 ∧ us ≤ 1000) ∧
    (∃ (s : State) (us : Nat), s.live ∧ s.dev.mode ≠ 0 ∧ 1000 < us) ∧
    (∃ (s : State), s.live ∧ s.dev.mode ≠ 0) :=
  ⟨⟨{ dev := rdy, pending := [] }, 2100, by decide +kernel⟩,
    ⟨{ dev := rdy, pending := [] }, by decide +kernel⟩,
    ⟨{ dev := rdy, pending := [] }, by decide +kernel⟩,
    ⟨{ dev := rdy, pending := [] }, 7, by decide +kernel⟩,
    ⟨{ dev := rdy, pending := [] }, 2000, by decide +kernel⟩,
    ⟨{ dev := rdy, pending := [] }, by decide +kernel⟩⟩

theorem witness_RungRequests :
    (∃ (s : State), s.takes POWER_RUNG_CTRL (2 ^ 31 + 1) ∧ s.dev.rung = 0 ∧ s.dev.rungStatic 1 = true) ∧
    (∃ (s : State), s.takes POWER_RUNG_CTRL (2 ^ 31 + 2) ∧ s.dev.rung = 0 ∧ s.dev.rungStatic 2 = true) ∧
    (∃ (s : State), s.takes POWER_RUNG_CTRL (2 ^ 31 + 3) ∧ s.dev.rung = 0 ∧ s.dev.rungStatic 3 = true) ∧
    (∃ (s : State), s.takes POWER_RUNG_CTRL (2 ^ 31 + 4) ∧ s.dev.rung = 0 ∧ s.dev.rungStatic 4 = true) ∧
    (∃ (s : State), s.takes POWER_RUNG_CTRL (2 ^ 31 + 5) ∧ s.dev.rung = 0 ∧ s.dev.rungStatic 5 = true) ∧
    (∃ (s : State), s.takes POWER_RUNG_CTRL (2 ^ 31) ∧ ((s.dev.rung = 1 ∨ s.dev.rung = 2)) ∧ bitOf (s.dev.word POWER_WAKE_ENABLE) 2 = true) :=
  ⟨⟨{ dev := rdy, pending := [] }, by decide +kernel⟩,
    ⟨{ dev := rdy, pending := [] }, by decide +kernel⟩,
    ⟨{ dev := rdy, pending := [] }, by decide +kernel⟩,
    ⟨{ dev := rdy, pending := [] }, by decide +kernel⟩,
    ⟨{ dev := rdy, pending := [] }, by decide +kernel⟩,
    ⟨{ dev := ((rdy.put POWER_RUNG_STATUS_STATE 1).setWord POWER_WAKE_ENABLE 63), pending := [] }, by decide +kernel⟩⟩

theorem witness_RungsAndWakes :
    (∃ (s : State), s.live ∧ s.dev.power.waiting = true ∧ s.dev.rung = 0 ∧ s.dev.rungDynamic (s.dev.get POWER_RUNG_STATUS_TARGET) = true ∧ s.dev.get POWER_RUNG_STATUS_TARGET < 4) ∧
    (∃ (s : State), s.live ∧ s.dev.power.waiting = true ∧ s.dev.rung = 0 ∧ s.dev.rungDynamic (s.dev.get POWER_RUNG_STATUS_TARGET) = true ∧ 4 ≤ s.dev.get POWER_RUNG_STATUS_TARGET) ∧
    (∃ (s : State), s.live ∧ s.dev.power.waiting = true) ∧
    (∃ (s : State) (t : Fin 6), s.live ∧ s.dev.rung = 6 ∧ 0 < t.val ∧ s.dev.get POWER_RUNG_STATUS_TARGET = t.val ∧ ((t.val < 4 ∨ s.dev.panelsDown t = true)) ∧ s.dev.flag HAR_DISCH_STATUS_ACTIVE = false ∧ s.dev.power.wakeHeld = false) ∧
    (∃ (s : State), s.live ∧ s.dev.rung = 7 ∧ 4 ≤ s.dev.get POWER_RUNG_STATUS_LAST_FROM ∧ s.dev.power.held = []) ∧
    (∃ (s : State), s.live ∧ s.dev.rung = 7) ∧
    (∃ (s : State), s.live ∧ ((s.dev.rung = 1 ∨ s.dev.rung = 2 ∨ s.dev.rung = 3)) ∧ bitOf (s.dev.word POWER_WAKE_ENABLE) 0 = true) ∧
    (∃ (s : State), s.live ∧ due32 (s.dev.get POWER_WAKE_TIME_V) (s.dev.nsc32 0) = true ∧ ((s.dev.rung = 1 ∨ s.dev.rung = 2 ∨ s.dev.rung = 3)) ∧ bitOf (s.dev.word POWER_WAKE_ENABLE) 3 = true) ∧
    (∃ (s : State), s.live ∧ s.dev.rung = 3 ∧ bitOf (s.dev.word POWER_WAKE_ENABLE) 2 = true) ∧
    (∃ (s : State), s.live ∧ s.dev.power.wakeHeld = true ∧ ((s.dev.rung = 4 ∨ s.dev.rung = 5))) :=
  ⟨⟨{ dev := ((rdy.put POWER_RUNG_STATUS_TARGET 1).onPower (fun u => { u with waiting := true })), pending := [] }, by decide +kernel⟩,
    ⟨{ dev := ((rdy.put POWER_RUNG_STATUS_TARGET 4).onPower (fun u => { u with waiting := true })), pending := [] }, by decide +kernel⟩,
    ⟨{ dev := (rdy.onPower (fun u => { u with waiting := true })), pending := [] }, by decide +kernel⟩,
    ⟨{ dev := ((rdy.put POWER_RUNG_STATUS_TARGET 1).put POWER_RUNG_STATUS_STATE 6), pending := [] }, 1, by decide +kernel⟩,
    ⟨{ dev := ((rdy.put POWER_RUNG_STATUS_LAST_FROM 4).put POWER_RUNG_STATUS_STATE 7), pending := [] }, by decide +kernel⟩,
    ⟨{ dev := ((rdy.put POWER_RUNG_STATUS_LAST_FROM 1).put POWER_RUNG_STATUS_STATE 7), pending := [] }, by decide +kernel⟩,
    ⟨{ dev := ((rdy.put POWER_RUNG_STATUS_STATE 2).setWord POWER_WAKE_ENABLE 63), pending := [] }, by decide +kernel⟩,
    ⟨{ dev := ((rdy.put POWER_RUNG_STATUS_STATE 3).setWord POWER_WAKE_ENABLE 63), pending := [] }, by decide +kernel⟩,
    ⟨{ dev := ((rdy.put POWER_RUNG_STATUS_STATE 3).setWord POWER_WAKE_ENABLE 63), pending := [] }, by decide +kernel⟩,
    ⟨{ dev := ((rdy.put POWER_RUNG_STATUS_STATE 4).onPower (fun u => { u with wakeHeld := true })), pending := [] }, by decide +kernel⟩⟩

theorem witness_SupplyEvents :
    (∃ (s : State) (n : Fin 5) (mv : Fin 65536), s.live ∧ 1 ≤ n.val ∧ n.val ≤ 3 ∧ s.dev.flag POWER_SHED_CTRL_ENABLE = true ∧ s.dev.shedLevel < n.val ∧ mv.val < s.dev.get (POWER_SHED_THRESHk_V (n.val - 1)) ∧ 3 ≤ s.dev.mode ∧ s.dev.mode ≤ 6 ∧ s.dev.rung = 0) ∧
    (∃ (s : State) (n : Fin 5) (mv : Fin 65536), s.live ∧ n.val = 4 ∧ mv.val < s.dev.get (POWER_SHED_THRESHk_V 3) ∧ s.dev.shedLevel < 4 ∧ ((s.dev.rung ≠ 6 ∨ s.dev.get POWER_RUNG_STATUS_TARGET < 4)) ∧ s.dev.mode ≠ 0) ∧
    (∃ (s : State) (mv : Fin 65536), s.live ∧ s.dev.flag POWER_SHED_STATUS_RECORDED = false ∧ s.dev.shedLevel = 2 ∧ s.dev.recoverAt 2 ≤ mv.val) ∧
    (∃ (s : State) (mv : Fin 65536), s.live ∧ s.dev.shedLevel = 3 ∧ s.dev.recoverAt 1 ≤ mv.val) ∧
    (∃ (s : State), s.takes POWER_SHED_REENABLE 1 ∧ s.dev.mode ≠ 7 ∧ s.dev.flag POWER_SHED_STATUS_REENABLE_OK = true) ∧
    (∃ (s : State) (k : Fin 13), s.live ∧ k.val ≠ 2 ∧ k.val ≠ 12 ∧ s.dev.railsMayGo = false ∧ s.dev.shedLevel ≠ 5) ∧
    (∃ (s : State) (mv : Fin 65536), s.live ∧ s.dev.shedLevel ≠ 5 ∧ mv.val < s.dev.get (POWER_SHED_THRESHk_V 4)) ∧
    (∃ (s : State), s.live ∧ s.dev.rung = 0 ∧ s.dev.mode ≠ 0) :=
  ⟨⟨{ dev := (rdy.put POWER_SHED_CTRL_ENABLE 1), pending := [] }, 1, 9000, by decide +kernel⟩,
    ⟨{ dev := rdy, pending := [] }, 4, 9000, by decide +kernel⟩,
    ⟨{ dev := (rdy.put POWER_SHED_STATUS_LEVEL 2), pending := [] }, 12800, by decide +kernel⟩,
    ⟨{ dev := (rdy.put POWER_SHED_STATUS_LEVEL 3), pending := [] }, 13400, by decide +kernel⟩,
    ⟨{ dev := ((rdy.put POWER_SHED_STATUS_LEVEL 3).put POWER_SHED_STATUS_REENABLE_OK 1), pending := [] }, by decide +kernel⟩,
    ⟨{ dev := rdy, pending := [] }, 1, by decide +kernel⟩,
    ⟨{ dev := rdy, pending := [] }, 5000, by decide +kernel⟩,
    ⟨{ dev := rdy, pending := [] }, by decide +kernel⟩⟩

theorem witness_PanelPower :
    (∃ (s : State) (h : Fin 8), s.takes (PANELh_CTRL h) 1 ∧ s.dev.panelState h = 0 ∧ s.dev.powerOk h = true) ∧
    (∃ (s : State) (h : Fin 8), s.takes (PANELh_CTRL h) 0 ∧ s.dev.headState h = 0) ∧
    (∃ (s : State) (h : Fin 8), s.live ∧ s.dev.isRaster h = true ∧ s.dev.panelState h = 1 ∧ s.dev.ownsVcomR h = false) ∧
    (∃ (s : State) (h : Fin 8), s.live ∧ s.dev.isRaster h = true ∧ s.dev.panelState h = 3 ∧ (nth {} s.dev.harn.panels h).step = 1) ∧
    (∃ (s : State) (h : Fin 8), s.live ∧ s.dev.panelState h = 1) :=
  ⟨⟨{ dev := (((((rdy.put (TACK_HEADn_PRESENT 0) 1)).put HAR_HOLD_STATUS_ARMED 1))), pending := [] }, 0, by decide +kernel⟩,
    ⟨{ dev := (((rdy.put (TACK_HEADn_PRESENT 0) 1)).put (PANELh_STATUS_STATE 0) 2), pending := [] }, 0, by decide +kernel⟩,
    ⟨{ dev := (((rdy.put (TACK_HEADn_PRESENT 0) 1)).put (PANELh_STATUS_STATE 0) 1), pending := [] }, 0, by decide +kernel⟩,
    ⟨{ dev := ((((rdy.put (TACK_HEADn_PRESENT 0) 1)).put (PANELh_STATUS_STATE 0) 3).onPanel 0 (fun u => { u with step := 1 })), pending := [] }, 0, by decide +kernel⟩,
    ⟨{ dev := (((rdy.put (TACK_HEADn_PRESENT 0) 1)).put (PANELh_STATUS_STATE 0) 1), pending := [] }, 0, by decide +kernel⟩⟩

theorem witness_FastDischarge :
    (∃ (s : State), s.live ∧ s.dev.flag HAR_PUMP_STATUS_RUNNING = true) ∧
    (∃ (s : State) (mv : Fin 65536), s.live ∧ mv.val < 4200) ∧
    (∃ (s : State) (x : Fin 23) (h : Nat), s.live ∧ s.dev.outputOwner x = some h) ∧
    (∃ (s : State), s.live) ∧
    (∃ (s : State) (v : Word), s.takes HAR_DISCH_GO v.toNat ∧ (∀ h ∈ onesOf 8 v.toNat, s.dev.headState h = 0)) ∧
    (∃ (s : State) (h : Fin 8), s.live ∧ s.dev.panelState h = 4 ∧ s.dev.isMip h = false) ∧
    (∃ (s : State) (h : Fin 8), s.live ∧ s.dev.panelState h = 4) :=
  ⟨⟨{ dev := (rdy.put HAR_PUMP_STATUS_RUNNING 1), pending := [] }, by decide +kernel⟩,
    ⟨{ dev := rdy, pending := [] }, 4000, by decide +kernel⟩,
    ⟨{ dev := (((((rdy.put (TACK_HEADn_PRESENT 0) 1)).put (GMAk_CTRL_ENABLE 0) 1))), pending := [] }, 4, 0, by decide +kernel⟩,
    ⟨{ dev := rdy, pending := [] }, by decide +kernel⟩,
    ⟨{ dev := rdy, pending := [] }, 1, by decide +kernel⟩,
    ⟨{ dev := (((rdy.put (TACK_HEADn_PRESENT 0) 1)).put (PANELh_STATUS_STATE 0) 4), pending := [] }, 0, by decide +kernel⟩,
    ⟨{ dev := (((rdy.put (TACK_HEADn_PRESENT 0) 1)).put (PANELh_STATUS_STATE 0) 4), pending := [] }, 0, by decide +kernel⟩⟩

theorem witness_HarnessMeasurements :
    (∃ (s : State), s.live) ∧
    (∃ (s : State) (h : Fin 8), s.live ∧ s.dev.panelState h ≠ 0) ∧
    (∃ (s : State), s.live) ∧
    (∃ (s : State) (mv : Fin 65536), s.live ∧ (s.dev.get HAR_GMA_FS_MV_V : Int) + 300 ≤ sgn 16 mv) ∧
    (∃ (s : State) (mv : Fin 65536), s.live ∧ (s.dev.get HAR_GMA_FS_MV_V : Int) + 300 ≤ sgn 16 mv) ∧
    (∃ (s : State) (t : Fin 8) (c : Fin 4096), s.live ∧ bitOf (s.dev.get HAR_THERM_CTRL_V) t = true ∧ 16 < c.val ∧ c.val < 4080) ∧
    (∃ (s : State) (g : Fin 4) (mohm : Nat) (r : Fin 3), s.live ∧ s.dev.mode ≠ 0 ∧ s.dev.girthOn g = true ∧ (s.dev.girthMeasure g mohm r).1 = false) ∧
    (∃ (s : State) (g : Fin 4) (a : Fin 256) (k : Fin 16), s.takes (GIRTHg_CTRL g) (2 ^ 31 + a.val * 256 + k.val)) :=
  ⟨⟨{ dev := rdy, pending := [] }, by decide +kernel⟩,
    ⟨{ dev := (rdy.put (PANELh_STATUS_STATE 0) 2), pending := [] }, 0, by decide +kernel⟩,
    ⟨{ dev := rdy, pending := [] }, by decide +kernel⟩,
    ⟨{ dev := rdy, pending := [] }, 16000, by decide +kernel⟩,
    ⟨{ dev := rdy, pending := [] }, 16000, by decide +kernel⟩,
    ⟨{ dev := (rdy.put HAR_THERM_CTRL_V 2), pending := [] }, 1, 2000, by decide +kernel⟩,
    ⟨{ dev := (rdy.setWord MIP_GIRTH_MAP 128), pending := [] }, 0, 1000, 1, by decide +kernel⟩,
    ⟨{ dev := rdy, pending := [] }, 0, 20, 3, by decide +kernel⟩⟩

theorem witness_ImageLoads :
    (∃ (s : State), s.takes TACK_PUSH_GO 1 ∧ s.dev.get TACK_STATUS_STATE = 6) ∧
    (∃ (s : State), s.takes TACK_CONTROL (256 + s.dev.get TACK_CONTROL_NEXT_SLOT)) ∧
    (∃ (s : State), s.live ∧ s.dev.mode = 2 ∧ s.dev.get TACK_STATUS_STATE = 2 ∧ s.dev.tack.source = 3) ∧
    (∃ (s : State), s.live ∧ s.dev.mode = 2 ∧ s.dev.get TACK_STATUS_STATE = 1 ∧ s.dev.get TACK_STATUS_SOURCE = 0) ∧
    (∃ (s : State) (a : Option (List Byte)) (l : List Byte), s.live ∧ s.dev.mode = 2 ∧ s.dev.get TACK_STATUS_STATE = 2 ∧ s.dev.tack.header = none ∧ s.dev.tack.source < 3 ∧ a = some l) ∧
    (∃ (s : State) (l : List Byte), s.live ∧ s.dev.mode = 2 ∧ s.dev.get TACK_STATUS_STATE = 2 ∧ s.dev.tack.header = some l ∧ s.dev.tack.source < 3) ∧
    (∃ (s : State), s.live ∧ s.dev.mode = 2 ∧ s.dev.get TACK_STATUS_STATE = 1) ∧
    (∃ (s : State), s.live ∧ s.dev.mode = 2 ∧ s.dev.get TACK_STATUS_STATE = 3) ∧
    (∃ (s : State), s.live ∧ s.dev.mode = 2 ∧ s.dev.get TACK_STATUS_STATE = 4 ∧ s.dev.wavesBad (imgHeads s.dev.tack.image) ((imgRecords s.dev.tack.image).getD []) = false) :=
  ⟨⟨{ dev := (rdy.put TACK_STATUS_STATE 6), pending := [] }, by decide +kernel⟩,
    ⟨{ dev := rdy, pending := [] }, by decide +kernel⟩,
    ⟨{ dev := (((({} : Dev).put TOP_STATUS_MODE 2).put TACK_STATUS_STATE 2).onTack (fun u => { u with source := 3 })), pending := [] }, by decide +kernel⟩,
    ⟨{ dev := ((({} : Dev).put TOP_STATUS_MODE 2).put TACK_STATUS_STATE 1), pending := [] }, by decide +kernel⟩,
    ⟨{ dev := ((({} : Dev).put TOP_STATUS_MODE 2).put TACK_STATUS_STATE 2), pending := [] }, some [], [], by decide +kernel⟩,
    ⟨{ dev := (((({} : Dev).put TOP_STATUS_MODE 2).put TACK_STATUS_STATE 2).onTack (fun u => { u with header := some [] })), pending := [] }, [], by decide +kernel⟩,
    ⟨{ dev := ((({} : Dev).put TOP_STATUS_MODE 2).put TACK_STATUS_STATE 1), pending := [] }, by decide +kernel⟩,
    ⟨{ dev := ((({} : Dev).put TOP_STATUS_MODE 2).put TACK_STATUS_STATE 3), pending := [] }, by decide +kernel⟩,
    ⟨{ dev := ((({} : Dev).put TOP_STATUS_MODE 2).put TACK_STATUS_STATE 4), pending := [] }, by decide +kernel⟩⟩

theorem witness_Retack :
    (∃ (s : State) (h : Fin 8), s.takes TACK_RT_CONTROL (256 + h.val) ∧ s.dev.rtActive = false ∧ (s.dev.writePlain TACK_RT_CONTROL (256 + h.val)).rtStartOk h = true ∧ s.dev.rtStartOk h = true) ∧
    (∃ (s : State), s.takes TACK_RT_CONTROL (512 + s.dev.get TACK_RT_CONTROL_HEAD) ∧ s.dev.rtActive = true) ∧
    (∃ (s : State), s.live ∧ s.dev.get TACK_RT_STATUS_STATE = 1) ∧
    (∃ (s : State), s.live ∧ s.dev.get TACK_RT_STATUS_STATE = 2) ∧
    (∃ (s : State), s.live ∧ s.dev.get TACK_RT_STATUS_STATE = 3 ∧ s.dev.rtPrepared.scans (s.dev.get TACK_RT_STATUS_HEAD) = true) ∧
    (∃ (s : State), s.live ∧ s.dev.get TACK_RT_STATUS_STATE = 3 ∧ s.dev.rtPrepared.scans (s.dev.get TACK_RT_STATUS_HEAD) = false ∧ s.dev.rtPrepared.isMip (s.dev.get TACK_RT_STATUS_HEAD) = false) :=
  ⟨⟨{ dev := (((rdy.put (TACK_HEADn_PRESENT 0) 1)).put TACK_RT_LENGTH_V 1024), pending := [] }, 0, by decide +kernel⟩,
    ⟨{ dev := ((((rdy.put (TACK_HEADn_PRESENT 0) 1)).put TOP_STATUS_MODE 5).put TACK_RT_STATUS_STATE 1), pending := [] }, by decide +kernel⟩,
    ⟨{ dev := (((rdy.put (TACK_HEADn_PRESENT 0) 1)).put TACK_RT_STATUS_STATE 1), pending := [] }, by decide +kernel⟩,
    ⟨{ dev := (((rdy.put (TACK_HEADn_PRESENT 0) 1)).put TACK_RT_STATUS_STATE 2), pending := [] }, by decide +kernel⟩,
    ⟨{ dev := ((((rdy.put (TACK_HEADn_PRESENT 0) 1)).put TACK_RT_STATUS_STATE 3).put (HDn_STATUS_STATE 0) 1), pending := [] }, by decide +kernel⟩,
    ⟨{ dev := (((rdy.put (TACK_HEADn_PRESENT 0) 1)).put TACK_RT_STATUS_STATE 3), pending := [] }, by decide +kernel⟩⟩

theorem witness_TimeBases :
    (∃ (s : State) (n : Fin 4) (v : Word), s.takes (TBn_LATCH n) v.toNat ∧ v ≠ 0) ∧
    (∃ (s : State) (n : Fin 4) (v : Word), s.takes (TBn_CTRL n) v.toNat ∧ tbCtrlOk n v.toNat = true ∧ bitsOf v.toNat 28 4 ≠ s.dev.get (TBn_CTRL_SOURCE n)) ∧
    (∃ (s : State) (n : Fin 4), s.takes (TBn_STEP_CTRL n) 1 ∧ n ≠ 3 ∧ s.dev.flag (TBn_STATUS_STEP_PENDING n) = false ∧ s.dev.stepFits n = true) ∧
    (∃ (s : State) (n : Fin 4), s.takes (TBn_STEP_CTRL n) 2) ∧
    (∃ (s : State) (n : Fin 4), s.takes (TBn_STEP_CTRL n) 4 ∧ n ≠ 3 ∧ s.dev.get (TBn_STATUS_STATE n) = 3 ∧ s.dev.flag (TBn_STATUS_DISCONTINUITY n) = true) ∧
    (∃ (s : State) (n : Fin 4), s.live ∧ s.dev.flag (TBn_STATUS_STEP_PENDING n) = true) ∧
    (∃ (s : State) (n : Fin 4) (src : Fin 16) (arg : Fin 4) (x : Int), s.live ∧ s.dev.get (TBn_CTRL_SOURCE n) = src ∧ s.dev.get (TBn_CTRL_ARG n) = arg ∧ 2 ≤ s.dev.get (TBn_CTRL_SOURCE n) ∧ s.dev.get (TBn_CTRL_SOURCE n) ≠ 3 ∧ s.dev.get (TBn_CTRL_SOURCE n) ≠ 8 ∧ (s.dev.tb n).meas = some x ∧ s.dev.mode ≠ 0 ∧ s.dev.get (TBn_STATUS_STATE n) = 2 ∧ s.dev.get (TBn_DISC_THRESH_V n) < x.natAbs) ∧
    (∃ (s : State) (src : Fin 16) (arg : Fin 4) (n : Fin 3), s.live ∧ src.val ≠ 0 ∧ src.val ≠ 3 ∧ src.val ≠ 8 ∧ s.dev.mode ≠ 0 ∧ n.val < s.dev.time.tbs.length ∧ s.dev.usesSource src arg n = true ∧ s.dev.get (TBn_STATUS_STATE n) = 2) ∧
    (∃ (s : State) (v : Word), s.takes TC_CTRL v.toNat ∧ bitsOf v.toNat 28 4 ≠ s.dev.get TC_CTRL_RATE) :=
  ⟨⟨{ dev := rdy, pending := [] }, 0, 1, by decide +kernel⟩,
    ⟨{ dev := rdy, pending := [] }, 0, 0x50000000 ||| (BitVec.ofNat 32 (({} : Dev).word (TBn_CTRL 0)) &&& 0x03FFFFFF), by decide +kernel⟩,
    ⟨{ dev := rdy, pending := [] }, 0, by decide +kernel⟩,
    ⟨{ dev := rdy, pending := [] }, 1, by decide +kernel⟩,
    ⟨{ dev := ((rdy.put (TBn_STATUS_STATE 0) 3).putB (TBn_STATUS_DISCONTINUITY 0) true), pending := [] }, 0, by decide +kernel⟩,
    ⟨{ dev := (rdy.putB (TBn_STATUS_STEP_PENDING 0) true), pending := [] }, 0, by decide +kernel⟩,
    ⟨{ dev := ((((rdy.put (TBn_CTRL_SOURCE 0) 5).put (TBn_STATUS_STATE 0) 2).put (TBn_DISC_THRESH_V 0) 1000).onTb 0 (fun t => { t with meas := some 2000000000 })), pending := [] }, 0, 5, 0, 2000000000, by decide +kernel⟩,
    ⟨{ dev := ((rdy.put (TBn_CTRL_SOURCE 0) 5).put (TBn_STATUS_STATE 0) 2), pending := [] }, 5, 0, 0, by decide +kernel⟩,
    ⟨{ dev := rdy, pending := [] }, 0x20000000, by decide +kernel⟩⟩

theorem witness_TimecodeAndSync :
    (∃ (s : State) (l : TcLabel), s.live ∧ s.dev.flag TC_CTRL_LTC_OUT_EN = true ∧ s.dev.mode ≠ 0 ∧ l = nearestLabel (((s.dev.tb 1).total : Int) - s.dev.getI LTCOUT_OFFSET_V) (s.dev.get TC_CTRL_RATE)) ∧
    (∃ (s : State), s.live ∧ s.dev.flag TC_CTRL_LTC_IN_EN = true ∧ s.dev.mode ≠ 0) ∧
    (∃ (s : State) (f : Fin 8) (r : Fin 16), s.live ∧ s.dev.flag SYNCIN_ENABLE_V = true ∧ s.dev.mode ≠ 0 ∧ syncInOk f r = true) ∧
    (∃ (s : State), s.live ∧ s.dev.get SYNCOUT_CTRL_FORMAT ≠ 0 ∧ s.dev.mode ≠ 0) ∧
    (∃ (s : State), s.live ∧ s.dev.mode ≠ 0 ∧ s.dev.get PPSOUT_WIDTH_V ≠ 0 ∧ s.dev.time.ppsNext ≤ s.dev.ppsSecond) ∧
    (∃ (s : State), s.live) ∧
    (∃ (s : State) (falling : Bool), s.live ∧ s.dev.mode ≠ 0 ∧ s.dev.flag PPSIN_EDGE_V = falling) ∧
    (∃ (s : State) (c : Fin 16) (falling : Bool), s.live ∧ 1 ≤ s.dev.get (CAPc_CTRL_SOURCE c) ∧ s.dev.get (CAPc_CTRL_SOURCE c) ≤ 3 ∧ ((s.dev.get (CAPc_CTRL_SOURCE c) = 1 → s.dev.capEdge c falling = true)) ∧ (s.dev.cap c).length < 4) ∧
    (∃ (s : State) (c : Fin 16) (v : Word), s.takes (CAPc_POP c) v.toNat ∧ v ≠ 0 ∧ (s.dev.cap c).length ≤ 4) :=
  ⟨⟨{ dev := (rdy.put TC_CTRL_LTC_OUT_EN 1), pending := [] }, { hours := 0, minutes := 0, seconds := 0, frames := 0 }, by decide +kernel⟩,
    ⟨{ dev := (rdy.put TC_CTRL_LTC_IN_EN 1), pending := [] }, by decide +kernel⟩,
    ⟨{ dev := (rdy.put SYNCIN_ENABLE_V 1), pending := [] }, 1, 2, by decide +kernel⟩,
    ⟨{ dev := (rdy.put SYNCOUT_CTRL_FORMAT 1), pending := [] }, by decide +kernel⟩,
    ⟨{ dev := ((rdy.put PPSOUT_WIDTH_V 5) |> fun d => { d with time := { d.time with ppsNext := 0 } }), pending := [] }, by decide +kernel⟩,
    ⟨{ dev := rdy, pending := [] }, by decide +kernel⟩,
    ⟨{ dev := rdy, pending := [] }, false, by decide +kernel⟩,
    ⟨{ dev := (rdy.put (CAPc_CTRL_SOURCE 0) 1), pending := [] }, 0, false, by decide +kernel⟩,
    ⟨{ dev := rdy, pending := [] }, 0, 1, by decide +kernel⟩⟩

theorem witness_PtpSends :
    (∃ (s : State) (p : Fin 2), s.live ∧ s.dev.ptpOn p = true ∧ s.dev.get (PTPp_STATE_V p) = psMaster ∧ s.dev.flag (PTPp_CTRL_ONE_STEP p) = false) ∧
    (∃ (s : State) (p : Fin 2), s.live ∧ s.dev.ptpOn p = true ∧ s.dev.get (PTPp_STATE_V p) = psSlave) ∧
    (∃ (s : State) (p : Fin 2), s.live ∧ s.dev.ptpOn p = true ∧ s.dev.get (PTPp_STATE_V p) = psMaster) ∧
    (∃ (s : State) (p : Fin 2) (dom : Nat), s.live ∧ s.dev.ptpOn p = true ∧ dom = s.dev.get PTP_CTRL_DOMAIN ∧ s.dev.get (PTPp_STATE_V p) = psMaster) ∧
    (∃ (s : State) (p : Fin 2) (dom : Nat) (k : Nat) (l : List Byte), s.live ∧ s.dev.ptpOn p = true ∧ dom = s.dev.get PTP_CTRL_DOMAIN ∧ s.dev.dataSet p k = some l) ∧
    (∃ (s : State) (p : Fin 2) (dom : Nat), s.live ∧ s.dev.ptpOn p = true ∧ dom = s.dev.get PTP_CTRL_DOMAIN) :=
  ⟨⟨{ dev := (((rdy.put (PTPp_CTRL_ENABLE 0) 1).put (Ep_CTRL_ENABLE 0) 1).put (PTPp_STATE_V 0) 6), pending := [] }, 0, by decide +kernel⟩,
    ⟨{ dev := ((((rdy.put (PTPp_CTRL_ENABLE 0) 1).put (Ep_CTRL_ENABLE 0) 1).put (PTPp_STATE_V 0) 9).onPtp 0 (fun x => { x with master := some 7 })), pending := [] }, 0, by decide +kernel⟩,
    ⟨{ dev := (((rdy.put (PTPp_CTRL_ENABLE 0) 1).put (Ep_CTRL_ENABLE 0) 1).put (PTPp_STATE_V 0) 6), pending := [] }, 0, by decide +kernel⟩,
    ⟨{ dev := (((rdy.put (PTPp_CTRL_ENABLE 0) 1).put (Ep_CTRL_ENABLE 0) 1).put (PTPp_STATE_V 0) 6), pending := [] }, 0, (rdy.get PTP_CTRL_DOMAIN), by decide +kernel⟩,
    ⟨{ dev := (((rdy.put (PTPp_CTRL_ENABLE 0) 1).put (Ep_CTRL_ENABLE 0) 1).put (PTPp_STATE_V 0) 6), pending := [] }, 0, (rdy.get PTP_CTRL_DOMAIN), 3, (((((rdy.put (PTPp_CTRL_ENABLE 0) 1).put (Ep_CTRL_ENABLE 0) 1).put (PTPp_STATE_V 0) 6).dataSet 0 3).getD []), by decide +kernel⟩,
    ⟨{ dev := (((rdy.put (PTPp_CTRL_ENABLE 0) 1).put (Ep_CTRL_ENABLE 0) 1).put (PTPp_STATE_V 0) 6), pending := [] }, 0, (rdy.get PTP_CTRL_DOMAIN), by decide +kernel⟩⟩

theorem witness_PtpReceptions :
    (∃ (s : State) (p : Fin 2) (dom : Nat) (snd : Nat), s.live ∧ s.dev.ptpOn p = true ∧ dom = s.dev.get PTP_CTRL_DOMAIN ∧ (s.dev.ptpPort p).master = some snd ∧ s.dev.get (PTPp_STATE_V p) = psSlave ∧ p.val < s.dev.time.ptp.length) ∧
    (∃ (s : State) (p : Fin 2) (dom : Nat) (snd : Nat) (seq : Nat), s.live ∧ s.dev.ptpOn p = true ∧ dom = s.dev.get PTP_CTRL_DOMAIN ∧ (s.dev.ptpPort p).master = some snd ∧ s.dev.get (PTPp_STATE_V p) = psSlave ∧ (s.dev.ptpPort p).waitFollowUp = true ∧ (s.dev.ptpPort p).syncSeq = seq) ∧
    (∃ (s : State) (p : Fin 2) (dom : Nat) (snd : Nat) (seq : Nat), s.live ∧ s.dev.ptpOn p = true ∧ dom = s.dev.get PTP_CTRL_DOMAIN ∧ (s.dev.ptpPort p).master = some snd ∧ s.dev.get (PTPp_STATE_V p) = psSlave ∧ (s.dev.ptpPort p).waitResp = true ∧ (s.dev.ptpPort p).reqSeq = seq) ∧
    (∃ (s : State) (p : Fin 2) (dom : Nat) (sid : Nat), s.live ∧ s.dev.ptpOn p = true ∧ dom = s.dev.get PTP_CTRL_DOMAIN ∧ sid ≠ s.dev.clockId) ∧
    (∃ (s : State) (p : Fin 2), s.live ∧ s.dev.ptpOn p = true) ∧
    (∃ (s : State) (p : Fin 2) (dom : Nat), s.live ∧ s.dev.ptpOn p = true ∧ dom = s.dev.get PTP_CTRL_DOMAIN) ∧
    (∃ (s : State) (p : Fin 2), s.live ∧ s.dev.ptpOn p = true) ∧
    (∃ (s : State) (p : Fin 2) (dom : Nat) (v2 : Bool), s.live ∧ s.dev.ptpOn p = true ∧ ((v2 = false ∨ dom ≠ s.dev.get PTP_CTRL_DOMAIN))) ∧
    (∃ (s : State) (p : Fin 2) (dom : Nat) (v2 : Bool), s.live ∧ s.dev.ptpOn p = true ∧ ((v2 = false ∨ dom ≠ s.dev.get PTP_CTRL_DOMAIN))) :=
  ⟨⟨{ dev := ((((rdy.put (PTPp_CTRL_ENABLE 0) 1).put (Ep_CTRL_ENABLE 0) 1).put (PTPp_STATE_V 0) 9).onPtp 0 (fun x => { x with master := some 7 })), pending := [] }, 0, (rdy.get PTP_CTRL_DOMAIN), 7, by decide +kernel⟩,
    ⟨{ dev := (((((rdy.put (PTPp_CTRL_ENABLE 0) 1).put (Ep_CTRL_ENABLE 0) 1).put (PTPp_STATE_V 0) 9).onPtp 0 (fun x => { x with master := some 7 })).onPtp 0 (fun x => { x with waitFollowUp := true, syncSeq := 1 })), pending := [] }, 0, (rdy.get PTP_CTRL_DOMAIN), 7, 1, by decide +kernel⟩,
    ⟨{ dev := (((((rdy.put (PTPp_CTRL_ENABLE 0) 1).put (Ep_CTRL_ENABLE 0) 1).put (PTPp_STATE_V 0) 9).onPtp 0 (fun x => { x with master := some 7 })).onPtp 0 (fun x => { x with waitResp := true, reqSeq := 1 })), pending := [] }, 0, (rdy.get PTP_CTRL_DOMAIN), 7, 1, by decide +kernel⟩,
    ⟨{ dev := (((rdy.put (PTPp_CTRL_ENABLE 0) 1).put (Ep_CTRL_ENABLE 0) 1).put (PTPp_STATE_V 0) 6), pending := [] }, 0, (rdy.get PTP_CTRL_DOMAIN), 77, by decide +kernel⟩,
    ⟨{ dev := ((((rdy.put (PTPp_CTRL_ENABLE 0) 1).put (Ep_CTRL_ENABLE 0) 1).put (PTPp_STATE_V 0) 9).onPtp 0 (fun x => { x with master := some 7 })), pending := [] }, 0, by decide +kernel⟩,
    ⟨{ dev := (((rdy.put (PTPp_CTRL_ENABLE 0) 1).put (Ep_CTRL_ENABLE 0) 1).put (PTPp_STATE_V 0) 6), pending := [] }, 0, (rdy.get PTP_CTRL_DOMAIN), by decide +kernel⟩,
    ⟨{ dev := ((((rdy.put (PTPp_CTRL_ENABLE 0) 1).put (Ep_CTRL_ENABLE 0) 1).put (PTPp_STATE_V 0) 9).onPtp 0 (fun x => { x with master := some 7 })), pending := [] }, 0, by decide +kernel⟩,
    ⟨{ dev := ((((rdy.put (PTPp_CTRL_ENABLE 0) 1).put (Ep_CTRL_ENABLE 0) 1).put (PTPp_STATE_V 0) 9).onPtp 0 (fun x => { x with master := some 7 })), pending := [] }, 0, 0, false, by decide +kernel⟩,
    ⟨{ dev := ((((rdy.put (PTPp_CTRL_ENABLE 0) 1).put (Ep_CTRL_ENABLE 0) 1).put (PTPp_STATE_V 0) 9).onPtp 0 (fun x => { x with master := some 7 })), pending := [] }, 0, 0, false, by decide +kernel⟩⟩

theorem witness_TeamTime :
    (∃ (s : State), s.live ∧ s.dev.flag TEAM_TIME_CTRL_ENABLE = true ∧ s.dev.mode ≠ 0) ∧
    (∃ (s : State) (k : Fin 16) (l : List (List Byte)), s.live ∧ s.dev.flag TEAM_TIME_CTRL_ENABLE = true ∧ s.dev.get TEAM_TIME_CTRL_UPSTREAM = k ∧ s.dev.mode ≠ 0 ∧ l ≠ [] ∧ (∀ b ∈ l, 1 ≤ blkKind b ∧ blkKind b ≤ 9) ∧ s.dev.acceptSet l = none) ∧
    (∃ (s : State) (k : Fin 16) (l : List (List Byte)) (ps : List StepPair), s.live ∧ s.dev.flag TEAM_TIME_CTRL_ENABLE = true ∧ s.dev.get TEAM_TIME_CTRL_UPSTREAM = k ∧ s.dev.mode ≠ 0 ∧ (∀ b ∈ l, 1 ≤ blkKind b ∧ blkKind b ≤ 9) ∧ s.dev.acceptSet l = some ps) ∧
    (∃ (s : State), s.live ∧ s.dev.flag TEAM_TIME_CTRL_ENABLE = true ∧ s.dev.get TEAM_TIME_CTRL_UPSTREAM < 16 ∧ 16 ≤ s.dev.time.sets ∧ s.dev.mode ≠ 0) ∧
    (∃ (s : State) (k : Fin 16), s.live ∧ s.dev.flag TEAM_TIME_CTRL_ENABLE = true ∧ bitOf (s.dev.get TEAM_TIME_CTRL_DOWNSTREAM) k = true ∧ s.dev.mode ≠ 0) ∧
    (∃ (s : State) (k : Fin 16) (q : Fin 16), s.live ∧ s.dev.flag TEAM_TIME_CTRL_ENABLE = true ∧ s.dev.get TEAM_TIME_CTRL_UPSTREAM = k ∧ s.dev.time.reqSeq = q ∧ s.dev.mode ≠ 0) ∧
    (∃ (s : State) (n : Fin 2) (p : StepPair), s.live ∧ s.dev.time.pairs.find? (fun q => q.tb == n.val) = some p ∧ s.dev.get (TBn_CTRL_SOURCE n) = 7) :=
  ⟨⟨{ dev := ((rdy.put TEAM_TIME_CTRL_ENABLE 1).put TEAM_TIME_CTRL_DOWNSTREAM 5), pending := [] }, by decide +kernel⟩,
    ⟨{ dev := ((rdy.put TEAM_TIME_CTRL_ENABLE 1).put TEAM_TIME_CTRL_UPSTREAM 2), pending := [] }, 2, [(timeBlock 1 0 []).bytes], by decide +kernel⟩,
    ⟨{ dev := (((rdy.put TEAM_TIME_CTRL_ENABLE 1).put TEAM_TIME_CTRL_UPSTREAM 2).put TEAM_NODE_ID_V 3), pending := [] }, 2, [(timeBlock 1 3 (leBytes 6 0)).bytes, (timeBlock 2 3 (leBytes 6 5)).bytes, (timeBlock 3 3 (leBytes 6 0)).bytes, (timeBlock 4 3 (leBytes 6 5)).bytes, (timeBlock 5 3 (leBytes 6 9)).bytes], [], by decide +kernel⟩,
    ⟨{ dev := (((rdy.put TEAM_TIME_CTRL_ENABLE 1).put TEAM_TIME_CTRL_UPSTREAM 2) |> fun d => { d with time := { d.time with sets := 16 } }), pending := [] }, by decide +kernel⟩,
    ⟨{ dev := ((rdy.put TEAM_TIME_CTRL_ENABLE 1).put TEAM_TIME_CTRL_DOWNSTREAM 5), pending := [] }, 0, by decide +kernel⟩,
    ⟨{ dev := ((rdy.put TEAM_TIME_CTRL_ENABLE 1).put TEAM_TIME_CTRL_UPSTREAM 2), pending := [] }, 2, 0, by decide +kernel⟩,
    ⟨{ dev := ({ rdy.put (TBn_CTRL_SOURCE 0) 7 with time := { rdy.time with pairs := [{ tb := 0, sec := 1, ns := 0, boundary := 5, onTb0 := false }] } } : Dev), pending := [] }, 0, { tb := 0, sec := 1, ns := 0, boundary := 5, onTb0 := false }, by decide +kernel⟩⟩

theorem witness_Marks :
    (∃ (s : State) (m : Fin 256) (v : Word), s.takes (Mm_CTRL m) v.toNat ∧ bitOf v.toNat 31 = true ∧ bitOf v.toNat 30 = false ∧ s.dev.flag (Mm_CTRL_ARM m) = false ∧ s.dev.get (Mm_TRIGGER_KIND m) = 1 ∧ past32 (s.dev.get (Mm_WHEN_V m)) (s.dev.nsc32 (s.dev.get (Mm_TRIGGER_SOURCE m))) = false) ∧
    (∃ (s : State) (m : Fin 256) (v : Word), s.takes (Mm_CTRL m) v.toNat ∧ bitOf v.toNat 31 = true ∧ bitOf v.toNat 30 = true ∧ s.dev.flag (Mm_CTRL_ARM m) = false ∧ 2 ≤ s.dev.get (Mm_TRIGGER_KIND m) ∧ s.dev.get (Mm_TRIGGER_KIND m) ≤ 4) ∧
    (∃ (s : State) (m : Fin 256) (v : Word), s.takes (Mm_CTRL m) v.toNat ∧ bitOf v.toNat 31 = false ∧ markCtrlOk m v.toNat s.dev = true) ∧
    (∃ (s : State), s.takes SCHED_DISARM_ALL 1) ∧
    (∃ (s : State) (m : Fin 256), s.live ∧ s.dev.schedRuns = true ∧ (s.dev.sched.shots.any (fun p => p.1 == m.val)) = false ∧ s.dev.markDue m = true) ∧
    (∃ (s : State) (m : Fin 256), s.live ∧ s.dev.markDue m = false) ∧
    (∃ (s : State) (m : Fin 256), s.live ∧ s.dev.schedRuns = true ∧ (s.dev.sched.shots.any (fun p => p.1 == m.val)) = false ∧ s.dev.flag (Mm_CTRL_ARM m) = true ∧ s.dev.flag (Mm_CTRL_REPEAT m) = true ∧ s.dev.get (Mm_TRIGGER_KIND m) ≠ 4) ∧
    (∃ (s : State) (m : Fin 256), s.live ∧ s.dev.schedRuns = true ∧ (s.dev.sched.shots.any (fun p => p.1 == m.val)) = false ∧ s.dev.flag (Mm_CTRL_ARM m) = true ∧ s.dev.flag (Mm_CTRL_REPEAT m) = false ∧ s.dev.markPast m = true) ∧
    (∃ (s : State) (p : Fin 48), s.live ∧ nth false s.dev.pins.pulsing p = true ∧ nth false s.dev.pins.mapped p = true) :=
  ⟨⟨{ dev := ((rdy.put (Mm_TRIGGER_KIND 3) 1).put (Mm_WHEN_V 3) 1000), pending := [] }, 3, 0x80000000, by decide +kernel⟩,
    ⟨{ dev := (rdy.put (Mm_TRIGGER_KIND 3) 2), pending := [] }, 3, 0xC0000000, by decide +kernel⟩,
    ⟨{ dev := rdy, pending := [] }, 3, 0, by decide +kernel⟩,
    ⟨{ dev := rdy, pending := [] }, by decide +kernel⟩,
    ⟨{ dev := (((rdy.put (Mm_TRIGGER_KIND 3) 1).put (Mm_CTRL_ARM 3) 1)), pending := [] }, 3, by decide +kernel⟩,
    ⟨{ dev := rdy, pending := [] }, 3, by decide +kernel⟩,
    ⟨{ dev := (((rdy.put (Mm_TRIGGER_KIND 3) 2).put (Mm_CTRL_ARM 3) 1).put (Mm_CTRL_REPEAT 3) 1), pending := [] }, 3, by decide +kernel⟩,
    ⟨{ dev := ((((rdy.put (Mm_TRIGGER_KIND 3) 1).put (Mm_WHEN_V 3) 0xFFFFFFFF).put (Mm_CTRL_ARM 3) 1)), pending := [] }, 3, by decide +kernel⟩,
    ⟨{ dev := (rdy.onPins (fun u => { u with pulsing := List.replicate 48 true, mapped := List.replicate 48 true })), pending := [] }, 3, by decide +kernel⟩⟩

theorem witness_HeadCommitRunStop :
    (∃ (s : State) (h : Fin 8), s.takes (HDn_COMMIT h) 1 ∧ s.dev.flag (HDn_SHADOW_STATE_V h) = false ∧ s.dev.commitSetOk h = true) ∧
    (∃ (s : State) (h : Fin 8), s.takes (HDn_COMMIT h) 1 ∧ s.dev.flag (HDn_SHADOW_STATE_V h) = true) ∧
    (∃ (s : State) (h : Fin 8), s.live ∧ s.dev.isMip h = false ∧ s.dev.atCommit h = true) ∧
    (∃ (s : State) (h : Fin 8), s.live ∧ s.dev.isMip h = true ∧ (s.dev.mip h).phase = 1) ∧
    (∃ (s : State) (h : Fin 8), s.takes (HDn_CTRL h) 1 ∧ s.dev.isMip h = false ∧ s.dev.headPresent h = true ∧ s.dev.headState h = 0 ∧ s.dev.rasterRunOk h = true) ∧
    (∃ (s : State) (h : Fin 8), s.takes (HDn_CTRL h) 1 ∧ s.dev.isMip h = false ∧ s.dev.headPresent h = true ∧ s.dev.headState h = 2 ∧ s.dev.rasterRunOk h = true) ∧
    (∃ (s : State) (h : Fin 8), s.takes (HDn_CTRL h) 0 ∧ s.dev.isMip h = false ∧ s.dev.headState h = 1) ∧
    (∃ (s : State) (h : Fin 8), s.takes (HDn_CTRL h) 0 ∧ s.dev.isMip h = false ∧ s.dev.headState h = 3) :=
  ⟨⟨{ dev := (((rdy.put (TACK_HEADn_PRESENT 0) 1))), pending := [] }, 0, by decide +kernel⟩,
    ⟨{ dev := (((rdy.put (TACK_HEADn_PRESENT 0) 1)).put (HDn_SHADOW_STATE_V 0) 1), pending := [] }, 0, by decide +kernel⟩,
    ⟨{ dev := ((((rdy.put (TACK_HEADn_PRESENT 0) 1)).put (HDn_STATUS_STATE 0) 1).put (HDn_POSITION_LINE 0) 63 |>.onHead 0 (fun u => { u with inFrame := true, lineBegun := true })), pending := [] }, 0, by decide +kernel⟩,
    ⟨{ dev := ((((rdy.put (TACK_HEADn_PRESENT 0) 1)).put (TACK_HEADn_CLASS 0) 1).onMip 0 (fun u => { u with phase := 1 })), pending := [] }, 0, by decide +kernel⟩,
    ⟨{ dev := (((rdy.put (TACK_HEADn_PRESENT 0) 1)).put (PANELh_STATUS_STATE 0) 2), pending := [] }, 0, by decide +kernel⟩,
    ⟨{ dev := ((((rdy.put (TACK_HEADn_PRESENT 0) 1)).put (PANELh_STATUS_STATE 0) 2).put (HDn_STATUS_STATE 0) 2), pending := [] }, 0, by decide +kernel⟩,
    ⟨{ dev := (((rdy.put (TACK_HEADn_PRESENT 0) 1)).put (HDn_STATUS_STATE 0) 1), pending := [] }, 0, by decide +kernel⟩,
    ⟨{ dev := (((rdy.put (TACK_HEADn_PRESENT 0) 1)).put (HDn_STATUS_STATE 0) 3), pending := [] }, 0, by decide +kernel⟩⟩

theorem witness_StreamControl :
    (∃ (s : State) (n : Fin 4) (f : Fin 4) (k : Fin 5), s.takes (INn_CTRL n) (2 ^ 31 + f % 16 * 2 ^ 24 + k % 8 * 2 ^ 20) ∧ inCtrlOk n (2 ^ 31 + f % 16 * 2 ^ 24 + k % 8 * 2 ^ 20) s.dev = true ∧ s.dev.flag (INn_CTRL_ENABLE n) = false) ∧
    (∃ (s : State) (n : Fin 4) (f : Fin 4) (k : Fin 5), s.takes (INn_CTRL n) (f % 16 * 2 ^ 24 + k % 8 * 2 ^ 20) ∧ inCtrlOk n (f % 16 * 2 ^ 24 + k % 8 * 2 ^ 20) s.dev = true ∧ s.dev.flag (INn_CTRL_ENABLE n) = true) ∧
    (∃ (s : State) (n : Fin 4) (down : Bool), s.live ∧ 1 ≤ s.dev.inState n ∧ s.dev.inState n ≤ 3 ∧ ((down = true ∨ s.dev.inRung = false)) ∧ ((down = false ∨ (s.dev.stream n).tpg = false))) ∧
    (∃ (s : State), s.live) ∧
    (∃ (s : State) (n : Fin 4), s.live ∧ s.dev.inState n ≠ 0 ∧ (s.dev.stream n).tpg = true ∧ s.dev.inRung = false ∧ (s.dev.stream n).prevFrame = none) ∧
    (∃ (s : State) (n : Fin 4), s.live ∧ (s.dev.stream n).tpg = true ∧ s.dev.inState n = 2 ∧ (s.dev.stream n).tpgLine < s.dev.inHeight n ∧ n.val < s.dev.streams.length) :=
  ⟨⟨{ dev := rdy, pending := [] }, 1, 1, 2, by decide +kernel⟩,
    ⟨{ dev := ((rdy.put (INn_CTRL_ENABLE 1) 1).put (INn_STATUS_STATE 1) 1), pending := [] }, 1, 1, 2, by decide +kernel⟩,
    ⟨{ dev := ((rdy.put (INn_CTRL_ENABLE 1) 1).put (INn_STATUS_STATE 1) 2), pending := [] }, 1, false, by decide +kernel⟩,
    ⟨{ dev := rdy, pending := [] }, by decide +kernel⟩,
    ⟨{ dev := (((rdy.put (INn_CTRL_ENABLE 1) 1).put (INn_STATUS_STATE 1) 1).onStream 1 (fun u => { u with tpg := true })), pending := [] }, 1, by decide +kernel⟩,
    ⟨{ dev := (((rdy.put (INn_CTRL_ENABLE 1) 1).put (INn_STATUS_STATE 1) 2).onStream 1 (fun u => { u with tpg := true })), pending := [] }, 1, by decide +kernel⟩⟩

theorem witness_StreamFrames :
    (∃ (s : State) (n : Fin 4) (height : Fin 65536), s.live ∧ s.dev.fromLink n = true ∧ s.dev.inRung = false ∧ (s.dev.stream n).line = none ∧ s.dev.inState n ≠ 2 ∧ s.dev.inHeight n = height.val) ∧
    (∃ (s : State) (n : Fin 4) (frame : Fin 65536), s.live ∧ s.dev.fromLink n = true ∧ (s.dev.stream n).line = none ∧ s.dev.inState n = 2 ∧ s.dev.get (INn_STATUS_FRAME n) = frame.val) ∧
    (∃ (s : State) (n : Fin 4), s.live ∧ s.dev.fromLink n = true ∧ n.val < s.dev.streams.length) ∧
    (∃ (s : State) (n : Fin 4) (frame : Fin 65536) (t : Nat), s.live ∧ s.dev.fromLink n = true ∧ n.val < s.dev.streams.length ∧ (s.dev.stream n).exposure = some (frame.val, t)) ∧
    (∃ (s : State) (n : Fin 4) (kind : Fin 13) (mbz : Fin 1048576) (height : Fin 65536), s.live ∧ s.dev.fromLink n = true ∧ s.dev.inRung = false ∧ (s.dev.stream n).line = none ∧ ((kind ≠ 0 ∨ mbz ≠ 0 ∨ s.dev.inHeight n ≠ height.val)) ∧ (∀ h : Fin 8, s.dev.isRaster h = false)) :=
  ⟨⟨{ dev := ((rdy.put (INn_CTRL_ENABLE 1) 1).put (INn_STATUS_STATE 1) 1), pending := [] }, 1, 64, by decide +kernel⟩,
    ⟨{ dev := ((rdy.put (INn_CTRL_ENABLE 1) 1).put (INn_STATUS_STATE 1) 2), pending := [] }, 1, 0, by decide +kernel⟩,
    ⟨{ dev := ((rdy.put (INn_CTRL_ENABLE 1) 1).put (INn_STATUS_STATE 1) 1), pending := [] }, 1, by decide +kernel⟩,
    ⟨{ dev := (((rdy.put (INn_CTRL_ENABLE 1) 1).put (INn_STATUS_STATE 1) 1).onStream 1 (fun u => { u with exposure := some (5, 0) })), pending := [] }, 1, 5, 0, by decide +kernel⟩,
    ⟨{ dev := ((rdy.put (INn_CTRL_ENABLE 1) 1).put (INn_STATUS_STATE 1) 1), pending := [] }, 1, 1, 0, 0, by decide +kernel⟩⟩

theorem witness_StreamLines :
    (∃ (s : State) (n : Fin 4), s.live ∧ s.dev.fromLink n = true ∧ n.val < s.dev.streams.length ∧ (s.dev.stream n).line = none) ∧
    (∃ (s : State) (n : Fin 4) (l : OpenLine), s.live ∧ s.dev.fromLink n = true ∧ n.val < s.dev.streams.length ∧ (s.dev.stream n).line = some l) ∧
    (∃ (s : State) (n : Fin 4), s.live ∧ s.dev.fromLink n = true ∧ (s.dev.stream n).line = none) ∧
    (∃ (s : State) (n : Fin 4) (crc : Fin 65536) (y : Fin 65536) (l : OpenLine), s.live ∧ s.dev.fromLink n = true ∧ n.val < s.dev.streams.length ∧ (s.dev.stream n).line = some l ∧ l.outside = false ∧ l.frame = s.dev.get (INn_STATUS_FRAME n) ∧ s.dev.posLine n < l.line ∧ l.line < s.dev.inHeight n ∧ l.format = s.dev.inFormat n ∧ l.zeroOk = true ∧ l.width = s.dev.inWidth n ∧ y.val = l.line ∧ l.bytes.length = 8 * lineBlocks l.width l.format ∧ crc.val = crc16 (l.head ++ l.bytes) ∧ l.overrun = false) :=
  ⟨⟨{ dev := ((rdy.put (INn_CTRL_ENABLE 1) 1).put (INn_STATUS_STATE 1) 2), pending := [] }, 1, by decide +kernel⟩,
    ⟨{ dev := (((rdy.put (INn_CTRL_ENABLE 1) 1).put (INn_STATUS_STATE 1) 2).onStream 1 (fun u => { u with line := some { format := 1, frame := 0, line := 0, width := 64, zeroOk := true, bytes := [], outside := false, overrun := false } })), pending := [] }, 1, { format := 1, frame := 0, line := 0, width := 64, zeroOk := true, bytes := [], outside := false, overrun := false }, by decide +kernel⟩,
    ⟨{ dev := ((rdy.put (INn_CTRL_ENABLE 1) 1).put (INn_STATUS_STATE 1) 2), pending := [] }, 1, by decide +kernel⟩,
    ⟨{ dev := ((((((rdy.put (INn_CTRL_ENABLE 1) 1).put (INn_STATUS_STATE 1) 2).put (INn_CTRL_FORMAT 1) 1).put (INn_SIZE_WIDTH 1) 1).put (INn_POS_LINE 1) 0xFFFF).onStream 1 (fun u => { u with line := some { format := 1, frame := 0, line := 0, width := 1, zeroOk := true, bytes := List.replicate 8 0, outside := false, overrun := false } })), pending := [] }, 1, 36730, 0, { format := 1, frame := 0, line := 0, width := 1, zeroOk := true, bytes := List.replicate 8 0, outside := false, overrun := false }, by decide +kernel⟩⟩

theorem witness_HpllEvents :
    (∃ (s : State) (h : Fin 8), s.live ∧ (s.dev.head h).pllFor = 1 ∧ h.val < s.dev.heads.length) ∧
    (∃ (s : State) (h : Fin 8), s.live ∧ (s.dev.head h).pllFor ≠ 0 ∧ (s.dev.head h).pllTries < 2 ∧ h.val < s.dev.heads.length) ∧
    (∃ (s : State) (h : Fin 8), s.live ∧ (s.dev.head h).pllFor ≠ 0 ∧ 2 ≤ (s.dev.head h).pllTries) ∧
    (∃ (s : State) (h : Fin 8), s.live ∧ s.dev.headState h = 3 ∧ s.dev.get (HDn_STATUS_SWITCH_STEP h) = 3 ∧ h.val < s.dev.heads.length) :=
  ⟨⟨{ dev := (((rdy.put (TACK_HEADn_PRESENT 0) 1)).onHead 0 (fun u => { u with pllFor := 1 })), pending := [] }, 0, by decide +kernel⟩,
    ⟨{ dev := (((rdy.put (TACK_HEADn_PRESENT 0) 1)).onHead 0 (fun u => { u with pllFor := 1 })), pending := [] }, 0, by decide +kernel⟩,
    ⟨{ dev := (((rdy.put (TACK_HEADn_PRESENT 0) 1)).onHead 0 (fun u => { u with pllFor := 1, pllTries := 2 })), pending := [] }, 0, by decide +kernel⟩,
    ⟨{ dev := ((((rdy.put (TACK_HEADn_PRESENT 0) 1)).put (HDn_STATUS_STATE 0) 3).put (HDn_STATUS_SWITCH_STEP 0) 3), pending := [] }, 0, by decide +kernel⟩⟩

theorem witness_FrameQueue :
    (∃ (s : State) (h : Fin 8) (v : Word), s.takes (HDn_Q_PUSH h) v.toNat ∧ qPushOk h s.dev = true ∧ (s.dev.head h).queue ≠ [] ∧ h.val < s.dev.heads.length) ∧
    (∃ (s : State) (h : Fin 8), s.takes (HDn_Q_FLUSH h) 1 ∧ s.dev.isMip h = false ∧ h.val < s.dev.heads.length) ∧
    (∃ (s : State) (h : Fin 8), s.takes (HDn_REC_POP h) 1 ∧ s.dev.isMip h = false ∧ h.val < s.dev.heads.length ∧ (s.dev.head h).records.length ≤ 16) :=
  ⟨⟨{ dev := (((rdy.put (TACK_HEADn_PRESENT 0) 1)).onHead 0 (fun u => { u with sect := { u.sect with source := 16 }, queue := [{ base := 0, time := 0, tag := 1, next := true, drop := false, tb := 0 }] })), pending := [] }, 0, 0x20007, by decide +kernel⟩,
    ⟨{ dev := ((rdy.put (TACK_HEADn_PRESENT 0) 1)), pending := [] }, 0, by decide +kernel⟩,
    ⟨{ dev := (((rdy.put (TACK_HEADn_PRESENT 0) 1)).onHead 0 (fun u => { u with records := [{ frame := 1, time := 2, flags := 0, tag := 3 }] })), pending := [] }, 0, by decide +kernel⟩⟩

theorem witness_HeadScan :
    (∃ (s : State) (h : Fin 8), s.live ∧ s.dev.isRaster h = true ∧ s.dev.get (LLh_CTRL_STATE h) = 1 ∧ s.dev.inState (s.dev.app (LLh_CTRL_STREAM h)) = 2 ∧ s.dev.get (INn_LINE_PERIOD_V (s.dev.app (LLh_CTRL_STREAM h))) ≠ 0 ∧ s.dev.lockPeriodOk h = true) ∧
    (∃ (s : State) (h : Fin 8), s.live ∧ s.dev.mayStartFrame h = true ∧ s.dev.headState h = 1 ∧ (s.dev.head h).started = true ∧ 4 ≤ (s.dev.head h).sect.source ∧ (s.dev.head h).sect.source ≠ 16 ∧ s.dev.appB (HDn_FLOCK_CTRL_ENABLE h) = false ∧ h.val < s.dev.heads.length) ∧
    (∃ (s : State) (h : Fin 8), s.live ∧ s.dev.mayStartLine h = true ∧ (s.dev.head h).inFrame = false) ∧
    (∃ (s : State) (h : Fin 8), s.live ∧ s.dev.mayStartLine h = true ∧ s.dev.lineMissing h (s.dev.nextLine h) = false) ∧
    (∃ (s : State) (h : Fin 8), s.live ∧ s.dev.isRaster h = true ∧ s.dev.headState h ≠ 0 ∧ (s.dev.head h).inFrame = true ∧ s.dev.nextLine h < s.dev.vactive h) :=
  ⟨⟨{ dev := ((((((rdy.put (TACK_HEADn_PRESENT 0) 1)).put (LLh_CTRL_STATE 0) 1).put (INn_STATUS_STATE 0) 2).put (INn_LINE_PERIOD_V 0) 256).onStream 0 (fun u => { u with arrivals := [(0, 4224005)], past := [(0, 5)] })), pending := [] }, 0, by decide +kernel⟩,
    ⟨{ dev := ((((rdy.put (TACK_HEADn_PRESENT 0) 1)).put (HDn_STATUS_STATE 0) 1).onHead 0 (fun u => { u with started := true, frameLines := 1, sect := { u.sect with source := 17 } })), pending := [] }, 0, by decide +kernel⟩,
    ⟨{ dev := ((((rdy.put (TACK_HEADn_PRESENT 0) 1)).put (HDn_STATUS_STATE 0) 1).onHead 0 (fun u => { u with started := true, frameLines := 10 })), pending := [] }, 0, by decide +kernel⟩,
    ⟨{ dev := ((((rdy.put (TACK_HEADn_PRESENT 0) 1)).put (HDn_STATUS_STATE 0) 1).onHead 0 (fun u => { u with started := true, frameLines := 10 })), pending := [] }, 0, by decide +kernel⟩,
    ⟨{ dev := ((((rdy.put (TACK_HEADn_PRESENT 0) 1)).put (HDn_STATUS_STATE 0) 1).onHead 0 (fun u => { u with inFrame := true, lineBegun := true })), pending := [] }, 0, by decide +kernel⟩⟩

theorem witness_ColumnCommands :
    (∃ (s : State) (h : Fin 8), s.takes (HDn_CMD_GO h) 1 ∧ s.dev.isMip h = false ∧ s.dev.get (HDn_CMD_CTRL_OP h) = 1 ∧ ((s.dev.get (HDn_CMD_STATUS_STATE h) = 0 ∨ s.dev.get (HDn_CMD_STATUS_STATE h) = 3)) ∧ (s.dev.head h).inFrame = true ∧ h.val < s.dev.heads.length) ∧
    (∃ (s : State) (h : Fin 8), s.takes (HDn_CMD_GO h) 1 ∧ s.dev.isMip h = false ∧ s.dev.get (HDn_CMD_CTRL_OP h) = 2 ∧ ((s.dev.get (HDn_CMD_STATUS_STATE h) = 0 ∨ s.dev.get (HDn_CMD_STATUS_STATE h) = 3)) ∧ (s.dev.head h).inFrame = true ∧ h.val < s.dev.heads.length) ∧
    (∃ (s : State) (h : Fin 8), s.live ∧ s.dev.get (HDn_CMD_STATUS_STATE h) = 2) ∧
    (∃ (s : State) (j : Fin 16) (st : Fin 16) (seq : Fin 16) (h : Nat), s.live ∧ (s.dev.linkEntry j).profile = 2 ∧ s.dev.linkUp j = true ∧ (s.dev.linkEntry j).owner = h ∧ h < 8 ∧ s.dev.isMip h = false ∧ s.dev.get (HDn_CMD_STATUS_STATE h) = 2 ∧ seq.val = s.dev.get (HDn_CMD_STATUS_SEQ h) ∧ st.val < 3 ∧ nth 0 (s.dev.head h).cmd 1 = 2) :=
  ⟨⟨{ dev := ((((rdy.put (TACK_HEADn_PRESENT 0) 1)).put (HDn_CMD_CTRL_OP 0) 1).onHead 0 (fun u => { u with inFrame := true })), pending := [] }, 0, by decide +kernel⟩,
    ⟨{ dev := ((((rdy.put (TACK_HEADn_PRESENT 0) 1)).put (HDn_CMD_CTRL_OP 0) 2).onHead 0 (fun u => { u with inFrame := true })), pending := [] }, 0, by decide +kernel⟩,
    ⟨{ dev := (((((rdy.put (TACK_HEADn_PRESENT 0) 1)).put (HDn_CMD_STATUS_STATE 0) 2).put (HDn_CMD_STATUS_SEQ 0) 3).onHead 0 (fun u => { u with cmd := [0, 2, 1, 4, 0] })), pending := [] }, 0, by decide +kernel⟩,
    ⟨{ dev := ((((((rdy.put (TACK_HEADn_PRESENT 0) 1)).put (HDn_CMD_STATUS_STATE 0) 2).put (HDn_CMD_STATUS_SEQ 0) 3).onHead 0 (fun u => { u with cmd := [0, 2, 1, 4, 0] })).put (LKj_STATUS_STATE 2) 3).onTack (fun u => { u with links := [{}, {}, { profile := 2, lanes := [0], owner := 0 }] }), pending := [] }, 2, 1, 3, 0, by decide +kernel⟩⟩

theorem witness_MipHeads :
    (∃ (s : State) (h : Fin 8), s.takes (HDn_CTRL h) 1 ∧ s.dev.isMip h = true ∧ s.dev.headState h = 0 ∧ s.dev.mipRunOk h = true) ∧
    (∃ (s : State) (h : Fin 8), s.takes (HDn_CTRL h) 1 ∧ s.dev.isMip h = true ∧ s.dev.headState h = 2 ∧ s.dev.mipRunOk h = true) ∧
    (∃ (s : State) (h : Fin 8), s.takes (HDn_CTRL h) 0 ∧ s.dev.isMip h = true ∧ s.dev.headState h = 1 ∧ (s.dev.mip h).runs ≠ []) ∧
    (∃ (s : State) (h : Fin 8), s.takes (HDn_MIP_REFRESH_GO h) 1 ∧ s.dev.isMip h = true ∧ s.dev.get (HDn_MIP_REFRESH_SIZE_W h) = 0) ∧
    (∃ (s : State) (h : Fin 8), s.live ∧ s.dev.isMip h = true ∧ s.dev.comsRun h = true ∧ s.dev.panelState h = 3) ∧
    (∃ (s : State) (h : Fin 8), s.live ∧ s.dev.panelState h ≠ 2 ∧ s.dev.panelState h ≠ 3) ∧
    (∃ (s : State) (h : Fin 8), s.live ∧ s.dev.isMip h = true ∧ s.dev.comsRun h = true ∧ s.dev.panelState h = 2 ∧ (s.dev.mip h).phase = 0 ∧ (((s.dev.lostRecords h).comsSwitch h 1).mipActive h) = false) ∧
    (∃ (s : State) (h : Fin 8), s.live ∧ s.dev.isMip h = true ∧ s.dev.comsRun h = true ∧ s.dev.panelState h = 2 ∧ (s.dev.mip h).phase = 0 ∧ (((s.dev.lostRecords h).comsSwitch h 1).mipActive h) = true) ∧
    (∃ (s : State) (h : Fin 8), s.live ∧ s.dev.isMip h = true ∧ ¬ (s.dev.panelState h = 1 ∧ (s.dev.mipRamp h).panelState h = 2)) :=
  ⟨⟨{ dev := ((((((rdy.put (TACK_HEADn_PRESENT 0) 1).put (TACK_HEADn_CLASS 0) 1).put (COMc_CTRL_ENABLE 0) 1).put (COMc_ROWS_LAST 0) 63).put (COMc_ROWS_FIRST 0) 0).setAppWord (HDn_MIP_CHECK 0) 0xFFFFFFFF), pending := [] }, 0, by decide +kernel⟩,
    ⟨{ dev := (((rdy.put (TACK_HEADn_PRESENT 0) 1).put (TACK_HEADn_CLASS 0) 1).put (HDn_STATUS_STATE 0) 2), pending := [] }, 0, by decide +kernel⟩,
    ⟨{ dev := ((((rdy.put (TACK_HEADn_PRESENT 0) 1).put (TACK_HEADn_CLASS 0) 1).put (HDn_STATUS_STATE 0) 1).onMip 0 (fun u => { u with runs := [{ tile := 0, left := 3 }] })), pending := [] }, 0, by decide +kernel⟩,
    ⟨{ dev := ((rdy.put (TACK_HEADn_PRESENT 0) 1).put (TACK_HEADn_CLASS 0) 1), pending := [] }, 0, by decide +kernel⟩,
    ⟨{ dev := (((((rdy.put (TACK_HEADn_PRESENT 0) 1).put (TACK_HEADn_CLASS 0) 1).put (COMc_CTRL_ENABLE 0) 1).put (COMc_STATUS_RUNNING 0) 1).put (PANELh_STATUS_STATE 0) 3), pending := [] }, 0, by decide +kernel⟩,
    ⟨{ dev := rdy, pending := [] }, 0, by decide +kernel⟩,
    ⟨{ dev := (((((rdy.put (TACK_HEADn_PRESENT 0) 1).put (TACK_HEADn_CLASS 0) 1).put (COMc_CTRL_ENABLE 0) 1).put (COMc_STATUS_RUNNING 0) 1).put (PANELh_STATUS_STATE 0) 2 |>.onMip 0 (fun u => { u with phase := 0 })), pending := [] }, 0, by decide +kernel⟩,
    ⟨{ dev := ((((((rdy.put (TACK_HEADn_PRESENT 0) 1).put (TACK_HEADn_CLASS 0) 1).put (HDn_STATUS_STATE 0) 1).put (COMc_CTRL_ENABLE 0) 1).put (COMc_STATUS_RUNNING 0) 1).put (PANELh_STATUS_STATE 0) 2 |>.onMip 0 (fun u => { u with phase := 0 })), pending := [] }, 0, by decide +kernel⟩,
    ⟨{ dev := (((rdy.put (TACK_HEADn_PRESENT 0) 1).put (TACK_HEADn_CLASS 0) 1).put (PANELh_STATUS_STATE 0) 1), pending := [] }, 0, by decide +kernel⟩⟩

theorem witness_MipPasses :
    (∃ (s : State) (h : Fin 8), s.live ∧ s.dev.isMip h = true ∧ s.dev.flag (HDn_MIP_STATUS_PASS_BUSY h) = true) ∧
    (∃ (s : State) (h : Fin 8) (p : Fin 4) (row : Nat) (f : Nat) (n : Nat), s.live ∧ s.dev.isMip h = true ∧ s.dev.readbackOn h = true ∧ ((f ≠ 0 ∨ n ≠ s.dev.mipW h ∨ (s.dev.mip h).rbAwait.contains (row, p.val) = false))) ∧
    (∃ (s : State) (h : Fin 8) (r : List (Nat × Nat)) (x : Nat × Nat), s.live ∧ (s.dev.mip h).rbAwait = x :: r) ∧
    (∃ (s : State) (c : Fin 4), s.live ∧ s.dev.getI (COMc_BALANCE_V c) ≠ 0 ∧ s.dev.flag (COMc_STATUS_BAL_FAULT c) = false) :=
  ⟨⟨{ dev := (((rdy.put (TACK_HEADn_PRESENT 0) 1).put (TACK_HEADn_CLASS 0) 1).put (HDn_MIP_STATUS_PASS_BUSY 0) 1), pending := [] }, 0, by decide +kernel⟩,
    ⟨{ dev := (((rdy.put (TACK_HEADn_PRESENT 0) 1).put (TACK_HEADn_CLASS 0) 1).setAppWord (HDn_MIP_CHECK 0) 0xFFFFFFFF), pending := [] }, 0, 1, 0, 0, 8, by decide +kernel⟩,
    ⟨{ dev := (((rdy.put (TACK_HEADn_PRESENT 0) 1).put (TACK_HEADn_CLASS 0) 1).onMip 0 (fun u => { u with rbAwait := [(3, 1)] })), pending := [] }, 0, [], (3, 1), by decide +kernel⟩,
    ⟨{ dev := (rdy.put (COMc_BALANCE_V 1) 5), pending := [] }, 1, by decide +kernel⟩⟩

theorem witness_WaveAndHalter :
    (∃ (s : State) (h : Fin 8) (b : Fin 2), s.takes MIP_WT_LOAD (2 ^ 31 + 256 * b.val + h.val) ∧ s.dev.isMip h = true ∧ s.dev.harn.wtLoad = none) ∧
    (∃ (s : State) (h : Nat) (b : Nat), s.live ∧ s.dev.harn.wtLoad = some (h, b) ∧ dramEnd < s.dev.get MIP_WT_SRC_LO_V + s.dev.get MIP_WT_SRC_HI_V * 2 ^ 32 + 32768 ∧ (s.dev.onHarn (fun u => { u with wtLoad := none })).wtInUse h b = false) ∧
    (∃ (s : State), s.live ∧ s.dev.halterOn = true) ∧
    (∃ (s : State), s.live ∧ s.dev.halterOn = true ∧ s.dev.panelState (s.dev.get MIP_HALT_CTRL_HEAD) = 2) ∧
    (∃ (s : State), s.live ∧ s.dev.regOpen MIP_HALT_BMP_DATA = true) :=
  ⟨⟨{ dev := ((rdy.put (TACK_HEADn_PRESENT 0) 1).put (TACK_HEADn_CLASS 0) 1), pending := [] }, 0, 1, by decide +kernel⟩,
    ⟨{ dev := ((((rdy.put (TACK_HEADn_PRESENT 0) 1).put (TACK_HEADn_CLASS 0) 1).put MIP_WT_SRC_HI_V 0xFFFF).onHarn (fun u => { u with wtLoad := some (0, 1) })), pending := [] }, 0, 1, by decide +kernel⟩,
    ⟨{ dev := (((rdy.put POWER_RUNG_STATUS_STATE 3).put MIP_HALT_STATUS_ARMED 1).put (PANELh_STATUS_STATE 0) 2), pending := [] }, by decide +kernel⟩,
    ⟨{ dev := (((rdy.put POWER_RUNG_STATUS_STATE 3).put MIP_HALT_STATUS_ARMED 1).put (PANELh_STATUS_STATE 0) 2), pending := [] }, by decide +kernel⟩,
    ⟨{ dev := rdy, pending := [] }, by decide +kernel⟩⟩

theorem witness_Engines :
    (∃ (s : State) (k : Fin 28), s.live ∧ s.dev.engineHead k = none ∧ s.dev.engines.parity = []) ∧
    (∃ (s : State) (k : Fin 28), s.live ∧ s.dev.get (SEk_STATUS_STATE k) = 2) ∧
    (∃ (s : State) (k : Fin 28), s.live ∧ s.dev.get (SEk_STATUS_STATE k) = 6) ∧
    (∃ (s : State) (k : Fin 28), s.live ∧ s.dev.get (SEk_STATUS_STATE k) = 6) ∧
    (∃ (s : State), s.live ∧ s.dev.engines.sub = none ∧ (∀ h : Fin 8, (s.dev.head h).resetHeld = false)) ∧
    (∃ (s : State) (a : Nat) (k : Nat) (h : Nat), s.live ∧ s.dev.engines.sub = some (a, k, h) ∧ h < 8 ∧ (∀ h : Fin 8, ((s.dev.subEnd).head h).resetHeld = false) ∧ ((s.dev.subEnd).head h).inFrame = true) ∧
    (∃ (s : State) (h : Fin 8), s.takes (HDn_RESET h) 1 ∧ s.dev.headPresent h = true ∧ s.dev.engines.sub = none) :=
  ⟨⟨{ dev := rdy, pending := [] }, 3, by decide +kernel⟩,
    ⟨{ dev := (rdy.put (SEk_STATUS_STATE 3) 2), pending := [] }, 3, by decide +kernel⟩,
    ⟨{ dev := (rdy.put (SEk_STATUS_STATE 3) 6), pending := [] }, 3, by decide +kernel⟩,
    ⟨{ dev := (rdy.put (SEk_STATUS_STATE 3) 6), pending := [] }, 3, by decide +kernel⟩,
    ⟨{ dev := rdy, pending := [] }, by decide +kernel⟩,
    ⟨{ dev := ((((rdy.put (TACK_HEADn_PRESENT 0) 1)).onHead 0 (fun u => { u with inFrame := true })) |> fun d => { d with engines := { d.engines with sub := some (1, 20, 0) } }), pending := [] }, 1, 20, 0, by decide +kernel⟩,
    ⟨{ dev := ((rdy.put (TACK_HEADn_PRESENT 0) 1)), pending := [] }, 0, by decide +kernel⟩⟩

theorem witness_Overdrive :
    (∃ (s : State) (h : Fin 8), s.live ∧ s.dev.headPresent h = true ∧ 3 ≤ s.dev.mode ∧ 8 ≤ (s.dev.head h).sect.tempSource ∧ (s.dev.head h).sect.tempSource < 16 ∧ s.dev.flag (TSk_TEMP_VALID ((s.dev.head h).sect.tempSource - 8)) = false) ∧
    (∃ (s : State) (h : Fin 8), s.live ∧ s.dev.headPresent h = true ∧ 3 ≤ s.dev.mode ∧ 8 ≤ (s.dev.head h).sect.tempSource ∧ (s.dev.head h).sect.tempSource < 16 ∧ s.dev.flag (TSk_TEMP_VALID ((s.dev.head h).sect.tempSource - 8)) = true ∧ s.dev.appB (BANDh_CTRL_FORCE h) = true) ∧
    (∃ (s : State) (h : Fin 8), s.live ∧ (s.dev.fab h).odCopy = true ∧ s.dev.app (STh_OD_CTRL_V h) = 1 ∧ ((sgn 16 (s.dev.dpNum (s.dev.app (STh_OD_ANCHOR_BASE_V h) * 256) 2) < -880 ∨ 2400 < sgn 16 (s.dev.dpNum (s.dev.app (STh_OD_ANCHOR_BASE_V h) * 256) 2)))) ∧
    (∃ (s : State), s.live ∧ (∀ h : Fin 8, s.dev.odNeed h = none)) ∧
    (∃ (s : State) (h : Fin 8) (band : Nat) (gen : Nat), s.live ∧ ((∀ k : Fin 8, k < h → s.dev.odNeed k = none)) ∧ s.dev.odNeed h = some (band, gen) ∧ (s.dev.fab h).odCopy = false ∧ s.dev.odBusy = false ∧ s.dev.flag (STh_OD_STATUS_TABLE h) = false) ∧
    (∃ (s : State) (h : Fin 8) (buf : Nat) (band : Nat) (gen : Nat) (k : StageEntry), s.live ∧ ((∀ k : Fin 8, k < h → (s.dev.fab k).odBuild = none)) ∧ (s.dev.fab h).odBuild = some (buf, band, gen) ∧ s.dev.stage h 9 = some k) :=
  ⟨⟨{ dev := (((rdy.put (TACK_HEADn_PRESENT 0) 1)).onHead 0 (fun u => { u with sect := { u.sect with tempSource := 10 } })), pending := [] }, 0, by decide +kernel⟩,
    ⟨{ dev := (((((rdy.put (TACK_HEADn_PRESENT 0) 1)).onHead 0 (fun u => { u with sect := { u.sect with tempSource := 10 } })).put (TSk_TEMP_VALID 2) 1).put (TSk_TEMP_TEMP 2) 400).setAppWord (BANDh_CTRL 0) 0xFFFFFFFF, pending := [] }, 0, by decide +kernel⟩,
    ⟨{ dev := (((((rdy.put (TACK_HEADn_PRESENT 0) 1)).onFab 0 (fun u => { u with odCopy := true })).setAppWord (STh_OD_CTRL 0) 1) |> fun d => Dev.setGranule 0 { d with mem := [(0, 0x00#8), (1, 0x80#8)] }), pending := [] }, 0, by decide +kernel⟩,
    ⟨{ dev := rdy, pending := [] }, by decide +kernel⟩,
    ⟨{ dev := ((((rdy.put (TACK_HEADn_PRESENT 0) 1)).onHead 0 (fun u => { u with sect := { u.sect with chain := [{ kind := 9, engines := [], bypassable := false, lmOffset := 0, lmUnits := 2, param := 0 }] } })).onFab 0 (fun u => { u with anchors := [{ temp := 0, entries := [] }] })), pending := [] }, 0, 0, 0, by decide +kernel⟩,
    ⟨{ dev := ((((rdy.put (TACK_HEADn_PRESENT 0) 1)).onHead 0 (fun u => { u with sect := { u.sect with chain := [{ kind := 9, engines := [], bypassable := false, lmOffset := 0, lmUnits := 2, param := 0 }] } })).onFab 0 (fun u => { u with odBuild := some (0, 0, 0), anchors := [{ temp := 0, entries := List.replicate 6534 0 }] })), pending := [] }, 0, 0, 0, 0, { kind := 9, engines := [], bypassable := false, lmOffset := 0, lmUnits := 2, param := 0 }, by decide +kernel⟩⟩

theorem witness_LaneReceivers :
    (∃ (s : State) (n : Fin 36), s.live ∧ ((s.dev.laneState n = 1 ∨ s.dev.laneState n = 4))) ∧
    (∃ (s : State) (n : Fin 36), s.live ∧ s.dev.laneState n = 2) ∧
    (∃ (s : State) (n : Fin 36), s.live ∧ 1 ≤ s.dev.laneState n ∧ s.dev.laneState n ≠ 4 ∧ s.dev.laneState n ≠ 3 ∧ s.dev.laneLink n = none) ∧
    (∃ (s : State) (n : Fin 36), s.live ∧ s.dev.laneState n ≠ 0 ∧ s.dev.laneState n ≠ 4) ∧
    (∃ (s : State) (n : Fin 36), s.live ∧ s.dev.laneState n ≠ 0) ∧
    (∃ (s : State) (n : Fin 36), s.live ∧ ((s.dev.laneState n = 1 ∨ s.dev.laneState n = 2)) ∧ s.dev.laneLink n = none) ∧
    (∃ (s : State) (n : Fin 36), s.live ∧ s.dev.laneState n = 4) ∧
    (∃ (s : State) (n : Fin 36) (fill : Fin 33), s.live ∧ ((s.dev.laneState n = 2 ∨ s.dev.laneState n = 3 ∨ s.dev.laneState n = 5)) ∧ s.dev.get (LNn_CTRL_LOOPBACK n) ≠ 1 ∧ s.dev.get (LNn_CTRL_LOOPBACK n) ≠ 2 ∧ 12 ≤ fill.val ∧ fill.val ≤ 20 ∧ (onesOf 128 (((s.dev.lane n).headers * 2 + 1) % 2 ^ 128)).length < 24) ∧
    (∃ (s : State) (n : Fin 36) (fill : Fin 33), s.live ∧ s.dev.laneState n = 2 ∧ s.dev.get (LNn_CTRL_LOOPBACK n) ≠ 1 ∧ s.dev.get (LNn_CTRL_LOOPBACK n) ≠ 2 ∧ 12 ≤ fill.val ∧ fill.val ≤ 20 ∧ 24 ≤ (onesOf 128 (((s.dev.lane n).headers * 2 + 1) % 2 ^ 128)).length) ∧
    (∃ (s : State) (n : Fin 36), s.live ∧ ((s.dev.laneState n = 1 ∨ s.dev.laneState n = 4)) ∧ n.val < s.dev.lanes.length ∧ s.dev.get (LNn_CTRL_LOOPBACK n) ≠ 1 ∧ s.dev.get (LNn_CTRL_LOOPBACK n) ≠ 2) ∧
    (∃ (s : State) (n : Fin 36), s.live ∧ ((s.dev.laneState n = 1 ∨ s.dev.laneState n = 4)) ∧ n.val < s.dev.lanes.length ∧ s.dev.get (LNn_CTRL_LOOPBACK n) ≠ 1 ∧ s.dev.get (LNn_CTRL_LOOPBACK n) ≠ 2 ∧ (s.dev.lane n).valid < 95) ∧
    (∃ (s : State) (n : Fin 36), s.live ∧ ((s.dev.laneState n = 1 ∨ s.dev.laneState n = 4)) ∧ n.val < s.dev.lanes.length ∧ s.dev.get (LNn_CTRL_LOOPBACK n) ≠ 1 ∧ s.dev.get (LNn_CTRL_LOOPBACK n) ≠ 2 ∧ 95 ≤ (s.dev.lane n).valid) ∧
    (∃ (s : State) (n : Fin 36), s.live ∧ ((s.dev.laneState n = 2 ∨ s.dev.laneState n = 3 ∨ s.dev.laneState n = 5)) ∧ s.dev.get (LNn_CTRL_LOOPBACK n) = 0 ∧ s.dev.flag (LNn_CTRL_RX_INVERT n) = false) ∧
    (∃ (s : State) (n : Fin 36), s.live ∧ s.dev.laneState n = 0) :=
  ⟨⟨{ dev := (rdy.put (LNn_STATUS_RXSTATE 5) 1), pending := [] }, 5, by decide +kernel⟩,
    ⟨{ dev := (rdy.put (LNn_STATUS_RXSTATE 5) 2), pending := [] }, 5, by decide +kernel⟩,
    ⟨{ dev := (rdy.put (LNn_STATUS_RXSTATE 5) 2), pending := [] }, 5, by decide +kernel⟩,
    ⟨{ dev := (rdy.put (LNn_STATUS_RXSTATE 5) 3), pending := [] }, 5, by decide +kernel⟩,
    ⟨{ dev := (rdy.put (LNn_STATUS_RXSTATE 5) 2), pending := [] }, 5, by decide +kernel⟩,
    ⟨{ dev := (rdy.put (LNn_STATUS_RXSTATE 5) 1), pending := [] }, 5, by decide +kernel⟩,
    ⟨{ dev := (rdy.put (LNn_STATUS_RXSTATE 5) 4), pending := [] }, 5, by decide +kernel⟩,
    ⟨{ dev := (rdy.put (LNn_STATUS_RXSTATE 5) 2), pending := [] }, 5, 16, by decide +kernel⟩,
    ⟨{ dev := ((rdy.put (LNn_STATUS_RXSTATE 5) 2).onLane 5 (fun u => { u with headers := 2 ^ 23 - 1 })), pending := [] }, 5, 16, by decide +kernel⟩,
    ⟨{ dev := (rdy.put (LNn_STATUS_RXSTATE 5) 1), pending := [] }, 5, by decide +kernel⟩,
    ⟨{ dev := (rdy.put (LNn_STATUS_RXSTATE 5) 1), pending := [] }, 5, by decide +kernel⟩,
    ⟨{ dev := ((rdy.put (LNn_STATUS_RXSTATE 5) 1).onLane 5 (fun u => { u with valid := 95 })), pending := [] }, 5, by decide +kernel⟩,
    ⟨{ dev := (rdy.put (LNn_STATUS_RXSTATE 5) 2), pending := [] }, 5, by decide +kernel⟩,
    ⟨{ dev := rdy, pending := [] }, 5, by decide +kernel⟩⟩

theorem witness_LinkAlignment :
    (∃ (s : State) (n : Fin 36) (a : Align) (j : Nat), s.live ∧ s.dev.laneLink n = some j ∧ ((s.dev.laneState n = 2 ∨ s.dev.laneState n = 3)) ∧ s.dev.consistent j n a = false) ∧
    (∃ (s : State) (n : Fin 36) (a : Align) (j : Nat), s.live ∧ s.dev.laneLink n = some j ∧ s.dev.laneState n = 3 ∧ s.dev.consistent j n a = true ∧ a.spare = false) ∧
    (∃ (s : State) (n : Fin 36) (a : Align) (j : Nat), s.live ∧ s.dev.laneLink n = some j ∧ ((s.dev.laneState n = 2 ∨ s.dev.laneState n = 5)) ∧ s.dev.consistent j n a = true ∧ a.spare = false) ∧
    (∃ (s : State) (j : Fin 16), s.live ∧ s.dev.linkState j ≠ 0) ∧
    (∃ (s : State) (j : Fin 16), s.live ∧ s.dev.linkState j = 1 ∧ (s.dev.streamLanes j).all (fun n => s.dev.laneState n != 3) = false ∧ j.val < s.dev.links.length) ∧
    (∃ (s : State) (j : Fin 16) (g : Greet), s.live ∧ s.dev.linkState j = 2 ∧ (s.dev.streamLanes j).all (fun n => s.dev.laneState n != 3) = false ∧ ((g.profile ≠ (s.dev.linkEntry j).profile ∨ g.lanes ≠ s.dev.linkLanes j))) ∧
    (∃ (s : State) (j : Fin 16) (g : Greet), s.live ∧ ((s.dev.linkState j = 2 ∨ s.dev.linkState j = 4)) ∧ (s.dev.streamLanes j).all (fun n => s.dev.laneState n != 3) = false ∧ g.profile = (s.dev.linkEntry j).profile ∧ g.lanes = s.dev.linkLanes j) ∧
    (∃ (s : State) (j : Fin 16), s.live ∧ (s.dev.linkEntry j).txOnly = true ∧ s.dev.linkState j = 5) ∧
    (∃ (s : State) (j : Fin 16), s.live ∧ (s.dev.linkEntry j).txOnly = true ∧ s.dev.linkState j = 3) :=
  ⟨⟨{ dev := ((rdy.onTack (fun u => { u with links := [{ profile := 5, lanes := [0, 1], spare := some 2, rate := 1 }] })).put (LNn_STATUS_RXSTATE 0) 2), pending := [] }, 0, { lane := 0, spare := false, dup := false, retired := false, link := 0, lanes := 2, aseq := 5, rate := 9 }, 0, by decide +kernel⟩,
    ⟨{ dev := ((rdy.onTack (fun u => { u with links := [{ profile := 5, lanes := [0, 1], spare := some 2, rate := 1 }] })).put (LNn_STATUS_RXSTATE 0) 3), pending := [] }, 0, { lane := 0, spare := false, dup := false, retired := false, link := 0, lanes := 2, aseq := 5, rate := 1 }, 0, by decide +kernel⟩,
    ⟨{ dev := ((rdy.onTack (fun u => { u with links := [{ profile := 5, lanes := [0, 1], spare := some 2, rate := 1 }] })).put (LNn_STATUS_RXSTATE 0) 2), pending := [] }, 0, { lane := 0, spare := false, dup := false, retired := false, link := 0, lanes := 2, aseq := 5, rate := 1 }, 0, by decide +kernel⟩,
    ⟨{ dev := ((rdy.onTack (fun u => { u with links := [{ profile := 5, lanes := [0, 1], spare := some 2, rate := 1 }] })).put (LKj_STATUS_STATE 0) 1), pending := [] }, 0, by decide +kernel⟩,
    ⟨{ dev := (((rdy.onTack (fun u => { u with links := [{ profile := 5, lanes := [0, 1], spare := some 2, rate := 1 }] })).put (LKj_STATUS_STATE 0) 1).put (LNn_STATUS_RXSTATE 0) 3), pending := [] }, 0, by decide +kernel⟩,
    ⟨{ dev := (((rdy.onTack (fun u => { u with links := [{ profile := 5, lanes := [0, 1], spare := some 2, rate := 1 }] })).put (LKj_STATUS_STATE 0) 2).put (LNn_STATUS_RXSTATE 0) 3), pending := [] }, 0, { nodeId := 7, profile := 4, lanes := 2, rates := 3, vendor := 1, device := 2, caps := 0, req := 0, done := 0 }, by decide +kernel⟩,
    ⟨{ dev := (((rdy.onTack (fun u => { u with links := [{ profile := 5, lanes := [0, 1], spare := some 2, rate := 1 }] })).put (LKj_STATUS_STATE 0) 2).put (LNn_STATUS_RXSTATE 0) 3), pending := [] }, 0, { nodeId := 7, profile := 5, lanes := 2, rates := 3, vendor := 1, device := 2, caps := 0, req := 0, done := 0 }, by decide +kernel⟩,
    ⟨{ dev := ((rdy.onTack (fun u => { u with links := [{ profile := 1, lanes := [0], rate := 1, txOnly := true }] })).put (LKj_STATUS_STATE 0) 5), pending := [] }, 0, by decide +kernel⟩,
    ⟨{ dev := ((rdy.onTack (fun u => { u with links := [{ profile := 1, lanes := [0], rate := 1, txOnly := true }] })).put (LKj_STATUS_STATE 0) 3), pending := [] }, 0, by decide +kernel⟩⟩

theorem witness_LinkCommands :
    (∃ (s : State) (j : Fin 16) (v : Word), s.takes (LKj_CTRL j) v.toNat ∧ bitOf v.toNat 31 = true ∧ s.dev.linkState j ≠ 0 ∧ bitOf v.toNat 30 = false ∧ s.dev.mode ≠ 7 ∧ ((bitOf v.toNat 23 = true → bitsOf v.toNat 24 4 < s.dev.linkLanes j))) ∧
    (∃ (s : State) (j : Fin 16) (v : Word), s.takes (LKj_CTRL j) v.toNat ∧ bitOf v.toNat 31 = false ∧ bitOf v.toNat 30 = true ∧ s.dev.linkState j ≠ 0 ∧ s.dev.spareGoOk j (bitsOf v.toNat 24 4) = true ∧ j.val < s.dev.links.length ∧ s.dev.mode ≠ 7 ∧ ((bitOf v.toNat 23 = true → bitsOf v.toNat 24 4 < s.dev.linkLanes j))) ∧
    (∃ (s : State) (j : Fin 16), s.live ∧ s.dev.get (LKj_STATUS_SPARE_STATE j) = 2 ∧ (s.dev.link j).compared = false ∧ j.val < s.dev.links.length) ∧
    (∃ (s : State) (j : Fin 16), s.live ∧ s.dev.linkState j ≠ 0 ∧ (s.dev.linkEntry j).exercise = true ∧ (∀ n ∈ s.dev.allLanes j, s.dev.get (LNn_CTRL_LOOPBACK n) % 2 = 0)) ∧
    (∃ (s : State) (n : Fin 36), s.live ∧ ((s.dev.laneState n = 2 ∨ s.dev.laneState n = 3 ∨ s.dev.laneState n = 5)) ∧ (s.dev.lane n).exercise = none ∧ n.val < s.dev.lanes.length) :=
  ⟨⟨{ dev := ((rdy.onTack (fun u => { u with links := [{ profile := 5, lanes := [0, 1], spare := some 2, rate := 1 }] })).put (LKj_STATUS_STATE 0) 1), pending := [] }, 0, 0x80000000, by decide +kernel⟩,
    ⟨{ dev := ((rdy.onTack (fun u => { u with links := [{ profile := 5, lanes := [0, 1], spare := some 2, rate := 1 }] })).put (LKj_STATUS_STATE 0) 3), pending := [] }, 0, 0x41000000, by decide +kernel⟩,
    ⟨{ dev := ((rdy.onTack (fun u => { u with links := [{ profile := 5, lanes := [0, 1], spare := some 2, rate := 1 }] })).put (LKj_STATUS_SPARE_STATE 0) 2), pending := [] }, 0, by decide +kernel⟩,
    ⟨{ dev := (((rdy.put (LNn_POWER_STATE 0) 0).onTack (fun u => { u with links := [{ profile := 5, lanes := [0], rate := 1, exercise := true }] })).put (LKj_STATUS_STATE 0) 1), pending := [] }, 0, by decide +kernel⟩,
    ⟨{ dev := (rdy.put (LNn_STATUS_RXSTATE 5) 2), pending := [] }, 5, by decide +kernel⟩⟩

theorem witness_LaneMargins :
    (∃ (s : State) (n : Fin 36) (v : Word), s.takes (LNn_EYE_CTRL n) v.toNat ∧ bitOf v.toNat 31 = true ∧ (s.dev.lane n).eyeBusy = false ∧ n.val < s.dev.lanes.length) ∧
    (∃ (s : State) (n : Fin 36), s.live ∧ (s.dev.lane n).eyeBusy = true ∧ n.val < s.dev.lanes.length) ∧
    (∃ (s : State) (n : Fin 36) (v : Word), s.takes (LNn_TEST_CTRL n) v.toNat ∧ bitOf v.toNat 27 = true ∧ n.val < s.dev.lanes.length) ∧
    (∃ (s : State) (n : Fin 36), s.live ∧ s.dev.flag (LNn_EQ_CTRL_ADAPT n) = true ∧ s.dev.flag (LNn_EQ_CTRL_FREEZE_EN n) = true ∧ s.dev.flag (LNn_EQ_STATUS_FROZEN n) = false ∧ s.dev.laneState n = 3) ∧
    (∃ (s : State) (n : Fin 36), s.live ∧ s.dev.flag (LNn_EQ_STATUS_SNAP_VALID n) = true ∧ s.dev.flag (LNn_EQ_STATUS_FROZEN n) = false ∧ (s.dev.lane n).marginLow = true ∧ s.dev.flag (LNn_EQ_CTRL_REVERT_EN n) = true) ∧
    (∃ (s : State) (n : Fin 36), s.live ∧ s.dev.laneState n ≠ 0) ∧
    (∃ (s : State) (n : Fin 36), s.live ∧ (s.dev.lane n).marginLow = true ∧ s.dev.flag (LNn_STATUS_DEGRADED n) = false ∧ s.dev.laneLink n = none) :=
  ⟨⟨{ dev := rdy, pending := [] }, 5, 0x80000000, by decide +kernel⟩,
    ⟨{ dev := (rdy.onLane 5 (fun u => { u with eyeBusy := true })), pending := [] }, 5, by decide +kernel⟩,
    ⟨{ dev := rdy, pending := [] }, 5, 0x08000000, by decide +kernel⟩,
    ⟨{ dev := (((rdy.put (LNn_STATUS_RXSTATE 5) 3).put (LNn_EQ_CTRL_ADAPT 5) 1).put (LNn_EQ_CTRL_FREEZE_EN 5) 1), pending := [] }, 5, by decide +kernel⟩,
    ⟨{ dev := ((((rdy.put (LNn_STATUS_RXSTATE 5) 3).put (LNn_EQ_STATUS_SNAP_VALID 5) 1).put (LNn_EQ_CTRL_REVERT_EN 5) 1).onLane 5 (fun u => { u with marginLow := true })), pending := [] }, 5, by decide +kernel⟩,
    ⟨{ dev := (rdy.put (LNn_STATUS_RXSTATE 5) 3), pending := [] }, 5, by decide +kernel⟩,
    ⟨{ dev := ((rdy.put (LNn_STATUS_RXSTATE 5) 3).onLane 5 (fun u => { u with marginLow := true })), pending := [] }, 5, by decide +kernel⟩⟩

theorem witness_RegisterAccess :
    (∃ (s : State), s.hostLive) ∧
    (∃ (s : State) (v : Word), s.takes TC_USERBITS v.toNat) ∧
    (∃ (s : State), s.hostLive ∧ s.dev.mode ≠ 0) ∧
    (∃ (s : State) (k : Fin 8) (v : Word), s.takes (evtRegs k).1 v.toNat) ∧
    (∃ (s : State) (k : Fin 16), s.takes FAR_APPROVE k ∧ s.dev.askValid k = true ∧ (s.dev.askRequest k).cls ≠ 4) :=
  ⟨⟨{ dev := rdy, pending := [] }, by decide +kernel⟩,
    ⟨{ dev := rdy, pending := [] }, 5, by decide +kernel⟩,
    ⟨{ dev := rdy, pending := [] }, by decide +kernel⟩,
    ⟨{ dev := rdy, pending := [] }, 3, 0, by decide +kernel⟩,
    ⟨{ dev := (rdy.put (FAR_ASKk_VALID 3) 1), pending := [] }, 3, by decide +kernel⟩⟩

theorem witness_HostMemory :
    (∃ (s : State) (n : Nat), s.hostLive ∧ s.dev.mode ≠ 0 ∧ n ≠ 0 ∧ s.dev.about 2 = false) ∧
    (∃ (s : State) (n : Nat), s.live ∧ s.dev.about 3 = true ∧ s.dev.mode ≠ 0 ∧ n ≠ 0) ∧
    (∃ (s : State) (b : List Byte), s.hostLive ∧ s.dev.mode ≠ 0 ∧ b ≠ [] ∧ s.dev.about 2 = false) ∧
    (∃ (s : State) (b : List Byte), s.live ∧ s.dev.spiOn = true ∧ b.length < 4 ∧ s.dev.halterOn = false) ∧
    (∃ (s : State) (a : BitVec 40) (b : List Byte), s.live ∧ s.dev.spiOn = true ∧ b.length = 4 ∧ s.dev.halterOn = false ∧ ((s.dev.put SPI_STATUS_LAST_OP 2).spiWord a.toNat (wordAt b 0)).halterOn = false) ∧
    (∃ (s : State), s.live ∧ s.dev.spiOn = true) ∧
    (∃ (s : State), s.live ∧ s.dev.spiOn = true) ∧
    (∃ (s : State), s.live ∧ s.dev.spiOn = true) ∧
    (∃ (s : State), s.live ∧ s.dev.spiOn = true ∧ ((s.dev.rung = 1 ∨ s.dev.rung = 2 ∨ s.dev.rung = 3)) ∧ s.dev.mode ≠ 0 ∧ bitOf (s.dev.word POWER_WAKE_ENABLE) 1 = true) ∧
    (∃ (s : State), s.live ∧ s.dev.spiOn = true ∧ s.dev.mode ≠ 0) ∧
    (∃ (s : State) (a : BitVec 28) (b : List Byte), s.hostLive ∧ 3 ≤ s.dev.mode ∧ s.dev.about 2 = false ∧ s.dev.memu.allFilled = true ∧ s.dev.memu.poison = [] ∧ b ≠ [] ∧ s.dev.bar2 a.toNat + b.length ≤ 0x1DC000000) ∧
    (∃ (s : State) (a : BitVec 28) (n : Nat), s.hostLive ∧ 3 ≤ s.dev.mode ∧ s.dev.about 2 = false ∧ s.dev.memu.allFilled = true ∧ s.dev.memu.poison = [] ∧ n ≠ 0 ∧ s.dev.bar2 a.toNat + n ≤ 0x1DC000000) :=
  ⟨⟨{ dev := rdy, pending := [] }, 4, by decide +kernel⟩,
    ⟨{ dev := (rdy.put POWER_RUNG_STATUS_STATE 3), pending := [] }, 4, by decide +kernel⟩,
    ⟨{ dev := rdy, pending := [] }, [1#8, 2#8], by decide +kernel⟩,
    ⟨{ dev := (rdy.put SPI_CTRL_V 1), pending := [] }, [1#8], by decide +kernel⟩,
    ⟨{ dev := (rdy.put SPI_CTRL_V 1), pending := [] }, 0x7F00000000, [1#8, 0#8, 0#8, 0#8], by decide +kernel⟩,
    ⟨{ dev := (rdy.put SPI_CTRL_V 1), pending := [] }, by decide +kernel⟩,
    ⟨{ dev := (rdy.put SPI_CTRL_V 1), pending := [] }, by decide +kernel⟩,
    ⟨{ dev := (rdy.put SPI_CTRL_V 1), pending := [] }, by decide +kernel⟩,
    ⟨{ dev := (((rdy.put SPI_CTRL_V 1).put POWER_RUNG_STATUS_STATE 2).setWord POWER_WAKE_ENABLE 63), pending := [] }, by decide +kernel⟩,
    ⟨{ dev := (rdy.put SPI_CTRL_V 1), pending := [] }, by decide +kernel⟩,
    ⟨{ dev := { rdy with memu := { rdy.memu with allFilled := true } }, pending := [] }, 0x3E, [1#8, 0#8, 2#8, 3#8], by decide +kernel⟩,
    ⟨{ dev := { rdy with memu := { rdy.memu with allFilled := true } }, pending := [] }, 0x3E, 4, by decide +kernel⟩⟩

theorem witness_TeamAccess :
    (∃ (s : State), s.hostLive ∧ s.dev.mode ≠ 0) ∧
    (∃ (s : State) (p : Fin 64) (o : RegBytes), s.hostLive ∧ 3 ≤ s.dev.mode ∧ p ≠ 0 ∧ o.offset.val % 4 = 0 ∧ o.last = 3 ∧ s.dev.isLeader = true ∧ s.dev.flag TEAM_CTRL_ENABLE = false) ∧
    (∃ (s : State), s.hostLive ∧ s.dev.mode ≠ 0) ∧
    (∃ (s : State) (l : Fin 16) (t : Fin 64) (o : Fin 1048576), s.live ∧ s.dev.teamLinks.contains l.val = true ∧ t.val = s.dev.position ∧ s.dev.regOpen o = true ∧ o.val ≠ MIP_HALT_BMP_DATA) ∧
    (∃ (s : State) (l : Fin 16) (t : Fin 64), s.live ∧ s.dev.teamLinks.contains l.val = true ∧ t.val ≠ s.dev.position) ∧
    (∃ (s : State) (l : Fin 16) (st : Fin 16) (q : Fin 16) (t : Fin 64) (o : Fin 1048576) (a : FwdAccess), s.live ∧ s.dev.position < 64 ∧ s.dev.teamLinks.contains l.val = true ∧ s.dev.team.flight = some a ∧ a.target = t.val ∧ a.seq = q.val ∧ a.offset = o.val ∧ st.val ≤ 1) ∧
    (∃ (s : State) (a : FwdAccess), s.live ∧ s.dev.team.flight = some a ∧ a.probe = false) ∧
    (∃ (s : State), s.live ∧ s.dev.team.flight = none) ∧
    (∃ (s : State) (l : Fin 16), s.live ∧ s.dev.teamLinks.contains l.val = true ∧ s.dev.isLeader = false ∧ s.dev.teamLinks.contains (s.dev.get TEAM_TIME_CTRL_UPSTREAM) = true) ∧
    (∃ (s : State) (l : Fin 16) (c : Fin 64), s.live ∧ s.dev.teamLinks.contains l.val = true ∧ s.dev.isLeader = true ∧ cellFind s.dev.evt.fwdSeq c = none) ∧
    (∃ (s : State) (v : Word), s.takes TEAM_CTRL v.toNat ∧ bitOf v.toNat 30 = true ∧ (s.dev.writePlain TEAM_CTRL v.toNat).isLeader = true ∧ s.dev.flag TEAM_STATUS_PROBING = false ∧ s.dev.team.flight = none ∧ s.dev.team.waiting = []) :=
  ⟨⟨{ dev := rdy, pending := [] }, by decide +kernel⟩,
    ⟨{ dev := rdy, pending := [] }, 3, ⟨0x100, 3⟩, by decide +kernel⟩,
    ⟨{ dev := rdy, pending := [] }, by decide +kernel⟩,
    ⟨{ dev := ((rdy.put TEAM_CTRL_ENABLE 1).onTack (fun u => { u with links := [{ profile := 4, lanes := [0], rate := 1 }] })).put (LKj_STATUS_STATE 0) 3, pending := [] }, 0, 0, 0x100, by decide +kernel⟩,
    ⟨{ dev := ((rdy.put TEAM_CTRL_ENABLE 1).onTack (fun u => { u with links := [{ profile := 4, lanes := [0], rate := 1 }] })).put (LKj_STATUS_STATE 0) 3, pending := [] }, 0, 9, by decide +kernel⟩,
    ⟨{ dev := ((((rdy.put TEAM_CTRL_ENABLE 1).onTack (fun u => { u with links := [{ profile := 4, lanes := [0], rate := 1 }] })).put (LKj_STATUS_STATE 0) 3).onTeam (fun u => { u with flight := some { target := 3, offset := 0x100, data := none, probe := false, seq := 2, sentAt := 0 } })), pending := [] }, 0, 0, 2, 3, 0x100, { target := 3, offset := 0x100, data := none, probe := false, seq := 2, sentAt := 0 }, by decide +kernel⟩,
    ⟨{ dev := ((((rdy.put TEAM_CTRL_ENABLE 1).onTack (fun u => { u with links := [{ profile := 4, lanes := [0], rate := 1 }] })).put (LKj_STATUS_STATE 0) 3).onTeam (fun u => { u with flight := some { target := 3, offset := 0x100, data := none, probe := false, seq := 2, sentAt := 0 } })), pending := [] }, { target := 3, offset := 0x100, data := none, probe := false, seq := 2, sentAt := 0 }, by decide +kernel⟩,
    ⟨{ dev := rdy, pending := [] }, by decide +kernel⟩,
    ⟨{ dev := ((((rdy.put TEAM_CTRL_ENABLE 1).onTack (fun u => { u with links := [{ profile := 4, lanes := [0], rate := 1 }] })).put (LKj_STATUS_STATE 0) 3).put TEAM_STATUS_POSITION 5).put TEAM_TIME_CTRL_UPSTREAM 0, pending := [] }, 0, by decide +kernel⟩,
    ⟨{ dev := ((rdy.put TEAM_CTRL_ENABLE 1).onTack (fun u => { u with links := [{ profile := 4, lanes := [0], rate := 1 }] })).put (LKj_STATUS_STATE 0) 3, pending := [] }, 0, 1, by decide +kernel⟩,
    ⟨{ dev := ((rdy.put TEAM_CTRL_ENABLE 1).onTack (fun u => { u with links := [{ profile := 4, lanes := [0], rate := 1 }] })).put (LKj_STATUS_STATE 0) 3, pending := [] }, 0xC0000000, by decide +kernel⟩⟩

theorem witness_DmaControl :
    (∃ (s : State) (c : Fin 8), s.takes (DMAc_CTRL c) (2 ^ 31) ∧ s.dev.get (DMAc_STATUS_STATE c) = 0 ∧ s.dev.get (DMAc_TAIL_V c) = s.dev.get (DMAc_HEAD_V c)) ∧
    (∃ (s : State) (c : Fin 8), s.takes (DMAc_CTRL c) 0 ∧ s.dev.get (DMAc_STATUS_STATE c) ≠ 2) ∧
    (∃ (s : State) (c : Fin 8), s.takes (DMAc_CTRL c) (2 ^ 31 + 2 ^ 30) ∧ s.dev.get (DMAc_STATUS_STATE c) = 3 ∧ s.dev.rungHolds = false) ∧
    (∃ (s : State) (c : Fin 8), s.takes (DMAc_CTRL c) (2 ^ 31 + 2 ^ 29) ∧ s.dev.get (DMAc_STATUS_STATE c) = 4 ∧ s.dev.rungHolds = false) ∧
    (∃ (s : State) (c : Fin 8), s.takes (DMAc_CTRL c) (2 ^ 31 + 2 ^ 28) ∧ s.dev.get (DMAc_STATUS_STATE c) = 4) ∧
    (∃ (s : State) (c : Fin 8) (v : Word), s.takes (DMAc_TAIL c) v.toNat ∧ v.toNat < s.dev.dmaSize c ∧ s.dev.get (DMAc_STATUS_STATE c) ≠ 1) ∧
    (∃ (s : State) (c : Fin 8) (l : List Host.Cell), s.live ∧ s.dev.get (DMAc_STATUS_STATE c) = 2 ∧ (s.dev.given l).dmaCheck ((s.dev.given l).dmaDesc c) ≠ 0) ∧
    (∃ (s : State) (c : Fin 8) (l : List Host.Cell) (q : DmaDesc), s.live ∧ s.dev.get (DMAc_STATUS_STATE c) = 2 ∧ (s.dev.given l).dmaDesc c = q ∧ (s.dev.given l).dmaCheck q = 0 ∧ q.flags = 18) ∧
    (∃ (s : State) (c : Fin 8), s.live ∧ s.dev.get (DMAc_STATUS_STATE c) = 2) ∧
    (∃ (s : State) (c : Fin 8), s.live ∧ s.dev.get (DMAc_STATUS_STATE c) = 2) :=
  ⟨⟨{ dev := rdy, pending := [] }, 2, by decide +kernel⟩,
    ⟨{ dev := (rdy.put (DMAc_STATUS_STATE 2) 1), pending := [] }, 2, by decide +kernel⟩,
    ⟨{ dev := (rdy.put (DMAc_STATUS_STATE 2) 3), pending := [] }, 2, by decide +kernel⟩,
    ⟨{ dev := (rdy.put (DMAc_STATUS_STATE 2) 4), pending := [] }, 2, by decide +kernel⟩,
    ⟨{ dev := (rdy.put (DMAc_STATUS_STATE 2) 4), pending := [] }, 2, by decide +kernel⟩,
    ⟨{ dev := (rdy.put (DMAc_STATUS_STATE 2) 0), pending := [] }, 2, 0, by decide +kernel⟩,
    ⟨{ dev := (rdy.put (DMAc_STATUS_STATE 2) 2), pending := [] }, 2, [], by decide +kernel⟩,
    ⟨{ dev := (rdy.put (DMAc_STATUS_STATE 2) 2), pending := [] }, 2, [(8, 0x00#8), (9, 0x10#8), (16, 4#8), (20, 18#8), (24, 0xAB#8)], { src := 0, dst := 4096, len := 4, flags := 18, tag := 0, pattern := 0xAB }, by decide +kernel⟩,
    ⟨{ dev := (rdy.put (DMAc_STATUS_STATE 2) 2), pending := [] }, 2, by decide +kernel⟩,
    ⟨{ dev := (rdy.put (DMAc_STATUS_STATE 2) 2), pending := [] }, 2, by decide +kernel⟩⟩

theorem witness_EventRing :
    (∃ (s : State) (b : Fin 16), s.takes EVT_CTRL (2 ^ 31 + b.val) ∧ s.dev.get (SBn_OWNER_OWNER b) = 2 ∧ s.dev.flag (SBn_OWNER_SHARE_READ b) = true ∧ s.dev.flag EVT_CTRL_ENABLE = false) ∧
    (∃ (s : State) (v : Word), s.takes EVT_CONS v.toNat ∧ (v.toNat % 16384 + 16384 - s.dev.get EVT_CONS_V) % 16384 ≤ s.dev.ringUsed) ∧
    (∃ (s : State) (v : Word), s.takes EVT_INJECT v.toNat) ∧
    (∃ (s : State) (v : Word), s.takes EVT_FLOG_CLEAR v.toNat ∧ bitOf v.toNat 0 = true) ∧
    (∃ (s : State) (x : MsixSet), s.live ∧ (∀ y ∈ s.dev.evt.vecs, y.held = false) ∧ x.vec.val < s.dev.evt.vecs.length) ∧
    (∃ (s : State) (v : Fin 64), s.live ∧ (nth {} s.dev.evt.vecs v).moderating = true ∧ (nth {} s.dev.evt.vecs v).waiting = false ∧ v.val < s.dev.evt.vecs.length) ∧
    (∃ (s : State), s.live) ∧
    (∃ (s : State), s.live) ∧
    (∃ (s : State) (x : PcieLink), s.live ∧ s.dev.mode ≠ 0 ∧ x.speed.val ≠ 0 ∧ ((x.width.val = 1 ∨ x.width.val = 2 ∨ x.width.val = 4))) :=
  ⟨⟨{ dev := ((rdy.put (SBn_OWNER_OWNER 3) 2).put (SBn_OWNER_SHARE_READ 3) 1), pending := [] }, 3, by decide +kernel⟩,
    ⟨{ dev := rdy, pending := [] }, 0, by decide +kernel⟩,
    ⟨{ dev := rdy, pending := [] }, 7, by decide +kernel⟩,
    ⟨{ dev := rdy, pending := [] }, 1, by decide +kernel⟩,
    ⟨{ dev := rdy, pending := [] }, { vec := 5 }, by decide +kernel⟩,
    ⟨{ dev := (rdy.onVec 5 (fun x => { x with moderating := true })), pending := [] }, 5, by decide +kernel⟩,
    ⟨{ dev := rdy, pending := [] }, by decide +kernel⟩,
    ⟨{ dev := rdy, pending := [] }, by decide +kernel⟩,
    ⟨{ dev := rdy, pending := [] }, ⟨3, 4, 1⟩, by decide +kernel⟩⟩

theorem witness_EthernetAndTileStreams :
    (∃ (s : State) (p : Fin 2) (l : List Byte) (f : Word), s.live ∧ f.toNat ≠ crc32 l ∧ s.dev.flag (Ep_CTRL_ENABLE p) = true ∧ s.dev.flag (Ep_STATUS_LINK_UP p) = true) ∧
    (∃ (s : State) (p : Fin 2) (l : List Byte) (f : Word), s.live ∧ f.toNat = crc32 l ∧ s.dev.flag (Ep_CTRL_ENABLE p) = true ∧ s.dev.flag (Ep_STATUS_LINK_UP p) = true ∧ l.length < 60) ∧
    (∃ (s : State) (p : Fin 2) (l : List Byte) (f : Word), s.live ∧ f.toNat = crc32 l ∧ s.dev.flag (Ep_CTRL_ENABLE p) = true ∧ s.dev.flag (Ep_STATUS_LINK_UP p) = true ∧ 60 ≤ l.length ∧ l.length ≤ 1518 ∧ be16 l (typeAt l) = 0x8808 ∧ be16 l (typeAt l + 2) = 1) ∧
    (∃ (s : State), s.live) ∧
    (∃ (s : State), s.live) ∧
    (∃ (s : State), s.live) ∧
    (∃ (s : State), s.live) ∧
    (∃ (s : State) (q : Fin 8) (v : Word), s.takes (NQq_TAIL q) v.toNat ∧ v.toNat < s.dev.nqSize q) ∧
    (∃ (s : State) (q : Fin 8), s.live ∧ q.val % 4 < 2 ∧ s.dev.nqOffered q = true ∧ s.dev.inRung = false ∧ s.dev.shedLevel < 3 ∧ s.dev.flag (Ep_CTRL_ENABLE (q / 4)) = true ∧ s.dev.txTurn (q / 4) (q % 4) = true ∧ s.dev.flag (Ep_CTRL_JUMBO (q / 4)) = false ∧ 1518 < s.dev.dpNum (s.dev.nqDesc q + 8) 2) ∧
    (∃ (s : State) (l : List Byte), s.live ∧ s.dev.shedLevel = 0 ∧ s.dev.inRung = false ∧ anyBelow 8 (fun h => s.dev.flag (TSh_CTRL_RX h)) = true ∧ l.length < 32) ∧
    (∃ (s : State), s.live ∧ s.dev.flag TS_CTRL_TX_ENABLE = false) ∧
    (∃ (s : State) (h : Fin 8) (g : TsFrame), s.live ∧ s.dev.flag TS_CTRL_TX_ENABLE = true ∧ s.dev.flag (Ep_CTRL_ENABLE (s.dev.get TS_CTRL_PORT)) = true ∧ s.dev.txTurn (s.dev.get TS_CTRL_PORT) 2 = true ∧ s.dev.shedLevel = 0 ∧ s.dev.inRung = false ∧ (s.dev.head h).ts.frames = [g] ∧ (s.dev.head h).ts.tiles = [] ∧ g.closed = true ∧ h.val < s.dev.heads.length) :=
  ⟨⟨{ dev := ((rdy.put (Ep_CTRL_ENABLE 0) 1).put (Ep_STATUS_LINK_UP 0) 1), pending := [] }, 0, [], 7, by decide +kernel⟩,
    ⟨{ dev := ((rdy.put (Ep_CTRL_ENABLE 0) 1).put (Ep_STATUS_LINK_UP 0) 1), pending := [] }, 0, [], 0, by decide +kernel⟩,
    ⟨{ dev := ((rdy.put (Ep_CTRL_ENABLE 0) 1).put (Ep_STATUS_LINK_UP 0) 1), pending := [] }, 0, List.replicate 12 0 ++ [0x88#8, 0x08#8, 0x00#8, 0x01#8] ++ List.replicate 46 0, BitVec.ofNat 32 (crc32 (List.replicate 12 0 ++ [0x88#8, 0x08#8, 0x00#8, 0x01#8] ++ List.replicate 46 0)), by decide +kernel⟩,
    ⟨{ dev := ((rdy.put (Ep_CTRL_ENABLE 0) 1).put (Ep_STATUS_LINK_UP 0) 1), pending := [] }, by decide +kernel⟩,
    ⟨{ dev := ((rdy.put (Ep_CTRL_ENABLE 0) 1).put (Ep_STATUS_LINK_UP 0) 1), pending := [] }, by decide +kernel⟩,
    ⟨{ dev := ((rdy.put (Ep_CTRL_ENABLE 0) 1).put (Ep_STATUS_LINK_UP 0) 1), pending := [] }, by decide +kernel⟩,
    ⟨{ dev := rdy, pending := [] }, by decide +kernel⟩,
    ⟨{ dev := rdy, pending := [] }, 1, 3, by decide +kernel⟩,
    ⟨{ dev := ((((rdy.put (Ep_CTRL_ENABLE 0) 1).put (NQq_STATUS_STATE 0) 1).put (NQq_TAIL_V 0) 1) |> fun d => { d with mem := [(9, 0x40#8)], memu := { d.memu with allFilled := true } }), pending := [] }, 0, by decide +kernel⟩,
    ⟨{ dev := (rdy.put (TSh_CTRL_RX 0) 1), pending := [] }, [], by decide +kernel⟩,
    ⟨{ dev := rdy, pending := [] }, by decide +kernel⟩,
    ⟨{ dev := (((rdy.put (Ep_CTRL_ENABLE 0) 1).put TS_CTRL_TX_ENABLE 1).onTs 0 (fun u => { u with frames := [{ frame := 3, closed := true, key := false, rowTiles := 2, start := 0 }] })), pending := [] }, 0, { frame := 3, closed := true, key := false, rowTiles := 2, start := 0 }, by decide +kernel⟩⟩

theorem witness_BankOwnership :
    (∃ (s : State) (n : Fin 16) (v : Word), s.takes (SBn_OWNER n) v.toNat ∧ sbOwnerOk n v.toNat s.dev = true ∧ bitsOf v.toNat 0 4 ≠ s.dev.get (SBn_OWNER_OWNER n) ∧ s.dev.get (SBn_STATUS_STATE n) = 0) ∧
    (∃ (s : State) (n : Fin 16), s.live ∧ s.dev.handoverHead n = none) ∧
    (∃ (s : State) (n : Fin 16), s.live ∧ s.dev.handoverHead n = none ∧ s.dev.flag (SBn_OWNER_PENDING n) = false) ∧
    (∃ (s : State) (n : Fin 16) (l : List Nat), s.live ∧ s.dev.get (SBn_STATUS_STATE n) = 2 ∧ l = [] ∧ s.dev.memu.waits = []) :=
  ⟨⟨{ dev := rdy, pending := [] }, 3, 0x80000005, by decide +kernel⟩,
    ⟨{ dev := ((rdy.put (SBn_OWNER_PENDING 3) 1).put (SBn_OWNER_NEXT 3) 2), pending := [] }, 3, by decide +kernel⟩,
    ⟨{ dev := rdy, pending := [] }, 3, by decide +kernel⟩,
    ⟨{ dev := (rdy.put (SBn_STATUS_STATE 3) 2), pending := [] }, 3, [], by decide +kernel⟩⟩

theorem witness_Atomics :
    (∃ (s : State), s.takes MEM_ATOM_OP 0 ∧ atomOk 0 s.dev = true ∧ s.dev.get (SBn_STATUS_STATE (bankOf s.dev.atomAddr)) = 0 ∧ s.dev.memu.marchPhase = 0 ∧ s.dev.mayWrite (bankOf s.dev.atomAddr) 0 = true ∧ s.dev.memu.poison = []) ∧
    (∃ (s : State), s.takes MEM_ATOM_OP 1 ∧ atomOk 1 s.dev = true ∧ s.dev.get (SBn_STATUS_STATE (bankOf s.dev.atomAddr)) = 0 ∧ s.dev.memu.marchPhase = 0 ∧ s.dev.mayWrite (bankOf s.dev.atomAddr) 0 = true ∧ s.dev.memu.poison = []) ∧
    (∃ (s : State), s.takes MEM_ATOM_OP 2 ∧ atomOk 2 s.dev = true ∧ s.dev.get (SBn_STATUS_STATE (bankOf s.dev.atomAddr)) = 0 ∧ s.dev.memu.marchPhase = 0 ∧ s.dev.mayWrite (bankOf s.dev.atomAddr) 0 = true ∧ s.dev.memu.poison = []) ∧
    (∃ (s : State), s.takes MEM_ATOM_OP 3 ∧ atomOk 3 s.dev = true ∧ s.dev.get (SBn_STATUS_STATE (bankOf s.dev.atomAddr)) = 0 ∧ s.dev.memu.marchPhase = 0 ∧ s.dev.mayWrite (bankOf s.dev.atomAddr) 0 = true ∧ s.dev.memu.poison = []) :=
  ⟨⟨{ dev := (((rdy.put MEM_ATOM_ADDR_HI_V 0x40).put MEM_ATOM_DATA_LO_V 5).put (SBn_OWNER_OWNER 0) 0), pending := [] }, by decide +kernel⟩,
    ⟨{ dev := (((rdy.put MEM_ATOM_ADDR_HI_V 0x40).put MEM_ATOM_DATA_LO_V 5).put (SBn_OWNER_OWNER 0) 0), pending := [] }, by decide +kernel⟩,
    ⟨{ dev := (((rdy.put MEM_ATOM_ADDR_HI_V 0x40).put MEM_ATOM_DATA_LO_V 5).put (SBn_OWNER_OWNER 0) 0), pending := [] }, by decide +kernel⟩,
    ⟨{ dev := (((rdy.put MEM_ATOM_ADDR_HI_V 0x40).put MEM_ATOM_DATA_LO_V 5).put (SBn_OWNER_OWNER 0) 0), pending := [] }, by decide +kernel⟩⟩

theorem witness_March :
    (∃ (s : State) (b : Fin 16) (bg : Bool), s.takes MEM_MARCH_CTRL (2 ^ 31 + b2n bg * 2 ^ 29 + b.val) ∧ s.dev.memu.marchPhase = 0) ∧
    (∃ (s : State) (b : Fin 16) (bg : Bool), s.takes MEM_MARCH_CTRL (2 ^ 30 + b2n bg * 2 ^ 29 + b.val) ∧ s.dev.memu.marchPhase ≠ 0) ∧
    (∃ (s : State), s.live ∧ (∀ b : Fin 16, s.dev.lendable b = false)) ∧
    (∃ (s : State) (b : Fin 16), s.live ∧ s.dev.flag MEM_MARCH_CTRL_BACKGROUND = true ∧ s.dev.memu.marchPhase = 0 ∧ s.dev.get POWER_SHED_STATUS_LEVEL = 0 ∧ s.dev.memu.marchNext < 8192 ∧ s.dev.memu.marchNext / 512 = b.val ∧ s.dev.lendable b = true) ∧
    (∃ (s : State), s.live ∧ s.dev.memu.marchPhase = 1 ∧ s.dev.flag MEM_MARCH_STATUS_REQUESTED = true ∧ s.dev.get MEM_MARCH_STATUS_ROW < 511 ∧ s.dev.get MEM_MARCH_STATUS_BANK < 16) ∧
    (∃ (s : State), s.live ∧ s.dev.memu.marchPhase = 2) :=
  ⟨⟨{ dev := rdy, pending := [] }, 3, false, by decide +kernel⟩,
    ⟨{ dev := (rdy |> fun d => { d with memu := { d.memu with marchPhase := 1 } }), pending := [] }, 3, false, by decide +kernel⟩,
    ⟨{ dev := rdy, pending := [] }, by decide +kernel⟩,
    ⟨{ dev := ((rdy.put MEM_MARCH_CTRL_BACKGROUND 1).put (SBn_OWNER_LENDABLE 0) 1), pending := [] }, 0, by decide +kernel⟩,
    ⟨{ dev := ((rdy.put MEM_MARCH_STATUS_REQUESTED 1) |> fun d => { d with memu := { d.memu with marchPhase := 1 } }), pending := [] }, by decide +kernel⟩,
    ⟨{ dev := (rdy |> fun d => { d with memu := { d.memu with marchPhase := 2 } }), pending := [] }, by decide +kernel⟩⟩

theorem witness_MemoryUpkeep :
    (∃ (s : State) (g : Nat), s.live ∧ s.dev.granuleSet g = false ∧ s.dev.filling g = true) ∧
    (∃ (s : State), s.live ∧ s.dev.flag MEM_STATUS_INIT_DONE = false ∧ s.dev.mode ≠ 0 ∧ s.dev.memu.waits = []) ∧
    (∃ (s : State), s.live ∧ s.dev.flag MEM_GROOM_CTRL_DRAM_EN = false) ∧
    (∃ (s : State), s.live ∧ s.dev.mode ≠ 0 ∧ s.dev.flag MEM_GROOM_CTRL_SRAM_EN = true) ∧
    (∃ (s : State) (k : Fin 64), s.live ∧ s.dev.flag (MEM_CLOGk_INFO_VALID k) = true ∧ s.dev.flag (MEM_CLOGk_INFO_WRITTEN_BACK k) = false ∧ 16 ≤ s.dev.get (MEM_CLOGk_INFO_COUNT k)) ∧
    (∃ (s : State) (k : Fin 64), s.live ∧ s.dev.flag (MEM_CLOGk_INFO_VALID k) = true ∧ s.dev.flag (MEM_CLOGk_INFO_HARD k) = false ∧ 24 ≤ s.dev.clogAge k) ∧
    (∃ (s : State), s.live ∧ s.dev.farReleased 3 = []) ∧
    (∃ (s : State) (q : FarRequest) (l : List FarRequest), s.live ∧ s.dev.farReleased 3 = q :: l ∧ s.dev.memu.sparePages.length = 16384) ∧
    (∃ (s : State) (q : FarRequest) (l : List FarRequest), s.live ∧ s.dev.farReleased 3 = q :: l ∧ s.dev.memu.sparePages.length < 16384) ∧
    (∃ (s : State), s.live) :=
  ⟨⟨{ dev := (rdy |> fun d => { d with memu := { d.memu with waits := [{ key := 5, addr := 5 * 65536, len := 4, bytes := [] }] } }), pending := [] }, 5, by decide +kernel⟩,
    ⟨{ dev := rdy, pending := [] }, by decide +kernel⟩,
    ⟨{ dev := (rdy.put MEM_GROOM_CTRL_DRAM_EN 0), pending := [] }, by decide +kernel⟩,
    ⟨{ dev := (rdy.put MEM_GROOM_CTRL_SRAM_EN 1), pending := [] }, by decide +kernel⟩,
    ⟨{ dev := ((rdy.put (MEM_CLOGk_INFO_VALID 3) 1).put (MEM_CLOGk_INFO_COUNT 3) 16), pending := [] }, 3, by decide +kernel⟩,
    ⟨{ dev := (((rdy.put (MEM_CLOGk_INFO_VALID 3) 1).put MEM_CLOG_USED_V 1).onTb 3 (fun t => { t with sec := 86400 })), pending := [] }, 3, by decide +kernel⟩,
    ⟨{ dev := rdy, pending := [] }, by decide +kernel⟩,
    ⟨{ dev := (rdy |> fun d => { d with far := { d.far with queue := [{ cls := 3, trig := 1, inst := 7 }] }, memu := { d.memu with sparePages := List.replicate 16384 0 } }), pending := [] }, { cls := 3, trig := 1, inst := 7 }, [], by decide +kernel⟩,
    ⟨{ dev := (rdy |> fun d => { d with far := { d.far with queue := [{ cls := 3, trig := 1, inst := 7 }] } }), pending := [] }, { cls := 3, trig := 1, inst := 7 }, [], by decide +kernel⟩,
    ⟨{ dev := rdy, pending := [] }, by decide +kernel⟩⟩

theorem witness_CompressionEngine :
    (∃ (s : State) (q : Fin 4), s.takes (CEq_CTRL q) (2 ^ 31) ∧ s.dev.get (CEq_STATUS_STATE q) = 0) ∧
    (∃ (s : State) (q : Fin 4), s.takes (CEq_CTRL q) 0 ∧ s.dev.get (CEq_STATUS_STATE q) ≠ 2) ∧
    (∃ (s : State) (q : Fin 4), s.takes (CEq_CTRL q) (2 ^ 31 + 2 ^ 30) ∧ s.dev.get (CEq_STATUS_STATE q) = 3) ∧
    (∃ (s : State) (q : Fin 4), s.takes (CEq_CTRL q) (2 ^ 31 + 2 ^ 29) ∧ s.dev.get (CEq_STATUS_STATE q) = 4) ∧
    (∃ (s : State) (q : Fin 4), s.takes (CEq_CTRL q) (2 ^ 31 + 2 ^ 28) ∧ s.dev.get (CEq_STATUS_STATE q) = 4) ∧
    (∃ (s : State) (q : Fin 4) (v : Word), s.takes (CEq_TAIL q) v.toNat ∧ v.toNat < 2 ^ s.dev.get (CEq_RING_SIZE_V q)) ∧
    (∃ (s : State) (q : Fin 4) (errs : List (Nat × Ecc)), s.live ∧ s.dev.get (CEq_STATUS_STATE q) = 2 ∧ s.dev.ce.serving.any (fun p => p.1 == q.val) = true ∧ (s.dev.agentRead 3 (s.dev.ceAddr q) 64 errs).1 = true) ∧
    (∃ (s : State) (q : Fin 4) (errs : List (Nat × Ecc)), s.live ∧ s.dev.get (CEq_STATUS_STATE q) = 2 ∧ s.dev.ce.serving.any (fun p => p.1 == q.val) = true ∧ (s.dev.agentRead 3 (s.dev.ceAddr q) 64 errs).1 = false ∧ (s.dev.agentRead 3 (s.dev.ceAddr q) 64 errs).2.2.ceCheck (s.dev.ceDesc q) ≠ 0) ∧
    (∃ (s : State) (q : Fin 4) (errs : List (Nat × Ecc)), s.live ∧ s.dev.get (CEq_STATUS_STATE q) = 2 ∧ s.dev.ce.serving.any (fun p => p.1 == q.val) = true ∧ (s.dev.agentRead 3 (s.dev.ceAddr q) 64 errs).1 = false ∧ (s.dev.agentRead 3 (s.dev.ceAddr q) 64 errs).2.2.ceCheck (s.dev.ceDesc q) = 0 ∧ (s.dev.ceDesc q).encodes = true) ∧
    (∃ (s : State) (q : Fin 4), s.live ∧ s.dev.get (CEq_STATUS_STATE q) ≠ 2) ∧
    (∃ (s : State) (t : Fin 8), s.takes CE_TABLE_CTRL (2 ^ 31 + t.val) ∧ s.dev.get CE_TABLE_STATUS_STATE ≠ 1) ∧
    (∃ (s : State), s.live ∧ s.dev.get CE_TABLE_STATUS_STATE = 1 ∧ s.dev.get CE_CTRL_FB_TABLE = s.dev.get CE_TABLE_STATUS_SLOT) :=
  ⟨⟨{ dev := rdy, pending := [] }, 1, by decide +kernel⟩,
    ⟨{ dev := (rdy.put (CEq_STATUS_STATE 1) 1), pending := [] }, 1, by decide +kernel⟩,
    ⟨{ dev := (rdy.put (CEq_STATUS_STATE 1) 3), pending := [] }, 1, by decide +kernel⟩,
    ⟨{ dev := (rdy.put (CEq_STATUS_STATE 1) 4), pending := [] }, 1, by decide +kernel⟩,
    ⟨{ dev := (rdy.put (CEq_STATUS_STATE 1) 4), pending := [] }, 1, by decide +kernel⟩,
    ⟨{ dev := rdy, pending := [] }, 1, 0, by decide +kernel⟩,
    ⟨{ dev := ((rdy.put (CEq_STATUS_STATE 1) 2) |> fun d => { d with ce := { d.ce with serving := [(1, true)] }, memu := { d.memu with allFilled := true } }), pending := [] }, 1, [(0, .uncorrectable)], by decide +kernel⟩,
    ⟨{ dev := ((rdy.put (CEq_STATUS_STATE 1) 2) |> fun d => { d with ce := { d.ce with serving := [(1, true)] } }), pending := [] }, 1, [], by decide +kernel⟩,
    ⟨{ dev := ((rdy.put (CEq_STATUS_STATE 1) 2) |> fun d => { d with ce := { d.ce with serving := [(1, true)] }, memu := { d.memu with allFilled := true }, mem := [(1, 0x10#8), (9, 0x20#8), (25, 0x30#8), (32, 1#8), (41, 1#8), (48, 2#8), (49, 3#8), (52, 1#8)] }), pending := [] }, 1, [], by decide +kernel⟩,
    ⟨{ dev := (rdy.put (CEq_STATUS_STATE 1) 1), pending := [] }, 1, by decide +kernel⟩,
    ⟨{ dev := rdy, pending := [] }, 5, by decide +kernel⟩,
    ⟨{ dev := (((rdy.put CE_TABLE_STATUS_STATE 1).put CE_TABLE_STATUS_SLOT 5).put CE_CTRL_FB_TABLE 5), pending := [] }, by decide +kernel⟩⟩

theorem witness_Calibration :
    (∃ (s : State) (i : Fin 256), s.takes CAL_REQUEST i ∧ i.val ≤ 87) ∧
    (∃ (s : State) (i : Fin 256), s.takes CAL_REQUEST (2 ^ 31 + i.val) ∧ i.val ≤ 87) ∧
    (∃ (s : State) (r : Nat) (a : Nat) (b : Nat) (i : Nat), s.live ∧ s.dev.calTurn = some i ∧ s.dev.calMayStart = true ∧ refvReason r a b none = 0 ∧ quietItem i = false) ∧
    (∃ (s : State) (r : Nat) (a : Nat) (b : Nat) (i : Nat), s.live ∧ s.dev.calTurn = some i ∧ s.dev.calMayStart = true ∧ refvReason r a b none ≠ 0) ∧
    (∃ (s : State) (r : Nat) (a : Nat) (b : Nat) (i : Nat), s.live ∧ s.dev.cal.measuring = some i ∧ s.dev.cal.quietWait = false ∧ refvReason r a b (some s.dev.cal.refvStart) ≠ 0) ∧
    (∃ (s : State) (r : Nat) (a : Nat) (b : Nat) (m : CalMeas) (i : Nat), s.live ∧ s.dev.cal.measuring = some i ∧ s.dev.cal.quietWait = false ∧ refvReason r a b (some s.dev.cal.refvStart) = 0 ∧ 80 ≤ i ∧ m.gain.natAbs ≤ 10000) ∧
    (∃ (s : State) (i : Fin 88), s.live ∧ s.dev.calNow i = true) ∧
    (∃ (s : State) (i : Nat), s.live ∧ s.dev.cal.measuring = some i ∧ s.dev.cal.quietWait = true) ∧
    (∃ (s : State) (r : Nat) (a : Nat) (b : Nat), s.live ∧ refvReason r a b none = 0 ∧ s.dev.flag CAL_STATUS_REFV_BAD = true) ∧
    (∃ (s : State) (t : Int), s.live ∧ s.dev.mode ≠ 0 ∧ s.dev.flag CAL_CTRL_AUTO_TEMP = false ∧ -2048 ≤ t ∧ t < 2048) ∧
    (∃ (s : State) (p : Fin 8), s.live ∧ bitOf (s.dev.get FAR_SENSOR_STATUS_FAILED) p = true) ∧
    (∃ (s : State) (p : Fin 8), s.live ∧ bitOf (s.dev.get FAR_SENSOR_STATUS_FAILED) p = false ∧ bitOf (s.dev.get FAR_SENSOR_STATUS_IN_USE) p = false) :=
  ⟨⟨{ dev := rdy, pending := [] }, 5, by decide +kernel⟩,
    ⟨{ dev := rdy, pending := [] }, 5, by decide +kernel⟩,
    ⟨{ dev := rdy, pending := [] }, 0, 1000, 1000, 0, by decide +kernel⟩,
    ⟨{ dev := rdy, pending := [] }, 0, 1, 2, 0, by decide +kernel⟩,
    ⟨{ dev := (rdy.onCal (fun u => { u with measuring := some 5 })), pending := [] }, 0, 1, 2, 5, by decide +kernel⟩,
    ⟨{ dev := (rdy.onCal (fun u => { u with measuring := some 80, refvStart := 1000 })), pending := [] }, 0, 1000, 1000, { off := 1, gain := 2, err := 3, activeGain := 4, activeErr := 5 }, 80, by decide +kernel⟩,
    ⟨{ dev := rdy, pending := [] }, 80, by decide +kernel⟩,
    ⟨{ dev := (rdy.onCal (fun u => { u with measuring := some 4, quietWait := true })), pending := [] }, 4, by decide +kernel⟩,
    ⟨{ dev := (rdy.put CAL_STATUS_REFV_BAD 1), pending := [] }, 0, 1250000, 1250001, by decide +kernel⟩,
    ⟨{ dev := (rdy.put CAL_CTRL_AUTO_TEMP 0), pending := [] }, 400, by decide +kernel⟩,
    ⟨{ dev := (rdy.put FAR_SENSOR_STATUS_FAILED 4), pending := [] }, 2, by decide +kernel⟩,
    ⟨{ dev := (rdy.put FAR_SENSOR_STATUS_IN_USE 0), pending := [] }, 2, by decide +kernel⟩⟩

theorem witness_CalStore :
    (∃ (s : State), s.takes CAL_STORE_CTRL (2 ^ 31) ∧ ((s.dev.mode = 3 ∨ s.dev.mode = 4)) ∧ s.dev.itemsIn 2 = [] ∧ s.dev.get CAL_STORE_STATUS_STATE = 0) ∧
    (∃ (s : State), s.live ∧ s.dev.flag CAL_CTRL_AUTO_STORE = false) ∧
    (∃ (s : State), s.live ∧ s.dev.flag CAL_CTRL_AUTO_STORE = true ∧ s.dev.flag CAL_STORE_STATUS_DIRTY = true ∧ s.dev.cal.dirtyAt + s.dev.get CAL_CTRL_STORE_MIN * 60000000000 ≤ (s.dev.tb 3).total ∧ ((s.dev.mode = 3 ∨ s.dev.mode = 4)) ∧ s.dev.itemsIn 2 = [] ∧ s.dev.get CAL_STORE_STATUS_STATE = 0) ∧
    (∃ (s : State), s.live ∧ s.dev.get CAL_STORE_STATUS_STATE = 1) ∧
    (∃ (s : State), s.live ∧ s.dev.get CAL_STORE_STATUS_STATE = 2 ∧ s.dev.cal.slot = 0) ∧
    (∃ (s : State), s.live ∧ s.dev.get CAL_STORE_STATUS_STATE = 3 ∧ s.dev.cal.slot = 1) ∧
    (∃ (s : State), s.live ∧ s.dev.get CAL_STORE_STATUS_STATE = 3) ∧
    (∃ (s : State) (x : FarLog) (l : List FarLog), s.live ∧ s.dev.far.logQueue = x :: l ∧ s.dev.get FAR_LOG_STATUS_ENTRIES < 32768) ∧
    (∃ (s : State) (l : List FarLog), s.live ∧ s.dev.far.logQueue = [] ∧ l = []) ∧
    (∃ (s : State) (k : Fin 16), s.takes FAR_DECLINE k ∧ s.dev.askValid k = true) :=
  ⟨⟨{ dev := rdy, pending := [] }, by decide +kernel⟩,
    ⟨{ dev := (rdy.put CAL_CTRL_AUTO_STORE 0), pending := [] }, by decide +kernel⟩,
    ⟨{ dev := (((rdy.put CAL_CTRL_AUTO_STORE 1).put CAL_STORE_STATUS_DIRTY 1).put CAL_CTRL_STORE_MIN 0), pending := [] }, by decide +kernel⟩,
    ⟨{ dev := (rdy.put CAL_STORE_STATUS_STATE 1), pending := [] }, by decide +kernel⟩,
    ⟨{ dev := (rdy.put CAL_STORE_STATUS_STATE 2), pending := [] }, by decide +kernel⟩,
    ⟨{ dev := ((rdy.put CAL_STORE_STATUS_STATE 3).onCal (fun u => { u with slot := 1 })), pending := [] }, by decide +kernel⟩,
    ⟨{ dev := (rdy.put CAL_STORE_STATUS_STATE 3), pending := [] }, by decide +kernel⟩,
    ⟨{ dev := (rdy |> fun d => { d with far := { d.far with logQueue := [{ sec := 1, record := 2, target := 3, result := 0, lifetime := 4 }] } }), pending := [] }, { sec := 1, record := 2, target := 3, result := 0, lifetime := 4 }, [], by decide +kernel⟩,
    ⟨{ dev := rdy, pending := [] }, [], by decide +kernel⟩,
    ⟨{ dev := (rdy.put (FAR_ASKk_VALID 3) 1), pending := [] }, 3, by decide +kernel⟩⟩

theorem witness_TestInstructions :
    (∃ (s : State), s.dev.tapLive = true ∧ s.dev.halted = false) ∧
    (∃ (s : State), s.dev.tapLive = true ∧ s.dev.halted = false) ∧
    (∃ (s : State), s.dev.tapLive = true ∧ s.dev.halted = false) ∧
    (∃ (s : State), s.dev.tapLive = true ∧ s.dev.halted = false) ∧
    (∃ (s : State), s.dev.tapLive = true ∧ s.dev.tapOpen = true ∧ s.dev.halted = false) ∧
    (∃ (s : State), s.dev.tapLive = true ∧ s.dev.tapOpen = false ∧ s.dev.halted = false) ∧
    (∃ (s : State), s.dev.tapLive = true ∧ s.dev.tapOpen = true ∧ s.dev.halted = false) ∧
    (∃ (s : State), s.dev.tapLive = true ∧ s.dev.tapOpen = true ∧ s.dev.halted = false) ∧
    (∃ (s : State), s.dev.tapLive = true ∧ s.dev.tapOpen = true ∧ s.dev.halted = false) ∧
    (∃ (s : State), s.dev.tapLive = true ∧ s.dev.tapOpen = true ∧ s.dev.halted = false) ∧
    (∃ (s : State), s.dev.tapLive = true ∧ s.dev.tapOpen = true ∧ s.dev.halted = false) ∧
    (∃ (s : State) (l : List Nat) (x : BitVec 28), s.dev.tap.ir = 0x20 ∧ s.dev.tap.running = true ∧ l = [0, 0, 0, 0] ∧ x = 0) ∧
    (∃ (s : State), s.dev.tapLive = true ∧ s.dev.halted = false) ∧
    (∃ (s : State) (g : Fin 4), s.live ∧ s.dev.tap.girth = some g.val ∧ g.val < 3) ∧
    (∃ (s : State), s.dev.halted = true) ∧
    (∃ (s : State), s.takes TEST_CTRL 1) :=
  ⟨⟨{ dev := rdy, pending := [] }, by decide +kernel⟩,
    ⟨{ dev := rdy, pending := [] }, by decide +kernel⟩,
    ⟨{ dev := rdy, pending := [] }, by decide +kernel⟩,
    ⟨{ dev := rdy, pending := [] }, by decide +kernel⟩,
    ⟨{ dev := rdy, pending := [] }, by decide +kernel⟩,
    ⟨{ dev := (rdy.put (PANELh_STATUS_STATE 0) 2), pending := [] }, by decide +kernel⟩,
    ⟨{ dev := rdy, pending := [] }, by decide +kernel⟩,
    ⟨{ dev := rdy, pending := [] }, by decide +kernel⟩,
    ⟨{ dev := rdy, pending := [] }, by decide +kernel⟩,
    ⟨{ dev := rdy, pending := [] }, by decide +kernel⟩,
    ⟨{ dev := rdy, pending := [] }, by decide +kernel⟩,
    ⟨{ dev := (rdy.onTap (fun u => { u with ir := 0x20, running := true })), pending := [] }, [0, 0, 0, 0], 0, by decide +kernel⟩,
    ⟨{ dev := rdy, pending := [] }, by decide +kernel⟩,
    ⟨{ dev := (rdy.onTap (fun u => { u with ir := 0x21, girth := some 1 })), pending := [] }, 1, by decide +kernel⟩,
    ⟨{ dev := (rdy.onTap (fun u => { u with ir := 3 })), pending := [] }, by decide +kernel⟩,
    ⟨{ dev := rdy, pending := [] }, by decide +kernel⟩⟩
end

section
/-! SUPPORT. Register writes by the host and what they leave in each field (chapter 00, R3 to R6): the merge of a write field by
field, the path of a host write that acts now, and the statements of the scope chapter that rest on them. -/
namespace Sys2Proof.Machine

/-! ### The merge of a write, field by field (R3) -/

/-- The bits that a write of `v` leaves in field `f` of a register that held `old`, by the access type (R3). -/
def FieldSpec.written (f : FieldSpec) (old v : Nat) : Nat :=
  match f.acc with
  | .ro => bitsOf old f.lo f.w
  | .rw => bitsOf v f.lo f.w
  | .rws => bitsOf v f.lo f.w
  | .w1c => Nat.land (bitsOf old f.lo f.w) (2 ^ f.w - 1 - bitsOf v f.lo f.w)
  | .wo => 0

/-- The word `a` with field `f` as a write of `v` over `old` leaves it; a read-only field is not touched. -/
def FieldSpec.mergeInto (old v a : Nat) (f : FieldSpec) : Nat :=
  if f.acc = .ro then a else putBits a f.lo f.w (f.written old v)

/-- Two fields share no bit. -/
abbrev FieldSpec.Apart (f g : FieldSpec) : Prop := f.lo + f.w ≤ g.lo ∨ g.lo + g.w ≤ f.lo

/-- The fields of a register lie within its 32 bits, and no two share a bit. -/
abbrev RegSpec.FieldsWf (p : RegSpec) : Prop := (∀ f ∈ p.fields, f.lo + f.w ≤ 32) ∧ p.fields.Pairwise FieldSpec.Apart

theorem merge_eq_foldl (p : RegSpec) (old v : Nat) : p.merge old v = p.fields.foldl (FieldSpec.mergeInto old v) old := by
  unfold RegSpec.merge
  congr 1
  funext a f
  cases h : f.acc <;> simp [FieldSpec.mergeInto, FieldSpec.written, h]

theorem written_lt (f : FieldSpec) (old v : Nat) : f.written old v < 2 ^ f.w := by
  unfold FieldSpec.written
  cases f.acc with
  | w1c => exact Nat.lt_of_le_of_lt Nat.and_le_left (bitsOf_lt _ _ _)
  | wo => exact Nat.pow_pos (by decide)
  | _ => exact bitsOf_lt _ _ _

/-- Merging one field leaves a field apart from it alone. -/
theorem bitsOf_mergeInto_apart {f g : FieldSpec} (old v a : Nat) (h : f.Apart g) :
    bitsOf (f.mergeInto old v a) g.lo g.w = bitsOf a g.lo g.w := by
  unfold FieldSpec.mergeInto
  split
  · rfl
  · exact bitsOf_putBits_other _ _ _ _ _ _ h

/-- Merging a field that still reads as before the write gives the bits that its access type leaves. -/
theorem bitsOf_mergeInto_same (f : FieldSpec) (old v a : Nat) (h : bitsOf a f.lo f.w = bitsOf old f.lo f.w) :
    bitsOf (f.mergeInto old v a) f.lo f.w = f.written old v := by
  unfold FieldSpec.mergeInto
  split
  · next hro => simp [FieldSpec.written, hro, h]
  · rw [bitsOf_putBits_same, Nat.mod_eq_of_lt (written_lt _ _ _)]

theorem bitsOf_foldl_mergeInto_apart (l : List FieldSpec) (g : FieldSpec) (old v a : Nat) (h : ∀ f ∈ l, f.Apart g) :
    bitsOf (l.foldl (FieldSpec.mergeInto old v) a) g.lo g.w = bitsOf a g.lo g.w := by
  induction l generalizing a with
  | nil => rfl
  | cons f l ih =>
    rw [List.forall_mem_cons] at h
    rw [List.foldl_cons, ih _ h.2, bitsOf_mergeInto_apart _ _ _ h.1]

theorem bitsOf_foldl_mergeInto_mem (l : List FieldSpec) (g : FieldSpec) (old v a : Nat) (hl : l.Pairwise FieldSpec.Apart) (hg : g ∈ l)
    (ha : bitsOf a g.lo g.w = bitsOf old g.lo g.w) :
    bitsOf (l.foldl (FieldSpec.mergeInto old v) a) g.lo g.w = g.written old v := by
  induction l generalizing a with
  | nil => cases hg
  | cons f l ih =>
    obtain ⟨hf, hl⟩ := List.pairwise_cons.1 hl
    rw [List.foldl_cons]
    rcases List.mem_cons.1 hg with rfl | hg
    · rw [bitsOf_foldl_mergeInto_apart _ _ _ _ _ fun f' hf' => (hf f' hf').symm, bitsOf_mergeInto_same _ _ _ _ ha]
    · exact ih _ hl hg ((bitsOf_mergeInto_apart _ _ _ (hf g hg)).trans ha)

/-- Every field of a merged word reads as its access type says. -/
theorem bitsOf_merge {p : RegSpec} (hp : p.FieldsWf) {f : FieldSpec} (hf : f ∈ p.fields) (old v : Nat) :
    bitsOf (p.merge old v) f.lo f.w = f.written old v := by
  rw [merge_eq_foldl]
  exact bitsOf_foldl_mergeInto_mem _ _ _ _ _ hp.2 hf rfl

/-! ### Registers of the FABRIC block -/

theorem regsFabric_fieldsWf : ∀ p ∈ regsFabric, p.FieldsWf := by decide

theorem blockRegs_fabric {r : Nat} (h1 : 0x10000 ≤ r) (h2 : r < 0x20000) : blockRegs r = regsFabric := by
  simp [blockRegs, h2, show ¬ r < 0x1000 by omega, show ¬ r < 0x2000 by omega, show ¬ r < 0x4000 by omega, show ¬ r < 0x6000 by omega,
    show ¬ r < 0x8000 by omega, show ¬ r < 0x10000 by omega]

theorem fieldsWf_of_specOf_fabric {r : Nat} {p : RegSpec} (hp : specOf r = some p) (h1 : 0x10000 ≤ r) (h2 : r < 0x20000) :
    p.FieldsWf := by
  unfold specOf at hp
  rw [blockRegs_fabric h1 h2] at hp
  exact regsFabric_fieldsWf p (List.mem_of_find?_eq_some hp)

/-- The registers that follow the heads' scanning are in the TOP block. -/
theorem notMem_modeRegs_of_le {r : Nat} (h : 0x1000 ≤ r) : r ∉ modeRegs := by
  have hb : ∀ x ∈ modeRegs, x < 0x1000 := by decide
  exact fun hr => absurd (hb r hr) (by omega)

/-! ### The path of a host write that acts now -/

/-- A whole-word write by the host that acts now has the effect of the register's block. -/
theorem exec_registerWrite_now (s : State) (r : Fin 1048576) (v : Word) (h : s.hostLive) :
    exec (.registerWrite r v true) s = .next { s with dev := settle (hostWrite false 0 r v.toNat s.dev) } := by
  obtain ⟨hh, hm, ha⟩ := h
  show s.on (registerWrite r v.toNat true) = _
  rw [on_live _ _ hh, registerWrite, if_pos rfl, pcie_now _ _ _ hm ha]

/-- A write of FAR_APPROVE by the host that acts now. -/
theorem exec_farApprove_now (s : State) (k : Fin 16) (h : s.hostLive) :
    exec (.farApprove k) s = .next { s with dev := settle (farApproveWrite k s.dev) } := by
  obtain ⟨hh, hm, ha⟩ := h
  show s.on (Dev.pcie (.reg FAR_APPROVE k) (farApproveWrite k)) = _
  rw [on_live _ _ hh, pcie_now _ _ _ hm ha]

theorem hostWrite_unsealed (seq : Bool) (pins r v : Nat) (d : Dev) (h : d.sealedHead r = none) :
    hostWrite seq pins r v d = blockWrite seq pins r v d := by simp [hostWrite, h]

theorem blockWrite_fabric (seq : Bool) (pins r v : Nat) (d : Dev) (h1 : 0x10000 ≤ r) (h2 : r < 0x20000) :
    blockWrite seq pins r v d = guardedWrite r v (Dev.fabricWriteOk r v) d := by
  simp [blockWrite, h2, show ¬ r < 0x4000 by omega, show ¬ r < 0x6000 by omega, show ¬ r < 0x8000 by omega,
    show ¬ r < 0x10000 by omega]

/-- A guarded write that passes stores the merge of the old word and the written one. -/
theorem guardedWrite_taken {r : Nat} {p : RegSpec} (v : Nat) (ok : Dev → Bool) (d : Dev) (hp : specOf r = some p)
    (hw : d.writeOk r v = true) (hok : ok d = true) : guardedWrite r v ok d = d.setWord r (p.merge (d.word r) v) := by
  rw [guardedWrite, writeVia_taken _ _ _ _ _ hw hok, id, Dev.writePlain, hp]

/-- Settles O56: a taken write of the FABRIC block is one store of the merged word, and the merge of fields that share no bit
leaves in each what its access type says. -/
theorem registerFieldAccessTypes : Obligations.RegisterFieldAccessTypes := by
  intro s r v p hp h1 h2 htakes hsealed hok
  have hmode : r.val ∉ modeRegs := notMem_modeRegs_of_le (by omega)
  have hwf : p.FieldsWf := fieldsWf_of_specOf_fabric hp h1 h2
  have hwrite : hostWrite false 0 r v.toNat s.dev = s.dev.setWord r (p.merge (s.dev.word r) v.toNat) := by
    rw [hostWrite_unsealed _ _ _ _ _ hsealed, blockWrite_fabric _ _ _ _ _ h1 h2, guardedWrite_taken _ _ _ hp htakes.2 hok]
  refine ⟨_, exec_registerWrite_now s r v htakes.1, rfl, ?_⟩
  dsimp only
  rw [hwrite]
  refine ⟨fun f hf => ?_, fun x hx hxr => ?_, ?_, fun a => ?_⟩
  · rw [word_settle _ _ hmode, word_setWord_same, bitsOf_mod _ _ _ _ (hwf.1 f hf)]
    exact bitsOf_merge hwf hf _ _
  · rw [word_settle _ _ hx, word_setWord_other _ _ _ _ (by simpa [eq_comm] using hxr)]
  · rw [settle_applied, setWord_applied]
  · rw [settle_byteAt, setWord_byteAt]

/-! ### A request that an engine number past SE27 brings back -/

/-- READY, with head 0 stopped and a request for its engine SE0 in FAR_ASK1. Head 0's chain also names engine 0x6C00, whose
SEk_STRIPE would lie at the offset of FAR_ASK1. R48 numbers engines 0 to 27, so no image gives such a chain, but `Dev` as plain data
holds it. -/
def strayEngine : Dev :=
  let regs := (((rdy.put (FAR_ASKk_VALID 1) 1).put (SEk_STATUS_STATE 0) 1).put (SEk_STATUS_HEAD 0) 0).put (SEk_STATUS_STATE 1) 2
  let chain : List StageEntry := [⟨1, [0, 0x6C00], false, 0, 0, 0⟩, ⟨5, [], false, 0, 0, 0⟩]
  { regs.onHead 0 (fun u => { u with sect := { u.sect with chain := chain } }) with applied := [(STh_SCALE_IN_SIZE 0, 0xFFFF0000#32)] }

theorem strayEngine_takes : ({ pending := [], dev := strayEngine } : State).takes FAR_APPROVE 1 := by decide +kernel

theorem strayEngine_asks_engine : strayEngine.askValid 1 = true ∧ (strayEngine.askRequest 1).cls ≠ 4 := by decide +kernel

/-- The approved substitution gives the stray engine its stripe from column 32,768 on, which sets bit 31, VALID, of FAR_ASK1. -/
theorem strayEngine_approved_asks : (settle (farApproveWrite 1 strayEngine)).askValid 1 = true := by decide +kernel

/-- Refutes O35: its last clause says that an approved entry is no longer valid in any state. The substitution that the approval
starts at once writes SEk_STRIPE for every engine of the head's chain, and nothing in the clause's hypotheses keeps the chain's
engine numbers below 28: in `strayEngine` that write lands on FAR_ASK1. -/
theorem not_registerAccess : ¬ Obligations.RegisterAccess := by
  unfold Obligations.RegisterAccess
  rintro ⟨-, -, -, -, -, -, -, happrove⟩
  obtain ⟨hvalid, hcls⟩ := strayEngine_asks_engine
  obtain ⟨t, ht, -, -, hcleared⟩ := happrove { pending := [], dev := strayEngine } 1 strayEngine_takes hvalid hcls
  rw [exec_farApprove_now _ _ strayEngine_takes.1] at ht
  cases ht
  exact absurd (hcleared.symm.trans strayEngine_approved_asks) (by decide)

/-! ### A write that counts as judged -/

/-- A write of an unassigned offset that counts as judged by the verification (R46) is not checked again, and stores nothing. -/
theorem plainWrite_judged_unassigned {r : Nat} (v : Nat) (d : Dev) (hj : d.judged = true) (hr : specOf r = none) :
    plainWrite r v d = d := by simp [plainWrite, Dev.writeVia, hj, Dev.writePlain, hr]

/-- A host write to the last word of the register space, which is unassigned, is plain. -/
theorem hostWrite_lastWord (v : Nat) (d : Dev) : hostWrite false 0 0xFFFFC v d = plainWrite 0xFFFFC v d := by
  rw [hostWrite_unsealed _ _ _ _ _ (by simp [Dev.sealedHead, headOf])]
  simp [blockWrite, powerTestWrite, POWER_RUNG_CTRL, POWER_SHED_REENABLE, POWER_EVT_ENABLE, TEST_CTRL]

/-- READY, in the middle of a record of DEFAULT_TABLES: a state between commands never is, but `Dev` as plain data can be. -/
def judgedReady : Dev := { rdy with judged := true }

/-- Refutes O57: its second clause does not ask that `judged` is false. In `judgedReady` the write of an unassigned offset is let
pass as one already checked (R46), so it is not counted. -/
theorem not_unassignedOffset : ¬ Obligations.UnassignedOffset := by
  intro h
  have hlive : ({ pending := [], dev := judgedReady } : State).hostLive := by decide +kernel
  have hspec : specOf 0xFFFFC = none := by decide +kernel
  obtain ⟨-, t, ht, -, hcount, -⟩ := h { pending := [], dev := judgedReady } 0xFFFFC 0 hlive hlive.2.1 hspec
  rw [exec_registerWrite_now _ _ _ hlive] at ht
  cases ht
  have hsame : hostWrite false 0 0xFFFFC 0 judgedReady = judgedReady :=
    (hostWrite_lastWord 0 _).trans (plainWrite_judged_unassigned 0 _ rfl hspec)
  have hcounted : (settle judgedReady).get TOP_REJECT_COUNT_V = min (judgedReady.get TOP_REJECT_COUNT_V + 1) (2 ^ 32 - 1) :=
    (congrArg (fun d => (settle d).get TOP_REJECT_COUNT_V) hsame).symm.trans hcount
  exact absurd hcounted (by decide +kernel)

end Sys2Proof.Machine
end

section
/-! SUPPORT. What following the heads' scanning reaches (R17, R19): afterwards the mode agrees with the heads, so every step keeps the
agreement; and the state right after reset. -/
namespace Sys2Proof.Machine

/-! ### The mode as a field -/

theorem mode_lt (d : Dev) : d.mode < 8 := get_lt d TOP_STATUS_MODE

/-- A field of a register that no mode change touches. -/
theorem get_setMode (m : Nat) (f : Fld) (d : Dev) (h1 : TOP_MODE_TIME_Sk d.mode ≠ f.addr) (h2 : TOP_STATUS ≠ f.addr)
    (h3 : TOP_MODE_COUNTk m ≠ f.addr) : (Dev.setMode m d).get f = d.get f := by
  rw [Dev.get, word_setMode d m f.addr h1 h2 h3]
  rfl

/-- The mode entered is the one named. -/
theorem mode_setMode (m : Nat) (d : Dev) (h : m < 8) : (Dev.setMode m d).mode = m := by
  unfold Dev.setMode
  split
  · next hm => exact hm
  · rw [Dev.mode, Dev.inc, Dev.addSat, get_put_other _ _ _ _ (.inl (by simp [TOP_MODE_COUNTk_V, TOP_MODE_COUNTk, TOP_STATUS_MODE, TOP_STATUS])) (by decide),
      Dev.putB, get_put_other _ _ _ _ (.inr (.inl (by decide))) (by decide), get_put_same _ _ _ (by decide)]
    exact Nat.mod_eq_of_lt h

/-! ### Scanning heads -/

/-- Whether a head scans rests on its state code and on its entry in the running structure alone (R17, R82). -/
theorem scans_congr {d e : Dev} {h : Nat} (hs : e.word (HDn_STATUS h) = d.word (HDn_STATUS h))
    (ht : e.word (TACK_HEADn h) = d.word (TACK_HEADn h)) : e.scans h = d.scans h := by
  have hstate : e.headState h = d.headState h := by simp only [Dev.headState, Dev.get, HDn_STATUS_STATE, hs]
  have hpresent : e.headPresent h = d.headPresent h := by simp only [Dev.headPresent, Dev.flag, Dev.get, TACK_HEADn_PRESENT, ht]
  have hclass : e.flag (TACK_HEADn_CLASS h) = d.flag (TACK_HEADn_CLASS h) := by simp only [Dev.flag, Dev.get, TACK_HEADn_CLASS, ht]
  rw [Dev.scans, Dev.scans, Dev.isMip, Dev.isMip, Dev.isRaster, Dev.isRaster, hstate, hpresent, hclass]

theorem anyScans_congr {d e : Dev} (hs : ∀ h, h < 8 → e.word (HDn_STATUS h) = d.word (HDn_STATUS h))
    (ht : ∀ h, h < 8 → e.word (TACK_HEADn h) = d.word (TACK_HEADn h)) : e.anyScans = d.anyScans := by
  unfold Dev.anyScans anyBelow
  rw [Bool.eq_iff_iff, List.any_eq_true, List.any_eq_true]
  refine exists_congr fun h => and_congr_right fun hm => ?_
  rw [scans_congr (hs h (List.mem_range.1 hm)) (ht h (List.mem_range.1 hm))]

/-- A mode change leaves the heads' scanning alone. -/
theorem anyScans_setMode (m : Nat) (d : Dev) (h : m < 8) : (Dev.setMode m d).anyScans = d.anyScans := by
  have hm := mode_lt d
  refine anyScans_congr (fun k _ => word_setMode d m _ ?_ ?_ ?_) (fun k _ => word_setMode d m _ ?_ ?_ ?_) <;>
    simp only [TOP_MODE_TIME_Sk, TOP_STATUS, TOP_MODE_COUNTk, HDn_STATUS, TACK_HEADn] <;> omega

/-- R19: once the mode has followed the heads, it agrees with them. -/
theorem modeAgrees_settle (d : Dev) : (settle d).modeAgrees := by
  unfold settle
  split
  · next h => 
    constructor
    · simp [mode_setMode]
    · intro _; rw [anyScans_setMode 4 d (by decide)]; exact h.2
  · next h1 =>
    split
    · next h2 =>
      constructor
      · intro _; rw [anyScans_setMode 3 d (by decide)]; exact h2.2
      · simp [mode_setMode]
    · next h2 => exact ⟨fun h => by simpa [h] using h1, fun h => by simpa [h] using h2⟩

/-- Where the mode agrees with the heads, following them changes nothing. -/
theorem settle_of_modeAgrees {d : Dev} (h : d.modeAgrees) : settle d = d := by
  unfold settle
  rw [if_neg (fun hc => by simp [h.1 hc.1] at hc), if_neg (fun hc => by simp [h.2 hc.1] at hc)]

/-- In a mode other than READY and RUN, following the heads changes nothing. -/
theorem settle_of_mode {d : Dev} (h3 : d.mode ≠ 3) (h4 : d.mode ≠ 4) : settle d = d :=
  settle_of_modeAgrees ⟨fun h => absurd h h3, fun h => absurd h h4⟩

/-! ### A step as a whole -/

theorem always_modeAgrees {s t : State} {f : Dev → Dev} (h : s.always f = .next t) : t.dev.modeAgrees := by
  rw [always_next] at h
  cases h
  exact modeAgrees_settle _

/-- A halted command leaves the block as it was; any other ends with the mode following the heads. -/
theorem on_modeAgrees {s t : State} {f : Dev → Dev} (hs : s.dev.modeAgrees) (h : s.on f = .next t) : t.dev.modeAgrees := by
  unfold State.on at h
  split at h
  · cases h; exact hs
  · exact always_modeAgrees h

theorem exec_modeAgrees {c : Instr} {s t : State} (hs : s.dev.modeAgrees) (h : exec c s = .next t) : t.dev.modeAgrees := by
  obtain ⟨f, hf⟩ := exec_shape c
  rw [hf] at h
  split at h
  · exact always_modeAgrees h
  · exact on_modeAgrees hs h

/-- Settles O53: whatever the step takes, a command or a tick of the clock, the mode follows the heads at its end. -/
theorem modeFollowsHeads : Obligations.ModeFollowsHeads := by
  intro s t hs h
  unfold step at h
  split at h
  · next c rest _ => exact exec_modeAgrees (s := { s with pending := rest }) hs h
  · exact on_modeAgrees hs h

/-! ### The state right after reset -/

/-- With nothing stored, a register holds its reset word. -/
theorem word_of_regs_nil {d : Dev} (h : d.regs = []) (r : Nat) : d.word r = (resetWord r).toNat := by
  simp [Dev.word, Dev.wordBv, h, cellFind]

theorem resetWord_topStatus : resetWord TOP_STATUS = 0x20000000#32 := by decide +kernel

/-- A block whose TOP_STATUS holds its reset word is in INIT (R16). -/
theorem mode_of_topStatus {d : Dev} (h : d.word TOP_STATUS = (resetWord TOP_STATUS).toNat) : d.mode = 1 := by
  simp only [Dev.mode, Dev.get, TOP_STATUS_MODE, h, resetWord_topStatus]
  decide

/-- Settles O52. -/
theorem resetState : Obligations.ResetState := by
  have hmode : State.reset.dev.mode = 1 := mode_of_topStatus (word_of_regs_nil rfl _)
  exact ⟨rfl, hmode, fun r => word_of_regs_nil rfl r, reset_mem_wf.1, reset_mem_wf.2, fun _ => rfl,
    fun h => by simp [hmode] at h, fun h => by simp [hmode] at h⟩

end Sys2Proof.Machine
end

section
/-! SUPPORT. What a command that completes leaves, and the statements of the architecture chapter that a concrete block refutes. -/
namespace Sys2Proof.Machine

/-! ### From a command to its effect on the block -/

/-- A guarded command of a live block completes with its effect, after which the mode follows the heads. -/
theorem completes_on {c : Instr} {s : State} {f : Dev → Dev} {P : Dev → Prop} (hc : exec c s = s.on f) (hs : s.dev.halted = false)
    (hP : P (settle (f s.dev))) : Completes c s P := ⟨_, hc.trans (on_live s f hs), rfl, hP⟩

/-- So does an unguarded command of any block. -/
theorem completes_always {c : Instr} {s : State} {f : Dev → Dev} {P : Dev → Prop} (hc : exec c s = s.always f)
    (hP : P (settle (f s.dev))) : Completes c s P := ⟨_, hc, rfl, hP⟩

/-- What a guarded command of a live block completes with is its effect. -/
theorem Completes.effect {c : Instr} {s : State} {f : Dev → Dev} {P : Dev → Prop} (h : Completes c s P) (hc : exec c s = s.on f)
    (hs : s.dev.halted = false) : P (settle (f s.dev)) := by
  obtain ⟨t, ht, -, hP⟩ := h
  rw [hc, on_live s f hs] at ht
  cases ht
  exact hP

/-! ### A second request in RETACK that counts as judged -/

/-- RETACK, in the middle of a record of DEFAULT_TABLES: a state between commands never is, but `Dev` as plain data can be. -/
def judgedRetack : Dev := { ({} : Dev).put TOP_STATUS_MODE 5 with judged := true }

theorem judgedRetack_hostLive : ({ pending := [], dev := judgedRetack } : State).hostLive ∧ judgedRetack.mode = 5 := by decide +kernel

/-- The write counts as checked (R46), so the re-tack starts and nothing is counted as rejected. -/
theorem judgedRetack_start_uncounted :
    (settle (Dev.pcie (.reg TACK_RT_CONTROL 256) (rtControlWrite 256) judgedRetack)).get TOP_REJECT_COUNT_V = 0 := by decide +kernel

/-- Refutes O59: it does not ask that `judged` is false. In `judgedRetack` a second request is let pass as a write already checked (R46),
so it is not counted. -/
theorem not_secondRetackRejected : ¬ Obligations.SecondRetackRejected := by
  intro h
  obtain ⟨hlive, hmode⟩ := judgedRetack_hostLive
  obtain ⟨hstart, -⟩ := h { pending := [], dev := judgedRetack } hlive hmode
  obtain ⟨-, hcount, -⟩ := (hstart 0).effect rfl hlive.1
  exact absurd (judgedRetack_start_uncounted.symm.trans hcount) (by decide +kernel)

/-! ### A set sealed too late for a commit point -/

/-- READY with raster head 0 in SCAN at its commit point, its shadow set sealed. -/
def sealedAtCommit : Dev :=
  ((((rdy.put (TACK_HEADn_PRESENT 0) 1).put (HDn_STATUS_STATE 0) 1).put (HDn_POSITION_LINE 0) 63).put (HDn_SHADOW_STATE_V 0) 1).onHead 0
    (fun u => { u with inFrame := true, lineBegun := true })

theorem sealedAtCommit_atCommit :
    sealedAtCommit.halted = false ∧ sealedAtCommit.isMip 0 = false ∧ sealedAtCommit.atCommit 0 = true := by decide +kernel

/-- Sealed less than 8 SCLK before the commit point, the set waits for the next one (R265). -/
theorem sealedAtCommit_late_staysSealed : (settle (commitPoint 0 false sealedAtCommit)).get (HDn_SHADOW_STATE_V 0) = 1 := by decide +kernel

/-- Refutes O18: the clause of a raster head's commit point says that no set is sealed after it, whether or not the seal came in time. By
R265 a set sealed later than 8 SCLK before the commit point waits for the next one, and so it does in `sealedAtCommit`. -/
theorem not_headCommitRunStop : ¬ Obligations.HeadCommitRunStop := by
  unfold Obligations.HeadCommitRunStop
  rintro ⟨-, -, -, -, -, -, hcommit, -⟩
  obtain ⟨hlive, hmip, hat⟩ := sealedAtCommit_atCommit
  obtain ⟨-, hopen⟩ := (hcommit { pending := [], dev := sealedAtCommit } 0 false hlive hmip hat).effect rfl hlive
  exact absurd (sealedAtCommit_late_staysSealed.symm.trans hopen) (by decide)

/-! ### A lockstep restart that ends a re-tack, where an engine number lies past SE27 -/

/-- READY with a re-tack of head 0 in COPY and a released substitution of its engine SE0. Head 0's chain also names engine 0x6BF2, whose
SEk_STATUS would lie at the offset of FAR_LOCKSTEP. R48 numbers engines 0 to 27, so no image gives such a chain, but `Dev` as plain
data holds it. -/
def strayLockstep : Dev :=
  let regs := (((rdy.put TACK_RT_STATUS_STATE 1).put (SEk_STATUS_STATE 0) 1).put (SEk_STATUS_HEAD 0) 0).put (SEk_STATUS_STATE 1) 2
  let chain : List StageEntry := [⟨1, [0, 0x6BF2], false, 0, 0, 0⟩]
  { regs.onHead 0 (fun u => { u with sect := { u.sect with chain := chain } }) with far := { queue := [⟨0, 1, 0⟩] } }

theorem strayLockstep_fits : strayLockstep.halted = false ∧ strayLockstep.mode ≠ 0 ∧ strayLockstep.far.restarts = [] := by decide +kernel

/-- The abandoned re-tack lets the substitution begin, which gives the stray engine its role and with it FAR_LOCKSTEP another count. -/
theorem strayLockstep_count : (settle (lockstepMismatch 0 none strayLockstep)).get FAR_LOCKSTEP_COUNT = 4118 := by decide +kernel

/-- Refutes O3: the clause of a lockstep mismatch says that FAR_LOCKSTEP_COUNT goes up by one in any state. The restart abandons a re-tack,
after which a substitution that it deferred takes place and writes SEk_STATUS for every engine of the head's chain; nothing in the
clause's hypotheses keeps the chain's engine numbers below 28, and in `strayLockstep` that write lands on FAR_LOCKSTEP. -/
theorem not_fatalCauses : ¬ Obligations.FatalCauses := by
  unfold Obligations.FatalCauses
  rintro ⟨-, -, -, -, -, -, -, hmismatch, -⟩
  obtain ⟨hlive, hmode, hrestarts⟩ := strayLockstep_fits
  obtain ⟨-, hcount, -⟩ := (hmismatch { pending := [], dev := strayLockstep } 0 hlive hmode hrestarts).effect rfl hlive
  exact absurd (strayLockstep_count.symm.trans hcount) (by decide +kernel)

end Sys2Proof.Machine
end

section
/-! SUPPORT. What the reset of the PCI Express endpoint leaves alone (R27, R396). -/
namespace Sys2Proof.Machine

/-! ### Folds and single registers -/

/-- What every step of a fold leaves alone, the fold leaves alone. -/
theorem foldS_congr {σ α : Type} (g : σ → α) (l : List Nat) (f : Nat → σ → σ) (s : σ) (h : ∀ k ∈ l, ∀ e, g (f k e) = g e) :
    g (foldS l f s) = g s := by
  unfold foldS
  induction l generalizing s with
  | nil => rfl
  | cons k r ih => rw [List.foldl_cons, ih _ fun k' hk' => h k' (List.mem_cons_of_mem _ hk'), h k List.mem_cons_self]

theorem word_resetReg_other (d : Dev) (a r : Nat) (h : a ≠ r) : (d.resetReg a).word r = d.word r := by
  simp [Dev.word, Dev.wordBv, Dev.resetReg, cellFind_cellDel, h]

/-- Two blocks whose register of a field holds the same word read the same field. -/
theorem get_congr {d e : Dev} {f : Fld} (h : e.word f.addr = d.word f.addr) : e.get f = d.get f := by rw [Dev.get, Dev.get, h]

/-! ### The endpoint's reset -/

/-- The DMA channels' registers at their reset words (R396). -/
def Dev.dmaReset (d : Dev) : Dev := foldS (List.range 8) (fun c s => foldS (List.range 10) (fun k t => t.resetReg (DMAc_CTRL c + 4 * k)) s) d

/-- A register outside the ten of each DMA channel keeps its word. -/
theorem word_dmaReset (d : Dev) (r : Nat) (h : r < 0x60100 ∨ 0x60300 ≤ r) : d.dmaReset.word r = d.word r := by
  refine foldS_congr (fun s => Dev.word s r) _ _ _ fun c hc s => foldS_congr (fun s => Dev.word s r) _ _ _ fun k hk t => ?_
  rw [List.mem_range] at hc hk
  exact word_resetReg_other _ _ _ (by simp only [DMAc_CTRL]; omega)

/-- Resetting registers changes no other part of the block. -/
theorem dmaReset_congr {α : Type} (g : Dev → α) (h : ∀ (d : Dev) a, g (d.resetReg a) = g d) (d : Dev) : g d.dmaReset = g d :=
  foldS_congr g _ _ _ fun _ _ _ => foldS_congr g _ _ _ fun _ _ t => h t _

theorem endpointReset_eq (d : Dev) : d.endpointReset =
    let e := (d.dmaReset.setWord HOST_STATUS 0).onPower (fun u => { u with dmaGo := [], held := [] })
    { e with evt := { e.evt with vecs := List.replicate 64 {}, cfg := [] } } := rfl

/-- A register that is neither a DMA channel's nor HOST_STATUS keeps its word. -/
theorem word_endpointReset (d : Dev) (r : Nat) (h : r < 0x60100 ∨ 0x60300 ≤ r) (hs : r ≠ HOST_STATUS) : d.endpointReset.word r = d.word r := by
  have hw : d.endpointReset.word r = (d.dmaReset.setWord HOST_STATUS 0).word r := rfl
  rw [hw, word_setWord_other _ _ _ _ (Ne.symm hs), word_dmaReset d r h]

theorem word_endpointReset_hostStatus (d : Dev) : d.endpointReset.word HOST_STATUS = 0 := by
  have hw : d.endpointReset.word HOST_STATUS = (d.dmaReset.setWord HOST_STATUS 0).word HOST_STATUS := rfl
  rw [hw, word_setWord_same, Nat.zero_mod]

/-- A part of the block that is neither registers, power nor events keeps what it holds. -/
theorem endpointReset_congr {α : Type} (g : Dev → α) (d : Dev) (hr : ∀ (d : Dev) a, g (d.resetReg a) = g d)
    (hw : ∀ (d : Dev) r v, g (d.setWord r v) = g d) (hp : ∀ (d : Dev) p e, g { d with power := p, evt := e } = g d) :
    g d.endpointReset = g d := by
  rw [endpointReset_eq]
  exact (hp (d.dmaReset.setWord HOST_STATUS 0) _ _).trans ((hw _ _ _).trans (dmaReset_congr g hr d))

/-! ### The loss of PE_REFCLK -/

/-- The effect is the reference's bit, the endpoint's reset and the count of link-downs. -/
theorem peRefclkLost_eq (d : Dev) : peRefclkLost d =
    ((d.put TOP_REFCLK_STATUS_V (putBits (d.get TOP_REFCLK_STATUS_V) 2 1 0)).endpointReset).inc (HOST_ERR_COUNTk_V 9) := rfl

theorem word_peRefclkLost (d : Dev) (r : Nat) (h : r < 0x60100 ∨ 0x60300 ≤ r) (hs : r ≠ HOST_STATUS) (hc : r ≠ HOST_ERR_COUNTk 9)
    (ht : r ≠ TOP_REFCLK_STATUS) : (peRefclkLost d).word r = d.word r := by
  rw [peRefclkLost_eq, Dev.inc, Dev.addSat, word_put_other _ _ _ _ (Ne.symm hc), word_endpointReset _ _ h hs, word_put_other _ _ _ _ (Ne.symm ht)]

theorem peRefclkLost_linkUp (d : Dev) : (peRefclkLost d).get HOST_STATUS_LINK_UP = 0 := by
  rw [peRefclkLost_eq, Dev.inc, Dev.addSat, get_put_other _ _ _ _ (.inl (by decide)) (by decide), Dev.get, HOST_STATUS_LINK_UP, word_endpointReset_hostStatus]
  decide

/-- A part of the block that is neither registers, power nor events keeps what it holds. -/
theorem peRefclkLost_congr {α : Type} (g : Dev → α) (d : Dev) (hr : ∀ (d : Dev) a, g (d.resetReg a) = g d)
    (hw : ∀ (d : Dev) r v, g (d.setWord r v) = g d) (hp : ∀ (d : Dev) p e, g { d with power := p, evt := e } = g d) :
    g (peRefclkLost d) = g d := by
  rw [peRefclkLost_eq]
  exact (hw _ _ _).trans ((endpointReset_congr g _ hr hw hp).trans (hw _ _ _))

/-- The mode, and with it its agreement with the heads, is as before. -/
theorem peRefclkLost_modeAgrees {d : Dev} (h : d.modeAgrees) : (peRefclkLost d).modeAgrees := by
  have hlow : ∀ r, r < 0x30000 → r ≠ TOP_REFCLK_STATUS → (peRefclkLost d).word r = d.word r := fun r hr ht =>
    word_peRefclkLost d r (.inl (by omega)) (by simp only [HOST_STATUS]; omega) (by simp only [HOST_ERR_COUNTk]; omega) ht
  have hmode : (peRefclkLost d).mode = d.mode := get_congr (hlow _ (by decide) (by decide))
  have hscans : (peRefclkLost d).anyScans = d.anyScans := anyScans_congr
    (fun k hk => hlow _ (by simp only [HDn_STATUS]; omega) (by simp only [HDn_STATUS, TOP_REFCLK_STATUS]; omega))
    (fun k hk => hlow _ (by simp only [TACK_HEADn]; omega) (by simp only [TACK_HEADn, TOP_REFCLK_STATUS]; omega))
  unfold Dev.modeAgrees
  rw [hmode, hscans]
  exact h

/-- Settles O60: the loss resets the endpoint and nothing else, and the mode already agrees with the heads. -/
theorem peRefclkLossTakesPcieOnly : Obligations.PeRefclkLossTakesPcieOnly := by
  intro s hlive hagrees
  refine completes_on (f := peRefclkLost) rfl hlive ?_
  rw [settle_of_modeAgrees (peRefclkLost_modeAgrees hagrees)]
  have hword : ∀ r, r < 0x60000 ∨ 0x68000 ≤ r → r ≠ TOP_REFCLK_STATUS → (peRefclkLost s.dev).word r = s.dev.word r := fun r hr ht =>
    word_peRefclkLost _ r (by omega) (by simp only [HOST_STATUS]; omega) (by simp only [HOST_ERR_COUNTk]; omega) ht
  have hmode : (peRefclkLost s.dev).mode = s.dev.mode := get_congr (hword _ (by decide) (by decide))
  have hspi : (peRefclkLost s.dev).get SPI_CTRL_V = s.dev.get SPI_CTRL_V :=
    get_congr (word_peRefclkLost _ _ (by decide) (by decide) (by decide) (by decide))
  have hpart {α : Type} (g : Dev → α) := peRefclkLost_congr g s.dev
  refine ⟨peRefclkLost_linkUp _, hmode, ?_, ?_, hword, ?_, ?_, ?_, ?_, ?_, ?_, ?_⟩
  · simp only [Dev.spiOn, Dev.flag, hmode, hspi]
  · have hrung : (peRefclkLost s.dev).about 3 = s.dev.about 3 := by
      have hfield (f : Fld) (hf : f.addr = POWER_RUNG_STATUS) : (peRefclkLost s.dev).get f = s.dev.get f :=
        get_congr (hword _ (by rw [hf]; decide) (by rw [hf]; decide))
      simp only [Dev.about, Dev.rung, hfield POWER_RUNG_STATUS_STATE rfl, hfield POWER_RUNG_STATUS_TARGET rfl,
        hfield POWER_RUNG_STATUS_LAST_FROM rfl]
    simp only [Dev.islandOnly, hmode, hrung]
  all_goals exact hpart _ (fun _ _ => rfl) (fun _ _ _ => by simp) (fun _ _ _ => rfl)

end Sys2Proof.Machine
end

section
/-! SUPPORT. Entering INIT (R28, R514 to R523): what a reset keeps and sets, and the end of the start-up steps. -/
namespace Sys2Proof.Machine

/-! ### Plain writes, power and filtered cells -/

/-- A part of the block that no register store touches, a plain write does not touch. -/
theorem writePlain_congr {α : Type} (g : Dev → α) (h : ∀ (d : Dev) r v, g (d.setWord r v) = g d) (d : Dev) (r v : Nat) :
    g (d.writePlain r v) = g d := by
  unfold Dev.writePlain
  split
  · exact h _ _ _
  · rfl

/-- Following the heads changes only the instant of the last mode change in the power unit. -/
theorem settle_power (d : Dev) : ∃ t, (settle d).power = { d.power with modeAt := t } := by
  have hset (m : Nat) : ∃ t, (Dev.setMode m d).power = { d.power with modeAt := t } := by
    unfold Dev.setMode
    split
    · exact ⟨_, rfl⟩
    · rw [inc_power, putB_power, put_power, Dev.modeTimed, Dev.onPower, addSat_power]
      exact ⟨_, rfl⟩
  rcases settle_cases d with e | ⟨-, e⟩ | ⟨-, e⟩ <;> rw [e]
  · exact ⟨_, rfl⟩
  · exact hset 4
  · exact hset 3

/-- A lookup among the entries whose keys are kept. -/
theorem cellFind_filter_key {β : Type} (l : List (Nat × β)) (p : Nat → Bool) (a : Nat) :
    cellFind (l.filter fun c => p c.1) a = if p a then cellFind l a else none := by
  induction l with
  | nil => simp [cellFind]
  | cons c l ih =>
    obtain ⟨x, y⟩ := c
    by_cases hx : p x = true
    · by_cases hxa : x = a
      · subst hxa; simp [hx, cellFind]
      · simp [hx, cellFind, hxa, ih]
    · by_cases hxa : x = a
      · subst hxa; simp [hx, ih]
      · simp [hx, cellFind, hxa, ih]

/-! ### What an entry to INIT keeps -/

/-- The block with what a reset of source `last` does not keep at its reset value. -/
def Dev.initBase (last : Nat) (d : Dev) : Dev :=
  let base : Dev := { hostMem := d.hostMem, flash := d.flash, sent := d.sent, fresh := d.fresh }
  if last = 1 then base else { base with
    regs := d.regs.filter (fun c => keptReg (last == 5) c.1), applied := d.applied.filter (fun c => isPorOnly c.1),
    time := d.time, halt := d.halt, tap := d.tap, pins := { lastVolts := d.pins.lastVolts },
    evt := { flog := d.evt.flog, vecs := if last = 5 then d.evt.vecs else List.replicate 64 {} } }

/-- The fuses and the cause of a reset in their registers, and the instants that the power unit takes at it. -/
def Dev.initMarks (last : Nat) (held : Bool) (d : Dev) : Dev :=
  let e := ((((d.initBase last).setWord TACK_KEY d.fuses.1).setWord TACK_ROLLBACK d.fuses.2).put TOP_RESET_CAUSE_LAST last).putB
    TOP_RESET_CAUSE_HELD held
  let now := (e.tb 3).total
  e.onPower (fun u => { u with
    initAt := now, stepAt := now, rungAt := now, modeAt := now, islandRc := d.power.islandRc, perstLow := d.power.perstLow,
    refs := d.power.refs })

theorem initEnter_por (held : Bool) (d : Dev) :
    d.initEnter 1 held = ((d.initMarks 1 held).put (TOP_RESET_COUNTk_V 1) 1).put TOP_BOOT_COUNT_V 1 := rfl

theorem initEnter_notPor {last : Nat} (held : Bool) (d : Dev) (h : last ≠ 1) :
    d.initEnter last held = (((d.initMarks last held).put TOP_STATUS_INIT_STEP 1).inc (TOP_RESET_COUNTk_V last)).inc TOP_BOOT_COUNT_V := by
  simp [Dev.initEnter, Dev.initMarks, Dev.initBase, h]

theorem isPorOnly_topStatus : isPorOnly TOP_STATUS = false := by decide +kernel

/-- TOP_STATUS is not among the registers that a reset keeps. -/
theorem word_initBase_topStatus (last : Nat) (d : Dev) : (d.initBase last).word TOP_STATUS = (resetWord TOP_STATUS).toNat := by
  unfold Dev.initBase
  split
  · exact word_of_regs_nil rfl _
  · have hkept : keptReg (last == 5) TOP_STATUS = false := by
      rw [keptReg, isPorOnly_topStatus, show (TOP_STATUS == HOST_STATUS) = false from rfl, Bool.and_false, Bool.or_false]
    simp [Dev.word, Dev.wordBv, cellFind_filter_key, hkept]

theorem word_initMarks_topStatus (last : Nat) (held : Bool) (d : Dev) :
    (d.initMarks last held).word TOP_STATUS = (resetWord TOP_STATUS).toNat := by
  simp only [Dev.initMarks, onPower_word, Dev.putB]
  rw [word_put_other _ _ _ _ (by decide), word_put_other _ _ _ _ (by decide), word_setWord_other _ _ _ _ (by decide),
    word_setWord_other _ _ _ _ (by decide), word_initBase_topStatus]

theorem initMarks_cause (last : Nat) (held : Bool) (d : Dev) (h : last < 16) : (d.initMarks last held).get TOP_RESET_CAUSE_LAST = last := by
  simp only [Dev.initMarks, onPower_get, Dev.putB]
  rw [get_put_other _ _ _ _ (.inr (.inl (by decide))) (by decide), get_put_same _ _ _ (by decide)]
  exact Nat.mod_eq_of_lt h

/-- Every entry to INIT leaves the mode INIT (R16). -/
theorem initEnter_mode (last : Nat) (held : Bool) (d : Dev) : (d.initEnter last held).mode = 1 := by
  by_cases h : last = 1
  · subst h
    rw [initEnter_por]
    apply mode_of_topStatus
    rw [word_put_other _ _ _ _ (by decide), word_put_other _ _ _ _ (by decide), word_initMarks_topStatus]
  · rw [initEnter_notPor held d h, Dev.mode, Dev.inc, Dev.addSat, Dev.inc, Dev.addSat, get_put_other _ _ _ _ (.inl (by decide)) (by decide),
      get_put_other _ _ _ _ (.inl (by simp [TOP_RESET_COUNTk_V, TOP_RESET_COUNTk, TOP_STATUS_MODE, TOP_STATUS])) (by decide),
      get_put_other _ _ _ _ (.inr (.inl (by decide))) (by decide)]
    exact mode_of_topStatus (word_initMarks_topStatus _ _ _)

/-- The cause of the reset (R29). -/
theorem initEnter_cause (last : Nat) (held : Bool) (d : Dev) (h : last < 16) : (d.initEnter last held).get TOP_RESET_CAUSE_LAST = last := by
  have hcount (k : Nat) : (TOP_RESET_COUNTk_V k).addr ≠ TOP_RESET_CAUSE_LAST.addr := by
    simp [TOP_RESET_COUNTk_V, TOP_RESET_COUNTk, TOP_RESET_CAUSE_LAST, TOP_RESET_CAUSE]; omega
  by_cases h1 : last = 1
  · subst h1
    rw [initEnter_por, get_put_other _ _ _ _ (.inl (by decide)) (by decide), get_put_other _ _ _ _ (.inl (hcount 1)) (by decide),
      initMarks_cause _ _ _ h]
  · rw [initEnter_notPor held d h1, Dev.inc, Dev.addSat, Dev.inc, Dev.addSat, get_put_other _ _ _ _ (.inl (by decide)) (by decide),
      get_put_other _ _ _ _ (.inl (hcount last)) (by decide), get_put_other _ _ _ _ (.inl (by decide)) (by decide), initMarks_cause _ _ _ h]

/-- Every reset but the power-on reset shows the first start-up step (R28). -/
theorem initEnter_initStep {last : Nat} (held : Bool) (d : Dev) (h : last ≠ 1) : (d.initEnter last held).get TOP_STATUS_INIT_STEP = 1 := by
  rw [initEnter_notPor held d h, Dev.inc, Dev.addSat, Dev.inc, Dev.addSat, get_put_other _ _ _ _ (.inl (by decide)) (by decide),
    get_put_other _ _ _ _ (.inl (by simp [TOP_RESET_COUNTk_V, TOP_RESET_COUNTk, TOP_STATUS_INIT_STEP, TOP_STATUS])) (by decide),
    get_put_same _ _ _ (by decide)]
  rfl

theorem initEnter_perstLow (last : Nat) (held : Bool) (d : Dev) : (d.initEnter last held).power.perstLow = d.power.perstLow := by
  by_cases h : last = 1
  · subst h; simp [initEnter_por, Dev.initMarks, Dev.onPower]
  · simp [initEnter_notPor held d h, Dev.initMarks, Dev.onPower]

/-- The time bases, and the fault log, survive every reset but a power-on reset (R28). -/
theorem initEnter_time {last : Nat} (held : Bool) (d : Dev) (h : last ≠ 1) : (d.initEnter last held).time = d.time := by
  simp [initEnter_notPor held d h, Dev.initMarks, Dev.initBase, h]

theorem initEnter_flog {last : Nat} (held : Bool) (d : Dev) (h : last ≠ 1) : (d.initEnter last held).evt.flog = d.evt.flog := by
  simp [initEnter_notPor held d h, Dev.initMarks, Dev.initBase, h]

theorem initEnter_flash (last : Nat) (held : Bool) (d : Dev) : (d.initEnter last held).flash = d.flash := by
  by_cases h : last = 1
  · subst h; simp [initEnter_por, Dev.initMarks, Dev.initBase]
  · simp [initEnter_notPor held d h, Dev.initMarks, Dev.initBase, h]

/-- A power-on reset returns the test access port to Test-Logic-Reset (R579). -/
theorem initEnter_por_tap (held : Bool) (d : Dev) : (d.initEnter 1 held).tap = {} := by
  simp [initEnter_por, Dev.initMarks, Dev.initBase]

theorem settle_initEnter (last : Nat) (held : Bool) (d : Dev) : settle (d.initEnter last held) = d.initEnter last held :=
  settle_of_mode (by simp [initEnter_mode]) (by simp [initEnter_mode])

/-! ### Requests for a reset -/

/-- With every panel OFF, a trigger of a fast discharge covers no head (R346). -/
theorem discharge_of_panelsOff {d : Dev} (h : ∀ h, h < 8 → d.panelState h = 0) (code : Nat) (p : Nat → Bool) : d.discharge code p = d := by
  unfold Dev.discharge
  have hcover : filterRange 8 (fun h => p h && decide (1 ≤ d.panelState h ∧ d.panelState h ≤ 3)) = [] := by
    refine List.filter_eq_nil_iff.2 fun k hk => ?_
    simp [h k (List.mem_range.1 hk)]
  exact if_pos hcover

/-- A power-on reset with no discharge in progress enters INIT, even while the logic is halted (R582). -/
theorem resetRequest_por {d : Dev} (h : d.flag HAR_DISCH_STATUS_ACTIVE = false) : d.resetRequest 1 = d.initEnter 1 false := by
  simp [Dev.resetRequest, h]

/-- With every panel OFF and no discharge in progress, a reset enters INIT. -/
theorem resetRequest_of_panelsOff {d : Dev} {last : Nat} (hd : d.halted = false) (hp : d.panelsOff) :
    d.resetRequest last = d.initEnter last false := by
  simp [Dev.resetRequest, hd, discharge_of_panelsOff hp.1, hp.2]

theorem panelsOff_congr {d e : Dev} (hs : ∀ h, h < 8 → e.word (PANELh_STATUS h) = d.word (PANELh_STATUS h))
    (ha : e.word HAR_DISCH_STATUS = d.word HAR_DISCH_STATUS) (h : d.panelsOff) : e.panelsOff := by
  refine ⟨fun k hk => (get_congr (f := PANELh_STATUS_STATE k) (hs k hk)).trans (h.1 k hk), ?_⟩
  rw [← h.2, Dev.flag, Dev.flag, get_congr (f := HAR_DISCH_STATUS_ACTIVE) ha]

/-! ### The end of the start-up steps -/

/-- INIT_STEP_COMPLETE in INIT with PERST_N high: the step's time is taken, the next step shows, and the step's work is done. -/
theorem initStepComplete_inInit {d : Dev} (x : InitData) {k : Nat} (hm : d.mode = 1) (hk : d.get TOP_STATUS_INIT_STEP = k) (h7 : k ≤ 7)
    (hp : d.power.perstLow = false) : initStepComplete x d =
      ((((d.put (TOP_STEP_USk_V k) (((d.tb 3).total - d.power.stepAt) / 1000 % 2 ^ 32)).onPower
        (fun u => { u with stepAt := (d.tb 3).total })).put TOP_STATUS_INIT_STEP (k + 1)).initStep k x) := by
  simp only [initStepComplete, hk]
  rw [if_neg (by simp [hm, hp]; omega)]

/-- A mode change leaves the rest of TOP_STATUS, below READY, alone. -/
theorem get_setMode_status (m : Nat) (f : Fld) (d : Dev) (ha : f.addr = TOP_STATUS) (hf : f.lo + f.w ≤ 28) :
    (Dev.setMode m d).get f = d.get f := by
  have hne (k : Nat) : TOP_MODE_COUNTk k ≠ f.addr ∧ TOP_MODE_TIME_Sk k ≠ f.addr := by
    simp [ha, TOP_MODE_COUNTk, TOP_MODE_TIME_Sk, TOP_STATUS]
  unfold Dev.setMode
  split
  · rfl
  · rw [Dev.inc, Dev.addSat, get_put_other _ _ _ _ (.inl (hne m).1) (by omega), Dev.putB,
      get_put_other _ _ _ _ (.inr (.inr (by simpa [TOP_STATUS_READY] using hf))) (by omega),
      get_put_other _ _ _ _ (.inr (.inr (by simp [TOP_STATUS_MODE]; omega))) (by omega)]
    exact get_congr (word_modeTimed d _ (hne d.mode).2)

theorem onTack_id (d : Dev) : d.onTack id = d := rfl

/-- The entry to TACK (R52): the mode, the source and the strap, then the loader's state and what it tries. -/
theorem tackEntry_eq (d : Dev) (b : Nat) : ∃ st u, d.tackEntry b =
    ((((d.setMode 2).put TACK_STATUS_SOURCE b).put TOP_STRAPS_BOOTSEL b).put TACK_STATUS_STATE st).onTack u := by
  unfold Dev.tackEntry
  dsimp only
  split
  · exact ⟨1, id, (onTack_id _).symm⟩
  · exact ⟨2, _, rfl⟩
  · exact ⟨6, id, (onTack_id _).symm⟩

theorem tackEntry_mode (d : Dev) (b : Nat) : (d.tackEntry b).mode = 2 := by
  obtain ⟨st, u, e⟩ := tackEntry_eq d b
  rw [e, Dev.mode, onTack_get, get_put_other _ _ _ _ (.inl (by decide)) (by decide), get_put_other _ _ _ _ (.inl (by decide)) (by decide),
    get_put_other _ _ _ _ (.inl (by decide)) (by decide)]
  exact mode_setMode 2 d (by decide)

theorem tackEntry_initStep (d : Dev) (b : Nat) : (d.tackEntry b).get TOP_STATUS_INIT_STEP = d.get TOP_STATUS_INIT_STEP := by
  obtain ⟨st, u, e⟩ := tackEntry_eq d b
  rw [e, onTack_get, get_put_other _ _ _ _ (.inl (by decide)) (by decide), get_put_other _ _ _ _ (.inl (by decide)) (by decide),
    get_put_other _ _ _ _ (.inl (by decide)) (by decide), get_setMode_status _ _ _ rfl (by decide)]

theorem tackEntry_source (d : Dev) (b : Nat) (h : b < 4) : (d.tackEntry b).get TACK_STATUS_SOURCE = b := by
  obtain ⟨st, u, e⟩ := tackEntry_eq d b
  rw [e, onTack_get, get_put_other _ _ _ _ (.inr (.inr (by decide))) (by decide), get_put_other _ _ _ _ (.inl (by decide)) (by decide),
    get_put_same _ _ _ (by decide)]
  exact Nat.mod_eq_of_lt h

/-! ### The statement -/

/-- A power-on reset with no discharge in progress. -/
theorem completes_powerOnReset (s : State) (h : s.dev.flag HAR_DISCH_STATUS_ACTIVE = false) :
    Completes .powerOnReset s (fun e =>
      e.mode = 1 ∧ e.get TOP_RESET_CAUSE_LAST = 1 ∧ e.mem = [] ∧ e.tap = {} ∧ e.flash = s.dev.flash) := by
  refine completes_always (f := powerOnReset) rfl ?_
  rw [powerOnReset, resetRequest_por h, settle_initEnter]
  exact ⟨initEnter_mode .., initEnter_cause _ _ _ (by decide), initEnter_mem .., initEnter_por_tap .., initEnter_flash ..⟩

/-- PERST_N falls with every panel OFF (R522). -/
theorem completes_perstNAssert (s : State) (hlive : s.live) (hm : s.dev.mode ≠ 0) (hp : s.dev.panelsOff) :
    Completes .perstNAssert s (fun e =>
      e.mode = 1 ∧ e.get TOP_RESET_CAUSE_LAST = 4 ∧ e.get TOP_STATUS_INIT_STEP = 1 ∧ e.power.perstLow = true ∧ e.mem = [] ∧
        e.time = s.dev.time ∧ e.evt.flog = s.dev.evt.flog) := by
  refine completes_always (f := perstAssert) rfl ?_
  let low := s.dev.onPower (fun u => { u with perstLow := true })
  have heff : perstAssert s.dev = low.initEnter 4 false :=
    (if_neg hm).trans (resetRequest_of_panelsOff (d := low) hlive hp)
  rw [heff, settle_initEnter]
  exact ⟨initEnter_mode .., initEnter_cause _ _ _ (by decide), initEnter_initStep _ _ (by decide), initEnter_perstLow .., initEnter_mem ..,
    initEnter_time _ _ (by decide), initEnter_flog _ _ (by decide)⟩

/-- PERST_N rises outside OFF (R522). -/
theorem completes_perstNDeassert (s : State) (hm : s.dev.mode ≠ 0) :
    Completes .perstNDeassert s (fun e =>
      e = settle (s.dev.onPower (fun u => { u with perstLow := false })) ∧ e.power.perstLow = false ∧ keepsRegs [] s.dev e ∧
        keepsMem s.dev e) := by
  refine completes_always (f := perstDeassert) rfl ?_
  have heff : perstDeassert s.dev = s.dev.onPower (fun u => { u with perstLow := false }) := if_neg hm
  rw [heff]
  refine ⟨rfl, ?_, fun r hr _ => ?_, fun a => settle_byteAt _ _⟩
  · obtain ⟨t, ht⟩ := settle_power (s.dev.onPower fun u => { u with perstLow := false })
    rw [ht]
    rfl
  · rw [word_settle _ _ hr, onPower_word]

/-- A write of 0x5A to TOP_RESET with every panel OFF (R520). -/
theorem completes_topReset (s : State) (hlive : s.live) (hm : s.dev.mode ≠ 0) (hw : s.dev.writeOk TOP_RESET 0x5A = true)
    (hp : s.dev.panelsOff) :
    Completes (.topReset 0x5A) s (fun e =>
      e.mode = 1 ∧ e.get TOP_RESET_CAUSE_LAST = 5 ∧ e.get TOP_STATUS_INIT_STEP = 1 ∧ e.mem = [] ∧ e.time = s.dev.time ∧
        e.evt.flog = s.dev.evt.flog) := by
  refine completes_always (f := topResetWrite 0x5A) rfl ?_
  let written := s.dev.writePlain TOP_RESET 0x5A
  have hhalt : written.halted = false := (writePlain_congr Dev.halted (fun _ _ _ => by simp [Dev.halted]) _ _ _).trans hlive
  have hoff : written.panelsOff := panelsOff_congr
    (fun k _ => word_writePlain_other _ _ _ _ (by simp [TOP_RESET, PANELh_STATUS]; omega)) (word_writePlain_other _ _ _ _ (by decide)) hp
  have heff : topResetWrite 0x5A s.dev = written.initEnter 5 false := by
    rw [topResetWrite, writeVia_taken _ _ _ _ _ hw (by simp [hm]), resetRequest_of_panelsOff hhalt hoff]
  rw [heff, settle_initEnter, initEnter_time _ _ (by decide), initEnter_flog _ _ (by decide)]
  exact ⟨initEnter_mode .., initEnter_cause _ _ _ (by decide), initEnter_initStep _ _ (by decide), initEnter_mem ..,
    writePlain_congr Dev.time (fun _ _ _ => by simp) _ _ _, writePlain_congr (fun d => d.evt.flog) (fun _ _ _ => by simp) _ _ _⟩

/-- The last start-up step ends with DRAM trained: TACK (R52). -/
theorem completes_lastInitStep (s : State) (x : InitData) (hlive : s.live) (hm : s.dev.mode = 1)
    (hk : s.dev.get TOP_STATUS_INIT_STEP = 7) (hp : s.dev.power.perstLow = false) (hx : x.trained = true) :
    Completes (.initStepComplete x) s (fun e =>
      e.mode = 2 ∧ e.get TOP_STATUS_INIT_STEP = 8 ∧ e.get TOP_STATUS_MODE = 2 ∧ e.get TACK_STATUS_SOURCE = x.bootsel) := by
  refine completes_on (f := initStepComplete x) rfl hlive ?_
  rw [initStepComplete_inInit x hm hk (by decide) hp, Dev.initStep, if_pos hx]
  have hmode := tackEntry_mode (((s.dev.put (TOP_STEP_USk_V 7) (((s.dev.tb 3).total - s.dev.power.stepAt) / 1000 % 2 ^ 32)).onPower
    (fun u => { u with stepAt := (s.dev.tb 3).total })).put TOP_STATUS_INIT_STEP (7 + 1)) x.bootsel
  rw [settle_of_mode (by rw [hmode]; decide) (by rw [hmode]; decide)]
  refine ⟨hmode, ?_, hmode, tackEntry_source _ _ x.bootsel.isLt⟩
  rw [tackEntry_initStep, get_put_same _ _ _ (by decide)]
  rfl

/-- Settles O1. -/
theorem resetsEnterInit : Obligations.ResetsEnterInit :=
  ⟨fun _ => completes_always rfl rfl, fun _ => completes_always rfl rfl, fun _ => completes_always rfl rfl,
    fun _ _ => completes_always rfl rfl, fun _ _ hs => completes_on rfl hs rfl, completes_powerOnReset, completes_perstNAssert,
    completes_perstNDeassert, completes_topReset, completes_lastInitStep, fun _ x k hlive hm hk hp =>
      completes_on rfl hlive (congrArg settle (initStepComplete_inInit x hm hk (Nat.le_of_lt_succ k.isLt) hp))⟩

end Sys2Proof.Machine
end

section
/-! SUPPORT. What posting an event record can change (R403 to R408, R415): the ring's registers, device memory and its upkeep, the
ring's own state, and what a follower's link sends. Whatever does not see these is left alone. -/
namespace Sys2Proof.Machine

/-- The registers that posting a record of class `cls` can write: those of the event ring, and the count of a row test that yields to the
ring's bank (R441). -/
def ringRegs (cls : Nat) : List Nat :=
  [EVT_CLASS_COUNTk cls, EVT_LOST_COUNT, EVT_STATUS, EVT_PROD, EVT_POSTED_COUNT, EVT_HIGH_WATER, MEM_COUNTk 15]

/-- `g` reads nothing of the block that a record of class `cls` can change while it is posted. -/
structure SeesNoPost (cls : Nat) {α : Type} (g : Dev → α) : Prop where
  lanes : ∀ (d : Dev) x, g { d with lanes := x } = g d
  links : ∀ (d : Dev) x, g { d with links := x } = g d
  sent : ∀ (d : Dev) x, g { d with sent := x } = g d
  mem : ∀ (d : Dev) x, g { d with mem := x } = g d
  memu : ∀ (d : Dev) x, g { d with memu := x } = g d
  evt : ∀ (d : Dev) seq phase vecs upSeq causes,
    g { d with evt := { d.evt with seq := seq, phase := phase, vecs := vecs, upSeq := upSeq, causes := causes } } = g d
  regs : ∀ (d : Dev) r v, r ∈ ringRegs cls → g (d.setWord r v) = g d

/-- A register outside the ring's is such an observation. -/
theorem seesNoPost_word {cls r : Nat} (h : r ∉ ringRegs cls) : SeesNoPost cls (fun d => d.word r) where
  lanes _ _ := rfl
  links _ _ := rfl
  sent _ _ := rfl
  mem _ _ := rfl
  memu _ _ := rfl
  evt _ _ _ _ _ _ := rfl
  regs _ _ _ hr := word_setWord_other _ _ _ _ fun e => h (e ▸ hr)

section
variable {cls : Nat} {α : Type} {g : Dev → α} (hg : SeesNoPost cls g)
include hg

/-! ### What a link sends -/

theorem SeesNoPost.laneSend (n : Nat) (b : RBlock) (d : Dev) : g (d.laneSend n b) = g d := by
  unfold Dev.laneSend
  dsimp only
  split
  · rfl
  · split
    · exact hg.lanes _ _
    · exact (hg.sent _ _).trans (hg.lanes _ _)

theorem SeesNoPost.laneTraffic (n : Nat) (b : RBlock) (d : Dev) : g (d.laneTraffic n b) = g d := by
  unfold Dev.laneTraffic
  split
  · rfl
  · exact hg.laneSend n b d

theorem SeesNoPost.slotRoom (j k : Nat) (d : Dev) : g (d.slotRoom j k) = g d := by
  unfold Dev.slotRoom
  split
  · rfl
  · exact (hg.links _ _).trans (foldS_congr g _ _ _ fun n _ e => hg.laneTraffic n _ e)

theorem SeesNoPost.slots (j : Nat) (l : List (Nat → RBlock)) (d : Dev) : g (d.slots j l) = g d := by
  have hfold (e : Dev) : g (l.foldl (fun s f => foldS (s.allLanes j) (fun n t => t.laneTraffic n (f n)) s) e) = g e := by
    induction l generalizing e with
    | nil => rfl
    | cons f l ih => exact (ih _).trans (foldS_congr g _ _ _ fun n _ e => hg.laneTraffic n _ e)
  exact (hg.links _ _).trans ((hfold _).trans (hg.slotRoom j _ d))

theorem SeesNoPost.linkStream (j : Nat) (l : List RBlock) (d : Dev) : g (d.linkStream j l) = g d := by
  unfold Dev.linkStream
  split
  · rfl
  · split
    · exact hg.links _ _
    · exact (foldS_congr g _ _ _ fun r _ e => hg.slots j _ e).trans (hg.sent _ _)

/-- A follower's record goes upstream on a link (R415). -/
theorem SeesNoPost.sendUp (d : Dev) (r : Rec) : g (d.sendUp r) = g d := by
  have hevt (e : Dev) (n : Nat) : g { e with evt := { e.evt with upSeq := n } } = g e := hg.evt e e.evt.seq e.evt.phase e.evt.vecs n e.evt.causes
  unfold Dev.sendUp
  dsimp only
  split
  · split
    · exact (hevt _ _).trans (hg.linkStream _ _ _)
    · exact hevt _ _
  · rfl

/-! ### The record's bytes and its message -/

theorem SeesNoPost.unitWritten (u : Nat) (d : Dev) : g (d.unitWritten u) = g d := by
  unfold Dev.unitWritten
  dsimp only
  split
  · exact (hg.memu _ _).trans (hg.memu _ _)
  · exact hg.memu _ _

theorem SeesNoPost.store (a : Nat) (l : List Byte) (d : Dev) : g (d.store a l) = g d := by
  unfold Dev.store
  exact hg.mem _ _

theorem SeesNoPost.put (f : Fld) (x : Nat) (d : Dev) (h : f.addr ∈ ringRegs cls) : g (d.put f x) = g d := hg.regs _ _ _ h

theorem SeesNoPost.marchYield (n : Nat) (d : Dev) : g (d.marchYield n) = g d := by
  unfold Dev.marchYield
  split
  · exact (hg.put (MEM_COUNTk_V 15) _ _ (by simp [ringRegs, MEM_COUNTk_V])).trans (hg.memu _ _)
  · rfl

theorem SeesNoPost.ringStore (a : Nat) (l : List Byte) (d : Dev) : g (d.ringStore a l) = g d := by
  unfold Dev.ringStore
  dsimp only
  split
  · rfl
  · exact hg.memu _ _
  · exact (hg.store _ _ _).trans ((foldS_congr g _ _ _ fun u _ e => hg.unitWritten u e).trans (hg.marchYield _ _))

theorem SeesNoPost.onVec (v : Nat) (f : Vec → Vec) (d : Dev) : g (d.onVec v f) = g d :=
  hg.evt d d.evt.seq d.evt.phase (updAt d.evt.vecs v f) d.evt.upSeq d.evt.causes

theorem SeesNoPost.signalVec (v : Nat) (d : Dev) : g (d.signalVec v) = g d := by
  unfold Dev.signalVec
  split
  · exact hg.onVec _ _ _
  · split
    · exact hg.onVec _ _ _
    · exact (hg.onVec _ _ _).trans (hg.sent _ _)

/-- The ring's part: the class is not enabled, the ring is off or full, or the record is stored, counted and signalled (R404 to R407). -/
theorem SeesNoPost.ringPost (d : Dev) (r : Rec) (hr : r.cls = cls) : g (d.ringPost r) = g d := by
  unfold Dev.ringPost
  dsimp only
  split
  · exact hg.put _ _ _ (by simp [ringRegs, EVT_CLASS_COUNTk_V, hr])
  · split
    · rfl
    · split
      · exact (hg.put EVT_STATUS_OVERFLOW _ _ (by simp [ringRegs, EVT_STATUS_OVERFLOW])).trans
          (hg.put EVT_LOST_COUNT_V _ _ (by simp [ringRegs, EVT_LOST_COUNT_V]))
      · have halert (c : Prop) [Decidable c] (e : Dev) : g (if c then e.putB EVT_STATUS_ALERT true else e) = g e := by
          split
          · exact hg.put EVT_STATUS_ALERT _ _ (by simp [ringRegs, EVT_STATUS_ALERT])
          · rfl
        refine (hg.signalVec _ _).trans ((halert _ _).trans ?_)
        refine (hg.put EVT_HIGH_WATER_V _ _ (by simp [ringRegs, EVT_HIGH_WATER_V])).trans ?_
        refine (hg.put EVT_POSTED_COUNT_V _ _ (by simp [ringRegs, EVT_POSTED_COUNT_V])).trans ?_
        refine (hg.evt _ _ _ (Dev.evt _).vecs (Dev.evt _).upSeq (Dev.evt _).causes).trans ?_
        exact (hg.put EVT_PROD_V _ _ (by simp [ringRegs, EVT_PROD_V])).trans (hg.ringStore _ _ _)

/-! ### Posting -/

theorem SeesNoPost.postRec (d : Dev) (r : Rec) (hr : r.cls = cls) : g (d.postRec r) = g d := (hg.ringPost _ r hr).trans (hg.sendUp d r)

theorem SeesNoPost.post (code inst : Nat) (data : List Nat) (d : Dev) : g (d.post cls code inst data) = g d := hg.postRec d _ rfl

/-- A status bit is set, and its record posted (R404, R591). -/
theorem SeesNoPost.raiseAt (d : Dev) (status enable inst b : Nat) (hs : ∀ (e : Dev) v, g (e.setWord status v) = g e) :
    g (d.raiseAt status enable cls inst b) = g d := by
  have hset (e : Dev) (v : Nat) : g ((e.setWord status v).causeSet status b inst) = g e :=
    (hg.evt _ (Dev.evt _).seq (Dev.evt _).phase (Dev.evt _).vecs (Dev.evt _).upSeq _).trans (hs e v)
  unfold Dev.raiseAt
  dsimp only
  split
  · rfl
  · split
    · exact (hg.post _ _ _ _).trans (hset _ _)
    · exact hset _ _

/-- A cause of the fault log is written and posted (R408), for what does not see the log either. -/
theorem SeesNoPost.flogWrite (d : Dev) (code inst : Nat) (data : List Nat) (hl : ∀ (e : Dev) l, g { e with evt := { e.evt with flog := l } } = g e)
    (hc : ∀ (e : Dev) v, g (e.setWord EVT_FLOG_COUNT v) = g e) (hlost : ∀ (e : Dev) v, g (e.setWord EVT_FLOG_LOST v) = g e) :
    g (d.flogWrite cls code inst data) = g d := by
  have hfull : g (if d.evt.flog.length ≥ 64 then d.inc EVT_FLOG_LOST_V else d) = g d := by
    split
    · exact hlost _ _
    · rfl
  exact (hg.postRec _ _ rfl).trans ((hc _ _).trans ((hl _ _).trans hfull))

end

/-- The fault log holds the new entry, which posting it keeps. -/
theorem flogWrite_flog_ne_nil (d : Dev) (cls code inst : Nat) (data : List Nat) : (d.flogWrite cls code inst data).evt.flog ≠ [] := by
  have hflog : SeesNoPost cls (fun d => d.evt.flog) :=
    ⟨fun _ _ => rfl, fun _ _ => rfl, fun _ _ => rfl, fun _ _ => rfl, fun _ _ => rfl, fun _ _ _ _ _ _ => rfl, fun _ _ _ _ => by simp⟩
  have hpost (e : Dev) (r : Rec) (hr : r.cls = cls) : (e.postRec r).evt.flog = e.evt.flog := hflog.postRec e r hr
  unfold Dev.flogWrite
  extract_lets r d1 _ d2
  rw [hpost _ r rfl, put_evt]
  simp [d2]

end Sys2Proof.Machine
end

section
/-! SUPPORT. Stage engines (R200 to R204): their summaries, their built-in test, retirement of a spare, and the end of a substitution. -/
namespace Sys2Proof.Machine

/-! ### Folds over lists -/

/-- What every step of a fold over a list leaves alone, the fold leaves alone. -/
theorem foldl_congr {σ α β : Type} (g : σ → α) (l : List β) (f : σ → β → σ) (s : σ) (h : ∀ b ∈ l, ∀ e, g (f e b) = g e) :
    g (l.foldl f s) = g s := by
  induction l generalizing s with
  | nil => rfl
  | cons b l ih => rw [List.foldl_cons, ih _ fun b' hb' => h b' (List.mem_cons_of_mem _ hb'), h b List.mem_cons_self]

/-- A fold whose steps do nothing does nothing. -/
theorem foldS_id {σ : Type} (l : List Nat) (f : Nat → σ → σ) (s : σ) (h : ∀ k ∈ l, f k s = s) : foldS l f s = s := by
  unfold foldS
  induction l with
  | nil => rfl
  | cons k l ih => rw [List.foldl_cons, h k List.mem_cons_self, ih fun k' hk' => h k' (List.mem_cons_of_mem _ hk')]

/-! ### Summaries -/

/-- The summaries of the engines stand in the TACK block and in FAB_STATUS. -/
theorem word_engineSync (d : Dev) (r : Nat) (h : r < 0x1068 ∨ 0x10A0 ≤ r) (hf : FAB_STATUS ≠ r) : d.engineSync.word r = d.word r := by
  unfold Dev.engineSync
  dsimp only
  rw [word_put_other _ _ _ _ hf, foldS_congr (fun s => Dev.word s r), word_put_other, word_put_other, word_put_other, word_put_other,
    foldS_congr (fun s => Dev.word s r)]
  · intro k hk e
    have hk := List.mem_range.1 hk
    exact word_put_other _ _ _ _ (by simp only [TACK_ENGINE_MAPn]; omega)
  iterate 4 simp only [TACK_ENGINE_SUMMARY_ALLOCATED, TACK_ENGINE_SUMMARY_SPARE, TACK_ENGINE_SUMMARY_RETIRED,
    TACK_ENGINE_SUMMARY_RT_RESERVED, TACK_ENGINE_SUMMARY]; omega
  · intro k hk e
    have hk := List.mem_range.1 hk
    exact word_put_other _ _ _ _ (by simp only [TACK_HEADn_ENGINES, TACK_HEADn]; omega)

@[simp] theorem engineSync_engines (d : Dev) : d.engineSync.engines = d.engines := by
  unfold Dev.engineSync
  dsimp only
  rw [put_engines, foldS_congr Dev.engines _ _ _ fun _ _ _ => put_engines .., put_engines, put_engines, put_engines, put_engines,
    foldS_congr Dev.engines _ _ _ fun _ _ _ => put_engines ..]

/-- A field of an engine's registers. -/
theorem get_engineSync (d : Dev) (f : Fld) (h : 0x10100 ≤ f.addr) : d.engineSync.get f = d.get f :=
  get_congr (word_engineSync d _ (.inr (by omega)) (by simp only [FAB_STATUS]; omega))

theorem get_settle_engine (d : Dev) (f : Fld) (h : 0x10100 ≤ f.addr) : (settle d).get f = d.get f :=
  get_settle d f (notMem_modeRegs_of_le (by omega))

/-! ### Parity errors -/

/-- The head that an engine serves rests on its status register alone. -/
theorem engineHead_congr {d e : Dev} {k : Nat} (h : e.word (SEk_STATUS k) = d.word (SEk_STATUS k)) : e.engineHead k = d.engineHead k := by
  unfold Dev.engineHead
  rw [get_congr (f := SEk_STATUS_STATE k) h, get_congr (f := SEk_STATUS_HEAD k) h]

/-- The first parity error of an engine that serves no head is counted and remembered, and nothing else (R203). -/
theorem engineParityError_first {d : Dev} {k : Nat} (hh : d.engineHead k = none) (hp : d.engines.parity = []) :
    engineParityError k d = Dev.inc { d with engines := { d.engines with parity := [(k, (d.tb 3).total)] } } (SEk_ERR_COUNT_V k) := by
  have hhead : (Dev.inc { d with engines := { d.engines with parity := [(k, (d.tb 3).total)] } } (SEk_ERR_COUNT_V k)).engineHead k = none :=
    (engineHead_congr (word_put_other { d with engines := { d.engines with parity := [(k, (d.tb 3).total)] } } _ _ _
      (by simp [SEk_ERR_COUNT_V, SEk_ERR_COUNT, SEk_STATUS]))).trans hh
  simp [engineParityError, hp, hhead]

/-! ### Built-in tests -/

theorem word_bistCount (d : Dev) (k : Nat) (pass : Bool) (r : Nat) (h : TEST_SEk_BIST k ≠ r) : (d.bistCount k pass).word r = d.word r := by
  have haddr : (TEST_SEk_BIST_RUNS k).addr ≠ r ∧ (TEST_SEk_BIST_LAST_FAIL k).addr ≠ r ∧ (TEST_SEk_BIST_FAILS k).addr ≠ r := ⟨h, h, h⟩
  simp only [Dev.bistCount, Dev.addWrap, Dev.putB, Dev.inc, Dev.addSat]
  split
  · rw [word_put_other _ _ _ _ haddr.2.1, word_put_other _ _ _ _ haddr.1]
  · rw [word_put_other _ _ _ _ haddr.2.2, word_put_other _ _ _ _ haddr.2.1, word_put_other _ _ _ _ haddr.1]

theorem engineBistStart_spare {d : Dev} {k : Nat} (h : d.get (SEk_STATUS_STATE k) = 2) :
    engineBistStart k d = (d.put (SEk_STATUS_STATE k) 6).engineSync := if_pos h

theorem engineBistComplete_pass {d : Dev} {k : Nat} (h : d.get (SEk_STATUS_STATE k) = 6) :
    engineBistComplete k true d = (((d.bistCount k true).put (SEk_STATUS_STATE k) 2).putB (SEk_STATUS_BIST_FAIL k) false).engineSync := by
  simp [engineBistComplete, h]

theorem engineBistComplete_fail {d : Dev} {k : Nat} (h : d.get (SEk_STATUS_STATE k) = 6) :
    engineBistComplete k false d = ((d.bistCount k false).putB (SEk_STATUS_BIST_FAIL k) true).engineFails k 0 := by
  simp [engineBistComplete, h]

/-! ### Retirement of a spare (R203, R496) -/

theorem word_farLog (d : Dev) (q : FarRequest) (target result r : Nat) (h : FAR_LOG_STATUS ≠ r) :
    (d.farLog q target result).word r = d.word r := by
  rw [Dev.farLog, word_put_other _ _ _ _ h]
  rfl

theorem word_farUse (d : Dev) (l : FarLog) (r : Nat) (h : FAR_INVk l.cls ≠ r) : (d.farUse l).word r = d.word r := by
  rw [Dev.farUse, Dev.inc, Dev.addSat, word_put_other _ _ _ _ h]
  rfl

/-- The farrier's entry of a retirement is counted, logged and reported. -/
theorem word_farRetire (d : Dev) (q : FarRequest) (k r : Nat) (hr : r < 0x20000) (hm : r ∉ ringRegs clsFarrier) :
    (d.farRetire q k).word r = d.word r := by
  have hevt : FAR_EVT_STATUS ≠ r := by simp only [FAR_EVT_STATUS]; omega
  have hraise (e : Dev) : (e.farEvt 1).word r = e.word r :=
    (seesNoPost_word hm).raiseAt _ _ _ _ _ fun _ _ => word_setWord_other _ _ _ _ hevt
  rw [Dev.farRetire, hraise, word_farLog _ _ _ _ _ (by simp only [FAR_LOG_STATUS]; omega),
    word_farUse _ _ _ (by simp only [FAR_INVk]; omega)]

/-- Freeing an engine leaves its BIST result. -/
theorem engineFree_bistFail (d : Dev) (k st : Nat) : (d.engineFree k st).get (SEk_STATUS_BIST_FAIL k) = d.get (SEk_STATUS_BIST_FAIL k) := by
  have hlo : (SEk_STATUS_BIST_FAIL k).lo + (SEk_STATUS_BIST_FAIL k).w ≤ 32 := by simp [SEk_STATUS_BIST_FAIL]
  unfold Dev.engineFree
  dsimp only
  rw [get_setWord_other _ _ _ _ (by simp [SEk_STRIPE, SEk_STATUS_BIST_FAIL, SEk_STATUS]),
    get_put_other _ _ _ _ (.inr (.inl (by simp [SEk_STATUS_HEAD, SEk_STATUS_BIST_FAIL]))) hlo,
    get_put_other _ _ _ _ (.inr (.inl (by simp [SEk_STATUS_STRIPES, SEk_STATUS_BIST_FAIL]))) hlo,
    get_put_other _ _ _ _ (.inr (.inl (by simp [SEk_STATUS_STRIPE, SEk_STATUS_BIST_FAIL]))) hlo,
    get_put_other _ _ _ _ (.inr (.inl (by simp [SEk_STATUS_TYPE, SEk_STATUS_BIST_FAIL]))) hlo,
    get_put_other _ _ _ _ (.inr (.inr (by simp [SEk_STATUS_STATE, SEk_STATUS_BIST_FAIL]))) hlo]

/-- An engine that serves no head and fails is retired; its BIST result stays. -/
theorem engineFails_bistFail {d : Dev} {k : Nat} (trig : Nat) (hk : k < 28) (h : d.engineHead k = none) :
    (d.engineFails k trig).get (SEk_STATUS_BIST_FAIL k) = d.get (SEk_STATUS_BIST_FAIL k) := by
  have haddr : (SEk_STATUS_BIST_FAIL k).addr = 0x10100 + 0x10 * k := rfl
  have hring : (SEk_STATUS_BIST_FAIL k).addr ∉ ringRegs clsFarrier := by
    simp [ringRegs, haddr, EVT_CLASS_COUNTk, clsFarrier, EVT_LOST_COUNT, EVT_STATUS, EVT_PROD, EVT_POSTED_COUNT, EVT_HIGH_WATER,
      MEM_COUNTk]
    omega
  unfold Dev.engineFails
  rw [h]
  dsimp only
  rw [get_engineSync _ _ (by omega), get_congr (word_farRetire _ _ _ _ (by omega) hring), engineFree_bistFail]
  exact get_congr (word_put_other _ _ _ _ (by simp only [haddr, FAR_TRIGk_V, FAR_TRIGk]; omega))

/-! ### The end of a substitution (R201) -/

@[simp] theorem engineFree_engines (d : Dev) (k st : Nat) : (d.engineFree k st).engines = d.engines := by simp [Dev.engineFree]

@[simp] theorem engineRole_engines (d : Dev) (h j s : Nat) (e : StageEntry) (k : Nat) : (d.engineRole h j s e k).engines = d.engines := by
  simp [Dev.engineRole]

@[simp] theorem stripeSync_engines (d : Dev) (h : Nat) : (d.stripeSync h).engines = d.engines :=
  foldl_congr Dev.engines _ _ _ fun _ _ _ => foldl_congr Dev.engines _ _ _ fun _ _ _ => engineRole_engines ..

theorem seesNoPost_engines (cls : Nat) : SeesNoPost cls Dev.engines :=
  ⟨fun _ _ => rfl, fun _ _ => rfl, fun _ _ => rfl, fun _ _ => rfl, fun _ _ => rfl, fun _ _ _ _ _ _ => rfl, fun _ _ _ _ => setWord_engines ..⟩

@[simp] theorem farEvt_engines (d : Dev) (b inst : Nat) : (Dev.farEvt b d inst).engines = d.engines :=
  (seesNoPost_engines _).raiseAt _ _ _ _ _ fun _ _ => setWord_engines ..

@[simp] theorem farSubstituted_engines (d : Dev) (q : FarRequest) (target inst : Nat) :
    (d.farSubstituted q target inst).engines = d.engines := by
  simp [Dev.farSubstituted, Dev.farLog, Dev.farUse, Dev.farTake]

theorem subSwap_engines (d : Dev) (a k h result : Nat) : (d.subSwap a k h result).engines = d.engines := by
  unfold Dev.subSwap
  dsimp only
  split <;> simp

/-- Once a substitution ends, none is in progress. -/
theorem subEnd_sub (d : Dev) : d.subEnd.engines.sub = none := by
  unfold Dev.subEnd
  split
  · next h => exact h
  · rw [subSwap_engines]

/-- On a head with a frame in progress the next substitution does not begin. -/
theorem engineSubComplete_inFrame {d : Dev} {a k h : Nat} (hs : d.engines.sub = some (a, k, h)) (hf : (d.subEnd.head h).inFrame = true) :
    engineSubComplete d = d.subEnd := by simp [engineSubComplete, hs, hf]

theorem engineSubComplete_none {d : Dev} (hs : d.engines.sub = none) : engineSubComplete d = d := by simp [engineSubComplete, hs]

/-- With no per-head reset that waits, the end of a substitution is that of the engines alone. -/
theorem substitutionComplete_noReset {d : Dev} (h : ∀ h : Fin 8, ((engineSubComplete d).head h).resetHeld = false) :
    substitutionComplete d = engineSubComplete d :=
  foldS_id _ _ _ fun k hk => if_neg (by simp [h ⟨k, List.mem_range.1 hk⟩])

/-! ### The statement -/

theorem completes_parityError (s : State) (k : Fin 28) (hlive : s.live) (hh : s.dev.engineHead k = none) (hp : s.dev.engines.parity = []) :
    Completes (.engineParityError k) s (fun e =>
      e.get (SEk_ERR_COUNT_V k) = min (s.dev.get (SEk_ERR_COUNT_V k) + 1) (2 ^ 32 - 1) ∧
        e.engines = { s.dev.engines with parity := [(k.val, (s.dev.tb 3).total)] } ∧ keepsRegs [SEk_ERR_COUNT k] s.dev e ∧
        keepsMem s.dev e) := by
  refine completes_on (f := engineParityError k) rfl hlive ?_
  rw [engineParityError_first hh hp]
  refine ⟨?_, by rw [settle_engines, inc_engines], fun r hr hk => ?_, fun a => ?_⟩
  · rw [get_settle_engine _ _ (by simp [SEk_ERR_COUNT_V, SEk_ERR_COUNT]; omega), get_inc_same _ _ (by simp [SEk_ERR_COUNT_V])]
    rfl
  · rw [word_settle _ _ hr]
    exact word_put_other _ _ _ _ (by simpa [eq_comm, SEk_ERR_COUNT_V] using hk)
  · rw [settle_byteAt, Dev.inc, Dev.addSat, put_byteAt]
    rfl

theorem completes_bistStart (s : State) (k : Fin 28) (hlive : s.live) (hk : s.dev.get (SEk_STATUS_STATE k) = 2) :
    Completes (.engineBistStart k) s (fun e =>
      e = settle (Dev.engineSync (s.dev.put (SEk_STATUS_STATE k) 6)) ∧ e.get (SEk_STATUS_STATE k) = 6) := by
  have haddr : 0x10100 ≤ (SEk_STATUS_STATE k).addr := Nat.le_add_right _ _
  refine completes_on (f := engineBistStart k) rfl hlive ?_
  rw [engineBistStart_spare hk]
  refine ⟨rfl, ?_⟩
  rw [get_settle_engine _ _ haddr, get_engineSync _ _ haddr, get_put_same _ _ _ (by simp [SEk_STATUS_STATE])]
  rfl

theorem completes_bistPass (s : State) (k : Fin 28) (hlive : s.live) (hk : s.dev.get (SEk_STATUS_STATE k) = 6) :
    Completes (.engineBistComplete k true) s (fun e =>
      e = settle (Dev.engineSync (((s.dev.bistCount k true).put (SEk_STATUS_STATE k) 2).putB (SEk_STATUS_BIST_FAIL k) false)) ∧
        e.get (SEk_STATUS_STATE k) = 2) := by
  have haddr : 0x10100 ≤ (SEk_STATUS_STATE k).addr := Nat.le_add_right _ _
  have hlo : (SEk_STATUS_STATE k).lo + (SEk_STATUS_STATE k).w ≤ 32 := by simp [SEk_STATUS_STATE]
  refine completes_on (f := engineBistComplete k true) rfl hlive ?_
  rw [engineBistComplete_pass hk]
  refine ⟨rfl, ?_⟩
  rw [get_settle_engine _ _ haddr, get_engineSync _ _ haddr, Dev.putB,
    get_put_other _ _ _ _ (.inr (.inl (by simp [SEk_STATUS_STATE, SEk_STATUS_BIST_FAIL]))) hlo, get_put_same _ _ _ hlo]
  rfl

theorem completes_bistFail (s : State) (k : Fin 28) (hlive : s.live) (hk : s.dev.get (SEk_STATUS_STATE k) = 6) :
    Completes (.engineBistComplete k false) s (fun e =>
      e = settle (((s.dev.bistCount k false).putB (SEk_STATUS_BIST_FAIL k) true).engineFails k 0) ∧
        e.flag (SEk_STATUS_BIST_FAIL k) = true) := by
  refine completes_on (f := engineBistComplete k false) rfl hlive ?_
  rw [engineBistComplete_fail hk]
  refine ⟨rfl, ?_⟩
  have hstate : ((s.dev.bistCount k false).putB (SEk_STATUS_BIST_FAIL k) true).get (SEk_STATUS_STATE k) = 6 := by
    rw [Dev.putB, get_put_other _ _ _ _ (.inr (.inl (by simp [SEk_STATUS_STATE, SEk_STATUS_BIST_FAIL]))) (by simp [SEk_STATUS_STATE]),
      get_congr (word_bistCount _ _ _ _ (by simp [TEST_SEk_BIST, SEk_STATUS_STATE, SEk_STATUS]; omega)), hk]
  have hhead : ((s.dev.bistCount k false).putB (SEk_STATUS_BIST_FAIL k) true).engineHead k = none := by simp [Dev.engineHead, hstate]
  rw [Dev.flag, get_settle_engine _ _ (Nat.le_add_right _ _), engineFails_bistFail 0 k.isLt hhead]
  exact flag_putB_same _ _ _ (by simp [SEk_STATUS_BIST_FAIL]) (by simp [SEk_STATUS_BIST_FAIL])

theorem completes_noSubstitution (s : State) (hlive : s.live) (hs : s.dev.engines.sub = none)
    (hr : ∀ h : Fin 8, (s.dev.head h).resetHeld = false) :
    Completes .engineSubstitutionComplete s (fun e => e = settle s.dev ∧ keepsRegs [] s.dev e ∧ keepsMem s.dev e) := by
  refine completes_on (f := substitutionComplete) rfl hlive ?_
  rw [substitutionComplete_noReset (by rwa [engineSubComplete_none hs]), engineSubComplete_none hs]
  exact ⟨rfl, fun r hr _ => word_settle _ _ hr, fun a => settle_byteAt _ _⟩

theorem completes_substitution (s : State) (a k h : Nat) (hlive : s.live) (hs : s.dev.engines.sub = some (a, k, h))
    (hr : ∀ h : Fin 8, (s.dev.subEnd.head h).resetHeld = false) (hf : (s.dev.subEnd.head h).inFrame = true) :
    Completes .engineSubstitutionComplete s (fun e => e = settle s.dev.subEnd ∧ e.engines.sub = none) := by
  refine completes_on (f := substitutionComplete) rfl hlive ?_
  rw [substitutionComplete_noReset (by rwa [engineSubComplete_inFrame hs hf]), engineSubComplete_inFrame hs hf]
  exact ⟨rfl, by rw [settle_engines, subEnd_sub]⟩

/-- A per-head reset of a head that is present, with no substitution in progress, acts at once (R30, R202). -/
theorem completes_perHeadReset (s : State) (h : Fin 8) (ht : s.takes (HDn_RESET h) 1) (hp : s.dev.headPresent h = true)
    (hs : s.dev.engines.sub = none) :
    Completes (.perHeadReset h) s (fun e => e = settle ((s.dev.writePlain (HDn_RESET h) 1).headReset h)) := by
  obtain ⟨⟨hlive, hm, ha⟩, hw⟩ := ht
  refine completes_on (f := Dev.pcie (.reg (HDn_RESET h) 1) (headResetWrite h 1)) rfl hlive ?_
  have hsub : (s.dev.writePlain (HDn_RESET h) 1).engines.sub = none :=
    (writePlain_congr (fun d => d.engines.sub) (fun _ _ _ => by simp) _ _ _).trans hs
  rw [pcie_now _ _ _ hm ha, headResetWrite, writeVia_taken _ _ _ _ _ hw hp]
  simp [hsub]

/-- Settles O29. -/
theorem engines : Obligations.Engines :=
  ⟨fun _ _ hs => completes_on rfl hs rfl, fun _ _ hs => completes_on rfl hs rfl, fun _ _ _ hs => completes_on rfl hs rfl,
    fun _ hs => completes_on rfl hs rfl, fun _ _ hs => completes_on rfl hs rfl, completes_parityError, completes_bistStart,
    completes_bistPass, completes_bistFail, completes_noSubstitution,
    fun s a k h hlive hs _ hr hf => completes_substitution s a k h hlive hs hr hf, completes_perHeadReset⟩

end Sys2Proof.Machine
end

section
/-! SUPPORT. What the loss of a reference clock, SAFE included, leaves of TOP_REFCLK_STATUS (R26): nothing but the reference's own bit
changes. It lies at 0x3C in TOP, and all that the effect writes but TOP's status and SAFE registers lies at 0x40 or above. One lemma per
function of the effect, in the order of the definitions. -/
namespace Sys2Proof.Machine

/-! ### Cases, folds and register writes -/

@[simp] theorem refclk_ite (c : Prop) {_ : Decidable c} (a b : Dev) :
    (if c then a else b).word TOP_REFCLK_STATUS = if c then a.word TOP_REFCLK_STATUS else b.word TOP_REFCLK_STATUS := by
  split <;> rfl

@[simp] theorem refclk_foldS (l : List Nat) (f : Nat → Dev → Dev) (d : Dev) (h : ∀ k e,
    (f k e).word TOP_REFCLK_STATUS = e.word TOP_REFCLK_STATUS) :
    (foldS l f d).word TOP_REFCLK_STATUS = d.word TOP_REFCLK_STATUS :=
  foldS_congr (fun e => Dev.word e TOP_REFCLK_STATUS) l f d fun k _ e => h k e

@[simp] theorem refclk_foldl {β : Type} (l : List β) (f : Dev → β → Dev) (d : Dev) (h : ∀ b e,
    (f e b).word TOP_REFCLK_STATUS = e.word TOP_REFCLK_STATUS) :
    (l.foldl f d).word TOP_REFCLK_STATUS = d.word TOP_REFCLK_STATUS :=
  foldl_congr (fun e => Dev.word e TOP_REFCLK_STATUS) l f d fun b _ e => h b e

@[simp] theorem refclk_far (d : Dev) (x : FarUnit) : Dev.word { d with far := x } TOP_REFCLK_STATUS = d.word TOP_REFCLK_STATUS := rfl

@[simp] theorem refclk_evt (d : Dev) (x : EvtUnit) : Dev.word { d with evt := x } TOP_REFCLK_STATUS = d.word TOP_REFCLK_STATUS := rfl

@[simp] theorem refclk_memu (d : Dev) (m : List Host.Cell) (x : MemUnit) :
    Dev.word { d with mem := m, memu := x } TOP_REFCLK_STATUS = d.word TOP_REFCLK_STATUS := rfl

@[simp] theorem refclk_ce (d : Dev) (x : CeUnit) : Dev.word { d with ce := x } TOP_REFCLK_STATUS = d.word TOP_REFCLK_STATUS := rfl

/-- An indexed register lies where its first one does, or above. -/
@[simp] theorem refclk_below_indexed (a k : Nat) (h : 0x40 ≤ a) : 0x40 ≤ a + k := Nat.le_add_right_of_le h

@[simp] theorem refclk_below_indexed₂ (a k l : Nat) (h : 0x40 ≤ a) :
    0x40 ≤ a + k + l := refclk_below_indexed _ _ (refclk_below_indexed a k h)

@[simp] theorem refclk_setWord (d : Dev) (r v : Nat) (h : 0x40 ≤ r) : (d.setWord r v).word TOP_REFCLK_STATUS = d.word TOP_REFCLK_STATUS :=
  word_setWord_other _ _ _ _ (Nat.ne_of_gt (Nat.lt_of_lt_of_le (by decide) h))

@[simp] theorem refclk_put (d : Dev) (f : Fld) (x : Nat) (h : 0x40 ≤ f.addr) :
    (d.put f x).word TOP_REFCLK_STATUS = d.word TOP_REFCLK_STATUS :=
  word_put_other _ _ _ _ (Nat.ne_of_gt (Nat.lt_of_lt_of_le (by decide) h))

theorem refclk_put_before (d : Dev) (f : Fld) (x : Nat) (h : f.addr < 0x3C) :
    (d.put f x).word TOP_REFCLK_STATUS = d.word TOP_REFCLK_STATUS :=
  word_put_other _ _ _ _ (Nat.ne_of_lt h)

@[simp] theorem refclk_putB (d : Dev) (f : Fld) (b : Bool) (h : 0x40 ≤ f.addr) :
    (d.putB f b).word TOP_REFCLK_STATUS = d.word TOP_REFCLK_STATUS :=
  refclk_put _ _ _ h

@[simp] theorem refclk_putI (d : Dev) (f : Fld) (x : Int) (h : 0x40 ≤ f.addr) :
    (d.putI f x).word TOP_REFCLK_STATUS = d.word TOP_REFCLK_STATUS :=
  refclk_put _ _ _ h

@[simp] theorem refclk_addSat (d : Dev) (f : Fld) (n : Nat) (h : 0x40 ≤ f.addr) :
    (d.addSat f n).word TOP_REFCLK_STATUS = d.word TOP_REFCLK_STATUS :=
  refclk_put _ _ _ h

@[simp] theorem refclk_inc (d : Dev) (f : Fld) (h : 0x40 ≤ f.addr) : (d.inc f).word TOP_REFCLK_STATUS = d.word TOP_REFCLK_STATUS :=
  refclk_put _ _ _ h

/-! ### Event records -/

theorem seesNoPost_refclk (cls : Nat) : SeesNoPost cls (fun d => d.word TOP_REFCLK_STATUS) :=
  seesNoPost_word (r := TOP_REFCLK_STATUS) (by
    simp [ringRegs, TOP_REFCLK_STATUS, EVT_CLASS_COUNTk, EVT_LOST_COUNT, EVT_STATUS, EVT_PROD, EVT_POSTED_COUNT, EVT_HIGH_WATER, MEM_COUNTk]
    omega)

@[simp] theorem refclk_laneTraffic (n : Nat) (b : RBlock) (d : Dev) :
    (d.laneTraffic n b).word TOP_REFCLK_STATUS = d.word TOP_REFCLK_STATUS :=
  (seesNoPost_refclk 0).laneTraffic n b d

@[simp] theorem refclk_slotRoom (j k : Nat) (d : Dev) : (d.slotRoom j k).word TOP_REFCLK_STATUS = d.word TOP_REFCLK_STATUS :=
  (seesNoPost_refclk 0).slotRoom j k d

@[simp] theorem refclk_slotsDone (j k : Nat) (d : Dev) : (d.slotsDone j k).word TOP_REFCLK_STATUS = d.word TOP_REFCLK_STATUS := rfl

@[simp] theorem refclk_wait (w : WaitingAccess) (d : Dev) : (d.wait w).word TOP_REFCLK_STATUS = d.word TOP_REFCLK_STATUS := rfl

@[simp] theorem refclk_slots (j : Nat) (l : List (Nat → RBlock)) (d : Dev) :
    (d.slots j l).word TOP_REFCLK_STATUS = d.word TOP_REFCLK_STATUS :=
  (seesNoPost_refclk 0).slots j l d

@[simp] theorem refclk_linkStream (j : Nat) (l : List RBlock) (d : Dev) :
    (d.linkStream j l).word TOP_REFCLK_STATUS = d.word TOP_REFCLK_STATUS :=
  (seesNoPost_refclk 0).linkStream j l d

@[simp] theorem refclk_unitWritten (u : Nat) (d : Dev) : (d.unitWritten u).word TOP_REFCLK_STATUS = d.word TOP_REFCLK_STATUS :=
  (seesNoPost_refclk 0).unitWritten u d

@[simp] theorem refclk_marchYield (n : Nat) (d : Dev) : (d.marchYield n).word TOP_REFCLK_STATUS = d.word TOP_REFCLK_STATUS :=
  (seesNoPost_refclk 0).marchYield n d

@[simp] theorem refclk_raiseAt (d : Dev) (status enable cls inst b : Nat) (h : 0x40 ≤ status) :
    (d.raiseAt status enable cls inst b).word TOP_REFCLK_STATUS = d.word TOP_REFCLK_STATUS :=
  (seesNoPost_refclk cls).raiseAt d status enable inst b fun e v => refclk_setWord e status v h

@[simp] theorem refclk_flogWrite (d : Dev) (cls code inst : Nat) (data : List Nat) :
    (d.flogWrite cls code inst data).word TOP_REFCLK_STATUS = d.word TOP_REFCLK_STATUS :=
  (seesNoPost_refclk cls).flogWrite d code inst data (fun _ _ => rfl) (fun e v => refclk_setWord e _ v (by decide))
    (fun e v => refclk_setWord e _ v (by decide))

/-! ### Lanes, links and their spares (R372, R375, R387, R497) -/

@[simp] theorem refclk_setLane (n st : Nat) (d : Dev) : (d.setLane n st).word TOP_REFCLK_STATUS = d.word TOP_REFCLK_STATUS := by
  simp only [Dev.setLane, refclk_ite, onLane_word]
  split_ifs <;> simp [LNn_EQ_STATUS, LNn_EQ_STATUS_FROZEN, LNn_STATUS, LNn_STATUS_RXSTATE]

@[simp] theorem refclk_farTake (q : FarRequest) (d : Dev) : (d.farTake q).word TOP_REFCLK_STATUS = d.word TOP_REFCLK_STATUS := by
  simp [Dev.farTake]

@[simp] theorem refclk_storeWhole (a : Nat) (l : List Byte) (d : Dev) :
    (d.storeWhole a l).word TOP_REFCLK_STATUS = d.word TOP_REFCLK_STATUS := by
  simp [Dev.storeWhole]

@[simp] theorem refclk_farEvt (b : Nat) (d : Dev) (inst : Nat) : (d.farEvt b inst).word TOP_REFCLK_STATUS = d.word TOP_REFCLK_STATUS := by
  simp [Dev.farEvt, FAR_EVT_STATUS]

@[simp] theorem refclk_farExhausted (q : FarRequest) (d : Dev) : (d.farExhausted q).word TOP_REFCLK_STATUS = d.word TOP_REFCLK_STATUS := by
  simp [Dev.farExhausted, FAR_STATUS, FAR_STATUS_EXHAUSTED]

@[simp] theorem refclk_spareStart (j k : Nat) (q : Option FarRequest) (d : Dev) :
    (d.spareStart j k q).word TOP_REFCLK_STATUS = d.word TOP_REFCLK_STATUS := by
  simp [Dev.spareStart, LKj_CTRL, LKj_CTRL_SPARE_FOR, LKj_SPARE, LKj_STATUS, LKj_STATUS_SPARE_LANE, LKj_STATUS_SPARE_STATE]

@[simp] theorem refclk_laneWindow (j : Nat) (d : Dev) : (d.laneWindow j).word TOP_REFCLK_STATUS = d.word TOP_REFCLK_STATUS := by
  simp [Dev.laneWindow]

@[simp] theorem refclk_spareFails (j : Nat) (d : Dev) : (d.spareFails j).word TOP_REFCLK_STATUS = d.word TOP_REFCLK_STATUS := by
  simp only [Dev.spareFails, refclk_ite, refclk_laneWindow, onLink_word]
  split
  · split <;> simp [LKj_STATUS, LKj_STATUS_SPARE_STATE]
  · rfl

@[simp] theorem refclk_farLog (q : FarRequest) (target result : Nat) (d : Dev) :
    (d.farLog q target result).word TOP_REFCLK_STATUS = d.word TOP_REFCLK_STATUS := by
  simp [Dev.farLog, FAR_LOG_STATUS, FAR_LOG_STATUS_WRITING]

@[simp] theorem refclk_farRaise (q : FarRequest) (d1 : Dev) : (d1.farRaise q).word TOP_REFCLK_STATUS = d1.word TOP_REFCLK_STATUS := by
  unfold Dev.farRaise
  split
  · rfl
  · split
    · rfl
    · split <;> simp [FAR_ASKk, FAR_STATUS, FAR_STATUS_ASKS, FAR_TRIGk, FAR_TRIGk_V]
    · simp [FAR_FORBID_COUNT, FAR_FORBID_COUNT_V]

@[simp] theorem refclk_farTrigger (q : FarRequest) (d : Dev) : (d.farTrigger q).word TOP_REFCLK_STATUS = d.word TOP_REFCLK_STATUS := by
  simp [Dev.farTrigger, FAR_TRIGk, FAR_TRIGk_V]

@[simp] theorem refclk_lungeTrigger (j : Nat) (d : Dev) : (d.lungeTrigger j).word TOP_REFCLK_STATUS = d.word TOP_REFCLK_STATUS := by
  unfold Dev.lungeTrigger
  split <;> simp

@[simp] theorem refclk_linkFalls (j : Nat) (d : Dev) : (d.linkFalls j).word TOP_REFCLK_STATUS = d.word TOP_REFCLK_STATUS := by
  simp only [Dev.linkFalls]
  split_ifs <;> simp [LKj_COUNTk, LKj_COUNTk_V, LKj_PARTNER2, LKj_PARTNER2_VALID, LKj_STATUS, LKj_STATUS_STATE]

/-! ### Streams and time bases (R89, R93, R148) -/

@[simp] theorem refclk_discardFrame (n : Nat) (d : Dev) : (d.discardFrame n).word TOP_REFCLK_STATUS = d.word TOP_REFCLK_STATUS := by
  simp [Dev.discardFrame]

@[simp] theorem refclk_lockFree (n : Nat) (d : Dev) : (d.lockFree n).word TOP_REFCLK_STATUS = d.word TOP_REFCLK_STATUS := by
  refine refclk_foldS _ _ _ fun h s => ?_
  split <;> simp [LLh_CTRL, LLh_CTRL_STATE]

@[simp] theorem refclk_tpgSwitch (n : Nat) (d : Dev) : (d.tpgSwitch n).word TOP_REFCLK_STATUS = d.word TOP_REFCLK_STATUS := by
  simp [Dev.tpgSwitch]

@[simp] theorem refclk_lastErr (n cause frame line : Nat) (d : Dev) :
    (d.lastErr n cause frame line).word TOP_REFCLK_STATUS = d.word TOP_REFCLK_STATUS := by
  simp [Dev.lastErr, INn_LAST_ERR, INn_LAST_ERR_CAUSE, INn_LAST_ERR_FRAME, INn_LAST_ERR_LINE]

@[simp] theorem refclk_collectAnew (n : Nat) (d : Dev) : (d.collectAnew n).word TOP_REFCLK_STATUS = d.word TOP_REFCLK_STATUS := by
  simp [Dev.collectAnew]

@[simp] theorem refclk_timeEvt (b : Nat) (d : Dev) : (d.timeEvt b).word TOP_REFCLK_STATUS = d.word TOP_REFCLK_STATUS := by
  simp [Dev.timeEvt, TIME_EVT_STATUS]

@[simp] theorem refclk_servoRate (n : Nat) (rate : Int) (d : Dev) :
    (d.servoRate n rate).word TOP_REFCLK_STATUS = d.word TOP_REFCLK_STATUS := by
  simp [Dev.servoRate, TBn_RATE, TBn_RATE_V, TBn_STATUS, TBn_STATUS_CLAMPED]

@[simp] theorem refclk_holdRate (n : Nat) (d : Dev) : (d.holdRate n).word TOP_REFCLK_STATUS = d.word TOP_REFCLK_STATUS := by
  simp [Dev.holdRate]

@[simp] theorem refclk_enterHoldover (n : Nat) (d : Dev) : (d.enterHoldover n).word TOP_REFCLK_STATUS = d.word TOP_REFCLK_STATUS := by
  simp [Dev.enterHoldover, TBn_STATUS, TBn_STATUS_STATE]

@[simp] theorem refclk_servoLost (n : Nat) (d : Dev) : (d.servoLost n).word TOP_REFCLK_STATUS = d.word TOP_REFCLK_STATUS := by
  unfold Dev.servoLost
  split <;> simp [TBn_STATUS, TBn_STATUS_LOST]

@[simp] theorem refclk_inputLost (src : Nat) (d0 : Dev) : (d0.inputLost src).word TOP_REFCLK_STATUS = d0.word TOP_REFCLK_STATUS := by
  unfold Dev.inputLost
  extract_lets d
  have hd : d.word TOP_REFCLK_STATUS = d0.word TOP_REFCLK_STATUS := by simp [d]
  split <;> simp [hd, REF10M_LOSS_COUNT, REF10M_LOSS_COUNT_V, SYNCIN_STATUS, TC_STATUS, TC_STATUS_LTC_VALID, TEAM_TIME_STATUS,
    TEAM_TIME_STATUS_UPSTREAM_VALID]

@[simp] theorem refclk_sourceLost (src arg : Nat) (d : Dev) : (d.sourceLost src arg).word TOP_REFCLK_STATUS = d.word TOP_REFCLK_STATUS := by
  simp [Dev.sourceLost]

@[simp] theorem refclk_streamFrameTimeout (n : Nat) (linkDown : Bool) (d : Dev) :
    (streamFrameTimeout n linkDown d).word TOP_REFCLK_STATUS = d.word TOP_REFCLK_STATUS := by
  simp [streamFrameTimeout, INn_STATUS, INn_STATUS_STATE, INn_TIMEOUT_COUNT, INn_TIMEOUT_COUNT_V]

/-! ### Links that fall (R317, R375) -/

@[simp] theorem refclk_txSync (j : Nat) (d : Dev) : (d.txSync j).word TOP_REFCLK_STATUS = d.word TOP_REFCLK_STATUS := by
  refine refclk_foldS _ _ _ fun n s => ?_
  split_ifs <;> simp [LNn_TX_STATUS, LNn_TX_STATUS_TXSTATE]

@[simp] theorem refclk_mipEvt (b : Nat) (d : Dev) (inst : Nat) : (d.mipEvt b inst).word TOP_REFCLK_STATUS = d.word TOP_REFCLK_STATUS := by
  simp [Dev.mipEvt, MIP_EVT_STATUS]

@[simp] theorem refclk_onMip (h : Nat) (f : MipUnit → MipUnit) (d : Dev) :
    (d.onMip h f).word TOP_REFCLK_STATUS = d.word TOP_REFCLK_STATUS := by
  simp [Dev.onMip]

@[simp] theorem refclk_panelLinkDown (h : Nat) (d : Dev) : (d.panelLinkDown h).word TOP_REFCLK_STATUS = d.word TOP_REFCLK_STATUS := by
  simp [Dev.panelLinkDown, HDn_MIP_STATUS, HDn_MIP_STATUS_LINK_LOST]

@[simp] theorem refclk_linkLost (j : Nat) (d : Dev) : (d.linkLost j).word TOP_REFCLK_STATUS = d.word TOP_REFCLK_STATUS := by
  simp [Dev.linkLost]

@[simp] theorem refclk_linkDrop (j : Nat) (fault : Bool) (d : Dev) :
    (d.linkDrop j fault).word TOP_REFCLK_STATUS = d.word TOP_REFCLK_STATUS := by
  simp [Dev.linkDrop]

@[simp] theorem refclk_laneLeft (n : Nat) (d : Dev) : (d.laneLeft n).word TOP_REFCLK_STATUS = d.word TOP_REFCLK_STATUS := by
  unfold Dev.laneLeft
  split <;> simp

@[simp] theorem refclk_laneGoes (n st : Nat) (d : Dev) : (d.laneGoes n st).word TOP_REFCLK_STATUS = d.word TOP_REFCLK_STATUS := by
  unfold Dev.laneGoes
  extract_lets was d1 d2
  have h2 : d2.word TOP_REFCLK_STATUS = d.word TOP_REFCLK_STATUS := by simp [d2, d1]
  split
  · split <;> simp [h2]
  · exact h2

@[simp] theorem refclk_rxFails (n c : Nat) (d : Dev) : (d.rxFails n c).word TOP_REFCLK_STATUS = d.word TOP_REFCLK_STATUS := by
  simp [Dev.rxFails, LNn_COUNTk, LNn_COUNTk_V]

@[simp] theorem refclk_lockEnds (n : Nat) (d : Dev) : (d.lockEnds n).word TOP_REFCLK_STATUS = d.word TOP_REFCLK_STATUS := by
  simp [Dev.lockEnds, LNn_STATUS, LNn_STATUS_LOCK_LOST]

@[simp] theorem refclk_quadLocks (n : Nat) (on : Bool) (d : Dev) : (d.quadLocks n on).word TOP_REFCLK_STATUS = d.word TOP_REFCLK_STATUS :=
  refclk_foldS _ _ _ fun q s => refclk_put_before _ _ _ (by decide)

@[simp] theorem refclk_ethLockLoss (p : Nat) (fault : EthFault) (d : Dev) :
    (ethLockLoss p fault d).word TOP_REFCLK_STATUS = d.word TOP_REFCLK_STATUS := by
  cases fault <;> simp [ethLockLoss, Ep_COUNTk, Ep_COUNTk_V, Ep_STATUS, Ep_STATUS_HI_BER, Ep_STATUS_LINK_UP, Ep_STATUS_LOCAL_FAULT,
    Ep_STATUS_REMOTE_FAULT]

/-! ### The mode -/

@[simp] theorem refclk_modeTimed (d : Dev) : d.modeTimed.word TOP_REFCLK_STATUS = d.word TOP_REFCLK_STATUS := by
  simp [Dev.modeTimed, TOP_MODE_TIME_Sk, TOP_MODE_TIME_Sk_V]

@[simp] theorem refclk_setMode (m : Nat) (d : Dev) : (d.setMode m).word TOP_REFCLK_STATUS = d.word TOP_REFCLK_STATUS := by
  simp only [Dev.setMode, refclk_ite]
  split
  · rfl
  · rw [refclk_inc _ _ (by simp [TOP_MODE_COUNTk_V, TOP_MODE_COUNTk]), Dev.putB, refclk_put_before _ _ _ (by decide),
      refclk_put_before _ _ _ (by decide), refclk_modeTimed]

/-! ### Engines, stripes and substitutions (R175, R200, R201) -/

@[simp] theorem refclk_setRecord (h i v : Nat) (d : Dev) : (d.setRecord h i v).word TOP_REFCLK_STATUS = d.word TOP_REFCLK_STATUS := by
  simp [Dev.setRecord]

@[simp] theorem refclk_recPut (h i : Nat) (l : List (Nat × Nat × Nat)) (d : Dev) :
    (d.recPut h i l).word TOP_REFCLK_STATUS = d.word TOP_REFCLK_STATUS := by
  simp [Dev.recPut]

@[simp] theorem refclk_balanceZero (c : Nat) (d : Dev) : (d.balanceZero c).word TOP_REFCLK_STATUS = d.word TOP_REFCLK_STATUS := by
  simp [Dev.balanceZero, COMc_BALANCE, COMc_BALANCE_V]

@[simp] theorem refclk_engineSync (d : Dev) : d.engineSync.word TOP_REFCLK_STATUS = d.word TOP_REFCLK_STATUS :=
  word_engineSync d TOP_REFCLK_STATUS (.inl (by decide)) (by decide)

@[simp] theorem refclk_engineRole (h j s : Nat) (e : StageEntry) (k : Nat) (d : Dev) :
    (d.engineRole h j s e k).word TOP_REFCLK_STATUS = d.word TOP_REFCLK_STATUS := by
  unfold Dev.engineRole
  split
  simp [SEk_STATUS, SEk_STATUS_HEAD, SEk_STATUS_STATE, SEk_STATUS_STRIPE, SEk_STATUS_STRIPES, SEk_STATUS_TYPE, SEk_STRIPE,
    SEk_STRIPE_FIRST, SEk_STRIPE_WIDTH]

@[simp] theorem refclk_stripeSync (h : Nat) (d : Dev) : (d.stripeSync h).word TOP_REFCLK_STATUS = d.word TOP_REFCLK_STATUS :=
  refclk_foldl _ _ _ fun _ _ => refclk_foldl _ _ _ fun _ _ => refclk_engineRole ..

@[simp] theorem refclk_engineFree (k st : Nat) (d : Dev) : (d.engineFree k st).word TOP_REFCLK_STATUS = d.word TOP_REFCLK_STATUS := by
  simp [Dev.engineFree, SEk_STATUS, SEk_STATUS_HEAD, SEk_STATUS_STATE, SEk_STATUS_STRIPE, SEk_STATUS_STRIPES, SEk_STATUS_TYPE, SEk_STRIPE]

@[simp] theorem refclk_farUse (l : FarLog) (d : Dev) : (d.farUse l).word TOP_REFCLK_STATUS = d.word TOP_REFCLK_STATUS := by
  simp [Dev.farUse, FAR_INVk, FAR_INVk_USED]

@[simp] theorem refclk_farSubstituted (q : FarRequest) (target : Nat) (d : Dev) (inst : Nat) :
    (d.farSubstituted q target inst).word TOP_REFCLK_STATUS = d.word TOP_REFCLK_STATUS := by
  simp [Dev.farSubstituted, FAR_SUB_LASTk, FAR_SUB_TIME, FAR_SUB_TIME_V, FAR_SUBk, FAR_SUBk_V]

@[simp] theorem refclk_subSwap (from' to' h result : Nat) (d : Dev) :
    (d.subSwap from' to' h result).word TOP_REFCLK_STATUS = d.word TOP_REFCLK_STATUS := by
  unfold Dev.subSwap
  extract_lets q d1 d2 d3 first d4 d5
  have h4 : d4.word TOP_REFCLK_STATUS = d.word TOP_REFCLK_STATUS := by
    simp [d4, d3, d2, d1, FAB_SUB_COUNT, FAB_SUB_COUNT_V, FAB_SUB_LAST, FAB_SUB_LAST_FRAME, FAB_SUB_LAST_FROM, FAB_SUB_LAST_RESULT,
      FAB_SUB_LAST_TO, FAB_SUB_LAST_VALID]
  have h5 : d5.word TOP_REFCLK_STATUS = d.word TOP_REFCLK_STATUS := by
    cases hq : q with
    | none => simp only [d5, hq, h4]
    | some q => simp only [d5, hq, refclk_farSubstituted, h4]
  rw [refclk_engineSync, h5]

@[simp] theorem refclk_subWhole (result : Nat) (q : FarRequest) (h : Nat) (d : Dev) :
    (d.subWhole result q h).word TOP_REFCLK_STATUS = d.word TOP_REFCLK_STATUS := by
  unfold Dev.subWhole
  split <;> simp [FAB_STATUS, FAB_STATUS_SUB_FROM, FAB_STATUS_SUB_HEAD, FAB_STATUS_SUB_TO]

theorem refclk_subNow_go (h n : Nat) (d : Dev) : (Dev.subNow.go h n d).word TOP_REFCLK_STATUS = d.word TOP_REFCLK_STATUS := by
  induction n generalizing d with
  | zero => rfl
  | succ n ih =>
    rw [Dev.subNow.go]
    split
    · split
      · rw [ih, refclk_subWhole]
      · rfl
    · rfl

@[simp] theorem refclk_subNow (h : Nat) (d : Dev) : (d.subNow h).word TOP_REFCLK_STATUS = d.word TOP_REFCLK_STATUS := by
  rw [Dev.subNow, refclk_subNow_go, refclk_engineSync]

/-! ### The fabric of a head and the re-tack (R64, R216, R226) -/

@[simp] theorem refclk_fabricApplied (h : Nat) (d : Dev) : (d.fabricApplied h).word TOP_REFCLK_STATUS = d.word TOP_REFCLK_STATUS := by
  simp [Dev.fabricApplied, STh_FORMAT_SEG, STh_FORMAT_SEG_LINKS, STh_FORMAT_SEG_WIDTH, STh_SCALE_HRATIO, STh_SCALE_HRATIO_V,
    STh_SCALE_VRATIO, STh_SCALE_VRATIO_V]

@[simp] theorem refclk_onFab (h : Nat) (f : FabricUnit → FabricUnit) (d : Dev) :
    (d.onFab h f).word TOP_REFCLK_STATUS = d.word TOP_REFCLK_STATUS := by
  simp [Dev.onFab]

@[simp] theorem refclk_odSync (d : Dev) : d.odSync.word TOP_REFCLK_STATUS = d.word TOP_REFCLK_STATUS := by
  unfold Dev.odSync
  extract_lets d1
  rw [refclk_put _ _ _ (by simp [FAB_CORR_BUILD_PENDING, FAB_CORR_BUILD])]
  refine refclk_foldS _ _ _ fun h s => ?_
  split
  · split <;> simp [Dev.onFab, FAB_CORR_BUILD, FAB_CORR_BUILD_BUSY, STh_OD_STATUS, STh_OD_STATUS_BUILDING]
  · rfl

@[simp] theorem refclk_odMoved (h : Nat) (d : Dev) : (d.odMoved h).word TOP_REFCLK_STATUS = d.word TOP_REFCLK_STATUS := by
  simp [Dev.odMoved, FAB_CORR_BUILD, FAB_CORR_BUILD_BUSY, STh_OD_STATUS, STh_OD_STATUS_BUILDING, STh_OD_STATUS_TABLE]

@[simp] theorem refclk_headApply (h : Nat) (x : HeadImage) (d : Dev) :
    (d.headApply h x).word TOP_REFCLK_STATUS = d.word TOP_REFCLK_STATUS := by
  simp only [Dev.headApply, refclk_ite]
  split_ifs <;> simp [TACK_HEADn, TACK_HEADn_CLASS, TACK_HEADn_HPLL, TACK_HEADn_LINEMEM_BASE, TACK_HEADn_LINEMEM_UNITS,
    TACK_HEADn_PRESENT, TACK_LEDGERn, TACK_LEDGERn_BASE, TACK_LEDGERn_UNITS]

@[simp] theorem refclk_fullTiles (h : Nat) (p : Nat → Bool) (d : Dev) :
    (d.fullTiles h p).word TOP_REFCLK_STATUS = d.word TOP_REFCLK_STATUS := by
  simp [Dev.fullTiles, HDn_MIP_STATUS, HDn_MIP_STATUS_FULL_PENDING]

@[simp] theorem refclk_fullPush (h : Nat) (d : Dev) : (d.fullPush h).word TOP_REFCLK_STATUS = d.word TOP_REFCLK_STATUS := by
  simp [Dev.fullPush]

@[simp] theorem refclk_shareFresh (h : Nat) (d : Dev) : (d.shareFresh h).word TOP_REFCLK_STATUS = d.word TOP_REFCLK_STATUS := by
  simp [Dev.shareFresh]

@[simp] theorem refclk_attempt (source cause inst : Nat) (d : Dev) :
    (d.attempt source cause inst).word TOP_REFCLK_STATUS = d.word TOP_REFCLK_STATUS := by
  simp [Dev.attempt, TACK_ATTEMPTn, TACK_STATUS, TACK_STATUS_ATTEMPTS, TACK_STATUS_CAUSE]

@[simp] theorem refclk_rtModeBack (d : Dev) : d.rtModeBack.word TOP_REFCLK_STATUS = d.word TOP_REFCLK_STATUS := by
  simp [Dev.rtModeBack]

@[simp] theorem refclk_rtApply (h : Nat) (stopped : Bool) (frame : Nat) (d : Dev) :
    (d.rtApply h stopped frame).word TOP_REFCLK_STATUS = d.word TOP_REFCLK_STATUS := by
  simp [Dev.rtApply, FAR_INVk, FAR_INVk_TOTAL, MIP_WT_STATUS, MIP_WT_STATUS_VALID, TACK_RT_FRAME, TACK_RT_FRAME_FRAME,
    TACK_RT_FRAME_STOPPED, TACK_RT_FRAME_VALID, TACK_RT_STATUS, TACK_RT_STATUS_STATE]

@[simp] theorem refclk_rtAtRest (h : Nat) (d : Dev) : (d.rtAtRest h).word TOP_REFCLK_STATUS = d.word TOP_REFCLK_STATUS := by
  simp [Dev.rtAtRest]

@[simp] theorem refclk_ack (h : Nat) (stopped : Bool) (result frame : Nat) (d : Dev) :
    (d.ack h stopped result frame).word TOP_REFCLK_STATUS = d.word TOP_REFCLK_STATUS := by
  simp [Dev.ack, HDn_COMMIT_ACK, HDn_COMMIT_ACK_FRAME, HDn_COMMIT_ACK_RESULT, HDn_COMMIT_ACK_STOPPED, HDn_COMMIT_ACK_VALID]

@[simp] theorem refclk_haltArm (d : Dev) : d.haltArm.word TOP_REFCLK_STATUS = d.word TOP_REFCLK_STATUS := by
  simp [Dev.haltArm, MIP_HALT_STATUS, MIP_HALT_STATUS_ARMED]

@[simp] theorem refclk_setBand (h b : Nat) (count : Bool) (d : Dev) :
    (d.setBand h b count).word TOP_REFCLK_STATUS = d.word TOP_REFCLK_STATUS := by
  simp only [Dev.setBand, refclk_ite]
  split_ifs <;> simp [BANDh_CHANGE_COUNT, BANDh_CHANGE_COUNT_V, BANDh_STATUS, BANDh_STATUS_TRACKER]

@[simp] theorem refclk_bandReinit (h : Nat) (d : Dev) : (d.bandReinit h).word TOP_REFCLK_STATUS = d.word TOP_REFCLK_STATUS := by
  simp [Dev.bandReinit]

@[simp] theorem refclk_fabricChanged (h : Nat) (od : Bool) (d old : Dev) :
    (d.fabricChanged h od old).word TOP_REFCLK_STATUS = d.word TOP_REFCLK_STATUS := by
  simp [Dev.fabricChanged, BANDh_STATUS, BANDh_STATUS_FORCED, STh_OD_STATUS, STh_OD_STATUS_BUILDING]

@[simp] theorem refclk_mipApplied (h : Nat) (d old : Dev) : (d.mipApplied h old).word TOP_REFCLK_STATUS = d.word TOP_REFCLK_STATUS := by
  simp [Dev.mipApplied, HDn_MIP_RB_STATUS, HDn_MIP_RB_STATUS_ACTIVE, HDn_MIP_RB_STATUS_FAIL]

@[simp] theorem refclk_applyWords (h : Nat) (d : Dev) : (d.applyWords h).word TOP_REFCLK_STATUS = d.word TOP_REFCLK_STATUS := by
  simp [Dev.applyWords]

@[simp] theorem refclk_mipApplyStopped (h : Nat) (d : Dev) : (d.mipApplyStopped h).word TOP_REFCLK_STATUS = d.word TOP_REFCLK_STATUS := by
  simp [Dev.mipApplyStopped, HDn_SHADOW_STATE, HDn_SHADOW_STATE_V]

@[simp] theorem refclk_restSet (h : Nat) (d : Dev) : (d.restSet h).word TOP_REFCLK_STATUS = d.word TOP_REFCLK_STATUS := by
  simp [Dev.restSet]

@[simp] theorem refclk_mipCounts (h : Nat) (d : Dev) : (d.mipCounts h).word TOP_REFCLK_STATUS = d.word TOP_REFCLK_STATUS := by
  simp [Dev.mipCounts, HDn_MIP_ACTIVE, HDn_MIP_ACTIVE_V, HDn_MIP_DIRTY, HDn_MIP_DIRTY_V, HDn_MIP_PENDING, HDn_MIP_PENDING_V]

@[simp] theorem refclk_onPanel (h : Nat) (f : PanelUnit → PanelUnit) (d : Dev) :
    (d.onPanel h f).word TOP_REFCLK_STATUS = d.word TOP_REFCLK_STATUS := by
  simp [Dev.onPanel]

/-! ### Calibration and panels (R341, R345, R486, R490) -/

@[simp] theorem refclk_calEnded (i abort reason : Nat) (d : Dev) :
    (d.calEnded i abort reason).word TOP_REFCLK_STATUS = d.word TOP_REFCLK_STATUS := by
  simp [Dev.calEnded, CAL_ITEMi, CAL_ITEMi_ABORT, CAL_LAST, CAL_LAST_ABORT, CAL_LAST_ITEM, CAL_LAST_REASON, CAL_LAST_VALID]

@[simp] theorem refclk_calSync (d : Dev) : d.calSync.word TOP_REFCLK_STATUS = d.word TOP_REFCLK_STATUS := by
  simp [Dev.calSync, CAL_STATUS, CAL_STATUS_BUSY, CAL_STATUS_ITEM]

@[simp] theorem refclk_calEvt (b : Nat) (d : Dev) : (d.calEvt b).word TOP_REFCLK_STATUS = d.word TOP_REFCLK_STATUS := by
  simp [Dev.calEvt, CAL_EVT_STATUS]

@[simp] theorem refclk_calAbort (i abort reason : Nat) (d : Dev) :
    (d.calAbort i abort reason).word TOP_REFCLK_STATUS = d.word TOP_REFCLK_STATUS := by
  simp [Dev.calAbort, CAL_COUNTk, CAL_COUNTk_V, CAL_ITEMi, CAL_ITEMi_STATE]

@[simp] theorem refclk_calCancel (p : Nat → Bool) (d : Dev) : (d.calCancel p).word TOP_REFCLK_STATUS = d.word TOP_REFCLK_STATUS := by
  simp [Dev.calCancel]

@[simp] theorem refclk_calCancelHead (h : Nat) (d : Dev) : (d.calCancelHead h).word TOP_REFCLK_STATUS = d.word TOP_REFCLK_STATUS := by
  simp [Dev.calCancelHead]

@[simp] theorem refclk_setPanel (h st : Nat) (d : Dev) : (d.setPanel h st).word TOP_REFCLK_STATUS = d.word TOP_REFCLK_STATUS := by
  simp [Dev.setPanel, HAR_STATUS, HAR_STATUS_PANELS_ON, PANELh_CTRL, PANELh_CTRL_V, PANELh_STATUS, PANELh_STATUS_STATE]

@[simp] theorem refclk_drive (p : Nat) (high : Bool) (d : Dev) : (d.drive p high).word TOP_REFCLK_STATUS = d.word TOP_REFCLK_STATUS := by
  simp [Dev.drive]

@[simp] theorem refclk_park (h : Nat) (d : Dev) : (d.park h).word TOP_REFCLK_STATUS = d.word TOP_REFCLK_STATUS := by
  simp [Dev.park]

@[simp] theorem refclk_comDown (c : Nat) (d : Dev) : (d.comDown c).word TOP_REFCLK_STATUS = d.word TOP_REFCLK_STATUS := by
  simp [Dev.comDown, BIASc_STATUS, BIASc_STATUS_SLEWING, COMc_STATUS, COMc_STATUS_LEVEL]

@[simp] theorem refclk_rampDown (h cause : Nat) (d : Dev) : (d.rampDown h cause).word TOP_REFCLK_STATUS = d.word TOP_REFCLK_STATUS := by
  simp [Dev.rampDown]

/-! ### Heads that stop: frames, records, bands and commands (R217, R258, R286) -/

@[simp] theorem refclk_mipStopped (h : Nat) (d : Dev) : (d.mipStopped h).word TOP_REFCLK_STATUS = d.word TOP_REFCLK_STATUS := by
  simp [Dev.mipStopped, HDn_MIP_RB_STATUS, HDn_MIP_RB_STATUS_ACTIVE, HDn_MIP_STATUS, HDn_MIP_STATUS_FULL_PENDING,
    HDn_MIP_STATUS_PASS_BUSY, HDn_STATUS, HDn_STATUS_STATE]

@[simp] theorem refclk_countDown (h frame : Nat) (d : Dev) : (d.countDown h frame).word TOP_REFCLK_STATUS = d.word TOP_REFCLK_STATUS := by
  simp [Dev.countDown, FAR_DOWN_LASTh, FAR_DOWN_LASTh_CAUSE, FAR_DOWN_LASTh_FRAME, FAR_DOWN_LASTh_VALID, FAR_DOWNh, FAR_DOWNh_V]

@[simp] theorem refclk_recordPush (h : Nat) (r : FrameRec) (d : Dev) :
    (d.recordPush h r).word TOP_REFCLK_STATUS = d.word TOP_REFCLK_STATUS := by
  simp [Dev.recordPush, HDn_REC_STATUS, HDn_REC_STATUS_LEVEL, HDn_REC_STATUS_LOST]

@[simp] theorem refclk_elemRetired (i e : Nat) (d : Dev) : (d.elemRetired i e).word TOP_REFCLK_STATUS = d.word TOP_REFCLK_STATUS := by
  simp [Dev.elemRetired, CAL_COUNTk, CAL_COUNTk_V, FAR_ELEMk, FAR_ELEMk_V]

@[simp] theorem refclk_realise (i : Nat) (d : Dev) : (d.realise i).word TOP_REFCLK_STATUS = d.word TOP_REFCLK_STATUS := by
  simp only [Dev.realise, refclk_ite]
  split_ifs
  · simp [BIASc_SETk, BIASc_SETk_COMBO, BIASc_SETk_ELEMENT, BIASc_SETk_TAP, BIASc_SETk_TRIM, BIASc_SETk_TRIMMED]
  · simp [GMAk_SET, GMAk_SET_CODE, GMAk_SET_ELEMENT, GMAk_SET_TRIM, GMAk_SET_TRIMMED]
  · rfl
  · rfl

@[simp] theorem refclk_calSwapAsked (r : CalResult) (d : Dev) : (d.calSwapAsked r).word TOP_REFCLK_STATUS = d.word TOP_REFCLK_STATUS := by
  unfold Dev.calSwapAsked
  dsimp only
  split
  · rfl
  · split <;> simp [CAL_COUNTk, CAL_COUNTk_V, CAL_ITEMi, CAL_ITEMi_ELEMENT, CAL_ITEMi_RESIDUAL, CAL_ITEMi_SPARE_OK, CAL_ITEMi_TRIMMED,
    CAL_STORE_STATUS, CAL_STORE_STATUS_DIRTY]

@[simp] theorem refclk_calApply (r : CalResult) (d : Dev) : (d.calApply r).word TOP_REFCLK_STATUS = d.word TOP_REFCLK_STATUS := by
  simp [Dev.calApply, CAL_COUNTk, CAL_COUNTk_V, CAL_ITEMi, CAL_ITEMi_ELEMENT, CAL_ITEMi_RESIDUAL, CAL_ITEMi_SPARE_OK, CAL_ITEMi_STATE,
    CAL_ITEMi_TRIMMED, CAL_ITEMi_T_LAST, CAL_STORE_STATUS, CAL_STORE_STATUS_DIRTY]

@[simp] theorem refclk_calApplyAt (p : Nat → Bool) (d : Dev) : (d.calApplyAt p).word TOP_REFCLK_STATUS = d.word TOP_REFCLK_STATUS := by
  simp [Dev.calApplyAt]

@[simp] theorem refclk_gmaLevel (k : Nat) (d : Dev) : (d.gmaLevel k).word TOP_REFCLK_STATUS = d.word TOP_REFCLK_STATUS := by
  simp [Dev.gmaLevel]

@[simp] theorem refclk_vcomRLevel (d : Dev) : d.vcomRLevel.word TOP_REFCLK_STATUS = d.word TOP_REFCLK_STATUS := by
  simp [Dev.vcomRLevel]

@[simp] theorem refclk_gammaCommit (h : Nat) (d : Dev) : (d.gammaCommit h).word TOP_REFCLK_STATUS = d.word TOP_REFCLK_STATUS := by
  simp [Dev.gammaCommit]

@[simp] theorem refclk_recFlag (h b : Nat) (d : Dev) : (d.recFlag h b).word TOP_REFCLK_STATUS = d.word TOP_REFCLK_STATUS := by
  simp [Dev.recFlag]

@[simp] theorem refclk_odChoose (h : Nat) (d : Dev) : (d.odChoose h).word TOP_REFCLK_STATUS = d.word TOP_REFCLK_STATUS := by
  unfold Dev.odChoose
  split
  · rfl
  · dsimp only
    split <;> simp [STh_OD_STALE_COUNT, STh_OD_STALE_COUNT_V, STh_OD_STATUS, STh_OD_STATUS_TABLE, STh_OD_STATUS_TABLE_BAND,
      STh_OD_STATUS_TABLE_BUF]

@[simp] theorem refclk_bandLatch (h : Nat) (d : Dev) : (d.bandLatch h).word TOP_REFCLK_STATUS = d.word TOP_REFCLK_STATUS := by
  simp [Dev.bandLatch, BANDh_STATUS, BANDh_STATUS_LATCHED]

@[simp] theorem refclk_ditherCommit (h : Nat) (d : Dev) : (d.ditherCommit h).word TOP_REFCLK_STATUS = d.word TOP_REFCLK_STATUS := by
  simp [Dev.ditherCommit, STh_DITHER_STATUS, STh_DITHER_STATUS_FROZEN, STh_DITHER_STATUS_PHASE]

@[simp] theorem refclk_cmdDone (h result : Nat) (d : Dev) : (d.cmdDone h result).word TOP_REFCLK_STATUS = d.word TOP_REFCLK_STATUS := by
  simp [Dev.cmdDone, HDn_CMD_STATUS, HDn_CMD_STATUS_RESULT, HDn_CMD_STATUS_STATE]

@[simp] theorem refclk_cmdSend (h : Nat) (d : Dev) : (d.cmdSend h).word TOP_REFCLK_STATUS = d.word TOP_REFCLK_STATUS := by
  unfold Dev.cmdSend
  split
  · split
    · simp
    · split
      · simp
      · dsimp only
        split <;> simp [HDn_CMD_STATUS, HDn_CMD_STATUS_STATE]
  · rfl

@[simp] theorem refclk_cmdRelease (h : Nat) (d : Dev) : (d.cmdRelease h).word TOP_REFCLK_STATUS = d.word TOP_REFCLK_STATUS := by
  simp [Dev.cmdRelease]

@[simp] theorem refclk_edges (h f n : Nat) (d : Dev) : (d.edges h f n).word TOP_REFCLK_STATUS = d.word TOP_REFCLK_STATUS := by
  unfold Dev.edges
  extract_lets waves ends d1
  rw [onHead_word]
  refine refclk_foldS _ _ _ fun p s => ?_
  dsimp only
  split <;> simp

@[simp] theorem refclk_frameClosed (h : Nat) (abort : Option Nat) (ext : Nat) (d : Dev) :
    (d.frameClosed h abort ext).word TOP_REFCLK_STATUS = d.word TOP_REFCLK_STATUS := by
  simp [Dev.frameClosed, HDn_POSITION, HDn_POSITION_LINE, HDn_STATUS, HDn_STATUS_IDLE]

@[simp] theorem refclk_sendUpLinks (h : Nat) (blocks : List RBlock) (d : Dev) :
    (d.sendUpLinks h blocks).word TOP_REFCLK_STATUS = d.word TOP_REFCLK_STATUS := by
  simp [Dev.sendUpLinks]

@[simp] theorem refclk_frameMark (h kind f arg : Nat) (d : Dev) :
    (d.frameMark h kind f arg).word TOP_REFCLK_STATUS = d.word TOP_REFCLK_STATUS := by
  simp [Dev.frameMark]

@[simp] theorem refclk_onTs (h : Nat) (f : TsUnit → TsUnit) (d : Dev) : (d.onTs h f).word TOP_REFCLK_STATUS = d.word TOP_REFCLK_STATUS := by
  simp [Dev.onTs]

@[simp] theorem refclk_tsClose (h : Nat) (d : Dev) : (d.tsClose h).word TOP_REFCLK_STATUS = d.word TOP_REFCLK_STATUS := by
  simp [Dev.tsClose]

/-! ### Memory: the correction log, the banks and the waiting accesses (R428 to R448) -/

@[simp] theorem refclk_clogStamp (k : Nat) (d : Dev) : (d.clogStamp k).word TOP_REFCLK_STATUS = d.word TOP_REFCLK_STATUS := by
  simp [Dev.clogStamp]

@[simp] theorem refclk_memEvt (b : Nat) (d : Dev) : (d.memEvt b).word TOP_REFCLK_STATUS = d.word TOP_REFCLK_STATUS := by
  simp [Dev.memEvt, MEM_EVT_STATUS]

@[simp] theorem refclk_rowRepair (p : Nat) (d : Dev) : (d.rowRepair p).word TOP_REFCLK_STATUS = d.word TOP_REFCLK_STATUS := by
  unfold Dev.rowRepair
  extract_lets q d1 d2
  have h1 : d1.word TOP_REFCLK_STATUS = d.word TOP_REFCLK_STATUS := refclk_farRaise q d
  have h2 : d2.word TOP_REFCLK_STATUS = d.word TOP_REFCLK_STATUS := by simp [d2, h1, MEM_SPARE_STATUS, MEM_SPARE_STATUS_PPR_PENDING]
  split
  · rfl
  · split
    · exact (refclk_memu d2 _ _).trans h2
    · exact h1

@[simp] theorem refclk_hardFault (a : Nat) (d : Dev) : (d.hardFault a).word TOP_REFCLK_STATUS = d.word TOP_REFCLK_STATUS := by
  unfold Dev.hardFault
  extract_lets d1 d2 q
  have h2 : d2.word TOP_REFCLK_STATUS = d.word TOP_REFCLK_STATUS := by
    rw [refclk_flogWrite, refclk_memEvt, refclk_inc _ _ (by simp [MEM_COUNTk, MEM_COUNTk_V])]
  clear_value q d2
  split <;> simp [h2, FAR_TRIGk, FAR_TRIGk_V]

@[simp] theorem refclk_clogHard (k a : Nat) (d : Dev) : (d.clogHard k a).word TOP_REFCLK_STATUS = d.word TOP_REFCLK_STATUS := by
  simp only [Dev.clogHard, refclk_ite]
  split_ifs <;> simp [MEM_CLOGk_INFO, MEM_CLOGk_INFO_HARD]

@[simp] theorem refclk_clogLog (a : Nat) (e : Ecc) (d : Dev) : (d.clogLog a e).word TOP_REFCLK_STATUS = d.word TOP_REFCLK_STATUS := by
  have hmemu (s : Dev) (m : MemUnit) (hs : s.word TOP_REFCLK_STATUS = d.word TOP_REFCLK_STATUS) :
      Dev.word { s with memu := m } TOP_REFCLK_STATUS = d.word TOP_REFCLK_STATUS := hs
  have huncorr (s : Dev) (k : Nat) : (s.putB (MEM_CLOGk_INFO_UNCORR k) true).word TOP_REFCLK_STATUS = s.word TOP_REFCLK_STATUS :=
    refclk_putB _ _ _ (by simp [MEM_CLOGk_INFO_UNCORR, MEM_CLOGk_INFO])
  unfold Dev.clogLog
  split
  · split
    · rfl
    · rfl
    · dsimp only
      split <;> simp [MEM_CLOGk_INFO_COUNT, MEM_CLOGk_INFO]
    · rw [refclk_clogHard, huncorr]
    · rw [refclk_ite]
      split
      · exact (refclk_clogHard _ _ _).trans (hmemu _ _ (huncorr _ _))
      · exact hmemu _ _ (huncorr _ _)
  · split
    · rfl
    · generalize d.clogSlot = p
      obtain ⟨k, evict⟩ := p
      dsimp only
      split
      · refine hmemu _ _ ?_
        simp [MEM_CLOGk_ADDR, MEM_CLOGk_INFO, MEM_CLOG_USED_V, MEM_CLOG_USED, MEM_COUNTk_V, MEM_COUNTk]
      · rw [refclk_clogHard, huncorr]
        refine hmemu _ _ ?_
        simp [MEM_CLOGk_ADDR, MEM_CLOGk_INFO, MEM_CLOG_USED_V, MEM_CLOG_USED, MEM_COUNTk_V, MEM_COUNTk]
      · rw [huncorr]
        refine hmemu _ _ ?_
        simp [MEM_CLOGk_ADDR, MEM_CLOGk_INFO, MEM_CLOG_USED_V, MEM_CLOG_USED, MEM_COUNTk_V, MEM_COUNTk]

@[simp] theorem refclk_eccSeen (a agent : Nat) (e : Ecc) (d : Dev) :
    (d.eccSeen a agent e).word TOP_REFCLK_STATUS = d.word TOP_REFCLK_STATUS := by
  unfold Dev.eccSeen
  extract_lets base info capture d1 d2 d3
  have hc (w : Nat) (s : Dev) : (capture w s).word TOP_REFCLK_STATUS = s.word TOP_REFCLK_STATUS := by
    simp [capture, MEM_ERR_ADDR_HI, MEM_ERR_ADDR_HI_V, MEM_ERR_ADDR_LO, MEM_ERR_ADDR_LO_V, MEM_ERR_INFO]
  have h2 : d2.word TOP_REFCLK_STATUS = d.word TOP_REFCLK_STATUS := by
    simp only [d2, refclk_ite]
    split <;> simp [d1, MEM_CHc_ECC_COUNT, MEM_CHc_ECC_COUNT_V, MEM_COUNTk, MEM_COUNTk_V]
  have h3 : d3.word TOP_REFCLK_STATUS = d.word TOP_REFCLK_STATUS := by simp [d3, MEM_COUNTk, MEM_COUNTk_V]
  split
  · rfl
  · split <;> simp [MEM_CHc_LINK_COUNT, MEM_CHc_LINK_COUNT_V]
  · rw [refclk_clogLog, hc, h2]
  · simp [hc, MEM_COUNTk, MEM_COUNTk_V]
  · simp [hc, h3]

@[simp] theorem refclk_readUnits (agent : Nat) (errs : List (Nat × Ecc)) (l : List Nat) (d : Dev) :
    (d.readUnits agent errs l).2.word TOP_REFCLK_STATUS = d.word TOP_REFCLK_STATUS := by
  induction l generalizing d with
  | nil => rfl
  | cons u r ih =>
    rw [Dev.readUnits]
    dsimp only
    rw [ih]
    split <;> simp

@[simp] theorem refclk_writeUnit (agent a : Nat) (bytes : List Byte) (errs : List (Nat × Ecc)) (u : Nat) (d : Dev) :
    (d.writeUnit agent a bytes errs u).word TOP_REFCLK_STATUS = d.word TOP_REFCLK_STATUS := by
  unfold Dev.writeUnit
  extract_lets lo hi part
  split
  · simp
  · dsimp only
    split <;> simp [MEM_COUNTk, MEM_COUNTk_V]

@[simp] theorem refclk_writeUnits (agent a : Nat) (bytes : List Byte) (errs : List (Nat × Ecc)) (d : Dev) :
    (d.writeUnits agent a bytes errs).word TOP_REFCLK_STATUS = d.word TOP_REFCLK_STATUS := by
  simp [Dev.writeUnits]

@[simp] theorem refclk_violation (n a : Nat) (d : Dev) : (d.violation n a).word TOP_REFCLK_STATUS = d.word TOP_REFCLK_STATUS := by
  simp [Dev.violation, SBn_STATUS, SBn_STATUS_VIOL, SBn_VIOL_ADDR, SBn_VIOL_ADDR_V, SBn_VIOL_COUNT, SBn_VIOL_COUNT_V]

@[simp] theorem refclk_agentPiece (agent a : Nat) (bytes : List Byte) (d : Dev) :
    (d.agentPiece agent a bytes).word TOP_REFCLK_STATUS = d.word TOP_REFCLK_STATUS := by
  unfold Dev.agentPiece
  split <;> simp

@[simp] theorem refclk_putUnit (agent : Nat) (cells : List (Nat × Byte)) (u : Nat) (d : Dev) :
    (d.putUnit agent cells u).word TOP_REFCLK_STATUS = d.word TOP_REFCLK_STATUS := by
  unfold Dev.putUnit
  extract_lets mine put
  have hput (s : Dev) : (put s).word TOP_REFCLK_STATUS = s.word TOP_REFCLK_STATUS := by simp [put]
  split
  · exact hput d
  · dsimp only
    split <;> simp [hput, MEM_COUNTk, MEM_COUNTk_V]

@[simp] theorem refclk_storePortA (b : Nat) (portA : List (Nat × Byte)) (d : Dev) :
    (d.storePortA b portA).word TOP_REFCLK_STATUS = d.word TOP_REFCLK_STATUS := by
  simp [Dev.storePortA]

@[simp] theorem refclk_hostFetch (a n : Nat) (x : HostReads) (d : Dev) :
    (d.hostFetch a n x).2.word TOP_REFCLK_STATUS = d.word TOP_REFCLK_STATUS := by
  unfold Dev.hostFetch
  split
  · dsimp only
    split
    · rfl
    · split
      · rfl
      · split <;> simp
  · split <;> simp
  · simp
  · simp
  · rfl

@[simp] theorem refclk_hostReadPiece (a n : Nat) (x : HostReads) (d : Dev) :
    (d.hostReadPiece a n x).word TOP_REFCLK_STATUS = d.word TOP_REFCLK_STATUS := by
  unfold Dev.hostReadPiece
  extract_lets d0
  have hf : (d0.hostFetch a n x).2.word TOP_REFCLK_STATUS = d.word TOP_REFCLK_STATUS := by
    rw [refclk_hostFetch]
    simp only [d0, refclk_ite]
    split <;> simp [HOST_ERR_COUNTk, HOST_ERR_COUNTk_V]
  rw [← hf]
  split <;> simp [*]

@[simp] theorem refclk_hostRead (a n : Nat) (x : HostReads) (d : Dev) :
    (d.hostRead a n x).word TOP_REFCLK_STATUS = d.word TOP_REFCLK_STATUS := by
  simp [Dev.hostRead]

@[simp] theorem refclk_collide (a n : Nat) (portA : List (Nat × Byte)) (d : Dev) :
    (d.collide a n portA).word TOP_REFCLK_STATUS = d.word TOP_REFCLK_STATUS := by
  unfold Dev.collide
  extract_lets b
  clear_value b
  exact refclk_foldl _ _ _ fun _ _ => by simp [SBn_COLLIDE_ADDR, SBn_COLLIDE_ADDR_V, SBn_COLLIDE_COUNT, SBn_COLLIDE_COUNT_V, SBn_STATUS,
    SBn_STATUS_COLLIDE]

@[simp] theorem refclk_hostWritePiece (a : Nat) (bytes : List Byte) (errs : List (Nat × Ecc)) (portA : List (Nat × Byte)) (d : Dev) :
    (d.hostWritePiece a bytes errs portA).word TOP_REFCLK_STATUS = d.word TOP_REFCLK_STATUS := by
  unfold Dev.hostWritePiece
  split
  · dsimp only
    split_ifs <;> simp
  · split <;> simp
  · simp [MIP_LEDGER_DROP_COUNT, MIP_LEDGER_DROP_COUNT_V]
  · simp
  · simp [HOST_ERR_COUNTk, HOST_ERR_COUNTk_V]

@[simp] theorem refclk_hostWriteMem (a : Nat) (bytes : List Byte) (errs : List (Nat × Ecc)) (portA : List (Nat × Byte)) (d : Dev) :
    (d.hostWriteMem a bytes errs portA).word TOP_REFCLK_STATUS = d.word TOP_REFCLK_STATUS := by
  simp [Dev.hostWriteMem]

@[simp] theorem refclk_waited (w : WaitingAccess) (d : Dev) : (d.waited w).word TOP_REFCLK_STATUS = d.word TOP_REFCLK_STATUS := by
  simp [Dev.waited]

@[simp] theorem refclk_proceed (key : Nat) (d : Dev) : (d.proceed key).word TOP_REFCLK_STATUS = d.word TOP_REFCLK_STATUS := by
  simp [Dev.proceed]

@[simp] theorem refclk_clearMem (a n : Nat) (d : Dev) : (d.clearMem a n).word TOP_REFCLK_STATUS = d.word TOP_REFCLK_STATUS := by
  simp [Dev.clearMem]

@[simp] theorem refclk_wipeOver (n : Nat) (d : Dev) : (d.wipeOver n).word TOP_REFCLK_STATUS = d.word TOP_REFCLK_STATUS := by
  simp [Dev.wipeOver, MEM_COUNTk, MEM_COUNTk_V, SBn_STATUS, SBn_STATUS_STATE]

@[simp] theorem refclk_wipeEnd (n : Nat) (d : Dev) : (d.wipeEnd n).word TOP_REFCLK_STATUS = d.word TOP_REFCLK_STATUS := by
  unfold Dev.wipeEnd
  split
  · extract_lets d1
    have h1 : d1.word TOP_REFCLK_STATUS = d.word TOP_REFCLK_STATUS := (refclk_proceed _ _).trans (refclk_wipeOver n d)
    exact (refclk_memu d1 _ _).trans h1
  · rfl

@[simp] theorem refclk_setGranule (g : Nat) (d : Dev) : (d.setGranule g).word TOP_REFCLK_STATUS = d.word TOP_REFCLK_STATUS := by
  simp [Dev.setGranule, MEM_INIT_STATUS, MEM_INIT_STATUS_V]

@[simp] theorem refclk_initMapFillDone (g : Nat) (d : Dev) : (initMapFillDone g d).word TOP_REFCLK_STATUS = d.word TOP_REFCLK_STATUS := by
  simp [initMapFillDone, MEM_COUNTk, MEM_COUNTk_V]

@[simp] theorem refclk_waitsFor (a n : Nat) (d : Dev) : (d.waitsFor a n).word TOP_REFCLK_STATUS = d.word TOP_REFCLK_STATUS := by
  simp [Dev.waitsFor]

@[simp] theorem refclk_agentWrite (agent a : Nat) (bytes : List Byte) (d : Dev) :
    (d.agentWrite agent a bytes).word TOP_REFCLK_STATUS = d.word TOP_REFCLK_STATUS := by
  simp [Dev.agentWrite, MEM_COUNTk, MEM_COUNTk_V]

/-! ### Frames that end (R194, R231) -/

@[simp] theorem refclk_histAbort (h w ty : Nat) (d : Dev) : (d.histAbort h w ty).word TOP_REFCLK_STATUS = d.word TOP_REFCLK_STATUS := by
  simp [Dev.histAbort]

@[simp] theorem refclk_fabricAbort (h n : Nat) (d : Dev) : (d.fabricAbort h n).word TOP_REFCLK_STATUS = d.word TOP_REFCLK_STATUS := by
  simp [Dev.fabricAbort]

@[simp] theorem refclk_setDamage (h : Nat) (r : Option (Nat × Nat × Nat × Nat)) (d : Dev) :
    (d.setDamage h r).word TOP_REFCLK_STATUS = d.word TOP_REFCLK_STATUS := by
  unfold Dev.setDamage
  split <;> simp [HDn_DAMAGE_BR, HDn_DAMAGE_BR_VALID, HDn_DAMAGE_TL, HDn_DAMAGE_TL_VALID]

@[simp] theorem refclk_tsBacklog (d : Dev) : d.tsBacklog.word TOP_REFCLK_STATUS = d.word TOP_REFCLK_STATUS := by
  simp [Dev.tsBacklog, TS_STATUS, TS_STATUS_BACKLOG]

@[simp] theorem refclk_tsFrameEnd (h f : Nat) (d : Dev) : (d.tsFrameEnd h f).word TOP_REFCLK_STATUS = d.word TOP_REFCLK_STATUS := by
  simp [Dev.tsFrameEnd]

@[simp] theorem refclk_histDone (h a frame : Nat) (e : StageEntry) (d : Dev) :
    (d.histDone h a frame e).word TOP_REFCLK_STATUS = d.word TOP_REFCLK_STATUS := by
  unfold Dev.histDone
  extract_lets u b base d1 d2
  have h1 : d1.word TOP_REFCLK_STATUS = d.word TOP_REFCLK_STATUS := refclk_foldS _ _ _ fun _ _ => refclk_agentWrite ..
  simp [d2, h1, Dev.onFab, STh_ASa_HIST_STATUS, STh_ASa_HIST_STATUS_BUF, STh_ASa_HIST_STATUS_FRAME, STh_ASa_HIST_STATUS_VALID]

@[simp] theorem refclk_histCommit (h frame : Nat) (d : Dev) : (d.histCommit h frame).word TOP_REFCLK_STATUS = d.word TOP_REFCLK_STATUS := by
  refine refclk_foldl _ _ _ fun ⟨e, j⟩ s => ?_
  dsimp only
  split <;> simp

@[simp] theorem refclk_fabricFrameEnd (h frame : Nat) (complete : Bool) (d : Dev) :
    (d.fabricFrameEnd h frame complete).word TOP_REFCLK_STATUS = d.word TOP_REFCLK_STATUS := by
  simp [Dev.fabricFrameEnd, STh_DITHER_STATUS, STh_DITHER_STATUS_STATIC_FRAMES, STh_OD_HIST_BYTES, STh_OD_HIST_BYTES_V, STh_OD_STATUS,
    STh_OD_STATUS_RESTART, STh_OD_STATUS_STALE, STh_OD_TRUNC_COUNT, STh_OD_TRUNC_COUNT_V, STh_OD_UNCOVERED_COUNT,
      STh_OD_UNCOVERED_COUNT_V, STh_TILESIG_CHANGED, STh_TILESIG_CHANGED_V, STh_UNIF_READ_BYTES, STh_UNIF_READ_BYTES_V]

@[simp] theorem refclk_ceCount (k n : Nat) (d : Dev) : (d.ceCount k n).word TOP_REFCLK_STATUS = d.word TOP_REFCLK_STATUS := by
  simp [Dev.ceCount, CE_COUNTk, CE_COUNTk_V]

@[simp] theorem refclk_frameEnds (h : Nat) (abort : Option Nat) (d : Dev) :
    (d.frameEnds h abort).word TOP_REFCLK_STATUS = d.word TOP_REFCLK_STATUS := by
  unfold Dev.frameEnds
  split
  · simp
  · extract_lets f d1 d2 same d3 u s d4
    have h1 : d1.word TOP_REFCLK_STATUS = d.word TOP_REFCLK_STATUS := by
      simp only [d1]
      split <;> simp
    have h3 : d3.word TOP_REFCLK_STATUS = d.word TOP_REFCLK_STATUS := by
      simp only [d3, refclk_ite]
      split <;> simp [d2, h1, HDn_STALL_STATUS_VALID, HDn_STALL_STATUS]
    have hs : s.word TOP_REFCLK_STATUS = d.word TOP_REFCLK_STATUS := by
      simp only [s, refclk_ite]
      split <;> simp [h3, CE_EVT_STATUS]
    have h4 : d4.word TOP_REFCLK_STATUS = d.word TOP_REFCLK_STATUS := by
      simp only [d4, refclk_ite]
      split_ifs <;> simp [h3, hs, HDn_STALL_STATUS_VALID, HDn_STALL_STATUS_NOFIT, HDn_STALL_STATUS_USED_KIB, HDn_STALL_STATUS_FRAME,
        HDn_STALL_STATUS]
    split <;> simp [h4, LLh_MARGIN_NS_V, LLh_MARGIN_NS]

@[simp] theorem refclk_lockApplied (h : Nat) (d : Dev) : (d.lockApplied h).word TOP_REFCLK_STATUS = d.word TOP_REFCLK_STATUS := by
  simp only [Dev.lockApplied, refclk_ite]
  split_ifs <;> simp [LLh_CTRL, LLh_CTRL_STATE, LLh_UNDERRUN_COUNT, LLh_UNDERRUN_COUNT_V]

@[simp] theorem refclk_rasterApplied (h : Nat) (d old : Dev) :
    (d.rasterApplied h old).word TOP_REFCLK_STATUS = d.word TOP_REFCLK_STATUS := by
  unfold Dev.rasterApplied
  extract_lets od d1 d2 d3 d4
  have h2 : d2.word TOP_REFCLK_STATUS = d.word TOP_REFCLK_STATUS := by
    simp [d2, d1, HDn_APPLIED_H, HDn_APPLIED_H_HACTIVE, HDn_APPLIED_H_HTOTAL, HDn_APPLIED_RATE, HDn_APPLIED_RATE_V, HDn_APPLIED_V,
      HDn_APPLIED_V_VACTIVE, HDn_APPLIED_V_VTOTAL]
  have h3 : d3.word TOP_REFCLK_STATUS = d.word TOP_REFCLK_STATUS := by
    rw [← h2, ← refclk_fabricChanged h od d2 old]
    exact refclk_foldS _ _ _ fun _ _ => by simp [LKj_STATUS, LKj_STATUS_LANES]
  have h4 : d4.word TOP_REFCLK_STATUS = d.word TOP_REFCLK_STATUS := by
    simp only [d4, refclk_ite]
    split_ifs <;> simp [h3, HDn_STATUS, HDn_STATUS_FLOCK_LOCKED]
  simp [h4, HDn_STALL_STATUS, HDn_STALL_STATUS_VALID]

/-! ### Re-lunge (R372, R375) -/

@[simp] theorem refclk_laneHunt (n : Nat) (d : Dev) : (d.laneHunt n).word TOP_REFCLK_STATUS = d.word TOP_REFCLK_STATUS := by
  simp [Dev.laneHunt]

@[simp] theorem refclk_farFree (cls inst : Nat) (d : Dev) : (d.farFree cls inst).word TOP_REFCLK_STATUS = d.word TOP_REFCLK_STATUS := by
  simp [Dev.farFree, FAR_INVk, FAR_INVk_USED]

@[simp] theorem refclk_spareReset (j : Nat) (d : Dev) : (d.spareReset j).word TOP_REFCLK_STATUS = d.word TOP_REFCLK_STATUS := by
  unfold Dev.spareReset
  extract_lets d0 d1 d2
  have h0 : d0.word TOP_REFCLK_STATUS = d.word TOP_REFCLK_STATUS := by
    simp only [d0, refclk_ite]
    split <;> simp
  have h2 : d2.word TOP_REFCLK_STATUS = d.word TOP_REFCLK_STATUS := by
    simp [d2, d1, h0, LKj_STATUS, LKj_STATUS_SPARE_IN_USE, LKj_STATUS_SPARE_LANE, LKj_STATUS_SPARE_STATE]
  split
  · simp [h2, LNn_STATUS, LNn_STATUS_LINK_LANE]
  · exact h2

@[simp] theorem refclk_alignState (j n : Nat) (d : Dev) : (d.alignState j n).word TOP_REFCLK_STATUS = d.word TOP_REFCLK_STATUS := by
  unfold Dev.alignState
  split
  simp [LNn_TX_STATUS, LNn_TX_STATUS_ASEQ, LNn_TX_STATUS_LANE, LNn_TX_STATUS_TXSTATE]

@[simp] theorem refclk_testBlock (n : Nat) (d : Dev) : (d.testBlock n).word TOP_REFCLK_STATUS = d.word TOP_REFCLK_STATUS := by
  simp [Dev.testBlock]

@[simp] theorem refclk_testSlot (j : Nat) (d : Dev) : (d.testSlot j).word TOP_REFCLK_STATUS = d.word TOP_REFCLK_STATUS := by
  simp [Dev.testSlot]

@[simp] theorem refclk_testSlots (j : Nat) (d : Dev) : (d.testSlots j).word TOP_REFCLK_STATUS = d.word TOP_REFCLK_STATUS := by
  simp [Dev.testSlots]

@[simp] theorem refclk_alignColumn (j : Nat) (d : Dev) : (d.alignColumn j).word TOP_REFCLK_STATUS = d.word TOP_REFCLK_STATUS := by
  simp [Dev.alignColumn]

@[simp] theorem refclk_txStarts (j : Nat) (d : Dev) : (d.txStarts j).word TOP_REFCLK_STATUS = d.word TOP_REFCLK_STATUS := by
  simp [Dev.txStarts]

@[simp] theorem refclk_relunge (j : Nat) (d : Dev) : (d.relunge j).word TOP_REFCLK_STATUS = d.word TOP_REFCLK_STATUS := by
  simp [Dev.relunge, LKj_STATUS, LKj_STATUS_LANES]

@[simp] theorem refclk_rasterApplyStopped (h : Nat) (d : Dev) :
    (d.rasterApplyStopped h).word TOP_REFCLK_STATUS = d.word TOP_REFCLK_STATUS := by
  simp [Dev.rasterApplyStopped, HDn_SHADOW_STATE, HDn_SHADOW_STATE_V]

@[simp] theorem refclk_rasterStopped (h : Nat) (d : Dev) : (d.rasterStopped h).word TOP_REFCLK_STATUS = d.word TOP_REFCLK_STATUS := by
  simp [Dev.rasterStopped, HDn_STATUS, HDn_STATUS_IDLE, HDn_STATUS_STATE, HDn_STATUS_SWITCH_STEP]

@[simp] theorem refclk_headStopNow (h : Nat) (d : Dev) : (d.headStopNow h).word TOP_REFCLK_STATUS = d.word TOP_REFCLK_STATUS := by
  simp only [Dev.headStopNow, refclk_ite]
  split_ifs <;> simp [HDn_COUNTk, HDn_COUNTk_V]

@[simp] theorem refclk_headsStopNow (d : Dev) : d.headsStopNow.word TOP_REFCLK_STATUS = d.word TOP_REFCLK_STATUS := by
  refine refclk_foldS _ _ _ fun h s => ?_
  extract_lets s1
  have h1 : s1.word TOP_REFCLK_STATUS = s.word TOP_REFCLK_STATUS := by simp [s1, HDn_CTRL, HDn_CTRL_V]
  split <;> simp [h1]

@[simp] theorem refclk_lanePower (n st : Nat) (d : Dev) : (d.lanePower n st).word TOP_REFCLK_STATUS = d.word TOP_REFCLK_STATUS := by
  unfold Dev.lanePower
  extract_lets was d1 rx s d2
  have h1 : d1.word TOP_REFCLK_STATUS = d.word TOP_REFCLK_STATUS := by simp [d1, LNn_POWER, LNn_POWER_STATE]
  have h2 : d2.word TOP_REFCLK_STATUS = d.word TOP_REFCLK_STATUS := by
    simp only [d2, refclk_ite]
    split_ifs
    · simp [h1]
    · simp [h1]
    · have hs : s.word TOP_REFCLK_STATUS = d.word TOP_REFCLK_STATUS := (refclk_setLane _ _ _).trans h1
      split
      · rw [refclk_put _ _ _ (by simp [LNn_TX_STATUS, LNn_TX_STATUS_TXSTATE])]
        split_ifs <;> simp [hs]
      · exact hs
    · exact h1
  split
  · simp [h2, LNn_POWER, LNn_POWER_EXIT_US]
  · exact h2

/-! ### Power, discharge and SAFE (R22, R346) -/

@[simp] theorem refclk_streamRelease (j : Nat) (d : Dev) : (d.streamRelease j).word TOP_REFCLK_STATUS = d.word TOP_REFCLK_STATUS := by
  simp [Dev.streamRelease]

@[simp] theorem refclk_linkPower (j st : Nat) (d : Dev) : (d.linkPower j st).word TOP_REFCLK_STATUS = d.word TOP_REFCLK_STATUS := by
  simp [Dev.linkPower]

@[simp] theorem refclk_allLanesTo (st : Nat) (d : Dev) : (d.allLanesTo st).word TOP_REFCLK_STATUS = d.word TOP_REFCLK_STATUS := by
  simp [Dev.allLanesTo]

@[simp] theorem refclk_pumpsOff (d : Dev) : d.pumpsOff.word TOP_REFCLK_STATUS = d.word TOP_REFCLK_STATUS := by
  simp [Dev.pumpsOff, HAR_PUMP_STATUS, HAR_PUMP_STATUS_REGULATED, HAR_PUMP_STATUS_RUNNING]

@[simp] theorem refclk_harEvt (b : Nat) (d : Dev) (inst : Nat) : (d.harEvt b inst).word TOP_REFCLK_STATUS = d.word TOP_REFCLK_STATUS := by
  simp [Dev.harEvt, HAR_EVT_STATUS]

@[simp] theorem refclk_discharge (code : Nat) (p : Nat → Bool) (d : Dev) :
    (d.discharge code p).word TOP_REFCLK_STATUS = d.word TOP_REFCLK_STATUS := by
  simp [Dev.discharge, HAR_DISCH_COUNT, HAR_DISCH_COUNT_V, HAR_DISCH_LAST, HAR_DISCH_LAST_CAUSE, HAR_DISCH_LAST_HEADS, HAR_DISCH_STATUS,
    HAR_DISCH_STATUS_ACTIVE, HAR_DISCH_STATUS_HEADS, HAR_STATUS, HAR_STATUS_DISCHARGING]

@[simp] theorem refclk_rungWithdrawn (d : Dev) : d.rungWithdrawn.word TOP_REFCLK_STATUS = d.word TOP_REFCLK_STATUS := by
  simp only [Dev.rungWithdrawn, refclk_ite, onPower_word]
  split_ifs <;> simp [POWER_RUNG_STATUS, POWER_RUNG_STATUS_STATE]

@[simp] theorem refclk_ceServe (d : Dev) : d.ceServe.word TOP_REFCLK_STATUS = d.word TOP_REFCLK_STATUS := by
  simp [Dev.ceServe]

@[simp] theorem refclk_ceRuns (q : Nat) (d : Dev) : (d.ceRuns q).word TOP_REFCLK_STATUS = d.word TOP_REFCLK_STATUS := by
  simp [Dev.ceRuns, CEq_STATUS, CEq_STATUS_STATE]

@[simp] theorem refclk_ceHoldSync (d : Dev) : d.ceHoldSync.word TOP_REFCLK_STATUS = d.word TOP_REFCLK_STATUS := by
  simp [Dev.ceHoldSync]

@[simp] theorem refclk_fatal (cause detail : Nat) (d : Dev) : (d.fatal cause detail).word TOP_REFCLK_STATUS = d.word TOP_REFCLK_STATUS := by
  unfold Dev.fatal
  split
  · rfl
  · split
    · simp
    · dsimp only
      simp [refclk_put_before, TOP_SAFE_DETAIL, TOP_SAFE_DETAIL_V, TOP_SAFE_TIME, TOP_SAFE_TIME_V, TOP_STATUS, TOP_STATUS_SAFE_CAUSE]

end Sys2Proof.Machine
end

section
/-! SUPPORT. The bits of TOP_REFCLK_STATUS, and the losses and returns of the reference clocks (R26, R27, R550). -/
namespace Sys2Proof.Machine

/-! ### The present bit of a reference -/

theorem bitOf_eq_testBit (v k : Nat) : bitOf v k = v.testBit k := by rw [Nat.testBit_eq_decide_div_mod_eq, bitOf, beq_eq_decide]

theorem get_refclkStatus_put (d : Dev) (n x : Nat) :
    (d.put TOP_REFCLK_STATUS_V (putBits (d.get TOP_REFCLK_STATUS_V) n 1 x)).get TOP_REFCLK_STATUS_V
      = putBits (d.get TOP_REFCLK_STATUS_V) n 1 x % 2 ^ 3 := get_put_same d TOP_REFCLK_STATUS_V _ (by decide)

/-- The bit of reference `n` after it was set to `x`. -/
theorem bitOf_refclk_put_same (d : Dev) (n : Fin 2) (x : Nat) :
    bitOf ((d.put TOP_REFCLK_STATUS_V (putBits (d.get TOP_REFCLK_STATUS_V) n 1 x)).get TOP_REFCLK_STATUS_V) n = x.testBit 0 := by
  have hn : n.val < 3 := by omega
  rw [get_refclkStatus_put, bitOf_eq_testBit, Nat.testBit_mod_two_pow, testBit_putBits]
  simp [hn]

/-- The bit of the other reference. -/
theorem bitOf_refclk_put_other (d : Dev) (n m : Nat) (x : Nat) (hm : m < 3) (h : m ≠ n) :
    bitOf ((d.put TOP_REFCLK_STATUS_V (putBits (d.get TOP_REFCLK_STATUS_V) n 1 x)).get TOP_REFCLK_STATUS_V) m
      = bitOf (d.get TOP_REFCLK_STATUS_V) m := by
  rw [get_refclkStatus_put, bitOf_eq_testBit, bitOf_eq_testBit, Nat.testBit_mod_two_pow, testBit_putBits,
    if_neg (by omega), decide_eq_true hm, Bool.true_and]

theorem get_refclkStatus_settle (d : Dev) : (settle d).get TOP_REFCLK_STATUS_V = d.get TOP_REFCLK_STATUS_V :=
  get_settle d TOP_REFCLK_STATUS_V (by decide)

/-! ### The effects -/

/-- What a register write leaves does not depend on the power state. -/
theorem word_put_onPower (d : Dev) (u : PowerUnit → PowerUnit) (f : Fld) (x : Nat) :
    ((d.onPower u).put f x).word f.addr = (d.put f x).word f.addr := by
  rw [Dev.put, Dev.put, word_setWord_same, word_setWord_same, onPower_word]

/-- A loss changes the reference's own bit, whatever it takes down with it. -/
theorem word_refclkLost (n : Nat) (d : Dev) : (refclkLost n d).word TOP_REFCLK_STATUS
    = (d.put TOP_REFCLK_STATUS_V (putBits (d.get TOP_REFCLK_STATUS_V) n 1 0)).word TOP_REFCLK_STATUS := by
  unfold refclkLost
  extract_lets d0 d1 d2 d3
  have h1 : d1.word TOP_REFCLK_STATUS = (d.put TOP_REFCLK_STATUS_V (putBits (d.get TOP_REFCLK_STATUS_V) n 1 0)).word TOP_REFCLK_STATUS :=
    (refclk_inc _ _ (by simp [TOP_REFCLK_LOSS_COUNTk_V, TOP_REFCLK_LOSS_COUNTk])).trans (word_put_onPower d _ TOP_REFCLK_STATUS_V _)
  have h2 : d2.word TOP_REFCLK_STATUS = d1.word TOP_REFCLK_STATUS := by simp [d2]
  have h3 : d3.word TOP_REFCLK_STATUS = d1.word TOP_REFCLK_STATUS := by
    simp only [d3, refclk_ite]
    split
    · simp [h2]
    · exact h2
  rw [← h1, ← h3]
  split
  · exact refclk_fatal 1 0 d3
  · rfl

theorem word_refclkRegained (n : Nat) (d : Dev) : (refclkRegained n d).word TOP_REFCLK_STATUS
    = (d.put TOP_REFCLK_STATUS_V (putBits (d.get TOP_REFCLK_STATUS_V) n 1 1)).word TOP_REFCLK_STATUS :=
  (refclk_quadLocks n true _).trans (word_put_onPower d _ TOP_REFCLK_STATUS_V _)

theorem refclkRegained_byteAt (n : Nat) (d : Dev) (a : Nat) : (refclkRegained n d).byteAt a = d.byteAt a := by
  refine (foldS_congr (fun e => Dev.byteAt e a) _ _ _ fun q _ e => put_byteAt ..).trans ?_
  rw [put_byteAt, onPower_byteAt]

theorem xtalLoss_islandRc {d : Dev} (h : d.power.islandRc = false) : (xtalLoss d).power.islandRc = true := by
  have hpower : SeesNoPost clsPower Dev.power :=
    ⟨fun _ _ => rfl, fun _ _ => rfl, fun _ _ => rfl, fun _ _ => rfl, fun _ _ => rfl, fun _ _ _ _ _ _ => rfl, fun _ _ _ _ => setWord_power ..⟩
  rw [xtalLoss, h, if_neg Bool.false_ne_true,
    hpower.flogWrite _ _ _ _ (fun _ _ => rfl) (fun _ _ => setWord_power ..) (fun _ _ => setWord_power ..)]
  rfl

theorem settle_islandRc (d : Dev) : (settle d).power.islandRc = d.power.islandRc := by
  obtain ⟨t, ht⟩ := settle_power d
  rw [ht]

/-! ### The obligation -/

/-- Settles O2: of TOP_REFCLK_STATUS a loss or a return changes the reference's own bit alone, and the island's clock is a part of the power
state that the fault log does not touch. -/
theorem clockEvents : Obligations.ClockEvents := by
  refine ⟨fun s n hs => completes_on rfl hs rfl, fun s n hs => completes_on rfl hs rfl, fun s hs => completes_on rfl hs rfl,
    fun s hs => completes_on rfl hs rfl, fun s hs => completes_on rfl hs rfl, ?_, ?_, fun s hlive => completes_on rfl hlive rfl, ?_, ?_⟩
  · refine fun s n hlive => completes_on (f := refclkRegained n) rfl hlive ⟨?_, fun a => ?_⟩
    · rw [get_refclkStatus_settle, get_congr (f := TOP_REFCLK_STATUS_V) (word_refclkRegained n s.dev), bitOf_refclk_put_same]
      decide
    · rw [settle_byteAt, refclkRegained_byteAt]
  · refine fun s n hlive hother => completes_on (f := refclkLost n) rfl hlive ?_
    rw [get_refclkStatus_settle, get_congr (f := TOP_REFCLK_STATUS_V) (word_refclkLost n s.dev)]
    exact ⟨(bitOf_refclk_put_same ..).trans (by decide), (bitOf_refclk_put_other _ _ _ _ (by omega) (by omega)).trans hother⟩
  · refine fun s hlive hrc => completes_on (f := xtalLoss) rfl hlive ⟨?_, ?_⟩
    · rw [settle_islandRc, xtalLoss_islandRc hrc]
    · rw [settle_evt, xtalLoss, hrc, if_neg Bool.false_ne_true]
      exact flogWrite_flog_ne_nil _ _ _ _ _
  · refine fun s hlive => completes_on (f := xtalRestore) rfl hlive ⟨?_, fun r hr _ => ?_, fun a => ?_⟩
    · rw [settle_islandRc]
      rfl
    · rw [word_settle _ _ hr, xtalRestore, onPower_word]
    · rw [settle_byteAt, xtalRestore, onPower_byteAt]

end Sys2Proof.Machine
end

section
/-! SUPPORT. An image that resets the block as it applies (R46, R59), and the statement about the load that it refutes. -/
namespace Sys2Proof.Machine

/-! ### An image that writes TOP_RESET -/

/-- An entry of the directory for a global section (R38). -/
def globalEntry (kind first size : Nat) : List Byte := leBytes 2 kind ++ leBytes 2 0xFFFF ++ leBytes 4 first ++ leBytes 4 size ++ leBytes 4 0

/-- The header of a FULL image of 1,280 bytes with six sections and no head; its public key is the base point of the curve (R37). -/
def resetHeader : List Byte :=
  leBytes 4 0x4B434154 ++ leBytes 2 1 ++ leBytes 2 1 ++ leBytes 4 1280 ++ leBytes 7 0 ++ leBytes 1 6 ++ leBytes 12 0 ++ beBytes 32 ecG.1 ++
    beBytes 32 ecG.2 ++ List.replicate 160 0

/-- CLOCK_PLAN with no rate and no raster head, PIN_MAP with no pin in use, LINK_MAP with no link, every bank the sequencer's, no
firmware (R41 to R45). -/
def resetGlobals : List Byte :=
  (List.replicate 28 0 ++ List.replicate 8 0xFF ++ List.replicate 4 0) ++ List.replicate 24 0 ++
    (List.replicate 8 0 ++ (List.replicate 64 (leBytes 4 0xFF00)).flatten) ++ List.replicate 56 0 ++ List.replicate 256 0 ++
    (List.replicate 16 2 ++ List.replicate 16 0) ++ List.replicate 32 0 ++ List.replicate 16 0 ++ List.replicate 48 0

/-- DEFAULT_TABLES with one record (R46): 0x5A to TOP_RESET. -/
def resetTables : List Byte := leBytes 4 0 ++ leBytes 8 (0x7F00000000 + TOP_RESET) ++ leBytes 4 1 ++ leBytes 4 0x5A

/-- What the signature covers. -/
def resetSigned : List Byte :=
  resetHeader ++ globalEntry 1 384 40 ++ globalEntry 2 448 264 ++ globalEntry 3 768 256 ++ globalEntry 4 1024 32 ++ globalEntry 5 1088 16 ++
    globalEntry 6 1152 20 ++ List.replicate 32 0 ++ resetGlobals ++ resetTables ++ List.replicate 44 0

/-- Its SHA-256. -/
def resetHash : Nat := 0x3de53662ffbb4a3a82c0fae8b59f7ae53c0d5be2988b6f197fc863de9ebb8763

/-- The image with the signature that the secret key 1 and the nonce 1 give. -/
def resetImage : List Byte := resetSigned ++ beBytes 32 ecG.1 ++ beBytes 32 ((resetHash + ecG.1) % ecN)

/-! ### It passes VERIFY -/

theorem sha256_resetImage : sha256 (resetImage.take 1216) = resetHash := by decide +kernel

theorem ecdsaOk_resetHash : ecdsaOk resetHash ecG.1 ecG.2 ecG.1 ((resetHash + ecG.1) % ecN) = true := by decide +kernel

theorem resetImage_layout : imgSize resetImage = 1280 ∧ resetImage.length = 1280 ∧
    ofBE ((resetImage.drop 0x20).take 32) = ecG.1 ∧ ofBE ((resetImage.drop 0x40).take 32) = ecG.2 ∧
    ofBE ((resetImage.drop 1216).take 32) = ecG.1 ∧ ofBE ((resetImage.drop 1248).take 32) = (resetHash + ecG.1) % ecN := by decide +kernel

theorem signatureOk_resetImage : signatureOk resetImage = true := by
  obtain ⟨hsize, hlen, hx, hy, hr, hs⟩ := resetImage_layout
  simp only [signatureOk, hsize, hlen, hx, hy, Nat.reduceSub, hr, hs, sha256_resetImage, ecdsaOk_resetHash, beq_self_eq_true, Bool.and_self]

theorem resetImage_structure : directoryOk resetImage = true ∧ sectionsThere resetImage = true ∧ globalsOk resetImage = true ∧
    imgHeads resetImage = [] := by decide +kernel

/-- On the copy on which it is judged the write resets the copy and is not rejected. -/
theorem tablesFault_resetImage : (judgeBase resetImage).tablesFault resetImage false = 0 := by decide +kernel

/-- TACK in VERIFY with the image fetched. -/
def resetVerify : Dev := ((({} : Dev).put TOP_STATUS_MODE 2).put TACK_STATUS_STATE 3).onTack (fun u => { u with image := resetImage })

theorem resourcesOk_resetImage : resetVerify.resourcesOk resetImage = true := by decide +kernel

theorem fullFault_resetImage : resetVerify.fullFault resetImage = 0 := by
  obtain ⟨hdir, hsect, hglob, hheads⟩ := resetImage_structure
  simp [Dev.fullFault, signatureOk_resetImage, hdir, hsect, hglob, hheads, tablesFault_resetImage, resourcesOk_resetImage]

/-! ### What APPLY makes of it -/

theorem resetVerify_inVerify : resetVerify.halted = false ∧ resetVerify.mode = 2 ∧ resetVerify.get TACK_STATUS_STATE = 3 := by decide +kernel

/-- Step 6 of R59 enters INIT, and TACK_STATUS holds its reset word. -/
theorem resetImage_applied : (settle ((resetVerify.put TACK_STATUS_STATE 4).imageApply resetImage)).get TACK_STATUS_STATE = 0 := by decide +kernel

/-- Refutes O10: the clause of IMAGE_VERIFY_COMPLETE says that after an image that passes the checks the state is APPLY. R46 lets a register
record write TOP_RESET, which resets the block in the middle of step 6 of R59; after `resetImage` the state is NOT_STARTED. -/
theorem not_imageLoads : ¬ Obligations.ImageLoads := by
  unfold Obligations.ImageLoads
  rintro ⟨-, -, -, -, -, -, -, -, -, -, -, -, -, -, -, hverify, -⟩
  obtain ⟨hlive, hmode, hstate⟩ := resetVerify_inVerify
  have hpass : resetVerify.fullFault resetVerify.tack.image = 0 := fullFault_resetImage
  obtain ⟨heq, happly⟩ := (hverify { pending := [], dev := resetVerify } hlive hmode hstate).effect (f := imageVerifyComplete) rfl hlive
  have hfour := happly hpass
  rw [heq, if_pos hpass] at hfour
  exact absurd (resetImage_applied.symm.trans hfour) (by decide)

end Sys2Proof.Machine
end

section
/-! SUPPORT. The registers below 0x1068: TOP, and the load and re-tack registers of TACK, all that stands before the engines' summaries.
Applying the register set of a stopped head, replacing engines and writing memory leave every one of them alone. One lemma per function
of these effects, in the order of the definitions; a register or field of them reads as before by `word_of_lowWords`. -/
namespace Sys2Proof.Machine

/-! ### The observation -/

/-- The words below 0x1068, where the engines' summaries begin. -/
def Dev.lowWords (d : Dev) : Nat → Nat := fun r => if r < 0x1068 then d.word r else 0

theorem lowWords_congr {d e : Dev} (h : ∀ r, r < 0x1068 → e.word r = d.word r) : e.lowWords = d.lowWords := by
  funext r
  unfold Dev.lowWords
  split
  · exact h r ‹_›
  · rfl

theorem word_of_lowWords {d e : Dev} {r : Nat} (h : e.lowWords = d.lowWords) (hr : r < 0x1068) : e.word r = d.word r := by
  simpa [Dev.lowWords, hr] using congrFun h r

@[simp] theorem lowWords_ite (c : Prop) {_ : Decidable c} (a b : Dev) :
    (if c then a else b).lowWords = if c then a.lowWords else b.lowWords := by
  split <;> rfl

@[simp] theorem lowWords_foldS (l : List Nat) (f : Nat → Dev → Dev) (d : Dev) (h : ∀ k e, (f k e).lowWords = e.lowWords) :
    (foldS l f d).lowWords = d.lowWords :=
  foldS_congr (fun e => Dev.lowWords e) l f d fun k _ e => h k e

@[simp] theorem lowWords_foldl {β : Type} (l : List β) (f : Dev → β → Dev) (d : Dev) (h : ∀ b e, (f e b).lowWords = e.lowWords) :
    (l.foldl f d).lowWords = d.lowWords :=
  foldl_congr (fun e => Dev.lowWords e) l f d fun b _ e => h b e

@[simp] theorem lowWords_far (d : Dev) (x : FarUnit) : Dev.lowWords { d with far := x } = d.lowWords := rfl

@[simp] theorem lowWords_memu (d : Dev) (m : List Host.Cell) (x : MemUnit) : Dev.lowWords { d with mem := m, memu := x } = d.lowWords := rfl

/-- An indexed register lies where its first one does, or above. -/
@[simp] theorem aboveLow_indexed (a k : Nat) (h : 0x1068 ≤ a) : 0x1068 ≤ a + k := Nat.le_add_right_of_le h

@[simp] theorem aboveLow_indexed₂ (a k l : Nat) (h : 0x1068 ≤ a) :
    0x1068 ≤ a + k + l := aboveLow_indexed _ _ (aboveLow_indexed a k h)

@[simp] theorem lowWords_setWord (d : Dev) (r v : Nat) (h : 0x1068 ≤ r) : (d.setWord r v).lowWords = d.lowWords :=
  lowWords_congr fun _ hx => word_setWord_other _ _ _ _ (by omega)

@[simp] theorem lowWords_put (d : Dev) (f : Fld) (x : Nat) (h : 0x1068 ≤ f.addr) : (d.put f x).lowWords = d.lowWords :=
  lowWords_setWord _ _ _ h

@[simp] theorem lowWords_putB (d : Dev) (f : Fld) (b : Bool) (h : 0x1068 ≤ f.addr) : (d.putB f b).lowWords = d.lowWords :=
  lowWords_put _ _ _ h

@[simp] theorem lowWords_putI (d : Dev) (f : Fld) (x : Int) (h : 0x1068 ≤ f.addr) : (d.putI f x).lowWords = d.lowWords :=
  lowWords_put _ _ _ h

@[simp] theorem lowWords_inc (d : Dev) (f : Fld) (h : 0x1068 ≤ f.addr) : (d.inc f).lowWords = d.lowWords :=
  lowWords_put _ _ _ h

@[simp] theorem lowWords_setAppWord (d : Dev) (r v : Nat) : (d.setAppWord r v).lowWords = d.lowWords :=
  lowWords_congr fun _ _ => setAppWord_word ..
@[simp] theorem lowWords_onHead (d : Dev) (h : Nat) (u : HeadUnit → HeadUnit) : (d.onHead h u).lowWords = d.lowWords :=
  lowWords_congr fun _ _ => onHead_word ..
@[simp] theorem lowWords_onLane (d : Dev) (h : Nat) (u : LaneUnit → LaneUnit) : (d.onLane h u).lowWords = d.lowWords :=
  lowWords_congr fun _ _ => onLane_word ..
@[simp] theorem lowWords_onLink (d : Dev) (h : Nat) (u : LinkUnit → LinkUnit) : (d.onLink h u).lowWords = d.lowWords :=
  lowWords_congr fun _ _ => onLink_word ..
@[simp] theorem lowWords_onCal (d : Dev) (u : CalUnit → CalUnit) : (d.onCal u).lowWords = d.lowWords :=
  lowWords_congr fun _ _ => onCal_word ..
@[simp] theorem lowWords_onTack (d : Dev) (u : TackUnit → TackUnit) : (d.onTack u).lowWords = d.lowWords :=
  lowWords_congr fun _ _ => onTack_word ..
@[simp] theorem lowWords_send (d : Dev) (x : Sent) : (d.send x).lowWords = d.lowWords := lowWords_congr fun _ _ => send_word ..
@[simp] theorem lowWords_drawn (d : Dev) : d.drawn.lowWords = d.lowWords := lowWords_congr fun _ _ => drawn_word ..
@[simp] theorem lowWords_store (d : Dev) (a : Nat) (l : List Byte) : (d.store a l).lowWords = d.lowWords :=
  lowWords_congr fun _ _ => store_word ..

/-! ### Event records -/

theorem seesNoPost_lowWords (cls : Nat) : SeesNoPost cls Dev.lowWords where
  lanes _ _ := rfl
  links _ _ := rfl
  sent _ _ := rfl
  mem _ _ := rfl
  memu _ _ := rfl
  evt _ _ _ _ _ _ := rfl
  regs _ r _ hr := lowWords_setWord _ _ _ (by
    simp only [ringRegs, List.mem_cons, List.not_mem_nil, or_false, EVT_CLASS_COUNTk, EVT_LOST_COUNT, EVT_STATUS, EVT_PROD, EVT_POSTED_COUNT,
      EVT_HIGH_WATER, MEM_COUNTk] at hr
    omega)

@[simp] theorem lowWords_laneTraffic (n : Nat) (b : RBlock) (d : Dev) : (d.laneTraffic n b).lowWords = d.lowWords :=
  (seesNoPost_lowWords 0).laneTraffic n b d

@[simp] theorem lowWords_slotRoom (j k : Nat) (d : Dev) : (d.slotRoom j k).lowWords = d.lowWords := (seesNoPost_lowWords 0).slotRoom j k d

@[simp] theorem lowWords_slotsDone (j k : Nat) (d : Dev) : (d.slotsDone j k).lowWords = d.lowWords := rfl

@[simp] theorem lowWords_wait (w : WaitingAccess) (d : Dev) : (d.wait w).lowWords = d.lowWords := rfl

@[simp] theorem lowWords_slots (j : Nat) (l : List (Nat → RBlock)) (d : Dev) : (d.slots j l).lowWords = d.lowWords :=
  (seesNoPost_lowWords 0).slots j l d

@[simp] theorem lowWords_unitWritten (u : Nat) (d : Dev) : (d.unitWritten u).lowWords = d.lowWords :=
  (seesNoPost_lowWords 0).unitWritten u d

@[simp] theorem lowWords_marchYield (n : Nat) (d : Dev) : (d.marchYield n).lowWords = d.lowWords := (seesNoPost_lowWords 0).marchYield n d

@[simp] theorem lowWords_raiseAt (d : Dev) (status enable cls inst b : Nat) (h : 0x1068 ≤ status) :
    (d.raiseAt status enable cls inst b).lowWords = d.lowWords :=
  (seesNoPost_lowWords cls).raiseAt d status enable inst b fun e v => lowWords_setWord e status v h

@[simp] theorem lowWords_flogWrite (d : Dev) (cls code inst : Nat) (data : List Nat) :
    (d.flogWrite cls code inst data).lowWords = d.lowWords :=
  (seesNoPost_lowWords cls).flogWrite d code inst data (fun _ _ => rfl) (fun e v => lowWords_setWord e _ v (by decide))
    (fun e v => lowWords_setWord e _ v (by decide))

/-! ### Lanes, links and their spares (R372, R375, R387, R497) -/

@[simp] theorem lowWords_setLane (n st : Nat) (d : Dev) : (d.setLane n st).lowWords = d.lowWords := by
  simp only [Dev.setLane, lowWords_ite, lowWords_onLane]
  split_ifs <;> simp [LNn_EQ_STATUS, LNn_EQ_STATUS_FROZEN, LNn_STATUS, LNn_STATUS_RXSTATE]

@[simp] theorem lowWords_farTake (q : FarRequest) (d : Dev) : (d.farTake q).lowWords = d.lowWords := by simp [Dev.farTake]

@[simp] theorem lowWords_farEvt (b : Nat) (d : Dev) (inst : Nat) : (d.farEvt b inst).lowWords = d.lowWords := by
  simp [Dev.farEvt, FAR_EVT_STATUS]

@[simp] theorem lowWords_farExhausted (q : FarRequest) (d : Dev) : (d.farExhausted q).lowWords = d.lowWords := by
  simp [Dev.farExhausted, FAR_STATUS, FAR_STATUS_EXHAUSTED]

@[simp] theorem lowWords_farLog (q : FarRequest) (target result : Nat) (d : Dev) : (d.farLog q target result).lowWords = d.lowWords := by
  simp [Dev.farLog, FAR_LOG_STATUS, FAR_LOG_STATUS_WRITING]

@[simp] theorem lowWords_farRaise (q : FarRequest) (d1 : Dev) : (d1.farRaise q).lowWords = d1.lowWords := by
  unfold Dev.farRaise
  split
  · rfl
  · split
    · rfl
    · split <;> simp [FAR_ASKk, FAR_STATUS, FAR_STATUS_ASKS, FAR_TRIGk, FAR_TRIGk_V]
    · simp [FAR_FORBID_COUNT, FAR_FORBID_COUNT_V]

@[simp] theorem lowWords_farTrigger (q : FarRequest) (d : Dev) : (d.farTrigger q).lowWords = d.lowWords := by
  simp [Dev.farTrigger, FAR_TRIGk, FAR_TRIGk_V]

@[simp] theorem lowWords_linkFalls (j : Nat) (d : Dev) : (d.linkFalls j).lowWords = d.lowWords := by
  simp only [Dev.linkFalls]
  split_ifs <;> simp [LKj_COUNTk, LKj_COUNTk_V, LKj_PARTNER2, LKj_PARTNER2_VALID, LKj_STATUS, LKj_STATUS_STATE]

@[simp] theorem lowWords_txSync (j : Nat) (d : Dev) : (d.txSync j).lowWords = d.lowWords := by
  refine lowWords_foldS _ _ _ fun n s => ?_
  split_ifs <;> simp [LNn_TX_STATUS, LNn_TX_STATUS_TXSTATE]

/-! ### Engines, stripes and substitutions (R175, R200, R201) -/

@[simp] theorem lowWords_engineSync (d : Dev) : d.engineSync.lowWords = d.lowWords :=
  lowWords_congr fun _ hr => word_engineSync d _ (.inl hr) (by simp only [FAB_STATUS]; omega)

@[simp] theorem lowWords_engineRole (h j s : Nat) (e : StageEntry) (k : Nat) (d : Dev) :
    (d.engineRole h j s e k).lowWords = d.lowWords := by
  unfold Dev.engineRole
  split
  simp [SEk_STATUS, SEk_STATUS_HEAD, SEk_STATUS_STATE, SEk_STATUS_STRIPE, SEk_STATUS_STRIPES, SEk_STATUS_TYPE, SEk_STRIPE,
    SEk_STRIPE_FIRST, SEk_STRIPE_WIDTH]

@[simp] theorem lowWords_stripeSync (h : Nat) (d : Dev) : (d.stripeSync h).lowWords = d.lowWords :=
  lowWords_foldl _ _ _ fun _ _ => lowWords_foldl _ _ _ fun _ _ => lowWords_engineRole ..

@[simp] theorem lowWords_engineFree (k st : Nat) (d : Dev) : (d.engineFree k st).lowWords = d.lowWords := by
  simp [Dev.engineFree, SEk_STATUS, SEk_STATUS_HEAD, SEk_STATUS_STATE, SEk_STATUS_STRIPE, SEk_STATUS_STRIPES, SEk_STATUS_TYPE, SEk_STRIPE]

@[simp] theorem lowWords_farUse (l : FarLog) (d : Dev) : (d.farUse l).lowWords = d.lowWords := by simp [Dev.farUse, FAR_INVk, FAR_INVk_USED]

@[simp] theorem lowWords_farSubstituted (q : FarRequest) (target : Nat) (d : Dev) (inst : Nat) :
    (d.farSubstituted q target inst).lowWords = d.lowWords := by
  simp [Dev.farSubstituted, FAR_SUB_LASTk, FAR_SUB_TIME, FAR_SUB_TIME_V, FAR_SUBk, FAR_SUBk_V]

@[simp] theorem lowWords_subSwap (from' to' h result : Nat) (d : Dev) : (d.subSwap from' to' h result).lowWords = d.lowWords := by
  unfold Dev.subSwap
  extract_lets q d1 d2 d3 first d4 d5
  have h4 : d4.lowWords = d.lowWords := by
    simp [d4, d3, d2, d1, FAB_SUB_COUNT, FAB_SUB_COUNT_V, FAB_SUB_LAST, FAB_SUB_LAST_FRAME, FAB_SUB_LAST_FROM, FAB_SUB_LAST_RESULT,
      FAB_SUB_LAST_TO, FAB_SUB_LAST_VALID]
  have h5 : d5.lowWords = d.lowWords := by
    cases hq : q with
    | none => simp only [d5, hq, h4]
    | some q => simp only [d5, hq, lowWords_farSubstituted, h4]
  rw [lowWords_engineSync, h5]

@[simp] theorem lowWords_subWhole (result : Nat) (q : FarRequest) (h : Nat) (d : Dev) : (d.subWhole result q h).lowWords = d.lowWords := by
  unfold Dev.subWhole
  split <;> simp [FAB_STATUS, FAB_STATUS_SUB_FROM, FAB_STATUS_SUB_HEAD, FAB_STATUS_SUB_TO]

theorem lowWords_subNow_go (h n : Nat) (d : Dev) : (Dev.subNow.go h n d).lowWords = d.lowWords := by
  induction n generalizing d with
  | zero => rfl
  | succ n ih =>
    rw [Dev.subNow.go]
    split
    · split
      · rw [ih, lowWords_subWhole]
      · rfl
    · rfl

@[simp] theorem lowWords_subNow (h : Nat) (d : Dev) : (d.subNow h).lowWords = d.lowWords := by
  rw [Dev.subNow, lowWords_subNow_go, lowWords_engineSync]

/-! ### The fabric of a head (R216, R226) -/

@[simp] theorem lowWords_fabricApplied (h : Nat) (d : Dev) : (d.fabricApplied h).lowWords = d.lowWords := by
  simp [Dev.fabricApplied, STh_FORMAT_SEG, STh_FORMAT_SEG_LINKS, STh_FORMAT_SEG_WIDTH, STh_SCALE_HRATIO, STh_SCALE_HRATIO_V,
    STh_SCALE_VRATIO, STh_SCALE_VRATIO_V]

@[simp] theorem lowWords_onFab (h : Nat) (f : FabricUnit → FabricUnit) (d : Dev) : (d.onFab h f).lowWords = d.lowWords := by
  simp [Dev.onFab]

@[simp] theorem lowWords_odSync (d : Dev) : d.odSync.lowWords = d.lowWords := by
  unfold Dev.odSync
  extract_lets d1
  rw [lowWords_put _ _ _ (by simp [FAB_CORR_BUILD_PENDING, FAB_CORR_BUILD])]
  refine lowWords_foldS _ _ _ fun h s => ?_
  split
  · split <;> simp [Dev.onFab, FAB_CORR_BUILD, FAB_CORR_BUILD_BUSY, STh_OD_STATUS, STh_OD_STATUS_BUILDING]
  · rfl

@[simp] theorem lowWords_ack (h : Nat) (stopped : Bool) (result frame : Nat) (d : Dev) :
    (d.ack h stopped result frame).lowWords = d.lowWords := by
  simp [Dev.ack, HDn_COMMIT_ACK, HDn_COMMIT_ACK_FRAME, HDn_COMMIT_ACK_RESULT, HDn_COMMIT_ACK_STOPPED, HDn_COMMIT_ACK_VALID]

@[simp] theorem lowWords_setBand (h b : Nat) (count : Bool) (d : Dev) : (d.setBand h b count).lowWords = d.lowWords := by
  simp only [Dev.setBand, lowWords_ite]
  split_ifs <;> simp [BANDh_CHANGE_COUNT, BANDh_CHANGE_COUNT_V, BANDh_STATUS, BANDh_STATUS_TRACKER]

@[simp] theorem lowWords_bandReinit (h : Nat) (d : Dev) : (d.bandReinit h).lowWords = d.lowWords := by simp [Dev.bandReinit]

@[simp] theorem lowWords_fabricChanged (h : Nat) (od : Bool) (d old : Dev) : (d.fabricChanged h od old).lowWords = d.lowWords := by
  simp [Dev.fabricChanged, BANDh_STATUS, BANDh_STATUS_FORCED, STh_OD_STATUS, STh_OD_STATUS_BUILDING]

@[simp] theorem lowWords_applyWords (h : Nat) (d : Dev) : (d.applyWords h).lowWords = d.lowWords := by simp [Dev.applyWords]

/-! ### Calibration (R486, R490) -/

@[simp] theorem lowWords_calEnded (i abort reason : Nat) (d : Dev) : (d.calEnded i abort reason).lowWords = d.lowWords := by
  simp [Dev.calEnded, CAL_ITEMi, CAL_ITEMi_ABORT, CAL_LAST, CAL_LAST_ABORT, CAL_LAST_ITEM, CAL_LAST_REASON, CAL_LAST_VALID]

@[simp] theorem lowWords_calSync (d : Dev) : d.calSync.lowWords = d.lowWords := by
  simp [Dev.calSync, CAL_STATUS, CAL_STATUS_BUSY, CAL_STATUS_ITEM]

@[simp] theorem lowWords_calEvt (b : Nat) (d : Dev) : (d.calEvt b).lowWords = d.lowWords := by simp [Dev.calEvt, CAL_EVT_STATUS]

@[simp] theorem lowWords_elemRetired (i e : Nat) (d : Dev) : (d.elemRetired i e).lowWords = d.lowWords := by
  simp [Dev.elemRetired, CAL_COUNTk, CAL_COUNTk_V, FAR_ELEMk, FAR_ELEMk_V]

@[simp] theorem lowWords_realise (i : Nat) (d : Dev) : (d.realise i).lowWords = d.lowWords := by
  simp only [Dev.realise, lowWords_ite]
  split_ifs
  · simp [BIASc_SETk, BIASc_SETk_COMBO, BIASc_SETk_ELEMENT, BIASc_SETk_TAP, BIASc_SETk_TRIM, BIASc_SETk_TRIMMED]
  · simp [GMAk_SET, GMAk_SET_CODE, GMAk_SET_ELEMENT, GMAk_SET_TRIM, GMAk_SET_TRIMMED]
  · rfl
  · rfl

@[simp] theorem lowWords_calSwapAsked (r : CalResult) (d : Dev) : (d.calSwapAsked r).lowWords = d.lowWords := by
  unfold Dev.calSwapAsked
  dsimp only
  split
  · rfl
  · split <;> simp [CAL_COUNTk, CAL_COUNTk_V, CAL_ITEMi, CAL_ITEMi_ELEMENT, CAL_ITEMi_RESIDUAL, CAL_ITEMi_SPARE_OK, CAL_ITEMi_TRIMMED,
    CAL_STORE_STATUS, CAL_STORE_STATUS_DIRTY]

@[simp] theorem lowWords_calApply (r : CalResult) (d : Dev) : (d.calApply r).lowWords = d.lowWords := by
  simp [Dev.calApply, CAL_COUNTk, CAL_COUNTk_V, CAL_ITEMi, CAL_ITEMi_ELEMENT, CAL_ITEMi_RESIDUAL, CAL_ITEMi_SPARE_OK, CAL_ITEMi_STATE,
    CAL_ITEMi_TRIMMED, CAL_ITEMi_T_LAST, CAL_STORE_STATUS, CAL_STORE_STATUS_DIRTY]

@[simp] theorem lowWords_calApplyAt (p : Nat → Bool) (d : Dev) : (d.calApplyAt p).lowWords = d.lowWords := by simp [Dev.calApplyAt]

/-! ### Memory: the correction log, the banks and the waiting accesses (R428 to R448) -/

@[simp] theorem lowWords_clogStamp (k : Nat) (d : Dev) : (d.clogStamp k).lowWords = d.lowWords := by simp [Dev.clogStamp]

@[simp] theorem lowWords_memEvt (b : Nat) (d : Dev) : (d.memEvt b).lowWords = d.lowWords := by simp [Dev.memEvt, MEM_EVT_STATUS]

@[simp] theorem lowWords_rowRepair (p : Nat) (d : Dev) : (d.rowRepair p).lowWords = d.lowWords := by
  unfold Dev.rowRepair
  extract_lets q d1 d2
  have h1 : d1.lowWords = d.lowWords := lowWords_farRaise q d
  have h2 : d2.lowWords = d.lowWords := by simp [d2, h1, MEM_SPARE_STATUS, MEM_SPARE_STATUS_PPR_PENDING]
  split
  · rfl
  · split
    · exact (lowWords_memu d2 _ _).trans h2
    · exact h1

@[simp] theorem lowWords_hardFault (a : Nat) (d : Dev) : (d.hardFault a).lowWords = d.lowWords := by
  unfold Dev.hardFault
  extract_lets d1 d2 q
  have h2 : d2.lowWords = d.lowWords := by
    rw [lowWords_flogWrite, lowWords_memEvt, lowWords_inc _ _ (by simp [MEM_COUNTk, MEM_COUNTk_V])]
  clear_value q d2
  split <;> simp [h2, FAR_TRIGk, FAR_TRIGk_V]

@[simp] theorem lowWords_clogHard (k a : Nat) (d : Dev) : (d.clogHard k a).lowWords = d.lowWords := by
  simp only [Dev.clogHard, lowWords_ite]
  split_ifs <;> simp [MEM_CLOGk_INFO, MEM_CLOGk_INFO_HARD]

@[simp] theorem lowWords_clogLog (a : Nat) (e : Ecc) (d : Dev) : (d.clogLog a e).lowWords = d.lowWords := by
  have hmemu (s : Dev) (m : MemUnit) (hs : s.lowWords = d.lowWords) :
      Dev.lowWords { s with memu := m } = d.lowWords := hs
  have huncorr (s : Dev) (k : Nat) : (s.putB (MEM_CLOGk_INFO_UNCORR k) true).lowWords = s.lowWords :=
    lowWords_putB _ _ _ (by simp [MEM_CLOGk_INFO_UNCORR, MEM_CLOGk_INFO])
  unfold Dev.clogLog
  split
  · split
    · rfl
    · rfl
    · dsimp only
      split <;> simp [MEM_CLOGk_INFO_COUNT, MEM_CLOGk_INFO]
    · rw [lowWords_clogHard, huncorr]
    · rw [lowWords_ite]
      split
      · exact (lowWords_clogHard _ _ _).trans (hmemu _ _ (huncorr _ _))
      · exact hmemu _ _ (huncorr _ _)
  · split
    · rfl
    · generalize d.clogSlot = p
      obtain ⟨k, evict⟩ := p
      dsimp only
      split
      · refine hmemu _ _ ?_
        simp [MEM_CLOGk_ADDR, MEM_CLOGk_INFO, MEM_CLOG_USED_V, MEM_CLOG_USED, MEM_COUNTk_V, MEM_COUNTk]
      · rw [lowWords_clogHard, huncorr]
        refine hmemu _ _ ?_
        simp [MEM_CLOGk_ADDR, MEM_CLOGk_INFO, MEM_CLOG_USED_V, MEM_CLOG_USED, MEM_COUNTk_V, MEM_COUNTk]
      · rw [huncorr]
        refine hmemu _ _ ?_
        simp [MEM_CLOGk_ADDR, MEM_CLOGk_INFO, MEM_CLOG_USED_V, MEM_CLOG_USED, MEM_COUNTk_V, MEM_COUNTk]

@[simp] theorem lowWords_eccSeen (a agent : Nat) (e : Ecc) (d : Dev) : (d.eccSeen a agent e).lowWords = d.lowWords := by
  unfold Dev.eccSeen
  extract_lets base info capture d1 d2 d3
  have hc (w : Nat) (s : Dev) : (capture w s).lowWords = s.lowWords := by
    simp [capture, MEM_ERR_ADDR_HI, MEM_ERR_ADDR_HI_V, MEM_ERR_ADDR_LO, MEM_ERR_ADDR_LO_V, MEM_ERR_INFO]
  have h2 : d2.lowWords = d.lowWords := by
    simp only [d2, lowWords_ite]
    split <;> simp [d1, MEM_CHc_ECC_COUNT, MEM_CHc_ECC_COUNT_V, MEM_COUNTk, MEM_COUNTk_V]
  have h3 : d3.lowWords = d.lowWords := by simp [d3, MEM_COUNTk, MEM_COUNTk_V]
  split
  · rfl
  · split <;> simp [MEM_CHc_LINK_COUNT, MEM_CHc_LINK_COUNT_V]
  · rw [lowWords_clogLog, hc, h2]
  · simp [hc, MEM_COUNTk, MEM_COUNTk_V]
  · simp [hc, h3]

@[simp] theorem lowWords_readUnits (agent : Nat) (errs : List (Nat × Ecc)) (l : List Nat) (d : Dev) :
    (d.readUnits agent errs l).2.lowWords = d.lowWords := by
  induction l generalizing d with
  | nil => rfl
  | cons u r ih =>
    rw [Dev.readUnits]
    dsimp only
    rw [ih]
    split <;> simp

@[simp] theorem lowWords_writeUnit (agent a : Nat) (bytes : List Byte) (errs : List (Nat × Ecc)) (u : Nat) (d : Dev) :
    (d.writeUnit agent a bytes errs u).lowWords = d.lowWords := by
  unfold Dev.writeUnit
  extract_lets lo hi part
  split
  · simp
  · dsimp only
    split <;> simp [MEM_COUNTk, MEM_COUNTk_V]

@[simp] theorem lowWords_writeUnits (agent a : Nat) (bytes : List Byte) (errs : List (Nat × Ecc)) (d : Dev) :
    (d.writeUnits agent a bytes errs).lowWords = d.lowWords := by
  simp [Dev.writeUnits]

@[simp] theorem lowWords_violation (n a : Nat) (d : Dev) : (d.violation n a).lowWords = d.lowWords := by
  simp [Dev.violation, SBn_STATUS, SBn_STATUS_VIOL, SBn_VIOL_ADDR, SBn_VIOL_ADDR_V, SBn_VIOL_COUNT, SBn_VIOL_COUNT_V]

@[simp] theorem lowWords_agentPiece (agent a : Nat) (bytes : List Byte) (d : Dev) : (d.agentPiece agent a bytes).lowWords = d.lowWords := by
  unfold Dev.agentPiece
  split <;> simp

@[simp] theorem lowWords_putUnit (agent : Nat) (cells : List (Nat × Byte)) (u : Nat) (d : Dev) :
    (d.putUnit agent cells u).lowWords = d.lowWords := by
  unfold Dev.putUnit
  extract_lets mine put
  have hput (s : Dev) : (put s).lowWords = s.lowWords := by simp [put]
  split
  · exact hput d
  · dsimp only
    split <;> simp [hput, MEM_COUNTk, MEM_COUNTk_V]

@[simp] theorem lowWords_storePortA (b : Nat) (portA : List (Nat × Byte)) (d : Dev) : (d.storePortA b portA).lowWords = d.lowWords := by
  simp [Dev.storePortA]

@[simp] theorem lowWords_hostFetch (a n : Nat) (x : HostReads) (d : Dev) : (d.hostFetch a n x).2.lowWords = d.lowWords := by
  unfold Dev.hostFetch
  split
  · dsimp only
    split
    · rfl
    · split
      · rfl
      · split <;> simp
  · split <;> simp
  · simp
  · simp
  · rfl

@[simp] theorem lowWords_hostReadPiece (a n : Nat) (x : HostReads) (d : Dev) : (d.hostReadPiece a n x).lowWords = d.lowWords := by
  unfold Dev.hostReadPiece
  extract_lets d0
  have hf : (d0.hostFetch a n x).2.lowWords = d.lowWords := by
    rw [lowWords_hostFetch]
    simp only [d0, lowWords_ite]
    split <;> simp [HOST_ERR_COUNTk, HOST_ERR_COUNTk_V]
  rw [← hf]
  split <;> simp [*]

@[simp] theorem lowWords_hostRead (a n : Nat) (x : HostReads) (d : Dev) : (d.hostRead a n x).lowWords = d.lowWords := by simp [Dev.hostRead]

@[simp] theorem lowWords_collide (a n : Nat) (portA : List (Nat × Byte)) (d : Dev) : (d.collide a n portA).lowWords = d.lowWords := by
  unfold Dev.collide
  extract_lets b
  clear_value b
  exact lowWords_foldl _ _ _ fun _ _ => by simp [SBn_COLLIDE_ADDR, SBn_COLLIDE_ADDR_V, SBn_COLLIDE_COUNT, SBn_COLLIDE_COUNT_V, SBn_STATUS,
    SBn_STATUS_COLLIDE]

@[simp] theorem lowWords_hostWritePiece (a : Nat) (bytes : List Byte) (errs : List (Nat × Ecc)) (portA : List (Nat × Byte)) (d : Dev) :
    (d.hostWritePiece a bytes errs portA).lowWords = d.lowWords := by
  unfold Dev.hostWritePiece
  split
  · dsimp only
    split_ifs <;> simp
  · split <;> simp
  · simp [MIP_LEDGER_DROP_COUNT, MIP_LEDGER_DROP_COUNT_V]
  · simp
  · simp [HOST_ERR_COUNTk, HOST_ERR_COUNTk_V]

@[simp] theorem lowWords_hostWriteMem (a : Nat) (bytes : List Byte) (errs : List (Nat × Ecc)) (portA : List (Nat × Byte)) (d : Dev) :
    (d.hostWriteMem a bytes errs portA).lowWords = d.lowWords := by
  simp [Dev.hostWriteMem]

@[simp] theorem lowWords_waited (w : WaitingAccess) (d : Dev) : (d.waited w).lowWords = d.lowWords := by simp [Dev.waited]

@[simp] theorem lowWords_proceed (key : Nat) (d : Dev) : (d.proceed key).lowWords = d.lowWords := by simp [Dev.proceed]

@[simp] theorem lowWords_clearMem (a n : Nat) (d : Dev) : (d.clearMem a n).lowWords = d.lowWords := by simp [Dev.clearMem]

@[simp] theorem lowWords_wipeOver (n : Nat) (d : Dev) : (d.wipeOver n).lowWords = d.lowWords := by
  simp [Dev.wipeOver, MEM_COUNTk, MEM_COUNTk_V, SBn_STATUS, SBn_STATUS_STATE]

@[simp] theorem lowWords_wipeEnd (n : Nat) (d : Dev) : (d.wipeEnd n).lowWords = d.lowWords := by
  unfold Dev.wipeEnd
  split
  · extract_lets d1
    have h1 : d1.lowWords = d.lowWords := (lowWords_proceed _ _).trans (lowWords_wipeOver n d)
    exact (lowWords_memu d1 _ _).trans h1
  · rfl

@[simp] theorem lowWords_setGranule (g : Nat) (d : Dev) : (d.setGranule g).lowWords = d.lowWords := by
  simp [Dev.setGranule, MEM_INIT_STATUS, MEM_INIT_STATUS_V]

@[simp] theorem lowWords_initMapFillDone (g : Nat) (d : Dev) : (initMapFillDone g d).lowWords = d.lowWords := by
  simp [initMapFillDone, MEM_COUNTk, MEM_COUNTk_V]

@[simp] theorem lowWords_waitsFor (a n : Nat) (d : Dev) : (d.waitsFor a n).lowWords = d.lowWords := by simp [Dev.waitsFor]

@[simp] theorem lowWords_agentWrite (agent a : Nat) (bytes : List Byte) (d : Dev) : (d.agentWrite agent a bytes).lowWords = d.lowWords := by
  simp [Dev.agentWrite, MEM_COUNTk, MEM_COUNTk_V]

/-! ### The set of a raster head (R163, R267) -/

@[simp] theorem lowWords_lockApplied (h : Nat) (d : Dev) : (d.lockApplied h).lowWords = d.lowWords := by
  simp only [Dev.lockApplied, lowWords_ite]
  split_ifs <;> simp [LLh_CTRL, LLh_CTRL_STATE, LLh_UNDERRUN_COUNT, LLh_UNDERRUN_COUNT_V]

@[simp] theorem lowWords_rasterApplied (h : Nat) (d old : Dev) : (d.rasterApplied h old).lowWords = d.lowWords := by
  unfold Dev.rasterApplied
  extract_lets od d1 d2 d3 d4
  have h2 : d2.lowWords = d.lowWords := by
    simp [d2, d1, HDn_APPLIED_H, HDn_APPLIED_H_HACTIVE, HDn_APPLIED_H_HTOTAL, HDn_APPLIED_RATE, HDn_APPLIED_RATE_V, HDn_APPLIED_V,
      HDn_APPLIED_V_VACTIVE, HDn_APPLIED_V_VTOTAL]
  have h3 : d3.lowWords = d.lowWords := by
    rw [← h2, ← lowWords_fabricChanged h od d2 old]
    exact lowWords_foldS _ _ _ fun _ _ => by simp [LKj_STATUS, LKj_STATUS_LANES]
  have h4 : d4.lowWords = d.lowWords := by
    simp only [d4, lowWords_ite]
    split_ifs <;> simp [h3, HDn_STATUS, HDn_STATUS_FLOCK_LOCKED]
  simp [h4, HDn_STALL_STATUS, HDn_STALL_STATUS_VALID]

/-! ### Re-lunge, and the set of a stopped raster head (R264, R372, R375) -/

@[simp] theorem lowWords_laneHunt (n : Nat) (d : Dev) : (d.laneHunt n).lowWords = d.lowWords := by simp [Dev.laneHunt]

@[simp] theorem lowWords_farFree (cls inst : Nat) (d : Dev) : (d.farFree cls inst).lowWords = d.lowWords := by
  simp [Dev.farFree, FAR_INVk, FAR_INVk_USED]

@[simp] theorem lowWords_spareReset (j : Nat) (d : Dev) : (d.spareReset j).lowWords = d.lowWords := by
  unfold Dev.spareReset
  extract_lets d0 d1 d2
  have h0 : d0.lowWords = d.lowWords := by
    simp only [d0, lowWords_ite]
    split <;> simp
  have h2 : d2.lowWords = d.lowWords := by
    simp [d2, d1, h0, LKj_STATUS, LKj_STATUS_SPARE_IN_USE, LKj_STATUS_SPARE_LANE, LKj_STATUS_SPARE_STATE]
  split
  · simp [h2, LNn_STATUS, LNn_STATUS_LINK_LANE]
  · exact h2

@[simp] theorem lowWords_alignState (j n : Nat) (d : Dev) : (d.alignState j n).lowWords = d.lowWords := by
  unfold Dev.alignState
  split
  simp [LNn_TX_STATUS, LNn_TX_STATUS_ASEQ, LNn_TX_STATUS_LANE, LNn_TX_STATUS_TXSTATE]

@[simp] theorem lowWords_testBlock (n : Nat) (d : Dev) : (d.testBlock n).lowWords = d.lowWords := by simp [Dev.testBlock]

@[simp] theorem lowWords_testSlot (j : Nat) (d : Dev) : (d.testSlot j).lowWords = d.lowWords := by simp [Dev.testSlot]

@[simp] theorem lowWords_testSlots (j : Nat) (d : Dev) : (d.testSlots j).lowWords = d.lowWords := by simp [Dev.testSlots]

@[simp] theorem lowWords_alignColumn (j : Nat) (d : Dev) : (d.alignColumn j).lowWords = d.lowWords := by simp [Dev.alignColumn]

@[simp] theorem lowWords_txStarts (j : Nat) (d : Dev) : (d.txStarts j).lowWords = d.lowWords := by simp [Dev.txStarts]

@[simp] theorem lowWords_relunge (j : Nat) (d : Dev) : (d.relunge j).lowWords = d.lowWords := by
  simp [Dev.relunge, LKj_STATUS, LKj_STATUS_LANES]

@[simp] theorem lowWords_rasterApplyStopped (h : Nat) (d : Dev) : (d.rasterApplyStopped h).lowWords = d.lowWords := by
  simp [Dev.rasterApplyStopped, HDn_SHADOW_STATE, HDn_SHADOW_STATE_V]

end Sys2Proof.Machine
end

section
/-! SUPPORT. The re-tack (R62 to R68): where each of its steps leaves TACK_RT_STATUS and the mode. -/
namespace Sys2Proof.Machine

/-! ### Read-only registers -/

/-- Has register `r` read-only fields alone? -/
def readOnlyReg (r : Nat) : Bool := (specOf r).all fun p => p.fields.all fun f => f.acc == .ro

theorem readOnlyReg_rtStatus : readOnlyReg TACK_RT_STATUS = true := by decide +kernel

theorem acc_of_readOnlyReg {r : Nat} {p : RegSpec} (h : readOnlyReg r = true) (hp : specOf r = some p) : ∀ f ∈ p.fields, f.acc = .ro := by
  simpa [readOnlyReg, hp] using h

/-- A plain write leaves a read-only register alone, its own included (R3). -/
theorem word_writePlain_readOnly {x : Nat} (h : readOnlyReg x = true) (d : Dev) (r v : Nat) : (d.writePlain r v).word x = d.word x := by
  by_cases hrx : r = x
  · subst hrx
    unfold Dev.writePlain
    split
    · next p hp =>
      have hmerge : p.merge (d.word r) v = d.word r := by
        rw [merge_eq_foldl]
        exact foldl_congr id _ _ _ fun f hf a => if_pos (acc_of_readOnlyReg h hp f hf)
      rw [word_setWord_same, hmerge, Nat.mod_eq_of_lt (word_lt _ _)]
    · rfl
  · exact word_writePlain_other _ _ _ _ hrx

/-- Giving a head's registers back their words of before PREPARE does so too. -/
theorem word_rtRestore_readOnly {x : Nat} (h : readOnlyReg x = true) (n : Nat) (d : Dev) : (d.rtRestore n).word x = d.word x := by
  refine foldS_congr (fun s => Dev.word s x) _ _ _ fun r _ s => ?_
  dsimp only
  split
  · next p hp =>
    by_cases hrx : r = x
    · subst hrx
      rw [word_setWord_same]
      refine (congrArg (· % 2 ^ 32) (foldl_congr id _ _ _ fun f hf a => ?_)).trans (Nat.mod_eq_of_lt (word_lt _ _))
      simp [acc_of_readOnlyReg h hp f hf]
    · exact word_setWord_other _ _ _ _ hrx
  · rfl

/-! ### The mode -/

theorem get_of_lowWords {d e : Dev} {f : Fld} (h : e.lowWords = d.lowWords) (hf : f.addr < 0x1068) : e.get f = d.get f :=
  get_congr (word_of_lowWords h hf)

/-- A mode change touches TOP alone. -/
theorem get_setMode_of_le (m : Nat) (f : Fld) (d : Dev) (hm : m < 8) (h : 0x1000 ≤ f.addr) : (Dev.setMode m d).get f = d.get f := by
  have hmode := mode_lt d
  exact get_setMode m f d (by simp only [TOP_MODE_TIME_Sk]; omega) (by simp only [TOP_STATUS]; omega) (by simp only [TOP_MODE_COUNTk]; omega)

theorem get_rtModeBack (f : Fld) (d : Dev) (h : 0x1000 ≤ f.addr) : d.rtModeBack.get f = d.get f := by
  unfold Dev.rtModeBack
  split
  · exact get_setMode_of_le _ _ _ (by split <;> decide) h
  · rfl

theorem rtModeBack_mode (d : Dev) : d.rtModeBack.mode ≠ 5 := by
  unfold Dev.rtModeBack
  split
  · rw [mode_setMode _ _ (by split <;> decide)]
    split <;> decide
  · assumption

theorem settle_mode_ne_five {d : Dev} (h : d.mode ≠ 5) : (settle d).mode ≠ 5 := by
  rcases settle_cases d with e | ⟨-, e⟩ | ⟨-, e⟩ <;> rw [e]
  · exact h
  · rw [mode_setMode _ _ (by decide)]; decide
  · rw [mode_setMode _ _ (by decide)]; decide

/-- Following the heads leaves the re-tack's status alone. -/
theorem get_settle_rtStatus (d : Dev) (f : Fld) (h : f.addr = TACK_RT_STATUS) : (settle d).get f = d.get f :=
  get_settle d f (h ▸ notMem_modeRegs_of_le (by decide))

/-! ### START (R62) -/

@[simp] theorem lowWords_rtReserve (x : HeadImage) (d : Dev) : (d.rtReserve x).lowWords = d.lowWords :=
  (lowWords_engineSync _).trans (lowWords_foldS _ _ _ fun _ _ => lowWords_put _ _ _ (by simp [SEk_STATUS_STATE, SEk_STATUS]))

@[simp] theorem engineSync_tack (d : Dev) : d.engineSync.tack = d.tack := by
  unfold Dev.engineSync
  dsimp only
  rw [put_tack, foldS_congr Dev.tack _ _ _ fun _ _ _ => put_tack .., put_tack, put_tack, put_tack, put_tack,
    foldS_congr Dev.tack _ _ _ fun _ _ _ => put_tack ..]

@[simp] theorem rtReserve_tack (x : HeadImage) (d : Dev) : (d.rtReserve x).tack = d.tack := by
  rw [Dev.rtReserve, engineSync_tack, foldS_congr Dev.tack _ _ _ fun _ _ _ => put_tack ..]

/-- Where the re-tack begins: COPY of head `h`, in RETACK. -/
theorem lowWords_rtStart (h : Nat) (d : Dev) : (d.rtStart h).lowWords =
    ((((d.setWord TACK_RT_STATUS 0).put TACK_RT_STATUS_STATE 1).put TACK_RT_STATUS_HEAD h).setMode 5).lowWords := by simp [Dev.rtStart]

theorem rtStart_mode (h : Nat) (d : Dev) : (d.rtStart h).mode = 5 :=
  (get_of_lowWords (f := TOP_STATUS_MODE) (lowWords_rtStart h d) (by decide)).trans (mode_setMode _ _ (by decide))

theorem rtStart_state (h : Nat) (d : Dev) : (d.rtStart h).get TACK_RT_STATUS_STATE = 1 := by
  rw [get_of_lowWords (lowWords_rtStart h d) (by decide), get_setMode_of_le _ _ _ (by decide) (by decide),
    get_put_other _ _ _ _ (.inr (.inl (by decide))) (by decide), get_put_same _ _ _ (by decide)]
  rfl

theorem rtStart_head {h : Nat} (hh : h < 8) (d : Dev) : (d.rtStart h).get TACK_RT_STATUS_HEAD = h := by
  rw [get_of_lowWords (lowWords_rtStart h d) (by decide), get_setMode_of_le _ _ _ (by decide) (by decide), get_put_same _ _ _ (by decide)]
  exact Nat.mod_eq_of_lt hh

theorem rtStart_rtImage (h : Nat) (d : Dev) : (d.rtStart h).tack.rtImage = [] := by simp [Dev.rtStart, Dev.onTack]

theorem rtControlWrite_start {d : Dev} (h : Fin 8) (hw : d.writeOk TACK_RT_CONTROL (256 + h.val) = true) (ha : d.rtActive = false)
    (hok : d.rtStartOk h = true) : rtControlWrite (256 + h) d = (d.writePlain TACK_RT_CONTROL (256 + h)).rtStart h := by
  have hbits : ∀ k : Fin 8, bitsOf (256 + k.val) 0 3 = k ∧ bitOf (256 + k.val) 8 = true := by decide
  obtain ⟨hhead, hstart⟩ := hbits h
  rw [rtControlWrite, hhead, hstart, writeVia_taken _ _ _ _ _ hw (by simp [ha, hok])]
  exact if_pos rfl

theorem completes_retackStart (s : State) (h : Fin 8) (ht : s.takes TACK_RT_CONTROL (256 + h.val)) (ha : s.dev.rtActive = false)
    (hok : s.dev.rtStartOk h = true) :
    Completes (.retackStart h) s (fun e =>
      e.mode = 5 ∧ e.get TACK_RT_STATUS_STATE = 1 ∧ e.get TACK_RT_STATUS_HEAD = h ∧ e.tack.rtImage = []) := by
  obtain ⟨⟨hlive, hm, hrung⟩, hw⟩ := ht
  refine completes_on (f := Dev.pcie (.reg TACK_RT_CONTROL (256 + h)) (rtControlWrite (256 + h))) rfl hlive ?_
  rw [pcie_now _ _ _ hm hrung, rtControlWrite_start h hw ha hok]
  have hmode := rtStart_mode h (s.dev.writePlain TACK_RT_CONTROL (256 + h))
  rw [settle_of_mode (by rw [hmode]; decide) (by rw [hmode]; decide)]
  exact ⟨hmode, rtStart_state _ _, rtStart_head h.isLt _, rtStart_rtImage _ _⟩

/-! ### ABANDON (R67, R68) -/

/-- The re-tack marked as abandoned, its engines freed and, where it was ARMED, the head's registers as they were before PREPARE. -/
def Dev.rtReleased (cause code : Nat) (d : Dev) : Dev :=
  let d1 := ((d.put TACK_RT_STATUS_STATE 6).put TACK_RT_STATUS_CAUSE cause).put TACK_RT_STATUS_FAIL_CODE code
  let d2 := foldS (d1.enginesIn 5) (fun k s => s.engineFree k 2) d1
  let h := d.get TACK_RT_STATUS_HEAD
  if d.get TACK_RT_STATUS_STATE = 4 then (d2.put (HDn_SHADOW_STATE_V h) 0).rtRestore h else d2

theorem rtAbandon_eq {d : Dev} (ha : d.rtActive = true) (cause code : Nat) : d.rtAbandon cause code =
    ((((d.rtReleased cause code).onTack (fun u => { u with rtImage := [], rtShadow := [], rtWaves := [] })).engineSync).rtModeBack).subNow
      (d.get TACK_RT_STATUS_HEAD) := by
  rw [Dev.rtAbandon, if_neg (by simp [ha])]
  rfl

theorem word_rtReleased (cause code : Nat) (d : Dev) : (d.rtReleased cause code).word TACK_RT_STATUS =
    (((d.put TACK_RT_STATUS_STATE 6).put TACK_RT_STATUS_CAUSE cause).put TACK_RT_STATUS_FAIL_CODE code).word TACK_RT_STATUS := by
  unfold Dev.rtReleased
  extract_lets d1 d2 h
  have h2 : d2.word TACK_RT_STATUS = d1.word TACK_RT_STATUS := word_of_lowWords (by simp [d2]) (by decide)
  split
  · rw [word_rtRestore_readOnly readOnlyReg_rtStatus, word_put_other, h2]
    simp only [HDn_SHADOW_STATE_V, HDn_SHADOW_STATE, TACK_RT_STATUS]
    omega
  · exact h2

theorem rtAbandon_state {d : Dev} (ha : d.rtActive = true) (cause code : Nat) : (d.rtAbandon cause code).get TACK_RT_STATUS_STATE = 6 := by
  rw [rtAbandon_eq ha, get_of_lowWords (lowWords_subNow _ _) (by decide), get_rtModeBack _ _ (by decide),
    get_of_lowWords (lowWords_engineSync _) (by decide), get_of_lowWords (lowWords_onTack _ _) (by decide),
    get_congr (f := TACK_RT_STATUS_STATE) (word_rtReleased _ _ _), get_put_other _ _ _ _ (.inr (.inl (by decide))) (by decide),
    get_put_other _ _ _ _ (.inr (.inl (by decide))) (by decide), get_put_same _ _ _ (by decide)]
  rfl

theorem rtAbandon_mode {d : Dev} (ha : d.rtActive = true) (cause code : Nat) : (d.rtAbandon cause code).mode ≠ 5 := by
  rw [rtAbandon_eq ha, Dev.mode, get_of_lowWords (lowWords_subNow _ _) (by decide)]
  exact rtModeBack_mode _

theorem rtActive_writePlain (d : Dev) (v : Nat) : (d.writePlain TACK_RT_CONTROL v).rtActive = d.rtActive := by
  rw [Dev.rtActive, get_writePlain_other _ _ _ _ (by decide)]
  rfl

/-- A write of ABANDON that leaves HEAD as it is abandons the running re-tack. -/
theorem rtControlWrite_abandon {d : Dev} (hw : d.writeOk TACK_RT_CONTROL (512 + d.get TACK_RT_CONTROL_HEAD) = true) :
    rtControlWrite (512 + d.get TACK_RT_CONTROL_HEAD) d =
      (d.writePlain TACK_RT_CONTROL (512 + d.get TACK_RT_CONTROL_HEAD)).rtAbandon 1 0 := by
  have hbits : ∀ h : Fin 8, bitsOf (512 + h.val) 0 3 = h ∧ bitOf (512 + h.val) 8 = false ∧ bitOf (512 + h.val) 9 = true := by decide
  obtain ⟨hhead, hstart, habandon⟩ := hbits ⟨d.get TACK_RT_CONTROL_HEAD, get_lt d TACK_RT_CONTROL_HEAD⟩
  rw [rtControlWrite, hhead, hstart, habandon, writeVia_taken _ _ _ _ _ hw (by simp)]
  exact (if_neg Bool.false_ne_true).trans (if_pos rfl)

theorem completes_retackAbandon (s : State) (ht : s.takes TACK_RT_CONTROL (512 + s.dev.get TACK_RT_CONTROL_HEAD))
    (ha : s.dev.rtActive = true) :
    Completes .retackAbandon s (fun e =>
      e = settle ((s.dev.writePlain TACK_RT_CONTROL (512 + s.dev.get TACK_RT_CONTROL_HEAD)).rtAbandon 1 0) ∧
        e.get TACK_RT_STATUS_STATE = 6 ∧ e.mode ≠ 5) := by
  obtain ⟨⟨hlive, hm, hrung⟩, hw⟩ := ht
  refine completes_on (f := fun d => Dev.pcie (.reg TACK_RT_CONTROL (512 + d.get TACK_RT_CONTROL_HEAD))
    (rtControlWrite (512 + d.get TACK_RT_CONTROL_HEAD)) d) rfl hlive ?_
  have ha' := (rtActive_writePlain s.dev (512 + s.dev.get TACK_RT_CONTROL_HEAD)).trans ha
  rw [pcie_now _ _ _ hm hrung, rtControlWrite_abandon hw]
  exact ⟨rfl, (get_settle_rtStatus _ _ rfl).trans (rtAbandon_state ha' _ _), settle_mode_ne_five (rtAbandon_mode ha' _ _)⟩

/-! ### COPY and VERIFY (R65) -/

theorem get_put_rtState (d : Dev) (x : Nat) (h : x < 16) : (d.put TACK_RT_STATUS_STATE x).get TACK_RT_STATUS_STATE = x := by
  rw [get_put_same _ _ _ (by decide)]
  exact Nat.mod_eq_of_lt h

theorem retackCopyComplete_state {d : Dev} (h : d.get TACK_RT_STATUS_STATE = 1) (errs : List (Nat × Ecc)) :
    (retackCopyComplete errs d).get TACK_RT_STATUS_STATE = 2 := by
  rw [retackCopyComplete, if_neg (not_not.2 h)]
  exact get_put_rtState _ 2 (by decide)

theorem completes_retackCopy (s : State) (errs : List (Nat × Ecc)) (hlive : s.live) (h : s.dev.get TACK_RT_STATUS_STATE = 1) :
    Completes (.retackCopyComplete errs) s (fun e => e.get TACK_RT_STATUS_STATE = 2) :=
  completes_on (f := retackCopyComplete errs) rfl hlive ((get_settle_rtStatus _ _ rfl).trans (retackCopyComplete_state h errs))

theorem retackVerifyComplete_eq {d : Dev} (h : d.get TACK_RT_STATUS_STATE = 2) : retackVerifyComplete d =
    if d.rtFault (d.get TACK_RT_STATUS_HEAD) d.tack.rtImage = 0 then
      (d.rtReserve (headImage d.tack.rtImage (d.get TACK_RT_STATUS_HEAD))).put TACK_RT_STATUS_STATE 3
    else (d.attempt 5 (d.rtFault (d.get TACK_RT_STATUS_HEAD) d.tack.rtImage) (d.get TACK_RT_STATUS_HEAD)).rtAbandon 5
      (d.rtFault (d.get TACK_RT_STATUS_HEAD) d.tack.rtImage) := by
  rw [retackVerifyComplete, if_neg (not_not.2 h)]
  exact ite_not _ _ _

/-! ### PREPARE (R65, R66) -/

theorem word_rtRecord (r : TableRec) (d : Dev) : (d.rtRecord r).word TACK_RT_STATUS = d.word TACK_RT_STATUS := by
  unfold Dev.rtRecord
  split
  · exact word_of_lowWords (lowWords_agentWrite ..) (by decide)
  · exact foldl_congr (fun e => Dev.word e TACK_RT_STATUS) _ _ _ fun _ _ _ => word_writePlain_readOnly readOnlyReg_rtStatus ..

@[simp] theorem lowWords_idleEnd (h : Nat) (d : Dev) : (d.idleEnd h).lowWords = d.lowWords := by
  simp [Dev.idleEnd, HDn_STATUS_IDLE, HDn_STATUS]

/-- What the records of a HEAD image write, and the seal, leave of the re-tack's status all but its state. -/
theorem word_rtPrepared (d : Dev) :
    d.rtPrepared.word TACK_RT_STATUS = (d.put TACK_RT_STATUS_STATE 4).word TACK_RT_STATUS := by
  unfold Dev.rtPrepared
  extract_lets h l keys waves d1
  rw [word_of_lowWords (lowWords_idleEnd _ _) (by decide)]
  have hrecords : ((l.foldl (fun s p => s.rtRecord p.2) d1).put (HDn_SHADOW_STATE_V h) 1).word TACK_RT_STATUS = d.word TACK_RT_STATUS := by
    rw [word_put_other _ _ _ _ (by simp only [HDn_SHADOW_STATE_V, HDn_SHADOW_STATE, TACK_RT_STATUS]; omega),
      foldl_congr (fun e => Dev.word e TACK_RT_STATUS) _ _ _ fun _ _ _ => word_rtRecord ..]
    exact onTack_word ..
  simp only [Dev.put, TACK_RT_STATUS_STATE] at hrecords ⊢
  rw [word_setWord_same, word_setWord_same, hrecords]

theorem rtPrepared_state (d : Dev) : d.rtPrepared.get TACK_RT_STATUS_STATE = 4 :=
  (get_congr (f := TACK_RT_STATUS_STATE) (word_rtPrepared d)).trans (get_put_rtState d 4 (by decide))

theorem rtPrepared_head (d : Dev) : d.rtPrepared.get TACK_RT_STATUS_HEAD = d.get TACK_RT_STATUS_HEAD :=
  (get_congr (f := TACK_RT_STATUS_HEAD) (word_rtPrepared d)).trans (get_put_other _ _ _ _ (.inr (.inr (by decide))) (by decide))

/-- The re-tack of a prepared head is ARMED still once the set of the stopped head has applied. -/
theorem rtArmed_rtPrepared_applied (d : Dev) :
    (d.rtPrepared.rasterApplyStopped (d.get TACK_RT_STATUS_HEAD)).rtArmed (d.get TACK_RT_STATUS_HEAD) = true := by
  have hlow := lowWords_rasterApplyStopped (d.get TACK_RT_STATUS_HEAD) d.rtPrepared
  rw [Dev.rtArmed, get_of_lowWords (f := TACK_RT_STATUS_STATE) hlow (by decide), get_of_lowWords (f := TACK_RT_STATUS_HEAD) hlow (by decide),
    rtPrepared_state, rtPrepared_head]
  simp

theorem rtApply_state (h : Nat) (stopped : Bool) (frame : Nat) (d : Dev) : (d.rtApply h stopped frame).get TACK_RT_STATUS_STATE = 5 := by
  unfold Dev.rtApply
  extract_lets x share d1 d2 d3 d3' d4 d5
  have h4 : d4.get TACK_RT_STATUS_STATE = 5 := by
    simp only [d4, Dev.putB]
    rw [get_put_other _ _ _ _ (.inl (by decide)) (by decide), get_put_other _ _ _ _ (.inl (by decide)) (by decide),
      get_put_rtState _ _ (by decide)]
  have h5 : d5.get TACK_RT_STATUS_STATE = d4.get TACK_RT_STATUS_STATE := by
    simp only [d5]
    rw [get_put_other _ _ _ _ (.inl (by decide)) (by decide), get_put_other _ _ _ _ (.inl (by decide)) (by decide)]
  rw [get_rtModeBack _ _ (by decide), get_of_lowWords (lowWords_engineSync _) (by decide), onTack_get, h5, h4]

/-- An ARMED re-tack of a head at rest is done. -/
theorem rtAtRest_state {h : Nat} {d : Dev} (ha : d.rtArmed h = true) : (d.rtAtRest h).get TACK_RT_STATUS_STATE = 5 := by
  rw [Dev.rtAtRest, if_pos ha, get_of_lowWords (lowWords_subNow _ _) (by decide), rtApply_state]

theorem retackPrepareComplete_scans {d : Dev} (h : d.get TACK_RT_STATUS_STATE = 3)
    (hs : d.rtPrepared.scans (d.get TACK_RT_STATUS_HEAD) = true) : retackPrepareComplete d = d.rtPrepared := by
  simp [retackPrepareComplete, h, hs]

theorem retackPrepareComplete_atRest {d : Dev} (h : d.get TACK_RT_STATUS_STATE = 3)
    (hs : d.rtPrepared.scans (d.get TACK_RT_STATUS_HEAD) = false) (hm : d.rtPrepared.isMip (d.get TACK_RT_STATUS_HEAD) = false) :
    retackPrepareComplete d =
      (d.rtPrepared.rasterApplyStopped (d.get TACK_RT_STATUS_HEAD)).rtAtRest (d.get TACK_RT_STATUS_HEAD) := by
  simp [retackPrepareComplete, h, hs, hm]

/-! ### The statement -/

/-- Settles O11: each step leaves its state in TACK_RT_STATUS, which is read-only, so that neither the records of the image nor their
withdrawal change it, and which lies below what the fabric, the links and the farrier write. -/
theorem retack : Obligations.Retack := by
  refine ⟨fun _ _ hs => completes_on rfl hs rfl, fun _ hs => completes_on rfl hs rfl, fun _ _ hs => completes_on rfl hs rfl,
    fun _ hs => completes_on rfl hs rfl, fun _ hs => completes_on rfl hs rfl, fun s h ht ha _ hok => completes_retackStart s h ht ha hok,
    completes_retackAbandon, completes_retackCopy, ?_, ?_, ?_⟩
  · refine fun s hlive h => completes_on (f := retackVerifyComplete) rfl hlive ?_
    rw [retackVerifyComplete_eq h]
    refine ⟨rfl, fun hpass => ?_⟩
    rw [if_pos hpass, get_settle_rtStatus _ _ rfl, get_put_rtState _ _ (by decide)]
  · refine fun s hlive h hscans => completes_on (f := retackPrepareComplete) rfl hlive ?_
    rw [retackPrepareComplete_scans h hscans]
    exact ⟨rfl, (get_settle_rtStatus _ _ rfl).trans (rtPrepared_state _)⟩
  · refine fun s hlive h hscans hmip => completes_on (f := retackPrepareComplete) rfl hlive ?_
    rw [retackPrepareComplete_atRest h hscans hmip]
    exact ⟨rfl, (get_settle_rtStatus _ _ rfl).trans (rtAtRest_state (rtArmed_rtPrepared_applied _))⟩

end Sys2Proof.Machine
end

section
/-! SUPPORT. What the statements about commands read of a block: the fields of a register after a store, the frame of the registers and
of device memory, and a host's write that acts now. -/
namespace Sys2Proof.Machine

/-! ### Fields after a store -/

/-- A field of another register. -/
theorem get_put_of_ne (d : Dev) (f g : Fld) (x : Nat) (h : f.addr ≠ g.addr) : (d.put f x).get g = d.get g :=
  get_setWord_other _ _ _ _ h

/-- Other bits, of whatever register. -/
theorem get_put_of_apart (d : Dev) (f g : Fld) (x : Nat) (h : f.lo + f.w ≤ g.lo ∨ g.lo + g.w ≤ f.lo) (hg : g.lo + g.w ≤ 32) :
    (d.put f x).get g = d.get g := get_put_other _ _ _ _ (.inr h) hg

theorem flag_congr {d e : Dev} {f : Fld} (h : e.word f.addr = d.word f.addr) : e.flag f = d.flag f := by
  rw [Dev.flag, Dev.flag, get_congr h]

theorem flag_eq_false_iff (d : Dev) (f : Fld) : d.flag f = false ↔ d.get f = 0 := by simp [Dev.flag]

theorem flag_eq_true_iff (d : Dev) (f : Fld) : d.flag f = true ↔ d.get f ≠ 0 := by simp [Dev.flag]

/-- A signed field holds the code of what was put into it. -/
theorem get_putI_same (d : Dev) (f : Fld) (x : Int) (h : f.lo + f.w ≤ 32) : (d.putI f x).get f = unsgn f.w x := by
  have hpos : (0 : Int) < ((2 ^ f.w : Nat) : Int) := by positivity
  have hlt : unsgn f.w x < 2 ^ f.w := by
    have hmod := Int.emod_lt_of_pos x hpos
    have hnonneg := Int.emod_nonneg x hpos.ne'
    unfold unsgn
    omega
  rw [Dev.putI, get_put_same _ _ _ h, Nat.mod_eq_of_lt hlt]

/-- Is `f` a field of access type RW in the register that holds it? -/
def rwField (f : Fld) : Bool :=
  match specOf f.addr with
  | some p => decide p.FieldsWf && p.fields.any fun g => g.lo == f.lo && g.w == f.w && g.acc == .rw
  | none => false

/-- A plain write puts its bits into an RW field (R3). -/
theorem get_writePlain_rwField {f : Fld} (h : rwField f = true) (d : Dev) (v : Nat) :
    (d.writePlain f.addr v).get f = bitsOf v f.lo f.w := by
  unfold rwField at h
  split at h
  · next p hp =>
    simp only [Bool.and_eq_true, decide_eq_true_eq, List.any_eq_true, beq_iff_eq] at h
    obtain ⟨hwf, g, hg, ⟨hlo, hw⟩, hacc⟩ := h
    have hmerge := bitsOf_merge hwf hg (d.word f.addr) v
    have hbits := hwf.1 g hg
    rw [FieldSpec.written, hacc] at hmerge
    rw [hlo, hw] at hmerge hbits
    rw [Dev.writePlain, hp]
    exact (get_setWord_same _ _ _ hbits).trans hmerge
  · exact absurd h Bool.false_ne_true

/-- An indexed register lies above TOP where its first one does. -/
@[simp] theorem aboveTop_indexed (a k : Nat) (h : 0x1000 ≤ a) : 0x1000 ≤ a + k := Nat.le_add_right_of_le h

@[simp] theorem aboveTop_indexed₂ (a k j : Nat) (h : 0x1000 ≤ a) : 0x1000 ≤ a + k + j := aboveTop_indexed _ _ (aboveTop_indexed a k h)

/-- Following the heads leaves every register above TOP alone. -/
theorem get_settle_of_le (d : Dev) (f : Fld) (h : 0x1000 ≤ f.addr) : (settle d).get f = d.get f :=
  get_settle d f (notMem_modeRegs_of_le h)

theorem flag_settle_of_le (d : Dev) (f : Fld) (h : 0x1000 ≤ f.addr) : (settle d).flag f = d.flag f := by
  rw [Dev.flag, Dev.flag, get_settle_of_le d f h]

/-! ### The frame -/

/-- What a frame shows of the block: the words outside `l` and the registers that follow the mode, and the bytes of device memory. -/
def Dev.frame (l : List Nat) (d : Dev) : (Nat → Nat) × (Nat → Byte) := (fun r => if r ∈ modeRegs ∨ r ∈ l then 0 else d.word r, d.byteAt)

theorem keeps_of_frame {l : List Nat} {d e : Dev} (h : e.frame l = d.frame l) : keepsRegs l d e ∧ keepsMem d e := by
  obtain ⟨hword, hbyte⟩ := Prod.mk.inj h
  refine ⟨fun r hm hl => ?_, congrFun hbyte⟩
  simpa [hm, hl] using congrFun hword r

theorem frame_congr {l : List Nat} {d e : Dev} (hw : ∀ r, r ∉ modeRegs → r ∉ l → e.word r = d.word r)
    (hb : ∀ a, e.byteAt a = d.byteAt a) : e.frame l = d.frame l := by
  refine Prod.ext (funext fun r => ?_) (funext hb)
  dsimp only [Dev.frame]
  split
  · rfl
  · next h => exact hw r (fun hm => h (.inl hm)) fun hl => h (.inr hl)

variable (l : List Nat) (d : Dev)

@[simp] theorem frame_settle : (settle d).frame l = d.frame l :=
  frame_congr (fun r hm _ => word_settle d r hm) (settle_byteAt d)

@[simp] theorem frame_setWord (r v : Nat) (h : r ∈ l) : (d.setWord r v).frame l = d.frame l :=
  frame_congr (fun _ _ hl => word_setWord_other _ _ _ _ fun e => hl (e ▸ h)) (setWord_byteAt d r v)

@[simp] theorem frame_put (f : Fld) (x : Nat) (h : f.addr ∈ l) : (d.put f x).frame l = d.frame l := frame_setWord l d _ _ h

@[simp] theorem frame_putI (f : Fld) (x : Int) (h : f.addr ∈ l) : (d.putI f x).frame l = d.frame l := frame_setWord l d _ _ h

@[simp] theorem frame_putB (f : Fld) (b : Bool) (h : f.addr ∈ l) : (d.putB f b).frame l = d.frame l := frame_setWord l d _ _ h

@[simp] theorem frame_inc (f : Fld) (h : f.addr ∈ l) : (d.inc f).frame l = d.frame l := frame_setWord l d _ _ h

@[simp] theorem frame_writePlain (r v : Nat) (h : r ∈ l) : (d.writePlain r v).frame l = d.frame l :=
  frame_congr (fun _ _ hl => word_writePlain_other _ _ _ _ fun e => hl (e ▸ h)) fun a =>
    writePlain_congr (fun s => s.byteAt a) (fun s r v => setWord_byteAt s r v a) d r v

@[simp] theorem frame_send (x : Sent) : (d.send x).frame l = d.frame l := frame_congr (fun _ _ _ => send_word ..) fun _ => send_byteAt ..

@[simp] theorem frame_guardFail (k code : Nat) : (d.guardFail k code).frame l = d.frame l :=
  frame_congr (fun _ _ _ => guardFail_word ..) fun _ => guardFail_byteAt ..

@[simp] theorem frame_onTb (n : Nat) (u : TimeBase → TimeBase) : (d.onTb n u).frame l = d.frame l :=
  frame_congr (fun _ _ _ => onTb_word ..) fun _ => onTb_byteAt ..

@[simp] theorem frame_onPins (u : PinUnit → PinUnit) : (d.onPins u).frame l = d.frame l :=
  frame_congr (fun _ _ _ => onPins_word ..) fun _ => onPins_byteAt ..

/-! ### Plain writes -/

@[simp] theorem writePlain_time (r v : Nat) : (d.writePlain r v).time = d.time := writePlain_congr Dev.time setWord_time d r v

@[simp] theorem writePlain_sent (r v : Nat) : (d.writePlain r v).sent = d.sent := writePlain_congr Dev.sent setWord_sent d r v

@[simp] theorem writePlain_sched (r v : Nat) : (d.writePlain r v).sched = d.sched := writePlain_congr Dev.sched setWord_sched d r v

variable {d}

/-- A host's write that acts now completes with its effect. -/
theorem completes_hostWrite {c : Instr} {s : State} {r v : Nat} {f : Dev → Dev} {P : Dev → Prop}
    (hc : exec c s = s.on (Dev.pcie (.reg r v) f)) (h : s.hostLive) (hP : P (settle (f s.dev))) : Completes c s P := by
  obtain ⟨hlive, hmode, habout⟩ := h
  refine completes_on hc hlive ?_
  rwa [pcie_now _ _ _ hmode habout]

end Sys2Proof.Machine
end

section
/-! SUPPORT. The time unit (chapter 03): what its updates and its event records leave of the block. -/
namespace Sys2Proof.Machine

/-! ### Lists by position -/

theorem nth_updAt {α : Type} (x : α) (l : List α) (i : Nat) (f : α → α) (k : Nat) :
    nth x (updAt l i f) k = if i = k ∧ k < l.length then f (nth x l k) else nth x l k := by
  simp only [nth, updAt, List.getD_eq_getElem?_getD, List.getElem?_modify]
  by_cases hk : k < l.length
  · by_cases hi : i = k <;> simp [hk, hi]
  · simp [hk]

theorem nth_updAt_same {α : Type} (x : α) (l : List α) (i : Nat) (f : α → α) (h : i < l.length) :
    nth x (updAt l i f) i = f (nth x l i) := by rw [nth_updAt, if_pos ⟨rfl, h⟩]

/-- What the image of an element shares with it, an updated list shows as before. -/
theorem nth_updAt_congr {α β : Type} (g : α → β) (x : α) (l : List α) (i : Nat) (f : α → α) (h : ∀ a, g (f a) = g a) (k : Nat) :
    g (nth x (updAt l i f) k) = g (nth x l k) := by
  rw [nth_updAt]
  split
  · exact h _
  · rfl

/-! ### Updates of the time unit -/

/-- Changes the time unit. -/
def Dev.onTime (f : TimeUnit → TimeUnit) (d : Dev) : Dev := { d with time := f d.time }

variable (d : Dev) (l : List Nat)

@[simp] theorem onTime_time (f : TimeUnit → TimeUnit) : (d.onTime f).time = f d.time := by unfold Dev.onTime; rfl
@[simp] theorem onTime_sent (f : TimeUnit → TimeUnit) : (d.onTime f).sent = d.sent := by unfold Dev.onTime; rfl
@[simp] theorem onTime_word (f : TimeUnit → TimeUnit) (r : Nat) : (d.onTime f).word r = d.word r := by unfold Dev.onTime; rfl
@[simp] theorem onTime_get (f : TimeUnit → TimeUnit) (g : Fld) : (d.onTime f).get g = d.get g := by unfold Dev.onTime; rfl
@[simp] theorem onTime_flag (f : TimeUnit → TimeUnit) (g : Fld) : (d.onTime f).flag g = d.flag g := by unfold Dev.onTime; rfl
@[simp] theorem onTime_byteAt (f : TimeUnit → TimeUnit) (a : Nat) : (d.onTime f).byteAt a = d.byteAt a := by unfold Dev.onTime; rfl
@[simp] theorem frame_onTime (f : TimeUnit → TimeUnit) : (d.onTime f).frame l = d.frame l := by unfold Dev.onTime; rfl

theorem onTb_eq_onTime (n : Nat) (f : TimeBase → TimeBase) : d.onTb n f = d.onTime (fun t => { t with tbs := updAt t.tbs n f }) := rfl

theorem tb_congr {d e : Dev} (h : e.time = d.time) (n : Nat) : e.tb n = d.tb n := by rw [Dev.tb, Dev.tb, h]

/-- What the image of a time base shares with it, every time base shows as before. -/
theorem tb_onTb_congr {α : Type} (g : TimeBase → α) (n : Nat) (f : TimeBase → TimeBase) (h : ∀ t, g (f t) = g t) (m : Nat) :
    g ((d.onTb n f).tb m) = g (d.tb m) := nth_updAt_congr g _ _ _ _ h _

theorem tb_onTb_same (n : Nat) (f : TimeBase → TimeBase) (h : n < d.time.tbs.length) : (d.onTb n f).tb n = f (d.tb n) :=
  nth_updAt_same _ _ _ _ h

theorem onPtp_eq_onTime (p : Nat) (f : PtpPort → PtpPort) : d.onPtp p f = d.onTime (fun t => { t with ptp := updAt t.ptp p f }) := rfl

@[simp] theorem onPtp_sent (p : Nat) (f : PtpPort → PtpPort) : (d.onPtp p f).sent = d.sent := by unfold Dev.onPtp; rfl
@[simp] theorem onPtp_word (p : Nat) (f : PtpPort → PtpPort) (r : Nat) : (d.onPtp p f).word r = d.word r := by unfold Dev.onPtp; rfl
@[simp] theorem onPtp_get (p : Nat) (f : PtpPort → PtpPort) (g : Fld) : (d.onPtp p f).get g = d.get g := by unfold Dev.onPtp; rfl
@[simp] theorem onPtp_byteAt (p : Nat) (f : PtpPort → PtpPort) (a : Nat) : (d.onPtp p f).byteAt a = d.byteAt a := by unfold Dev.onPtp; rfl
@[simp] theorem frame_onPtp (p : Nat) (f : PtpPort → PtpPort) : (d.onPtp p f).frame l = d.frame l := by unfold Dev.onPtp; rfl

/-- A measurement that waits is held by a time base: whatever does not see the time bases is as before. -/
theorem measured_congr {α : Type} (g : Dev → α) (h : ∀ (d : Dev) n f, g (d.onTb n f) = g d) (n src : Nat) (e : Int) :
    g (d.measured n src e) = g d := by
  unfold Dev.measured
  split
  · exact h _ _ _
  · rfl

@[simp] theorem measured_get (n src : Nat) (e : Int) (f : Fld) : (d.measured n src e).get f = d.get f :=
  measured_congr d (fun s => s.get f) (fun _ _ _ => onTb_get ..) n src e

@[simp] theorem measured_flag (n src : Nat) (e : Int) (f : Fld) : (d.measured n src e).flag f = d.flag f :=
  measured_congr d (fun s => s.flag f) (fun _ _ _ => onTb_flag ..) n src e

@[simp] theorem measured_word (n src : Nat) (e : Int) (r : Nat) : (d.measured n src e).word r = d.word r :=
  measured_congr d (fun s => s.word r) (fun _ _ _ => onTb_word ..) n src e

@[simp] theorem frame_measured (n src : Nat) (e : Int) : (d.measured n src e).frame l = d.frame l :=
  measured_congr d (Dev.frame l) (fun s n f => frame_onTb l s n f) n src e

/-- The seconds of a time base do not see the measurement that waits at it. -/
theorem measured_tb_sec (n src : Nat) (e : Int) (m : Nat) : ((d.measured n src e).tb m).sec = (d.tb m).sec := by
  unfold Dev.measured
  split
  · exact tb_onTb_congr d TimeBase.sec _ _ (by intro; rfl) _
  · rfl

/-! ### Event records of the time unit (R132, R591) -/

/-- What sees neither the records nor TIME_EVT_STATUS is as before. -/
theorem timeEvt_congr {α : Type} {g : Dev → α} (hg : SeesNoPost clsTime g) (hs : ∀ (e : Dev) v, g (e.setWord TIME_EVT_STATUS v) = g e)
    (b : Nat) : g (d.timeEvt b) = g d := hg.raiseAt d _ _ _ b hs

/-- Of the registers of the TIME block an event of the time unit changes TIME_EVT_STATUS alone. -/
theorem word_timeEvt {r : Nat} (hlow : 0x4000 ≤ r) (hhigh : r < 0x6000) (hr : TIME_EVT_STATUS ≠ r) (b : Nat) :
    (d.timeEvt b).word r = d.word r := by
  refine timeEvt_congr d (seesNoPost_word ?_) (fun e v => word_setWord_other _ _ _ _ hr) b
  simp only [ringRegs, List.mem_cons, List.not_mem_nil, or_false, EVT_CLASS_COUNTk, EVT_LOST_COUNT, EVT_STATUS, EVT_PROD,
    EVT_POSTED_COUNT, EVT_HIGH_WATER, MEM_COUNTk, clsTime]
  omega

@[simp] theorem timeEvt_time (b : Nat) : (d.timeEvt b).time = d.time :=
  timeEvt_congr (g := Dev.time) d
    ⟨fun _ _ => rfl, fun _ _ => rfl, fun _ _ => rfl, fun _ _ => rfl, fun _ _ => rfl, fun _ _ _ _ _ _ => rfl, fun _ _ _ _ => by simp⟩
    (fun _ _ => by simp) b

/-- The bits of TC_STATUS that a timecode discontinuity from `old` to `new` sets (R97). -/
def Dev.tcMarked (old new : Rat) (d : Dev) : Dev :=
  if new < old then (d.putB TC_STATUS_DISC true).putB TC_STATUS_BACKWARD true else d.putB TC_STATUS_DISC true

theorem tcMarked_disc (old new : Rat) : (d.tcMarked old new).get TC_STATUS_DISC = 1 := by
  unfold Dev.tcMarked
  split
  · exact (get_put_of_apart _ _ _ _ (by decide) (by decide)).trans (get_put_same _ _ _ (by decide))
  · exact get_put_same _ _ _ (by decide)

theorem word_tcMarked_other {r : Nat} (h : TC_STATUS ≠ r) (old new : Rat) : (d.tcMarked old new).word r = d.word r := by
  unfold Dev.tcMarked
  split
  · exact (word_put_other _ TC_STATUS_BACKWARD _ _ h).trans (word_put_other _ TC_STATUS_DISC _ _ h)
  · exact word_put_other _ TC_STATUS_DISC _ _ h

/-- A timecode discontinuity is its bits of TC_STATUS, its count, its instant and its event. -/
theorem tcDisc_eq (old new : Rat) : d.tcDisc old new = Dev.timeEvt 16
    (((d.tcMarked old new).inc TC_DISC_COUNT_V).onTime (fun t => { t with tcDisc := true, tcDiscAt := (d.tb 3).total })) := by
  unfold Dev.tcDisc Dev.tcMarked
  split <;> simp [Dev.onTime, Dev.tb]

end Sys2Proof.Machine
end

section
/-! SUPPORT. The time bases and their servo (R86 to R97). -/
namespace Sys2Proof.Machine

/-! ### The snapshot (R88) -/

theorem tbLatch_eq {n v : Nat} {d : Dev} (hw : d.writeOk (TBn_LATCH n) v = true) (hv : v ≠ 0) :
    tbLatch n v d = ((((d.writePlain (TBn_LATCH n) v).put (TBn_SNAP_SEC_HI_V n) ((d.tb n).sec / 2 ^ 32)).put (TBn_SNAP_SEC_LO_V n)
      (d.tb n).sec).put (TBn_SNAP_NS_V n) (d.tb n).ns).put (TBn_SNAP_FRAC_V n) (d.tb n).frac := by
  rw [tbLatch, writeVia_taken _ _ _ _ _ hw rfl, if_neg hv]
  simp [Dev.tb]

theorem completes_tbLatch (s : State) (n : Fin 4) (v : Word) (h : s.takes (TBn_LATCH n) v.toNat) (hv : v ≠ 0) :
    Completes (.tbLatch n v) s (fun e =>
      e.get (TBn_SNAP_SEC_LO_V n) = (s.dev.tb n).sec % 2 ^ 32 ∧ e.get (TBn_SNAP_NS_V n) = (s.dev.tb n).ns % 2 ^ 32 ∧
      e.get (TBn_SNAP_FRAC_V n) = (s.dev.tb n).frac % 2 ^ 16 ∧
      keepsRegs [TBn_LATCH n, TBn_SNAP_SEC_HI n, TBn_SNAP_SEC_LO n, TBn_SNAP_NS n, TBn_SNAP_FRAC n] s.dev e ∧
      keepsMem s.dev e ∧ e.time = s.dev.time) := by
  refine completes_hostWrite (f := tbLatch n v.toNat) rfl h.1 ?_
  rw [tbLatch_eq h.2 (fun hz => hv (BitVec.eq_of_toNat_eq hz))]
  refine ⟨?_, ?_, ?_, (keeps_of_frame ?frame).1, (keeps_of_frame ?frame).2, by simp⟩
  case frame => simp [TBn_SNAP_SEC_HI_V, TBn_SNAP_SEC_LO_V, TBn_SNAP_NS_V, TBn_SNAP_FRAC_V]
  all_goals simp [get_settle_of_le, get_put_same, get_put_of_ne, TBn_SNAP_SEC_LO_V, TBn_SNAP_NS_V, TBn_SNAP_FRAC_V, TBn_SNAP_SEC_LO,
    TBn_SNAP_NS, TBn_SNAP_FRAC]

/-! ### The status register of a time base (R93) -/

/-- An event of the time unit leaves the status of every time base alone. -/
theorem word_timeEvt_tbStatus {n : Nat} (hn : n < 4) (b : Nat) (d : Dev) : (d.timeEvt b).word (TBn_STATUS n) = d.word (TBn_STATUS n) :=
  word_timeEvt d (by simp only [TBn_STATUS]; omega) (by simp only [TBn_STATUS]; omega) (by simp only [TBn_STATUS, TIME_EVT_STATUS]; omega) b

theorem enterLocked_state {n : Nat} (hn : n < 4) (d : Dev) : (d.enterLocked n).get (TBn_STATUS_STATE n) = 2 := by
  rw [Dev.enterLocked, get_congr (f := TBn_STATUS_STATE n) (word_timeEvt_tbStatus hn _ _)]
  simp [Dev.putB, get_put_of_apart, get_put_same, TBn_STATUS_STATE, TBn_STATUS_DISCONTINUITY, TBn_STATUS_LOST]

/-- A rate from the servo is RATE and the bit CLAMPED. -/
theorem word_servoRate_other {n r : Nat} (hs : TBn_STATUS n ≠ r) (hr : TBn_RATE n ≠ r) (rate : Int) (d : Dev) :
    (d.servoRate n rate).word r = d.word r := (word_put_other _ _ _ _ hs).trans (word_put_other _ _ _ _ hr)

theorem get_servoRate {n : Nat} {f : Fld} (ha : f.addr = TBn_STATUS n) (hlo : 26 ≤ f.lo) (hf : f.lo + f.w ≤ 32) (rate : Int) (d : Dev) :
    (d.servoRate n rate).get f = d.get f := by
  refine Eq.trans (get_put_of_apart _ (TBn_STATUS_CLAMPED n) f _ (.inl hlo) hf) (get_put_of_ne _ _ _ _ ?_)
  simp only [TBn_RATE_V, TBn_RATE, TBn_STATUS, ha]
  omega

theorem word_enterHoldover_other {n r : Nat} (hs : TBn_STATUS n ≠ r) (hr : TBn_RATE n ≠ r) (d : Dev) :
    (d.enterHoldover n).word r = d.word r := by
  have hput (t : TimeBase → TimeBase) : ((d.put (TBn_STATUS_STATE n) 3).onTb n t).word r = d.word r :=
    (onTb_word ..).trans (word_put_other _ _ _ _ hs)
  unfold Dev.enterHoldover Dev.holdRate
  split <;> exact (word_servoRate_other hs hr _ _).trans (hput _)

theorem enterHoldover_state (n : Nat) (d : Dev) : (d.enterHoldover n).get (TBn_STATUS_STATE n) = 3 := by
  have hput (t : TimeBase → TimeBase) : ((d.put (TBn_STATUS_STATE n) 3).onTb n t).get (TBn_STATUS_STATE n) = 3 := by
    simp [get_put_same, TBn_STATUS_STATE]
  unfold Dev.enterHoldover Dev.holdRate
  split <;> exact (get_servoRate (f := TBn_STATUS_STATE n) rfl (by simp [TBn_STATUS_STATE]) (by simp [TBn_STATUS_STATE]) _ _).trans (hput _)

/-! ### A write of the source (R87, R93) -/

theorem tbCtrlWrite_eq {n v : Nat} {d : Dev} (hw : d.writeOk (TBn_CTRL n) v = true) (hok : tbCtrlOk n v = true)
    (hsource : d.get (TBn_CTRL_SOURCE n) ≠ (d.writePlain (TBn_CTRL n) v).get (TBn_CTRL_SOURCE n)) :
    tbCtrlWrite n v d = (d.writePlain (TBn_CTRL n) v).servoRestart n := by
  rw [tbCtrlWrite, writeVia_taken _ _ _ _ _ hw hok, if_neg fun h => hsource h.1]

theorem servoRestart_eq (n : Nat) (d : Dev) : d.servoRestart n =
    (((((((d.put (TBn_STATUS_STATE n) (if d.get (TBn_CTRL_SOURCE n) = 0 then 0 else 1)).putB (TBn_STATUS_DISCONTINUITY n) false).putB
      (TBn_STATUS_LOST n) false).putB (TBn_STATUS_RETURNED n) false).putB (TBn_STATUS_CLAMPED n) false).collectAnew n).onTb n
        (fun t => { t with meas := none })) := rfl

theorem rwField_tbSource : ∀ n : Fin 4, rwField (TBn_CTRL_SOURCE n) = true := by decide +kernel

theorem completes_tbCtrlWrite (s : State) (n : Fin 4) (v : Word) (h : s.takes (TBn_CTRL n) v.toNat) (hok : tbCtrlOk n v.toNat = true)
    (hv : bitsOf v.toNat 28 4 ≠ s.dev.get (TBn_CTRL_SOURCE n)) :
    Completes (.tbCtrlWrite n v) s (fun e =>
      e.get (TBn_CTRL_SOURCE n) = bitsOf v.toNat 28 4 ∧ e.get (TBn_STATUS_STATE n) = (if bitsOf v.toNat 28 4 = 0 then 0 else 1) ∧
      e.flag (TBn_STATUS_LOST n) = false ∧ e.flag (TBn_STATUS_DISCONTINUITY n) = false ∧
      keepsRegs [TBn_CTRL n, TBn_STATUS n] s.dev e ∧ keepsMem s.dev e) := by
  have hsource : (s.dev.writePlain (TBn_CTRL n) v.toNat).get (TBn_CTRL_SOURCE n) = bitsOf v.toNat 28 4 :=
    get_writePlain_rwField (rwField_tbSource n) _ _
  refine completes_hostWrite (f := tbCtrlWrite n v.toNat) rfl h.1 ?_
  rw [tbCtrlWrite_eq h.2 hok (by rw [hsource]; exact hv.symm), servoRestart_eq, hsource]
  have hother (f g : Fld) (x : Nat) (d : Dev) (ha : f.addr = TBn_STATUS n) (hg : g = TBn_CTRL_SOURCE n) : (d.put f x).get g = d.get g :=
    get_put_of_ne _ _ _ _ (by rw [ha, hg]; simp [TBn_STATUS, TBn_CTRL_SOURCE, TBn_CTRL])
  refine ⟨?_, ?_, ?_, ?_, (keeps_of_frame ?frame).1, (keeps_of_frame ?frame).2⟩
  case frame =>
    simp [Dev.collectAnew, TBn_STATUS_STATE, TBn_STATUS_DISCONTINUITY, TBn_STATUS_LOST, TBn_STATUS_RETURNED, TBn_STATUS_CLAMPED]
  · rw [get_settle_of_le _ _ (by simp [TBn_CTRL_SOURCE, TBn_CTRL])]
    simp only [Dev.collectAnew, onTb_get, Dev.putB]
    rw [hother _ _ _ _ rfl rfl, hother _ _ _ _ rfl rfl, hother _ _ _ _ rfl rfl, hother _ _ _ _ rfl rfl, hother _ _ _ _ rfl rfl, hsource]
  · split <;> simp [Dev.collectAnew, Dev.putB, get_settle_of_le, get_put_same, get_put_of_apart, TBn_STATUS_STATE, TBn_STATUS,
      TBn_STATUS_DISCONTINUITY, TBn_STATUS_LOST, TBn_STATUS_RETURNED, TBn_STATUS_CLAMPED]
  · simp [flag_eq_false_iff, Dev.collectAnew, Dev.putB, get_settle_of_le, get_put_same, get_put_of_apart, TBn_STATUS_STATE, TBn_STATUS,
      TBn_STATUS_DISCONTINUITY, TBn_STATUS_LOST, TBn_STATUS_RETURNED, TBn_STATUS_CLAMPED, b2n]
  · simp [flag_eq_false_iff, Dev.collectAnew, Dev.putB, get_settle_of_le, get_put_same, get_put_of_apart, TBn_STATUS_STATE, TBn_STATUS,
      TBn_STATUS_DISCONTINUITY, TBn_STATUS_LOST, TBn_STATUS_RETURNED, TBn_STATUS_CLAMPED, b2n]

/-! ### Steps (R94, R95) -/

theorem stepCtrlWrite_arm {n : Nat} {d : Dev} (hw : d.writeOk (TBn_STEP_CTRL n) 1 = true) (hok : stepCtrlOk n 1 d = true) :
    stepCtrlWrite n 1 d = ((d.writePlain (TBn_STEP_CTRL n) 1).putB (TBn_STATUS_STEP_PENDING n) true).onTb n (fun t =>
      { t with stepSec := d.getI (TBn_STEP_SEC_V n), stepNs := d.getI (TBn_STEP_NS_V n), stepAt := t.nextBoundary }) := by
  have hfield (f : Fld) (hf : TBn_STEP_CTRL n ≠ f.addr) : d.getI f = (d.writePlain (TBn_STEP_CTRL n) 1).getI f := by
    rw [Dev.getI, Dev.getI, get_writePlain_other _ _ _ _ hf]
  rw [stepCtrlWrite, writeVia_taken _ _ _ _ _ hw hok, hfield _ (by simp [TBn_STEP_SEC_V, TBn_STEP_SEC, TBn_STEP_CTRL]),
    hfield _ (by simp [TBn_STEP_NS_V, TBn_STEP_NS, TBn_STEP_CTRL])]
  rfl

theorem stepCtrlWrite_cancel {n : Nat} {d : Dev} (hw : d.writeOk (TBn_STEP_CTRL n) 2 = true) :
    stepCtrlWrite n 2 d = (d.writePlain (TBn_STEP_CTRL n) 2).putB (TBn_STATUS_STEP_PENDING n) false := by
  rw [stepCtrlWrite, writeVia_taken _ _ _ _ _ hw rfl]
  rfl

theorem stepCtrlWrite_resume {n : Nat} {d : Dev} (hw : d.writeOk (TBn_STEP_CTRL n) 4 = true) (hok : stepCtrlOk n 4 d = true) :
    stepCtrlWrite n 4 d = (d.writePlain (TBn_STEP_CTRL n) 4).enterLocked n := by
  rw [stepCtrlWrite, writeVia_taken _ _ _ _ _ hw hok]
  simp only

theorem completes_stepArm (s : State) (n : Fin 4) (h : s.takes (TBn_STEP_CTRL n) 1) (hn : n ≠ 3)
    (hp : s.dev.flag (TBn_STATUS_STEP_PENDING n) = false) (hfits : s.dev.stepFits n = true) :
    Completes (.stepArm n) s (fun e =>
      e.flag (TBn_STATUS_STEP_PENDING n) = true ∧ keepsRegs [TBn_STEP_CTRL n, TBn_STATUS n] s.dev e ∧ keepsMem s.dev e ∧
      (n.val < s.dev.time.tbs.length → (e.tb n).stepSec = s.dev.getI (TBn_STEP_SEC_V n) ∧
        (e.tb n).stepNs = s.dev.getI (TBn_STEP_NS_V n) ∧ (e.tb n).stepAt = (s.dev.tb n).nextBoundary)) := by
  have hn3 : n.val ≠ 3 := fun h3 => hn (Fin.ext h3)
  have hok : stepCtrlOk n 1 s.dev = true := by simp [stepCtrlOk, hn3, hp, hfits]
  refine completes_hostWrite (f := stepCtrlWrite n 1) rfl h.1 ?_
  rw [stepCtrlWrite_arm h.2 hok]
  refine ⟨?_, (keeps_of_frame ?frame).1, (keeps_of_frame ?frame).2, fun hlen => ?_⟩
  case frame => simp [TBn_STATUS_STEP_PENDING]
  · rw [flag_settle_of_le _ _ (by simp [TBn_STATUS_STEP_PENDING, TBn_STATUS]), onTb_flag]
    exact flag_putB_same _ _ _ (by simp [TBn_STATUS_STEP_PENDING]) (by simp [TBn_STATUS_STEP_PENDING])
  · have htb : ((s.dev.writePlain (TBn_STEP_CTRL n) 1).putB (TBn_STATUS_STEP_PENDING n) true).tb n = s.dev.tb n :=
      tb_congr (by simp) n
    rw [tb_congr (settle_time _), tb_onTb_same _ _ _ (by simpa using hlen), htb]
    simp only [and_self]

theorem completes_stepCancel (s : State) (n : Fin 4) (h : s.takes (TBn_STEP_CTRL n) 2) :
    Completes (.stepCancel n) s (fun e =>
      e.flag (TBn_STATUS_STEP_PENDING n) = false ∧ keepsRegs [TBn_STEP_CTRL n, TBn_STATUS n] s.dev e ∧ keepsMem s.dev e ∧
      e.time = s.dev.time) := by
  refine completes_hostWrite (f := stepCtrlWrite n 2) rfl h.1 ?_
  rw [stepCtrlWrite_cancel h.2]
  refine ⟨?_, (keeps_of_frame ?frame).1, (keeps_of_frame ?frame).2, by simp⟩
  case frame => simp [TBn_STATUS_STEP_PENDING]
  rw [flag_settle_of_le _ _ (by simp [TBn_STATUS_STEP_PENDING, TBn_STATUS])]
  exact flag_putB_same _ _ _ (by simp [TBn_STATUS_STEP_PENDING]) (by simp [TBn_STATUS_STEP_PENDING])

theorem completes_stepResume (s : State) (n : Fin 4) (h : s.takes (TBn_STEP_CTRL n) 4) (hn : n ≠ 3)
    (hstate : s.dev.get (TBn_STATUS_STATE n) = 3) (hdisc : s.dev.flag (TBn_STATUS_DISCONTINUITY n) = true) :
    Completes (.stepResume n) s (fun e =>
      e = settle ((s.dev.writePlain (TBn_STEP_CTRL n) 4).enterLocked n) ∧ e.get (TBn_STATUS_STATE n) = 2) := by
  have hn3 : n.val ≠ 3 := fun h3 => hn (Fin.ext h3)
  have hok : stepCtrlOk n 4 s.dev = true := by simp [stepCtrlOk, hn3, hstate, hdisc]
  refine completes_hostWrite (f := stepCtrlWrite n 4) rfl h.1 ?_
  rw [stepCtrlWrite_resume h.2 hok]
  exact ⟨rfl, (get_settle_of_le _ _ (by simp [TBn_STATUS_STATE, TBn_STATUS])).trans (enterLocked_state n.isLt _)⟩

end Sys2Proof.Machine
end

section
/-! SUPPORT. The step of a time base at its boundary, the servo's measurements, a lost reference and a change of rate (R89 to R97). -/
namespace Sys2Proof.Machine

/-! ### A step (R94 to R97) -/

/-- A timecode discontinuity leaves the status of every time base alone. -/
theorem word_tcDisc_tbStatus {n : Nat} (hn : n < 4) (old new : Rat) (d : Dev) : (d.tcDisc old new).word (TBn_STATUS n) = d.word (TBn_STATUS n) := by
  have hcount : TC_DISC_COUNT_V.addr ≠ TBn_STATUS n := by simp only [TC_DISC_COUNT_V, TC_DISC_COUNT, TBn_STATUS]; omega
  have hstatus : TC_STATUS ≠ TBn_STATUS n := by simp only [TC_STATUS, TBn_STATUS]; omega
  rw [tcDisc_eq, word_timeEvt_tbStatus hn, onTime_word, Dev.inc, Dev.addSat, word_put_other _ _ _ _ hcount, word_tcMarked_other _ hstatus]

/-- The frame queues follow a step in the counters of the heads alone (R96). -/
theorem word_queueStepped {r : Nat} (hr : r < 0x20000) (n old : Nat) (d : Dev) : (d.queueStepped n old).word r = d.word r := by
  refine foldS_congr (fun s => Dev.word s r) _ _ _ fun h _ s => ?_
  have hjudge (t : Dev) : (t.judgeFront h).word r = t.word r :=
    (onHead_word ..).trans (word_put_other _ _ _ _ (by simp only [HDn_COUNTk_V, HDn_COUNTk]; omega))
  dsimp only
  split
  · split
    · exact (hjudge _).trans (onHead_word ..)
    · exact onHead_word ..
  · exact onHead_word ..

theorem word_marksStepped (n old : Nat) (d : Dev) (r : Nat) : (d.marksStepped n old).word r = d.word r := rfl

/-- What sees none of the parts that a step changes is as before. -/
theorem stepOne_congr {α : Type} (g : Dev → α) (htb : ∀ (e : Dev) m f, g (e.onTb m f) = g e)
    (hqueue : ∀ (e : Dev) m old, g (e.queueStepped m old) = g e) (hmarks : ∀ (e : Dev) m old, g (e.marksStepped m old) = g e)
    (hcount : ∀ (e : Dev) m, g (e.inc (TBn_STEP_COUNT_V m)) = g e) (hevt : ∀ (e : Dev) b, g (e.timeEvt b) = g e)
    (htc : ∀ (e : Dev) old new, g (e.tcDisc old new) = g e) (delta : Int) (n : Nat) (d : Dev) : g (d.stepOne delta n) = g d := by
  unfold Dev.stepOne
  extract_lets t total d0 d1 d2 c
  have h2 : g d2 = g d := by rw [hevt, hcount, hmarks, hqueue, htb]
  split
  · rw [htc, h2]
  · exact h2

theorem word_stepOne_tbStatus {m : Nat} (hm : m < 4) (delta : Int) (n : Nat) (d : Dev) :
    (d.stepOne delta n).word (TBn_STATUS m) = d.word (TBn_STATUS m) :=
  stepOne_congr (fun e => Dev.word e (TBn_STATUS m)) (fun e k f => onTb_word ..)
    (fun e k old => word_queueStepped (by simp only [TBn_STATUS]; omega) k old e) (fun e k old => word_marksStepped k old e _)
    (fun e k => word_put_other _ _ _ _ (by simp only [TBn_STEP_COUNT_V, TBn_STEP_COUNT, TBn_STATUS]; omega))
    (fun e b => word_timeEvt_tbStatus hm b e) (fun e old new => word_tcDisc_tbStatus hm old new e) delta n d

theorem word_stepBy_tbStatus {m : Nat} (hm : m < 4) (n : Nat) (delta : Int) (d : Dev) :
    (d.stepBy n delta).word (TBn_STATUS m) = d.word (TBn_STATUS m) :=
  foldS_congr (fun s => Dev.word s (TBn_STATUS m)) _ _ _ fun k _ s => word_stepOne_tbStatus hm delta k s

/-- What a step does to the servo's state leaves the pending steps alone. -/
theorem flag_stepServo_pending {m : Nat} (hm : m < 4) (host : Bool) (n : Nat) (d : Dev) :
    (d.stepServo host n).flag (TBn_STATUS_STEP_PENDING m) = d.flag (TBn_STATUS_STEP_PENDING m) := by
  have hlocked : (d.enterLocked n).flag (TBn_STATUS_STEP_PENDING m) = d.flag (TBn_STATUS_STEP_PENDING m) := by
    rw [Dev.enterLocked, flag_congr (f := TBn_STATUS_STEP_PENDING m) (word_timeEvt_tbStatus hm _ _)]
    simp [Dev.flag, Dev.putB, get_put_of_apart, TBn_STATUS_STEP_PENDING, TBn_STATUS_STATE, TBn_STATUS_DISCONTINUITY, TBn_STATUS_LOST]
  unfold Dev.stepServo
  split
  · exact onTb_flag ..
  · split
    · exact hlocked
    · rfl
  · rfl

theorem stepApply_eq {n : Nat} {d : Dev} (h : d.flag (TBn_STATUS_STEP_PENDING n) = true) : stepApply n d =
    foldS (d.stepGroup n) (Dev.stepServo true)
      (Dev.stepBy n ((d.tb n).stepSec * 1000000000 + (d.tb n).stepNs) (d.putB (TBn_STATUS_STEP_PENDING n) false)) := if_pos h

theorem completes_stepApply (s : State) (n : Fin 4) (hlive : s.live) (h : s.dev.flag (TBn_STATUS_STEP_PENDING n) = true) :
    Completes (.stepApply n) s (fun e =>
      e = settle (foldS (s.dev.stepGroup n) (Dev.stepServo true)
        (Dev.stepBy n ((s.dev.tb n).stepSec * 1000000000 + (s.dev.tb n).stepNs) (s.dev.putB (TBn_STATUS_STEP_PENDING n) false))) ∧
      e.flag (TBn_STATUS_STEP_PENDING n) = false) := by
  refine completes_on (f := stepApply n) rfl hlive ?_
  rw [stepApply_eq h]
  refine ⟨rfl, ?_⟩
  rw [flag_settle_of_le _ _ (by simp [TBn_STATUS_STEP_PENDING, TBn_STATUS]),
    foldS_congr (fun e => Dev.flag e (TBn_STATUS_STEP_PENDING n)) _ _ _ fun k _ e => flag_stepServo_pending n.isLt true k e,
    flag_congr (f := TBn_STATUS_STEP_PENDING n) (word_stepBy_tbStatus n.isLt _ _ _)]
  exact flag_putB_same _ _ _ (by simp [TBn_STATUS_STEP_PENDING]) (by simp [TBn_STATUS_STEP_PENDING])

/-! ### A measurement out of bounds (R92, R93) -/

/-- The record of an offset writes OFFSET, the history, the count and RETURNED: a field at or below DISC_THRESH, and above RETURNED where
it stands in the status, reads as before. -/
theorem get_recordOffset {n : Nat} {f : Fld} (hlow : f.addr ≤ TBn_DISC_THRESH n) (hoff : TBn_OFFSET n ≠ f.addr)
    (hstatus : TBn_STATUS n ≠ f.addr ∨ 28 ≤ f.lo) (hf : f.lo + f.w ≤ 32) (x : Int) (d : Dev) : (d.recordOffset n x).get f = d.get f := by
  have hhist : ((List.range 31).foldl (fun s k => s.putI (TBn_HISTk_V n (31 - k)) (d.getI (TBn_HISTk_V n (30 - k)))) d).get f = d.get f :=
    foldl_congr (fun s => Dev.get s f) _ _ _ fun k _ s => get_put_of_ne _ _ _ _ (by
      simp only [TBn_HISTk_V, TBn_HISTk, TBn_DISC_THRESH] at hlow ⊢
      omega)
  unfold Dev.recordOffset Dev.setReturned Dev.putB
  dsimp only
  rw [get_put_other _ _ _ _ (hstatus.imp id .inl) hf, Dev.inc, Dev.addSat, get_put_of_ne, Dev.putI, get_put_of_ne _ _ _ _ hoff,
    Dev.putI, get_put_of_ne, hhist]
  · simp only [TBn_HISTk_V, TBn_HISTk, TBn_DISC_THRESH] at hlow ⊢
    omega
  · simp only [TBn_MEAS_COUNT_V, TBn_MEAS_COUNT, TBn_DISC_THRESH] at hlow ⊢
    omega

/-- In LOCKED an offset above the threshold ends the lock (R93). -/
theorem servoMeasurement_eq_enterDisc {n src arg : Nat} {x ppb : Int} {d : Dev} (hsrc : d.get (TBn_CTRL_SOURCE n) = src)
    (harg : d.get (TBn_CTRL_ARG n) = arg) (h2 : 2 ≤ src) (h3 : src ≠ 3) (h8 : src ≠ 8) (hmeas : (d.tb n).meas = some x)
    (hmode : d.mode ≠ 0) (hstate : d.get (TBn_STATUS_STATE n) = 2) (hx : d.get (TBn_DISC_THRESH_V n) < x.natAbs) :
    servoMeasurement n src arg ppb d =
      Dev.enterDisc n ((Dev.recordOffset n x (d.onTb n (fun t => { t with meas := none }))).enterHoldover n) := by
  have href (e : Dev) (he : e.get (TBn_CTRL_SOURCE n) = src) : e.refSource n = false := by
    simp [Dev.refSource, he, h3, show src ≠ 1 by omega]
  have hrec : ((d.onTb n (fun t => { t with meas := none })).recordOffset n x).get (TBn_STATUS_STATE n) = 2 := by
    rw [get_recordOffset, onTb_get, hstate] <;> simp [TBn_STATUS_STATE, TBn_STATUS, TBn_DISC_THRESH, TBn_OFFSET]
  have hthresh : ((d.onTb n (fun t => { t with meas := none })).recordOffset n x).get (TBn_DISC_THRESH_V n) = d.get (TBn_DISC_THRESH_V n) := by
    rw [get_recordOffset, onTb_get] <;> simp [TBn_DISC_THRESH_V, TBn_STATUS, TBn_DISC_THRESH, TBn_OFFSET]
  have hrefused : ¬ (d.get (TBn_CTRL_SOURCE n) ≠ src ∨ d.get (TBn_CTRL_ARG n) ≠ arg ∨ src = 0 ∨ src = 8 ∨ d.mode = 0) := by
    simp [hsrc, harg, h8, hmode, show src ≠ 0 by omega]
  rw [servoMeasurement, if_neg hrefused, href d hsrc, if_neg (by simp), if_neg (show src ≠ 1 by omega), hmeas]
  simp only [Bool.false_eq_true, if_false, hrec, hthresh, decide_eq_false (show ¬ x.natAbs ≤ d.get (TBn_DISC_THRESH_V n) by omega)]

theorem get_enterDisc_tbStatus {n : Nat} (hn : n < 4) (d : Dev) :
    (d.enterDisc n).get (TBn_STATUS_STATE n) = d.get (TBn_STATUS_STATE n) ∧ (d.enterDisc n).flag (TBn_STATUS_DISCONTINUITY n) = true := by
  rw [Dev.enterDisc, get_congr (f := TBn_STATUS_STATE n) (word_timeEvt_tbStatus hn _ _),
    flag_congr (f := TBn_STATUS_DISCONTINUITY n) (word_timeEvt_tbStatus hn _ _)]
  constructor
  · simp [Dev.inc, Dev.addSat, Dev.putB, get_put_of_ne, get_put_of_apart, TBn_STATUS_STATE, TBn_STATUS_DISCONTINUITY, TBn_STATUS_LOST,
      TBn_DISC_COUNT_V, TBn_DISC_COUNT, TBn_STATUS]
  · simp [Dev.flag, Dev.inc, Dev.addSat, Dev.putB, get_put_of_ne, get_put_same, TBn_STATUS_DISCONTINUITY, TBn_DISC_COUNT_V, TBn_DISC_COUNT,
      TBn_STATUS, b2n]

theorem completes_servoMeasurement (s : State) (n : Fin 4) (src : Fin 16) (arg : Fin 4) (x ppb : Int) (hlive : s.live)
    (hsrc : s.dev.get (TBn_CTRL_SOURCE n) = src) (harg : s.dev.get (TBn_CTRL_ARG n) = arg) (h2 : 2 ≤ s.dev.get (TBn_CTRL_SOURCE n))
    (h3 : s.dev.get (TBn_CTRL_SOURCE n) ≠ 3) (h8 : s.dev.get (TBn_CTRL_SOURCE n) ≠ 8) (hmeas : (s.dev.tb n).meas = some x)
    (hmode : s.dev.mode ≠ 0) (hstate : s.dev.get (TBn_STATUS_STATE n) = 2) (hx : s.dev.get (TBn_DISC_THRESH_V n) < x.natAbs) :
    Completes (.servoMeasurement n src arg ppb) s (fun e =>
      e = settle (Dev.enterDisc n ((Dev.recordOffset n x (s.dev.onTb n (fun t => { t with meas := none }))).enterHoldover n)) ∧
      e.get (TBn_STATUS_STATE n) = 3 ∧ e.flag (TBn_STATUS_DISCONTINUITY n) = true) := by
  refine completes_on (f := servoMeasurement n src arg ppb) rfl hlive ?_
  rw [hsrc] at h2 h3 h8
  rw [servoMeasurement_eq_enterDisc hsrc harg h2 h3 h8 hmeas hmode hstate hx,
    get_settle_of_le _ _ (by simp [TBn_STATUS_STATE, TBn_STATUS]), flag_settle_of_le _ _ (by simp [TBn_STATUS_DISCONTINUITY, TBn_STATUS])]
  obtain ⟨hkept, hdisc⟩ := get_enterDisc_tbStatus n.isLt
    ((Dev.recordOffset n x (s.dev.onTb n (fun t => { t with meas := none }))).enterHoldover n)
  exact ⟨rfl, hkept.trans (enterHoldover_state _ _), hdisc⟩

/-! ### A lost reference (R89, R93) -/

/-- A fold over distinct numbers acts once at each of them: what only the step at `n` changes is seen after it as that step left it. -/
theorem foldS_once {σ α : Type} (g : σ → α) (l : List Nat) (f : Nat → σ → σ) (s : σ) (n : Nat) (hn : n ∈ l) (hl : l.Nodup)
    (h : ∀ k ∈ l, k ≠ n → ∀ e, g (f k e) = g e) : ∃ e, g e = g s ∧ g (foldS l f s) = g (f n e) := by
  obtain ⟨a, b, rfl⟩ := List.append_of_mem hn
  obtain ⟨-, hb, hdisj⟩ := List.nodup_append.1 hl
  have hna : ∀ k ∈ a, k ≠ n := fun k hk => hdisj k hk n List.mem_cons_self
  have hnb : ∀ k ∈ b, k ≠ n := fun k hk e => (List.nodup_cons.1 hb).1 (e ▸ hk)
  refine ⟨foldS a f s, foldS_congr g a f s fun k hk => h k (by simp [hk]) (hna k hk), ?_⟩
  have hsplit : foldS (a ++ n :: b) f s = foldS b f (f n (foldS a f s)) := by simp [foldS]
  rw [hsplit]
  exact foldS_congr g b f _ fun k hk => h k (by simp [hk]) (hnb k hk)

/-- What the loss of an input marks stands from TC_CTRL to the PTP registers, or with the TIME sets. -/
theorem word_inputLost {r : Nat} (hlow : 0x4000 ≤ r) (hr : r < 0x4600 ∨ 0x4700 ≤ r ∧ r < 0x4C00) (src : Nat) (d : Dev) :
    (d.inputLost src).word r = d.word r := by
  have hevt (e : Dev) (b : Nat) : (e.timeEvt b).word r = e.word r :=
    word_timeEvt e hlow (by omega) (by simp only [TIME_EVT_STATUS]; omega) b
  have hput (e : Dev) (a v : Nat) (ha : 0x4600 ≤ a ∧ a < 0x4700 ∨ 0x4C00 ≤ a) : (e.setWord a v).word r = e.word r :=
    word_setWord_other _ _ _ _ (by omega)
  unfold Dev.inputLost
  extract_lets d1
  have h1 : d1.word r = d.word r := by
    simp only [d1]
    split
    · rfl
    · exact guardFail_word ..
  rw [← h1]
  split
  · exact hput _ _ _ (by decide)
  · exact hevt _ _
  · exact (hevt _ _).trans (hput _ _ _ (by decide))
  · exact (hevt _ _).trans (hput _ _ _ (by decide))
  · exact (hevt _ _).trans (hput _ _ _ (by decide))
  · rfl

/-- The servo's part of a lost reference is in the status and the rate of its time base. -/
theorem word_servoLost_other {n r : Nat} (hlow : 0x4000 ≤ r) (hhigh : r < 0x6000) (hevt : TIME_EVT_STATUS ≠ r) (hs : TBn_STATUS n ≠ r)
    (hr : TBn_RATE n ≠ r) (d : Dev) : (d.servoLost n).word r = d.word r := by
  unfold Dev.servoLost
  split
  · exact onTb_word ..
  · exact (word_timeEvt _ hlow hhigh hevt _).trans ((word_put_other _ _ _ _ hs).trans (word_enterHoldover_other hs hr d))
  · rfl

theorem servoLost_locked {n : Nat} (hn : n < 4) {d : Dev} (h : d.get (TBn_STATUS_STATE n) = 2) :
    (d.servoLost n).get (TBn_STATUS_STATE n) = 3 ∧ (d.servoLost n).flag (TBn_STATUS_LOST n) = true := by
  simp only [Dev.servoLost, h]
  rw [get_congr (f := TBn_STATUS_STATE n) (word_timeEvt_tbStatus hn _ _), flag_congr (f := TBn_STATUS_LOST n) (word_timeEvt_tbStatus hn _ _)]
  constructor
  · rw [Dev.putB, get_put_of_apart _ _ _ _ (by simp [TBn_STATUS_STATE, TBn_STATUS_LOST]) (by simp [TBn_STATUS_STATE]), enterHoldover_state]
  · exact flag_putB_same _ _ _ (by simp [TBn_STATUS_LOST]) (by simp [TBn_STATUS_LOST])

theorem sourceLost_eq {src arg : Nat} {d : Dev} (h0 : src ≠ 0) (h3 : src ≠ 3) (h8 : src ≠ 8) (hmode : d.mode ≠ 0) :
    d.sourceLost src arg = foldS ([0, 1, 2].filter (d.usesSource src arg)) Dev.servoLost (d.inputLost src) :=
  if_neg (by simp [h0, h3, h8, hmode])

/-- A locked time base that loses its reference is in HOLDOVER, with LOST set. -/
theorem sourceLost_locked {src arg n : Nat} (hn : n < 3) {d : Dev} (h0 : src ≠ 0) (h3 : src ≠ 3) (h8 : src ≠ 8) (hmode : d.mode ≠ 0)
    (huses : d.usesSource src arg n = true) (hstate : d.get (TBn_STATUS_STATE n) = 2) :
    (d.sourceLost src arg).get (TBn_STATUS_STATE n) = 3 ∧ (d.sourceLost src arg).flag (TBn_STATUS_LOST n) = true := by
  obtain ⟨e, he, hfold⟩ := foldS_once (fun s => Dev.word s (TBn_STATUS n)) ([0, 1, 2].filter (d.usesSource src arg)) Dev.servoLost
    (d.inputLost src) n (List.mem_filter.2 ⟨by simp; omega, huses⟩) (List.Nodup.filter _ (by decide))
    fun k _ hkn s => word_servoLost_other (by simp only [TBn_STATUS]; omega) (by simp only [TBn_STATUS]; omega)
      (by simp only [TBn_STATUS, TIME_EVT_STATUS]; omega) (by simp only [TBn_STATUS]; omega) (by simp only [TBn_STATUS, TBn_RATE]; omega) s
  have hinput : e.word (TBn_STATUS n) = d.word (TBn_STATUS n) :=
    he.trans (word_inputLost (by simp only [TBn_STATUS]; omega) (.inl (by simp only [TBn_STATUS]; omega)) src d)
  have hlocked : e.get (TBn_STATUS_STATE n) = 2 := (get_congr (f := TBn_STATUS_STATE n) hinput).trans hstate
  obtain ⟨hheld, hlost⟩ := servoLost_locked (by omega) hlocked
  rw [sourceLost_eq h0 h3 h8 hmode]
  exact ⟨(get_congr (f := TBn_STATUS_STATE n) hfold).trans hheld, (flag_congr (f := TBn_STATUS_LOST n) hfold).trans hlost⟩

theorem completes_referenceLost (s : State) (src : Fin 16) (arg : Fin 4) (n : Fin 3) (hlive : s.live) (h0 : src.val ≠ 0) (h3 : src.val ≠ 3)
    (h8 : src.val ≠ 8) (hmode : s.dev.mode ≠ 0) (huses : s.dev.usesSource src arg n = true) (hstate : s.dev.get (TBn_STATUS_STATE n) = 2) :
    Completes (.referenceLost ⟨src, arg⟩) s (fun e =>
      e = settle (s.dev.sourceLost src arg) ∧ e.get (TBn_STATUS_STATE n) = 3 ∧ e.flag (TBn_STATUS_LOST n) = true) := by
  refine completes_on (f := referenceLost src arg) rfl hlive ?_
  obtain ⟨hheld, hlost⟩ := sourceLost_locked n.isLt h0 h3 h8 hmode huses hstate
  exact ⟨rfl, (get_settle_of_le _ _ (by simp [TBn_STATUS_STATE, TBn_STATUS])).trans hheld,
    (flag_settle_of_le _ _ (by simp [TBn_STATUS_LOST, TBn_STATUS])).trans hlost⟩

/-! ### A change of rate (R97) -/

theorem tcDisc_status (old new : Rat) (d : Dev) : (d.tcDisc old new).flag TC_STATUS_DISC = true ∧
    (d.tcDisc old new).get TC_DISC_COUNT_V = min (d.get TC_DISC_COUNT_V + 1) (2 ^ 32 - 1) ∧
    (d.tcDisc old new).get TC_CTRL_RATE = d.get TC_CTRL_RATE ∧ (d.tcDisc old new).time.tcDisc = true := by
  have hevt (e : Dev) {f : Fld} (hlow : 0x4000 ≤ f.addr) (hhigh : f.addr < 0x46F4) (b : Nat) : (e.timeEvt b).get f = e.get f :=
    get_congr (word_timeEvt e hlow (by omega) (by simp only [TIME_EVT_STATUS]; omega) b)
  have hcount (e : Dev) {f : Fld} (hf : TC_DISC_COUNT ≠ f.addr) : (e.inc TC_DISC_COUNT_V).get f = e.get f :=
    get_put_of_ne _ TC_DISC_COUNT_V _ _ hf
  have hmarked {f : Fld} (hf : TC_STATUS ≠ f.addr) : (d.tcMarked old new).get f = d.get f := get_congr (word_tcMarked_other d hf old new)
  rw [tcDisc_eq, Dev.flag, hevt _ (by decide) (by decide), hevt _ (by decide) (by decide), hevt _ (by decide) (by decide), timeEvt_time,
    onTime_get, onTime_get, onTime_get, hcount (f := TC_STATUS_DISC) _ (by decide), hcount (f := TC_CTRL_RATE) _ (by decide),
    get_inc_same _ _ (by decide), tcMarked_disc, hmarked (by decide), hmarked (by decide)]
  exact ⟨rfl, rfl, rfl, rfl⟩

theorem tcCtrlWrite_eq {v : Nat} {d : Dev} (hw : d.writeOk TC_CTRL v = true)
    (hrate : d.get TC_CTRL_RATE ≠ (d.writePlain TC_CTRL v).get TC_CTRL_RATE) :
    ∃ old new, tcCtrlWrite v d = (d.writePlain TC_CTRL v).tcDisc old new := by
  rw [tcCtrlWrite, writeVia_taken _ _ _ _ _ hw rfl]
  exact ⟨_, _, if_neg hrate⟩

theorem rwField_tcRate : rwField TC_CTRL_RATE = true := by decide +kernel

theorem completes_tcRateChange (s : State) (v : Word) (h : s.takes TC_CTRL v.toNat) (hv : bitsOf v.toNat 28 4 ≠ s.dev.get TC_CTRL_RATE) :
    Completes (.tcRateChange v) s (fun e =>
      e.get TC_CTRL_RATE = bitsOf v.toNat 28 4 ∧ e.flag TC_STATUS_DISC = true ∧ e.time.tcDisc = true ∧
      e.get TC_DISC_COUNT_V = min (s.dev.get TC_DISC_COUNT_V + 1) (2 ^ 32 - 1)) := by
  have hrate : (s.dev.writePlain TC_CTRL v.toNat).get TC_CTRL_RATE = bitsOf v.toNat 28 4 := get_writePlain_rwField rwField_tcRate _ _
  refine completes_hostWrite (f := tcCtrlWrite v.toNat) rfl h.1 ?_
  obtain ⟨old, new, heq⟩ := tcCtrlWrite_eq h.2 (by rw [hrate]; exact hv.symm)
  obtain ⟨hdisc, hcount, hkept, htime⟩ := tcDisc_status old new (s.dev.writePlain TC_CTRL v.toNat)
  rw [heq, get_settle_of_le _ _ (by decide), flag_settle_of_le _ _ (by decide), get_settle_of_le _ _ (by decide), settle_time]
  refine ⟨hkept.trans hrate, hdisc, htime, ?_⟩
  rw [hcount, get_writePlain_other _ _ _ _ (by decide)]

/-! ### The statement -/

/-- Settles O12: a write of a time base's registers is a few stores; what a step, a measurement out of bounds or a lost reference does to
the servo stands in TBn_STATUS, which neither the event records nor the frame queues touch. -/
theorem timeBases : Obligations.TimeBases :=
  ⟨fun _ _ _ hs => completes_on rfl hs rfl, fun _ _ _ hs => completes_on rfl hs rfl, fun _ _ hs => completes_on rfl hs rfl,
    fun _ _ hs => completes_on rfl hs rfl, fun _ _ hs => completes_on rfl hs rfl, fun _ _ hs => completes_on rfl hs rfl,
    fun _ _ _ _ _ hs => completes_on rfl hs rfl, fun _ _ hs => completes_on rfl hs rfl, fun _ _ hs => completes_on rfl hs rfl,
    completes_tbLatch, completes_tbCtrlWrite, completes_stepArm, completes_stepCancel, completes_stepResume, completes_stepApply,
    completes_servoMeasurement, fun s src arg n hlive h0 h3 h8 hmode _ => completes_referenceLost s src arg n hlive h0 h3 h8 hmode,
    completes_tcRateChange⟩

end Sys2Proof.Machine
end

section
/-! SUPPORT. Timecode, sync, pulses and the capture channels (R100 to R105). -/
namespace Sys2Proof.Machine

/-! ### Words, edges and pulses (R100 to R104) -/

@[simp] theorem send_sent (d : Dev) (x : Sent) : (d.send x).sent = x :: d.sent := by unfold Dev.send; rfl

theorem completes_ltcOutWord (s : State) (l : TcLabel) (hlive : s.live) (hen : s.dev.flag TC_CTRL_LTC_OUT_EN = true) (hmode : s.dev.mode ≠ 0)
    (hl : l = nearestLabel (((s.dev.tb 1).total : Int) - s.dev.getI LTCOUT_OFFSET_V) (s.dev.get TC_CTRL_RATE)) :
    Completes .ltcOutWord s (fun e =>
      e.sent = .ltcWord (ltcBits
          { l with frames := l.frames * ltcNominal (s.dev.get TC_CTRL_RATE) / nominal (s.dev.get TC_CTRL_RATE) }
          (s.dev.get TC_CTRL_RATE == 3) (s.dev.get TC_USERBITS_V) (s.dev.get TC_CTRL_BGF)
          (ltcNominal (s.dev.get TC_CTRL_RATE))) :: s.dev.sent ∧
      keepsRegs [] s.dev e ∧ keepsMem s.dev e) := by
  refine completes_on (f := ltcOutWord) rfl hlive ?_
  rw [ltcOutWord, if_pos (by simp [hen, hmode])]
  subst hl
  exact ⟨by simp, keeps_of_frame (by simp)⟩

theorem ltcInWord_valid {l : TcLabel} {drop : Bool} {user ago : Nat} {d : Dev} (hen : d.flag TC_CTRL_LTC_IN_EN = true) (hmode : d.mode ≠ 0) :
    ltcInWord 0 l drop user ago d = Dev.measured 1 9 (d.ltcOffset l (((d.tb 1).total : Int) - ago))
      (((d.setWord LTCIN_LABEL (l.word drop)).put LTCIN_USERBITS_V user).putB TC_STATUS_LTC_VALID true) := by
  delta ltcInWord
  rw [if_neg (by simp [hen, hmode])]
  simp only

theorem completes_ltcInWord (s : State) (h m sec f : Nat) (drop : Bool) (user : Word) (ago : Nat) (hlive : s.live)
    (hen : s.dev.flag TC_CTRL_LTC_IN_EN = true) (hmode : s.dev.mode ≠ 0) :
    Completes (.ltcInWord ⟨0, ago⟩ h m sec f drop user) s (fun e =>
      e.flag TC_STATUS_LTC_VALID = true ∧ e.get LTCIN_USERBITS_V = user.toNat ∧
      e.word LTCIN_LABEL = ({ hours := h, minutes := m, seconds := sec, frames := f } : TcLabel).word drop % 2 ^ 32 ∧
      keepsRegs [TC_STATUS, LTCIN_USERBITS, LTCIN_LABEL] s.dev e ∧ keepsMem s.dev e) := by
  refine completes_on (f := ltcInWord 0 { hours := h, minutes := m, seconds := sec, frames := f } drop user.toNat ago) rfl hlive ?_
  rw [ltcInWord_valid hen hmode]
  refine ⟨?_, ?_, ?_, keeps_of_frame (by simp [LTCIN_USERBITS_V, TC_STATUS_LTC_VALID])⟩
  · rw [flag_settle_of_le _ _ (by decide), measured_flag]
    exact flag_putB_same _ _ _ (by decide) (by decide)
  · rw [get_settle_of_le _ _ (by decide), measured_get, Dev.putB, get_put_of_ne _ _ _ _ (by decide), get_put_same _ _ _ (by decide)]
    exact Nat.mod_eq_of_lt user.isLt
  · rw [word_settle _ _ (by decide), measured_word, Dev.putB, word_put_other _ _ _ _ (by decide), word_put_other _ _ _ _ (by decide),
      word_setWord_same]

theorem syncInEdge_accepted {f r : Nat} {d : Dev} (hen : d.flag SYNCIN_ENABLE_V = true) (hmode : d.mode ≠ 0) (hok : syncInOk f r = true) :
    syncInEdge f r d = Dev.measured 0 4 (alignedOffset (d.tb 0).total (d.get (TBn_CTRL_PERIOD 0)))
      (((d.putB SYNCIN_STATUS_PRESENT true).put SYNCIN_STATUS_FORMAT f).put SYNCIN_STATUS_RATE r) := by
  rw [syncInEdge, if_neg (by simp [hen, hmode]), if_neg (by simp [hok])]

theorem completes_syncInEdge (s : State) (f : Fin 8) (r : Fin 16) (hlive : s.live) (hen : s.dev.flag SYNCIN_ENABLE_V = true)
    (hmode : s.dev.mode ≠ 0) (hok : syncInOk f r = true) :
    Completes (.syncInEdge f r) s (fun e =>
      e.flag SYNCIN_STATUS_PRESENT = true ∧ e.get SYNCIN_STATUS_FORMAT = f ∧ e.get SYNCIN_STATUS_RATE = r ∧
      keepsRegs [SYNCIN_STATUS] s.dev e ∧ keepsMem s.dev e) := by
  refine completes_on (f := syncInEdge f r) rfl hlive ?_
  rw [syncInEdge_accepted hen hmode hok]
  refine ⟨?_, ?_, ?_, keeps_of_frame (by simp [SYNCIN_STATUS_PRESENT, SYNCIN_STATUS_FORMAT, SYNCIN_STATUS_RATE])⟩
  · rw [flag_settle_of_le _ _ (by decide), measured_flag, Dev.flag, get_put_of_apart _ _ _ _ (by decide) (by decide),
      get_put_of_apart _ _ _ _ (by decide) (by decide)]
    exact flag_putB_same _ _ _ (by decide) (by decide)
  · rw [get_settle_of_le _ _ (by decide), measured_get, get_put_of_apart _ _ _ _ (by decide) (by decide), get_put_same _ _ _ (by decide)]
    exact Nat.mod_eq_of_lt f.isLt
  · rw [get_settle_of_le _ _ (by decide), measured_get, get_put_same _ _ _ (by decide)]
    exact Nat.mod_eq_of_lt r.isLt

theorem completes_syncOutFrame (s : State) (hlive : s.live) (hformat : s.dev.get SYNCOUT_CTRL_FORMAT ≠ 0) (hmode : s.dev.mode ≠ 0) :
    Completes .syncOutFrame s (fun e =>
      e.sent = .syncOut (s.dev.get SYNCOUT_CTRL_FORMAT) (s.dev.get SYNCOUT_CTRL_RATE) :: s.dev.sent ∧
      keepsRegs [] s.dev e ∧ keepsMem s.dev e) := by
  refine completes_on (f := syncOutFrame) rfl hlive ?_
  rw [syncOutFrame, if_pos ⟨hformat, hmode⟩]
  exact ⟨by simp, keeps_of_frame (by simp)⟩

theorem ppsOutPulse_eq {d : Dev} (hmode : d.mode ≠ 0) (hwidth : d.get PPSOUT_WIDTH_V ≠ 0) (hnext : d.time.ppsNext ≤ d.ppsSecond) :
    ppsOutPulse d = d.onTime (fun t => { t with ppsOut := true, ppsNext := d.ppsSecond + 1 }) := if_pos ⟨hmode, hwidth, hnext⟩

theorem completes_ppsOutPulse (s : State) (hlive : s.live) (hmode : s.dev.mode ≠ 0) (hwidth : s.dev.get PPSOUT_WIDTH_V ≠ 0)
    (hnext : s.dev.time.ppsNext ≤ s.dev.ppsSecond) :
    Completes .ppsOutPulse s (fun e =>
      e.time = { s.dev.time with ppsOut := true, ppsNext := s.dev.ppsSecond + 1 } ∧ keepsRegs [] s.dev e ∧ keepsMem s.dev e) := by
  refine completes_on (f := ppsOutPulse) rfl hlive ?_
  rw [ppsOutPulse_eq hmode hwidth hnext]
  exact ⟨by simp, keeps_of_frame (by simp)⟩

theorem ppsOutPulseEnd_eq (d : Dev) : ppsOutPulseEnd d = d.onTime (fun t => { t with ppsOut := false }) := rfl

theorem completes_ppsOutPulseEnd (s : State) (hlive : s.live) :
    Completes .ppsOutPulseEnd s (fun e =>
      e.time = { s.dev.time with ppsOut := false } ∧ keepsRegs [] s.dev e ∧ keepsMem s.dev e) := by
  refine completes_on (f := ppsOutPulseEnd) rfl hlive ?_
  rw [ppsOutPulseEnd_eq]
  exact ⟨by simp, keeps_of_frame (by simp)⟩

theorem stampNow_congr {d e : Dev} (h : e.time = d.time) (n q : Nat) : e.stampNow n q = d.stampNow n q := by
  rw [Dev.stampNow, Dev.stampNow, tb_congr h]

theorem ppsInEdge_eq {falling : Bool} {q : Nat} {d : Dev} (hmode : d.mode ≠ 0) (hedge : d.flag PPSIN_EDGE_V = falling) :
    ppsInEdge falling q d = Dev.measured 0 3 (d.stampNow 0 q).offset (Dev.measured 0 2 (d.stampNow 0 q).offset
      ((d.inc PPSIN_COUNT_V).onTime (fun t => { t with ppsIn := d.stampNow 0 q }))) := by
  rw [ppsInEdge, if_pos ⟨hedge, hmode⟩]
  simp [stampNow_congr (inc_time d PPSIN_COUNT_V), Dev.onTime]

theorem completes_ppsInEdge (s : State) (falling : Bool) (q : Fin 4) (hlive : s.live) (hmode : s.dev.mode ≠ 0)
    (hedge : s.dev.flag PPSIN_EDGE_V = falling) :
    Completes (.ppsInEdge falling q) s (fun e =>
      e.get PPSIN_COUNT_V = min (s.dev.get PPSIN_COUNT_V + 1) (2 ^ 32 - 1) ∧ e.time.ppsIn = s.dev.stampNow 0 q ∧
      keepsRegs [PPSIN_COUNT] s.dev e ∧ keepsMem s.dev e) := by
  refine completes_on (f := ppsInEdge falling q) rfl hlive ?_
  rw [ppsInEdge_eq hmode hedge]
  refine ⟨?_, ?_, keeps_of_frame (by simp [PPSIN_COUNT_V])⟩
  · rw [get_settle_of_le _ _ (by decide), measured_get, measured_get, onTime_get, get_inc_same _ _ (by decide)]
    rfl
  · rw [settle_time, measured_congr _ (fun e => e.time.ppsIn) (fun _ _ _ => rfl), measured_congr _ (fun e => e.time.ppsIn) (fun _ _ _ => rfl),
      onTime_time]

/-! ### The capture channels (R105) -/

theorem setCap_eq (c : Nat) (l : List Stamp) (d : Dev) :
    d.setCap c l = (d.onTime (fun t => { t with caps := updAt t.caps c (fun _ => l) })).put (CAPc_STATUS_LEVEL c) l.length := rfl

@[simp] theorem frame_setCap {fr : List Nat} {c : Nat} (h : CAPc_STATUS c ∈ fr) (l : List Stamp) (d : Dev) :
    (d.setCap c l).frame fr = d.frame fr := by
  rw [setCap_eq, frame_put _ _ _ _ h, frame_onTime]

theorem cap_congr {d e : Dev} (h : e.time = d.time) (c : Nat) : e.cap c = d.cap c := by rw [Dev.cap, Dev.cap, h]

theorem cap_setCap {c : Nat} {d : Dev} (h : c < d.time.caps.length) (l : List Stamp) : (d.setCap c l).cap c = l := by
  rw [setCap_eq, cap_congr (put_time ..)]
  exact nth_updAt_same _ _ _ _ h

/-- LEVEL shows how many stamps a FIFO of at most seven holds. -/
theorem level_setCap (c : Nat) {l : List Stamp} (h : l.length < 8) (d : Dev) : (d.setCap c l).get (CAPc_STATUS_LEVEL c) = l.length :=
  (get_put_same _ (CAPc_STATUS_LEVEL c) _ (by simp [CAPc_STATUS_LEVEL])).trans (Nat.mod_eq_of_lt h)

/-- An edge input's event that the channel takes enters its FIFO with its quarter of a tick. -/
theorem captureEvent_edge {c q : Nat} {falling : Bool} {d : Dev} (h1 : 1 ≤ d.get (CAPc_CTRL_SOURCE c)) (h3 : d.get (CAPc_CTRL_SOURCE c) ≤ 3)
    (hedge : d.get (CAPc_CTRL_SOURCE c) = 1 → d.capEdge c falling = true) : captureEvent c q falling d = d.capPush c q := by
  obtain h | h | h : d.get (CAPc_CTRL_SOURCE c) = 1 ∨ d.get (CAPc_CTRL_SOURCE c) = 2 ∨ d.get (CAPc_CTRL_SOURCE c) = 3 := by omega
  · simp [captureEvent, h, hedge h]
  · simp [captureEvent, h]
  · simp [captureEvent, h]

theorem capPush_room {c q : Nat} {d : Dev} (h : (d.cap c).length < 4) :
    d.capPush c q = d.setCap c (d.cap c ++ [d.stampNow (d.get (CAPc_CTRL_TB c)) q]) := if_neg (by omega)

theorem completes_captureEvent (s : State) (c : Fin 16) (q : Fin 4) (falling : Bool) (hlive : s.live)
    (h1 : 1 ≤ s.dev.get (CAPc_CTRL_SOURCE c)) (h3 : s.dev.get (CAPc_CTRL_SOURCE c) ≤ 3)
    (hedge : s.dev.get (CAPc_CTRL_SOURCE c) = 1 → s.dev.capEdge c falling = true) (hroom : (s.dev.cap c).length < 4) :
    Completes (.captureEvent c ⟨q, falling⟩) s (fun e =>
      (c.val < s.dev.time.caps.length → e.cap c = s.dev.cap c ++ [s.dev.stampNow (s.dev.get (CAPc_CTRL_TB c)) q]) ∧
      e.get (CAPc_STATUS_LEVEL c) = (s.dev.cap c).length + 1 ∧ keepsRegs [CAPc_STATUS c] s.dev e ∧ keepsMem s.dev e) := by
  refine completes_on (f := captureEvent c q falling) rfl hlive ?_
  rw [captureEvent_edge h1 h3 hedge, capPush_room hroom]
  refine ⟨fun hlen => ?_, ?_, keeps_of_frame (by simp)⟩
  · rw [cap_congr (settle_time _), cap_setCap hlen]
  · rw [get_settle_of_le _ _ (by simp [CAPc_STATUS_LEVEL, CAPc_STATUS]), level_setCap _ (by simp; omega)]
    simp

theorem capPop_eq {c v : Nat} {d : Dev} (hw : d.writeOk (CAPc_POP c) v = true) (hv : v ≠ 0) :
    capPop c v d = (d.writePlain (CAPc_POP c) v).setCap c (d.cap c).tail := by
  rw [capPop, writeVia_taken _ _ _ _ _ hw rfl, if_neg hv, cap_congr (writePlain_time ..)]

theorem completes_capPop (s : State) (c : Fin 16) (v : Word) (h : s.takes (CAPc_POP c) v.toNat) (hv : v ≠ 0) (hfifo : (s.dev.cap c).length ≤ 4) :
    Completes (.capPop c v) s (fun e =>
      (c.val < s.dev.time.caps.length → e.cap c = (s.dev.cap c).tail) ∧ e.get (CAPc_STATUS_LEVEL c) = (s.dev.cap c).length - 1 ∧
      keepsRegs [CAPc_POP c, CAPc_STATUS c] s.dev e ∧ keepsMem s.dev e) := by
  refine completes_hostWrite (f := capPop c v.toNat) rfl h.1 ?_
  rw [capPop_eq h.2 fun hz => hv (BitVec.eq_of_toNat_eq hz)]
  refine ⟨fun hlen => ?_, ?_, keeps_of_frame (by simp)⟩
  · rw [cap_congr (settle_time _), cap_setCap (by simpa using hlen)]
  · rw [get_settle_of_le _ _ (by simp [CAPc_STATUS_LEVEL, CAPc_STATUS]), level_setCap _ (by simp; omega), List.length_tail]

/-! ### The statement -/

/-- Settles O13: each of these events writes a few registers, the FIFO of its channel or the output's own state, and sends at most one
word or pulse. -/
theorem timecodeAndSync : Obligations.TimecodeAndSync :=
  ⟨fun _ hs => completes_on rfl hs rfl, fun _ _ _ _ _ _ _ _ hs => completes_on rfl hs rfl, fun _ _ _ hs => completes_on rfl hs rfl,
    fun _ hs => completes_on rfl hs rfl, fun _ hs => completes_on rfl hs rfl, fun _ hs => completes_on rfl hs rfl,
    fun _ _ _ hs => completes_on rfl hs rfl, fun _ _ _ hs => completes_on rfl hs rfl, fun _ _ _ hs => completes_on rfl hs rfl,
    completes_ltcOutWord, completes_ltcInWord, completes_syncInEdge, completes_syncOutFrame, completes_ppsOutPulse,
    completes_ppsOutPulseEnd, completes_ppsInEdge, completes_captureEvent, completes_capPop⟩

end Sys2Proof.Machine
end

section
/-! SUPPORT. What a PTP port sends (R106 to R108). The counters of the two ports, PTPp_COUNTk and Ep_COUNTk, stand from 0x30 up in a
page of 256 bytes; no other register above 0x4800 that a message shows does. So the octets of a message are the same before and after
a count. -/
namespace Sys2Proof.Machine

/-! ### What the counters leave alone -/

/-- The words that no counter of a port holds: below 0x4800, and below 0x30 in each page of 256 bytes. -/
def Dev.besidesCounters (d : Dev) : Nat → Nat := fun r => if r < 0x4800 ∨ r % 0x100 < 0x30 then d.word r else 0

theorem besidesCounters_put {f : Fld} (hf : 0x4800 ≤ f.addr ∧ 0x30 ≤ f.addr % 0x100) (x : Nat) (d : Dev) :
    (d.put f x).besidesCounters = d.besidesCounters := by
  funext r
  unfold Dev.besidesCounters
  split
  · exact word_put_other _ _ _ _ (by rintro rfl; omega)
  · rfl

@[simp] theorem besidesCounters_onPtp (p : Nat) (f : PtpPort → PtpPort) (d : Dev) : (d.onPtp p f).besidesCounters = d.besidesCounters := by
  unfold Dev.onPtp; rfl

@[simp] theorem besidesCounters_inc_ptpCount (p k : Nat) (hk : k < 16) (d : Dev) :
    (d.inc (PTPp_COUNTk_V p k)).besidesCounters = d.besidesCounters :=
  besidesCounters_put (by simp only [PTPp_COUNTk_V, PTPp_COUNTk]; omega) _ d

section
variable {d e : Dev} (h : e.besidesCounters = d.besidesCounters)
include h

theorem get_of_besidesCounters (a lo w : Nat) (ha : a < 0x4800 ∨ a % 0x100 < 0x30) : e.get ⟨a, lo, w⟩ = d.get ⟨a, lo, w⟩ :=
  get_congr (by simpa [Dev.besidesCounters, ha] using congrFun h a)

theorem ptpFrame_congr (p kind : Nat) (msg : List Byte) : e.ptpFrame p kind msg = d.ptpFrame p kind msg := by
  simp only [Dev.ptpFrame, Dev.portMac, Dev.flag, Dev.portIpv4, Dev.portIpv6, show List.range 4 = [0, 1, 2, 3] from rfl, List.foldl,
    Ep_MAC_HI_V, Ep_MAC_HI, Ep_MAC_LO_V, Ep_MAC_LO, PTPp_CTRL_VLAN, PTPp_CTRL_TRANSPORT, PTPp_CTRL, PTPp_VLAN_TCI_V, PTPp_VLAN_TCI,
    PTPp_IPV4_V, PTPp_IPV4, PTPp_IPV6k_V, PTPp_IPV6k]
  simp (disch := omega) only [get_of_besidesCounters h] <;> rfl

theorem clockId_congr : e.clockId = d.clockId := by
  simp only [Dev.clockId, PTP_IDENTITY_HI_V, PTP_IDENTITY_HI, PTP_IDENTITY_LO_V, PTP_IDENTITY_LO]
  simp (disch := omega) only [get_of_besidesCounters h]

theorem ptpMsg_congr (p kind flags corr seq log : Nat) (body : List Byte) :
    e.ptpMsg p kind flags corr seq log body = d.ptpMsg p kind flags corr seq log body := by
  simp only [Dev.ptpMsg, Dev.portId, Dev.ownPort, clockId_congr h, PTP_CTRL_DOMAIN, PTP_CTRL]
  simp (disch := omega) only [get_of_besidesCounters h]

theorem ptpOn_congr (p : Nat) : e.ptpOn p = d.ptpOn p := by
  simp only [Dev.ptpOn, Dev.flag, Dev.mode, PTPp_CTRL_ENABLE, PTPp_CTRL, Ep_CTRL_ENABLE, Ep_CTRL, TOP_STATUS_MODE, TOP_STATUS]
  simp (disch := omega) only [get_of_besidesCounters h]

theorem ownSet_congr : e.ownSet = d.ownSet := by
  simp only [Dev.ownSet, Dev.clockClass, clockId_congr h, TBn_STATUS_STATE, TBn_STATUS, PTP_HOLDOVER_CLASS_V, PTP_HOLDOVER_CLASS,
    PTP_QUALITY_CLASS, PTP_QUALITY_ACCURACY, PTP_QUALITY_VARIANCE, PTP_QUALITY, PTP_PRIORITY1_V, PTP_PRIORITY1, PTP_PRIORITY2_V, PTP_PRIORITY2]
  simp (disch := omega) only [get_of_besidesCounters h] <;> rfl

variable (ht : e.time = d.time)
include ht

theorem parent_congr : e.parent = d.parent := by
  have hslave : e.slavePort = d.slavePort := by
    simp only [Dev.slavePort, ptpOn_congr h, PTPp_STATE_V, PTPp_STATE]
    simp (disch := omega) only [get_of_besidesCounters h]
  have hbest (p : Nat) : e.bestHere p = d.bestHere p := by
    simp only [Dev.bestHere, Dev.qualified, Dev.announceNs, Dev.getI, Dev.ptpPort, Dev.tb, ptpOn_congr h, ht, PTPp_INTERVALS_LOG_ANNOUNCE,
      PTPp_INTERVALS]
    simp (disch := omega) only [get_of_besidesCounters h] <;> rfl
  have hmaster : e.masterOf = d.masterOf := by
    funext p
    simp only [Dev.masterOf, hbest, Dev.ptpPort, ht]
  simp only [Dev.parent, hslave, hmaster]

theorem dataSet_congr (p k : Nat) : e.dataSet p k = d.dataSet p k := by
  have hslave : e.slavePort = d.slavePort := by
    simp only [Dev.slavePort, ptpOn_congr h, PTPp_STATE_V, PTPp_STATE]
    simp (disch := omega) only [get_of_besidesCounters h]
  simp only [Dev.dataSet, Dev.portId, Dev.ownPort, Dev.timeFlags, Dev.getI, ownSet_congr h, parent_congr h ht, clockId_congr h, hslave,
    PTPp_CTRL_ONE_STEP, PTPp_CTRL, PTP_CTRL_TYPE, PTP_CTRL_DOMAIN, PTP_CTRL, PTP_STEPS_REMOVED_V, PTP_STEPS_REMOVED, PTPp_OFFSET_V,
    PTPp_OFFSET, PTPp_MEAN_DELAY_V, PTPp_MEAN_DELAY, PTP_UTC_OFFSET_V, PTP_UTC_OFFSET, PTP_UTC_FLAGS_TIME_SOURCE,
    PTP_UTC_FLAGS_LEAP61, PTP_UTC_FLAGS_LEAP59, PTP_UTC_FLAGS_UTC_OFFSET_VALID, PTP_UTC_FLAGS_TIME_TRACEABLE,
    PTP_UTC_FLAGS_FREQ_TRACEABLE, PTP_UTC_FLAGS, PTPp_STATE_V, PTPp_STATE, PTPp_INTERVALS_LOG_DELAY_REQ, PTPp_INTERVALS_LOG_ANNOUNCE,
    PTPp_INTERVALS_ANNOUNCE_TIMEOUT, PTPp_INTERVALS_LOG_SYNC, PTPp_INTERVALS]
  simp (disch := omega) only [get_of_besidesCounters h] <;> rfl

end

/-! ### Messages received (R31, R106) -/

theorem ptpReceive_taken {p counter : Nat} {d : Dev} (hon : d.ptpOn p = true) (f : Dev → Dev) :
    d.ptpReceive p (d.get PTP_CTRL_DOMAIN) true true counter f = f (d.inc (PTPp_COUNTk_V p counter)) := by
  simp [Dev.ptpReceive, hon]

/-- The counts of a port's messages. -/
theorem get_inc_ptpCount (p k : Nat) (d : Dev) :
    (d.inc (PTPp_COUNTk_V p k)).get (PTPp_COUNTk_V p k) = min (d.get (PTPp_COUNTk_V p k) + 1) (2 ^ 32 - 1) :=
  get_inc_same _ (PTPp_COUNTk_V p k) (by simp [PTPp_COUNTk_V])

theorem rxStamp_congr {d e : Dev} (h : e.time = d.time) (p : Nat) : e.rxStamp p = d.rxStamp p := by
  rw [Dev.rxStamp, Dev.rxStamp, Dev.tb0Now, Dev.tb0Now, tb_congr h]

/-! ### A message leaves (R106, R417) -/

@[simp] theorem ptpOut_byteAt (p kind : Nat) (msg : List Byte) (d : Dev) (a : Nat) : (d.ptpOut p kind msg).byteAt a = d.byteAt a := by
  simp [Dev.ptpOut]

theorem besidesCounters_ptpOut (p kind : Nat) (msg : List Byte) (d : Dev) : (d.ptpOut p kind msg).besidesCounters = d.besidesCounters := by
  have hcount (k x : Nat) (hk : k < 16) (s : Dev) : (s.put (Ep_COUNTk_V p k) x).besidesCounters = s.besidesCounters :=
    besidesCounters_put (by simp only [Ep_COUNTk_V, Ep_COUNTk]; omega) x s
  have hsend (s : Dev) (x : Sent) : (s.send x).besidesCounters = s.besidesCounters := by unfold Dev.send; rfl
  unfold Dev.ptpOut
  dsimp only
  rw [hsend, Dev.inc, Dev.addSat, hcount _ _ (by decide), Dev.addSat, hcount _ _ (by decide), Dev.inc, Dev.addSat, hcount _ _ (by decide)]

@[simp] theorem ptpOut_sent (p kind : Nat) (msg : List Byte) (d : Dev) :
    (d.ptpOut p kind msg).sent = .ptp p kind (macFrame (d.ptpFrame p kind msg)) :: d.sent := by simp [Dev.ptpOut]

/-- The Ethernet port counts its frames apart from the messages. -/
theorem get_ptpOut_ptpCount {q k : Nat} (hq : q < 2) (hk : k < 16) (p kind : Nat) (msg : List Byte) (d : Dev) :
    (d.ptpOut p kind msg).get (PTPp_COUNTk_V q k) = d.get (PTPp_COUNTk_V q k) := by
  have hcount (s : Dev) (c x : Nat) : (s.put (Ep_COUNTk_V p c) x).get (PTPp_COUNTk_V q k) = s.get (PTPp_COUNTk_V q k) :=
    get_put_of_ne _ _ _ _ (by simp only [Ep_COUNTk_V, Ep_COUNTk, PTPp_COUNTk_V, PTPp_COUNTk]; omega)
  unfold Dev.ptpOut
  dsimp only
  rw [send_get, Dev.inc, Dev.addSat, hcount, Dev.addSat, hcount, Dev.inc, Dev.addSat, hcount]

@[simp] theorem ptpSend_byteAt (p kind c : Nat) (msg : List Byte) (d : Dev) (a : Nat) : (d.ptpSend p kind c msg).byteAt a = d.byteAt a := by
  simp [Dev.ptpSend]

theorem besidesCounters_ptpSend {c : Nat} (hc : c < 16) (p kind : Nat) (msg : List Byte) (d : Dev) :
    (d.ptpSend p kind c msg).besidesCounters = d.besidesCounters :=
  (besidesCounters_ptpOut ..).trans (besidesCounters_inc_ptpCount p c hc d)

/-- The frame that leaves is that of the block before its count. -/
theorem ptpSend_sent {c : Nat} (hc : c < 16) (p kind : Nat) (msg : List Byte) (d : Dev) :
    (d.ptpSend p kind c msg).sent = .ptp p kind (macFrame (d.ptpFrame p kind msg)) :: d.sent := by
  rw [Dev.ptpSend, ptpOut_sent, ptpFrame_congr (besidesCounters_inc_ptpCount p c hc d), inc_sent]

theorem get_ptpSend_count_same {p c : Nat} (hp : p < 2) (hc : c < 16) (kind : Nat) (msg : List Byte) (d : Dev) :
    (d.ptpSend p kind c msg).get (PTPp_COUNTk_V p c) = min (d.get (PTPp_COUNTk_V p c) + 1) (2 ^ 32 - 1) :=
  (get_ptpOut_ptpCount hp hc ..).trans (get_inc_ptpCount p c d)

theorem get_ptpSend_count_other {p k c : Nat} (hp : p < 2) (hk : k < 16) (hkc : c ≠ k) (kind : Nat) (msg : List Byte) (d : Dev) :
    (d.ptpSend p kind c msg).get (PTPp_COUNTk_V p k) = d.get (PTPp_COUNTk_V p k) :=
  (get_ptpOut_ptpCount hp hk ..).trans (get_put_of_ne _ _ _ _ (by simp only [PTPp_COUNTk_V, PTPp_COUNTk]; omega))

theorem get_settle_ptpCount (p k : Nat) (d : Dev) : (settle d).get (PTPp_COUNTk_V p k) = d.get (PTPp_COUNTk_V p k) :=
  get_settle_of_le _ _ (by simp [PTPp_COUNTk_V, PTPp_COUNTk])

/-! ### The messages that a port sends of itself -/

theorem ptpSyncTx_twoStep {p : Nat} {d : Dev} (hon : d.ptpOn p = true) (hmaster : d.get (PTPp_STATE_V p) = psMaster)
    (hstep : d.flag (PTPp_CTRL_ONE_STEP p) = false) :
    ptpSyncTx p d = ((d.onPtp p (fun x => { x with txSync := ((d.ptpPort p).txSync + 1) % 65536 })).ptpSend p 0 0
      (d.ptpMsg p 0 0x200 0 (d.ptpPort p).txSync (d.get (PTPp_INTERVALS_LOG_SYNC p)) (stampBytes 0))).ptpSend p 8 2
      (d.ptpMsg p 8 0 0 (d.ptpPort p).txSync (d.get (PTPp_INTERVALS_LOG_SYNC p)) (stampBytes (d.txStamp p))) := by
  rw [ptpSyncTx, if_pos (by simp [hon, hmaster])]
  exact if_neg (by simp [hstep])

theorem completes_ptpSyncTx (s : State) (p : Fin 2) (hlive : s.live) (hon : s.dev.ptpOn p = true)
    (hmaster : s.dev.get (PTPp_STATE_V p) = psMaster) (hstep : s.dev.flag (PTPp_CTRL_ONE_STEP p) = false) :
    Completes (.ptpSyncTx p) s (fun e =>
      e.get (PTPp_COUNTk_V p 0) = min (s.dev.get (PTPp_COUNTk_V p 0) + 1) (2 ^ 32 - 1) ∧
      e.get (PTPp_COUNTk_V p 2) = min (s.dev.get (PTPp_COUNTk_V p 2) + 1) (2 ^ 32 - 1) ∧
      e.sent = .ptp p 8 (macFrame (s.dev.ptpFrame p 8 (s.dev.ptpMsg p 8 0 0 (s.dev.ptpPort p).txSync
          (s.dev.get (PTPp_INTERVALS_LOG_SYNC p)) (stampBytes (s.dev.txStamp p))))) ::
        .ptp p 0 (macFrame (s.dev.ptpFrame p 0 (s.dev.ptpMsg p 0 0x200 0 (s.dev.ptpPort p).txSync
          (s.dev.get (PTPp_INTERVALS_LOG_SYNC p)) (stampBytes 0)))) :: s.dev.sent ∧
      keepsMem s.dev e) := by
  refine completes_on (f := ptpSyncTx p) rfl hlive ?_
  rw [ptpSyncTx_twoStep hon hmaster hstep]
  refine ⟨?_, ?_, ?_, fun a => by simp⟩
  · rw [get_settle_ptpCount, get_ptpSend_count_other p.isLt (by decide) (by decide), get_ptpSend_count_same p.isLt (by decide), onPtp_get]
  · rw [get_settle_ptpCount, get_ptpSend_count_same p.isLt (by decide), get_ptpSend_count_other p.isLt (by decide) (by decide), onPtp_get]
  · rw [settle_sent, ptpSend_sent (by decide), ptpSend_sent (by decide), ptpFrame_congr (besidesCounters_ptpSend (by decide) ..),
      ptpFrame_congr (besidesCounters_onPtp ..), ptpFrame_congr (besidesCounters_onPtp ..), onPtp_sent]

theorem completes_ptpDelayReqTx (s : State) (p : Fin 2) (hlive : s.live) (hon : s.dev.ptpOn p = true)
    (hslave : s.dev.get (PTPp_STATE_V p) = psSlave) :
    Completes (.ptpDelayReqTx p) s (fun e =>
      e.get (PTPp_COUNTk_V p 4) = min (s.dev.get (PTPp_COUNTk_V p 4) + 1) (2 ^ 32 - 1) ∧
      e.sent = .ptp p 1 (macFrame (s.dev.ptpFrame p 1 (s.dev.ptpMsg p 1 0 0 (((s.dev.ptpPort p).reqSeq + 1) % 65536) 0x7F
        (stampBytes 0)))) :: s.dev.sent ∧
      keepsMem s.dev e) := by
  refine completes_on (f := ptpDelayReqTx p) rfl hlive ?_
  rw [ptpDelayReqTx, if_pos (by simp [hon, hslave])]
  refine ⟨?_, ?_, fun a => by simp⟩
  · rw [get_settle_ptpCount, get_ptpSend_count_same p.isLt (by decide), onPtp_get]
  · rw [settle_sent, ptpSend_sent (by decide), ptpFrame_congr (besidesCounters_onPtp ..), onPtp_sent]

theorem completes_ptpAnnounceTx (s : State) (p : Fin 2) (hlive : s.live) (hon : s.dev.ptpOn p = true)
    (hmaster : s.dev.get (PTPp_STATE_V p) = psMaster) :
    Completes (.ptpAnnounceTx p) s (fun e =>
      e.get (PTPp_COUNTk_V p 8) = min (s.dev.get (PTPp_COUNTk_V p 8) + 1) (2 ^ 32 - 1) ∧
      e.sent = .ptp p 11 (macFrame (s.dev.ptpFrame p 11 (s.dev.ptpMsg p 11 s.dev.timeFlags 0 (s.dev.ptpPort p).txAnnounce
        (s.dev.get (PTPp_INTERVALS_LOG_ANNOUNCE p)) s.dev.announceBody))) :: s.dev.sent ∧
      keepsMem s.dev e) := by
  refine completes_on (f := ptpAnnounceTx p) rfl hlive ?_
  rw [ptpAnnounceTx, if_pos (by simp [hon, hmaster])]
  refine ⟨?_, ?_, fun a => by simp⟩
  · rw [get_settle_ptpCount, get_ptpSend_count_same p.isLt (by decide), onPtp_get]
  · rw [settle_sent, ptpSend_sent (by decide), ptpFrame_congr (besidesCounters_onPtp ..), onPtp_sent]

/-! ### The answers of a port -/

theorem completes_ptpDelayReqRx (s : State) (p : Fin 2) (dom snd seq : Nat) (c : Int) (who : Nat) (hlive : s.live)
    (hon : s.dev.ptpOn p = true) (hdom : dom = s.dev.get PTP_CTRL_DOMAIN) (hmaster : s.dev.get (PTPp_STATE_V p) = psMaster) :
    Completes (.ptpDelayReqRx p dom true ⟨⟨true, snd⟩, true⟩ ⟨seq, c⟩ who) s (fun e =>
      e.get (PTPp_COUNTk_V p 5) = min (s.dev.get (PTPp_COUNTk_V p 5) + 1) (2 ^ 32 - 1) ∧
      e.get (PTPp_COUNTk_V p 6) = min (s.dev.get (PTPp_COUNTk_V p 6) + 1) (2 ^ 32 - 1) ∧
      e.sent = .ptp p 9 (macFrame (s.dev.ptpFrame p 9 (s.dev.ptpMsg p 9 0 (unsgn 64 c) seq (s.dev.get (PTPp_INTERVALS_LOG_DELAY_REQ p))
        (stampBytes (s.dev.rxStamp p) ++ beBytes 10 who)))) :: s.dev.sent ∧
      keepsMem s.dev e) := by
  subst hdom
  have hplain := besidesCounters_inc_ptpCount p 5 (by decide) s.dev
  have hlog : (s.dev.inc (PTPp_COUNTk_V p 5)).get (PTPp_INTERVALS_LOG_DELAY_REQ p) = s.dev.get (PTPp_INTERVALS_LOG_DELAY_REQ p) :=
    get_of_besidesCounters hplain _ _ _ (by simp only [PTPp_INTERVALS]; omega)
  have hstate : (s.dev.inc (PTPp_COUNTk_V p 5)).get (PTPp_STATE_V p) = psMaster :=
    (get_of_besidesCounters hplain _ _ _ (by simp only [PTPp_STATE]; omega)).trans hmaster
  refine completes_on (f := ptpDelayReqRx p _ true ⟨⟨true, snd⟩, true⟩ ⟨seq, c⟩ who) rfl hlive ?_
  rw [ptpDelayReqRx, ptpReceive_taken hon, Dev.ptpStamped, if_pos rfl, if_pos hstate, hlog, rxStamp_congr (inc_time ..), ptpMsg_congr hplain]
  refine ⟨?_, ?_, ?_, fun a => by simp⟩
  · rw [get_settle_ptpCount, get_ptpSend_count_other p.isLt (by decide) (by decide), get_inc_ptpCount]
  · rw [get_settle_ptpCount, get_ptpSend_count_same p.isLt (by decide),
      show (s.dev.inc (PTPp_COUNTk_V p 5)).get (PTPp_COUNTk_V p 6) = s.dev.get (PTPp_COUNTk_V p 6) from
        get_put_of_ne _ _ _ _ (by simp [PTPp_COUNTk_V, PTPp_COUNTk])]
  · rw [settle_sent, ptpSend_sent (by decide), ptpFrame_congr hplain, inc_sent]

/-- The answer to a Management message that counts is what leaves (R106). -/
theorem managementAnswer_counted {p : Nat} (hp : p < 2) (seq who tlv : Nat) (data : List Byte) (d : Dev) :
    let e := settle ((d.inc (PTPp_COUNTk_V p 10)).managementAnswer p seq who tlv data)
    e.get (PTPp_COUNTk_V p 10) = min (d.get (PTPp_COUNTk_V p 10) + 1) (2 ^ 32 - 1) ∧
    e.sent = .ptp p 13 (macFrame (d.ptpFrame p 13 (d.ptpMsg p 13 0 0 seq 0x7F (managementBody who 2 tlv data)))) :: d.sent ∧
    keepsMem d e := by
  have hplain := besidesCounters_inc_ptpCount p 10 (by decide) d
  dsimp only
  rw [Dev.managementAnswer, get_settle_ptpCount, get_ptpOut_ptpCount hp (by decide), get_inc_ptpCount, settle_sent, ptpOut_sent,
    ptpFrame_congr hplain, ptpMsg_congr hplain, inc_sent]
  exact ⟨rfl, rfl, fun a => by simp⟩

theorem completes_ptpManagementGet (s : State) (p : Fin 2) (dom seq who k : Nat) (l : List Byte) (hlive : s.live)
    (hon : s.dev.ptpOn p = true) (hdom : dom = s.dev.get PTP_CTRL_DOMAIN) (hl : s.dev.dataSet p k = some l) :
    Completes (.ptpManagementGet p dom true true ⟨seq, who⟩ k) s (fun e =>
      e.get (PTPp_COUNTk_V p 10) = min (s.dev.get (PTPp_COUNTk_V p 10) + 1) (2 ^ 32 - 1) ∧
      e.sent = .ptp p 13 (macFrame (s.dev.ptpFrame p 13 (s.dev.ptpMsg p 13 0 0 seq 0x7F
        (managementBody who 2 1 (beBytes 2 (0x2000 + k) ++ l))))) :: s.dev.sent ∧
      keepsMem s.dev e) := by
  subst hdom
  have hset : (s.dev.inc (PTPp_COUNTk_V p 10)).dataSet p k = some l :=
    (dataSet_congr (besidesCounters_inc_ptpCount p 10 (by decide) s.dev) (inc_time ..) p k).trans hl
  refine completes_on (f := ptpManagementGet p _ true true seq who k) rfl hlive ?_
  rw [ptpManagementGet, ptpReceive_taken hon, hset]
  exact managementAnswer_counted p.isLt ..

theorem completes_ptpManagementSet (s : State) (p : Fin 2) (dom seq who ident : Nat) (hlive : s.live)
    (hon : s.dev.ptpOn p = true) (hdom : dom = s.dev.get PTP_CTRL_DOMAIN) :
    Completes (.ptpManagementSet p dom true true ⟨⟨seq, who⟩, ident⟩) s (fun e =>
      e.get (PTPp_COUNTk_V p 10) = min (s.dev.get (PTPp_COUNTk_V p 10) + 1) (2 ^ 32 - 1) ∧
      e.sent = .ptp p 13 (macFrame (s.dev.ptpFrame p 13 (s.dev.ptpMsg p 13 0 0 seq 0x7F
        (managementBody who 2 2 (beBytes 2 4 ++ beBytes 2 ident ++ beBytes 4 0 ++ beBytes 2 0))))) :: s.dev.sent ∧
      keepsMem s.dev e) := by
  subst hdom
  refine completes_on (f := ptpManagementSet p _ true true seq who ident) rfl hlive ?_
  rw [ptpManagementSet, ptpReceive_taken hon]
  exact managementAnswer_counted p.isLt ..

/-! ### The statement -/

/-- Settles O14: what a port sends is laid out from registers that its counts leave alone. -/
theorem ptpSends : Obligations.PtpSends :=
  ⟨fun _ _ hs => completes_on rfl hs rfl, fun _ _ hs => completes_on rfl hs rfl, fun _ _ hs => completes_on rfl hs rfl,
    fun _ _ _ _ _ _ _ hs => completes_on rfl hs rfl, fun _ _ _ _ _ _ _ hs => completes_on rfl hs rfl,
    fun _ _ _ _ _ _ hs => completes_on rfl hs rfl, completes_ptpSyncTx, completes_ptpDelayReqTx, completes_ptpAnnounceTx,
    completes_ptpDelayReqRx, completes_ptpManagementGet, completes_ptpManagementSet⟩

end Sys2Proof.Machine
end

section
/-! SUPPORT. What a PTP port receives and discards (R31, R89, R106 to R109). -/
namespace Sys2Proof.Machine

/-! ### Received and discarded messages -/

theorem ptpReceive_malformed {p : Nat} {d : Dev} (hon : d.ptpOn p = true) (dom : Nat) (v2 : Bool) (counter : Nat) (f : Dev → Dev) :
    d.ptpReceive p dom v2 false counter f = (d.inc (PTPp_COUNTk_V p 13)).guardFail 5 13 := by
  simp [Dev.ptpReceive, hon]

theorem ptpReceive_foreign {p : Nat} {d : Dev} (hon : d.ptpOn p = true) {dom : Nat} {v2 : Bool}
    (h : v2 = false ∨ dom ≠ d.get PTP_CTRL_DOMAIN) (counter : Nat) (f : Dev → Dev) :
    d.ptpReceive p dom v2 true counter f = (d.inc (PTPp_COUNTk_V p 12)).guardFail 5 12 := by
  simp [Dev.ptpReceive, hon, h]

/-- A discarded message is counted and captured (R31): the time unit and what is sent are as before. -/
theorem discarded_counted (p k code : Nat) (d : Dev) :
    let e := settle ((d.inc (PTPp_COUNTk_V p k)).guardFail 5 code)
    e.get (PTPp_COUNTk_V p k) = min (d.get (PTPp_COUNTk_V p k) + 1) (2 ^ 32 - 1) ∧ keepsRegs [PTPp_COUNTk p k] d e ∧
      e.time = d.time ∧ e.sent = d.sent ∧ keepsMem d e := by
  dsimp only
  refine ⟨?_, (keeps_of_frame ?frame).1, ?_, ?_, (keeps_of_frame ?frame).2⟩
  case frame => simp [PTPp_COUNTk_V]
  · rw [get_settle_ptpCount, guardFail_get, get_inc_ptpCount]
  · rw [settle_time, guardFail_time, inc_time]
  · rw [settle_sent, guardFail_sent, inc_sent]

theorem completes_ptpSyncRx_malformed (s : State) (p : Fin 2) (dom : Nat) (v2 : Bool) (snd : Nat) (st ts : Bool) (seq : Nat) (t1 c : Int)
    (hlive : s.live) (hon : s.dev.ptpOn p = true) :
    Completes (.ptpSyncRx p dom v2 ⟨⟨false, snd⟩, st⟩ ts seq t1 c) s (fun e =>
      e.get (PTPp_COUNTk_V p 13) = min (s.dev.get (PTPp_COUNTk_V p 13) + 1) (2 ^ 32 - 1) ∧ keepsRegs [PTPp_COUNTk p 13] s.dev e ∧
      e.time = s.dev.time ∧ keepsMem s.dev e) := by
  refine completes_on (f := ptpSyncRx p dom v2 ⟨⟨false, snd⟩, st⟩ ts seq t1 c) rfl hlive ?_
  rw [ptpSyncRx, ptpReceive_malformed hon]
  obtain ⟨hcount, hregs, htime, -, hmem⟩ := discarded_counted p 13 13 s.dev
  exact ⟨hcount, hregs, htime, hmem⟩

theorem completes_ptpSyncRx_foreign (s : State) (p : Fin 2) (dom : Nat) (v2 : Bool) (snd : Nat) (st ts : Bool) (seq : Nat) (t1 c : Int)
    (hlive : s.live) (hon : s.dev.ptpOn p = true) (h : v2 = false ∨ dom ≠ s.dev.get PTP_CTRL_DOMAIN) :
    Completes (.ptpSyncRx p dom v2 ⟨⟨true, snd⟩, st⟩ ts seq t1 c) s (fun e =>
      e.get (PTPp_COUNTk_V p 12) = min (s.dev.get (PTPp_COUNTk_V p 12) + 1) (2 ^ 32 - 1) ∧ keepsRegs [PTPp_COUNTk p 12] s.dev e ∧
      e.time = s.dev.time ∧ keepsMem s.dev e) := by
  refine completes_on (f := ptpSyncRx p dom v2 ⟨⟨true, snd⟩, st⟩ ts seq t1 c) rfl hlive ?_
  rw [ptpSyncRx, ptpReceive_foreign hon h]
  obtain ⟨hcount, hregs, htime, -, hmem⟩ := discarded_counted p 12 12 s.dev
  exact ⟨hcount, hregs, htime, hmem⟩

theorem completes_ptpManagementGet_foreign (s : State) (p : Fin 2) (dom : Nat) (v2 : Bool) (seq who k : Nat) (hlive : s.live)
    (hon : s.dev.ptpOn p = true) (h : v2 = false ∨ dom ≠ s.dev.get PTP_CTRL_DOMAIN) :
    Completes (.ptpManagementGet p dom v2 true ⟨seq, who⟩ k) s (fun e =>
      e.get (PTPp_COUNTk_V p 12) = min (s.dev.get (PTPp_COUNTk_V p 12) + 1) (2 ^ 32 - 1) ∧ keepsRegs [PTPp_COUNTk p 12] s.dev e ∧
      e.sent = s.dev.sent ∧ keepsMem s.dev e) := by
  refine completes_on (f := ptpManagementGet p dom v2 true seq who k) rfl hlive ?_
  rw [ptpManagementGet, ptpReceive_foreign hon h]
  obtain ⟨hcount, hregs, -, hsent, hmem⟩ := discarded_counted p 12 12 s.dev
  exact ⟨hcount, hregs, hsent, hmem⟩

theorem completes_ptpSignalingRx (s : State) (p : Fin 2) (dom : Nat) (hlive : s.live) (hon : s.dev.ptpOn p = true)
    (hdom : dom = s.dev.get PTP_CTRL_DOMAIN) :
    Completes (.ptpSignalingRx p dom true true) s (fun e =>
      e.get (PTPp_COUNTk_V p 11) = min (s.dev.get (PTPp_COUNTk_V p 11) + 1) (2 ^ 32 - 1) ∧ keepsRegs [PTPp_COUNTk p 11] s.dev e ∧
      keepsMem s.dev e) := by
  subst hdom
  refine completes_on (f := ptpSignalingRx p _ true true) rfl hlive ?_
  rw [ptpSignalingRx, ptpReceive_taken hon]
  exact ⟨by rw [id, get_settle_ptpCount, get_inc_ptpCount], keeps_of_frame (by simp [PTPp_COUNTk_V])⟩

/-! ### Offset and delay (R107, R109) -/

theorem slaveOf_inc {p k snd : Nat} (hk : k < 16) {d : Dev} (hmaster : (d.ptpPort p).master = some snd)
    (hslave : d.get (PTPp_STATE_V p) = psSlave) : (d.inc (PTPp_COUNTk_V p k)).slaveOf p snd = true := by
  have hstate : (d.inc (PTPp_COUNTk_V p k)).get (PTPp_STATE_V p) = d.get (PTPp_STATE_V p) :=
    get_of_besidesCounters (besidesCounters_inc_ptpCount p k hk d) _ _ _ (by simp only [PTPp_STATE]; omega)
  have hport : (d.inc (PTPp_COUNTk_V p k)).ptpPort p = d.ptpPort p := by rw [Dev.ptpPort, Dev.ptpPort, inc_time]
  simp [Dev.slaveOf, hstate, hport, hslave, hmaster]

/-- The offset of a Sync exchange that the count `k` completes. -/
theorem ptpOffset_counted {p k : Nat} (hk : k < 16) (t1 t2 c : Int) (d : Dev) :
    let e := settle ((d.inc (PTPp_COUNTk_V p k)).ptpOffset p t1 t2 c)
    e.get (PTPp_COUNTk_V p k) = min (d.get (PTPp_COUNTk_V p k) + 1) (2 ^ 32 - 1) ∧
      e.get (PTPp_OFFSET_V p) = unsgn 32 (t2 - t1 - corrNs c - d.getI (PTPp_MEAN_DELAY_V p) - d.getI (PTPp_ASYM_V p)) ∧
      keepsRegs [PTPp_COUNTk p k, PTPp_OFFSET p] d e ∧ keepsMem d e := by
  have hplain := besidesCounters_inc_ptpCount p k hk d
  have hdelay : (d.inc (PTPp_COUNTk_V p k)).getI (PTPp_MEAN_DELAY_V p) = d.getI (PTPp_MEAN_DELAY_V p) :=
    congrArg (sgn 32) (get_of_besidesCounters hplain _ _ _ (by simp only [PTPp_MEAN_DELAY]; omega))
  have hasym : (d.inc (PTPp_COUNTk_V p k)).getI (PTPp_ASYM_V p) = d.getI (PTPp_ASYM_V p) :=
    congrArg (sgn 32) (get_of_besidesCounters hplain _ _ _ (by simp only [PTPp_ASYM]; omega))
  dsimp only
  rw [Dev.ptpOffset, hdelay, hasym]
  refine ⟨?_, ?_, keeps_of_frame (by simp [PTPp_COUNTk_V, PTPp_OFFSET_V])⟩
  · rw [get_settle_ptpCount, measured_get, Dev.putI, get_put_of_ne, onPtp_get, get_inc_ptpCount]
    simp only [PTPp_OFFSET_V, PTPp_OFFSET, PTPp_COUNTk_V, PTPp_COUNTk]
    omega
  · rw [get_settle_of_le _ _ (by simp [PTPp_OFFSET_V, PTPp_OFFSET]), measured_get, get_putI_same _ _ _ (by simp [PTPp_OFFSET_V])]
    rfl

theorem completes_ptpSyncRx_oneStep (s : State) (p : Fin 2) (dom snd seq : Nat) (t1 c : Int) (hlive : s.live) (hon : s.dev.ptpOn p = true)
    (hdom : dom = s.dev.get PTP_CTRL_DOMAIN) (hmaster : (s.dev.ptpPort p).master = some snd)
    (hslave : s.dev.get (PTPp_STATE_V p) = psSlave) :
    Completes (.ptpSyncRx p dom true ⟨⟨true, snd⟩, true⟩ false seq t1 c) s (fun e =>
      e.get (PTPp_COUNTk_V p 1) = min (s.dev.get (PTPp_COUNTk_V p 1) + 1) (2 ^ 32 - 1) ∧
      e.get (PTPp_OFFSET_V p) =
        unsgn 32 (s.dev.rxStamp p - t1 - corrNs c - s.dev.getI (PTPp_MEAN_DELAY_V p) - s.dev.getI (PTPp_ASYM_V p)) ∧
      keepsRegs [PTPp_COUNTk p 1, PTPp_OFFSET p] s.dev e ∧ keepsMem s.dev e) := by
  subst hdom
  refine completes_on (f := ptpSyncRx p _ true ⟨⟨true, snd⟩, true⟩ false seq t1 c) rfl hlive ?_
  rw [ptpSyncRx, ptpReceive_taken hon, Dev.ptpStamped, if_pos rfl, if_pos (slaveOf_inc (by decide) hmaster hslave),
    if_neg Bool.false_ne_true, rxStamp_congr (inc_time ..)]
  exact ptpOffset_counted (by decide) ..

theorem completes_ptpFollowUpRx (s : State) (p : Fin 2) (dom snd seq : Nat) (t1 c : Int) (hlive : s.live) (hon : s.dev.ptpOn p = true)
    (hdom : dom = s.dev.get PTP_CTRL_DOMAIN) (hmaster : (s.dev.ptpPort p).master = some snd)
    (hslave : s.dev.get (PTPp_STATE_V p) = psSlave) (hwait : (s.dev.ptpPort p).waitFollowUp = true) (hseq : (s.dev.ptpPort p).syncSeq = seq) :
    Completes (.ptpFollowUpRx p dom true ⟨true, snd⟩ seq t1 c) s (fun e =>
      e.get (PTPp_COUNTk_V p 3) = min (s.dev.get (PTPp_COUNTk_V p 3) + 1) (2 ^ 32 - 1) ∧
      e.get (PTPp_OFFSET_V p) = unsgn 32 ((s.dev.ptpPort p).arrived - t1 - corrNs ((s.dev.ptpPort p).syncCorr + c)
        - s.dev.getI (PTPp_MEAN_DELAY_V p) - s.dev.getI (PTPp_ASYM_V p)) ∧
      keepsRegs [PTPp_COUNTk p 3, PTPp_OFFSET p] s.dev e ∧ keepsMem s.dev e) := by
  subst hdom
  have hport : (s.dev.inc (PTPp_COUNTk_V p 3)).ptpPort p = s.dev.ptpPort p := by rw [Dev.ptpPort, Dev.ptpPort, inc_time]
  refine completes_on (f := ptpFollowUpRx p _ true ⟨true, snd⟩ seq t1 c) rfl hlive ?_
  rw [ptpFollowUpRx, ptpReceive_taken hon, hport, if_pos ⟨slaveOf_inc (by decide) hmaster hslave, hwait, hseq⟩]
  exact ptpOffset_counted (by decide) ..

theorem completes_ptpDelayRespRx (s : State) (p : Fin 2) (dom snd seq : Nat) (c t4 : Int) (hlive : s.live) (hon : s.dev.ptpOn p = true)
    (hdom : dom = s.dev.get PTP_CTRL_DOMAIN) (hmaster : (s.dev.ptpPort p).master = some snd)
    (hslave : s.dev.get (PTPp_STATE_V p) = psSlave) (hwait : (s.dev.ptpPort p).waitResp = true) (hseq : (s.dev.ptpPort p).reqSeq = seq) :
    Completes (.ptpDelayRespRx p dom true ⟨true, snd⟩ ⟨⟨seq, c⟩, s.dev.ownPort p⟩ t4) s (fun e =>
      e.get (PTPp_COUNTk_V p 7) = min (s.dev.get (PTPp_COUNTk_V p 7) + 1) (2 ^ 32 - 1) ∧
      e.get (PTPp_MEAN_DELAY_V p) = unsgn 32 (roundDiv ((((s.dev.ptpPort p).t2 - (s.dev.ptpPort p).t1)
        + (t4 - (s.dev.ptpPort p).t3)) * 65536 - (s.dev.ptpPort p).corr - c) 131072) ∧
      keepsRegs [PTPp_COUNTk p 7, PTPp_MEAN_DELAY p] s.dev e ∧ keepsMem s.dev e) := by
  subst hdom
  have hport : (s.dev.inc (PTPp_COUNTk_V p 7)).ptpPort p = s.dev.ptpPort p := by rw [Dev.ptpPort, Dev.ptpPort, inc_time]
  have hown : s.dev.ownPort p = (s.dev.inc (PTPp_COUNTk_V p 7)).ownPort p := by
    rw [Dev.ownPort, Dev.ownPort, clockId_congr (besidesCounters_inc_ptpCount p 7 (by decide) s.dev)]
  refine completes_on (f := ptpDelayRespRx p _ true ⟨true, snd⟩ ⟨⟨seq, c⟩, s.dev.ownPort p⟩ t4) rfl hlive ?_
  rw [ptpDelayRespRx, ptpReceive_taken hon, hport, if_pos ⟨slaveOf_inc (by decide) hmaster hslave, hown, hwait, hseq⟩, PtpPort.delay]
  refine ⟨?_, ?_, keeps_of_frame (by simp [PTPp_COUNTk_V, PTPp_MEAN_DELAY_V])⟩
  · rw [get_settle_ptpCount, Dev.putI, get_put_of_ne, onPtp_get, get_inc_ptpCount]
    simp only [PTPp_MEAN_DELAY_V, PTPp_MEAN_DELAY, PTPp_COUNTk_V, PTPp_COUNTk]
    omega
  · rw [get_settle_of_le _ _ (by simp [PTPp_MEAN_DELAY_V, PTPp_MEAN_DELAY]), get_putI_same _ _ _ (by simp [PTPp_MEAN_DELAY_V])]
    rfl

/-! ### The masters of a port (R89, R107) -/

theorem get_portDecide_ptpCount (p k q : Nat) (hk : k < 16) (d : Dev) :
    (d.portDecide q).get (PTPp_COUNTk_V p k) = d.get (PTPp_COUNTk_V p k) := by
  have hstate (x : Nat) : (d.put (PTPp_STATE_V q) x).get (PTPp_COUNTk_V p k) = d.get (PTPp_COUNTk_V p k) :=
    get_put_of_ne _ _ _ _ (by simp only [PTPp_STATE_V, PTPp_STATE, PTPp_COUNTk_V, PTPp_COUNTk]; omega)
  unfold Dev.portDecide
  split
  · extract_lets d1 m
    split
    · exact hstate _
    · exact (onPtp_get ..).trans (hstate _)
  · rfl

/-- The state decision counts no message. -/
theorem get_bmca_ptpCount {p k : Nat} (hp : p < 2) (hk : k < 16) (d : Dev) : d.bmca.get (PTPp_COUNTk_V p k) = d.get (PTPp_COUNTk_V p k) := by
  have hput (e : Dev) (f : Fld) (x : Nat) (hf : f.addr < 0x4800) : (e.put f x).get (PTPp_COUNTk_V p k) = e.get (PTPp_COUNTk_V p k) :=
    get_put_of_ne _ _ _ _ (by simp only [PTPp_COUNTk_V, PTPp_COUNTk]; omega)
  have hevt (e : Dev) (b : Nat) : (e.timeEvt b).get (PTPp_COUNTk_V p k) = e.get (PTPp_COUNTk_V p k) :=
    get_congr (word_timeEvt e (by simp [PTPp_COUNTk_V, PTPp_COUNTk]; omega) (by simp only [PTPp_COUNTk_V, PTPp_COUNTk]; omega)
      (by simp only [TIME_EVT_STATUS, PTPp_COUNTk_V, PTPp_COUNTk]; omega) b)
  have hports : (foldS [0, 1] Dev.portDecide d).get (PTPp_COUNTk_V p k) = d.get (PTPp_COUNTk_V p k) :=
    foldS_congr (fun e => Dev.get e (PTPp_COUNTk_V p k)) _ _ _ fun q _ e => get_portDecide_ptpCount p k q hk e
  unfold Dev.bmca
  extract_lets d1 gm pid steps old d2 d3
  have h3 : d3.get (PTPp_COUNTk_V p k) = d.get (PTPp_COUNTk_V p k) := by
    simp only [d3, d2]
    rw [hput, hput, hput, hput, hput]
    exacts [hports, by decide, by decide, by decide, by decide, by decide]
  split
  · exact h3
  · exact (hevt _ _).trans h3

/-- A lost reference counts no message. -/
theorem get_sourceLost_ptpCount {p k : Nat} (hp : p < 2) (hk : k < 16) (src arg : Nat) (d : Dev) :
    (d.sourceLost src arg).get (PTPp_COUNTk_V p k) = d.get (PTPp_COUNTk_V p k) := by
  have hinput : (d.inputLost src).get (PTPp_COUNTk_V p k) = d.get (PTPp_COUNTk_V p k) :=
    get_congr (word_inputLost (by simp only [PTPp_COUNTk_V, PTPp_COUNTk]; omega)
      (.inr (by simp only [PTPp_COUNTk_V, PTPp_COUNTk]; omega)) src d)
  unfold Dev.sourceLost
  split
  · rfl
  · refine (foldS_congr (fun e => Dev.get e (PTPp_COUNTk_V p k)) _ _ _ fun n hn e => get_congr (word_servoLost_other ?_ ?_ ?_ ?_ ?_ e)).trans
      hinput
    all_goals
      have hn3 : n ∈ [0, 1, 2] := List.mem_of_mem_filter hn
      simp only [List.mem_cons, List.not_mem_nil, or_false] at hn3
      simp only [PTPp_COUNTk_V, PTPp_COUNTk, TIME_EVT_STATUS, TBn_STATUS, TBn_RATE]
      omega

theorem completes_ptpAnnounceRx (s : State) (p : Fin 2) (dom sid sp gm p1 q p2 st : Nat) (hlive : s.live) (hon : s.dev.ptpOn p = true)
    (hdom : dom = s.dev.get PTP_CTRL_DOMAIN) (hsid : sid ≠ s.dev.clockId) :
    Completes (.ptpAnnounceRx p dom true true sid sp gm p1 q p2 st) s (fun e =>
      e = settle (((s.dev.inc (PTPp_COUNTk_V p 9)).onPtp p (fun x => { x with
        foreign := recordForeign ⟨sid, sp, gm, p1, q, p2, st, s.dev.nsc32 0⟩ (s.dev.tb 3).total x.foreign })).bmca) ∧
      e.get (PTPp_COUNTk_V p 9) = min (s.dev.get (PTPp_COUNTk_V p 9) + 1) (2 ^ 32 - 1)) := by
  subst hdom
  have hid : (s.dev.inc (PTPp_COUNTk_V p 9)).clockId = s.dev.clockId := clockId_congr (besidesCounters_inc_ptpCount p 9 (by decide) s.dev)
  refine completes_on (f := ptpAnnounceRx p _ true true _) rfl hlive ?_
  rw [ptpAnnounceRx, ptpReceive_taken hon, hid, if_neg hsid, tb_congr (inc_time s.dev _), Dev.nsc32, tb_congr (inc_time s.dev _)]
  exact ⟨rfl, by rw [get_settle_ptpCount, get_bmca_ptpCount p.isLt (by decide), onPtp_get, get_inc_ptpCount]⟩

theorem completes_ptpAnnounceReceiptTimeout (s : State) (p : Fin 2) (hlive : s.live) (hon : s.dev.ptpOn p = true) :
    Completes (.ptpAnnounceReceiptTimeout p) s (fun e =>
      e = settle (Dev.bmca (Dev.sourceLost (5 + p) 0 ((s.dev.inc (PTPp_COUNTk_V p 14)).onPtp p
        (fun x => { x with foreign := [], waited := true })))) ∧
      e.get (PTPp_COUNTk_V p 14) = min (s.dev.get (PTPp_COUNTk_V p 14) + 1) (2 ^ 32 - 1)) := by
  refine completes_on (f := ptpAnnounceTimeout p) rfl hlive ?_
  rw [ptpAnnounceTimeout, if_pos hon]
  exact ⟨rfl, by rw [get_settle_ptpCount, get_bmca_ptpCount p.isLt (by decide), get_sourceLost_ptpCount p.isLt (by decide), onPtp_get,
    get_inc_ptpCount]⟩

/-! ### The statement -/

/-- Settles O15: a message is counted before it acts, and the offset, the delay and the state decision are written beside the counters. -/
theorem ptpReceptions : Obligations.PtpReceptions :=
  ⟨fun _ _ _ _ _ _ _ _ _ hs => completes_on rfl hs rfl, fun _ _ _ _ _ _ _ _ hs => completes_on rfl hs rfl,
    fun _ _ _ _ _ _ _ hs => completes_on rfl hs rfl, fun _ _ _ _ _ _ _ _ _ _ _ _ hs => completes_on rfl hs rfl,
    fun _ _ hs => completes_on rfl hs rfl, fun _ _ _ _ _ hs => completes_on rfl hs rfl,
    fun s p dom snd seq t1 c hlive hon hdom hmaster hslave _ => completes_ptpSyncRx_oneStep s p dom snd seq t1 c hlive hon hdom hmaster hslave,
    completes_ptpFollowUpRx, completes_ptpDelayRespRx, completes_ptpAnnounceRx, completes_ptpAnnounceReceiptTimeout,
    completes_ptpSignalingRx, completes_ptpSyncRx_malformed, completes_ptpSyncRx_foreign, completes_ptpManagementGet_foreign⟩

end Sys2Proof.Machine
end

section
/-! SUPPORT. TIME sets and the team delay (R110 to R113). What a link sends changes the lanes, the links and the list of what is sent,
which only grows. -/
namespace Sys2Proof.Machine

/-! ### What a link's slots change (R363, R365) -/

/-- From `d` to `e` a link sends: no other part of the block changes, and what was sent stays. -/
def Dev.SendsTo (d e : Dev) : Prop := ∃ lanes links x, e = { d with lanes := lanes, links := links, sent := x ++ d.sent }

namespace Dev.SendsTo

theorem refl (d : Dev) : d.SendsTo d := ⟨d.lanes, d.links, [], rfl⟩

theorem trans {d e f : Dev} (h : d.SendsTo e) (h' : e.SendsTo f) : d.SendsTo f := by
  obtain ⟨_, _, x, rfl⟩ := h
  obtain ⟨lanes, links, y, rfl⟩ := h'
  exact ⟨lanes, links, y ++ x, by rw [List.append_assoc]⟩

theorem foldl {β : Type} {f : Dev → β → Dev} (h : ∀ (d : Dev) b, d.SendsTo (f d b)) (l : List β) (d : Dev) : d.SendsTo (l.foldl f d) := by
  induction l generalizing d with
  | nil => exact refl d
  | cons b l ih => exact (h d b).trans (ih _)

theorem foldS {f : Nat → Dev → Dev} (h : ∀ k (d : Dev), d.SendsTo (f k d)) (l : List Nat) (d : Dev) : d.SendsTo (foldS l f d) :=
  foldl (fun d k => h k d) l d

theorem onLane (d : Dev) (n : Nat) (f : LaneUnit → LaneUnit) : d.SendsTo (d.onLane n f) := ⟨_, d.links, [], rfl⟩

theorem onLink (d : Dev) (j : Nat) (f : LinkUnit → LinkUnit) : d.SendsTo (d.onLink j f) := ⟨d.lanes, _, [], rfl⟩

theorem send (d : Dev) (x : Sent) : d.SendsTo (d.send x) := ⟨d.lanes, d.links, [x], rfl⟩

theorem laneTraffic (n : Nat) (b : RBlock) (d : Dev) : d.SendsTo (d.laneTraffic n b) := by
  unfold Dev.laneTraffic
  split
  · exact refl d
  · unfold Dev.laneSend
    dsimp only
    split
    · exact refl d
    · split
      · exact onLane ..
      · exact (onLane ..).trans (send ..)

theorem slots (j : Nat) (l : List (Nat → RBlock)) (d : Dev) : d.SendsTo (d.slots j l) := by
  have hroom : d.SendsTo (d.slotRoom j l.length) := by
    unfold Dev.slotRoom
    split
    · exact refl d
    · exact (foldS (fun n s => laneTraffic n fillBlock s) _ _).trans (onLink ..)
  have hslots (e : Dev) : e.SendsTo (l.foldl (fun s f => Sys2Proof.Machine.foldS (s.allLanes j) (fun n t => t.laneTraffic n (f n)) s) e) := by
    refine foldl (fun s f => ?_) l e
    exact foldS (fun n t => laneTraffic n (f n) t) (s.allLanes j) s
  unfold Dev.slots Dev.slotsDone
  refine hroom.trans ((hslots _).trans ?_)
  exact onLink ..

theorem timeColumn (j : Nat) (b : RBlock) (d : Dev) : d.SendsTo (d.timeColumn j b) := (send ..).trans (slots ..)

variable {d e : Dev} (h : d.SendsTo e)
include h

theorem mem_sent {x : Sent} (hx : x ∈ d.sent) : x ∈ e.sent := by
  obtain ⟨_, _, y, rfl⟩ := h
  exact List.mem_append_right y hx

theorem time_eq : e.time = d.time := by
  obtain ⟨_, _, _, rfl⟩ := h
  rfl

theorem frame_eq (l : List Nat) : e.frame l = d.frame l := by
  obtain ⟨_, _, _, rfl⟩ := h
  rfl

end Dev.SendsTo

/-- What one step of a fold sends is sent after the fold. -/
theorem mem_sent_foldl {β : Type} {f : Dev → β → Dev} (h : ∀ (d : Dev) b, d.SendsTo (f d b)) {b : β} {x : Sent} (hx : ∀ d : Dev, x ∈ (f d b).sent)
    {l : List β} (hb : b ∈ l) (d : Dev) : x ∈ (l.foldl f d).sent := by
  induction l generalizing d with
  | nil => cases hb
  | cons c l ih =>
    cases hb with
    | head => exact (Dev.SendsTo.foldl h l _).mem_sent (hx d)
    | tail _ hb => exact ih hb _

theorem mem_sent_timeColumn (j : Nat) (b : RBlock) (d : Dev) : .block j [b] ∈ (d.timeColumn j b).sent :=
  (Dev.SendsTo.slots j _ (d.send _)).mem_sent (by simp)

/-! ### Sets and requests sent (R111, R112) -/

/-- The TIME columns of a set on link `k`. -/
def Dev.setSent (l : List RBlock) (k : Nat) (d : Dev) : Dev := l.foldl (fun t b => t.timeColumn k b) d

theorem setSent_sendsTo (l : List RBlock) (k : Nat) (d : Dev) : d.SendsTo (d.setSent l k) :=
  Dev.SendsTo.foldl (fun t b => Dev.SendsTo.timeColumn k b t) l d

theorem timeSetTx_eq {d : Dev} (hon : d.flag TEAM_TIME_CTRL_ENABLE = true) (hmode : d.mode ≠ 0) :
    timeSetTx d = (foldS (onesOf 16 (d.get TEAM_TIME_CTRL_DOWNSTREAM)) (Dev.setSent (d.timeSet d.time.setSeq)) d).onTime
      (fun t => { t with setSeq := (d.time.setSeq + 1) % 16 }) :=
  if_pos (by simp [hon, hmode])

theorem completes_timeSetTx (s : State) (hlive : s.live) (hon : s.dev.flag TEAM_TIME_CTRL_ENABLE = true) (hmode : s.dev.mode ≠ 0) :
    Completes (.timeSetTx) s (fun e =>
      e.time = { s.dev.time with setSeq := (s.dev.time.setSeq + 1) % 16 } ∧
      (∀ k ∈ onesOf 16 (s.dev.get TEAM_TIME_CTRL_DOWNSTREAM), ∀ b ∈ s.dev.timeSet s.dev.time.setSeq, Sent.block k [b] ∈ e.sent) ∧
      keepsRegs [] s.dev e ∧ keepsMem s.dev e) := by
  have hsends := Dev.SendsTo.foldS (setSent_sendsTo (s.dev.timeSet s.dev.time.setSeq)) (onesOf 16 (s.dev.get TEAM_TIME_CTRL_DOWNSTREAM)) s.dev
  refine completes_on (f := timeSetTx) rfl hlive ?_
  rw [timeSetTx_eq hon hmode]
  refine ⟨?_, fun k hk b hb => ?_, keeps_of_frame ?_⟩
  · rw [settle_time, onTime_time, hsends.time_eq]
  · rw [settle_sent, onTime_sent]
    exact mem_sent_foldl (fun d k => setSent_sendsTo _ k d)
      (fun d => mem_sent_foldl (fun t b => Dev.SendsTo.timeColumn k b t) (mem_sent_timeColumn k b) hb d) hk s.dev
  · rw [frame_settle, frame_onTime, hsends.frame_eq]

theorem teamDelayReqTx_eq {d : Dev} (hon : d.flag TEAM_TIME_CTRL_ENABLE = true) (hup : d.get TEAM_TIME_CTRL_UPSTREAM < 16)
    (hsets : 16 ≤ d.time.sets) (hmode : d.mode ≠ 0) :
    teamDelayReqTx d = (d.onTime (fun t => { t with reqSeq := (d.time.reqSeq + 1) % 16, t3 := d.tb0Ps, sets := 0 })).timeColumn
      (d.get TEAM_TIME_CTRL_UPSTREAM) (timeBlock 6 ((d.time.reqSeq + 1) % 16) (leBytes 2 (d.get TEAM_NODE_ID_V) ++ leBytes 4 0)) :=
  if_pos (by simp [hon, hmode, hup, hsets])

theorem completes_teamDelayReqTx (s : State) (hlive : s.live) (hon : s.dev.flag TEAM_TIME_CTRL_ENABLE = true)
    (hup : s.dev.get TEAM_TIME_CTRL_UPSTREAM < 16) (hsets : 16 ≤ s.dev.time.sets) (hmode : s.dev.mode ≠ 0) :
    Completes (.teamDelayReqTx) s (fun e =>
      e.time = { s.dev.time with reqSeq := (s.dev.time.reqSeq + 1) % 16, t3 := s.dev.tb0Ps, sets := 0 } ∧
      Sent.block (s.dev.get TEAM_TIME_CTRL_UPSTREAM) [timeBlock 6 ((s.dev.time.reqSeq + 1) % 16)
        (leBytes 2 (s.dev.get TEAM_NODE_ID_V) ++ leBytes 4 0)] ∈ e.sent ∧
      keepsRegs [] s.dev e ∧ keepsMem s.dev e) := by
  refine completes_on (f := teamDelayReqTx) rfl hlive ?_
  rw [teamDelayReqTx_eq hon hup hsets hmode]
  refine ⟨?_, ?_, keeps_of_frame ?_⟩
  · rw [settle_time, (Dev.SendsTo.timeColumn ..).time_eq, onTime_time]
  · rw [settle_sent]
    exact mem_sent_timeColumn ..
  · rw [frame_settle, (Dev.SendsTo.timeColumn ..).frame_eq, frame_onTime]

theorem completes_teamDelayReqRx (s : State) (k q : Fin 16) (hlive : s.live) (hon : s.dev.flag TEAM_TIME_CTRL_ENABLE = true)
    (hdown : bitOf (s.dev.get TEAM_TIME_CTRL_DOWNSTREAM) k = true) (hmode : s.dev.mode ≠ 0) :
    Completes (.teamDelayReqRx k q) s (fun e =>
      Sent.block k [timeBlock 7 q (leBytes 4 (s.dev.tb 0).ns ++ leBytes 2 (s.dev.tb 0).frac)] ∈ e.sent ∧
      keepsRegs [] s.dev e ∧ keepsMem s.dev e) := by
  refine completes_on (f := teamDelayReqRx k q) rfl hlive ?_
  rw [teamDelayReqRx, if_pos (by simp [hon, hdown, hmode])]
  refine ⟨?_, keeps_of_frame ?_⟩
  · rw [settle_sent]
    exact mem_sent_timeColumn ..
  · rw [frame_settle, (Dev.SendsTo.timeColumn ..).frame_eq]

/-! ### Sets and answers received (R111 to R113) -/

theorem badKind_eq_false {b : List Byte} (h : 1 ≤ blkKind b ∧ blkKind b ≤ 9) : badKind b = false := by
  simp only [badKind, Bool.or_eq_false_iff, beq_eq_false_iff_ne, decide_eq_false_iff_not]
  omega

theorem dropWhile_eq_self {α : Type} {p : α → Bool} {l : List α} (h : ∀ b ∈ l, p b = false) : l.dropWhile p = l :=
  List.dropWhile_eq_self_iff.2 fun hl => by simp [h _ (List.getElem_mem hl)]

theorem trimBad_eq_self {l : List (List Byte)} (h : ∀ b ∈ l, badKind b = false) : trimBad l = l := by
  rw [trimBad, dropWhile_eq_self h, dropWhile_eq_self fun b hb => h b (List.mem_reverse.1 hb), List.reverse_reverse]

/-- An accepted set from link `k` measures, and leaves its step pairs and the status of the upstream node. -/
def Dev.setTaken (k : Nat) (l : List (List Byte)) (d : Dev) (ps : List StepPair) : Dev :=
  let hops := blkField (nth [] l 4) 5 1 / 16
  let d1 := (d.setMeasured k l).onTime (fun t => { t with pairs := ps.filter (d.setMeasured k l).keepsPair })
  let d2 := (d1.putB TEAM_TIME_STATUS_UPSTREAM_VALID true).put TEAM_TIME_STATUS_HOPS (min (hops + 1) 15)
  if hops = 0 then d2.put TEAM_TIME_STATUS_LEADER_NODE_ID (blkField (nth [] l 4) 2 2) else d2

/-- A set with no reserved block, from the upstream link, is judged as it came. -/
theorem timeSetRx_upstream {k : Nat} {l : List (List Byte)} {d : Dev} (hon : d.flag TEAM_TIME_CTRL_ENABLE = true)
    (hup : d.get TEAM_TIME_CTRL_UPSTREAM = k) (hmode : d.mode ≠ 0) (hl : l ≠ []) (hkinds : ∀ b ∈ l, 1 ≤ blkKind b ∧ blkKind b ≤ 9) :
    timeSetRx k l d = (d.acceptSet l).elim ((d.inc (TTLk_DISCARD_V k)).guardFail 5 11) (d.setTaken k l) := by
  have hgood (b) (hb : b ∈ l) : badKind b = false := badKind_eq_false (hkinds b hb)
  have hbad : (l.filter badKind).length = 0 := by
    rw [List.length_eq_zero_iff, List.filter_eq_nil_iff]
    exact fun b hb => by simp [hgood b hb]
  rw [timeSetRx, if_neg hmode]
  simp only [hbad, trimBad_eq_self hgood, if_true, hon, hup, beq_self_eq_true, Bool.and_true, Bool.not_true, Bool.false_or,
    List.isEmpty_eq_false_iff.2 hl, Bool.false_eq_true, if_false]
  cases d.acceptSet l with
  | none => rfl
  | some ps => rfl

theorem completes_timeSetRx_discard (s : State) (k : Fin 16) (l : List (List Byte)) (hlive : s.live)
    (hon : s.dev.flag TEAM_TIME_CTRL_ENABLE = true) (hup : s.dev.get TEAM_TIME_CTRL_UPSTREAM = k) (hmode : s.dev.mode ≠ 0) (hl : l ≠ [])
    (hkinds : ∀ b ∈ l, 1 ≤ blkKind b ∧ blkKind b ≤ 9) (hset : s.dev.acceptSet l = none) :
    Completes (.timeSetRx k l) s (fun e =>
      e.get (TTLk_DISCARD_V k) = min (s.dev.get (TTLk_DISCARD_V k) + 1) (2 ^ 32 - 1) ∧ e.time = s.dev.time ∧
      keepsRegs [TTLk_DISCARD k] s.dev e ∧ keepsMem s.dev e) := by
  refine completes_on (f := timeSetRx k l) rfl hlive ?_
  rw [timeSetRx_upstream hon hup hmode hl hkinds, hset, Option.elim_none]
  refine ⟨?_, ?_, keeps_of_frame (by simp [TTLk_DISCARD_V])⟩
  · rw [get_settle_of_le _ _ (by simp [TTLk_DISCARD_V, TTLk_DISCARD]), guardFail_get, get_inc_same _ (TTLk_DISCARD_V k) (by simp [TTLk_DISCARD_V])]
    rfl
  · rw [settle_time, guardFail_time, inc_time]

/-- What the measurements of an accepted set leave: the registers, the instant of the set and the seconds of the time bases. -/
theorem setMeasured_keeps (k : Nat) (l : List (List Byte)) (d : Dev) :
    (∀ r, (d.setMeasured k l).word r = d.word r) ∧ (∀ a, (d.setMeasured k l).byteAt a = d.byteAt a) ∧
      (d.setMeasured k l).time.t2 = d.tb0Ps ∧ ∀ n, ((d.setMeasured k l).tb n).sec = (d.tb n).sec := by
  unfold Dev.setMeasured
  refine ⟨fun r => ?_, fun a => ?_, ?_, fun n => ?_⟩
  · rw [measured_word, measured_word]
    rfl
  · rw [measured_congr _ (fun e => e.byteAt a) (fun _ _ _ => onTb_byteAt ..), measured_congr _ (fun e => e.byteAt a) (fun _ _ _ => onTb_byteAt ..)]
    rfl
  · rw [measured_congr _ (fun e => e.time.t2) (by intros; rfl), measured_congr _ (fun e => e.time.t2) (by intros; rfl)]
  · rw [measured_tb_sec, measured_tb_sec]
    rfl

theorem keepsPair_setMeasured (k : Nat) (l : List (List Byte)) (d : Dev) : (d.setMeasured k l).keepsPair = d.keepsPair := by
  obtain ⟨hword, -, -, hsec⟩ := setMeasured_keeps k l d
  funext p
  simp only [Dev.keepsPair, hsec, get_congr (f := TBn_CTRL_SOURCE p.tb) (hword _)]

theorem acceptSet_ne_nil {l : List (List Byte)} {ps : List StepPair} {d : Dev} (h : d.acceptSet l = some ps) : l ≠ [] := by
  rintro rfl
  cases h

theorem completes_timeSetRx_accept (s : State) (k : Fin 16) (l : List (List Byte)) (ps : List StepPair) (hlive : s.live)
    (hon : s.dev.flag TEAM_TIME_CTRL_ENABLE = true) (hup : s.dev.get TEAM_TIME_CTRL_UPSTREAM = k) (hmode : s.dev.mode ≠ 0)
    (hkinds : ∀ b ∈ l, 1 ≤ blkKind b ∧ blkKind b ≤ 9) (hset : s.dev.acceptSet l = some ps) :
    Completes (.timeSetRx k l) s (fun e =>
      e.flag TEAM_TIME_STATUS_UPSTREAM_VALID = true ∧ e.time.pairs = ps.filter s.dev.keepsPair ∧ e.time.t2 = s.dev.tb0Ps ∧
      keepsMem s.dev e) := by
  obtain ⟨-, hbytes, ht2, -⟩ := setMeasured_keeps k l s.dev
  have hvalid (d : Dev) (x : Nat) (f : Fld) (hf : f.lo + f.w ≤ 31) :
      (d.put f x).flag TEAM_TIME_STATUS_UPSTREAM_VALID = d.flag TEAM_TIME_STATUS_UPSTREAM_VALID := by
    rw [Dev.flag, Dev.flag, get_put_of_apart _ _ _ _ (.inl hf) (by decide)]
  have hputB (d : Dev) : (d.putB TEAM_TIME_STATUS_UPSTREAM_VALID true).flag TEAM_TIME_STATUS_UPSTREAM_VALID = true :=
    flag_putB_same _ _ _ (by decide) (by decide)
  refine completes_on (f := timeSetRx k l) rfl hlive ?_
  rw [timeSetRx_upstream hon hup hmode (acceptSet_ne_nil hset) hkinds, hset, Option.elim_some, Dev.setTaken, keepsPair_setMeasured]
  rw [flag_settle_of_le _ _ (by decide), settle_time]
  refine ⟨?_, ?_, ?_, fun a => (settle_byteAt ..).trans ?_⟩ <;> split
  · rw [hvalid _ _ _ (by decide), hvalid _ _ _ (by decide), hputB]
  · rw [hvalid _ _ _ (by decide), hputB]
  · simp
  · simp
  · simp [ht2]
  · simp [ht2]
  · simp [hbytes]
  · simp [hbytes]

theorem completes_teamDelayRspRx (s : State) (k q : Fin 16) (ns fr : Nat) (hlive : s.live)
    (hon : s.dev.flag TEAM_TIME_CTRL_ENABLE = true) (hup : s.dev.get TEAM_TIME_CTRL_UPSTREAM = k) (hseq : s.dev.time.reqSeq = q)
    (hmode : s.dev.mode ≠ 0) :
    Completes (.teamDelayRspRx k q ns fr) s (fun e =>
      e.get (TTLk_DELAY_V k) = unsgn 32 (((s.dev.time.t2 - s.dev.time.t1) + wrapPs (psOf 0 ns fr - s.dev.time.t3)) / 2
        + s.dev.getI (TTLk_ASYM_V k)) ∧
      keepsRegs [TTLk_DELAY k] s.dev e ∧ keepsMem s.dev e ∧ e.time = s.dev.time) := by
  refine completes_on (f := teamDelayRspRx k q ns fr) rfl hlive ?_
  rw [teamDelayRspRx, if_pos (by simp [hon, hup, hseq, hmode])]
  refine ⟨?_, (keeps_of_frame ?frame).1, (keeps_of_frame ?frame).2, ?_⟩
  case frame => simp [TTLk_DELAY_V]
  · rw [get_settle_of_le _ _ (by simp [TTLk_DELAY_V, TTLk_DELAY]), get_putI_same _ _ _ (by simp [TTLk_DELAY_V])]
    rfl
  · rw [settle_time, putI_time]

/-! ### The step of a follower (R113) -/

theorem tcMarked_time (old new : Rat) (d : Dev) : (d.tcMarked old new).time = d.time := by
  unfold Dev.tcMarked
  split
  · rw [putB_time, putB_time]
  · rw [putB_time]

theorem tcDisc_pairs (old new : Rat) (d : Dev) : (d.tcDisc old new).time.pairs = d.time.pairs := by
  rw [tcDisc_eq, timeEvt_time, onTime_time, inc_time, tcMarked_time]

theorem queueStepped_time (n old : Nat) (d : Dev) : (d.queueStepped n old).time = d.time := by
  refine foldS_congr Dev.time _ _ _ fun h _ s => ?_
  have hjudge (t : Dev) : (t.judgeFront h).time = t.time := (onHead_time ..).trans (addSat_time ..)
  dsimp only
  split
  · split
    · exact (hjudge _).trans (onHead_time ..)
    · exact onHead_time ..
  · exact onHead_time ..

theorem marksStepped_time (n old : Nat) (d : Dev) : (d.marksStepped n old).time = d.time := by unfold Dev.marksStepped; rfl

theorem stepOne_pairs (delta : Int) (n : Nat) (d : Dev) : (d.stepOne delta n).time.pairs = d.time.pairs := by
  refine stepOne_congr (fun e => e.time.pairs) (fun e m f => ?_) (fun e m old => ?_) (fun e m old => ?_) (fun e m => ?_) (fun e b => ?_)
    (fun e old new => tcDisc_pairs old new e) delta n d
  · unfold Dev.onTb
    rfl
  · rw [queueStepped_time]
  · rw [marksStepped_time]
  · rw [inc_time]
  · rw [timeEvt_time]

theorem stepServo_pairs (host : Bool) (n : Nat) (d : Dev) : (d.stepServo host n).time.pairs = d.time.pairs := by
  unfold Dev.stepServo
  split
  · rfl
  · split
    · rw [Dev.enterLocked, timeEvt_time, putB_time, putB_time, put_time]
    · rfl
  · rfl

theorem teamStepApply_eq {n : Nat} {p : StepPair} {d : Dev} (hpair : d.time.pairs.find? (fun q => q.tb == n) = some p)
    (hsource : d.get (TBn_CTRL_SOURCE n) = 7) : teamStepApply n d = foldS (d.stepGroup n) (Dev.stepServo false)
      ((d.onTime (fun t => { t with pairs := d.time.pairs.filter (fun q => q.tb != n) })).stepBy n (p.sec * 1000000000 + p.ns)) := by
  rw [teamStepApply, hpair]
  exact if_pos hsource

theorem completes_teamStepApply (s : State) (n : Fin 2) (p : StepPair) (hlive : s.live)
    (hpair : s.dev.time.pairs.find? (fun q => q.tb == n.val) = some p) (hsource : s.dev.get (TBn_CTRL_SOURCE n) = 7) :
    Completes (.teamStepApply n) s (fun e =>
      e = settle (foldS (s.dev.stepGroup n) (Dev.stepServo false)
        (({ s.dev with time := { s.dev.time with pairs := s.dev.time.pairs.filter (fun q => q.tb != n.val) } } : Dev).stepBy n
          (p.sec * 1000000000 + p.ns))) ∧
      e.time.pairs = s.dev.time.pairs.filter (fun q => q.tb != n.val)) := by
  refine completes_on (f := teamStepApply n) rfl hlive ?_
  rw [teamStepApply_eq hpair hsource]
  refine ⟨rfl, ?_⟩
  rw [settle_time, foldS_congr (fun e => e.time.pairs) _ _ _ fun k _ e => stepServo_pairs false k e, Dev.stepBy,
    foldS_congr (fun e => e.time.pairs) _ _ _ fun k _ e => stepOne_pairs _ k e, onTime_time]

/-! ### The statement -/

/-- Settles O16: sending TIME columns keeps the registers and what was sent before; an accepted set measures beside the step pairs that it
leaves, and a step leaves the pairs of the other time base. -/
theorem teamTime : Obligations.TeamTime :=
  ⟨fun _ hs => completes_on rfl hs rfl, fun _ _ _ hs => completes_on rfl hs rfl, fun _ hs => completes_on rfl hs rfl,
    fun _ _ _ hs => completes_on rfl hs rfl, fun _ _ _ _ _ hs => completes_on rfl hs rfl, fun _ _ hs => completes_on rfl hs rfl,
    completes_timeSetTx, completes_timeSetRx_discard, completes_timeSetRx_accept, completes_teamDelayReqTx, completes_teamDelayReqRx,
    completes_teamDelayRspRx, completes_teamStepApply⟩

end Sys2Proof.Machine
end

section
/-! SUPPORT. Arming, firing and missing of marks (R115 to R121). -/
namespace Sys2Proof.Machine

/-! ### The scheduler's own state -/

/-- Changes the scheduler beyond its registers. -/
def Dev.onSched (f : SchedUnit → SchedUnit) (d : Dev) : Dev := { d with sched := f d.sched }

variable (d : Dev) (l : List Nat)

@[simp] theorem onSched_sched (f : SchedUnit → SchedUnit) : (d.onSched f).sched = f d.sched := by unfold Dev.onSched; rfl
@[simp] theorem onSched_time (f : SchedUnit → SchedUnit) : (d.onSched f).time = d.time := by unfold Dev.onSched; rfl
@[simp] theorem onSched_get (f : SchedUnit → SchedUnit) (g : Fld) : (d.onSched f).get g = d.get g := by unfold Dev.onSched; rfl
@[simp] theorem onSched_flag (f : SchedUnit → SchedUnit) (g : Fld) : (d.onSched f).flag g = d.flag g := by unfold Dev.onSched; rfl
@[simp] theorem onSched_byteAt (f : SchedUnit → SchedUnit) (a : Nat) : (d.onSched f).byteAt a = d.byteAt a := by unfold Dev.onSched; rfl
@[simp] theorem frame_onSched (f : SchedUnit → SchedUnit) : (d.onSched f).frame l = d.frame l := by unfold Dev.onSched; rfl

theorem markFresh_eq_onSched (m : Nat) : d.markFresh m =
    d.onSched (fun u => { shots := u.shots.filter (fun p => p.1 != m), skips := u.skips.filter (· != m) }) := rfl

variable {d}

theorem shotTaken_of_none {m : Nat} (h : d.sched.shots.any (fun p => p.1 == m) = false) : d.shotTaken m = d := by
  have hshots : d.sched.shots.eraseP (fun p => p.1 == m) = d.sched.shots :=
    List.eraseP_of_forall_not fun p hp hm => by simpa [hm] using List.any_eq_false.1 h p hp
  rw [Dev.shotTaken, hshots]

/-! ### Arming and disarming (R117, R118) -/

/-- A plain write puts its bit into an RW flag (R3). -/
theorem flag_writePlain_rwField {f : Fld} (h : rwField f = true) (hw : f.w = 1) (d : Dev) (v : Nat) :
    (d.writePlain f.addr v).flag f = bitOf v f.lo := by
  rw [Dev.flag, get_writePlain_rwField h, hw, bitsOf, bitOf, pow_one]
  rcases Nat.mod_two_eq_zero_or_one (v / 2 ^ f.lo) with hbit | hbit <;> simp [hbit]

theorem rwField_markArm : ∀ m : Fin 256, rwField (Mm_CTRL_ARM m) = true := by decide +kernel

theorem rwField_markRepeat : ∀ m : Fin 256, rwField (Mm_CTRL_REPEAT m) = true := by decide +kernel

/-- The results of mark `m` are cleared (R118). -/
def Dev.markCleared (m : Nat) (d : Dev) : Dev :=
  ((((d.put (Mm_CTRL_LATE m) 0).put (Mm_CTRL_DROPPED m) 0).put (Mm_CTRL_FAILED m) 0).put (Mm_CTRL_MISSED m) 0).put (Mm_CTRL_FIRE_COUNT m) 0

/-- A field of another register, or above the results. -/
theorem get_markCleared_other {m : Nat} {f : Fld} (h : Mm_CTRL m ≠ f.addr ∨ 24 ≤ f.lo) (hf : f.lo + f.w ≤ 32) (d : Dev) :
    (d.markCleared m).get f = d.get f := by
  have hput (g : Fld) (hg : g.addr = Mm_CTRL m) (hg' : g.lo + g.w ≤ 24) (e : Dev) : (e.put g 0).get f = e.get f :=
    get_put_other _ _ _ _ (h.imp (fun ha => hg ▸ ha) fun hl => .inl (hg'.trans hl)) hf
  rw [Dev.markCleared, hput _ rfl (by simp [Mm_CTRL_FIRE_COUNT]), hput _ rfl (by simp [Mm_CTRL_MISSED]), hput _ rfl (by simp [Mm_CTRL_FAILED]),
    hput _ rfl (by simp [Mm_CTRL_DROPPED]), hput _ rfl (by simp [Mm_CTRL_LATE])]

theorem flag_markCleared_other {m : Nat} {f : Fld} (h : Mm_CTRL m ≠ f.addr ∨ 24 ≤ f.lo) (hf : f.lo + f.w ≤ 32) (d : Dev) :
    (d.markCleared m).flag f = d.flag f := by
  rw [Dev.flag, Dev.flag, get_markCleared_other h hf]

theorem get_markCleared (m : Nat) (d : Dev) : (d.markCleared m).get (Mm_CTRL_FIRE_COUNT m) = 0 ∧ (d.markCleared m).get (Mm_CTRL_LATE m) = 0 ∧
    (d.markCleared m).get (Mm_CTRL_MISSED m) = 0 := by
  unfold Dev.markCleared
  refine ⟨?_, ?_, ?_⟩ <;>
    simp [get_put_same, get_put_of_apart, Mm_CTRL_LATE, Mm_CTRL_DROPPED, Mm_CTRL_FAILED, Mm_CTRL_MISSED, Mm_CTRL_FIRE_COUNT]

@[simp] theorem frame_markCleared (l : List Nat) (m : Nat) (h : Mm_CTRL m ∈ l) (d : Dev) : (d.markCleared m).frame l = d.frame l := by
  simp [Dev.markCleared, Mm_CTRL_LATE, Mm_CTRL_DROPPED, Mm_CTRL_FAILED, Mm_CTRL_MISSED, Mm_CTRL_FIRE_COUNT, h]

@[simp] theorem markCleared_time (m : Nat) (d : Dev) : (d.markCleared m).time = d.time := by simp [Dev.markCleared]

@[simp] theorem markCleared_sched (m : Nat) (d : Dev) : (d.markCleared m).sched = d.sched := by simp [Dev.markCleared]

/-- The block when a write of Mm_CTRL has armed mark `m`, before its late policy. -/
def Dev.markArmed (m v : Nat) (d : Dev) : Dev := ((d.writePlain (Mm_CTRL m) v).markFresh m).markCleared m

/-- A field of another register, or above the results of the mark. -/
theorem get_markArmed_other {m : Nat} {f : Fld} (h : Mm_CTRL m ≠ f.addr ∨ 24 ≤ f.lo) (hf : f.lo + f.w ≤ 32) (v : Nat) (d : Dev) :
    (d.markArmed m v).get f = (d.writePlain (Mm_CTRL m) v).get f := by
  rw [Dev.markArmed, get_markCleared_other h hf, markFresh_eq_onSched, onSched_get]

theorem get_markArmed_of_ne {m : Nat} {f : Fld} (h : Mm_CTRL m ≠ f.addr) (hf : f.lo + f.w ≤ 32) (v : Nat) (d : Dev) :
    (d.markArmed m v).get f = d.get f :=
  (get_markArmed_other (.inl h) hf v d).trans (get_writePlain_other _ _ _ _ h)

theorem flag_markArmed (m : Fin 256) (v : Nat) (d : Dev) :
    (d.markArmed m v).flag (Mm_CTRL_ARM m) = bitOf v 31 ∧ (d.markArmed m v).flag (Mm_CTRL_REPEAT m) = bitOf v 30 := by
  constructor
  · exact (congrArg (· != 0) (get_markArmed_other (.inr (by simp [Mm_CTRL_ARM])) (by simp [Mm_CTRL_ARM]) v d)).trans
      (flag_writePlain_rwField (rwField_markArm m) rfl d v)
  · exact (congrArg (· != 0) (get_markArmed_other (.inr (by simp [Mm_CTRL_REPEAT])) (by simp [Mm_CTRL_REPEAT]) v d)).trans
      (flag_writePlain_rwField (rwField_markRepeat m) rfl d v)

theorem frame_markArmed (m v : Nat) (d : Dev) : (d.markArmed m v).frame [Mm_CTRL m] = d.frame [Mm_CTRL m] := by
  simp [Dev.markArmed, markFresh_eq_onSched]

theorem markCtrlWrite_arm {m v : Nat} {d : Dev} (hw : d.writeOk (Mm_CTRL m) v = true) (hok : markCtrlOk m v d = true)
    (harm : bitOf v 31 = true) (hpast : (d.markArmed m v).markPast m = false) : markCtrlWrite m v d = d.markArmed m v := by
  rw [markCtrlWrite, writeVia_taken _ _ _ _ _ hw hok]
  simp only [harm, if_true]
  exact if_neg (Bool.not_eq_true _ ▸ hpast)

/-- What an arming leaves, where the mark is not past. -/
theorem completes_markArm_of_notPast (s : State) (m : Fin 256) (v : Word) (h : s.takes (Mm_CTRL m) v.toNat) (harm : bitOf v.toNat 31 = true)
    (hok : markCtrlOk m v.toNat s.dev = true) (hpast : (s.dev.markArmed m v.toNat).markPast m = false) :
    Completes (.markArm m v) s (fun e => e.flag (Mm_CTRL_ARM m) = true ∧ e.flag (Mm_CTRL_REPEAT m) = bitOf v.toNat 30 ∧
      e.get (Mm_CTRL_FIRE_COUNT m) = 0 ∧ e.get (Mm_CTRL_LATE m) = 0 ∧ e.get (Mm_CTRL_MISSED m) = 0 ∧
      keepsRegs [Mm_CTRL m] s.dev e ∧ keepsMem s.dev e) := by
  obtain ⟨⟨hlive, hmode, habout⟩, hw⟩ := h
  obtain ⟨harmed, hrepeat⟩ := flag_markArmed m v.toNat s.dev
  obtain ⟨hcount, hlate, hmissed⟩ := get_markCleared m ((s.dev.writePlain (Mm_CTRL m) v.toNat).markFresh m)
  refine completes_on (f := fun d => if bitOf v.toNat 31 then Dev.pcie (.reg (Mm_CTRL m) v.toNat) (markCtrlWrite m v.toNat) d else d)
    rfl hlive ?_
  rw [if_pos harm, pcie_now _ _ _ hmode habout, markCtrlWrite_arm hw hok harm hpast, flag_settle_of_le, flag_settle_of_le, get_settle_of_le,
    get_settle_of_le, get_settle_of_le]
  · exact ⟨harmed.trans harm, hrepeat, hcount, hlate, hmissed, keeps_of_frame ((frame_settle ..).trans (frame_markArmed ..))⟩
  all_goals simp [Mm_CTRL_ARM, Mm_CTRL_REPEAT, Mm_CTRL_FIRE_COUNT, Mm_CTRL_LATE, Mm_CTRL_MISSED, Mm_CTRL]

/-- A TIME mark of a time that lies ahead is not past once armed (R119). -/
theorem markPast_markArmed_time {m : Fin 256} {v : Nat} {d : Dev} (hrepeat : bitOf v 30 = false) (hkind : d.get (Mm_TRIGGER_KIND m) = 1)
    (hwhen : past32 (d.get (Mm_WHEN_V m)) (d.nsc32 (d.get (Mm_TRIGGER_SOURCE m))) = false) : (d.markArmed m v).markPast m = false := by
  have hother (f : Fld) (ha : Mm_CTRL m ≠ f.addr) (hf : f.lo + f.w ≤ 32) : (d.markArmed m v).get f = d.get f := get_markArmed_of_ne ha hf v d
  have hnow (n : Nat) : (d.markArmed m v).nsc32 n = d.nsc32 n := by
    rw [Dev.nsc32, Dev.nsc32, tb_congr]
    rw [Dev.markArmed, markCleared_time, markFresh_eq_onSched, onSched_time, writePlain_time]
  have hskips : (d.markArmed m v).sched.skips.contains m.val = false := by
    simp [Dev.markArmed, markFresh_eq_onSched]
  rw [Dev.markPast, (flag_markArmed m v d).2, hrepeat, hother (Mm_TRIGGER_KIND m) (by simp [Mm_TRIGGER_KIND, Mm_TRIGGER, Mm_CTRL])
    (by simp [Mm_TRIGGER_KIND]), hkind, hother (Mm_WHEN_V m) (by simp [Mm_WHEN_V, Mm_WHEN, Mm_CTRL]) (by simp [Mm_WHEN_V]),
    hother (Mm_TRIGGER_SOURCE m) (by simp [Mm_TRIGGER_SOURCE, Mm_TRIGGER, Mm_CTRL]) (by simp [Mm_TRIGGER_SOURCE]), hnow]
  simp only [hskips, hwhen]
  rfl

theorem completes_markArm_time (s : State) (m : Fin 256) (v : Word) (h : s.takes (Mm_CTRL m) v.toNat) (harm : bitOf v.toNat 31 = true)
    (hrepeat : bitOf v.toNat 30 = false) (hidle : s.dev.flag (Mm_CTRL_ARM m) = false) (hkind : s.dev.get (Mm_TRIGGER_KIND m) = 1)
    (hwhen : past32 (s.dev.get (Mm_WHEN_V m)) (s.dev.nsc32 (s.dev.get (Mm_TRIGGER_SOURCE m))) = false) :
    Completes (.markArm m v) s (fun e => e.flag (Mm_CTRL_ARM m) = true ∧ e.get (Mm_CTRL_FIRE_COUNT m) = 0 ∧ e.get (Mm_CTRL_LATE m) = 0 ∧
      e.get (Mm_CTRL_MISSED m) = 0 ∧ keepsRegs [Mm_CTRL m] s.dev e ∧ keepsMem s.dev e) := by
  have hok : markCtrlOk m v.toNat s.dev = true := by simp [markCtrlOk, hidle, hkind, hrepeat]
  obtain ⟨t, hexec, hqueue, harmed, -, hrest⟩ := completes_markArm_of_notPast s m v h harm hok (markPast_markArmed_time hrepeat hkind hwhen)
  exact ⟨t, hexec, hqueue, harmed, hrest⟩

/-- A mark of every frame is never past (R119). -/
theorem completes_markArm_repeat (s : State) (m : Fin 256) (v : Word) (h : s.takes (Mm_CTRL m) v.toNat) (harm : bitOf v.toNat 31 = true)
    (hrepeat : bitOf v.toNat 30 = true) (hidle : s.dev.flag (Mm_CTRL_ARM m) = false) (hkind : 2 ≤ s.dev.get (Mm_TRIGGER_KIND m))
    (hkind' : s.dev.get (Mm_TRIGGER_KIND m) ≤ 4) :
    Completes (.markArm m v) s (fun e => e.flag (Mm_CTRL_ARM m) = true ∧ e.flag (Mm_CTRL_REPEAT m) = true ∧
      e.get (Mm_CTRL_FIRE_COUNT m) = 0 ∧ keepsRegs [Mm_CTRL m] s.dev e ∧ keepsMem s.dev e) := by
  have hok : markCtrlOk m v.toNat s.dev = true := by
    simp only [markCtrlOk, hidle, Bool.not_false, Bool.true_and, Bool.and_eq_true, Bool.or_eq_true, bne_iff_ne, decide_eq_true_eq]
    exact ⟨.inr (by omega), .inr ⟨hkind, hkind'⟩⟩
  have hpast : (s.dev.markArmed m v.toNat).markPast m = false := by rw [Dev.markPast, (flag_markArmed m v.toNat s.dev).2, hrepeat]; rfl
  obtain ⟨t, hexec, hqueue, harmed, hrep, hcount, -, -, hkept⟩ := completes_markArm_of_notPast s m v h harm hok hpast
  exact ⟨t, hexec, hqueue, harmed, hrep.trans hrepeat, hcount, hkept⟩

theorem completes_markDisarm (s : State) (m : Fin 256) (v : Word) (h : s.takes (Mm_CTRL m) v.toNat) (hv : bitOf v.toNat 31 = false)
    (hok : markCtrlOk m v.toNat s.dev = true) :
    Completes (.markDisarm m v) s (fun e => e.flag (Mm_CTRL_ARM m) = false ∧ keepsRegs [Mm_CTRL m] s.dev e ∧ keepsMem s.dev e) := by
  obtain ⟨⟨hlive, hmode, habout⟩, hw⟩ := h
  have heff : markCtrlWrite m v.toNat s.dev = (s.dev.writePlain (Mm_CTRL m) v.toNat).markFresh m := by
    rw [markCtrlWrite, writeVia_taken _ _ _ _ _ hw hok]
    simp only [hv, Bool.false_eq_true, if_false]
  refine completes_on (f := fun d => if bitOf v.toNat 31 then d else Dev.pcie (.reg (Mm_CTRL m) v.toNat) (markCtrlWrite m v.toNat) d)
    rfl hlive ?_
  rw [if_neg (by simp [hv]), pcie_now _ _ _ hmode habout, heff, markFresh_eq_onSched]
  refine ⟨?_, keeps_of_frame (by simp)⟩
  rw [flag_settle_of_le _ _ (by simp [Mm_CTRL_ARM, Mm_CTRL]), onSched_flag]
  exact (flag_writePlain_rwField (rwField_markArm m) rfl _ _).trans hv

theorem disarmAllWrite_eq {d : Dev} (hw : d.writeOk SCHED_DISARM_ALL 1 = true) : disarmAllWrite 1 d =
    (foldS (List.range 256) (fun m t => t.put (Mm_CTRL_ARM m) 0) (d.writePlain SCHED_DISARM_ALL 1)).onSched (fun _ => {}) := by
  rw [disarmAllWrite, writeVia_taken _ _ _ _ _ hw rfl]
  exact if_pos rfl

/-- Each mark is disarmed once. -/
theorem flag_disarmAll (m : Fin 256) (d : Dev) :
    (foldS (List.range 256) (fun m t => t.put (Mm_CTRL_ARM m) 0) d).flag (Mm_CTRL_ARM m) = false := by
  obtain ⟨e, -, hfold⟩ := foldS_once (fun s => Dev.word s (Mm_CTRL m)) (List.range 256) (fun m t => t.put (Mm_CTRL_ARM m) 0) d m.val
    (List.mem_range.2 m.isLt) List.nodup_range fun k _ hk e => word_put_other _ _ _ _ (by simp only [Mm_CTRL_ARM, Mm_CTRL]; omega)
  rw [flag_congr (f := Mm_CTRL_ARM m) hfold, flag_eq_false_iff, get_put_same _ _ _ (by simp [Mm_CTRL_ARM])]
  rfl

theorem completes_schedDisarmAll (s : State) (h : s.takes SCHED_DISARM_ALL 1) :
    Completes (.schedDisarmAll) s (fun e => (∀ m : Fin 256, e.flag (Mm_CTRL_ARM m) = false) ∧ keepsMem s.dev e) := by
  refine completes_hostWrite (f := disarmAllWrite 1) rfl h.1 ?_
  rw [disarmAllWrite_eq h.2]
  refine ⟨fun m => ?_, fun a => ?_⟩
  · rw [flag_settle_of_le _ _ (by simp [Mm_CTRL_ARM, Mm_CTRL]), onSched_flag, flag_disarmAll]
  · rw [settle_byteAt, onSched_byteAt, foldS_congr (fun e => Dev.byteAt e a) _ _ _ fun m _ e => put_byteAt ..,
      writePlain_congr (fun e => Dev.byteAt e a) fun e r v => setWord_byteAt ..]

/-! ### Triggers and positions (R117, R119, R120) -/

theorem filterRange_eq_singleton {n m : Nat} {p : Nat → Bool} (hm : m < n) (h : ∀ k, p k = (k == m)) : filterRange n p = [m] := by
  rw [filterRange, funext h, List.filter_beq, List.count_eq_one_of_mem List.nodup_range (List.mem_range.2 hm), List.replicate_one]

/-- A mark of its own in the list fires when its instant is now. -/
theorem markTrigger_due {m : Nat} {d : Dev} (hm : m < 256) (hruns : d.schedRuns = true)
    (hshots : d.sched.shots.any (fun p => p.1 == m) = false) (hdue : d.markDue m = true) : markTrigger [m] d = d.markFire m := by
  have hlist : filterRange 256 (fun k => [m].contains k && d.markDue k) = [m] :=
    filterRange_eq_singleton hm fun k => by by_cases hk : k = m <;> simp [hk, hdue]
  rw [markTrigger, hruns, if_neg (by simp), hlist]
  exact congrArg (Dev.markFire m) (shotTaken_of_none hshots)

theorem markTrigger_notDue {m : Nat} {d : Dev} (hdue : d.markDue m = false) : markTrigger [m] d = d := by
  have hlist : filterRange 256 (fun k => [m].contains k && d.markDue k) = [] :=
    List.filter_eq_nil_iff.2 fun k _ => by by_cases hk : k = m <;> simp [hk, hdue]
  unfold markTrigger
  split
  · rfl
  · rw [hlist]
    rfl

theorem completes_markTrigger_due (s : State) (m : Fin 256) (hlive : s.live) (hruns : s.dev.schedRuns = true)
    (hshots : s.dev.sched.shots.any (fun p => p.1 == m.val) = false) (hdue : s.dev.markDue m = true) :
    Completes (.markTrigger [m.val]) s (fun e => e = settle (s.dev.markFire m)) :=
  completes_on (f := markTrigger [m.val]) rfl hlive (congrArg settle (markTrigger_due m.isLt hruns hshots hdue))

theorem completes_markTrigger_notDue (s : State) (m : Fin 256) (hlive : s.live) (hdue : s.dev.markDue m = false) :
    Completes (.markTrigger [m.val]) s (fun e => keepsRegs [] s.dev e ∧ keepsMem s.dev e) := by
  refine completes_on (f := markTrigger [m.val]) rfl hlive ?_
  rw [markTrigger_notDue hdue]
  exact keeps_of_frame (frame_settle ..)

/-- The position of an armed mark that no delay runs for passes. -/
theorem markPositionPassed_armed {m : Nat} {d : Dev} (harm : d.flag (Mm_CTRL_ARM m) = true) (hruns : d.schedRuns = true)
    (hshots : d.sched.shots.any (fun p => p.1 == m) = false) : markPositionPassed m d =
      if d.flag (Mm_CTRL_REPEAT m) then (if d.get (Mm_TRIGGER_KIND m) = 4 then d else d.markMiss m)
      else if d.markPast m then d.markPassed m else d :=
  if_neg (by simp [harm, hruns, hshots])

theorem completes_markPositionPassed_repeat (s : State) (m : Fin 256) (hlive : s.live) (hruns : s.dev.schedRuns = true)
    (hshots : s.dev.sched.shots.any (fun p => p.1 == m.val) = false) (harm : s.dev.flag (Mm_CTRL_ARM m) = true)
    (hrepeat : s.dev.flag (Mm_CTRL_REPEAT m) = true) (hkind : s.dev.get (Mm_TRIGGER_KIND m) ≠ 4) :
    Completes (.markPositionPassed m) s (fun e => e = settle (s.dev.markMiss m)) := by
  refine completes_on (f := markPositionPassed m) rfl hlive ?_
  rw [markPositionPassed_armed harm hruns hshots, if_pos hrepeat, if_neg hkind]

theorem completes_markPositionPassed_once (s : State) (m : Fin 256) (hlive : s.live) (hruns : s.dev.schedRuns = true)
    (hshots : s.dev.sched.shots.any (fun p => p.1 == m.val) = false) (harm : s.dev.flag (Mm_CTRL_ARM m) = true)
    (hrepeat : s.dev.flag (Mm_CTRL_REPEAT m) = false) (hpast : s.dev.markPast m = true) :
    Completes (.markPositionPassed m) s (fun e =>
      e = settle (if s.dev.flag (Mm_CTRL_LATE_POLICY m) then s.dev.markDrop m else (s.dev.markLate m).markFire m)) := by
  refine completes_on (f := markPositionPassed m) rfl hlive ?_
  rw [markPositionPassed_armed harm hruns hshots, if_neg (by simp [hrepeat]), if_pos hpast, Dev.markPassed]

/-! ### The end of a pulse (R116) -/

theorem onPins_pins (f : PinUnit → PinUnit) (d : Dev) : (d.onPins f).pins = f d.pins := by unfold Dev.onPins; rfl

theorem lt_length_of_nth_ne {α : Type} {x : α} {l : List α} {i : Nat} (h : nth x l i ≠ x) : i < l.length := by
  by_contra hi
  exact h (by rw [nth, List.getD_eq_default _ _ (by omega)])

theorem pulseEnd_eq {p : Nat} {d : Dev} (hpulse : nth false d.pins.pulsing p = true) (hmap : nth false d.pins.mapped p = true) :
    pulseEnd p d = (d.onPins (fun u => { u with level := updAt u.level p (fun _ => .low) })).onPins
      (fun u => { u with pulsing := updAt u.pulsing p (fun _ => false) }) := by
  rw [pulseEnd, if_pos hpulse, Dev.pinAction, Dev.drive, if_pos hmap]
  rfl

theorem completes_pctlPulseEnd (s : State) (p : Fin 48) (hlive : s.live) (hpulse : nth false s.dev.pins.pulsing p = true)
    (hmap : nth false s.dev.pins.mapped p = true) :
    Completes (.pctlPulseEnd p) s (fun e =>
      (p.val < s.dev.pins.level.length → nth .hiz e.pins.level p = .low) ∧ nth true e.pins.pulsing p = false ∧
      keepsRegs [] s.dev e ∧ keepsMem s.dev e) := by
  have hlt : p.val < s.dev.pins.pulsing.length := lt_length_of_nth_ne (x := false) (by simp [hpulse])
  refine completes_on (f := pulseEnd p) rfl hlive ?_
  rw [pulseEnd_eq hpulse hmap, settle_pins, onPins_pins, onPins_pins]
  exact ⟨fun hp => nth_updAt_same _ _ _ _ hp, nth_updAt_same _ _ _ _ hlt, keeps_of_frame (by simp)⟩

/-! ### The statement -/

/-- Settles O17: a write of Mm_CTRL is its fields and the cleared results, for the armed mark is not past; a single mark triggers when it is
due, and its shots are empty. -/
theorem marks : Obligations.Marks :=
  ⟨fun _ _ _ hs => completes_on rfl hs rfl, fun _ _ _ hs => completes_on rfl hs rfl, fun _ hs => completes_on rfl hs rfl,
    fun _ _ hs => completes_on rfl hs rfl, fun _ _ hs => completes_on rfl hs rfl, fun _ _ hs => completes_on rfl hs rfl,
    completes_markArm_time, completes_markArm_repeat, completes_markDisarm, completes_schedDisarmAll, completes_markTrigger_due,
    completes_markTrigger_notDue, completes_markPositionPassed_repeat, completes_markPositionPassed_once, completes_pctlPulseEnd⟩

end Sys2Proof.Machine
end

section
/-! SUPPORT. Input streams (chapter 04): what passing a block on to the team leaves alone (R416), what a mark of the camera and a line
change, and the registers in which a failure is counted (R148 to R150). -/
namespace Sys2Proof.Machine

/-! ### A block goes onto the team's links (R416) -/

theorem Dev.SendsTo.linkStream (j : Nat) (l : List RBlock) (d : Dev) : d.SendsTo (d.linkStream j l) := by
  unfold Dev.linkStream
  split
  · exact refl d
  · split
    · exact onLink ..
    · exact (send ..).trans (foldS (fun r s => slots j _ s) _ _)

theorem distribute_sendsTo (n : Nat) (blocks : List RBlock) (d : Dev) : d.SendsTo (d.distribute n blocks) :=
  Dev.SendsTo.foldS (fun j s => Dev.SendsTo.linkStream j blocks s) _ d

section
variable (n : Nat) (blocks : List RBlock) (d : Dev)

@[simp] theorem distribute_streams : (d.distribute n blocks).streams = d.streams := by
  obtain ⟨_, _, _, h⟩ := distribute_sendsTo n blocks d
  rw [h]

@[simp] theorem distribute_stream (k : Nat) : (d.distribute n blocks).stream k = d.stream k := by
  rw [Dev.stream, Dev.stream, distribute_streams]

@[simp] theorem distribute_get (f : Fld) : (d.distribute n blocks).get f = d.get f := by
  obtain ⟨_, _, _, h⟩ := distribute_sendsTo n blocks d
  rw [h]
  rfl

@[simp] theorem distribute_tb (k : Nat) : (d.distribute n blocks).tb k = d.tb k := tb_congr (distribute_sendsTo n blocks d).time_eq k

@[simp] theorem frame_distribute (l : List Nat) : (d.distribute n blocks).frame l = d.frame l := (distribute_sendsTo n blocks d).frame_eq l

@[simp] theorem distribute_inState (k : Nat) : (d.distribute n blocks).inState k = d.inState k := distribute_get ..
@[simp] theorem distribute_inHeight (k : Nat) : (d.distribute n blocks).inHeight k = d.inHeight k := distribute_get ..
@[simp] theorem distribute_inRung : (d.distribute n blocks).inRung = d.inRung := by rw [Dev.inRung, Dev.inRung, distribute_get]
@[simp] theorem distribute_fromLink (k : Nat) : (d.distribute n blocks).fromLink k = d.fromLink k := by
  rw [Dev.fromLink, Dev.fromLink, distribute_stream, distribute_inState]

end

/-- A block that stream `n` takes from its link completes with what it makes of the block that has passed it on. -/
theorem completes_blockIn {c : Instr} {s : State} {n : Nat} {blocks : List RBlock} {f : Dev → Dev} {e : Dev} {P : Dev → Prop}
    (hc : exec c s = s.on (Dev.blockIn n blocks f)) (hlive : s.live) (hlink : s.dev.fromLink n = true)
    (heff : f (s.dev.distribute n blocks) = e) (hP : P (settle e)) : Completes c s P := by
  refine completes_on hc hlive ?_
  rwa [Dev.blockIn, if_pos hlink, heff]

/-! ### A stream beyond its registers -/

section
variable (n : Nat) (d : Dev)

@[simp] theorem frame_onStream (l : List Nat) (f : StreamUnit → StreamUnit) : (d.onStream n f).frame l = d.frame l := by unfold Dev.onStream; rfl

@[simp] theorem length_onStream (f : StreamUnit → StreamUnit) : (d.onStream n f).streams.length = d.streams.length := List.length_modify ..

variable {n d}

theorem stream_onStream_same (h : n < d.streams.length) (f : StreamUnit → StreamUnit) : (d.onStream n f).stream n = f (d.stream n) :=
  nth_updAt_same _ _ _ _ h

theorem stream_congr {e : Dev} (h : e.streams = d.streams) : e.stream n = d.stream n := by rw [Dev.stream, Dev.stream, h]

end

/-! ### Counted failures (R149, R150, R168) -/

/-- INn_LAST_ERR names the cause of the last failure. -/
theorem get_lastErr_cause (n frame line : Nat) {cause : Nat} (h : cause < 16) (d : Dev) :
    (d.lastErr n cause frame line).get (INn_LAST_ERR_CAUSE n) = cause := by
  rw [Dev.lastErr, get_put_of_apart _ _ _ _ (by simp [INn_LAST_ERR_LINE, INn_LAST_ERR_CAUSE]) (by simp [INn_LAST_ERR_CAUSE]),
    get_put_of_apart _ _ _ _ (by simp [INn_LAST_ERR_FRAME, INn_LAST_ERR_CAUSE]) (by simp [INn_LAST_ERR_CAUSE]),
    get_put_same _ _ _ (by simp [INn_LAST_ERR_CAUSE])]
  exact Nat.mod_eq_of_lt h

theorem get_lastErr_other (n cause frame line : Nat) {f : Fld} (h : INn_LAST_ERR n ≠ f.addr) (d : Dev) :
    (d.lastErr n cause frame line).get f = d.get f := by
  rw [Dev.lastErr, get_put_of_ne _ _ _ _ h, get_put_of_ne _ _ _ _ h, get_put_of_ne _ _ _ _ h]

@[simp] theorem frame_lastErr (l : List Nat) {n : Nat} (h : INn_LAST_ERR n ∈ l) (cause frame line : Nat) (d : Dev) :
    (d.lastErr n cause frame line).frame l = d.frame l := by
  simp [Dev.lastErr, INn_LAST_ERR_CAUSE, INn_LAST_ERR_FRAME, INn_LAST_ERR_LINE, h]

@[simp] theorem lastErr_streams (n cause frame line : Nat) (d : Dev) : (d.lastErr n cause frame line).streams = d.streams := by
  simp [Dev.lastErr]

/-- A failure that counter `f` of stream `n` counts is in the counter and in INn_LAST_ERR. -/
theorem counted_lastErr {n cause : Nat} {f : Fld} (hf : f.lo + f.w ≤ 32) (hlow : 0x1000 ≤ f.addr) (hne : INn_LAST_ERR n ≠ f.addr)
    (hcause : cause < 16) (frame line : Nat) {d e : Dev} (hget : e.get f = d.get f) (hframe : e.frame [f.addr, INn_LAST_ERR n] = d.frame [f.addr, INn_LAST_ERR n]) :
    (settle ((e.inc f).lastErr n cause frame line)).get f = min (d.get f + 1) (2 ^ f.w - 1) ∧
    (settle ((e.inc f).lastErr n cause frame line)).get (INn_LAST_ERR_CAUSE n) = cause ∧
    keepsRegs [f.addr, INn_LAST_ERR n] d (settle ((e.inc f).lastErr n cause frame line)) ∧
    keepsMem d (settle ((e.inc f).lastErr n cause frame line)) := by
  refine ⟨?_, ?_, keeps_of_frame ?_⟩
  · rw [get_settle_of_le _ _ hlow, get_lastErr_other _ _ _ _ hne, get_inc_same _ _ hf, hget]
  · rw [get_settle_of_le _ _ (by simp [INn_LAST_ERR_CAUSE, INn_LAST_ERR]), get_lastErr_cause _ _ _ hcause]
  · rw [frame_settle, frame_lastErr _ (by simp), frame_inc _ _ _ (by simp), hframe]

/-! ### Marks of the camera and their shutter phases (R115, R147 to R149) -/

theorem phaseArrives_eq (n ph frame : Nat) (d : Dev) : ∃ f : SchedUnit → SchedUnit,
    d.phaseArrives n ph frame = (d.onSched f).onStream n (fun u => { u with phases := u.phases ++ [(frame % 65536, ph)] }) :=
  ⟨fun u => { u with shots := _ }, rfl⟩

section
variable (n ph frame : Nat) (d : Dev)

@[simp] theorem phaseArrives_get (f : Fld) : (d.phaseArrives n ph frame).get f = d.get f := by
  obtain ⟨_, h⟩ := phaseArrives_eq n ph frame d
  rw [h, onStream_get, onSched_get]

@[simp] theorem frame_phaseArrives (l : List Nat) : (d.phaseArrives n ph frame).frame l = d.frame l := by
  obtain ⟨_, h⟩ := phaseArrives_eq n ph frame d
  rw [h, frame_onStream, frame_onSched]

theorem stream_phaseArrives {n : Nat} {d : Dev} (h : n < d.streams.length) : (d.phaseArrives n ph frame).stream n =
    { d.stream n with phases := (d.stream n).phases ++ [(frame % 65536, ph)] } := stream_onStream_same h _

end

/-- With no line open, a mark breaks none (R150). -/
theorem breakLine_of_none {n : Nat} {d : Dev} (h : (d.stream n).line = none) : d.breakLine n = d := by rw [Dev.breakLine, h]

/-- The heads' end of idle is in their status registers. -/
theorem get_idleEnds_other (n : Nat) (before : List Nat) {f : Fld} (h : f.addr < 0x20000) (d : Dev) : (d.idleEnds n before).get f = d.get f := by
  unfold Dev.idleEnds
  split
  · rfl
  · refine foldS_congr (fun e => Dev.get e f) _ _ _ fun k _ e => ?_
    unfold Dev.idleEnd
    split
    · exact (onHead_get ..).trans (get_put_of_ne _ _ _ _ (by simp only [HDn_STATUS_IDLE, HDn_STATUS]; omega))
    · rfl

theorem get_settle_idleEnds (n : Nat) (before : List Nat) {f : Fld} (hlow : 0x1000 ≤ f.addr) (hhigh : f.addr < 0x20000) (d : Dev) :
    (settle (d.idleEnds n before)).get f = d.get f :=
  (get_settle_of_le _ _ hlow).trans (get_idleEnds_other n before hhigh d)

theorem idleEnds_of_done {n : Nat} {before : List Nat} {d : Dev} (h : (d.stream n).done = before) : d.idleEnds n before = d := if_pos h

/-! ### FRAME_START (R148, R149) -/

/-- A FRAME_START that opened a frame of stream `n` measures TB2 where the stream is its source of FRAME_MARKs (R89). -/
def Dev.startMeasured (n : Nat) (d : Dev) : Dev :=
  if d.get (TBn_CTRL_ARG 2) = n then d.measured 2 10 (alignedOffset (d.tb 2).total (d.get (TBn_CTRL_PERIOD 2))) else d

@[simp] theorem startMeasured_get (n : Nat) (d : Dev) (f : Fld) : (d.startMeasured n).get f = d.get f := by
  unfold Dev.startMeasured
  split
  · exact measured_get ..
  · rfl

/-- The heads that SEEK anew are in LLh_CTRL (R163). -/
theorem get_lockSeek_other (n : Nat) {f : Fld} (h : f.addr < 0x8400) (d : Dev) : (d.lockSeek n).get f = d.get f := by
  refine foldS_congr (fun e => Dev.get e f) _ _ _ fun k _ e => ?_
  split
  · exact get_put_of_ne _ _ _ _ (by simp only [LLh_CTRL_STATE, LLh_CTRL]; omega)
  · rfl

/-- An open frame: the stream is in FRAME, and INn_STATUS names the frame. -/
theorem get_openFrame {n : Nat} (hn : n < 4) (frame : Nat) (d : Dev) :
    (d.openFrame n frame).get (INn_STATUS_STATE n) = 2 ∧ (d.openFrame n frame).get (INn_STATUS_FRAME n) = frame % 65536 := by
  have hlow : INn_STATUS n < 0x8400 := by simp only [INn_STATUS]; omega
  have hpos : INn_POS n ≠ INn_STATUS n := by simp [INn_POS, INn_STATUS]
  unfold Dev.openFrame
  dsimp only
  constructor
  · rw [get_lockSeek_other n hlow, onStream_get, get_put_of_ne _ _ _ _ hpos, get_put_of_ne _ _ _ _ hpos,
      get_put_of_apart _ _ _ _ (by simp [INn_STATUS_FRAME, INn_STATUS_STATE]) (by simp [INn_STATUS_STATE]),
      get_put_same _ _ _ (by simp [INn_STATUS_STATE])]
    rfl
  · rw [get_lockSeek_other n hlow, onStream_get, get_put_of_ne _ _ _ _ hpos, get_put_of_ne _ _ _ _ hpos,
      get_put_same _ _ _ (by simp [INn_STATUS_FRAME])]
    rfl

/-- A FRAME_START outside a line and outside a frame opens its frame. -/
theorem frameStart_opens {n frame height : Nat} {d : Dev} (hline : (d.stream n).line = none) (hstate : d.inState n ≠ 2)
    (hheight : d.inHeight n = height) :
    d.frameStart n frame height true = ((d.openFrame n frame).phaseArrives n 0 frame).startMeasured n := by
  rw [Dev.frameStart, breakLine_of_none hline, hheight]
  simp only [Bool.not_true, bne_self_eq_false, Bool.or_self, Bool.false_eq_true, if_false, if_neg hstate]
  rfl

/-- A FRAME_START that fails outside a line is counted alone (R149). -/
theorem frameStart_fails {n frame height : Nat} {zeroOk : Bool} {d : Dev} (hline : (d.stream n).line = none)
    (hfail : zeroOk = false ∨ height ≠ d.inHeight n) : d.frameStart n frame height zeroOk = d.markErr n frame := by
  rw [Dev.frameStart, breakLine_of_none hline]
  exact if_pos (by simpa using hfail)

/-- Out of a rung, FRAME_START from the link acts, and a frame that it completes ends the idle of heads. -/
theorem frameStartRx_eq {n frame height : Nat} {zeroOk : Bool} {d : Dev} (hrung : d.inRung = false) (hlink : d.fromLink n = true) :
    frameStartRx n frame height zeroOk d = (d.frameStart n frame height zeroOk).idleEnds n (d.stream n).done := by
  rw [frameStartRx, hrung, if_neg Bool.false_ne_true, streamFrameStart, if_pos hlink]

theorem frameStartRx_opens {n frame height : Nat} {d : Dev} (hrung : d.inRung = false) (hlink : d.fromLink n = true)
    (hline : (d.stream n).line = none) (hstate : d.inState n ≠ 2) (hheight : d.inHeight n = height) :
    frameStartRx n frame height true d =
      (((d.openFrame n frame).phaseArrives n 0 frame).startMeasured n).idleEnds n (d.stream n).done := by
  rw [frameStartRx_eq hrung hlink, frameStart_opens hline hstate hheight]

theorem frameStartRx_fails {n frame height : Nat} {zeroOk : Bool} {d : Dev} (hrung : d.inRung = false) (hlink : d.fromLink n = true)
    (hline : (d.stream n).line = none) (hfail : zeroOk = false ∨ height ≠ d.inHeight n) :
    frameStartRx n frame height zeroOk d = d.markErr n frame := by
  rw [frameStartRx_eq hrung hlink, frameStart_fails hline hfail]
  exact idleEnds_of_done (by rw [Dev.markErr, stream_congr (lastErr_streams ..), stream_congr (inc_streams ..)])

theorem completes_streamFrameStart_opens (s : State) (n : Fin 4) (frame height : Fin 65536) (hlive : s.live) (hlink : s.dev.fromLink n = true)
    (hrung : s.dev.inRung = false) (hline : (s.dev.stream n).line = none) (hstate : s.dev.inState n ≠ 2)
    (hheight : s.dev.inHeight n = height.val) :
    Completes (.streamFrameStart n 0 0 frame height) s (fun e =>
      e = settle (((((s.dev.distribute n (frameMark 0 0 frame height)).openFrame n frame).phaseArrives n 0 frame).startMeasured n).idleEnds n
        (s.dev.stream n).done) ∧
      e.inState n = 2 ∧ e.get (INn_STATUS_FRAME n) = frame.val) := by
  obtain ⟨hopen, hframe⟩ := get_openFrame n.isLt frame (s.dev.distribute n (frameMark 0 0 frame height))
  have hget (before : List Nat) (f : Fld) (h : f.addr = INn_STATUS n) (d : Dev) :
      (settle (((d.phaseArrives n 0 frame).startMeasured n).idleEnds n before)).get f = d.get f := by
    rw [get_settle_idleEnds _ _ (by simp [h, INn_STATUS]) (by rw [h, INn_STATUS]; omega), startMeasured_get, phaseArrives_get]
  refine completes_blockIn rfl hlive hlink (frameStartRx_opens (by simpa using hrung) (by simpa using hlink) (by simpa using hline)
    (by simpa using hstate) (by simpa using hheight)) ⟨by rw [distribute_stream]; rfl, (hget _ _ rfl _).trans hopen, ?_⟩
  exact (hget _ _ rfl _).trans (hframe.trans (Nat.mod_eq_of_lt frame.isLt))

theorem completes_streamFrameStart_fails (s : State) (n : Fin 4) (kind : Fin 13) (mbz : Fin 1048576) (frame height : Fin 65536) (hlive : s.live)
    (hlink : s.dev.fromLink n = true) (hrung : s.dev.inRung = false) (hline : (s.dev.stream n).line = none)
    (hfail : kind ≠ 0 ∨ mbz ≠ 0 ∨ s.dev.inHeight n ≠ height.val) :
    Completes (.streamFrameStart n kind mbz frame height) s (fun e =>
      e.get (INn_MARK_ERR_COUNT_V n) = min (s.dev.get (INn_MARK_ERR_COUNT_V n) + 1) (2 ^ 32 - 1) ∧ e.get (INn_LAST_ERR_CAUSE n) = 5 ∧
      keepsRegs [INn_MARK_ERR_COUNT n, INn_LAST_ERR n] s.dev e ∧ keepsMem s.dev e) := by
  have hbad : (kind.val == 0 && mbz.val == 0) = false ∨ height.val ≠ s.dev.inHeight n := by
    rcases hfail with h | h | h
    · exact .inl (by simp [Fin.val_ne_zero_iff.2 h])
    · exact .inl (by simp [Fin.val_ne_zero_iff.2 h])
    · exact .inr h.symm
  refine completes_blockIn rfl hlive hlink (frameStartRx_fails (by simpa using hrung) (by simpa using hlink) (by simpa using hline)
    (by simpa using hbad)) ?_
  exact counted_lastErr (by simp [INn_MARK_ERR_COUNT_V]) (by simp [INn_MARK_ERR_COUNT_V, INn_MARK_ERR_COUNT])
    (by simp [INn_MARK_ERR_COUNT_V, INn_MARK_ERR_COUNT, INn_LAST_ERR]) (by decide) _ _ (distribute_get ..) (frame_distribute ..)

/-! ### FRAME_END (R148, R149) -/

/-- The FRAME_END of the open frame completes it. -/
theorem frameEnd_completes {n frame : Nat} {d : Dev} (hline : (d.stream n).line = none) (hstate : d.inState n = 2)
    (hframe : d.get (INn_STATUS_FRAME n) = frame) :
    d.frameEnd n frame true = ((d.completeFrame n).put (INn_STATUS_STATE n) 3).phaseArrives n 1 frame := by
  rw [Dev.frameEnd, breakLine_of_none hline]
  exact if_neg (by simp [hstate, hframe])

theorem frameEndRx_completes {n frame : Nat} {d : Dev} (hlink : d.fromLink n = true) (hline : (d.stream n).line = none) (hstate : d.inState n = 2)
    (hframe : d.get (INn_STATUS_FRAME n) = frame) :
    frameEndRx n frame true d = (((d.completeFrame n).put (INn_STATUS_STATE n) 3).phaseArrives n 1 frame).idleEnds n (d.stream n).done := by
  rw [frameEndRx, streamFrameEnd, if_pos hlink, frameEnd_completes hline hstate hframe]

theorem completes_streamFrameEnd (s : State) (n : Fin 4) (frame : Fin 65536) (hlive : s.live) (hlink : s.dev.fromLink n = true)
    (hline : (s.dev.stream n).line = none) (hstate : s.dev.inState n = 2) (hframe : s.dev.get (INn_STATUS_FRAME n) = frame.val) :
    Completes (.streamFrameEnd n 0 0 frame) s (fun e =>
      e = settle (((((s.dev.distribute n (frameMark 1 0 frame 0)).completeFrame n).put (INn_STATUS_STATE n) 3).phaseArrives n 1 frame).idleEnds n
        (s.dev.stream n).done) ∧ e.inState n = 3) := by
  refine completes_blockIn rfl hlive hlink (frameEndRx_completes (by simpa using hlink) (by simpa using hline) (by simpa using hstate)
    (by simpa using hframe)) ⟨by rw [distribute_stream]; rfl, ?_⟩
  rw [Dev.inState, get_settle_idleEnds _ _ (by simp [INn_STATUS_STATE, INn_STATUS]) (by simp only [INn_STATUS_STATE, INn_STATUS]; omega),
    phaseArrives_get, get_put_same _ _ _ (by simp [INn_STATUS_STATE])]
  rfl

/-! ### Exposures (R147) -/

theorem streamExposureStart_eq {n frame : Nat} {d : Dev} (hlink : d.fromLink n = true) :
    streamExposureStart n frame true d = d.exposureStart n frame := by
  simp [streamExposureStart, hlink]

theorem completes_streamExposureStart (s : State) (n : Fin 4) (frame : Fin 65536) (hlive : s.live) (hlink : s.dev.fromLink n = true)
    (hn : n.val < s.dev.streams.length) :
    Completes (.streamExposureStart n 0 0 frame) s (fun e =>
      (e.stream n).exposure = some (frame.val, (s.dev.tb 0).total) ∧ keepsRegs [] s.dev e ∧ keepsMem s.dev e) := by
  refine completes_blockIn rfl hlive hlink (streamExposureStart_eq (by simpa using hlink)) ⟨?_, keeps_of_frame (by simp [Dev.exposureStart])⟩
  rw [stream_congr (settle_streams _), Dev.exposureStart, stream_phaseArrives _ _ (by simpa using hn), stream_onStream_same (by simpa using hn),
    distribute_tb]

/-- The EXPOSURE_END of the frame whose EXPOSURE_START came at `t` measures the exposure. -/
theorem streamExposureEnd_eq {n frame t : Nat} {d : Dev} (hlink : d.fromLink n = true) (hstart : (d.stream n).exposure = some (frame, t)) :
    streamExposureEnd n frame true d =
      (d.phaseArrives n 3 frame).put (INn_EXPOSURE_NS_V n) (((d.tb 0).total + 2 ^ 32 - t % 2 ^ 32) % 2 ^ 32) := by
  simp [streamExposureEnd, Dev.exposureEnd, hlink, hstart]

theorem completes_streamExposureEnd (s : State) (n : Fin 4) (frame : Fin 65536) (t : Nat) (hlive : s.live) (hlink : s.dev.fromLink n = true)
    (hn : n.val < s.dev.streams.length) (hstart : (s.dev.stream n).exposure = some (frame.val, t)) :
    Completes (.streamExposureEnd n 0 0 frame) s (fun e =>
      e.get (INn_EXPOSURE_NS_V n) = ((s.dev.tb 0).total + 2 ^ 32 - t % 2 ^ 32) % 2 ^ 32 ∧
      (e.stream n).phases = (s.dev.stream n).phases ++ [(frame.val, 3)] ∧ keepsRegs [INn_EXPOSURE_NS n] s.dev e ∧ keepsMem s.dev e) := by
  refine completes_blockIn rfl hlive hlink (streamExposureEnd_eq (by simpa using hlink) (by simpa using hstart))
    ⟨?_, ?_, keeps_of_frame (by simp [INn_EXPOSURE_NS_V])⟩
  · rw [get_settle_of_le _ _ (by simp [INn_EXPOSURE_NS_V, INn_EXPOSURE_NS]), get_put_same _ _ _ (by simp [INn_EXPOSURE_NS_V]), distribute_tb]
    exact Nat.mod_mod _ _
  · rw [stream_congr (settle_streams _), stream_congr (put_streams ..), stream_phaseArrives _ _ (by simpa using hn), distribute_stream,
      Nat.mod_eq_of_lt frame.isLt]

/-! ### The statement -/

/-- Settles O20: passing a mark on changes only what is sent, so that the stream judges it as it was found; an accepted FRAME_START or
FRAME_END writes the state after the frame before it has completed. -/
theorem streamFrames : Obligations.StreamFrames :=
  ⟨fun _ _ _ _ _ _ hs => completes_on rfl hs rfl, fun _ _ _ _ _ hs => completes_on rfl hs rfl, fun _ _ _ _ _ hs => completes_on rfl hs rfl,
    fun _ _ _ _ _ hs => completes_on rfl hs rfl, completes_streamFrameStart_opens, completes_streamFrameEnd, completes_streamExposureStart,
    completes_streamExposureEnd, fun s n kind mbz frame height hlive hlink hrung hline hfail _ =>
      completes_streamFrameStart_fails s n kind mbz frame height hlive hlink hrung hline hfail⟩

end Sys2Proof.Machine
end

section
/-! SUPPORT. The lines of an input stream (R150). -/
namespace Sys2Proof.Machine

/-! ### LINE_START -/

/-- A LINE_START outside a line opens its line, in a frame or not, with a free buffer or not. -/
theorem streamLineStart_opens {n format frame line width : Nat} {zeroOk : Bool} {d : Dev} (hlink : d.fromLink n = true)
    (hline : (d.stream n).line = none) : streamLineStart n format frame line width zeroOk d = d.onStream n (fun u => { u with
      line := some { format := format, frame := frame, line := line, width := width, zeroOk := zeroOk, bytes := [],
                     outside := !decide (d.inState n = 2), overrun := decide (2 ≤ u.draining) },
      firstStart := if u.starts = 0 then d.now256 else u.firstStart, lastStart := d.now256,
      starts := if decide (d.inState n = 2) then u.starts + 1 else u.starts }) := by
  rw [streamLineStart, if_pos hlink, Dev.lineStart, breakLine_of_none hline]

theorem completes_streamLineStart (s : State) (n : Fin 4) (f : Fin 16) (frame y w : Fin 65536) (hlive : s.live) (hlink : s.dev.fromLink n = true)
    (hn : n.val < s.dev.streams.length) (hline : (s.dev.stream n).line = none) :
    Completes (.streamLineStart n f 0 frame y w) s (fun e =>
      (e.stream n).line = some { format := f, frame := frame, line := y, width := w, zeroOk := true, bytes := [],
                                 outside := !decide (s.dev.inState n = 2), overrun := decide (2 ≤ (s.dev.stream n).draining) } ∧
      keepsRegs [] s.dev e ∧ keepsMem s.dev e) := by
  refine completes_blockIn rfl hlive hlink (streamLineStart_opens (by simpa using hlink) (by simpa using hline)) ⟨?_, keeps_of_frame (by simp)⟩
  rw [stream_congr (settle_streams _), stream_onStream_same (by simpa using hn), distribute_stream, distribute_inState]
  rfl

/-! ### Data blocks -/

/-- A data block inside a line joins it. -/
theorem streamDataBlock_joins {n : Nat} {payload : List Byte} {l : OpenLine} {d : Dev} (hlink : d.fromLink n = true)
    (hline : (d.stream n).line = some l) :
    streamDataBlock n payload d = d.onStream n (fun u => { u with line := some { l with bytes := l.bytes ++ payload } }) := by
  simp [streamDataBlock, hlink, hline]

/-- A data block outside a line is counted alone. -/
theorem streamDataBlock_fails {n : Nat} {payload : List Byte} {d : Dev} (hlink : d.fromLink n = true) (hline : (d.stream n).line = none) :
    streamDataBlock n payload d = (d.inc (INn_LEN_ERR_COUNT_V n)).lastErr n 2 (d.get (INn_STATUS_FRAME n)) 0 := by
  simp [streamDataBlock, hlink, hline]

theorem completes_streamDataBlock_joins (s : State) (n : Fin 4) (p : BitVec 64) (l : OpenLine) (hlive : s.live) (hlink : s.dev.fromLink n = true)
    (hn : n.val < s.dev.streams.length) (hline : (s.dev.stream n).line = some l) :
    Completes (.streamDataBlock n p) s (fun e =>
      (e.stream n).line = some { l with bytes := l.bytes ++ leBytes 8 p.toNat } ∧ keepsRegs [] s.dev e ∧ keepsMem s.dev e) := by
  refine completes_blockIn rfl hlive hlink (streamDataBlock_joins (by simpa using hlink) (by simpa using hline)) ⟨?_, keeps_of_frame (by simp)⟩
  rw [stream_congr (settle_streams _), stream_onStream_same (by simpa using hn)]

theorem completes_streamDataBlock_fails (s : State) (n : Fin 4) (p : BitVec 64) (hlive : s.live) (hlink : s.dev.fromLink n = true)
    (hline : (s.dev.stream n).line = none) :
    Completes (.streamDataBlock n p) s (fun e =>
      e.get (INn_LEN_ERR_COUNT_V n) = min (s.dev.get (INn_LEN_ERR_COUNT_V n) + 1) (2 ^ 32 - 1) ∧ e.get (INn_LAST_ERR_CAUSE n) = 2 ∧
      keepsRegs [INn_LEN_ERR_COUNT n, INn_LAST_ERR n] s.dev e ∧ keepsMem s.dev e) := by
  refine completes_blockIn rfl hlive hlink (streamDataBlock_fails (by simpa using hlink) (by simpa using hline)) ?_
  exact counted_lastErr (by simp [INn_LEN_ERR_COUNT_V]) (by simp [INn_LEN_ERR_COUNT_V, INn_LEN_ERR_COUNT])
    (by simp [INn_LEN_ERR_COUNT_V, INn_LEN_ERR_COUNT, INn_LAST_ERR]) (by decide) _ _ (distribute_get ..) (frame_distribute ..)

/-! ### LINE_END -/

/-- Line `l` passes checks 1 to 3 of R150 and the data block count of check 4, and took a free buffer (check 6). -/
def Dev.lineFits (d : Dev) (n : Nat) (l : OpenLine) : Prop :=
  l.outside = false ∧ l.frame = d.get (INn_STATUS_FRAME n) ∧ d.posLine n < l.line ∧ l.line < d.inHeight n ∧ l.format = d.inFormat n ∧
    l.zeroOk = true ∧ l.width = d.inWidth n ∧ l.bytes.length = 8 * lineBlocks l.width l.format ∧ l.overrun = false

/-- The checks read registers alone. -/
theorem lineFits_congr {d e : Dev} (h : ∀ f, e.get f = d.get f) (n : Nat) (l : OpenLine) : e.lineFits n l ↔ d.lineFits n l := by
  simp only [Dev.lineFits, Dev.posLine, Dev.inHeight, Dev.inFormat, Dev.inWidth, h]

/-- A line that passes every check is accepted when it ends (R150). -/
theorem endLine_accepts {n : Nat} {l : OpenLine} {d : Dev} (h : d.lineFits n l) :
    d.endLine n l true true = (d.onStream n (fun u => { u with line := none })).acceptLine n l.line l.bytes := by
  obtain ⟨hin, hframe, hpos, hline, hformat, hzero, hwidth, hlen, hfree⟩ :=
    (lineFits_congr (e := d.onStream n (fun u => { u with line := none })) (fun f => onStream_get ..) n l).2 h
  unfold Dev.endLine
  dsimp only
  rw [if_neg (by simp [hin]), if_neg (by simp [hframe, hpos, hline]), if_neg (by simp [hformat, hzero]), if_neg (by simp [hwidth]),
    if_neg (by simp [hlen]), if_neg (by simp), if_neg (by simp [hfree])]

theorem streamLineEnd_accepts {n crc y : Nat} {l : OpenLine} {d : Dev} (hlink : d.fromLink n = true) (hline : (d.stream n).line = some l)
    (hfits : d.lineFits n l) (hy : y = l.line) (hcrc : crc = crc16 (l.head ++ l.bytes)) :
    streamLineEnd n crc y true d = (d.onStream n (fun u => { u with line := none })).acceptLine n l.line l.bytes := by
  rw [← endLine_accepts hfits]
  simp [streamLineEnd, hlink, hline, hy, hcrc]

theorem completes_streamLineEnd (s : State) (n : Fin 4) (crc y : Fin 65536) (l : OpenLine) (hlive : s.live) (hlink : s.dev.fromLink n = true)
    (hline : (s.dev.stream n).line = some l) (hfits : s.dev.lineFits n l) (hy : y.val = l.line) (hcrc : crc.val = crc16 (l.head ++ l.bytes)) :
    Completes (.streamLineEnd n 0 crc y) s (fun e =>
      e = settle (((s.dev.distribute n (ctrlBlock [(1, 0x55), (1, 0), (2, crc), (2, y), (2, 0)])).onStream n
        (fun u => { u with line := none })).acceptLine n l.line l.bytes)) :=
  completes_blockIn rfl hlive hlink (streamLineEnd_accepts (by simpa using hlink) (by simpa using hline)
    ((lineFits_congr (distribute_get n _ s.dev) n l).2 hfits) hy hcrc) rfl

/-! ### The statement -/

/-- Settles O21: passing a block on changes only what is sent, so that the stream judges the line as it was found, and a line that fits
falls through every check of R150 to its acceptance. -/
theorem streamLines : Obligations.StreamLines :=
  ⟨fun _ _ _ _ _ _ _ hs => completes_on rfl hs rfl, fun _ _ _ hs => completes_on rfl hs rfl, fun _ _ _ _ _ hs => completes_on rfl hs rfl,
    completes_streamLineStart, completes_streamDataBlock_joins, completes_streamDataBlock_fails,
    fun s n crc y l hlive hlink _ hline hin hframe hpos hbelow hformat hzero hwidth hy hlen hcrc hfree =>
      completes_streamLineEnd s n crc y l hlive hlink hline ⟨hin, hframe, hpos, hbelow, hformat, hzero, hwidth, hlen, hfree⟩ hy hcrc⟩

end Sys2Proof.Machine
end

section
/-! SUPPORT. Two statements of the pixel input that a concrete block refutes: the frame timer's record in the event ring (R89, R148), and
the frame start of a head that has followed a line lock (R163). -/
namespace Sys2Proof.Machine

/-! ### A frame timer whose expiry posts an event record -/

/-- READY, with stream 1 in FRAME. TB0 is LOCKED to the stream's frame starts (R89), and the loss of its reference is an enabled event that
goes into the event ring (R132, R402). -/
def lostFrames : Dev :=
  (((((((rdy.put (INn_CTRL_ENABLE 1) 1).put (INn_STATUS_STATE 1) 2).put (TBn_CTRL_SOURCE 0) 10).put (TBn_CTRL_ARG 0) 1).put
    (TBn_STATUS_STATE 0) 2).setWord TIME_EVT_ENABLE (2 ^ 4)).put EVT_CLASS_ENABLE_V (2 ^ clsTime)).put EVT_CTRL_ENABLE 1

theorem lostFrames_fits : lostFrames.halted = false ∧ 1 ≤ lostFrames.inState 1 ∧ lostFrames.inState 1 ≤ 3 ∧ lostFrames.inRung = false := by
  decide +kernel

/-- The record of the lost reference is stored in bank 0 of the scratchpad. -/
theorem lostFrames_recordStored :
    (settle (streamFrameTimeout 1 false lostFrames)).byteAt 0x4000000004 ≠ lostFrames.byteAt 0x4000000004 := by decide +kernel

/-- Refutes O19: the clause of the frame timer says that device memory is kept. Where a time base takes its reference from the stream, the
expiry is also the loss of that reference (R89, R93); its event, where it is enabled, is a record in the event ring, and so it is in
`lostFrames`. -/
theorem not_streamControl : ¬ Obligations.StreamControl := by
  unfold Obligations.StreamControl
  rintro ⟨-, -, -, -, -, -, -, -, htimeout, -⟩
  obtain ⟨hlive, hlow, hhigh, hrung⟩ := lostFrames_fits
  obtain ⟨-, -, -, hmem⟩ := (htimeout { pending := [], dev := lostFrames } 1 false hlive hlow hhigh (.inr hrung) (.inl rfl)).effect rfl hlive
  exact lostFrames_recordStored (hmem 0x4000000004)

/-! ### A head that has followed a line lock -/

/-- READY with raster head 0 in SCAN, due to start a frame. Its last frame followed a line lock, and its source is neither a stream nor the
queue: R48 gives a head no such source, but the clause asks for one. -/
def formerlyLocked : Dev :=
  ((rdy.put (TACK_HEADn_PRESENT 0) 1).put (HDn_STATUS_STATE 0) 1).onHead 0
    (fun u => { u with started := true, frameLines := 1, lockOn := true, sect := { u.sect with source := 17 } })

theorem formerlyLocked_fits : formerlyLocked.halted = false ∧ formerlyLocked.mayStartFrame 0 = true ∧ formerlyLocked.headState 0 = 1 ∧
    (formerlyLocked.head 0).started = true ∧ 4 ≤ (formerlyLocked.head 0).sect.source ∧ (formerlyLocked.head 0).sect.source ≠ 16 ∧
    formerlyLocked.appB (HDn_FLOCK_CTRL_ENABLE 0) = false ∧ 0 < formerlyLocked.heads.length := by decide +kernel

/-- The frame that starts does not follow the lock. -/
theorem formerlyLocked_started_free : ((settle (headFrameStart 0 formerlyLocked)).head 0).lockOn = false := by decide +kernel

/-- Refutes O24: the clause of a frame start writes out the next block and leaves `lockOn` in it as it was. A frame start of a head in SCAN
that does not scan its queue settles anew whether the frame follows the line lock (R163), so in `formerlyLocked` it is cleared. -/
theorem not_headScan : ¬ Obligations.HeadScan := by
  unfold Obligations.HeadScan
  rintro ⟨-, -, -, -, -, hstart, -⟩
  obtain ⟨hlive, hmay, hstate, hstarted, hstream, hqueue, hflock, hlen⟩ := formerlyLocked_fits
  obtain ⟨hblock, -⟩ := (hstart { pending := [], dev := formerlyLocked } 0 hlive hmay hstate hstarted hstream hqueue hflock hlen).effect rfl hlive
  have hkept := congrArg (fun e => (Dev.head e 0).lockOn) hblock
  exact absurd (formerlyLocked_started_free.symm.trans hkept) (by decide +kernel)

end Sys2Proof.Machine
end

section
/-! SUPPORT. The temperature bands and the overdrive tables (R214, R215, R224 to R227). -/
namespace Sys2Proof.Machine

/-! ### The fabric of a head -/

section
variable (h : Nat) (f : FabricUnit → FabricUnit) (d : Dev)

@[simp] theorem onFab_get (g : Fld) : (d.onFab h f).get g = d.get g := onHead_get ..
@[simp] theorem onFab_byteAt (a : Nat) : (d.onFab h f).byteAt a = d.byteAt a := onHead_byteAt ..
@[simp] theorem onFab_appB (g : Fld) : (d.onFab h f).appB g = d.appB g := by simp [Dev.appB, Dev.app, Dev.onFab]

theorem fab_onFab (k : Nat) : (d.onFab h f).fab k = if h = k ∧ k < d.heads.length then f (d.fab k) else d.fab k := by
  simp only [Dev.fab, Dev.head, Dev.onFab, Dev.onHead, nth_updAt]
  split <;> rfl

theorem has_onFab (k kind : Nat) : (d.onFab h f).has k kind = d.has k kind := by
  have hsect : ((d.onFab h f).head k).sect = (d.head k).sect := nth_updAt_congr HeadUnit.sect _ _ _ (fun u => { u with fab := f u.fab }) (fun _ => rfl) k
  rw [Dev.has, Dev.has, Dev.stage, Dev.stage, Dev.chain, Dev.chain, hsect]

end

theorem fab_congr {d e : Dev} (h : e.heads = d.heads) (k : Nat) : e.fab k = d.fab k := by rw [Dev.fab, Dev.fab, Dev.head, Dev.head, h]

theorem has_congr {d e : Dev} (h : e.heads = d.heads) (k kind : Nat) : e.has k kind = d.has k kind := by
  rw [Dev.has, Dev.has, Dev.stage, Dev.stage, Dev.chain, Dev.chain, Dev.head, Dev.head, h]

@[simp] theorem put_fab (d : Dev) (f : Fld) (x k : Nat) : (d.put f x).fab k = d.fab k := fab_congr (put_heads ..) k

@[simp] theorem settle_fab (d : Dev) (k : Nat) : (settle d).fab k = d.fab k := fab_congr (settle_heads d) k

/-- The fabric of a head that the block does not hold. -/
theorem fab_of_length_le {d : Dev} {k : Nat} (h : d.heads.length ≤ k) : d.fab k = {} := by
  rw [Dev.fab, Dev.head, nth, List.getD_eq_default _ _ h]

/-- An update that clears the build of head `h` leaves head `k` without one, if that is head `h` or had none. -/
theorem fab_onFab_odBuild_none (h : Nat) {f : FabricUnit → FabricUnit} (hf : ∀ u, (f u).odBuild = none) {d : Dev} {k : Nat}
    (hk : h = k ∨ (d.fab k).odBuild = none) : ((d.onFab h f).fab k).odBuild = none := by
  rw [fab_onFab]
  split
  · exact hf _
  · next hout =>
    refine hk.elim (fun e => ?_) id
    rw [fab_of_length_le (Nat.le_of_not_lt fun hlt => hout ⟨e, hlt⟩)]

/-- The least number that passes is the one found. -/
theorem find?_range_of_least {n i : Nat} {p : Nat → Bool} (hi : i < n) (hp : p i = true) (hlow : ∀ j < i, p j = false) :
    (List.range n).find? p = some i :=
  List.find?_range_eq_some.2 ⟨hp, List.mem_range.2 hi, fun j hj => by rw [hlow j hj]; rfl⟩

theorem sgn_unsgn (w v : Nat) : sgn w (unsgn w (sgn w v)) = sgn w v := by
  have hpos : 0 < 2 ^ w := Nat.pow_pos (by decide)
  have hcode : unsgn w (sgn w v) = v % 2 ^ w := by
    have hlt : v % 2 ^ w < 2 ^ w := Nat.mod_lt _ hpos
    generalize hm : 2 ^ w = m at *
    generalize hr : v % m = r at *
    unfold unsgn sgn
    rw [hm, hr]
    split
    · rw [Int.emod_eq_of_lt (by omega) (by omega)]; omega
    · rw [← Int.add_emod_right, Int.sub_add_cancel, Int.emod_eq_of_lt (by omega) (by omega)]; omega
  rw [hcode]
  simp [sgn]

/-- What a signed field reads after the value of another of the same width is put into it. -/
theorem getI_putI_getI {f g : Fld} (hf : f.lo + f.w ≤ 32) (hw : f.w = g.w) (d e : Dev) : (d.putI f (e.getI g)).getI f = e.getI g := by
  rw [Dev.getI, get_putI_same _ _ _ hf, Dev.getI, hw, sgn_unsgn]

/-! ### Builds brought up to date (R227) -/

/-- Does head `h` build a table that it does not need? -/
def Dev.odOutdated (d : Dev) (h : Nat) : Bool := (d.fab h).odBuild.any (fun b => d.odNeed h != some b.2)

/-- The build of head `h` is abandoned. -/
def Dev.odDrop (h : Nat) (d : Dev) : Dev :=
  ((d.onFab h (fun u => { u with odBuild := none })).put (STh_OD_STATUS_BUILDING h) (b2n (d.fab h).odCopy)).put FAB_CORR_BUILD_BUSY 0

/-- Every outdated build is abandoned. -/
def Dev.odDropOutdated (d : Dev) : Dev := foldS (List.range 8) (fun h s => if s.odOutdated h then s.odDrop h else s) d

/-- The heads that wait for their build, a bit each. -/
def Dev.odWaiting (d : Dev) : Nat :=
  (List.range 8).foldl (fun a h => if (d.odNeed h).isSome ∧ (d.fab h).odBuild.isNone then a + 2 ^ h else a) 0

theorem odSync_eq (d : Dev) : d.odSync = d.odDropOutdated.put FAB_CORR_BUILD_PENDING d.odDropOutdated.odWaiting := by
  have hstep : (fun h (s : Dev) => if s.odOutdated h then s.odDrop h else s) = fun h s => match (s.fab h).odBuild with
      | some (_, band, gen) => if s.odNeed h = some (band, gen) then s else s.odDrop h
      | none => s := by
    funext h s
    unfold Dev.odOutdated
    cases (s.fab h).odBuild with
    | none => simp
    | some b => simp
  rw [Dev.odDropOutdated, hstep]
  rfl

/-- What neither an abandoned build nor PENDING changes is as before. -/
theorem odSync_congr {α : Type} (g : Dev → α) (hdrop : ∀ h < 8, ∀ d : Dev, g (d.odDrop h) = g d)
    (hput : ∀ (d : Dev) x, g (d.put FAB_CORR_BUILD_PENDING x) = g d) (d : Dev) : g d.odSync = g d := by
  rw [odSync_eq, hput]
  refine foldS_congr g _ _ _ fun h hh s => ?_
  split
  · exact hdrop h (List.mem_range.1 hh) s
  · rfl

/-- Where every build is needed, PENDING alone is brought up to date. -/
theorem odSync_of_needed {d : Dev} (h : ∀ k < 8, d.odOutdated k = false) : d.odSync = d.put FAB_CORR_BUILD_PENDING d.odWaiting := by
  have hsame : d.odDropOutdated = d := by
    refine List.foldlRecOn (motive := (· = d)) _ _ rfl fun s hs k hk => ?_
    rw [hs]
    exact if_neg (by rw [h k (List.mem_range.1 hk)]; exact Bool.false_ne_true)
  rw [odSync_eq, hsame]

/-- Of the registers, BUILDING of the heads and FAB_CORR_BUILD show the builds. -/
theorem get_odSync_other {f : Fld} (haddr : f.addr ≠ FAB_CORR_BUILD)
    (hbits : (∀ h < 8, f.addr ≠ STh_OD_STATUS h) ∨ f.lo + f.w ≤ 26 ∨ 27 ≤ f.lo) (hf : f.lo + f.w ≤ 32) (d : Dev) :
    d.odSync.get f = d.get f := by
  refine odSync_congr (fun e => e.get f) (fun h hh e => ?_) (fun e x => get_put_of_ne _ _ _ _ haddr.symm) d
  have hapart : STh_OD_STATUS h ≠ f.addr ∨ 27 ≤ f.lo ∨ f.lo + f.w ≤ 26 := by
    rcases hbits with h' | h' | h'
    · exact .inl (h' h hh).symm
    · exact .inr (.inr h')
    · exact .inr (.inl h')
  exact (get_put_of_ne _ _ _ _ haddr.symm).trans ((get_put_other _ _ _ _ hapart hf).trans (onFab_get ..))

@[simp] theorem odSync_byteAt (d : Dev) (a : Nat) : d.odSync.byteAt a = d.byteAt a :=
  odSync_congr (fun e => e.byteAt a) (fun _ _ _ => by simp [Dev.odDrop]) (fun _ _ => put_byteAt ..) d

/-- Bringing the builds up to date starts none. -/
theorem odSync_odBuild_none {d : Dev} {k : Nat} (h : (d.fab k).odBuild = none) : (d.odSync.fab k).odBuild = none := by
  rw [odSync_eq, put_fab]
  refine List.foldlRecOn (motive := fun s : Dev => (s.fab k).odBuild = none) _ _ h fun s hs j _ => ?_
  dsimp only
  split
  · rw [Dev.odDrop, put_fab, put_fab]
    exact fab_onFab_odBuild_none j (fun _ => rfl) (.inr hs)
  · exact hs

/-! ### The need of a head (R227) -/

theorem odNeed_eq_some_iff (d : Dev) (h : Nat) (t : Nat × Nat) : d.odNeed h = some t ↔
    (d.get (BANDh_STATUS_TRACKER h), d.get (STh_OD_STATUS_GEN h)) = t ∧ d.isRaster h = true ∧ d.has h 9 = true ∧
      (d.fab h).anchors ≠ [] ∧ some t ∉ (d.fab h).odTags := by
  simp only [Dev.odNeed, Option.ite_none_right_eq_some, Bool.and_eq_true, Option.some.injEq]
  constructor
  · rintro ⟨⟨⟨⟨hraster, hhas⟩, hanchors⟩, htags⟩, rfl⟩
    exact ⟨rfl, hraster, hhas, by simpa using hanchors, by simpa using htags⟩
  · rintro ⟨rfl, hraster, hhas, hanchors, htags⟩
    exact ⟨⟨⟨⟨hraster, hhas⟩, by simpa using hanchors⟩, by simpa using htags⟩, rfl⟩

/-- A head with a need is one that the block holds. -/
theorem lt_length_of_odNeed {d : Dev} {h : Nat} {t : Nat × Nat} (hneed : d.odNeed h = some t) : h < d.heads.length := by
  obtain ⟨-, -, -, hanchors, -⟩ := (odNeed_eq_some_iff d h t).1 hneed
  exact Nat.lt_of_not_le fun hlen => hanchors (by rw [fab_of_length_le hlen])

/-! ### A reading of the band (R214, R215) -/

/-- A temperature source of 8 or more is a sensor of the die. -/
theorem bandSource_internal {d : Dev} {h src : Nat} (hsrc : (d.head h).sect.tempSource = src) (hlow : 8 ≤ src) :
    d.bandSource h = (src, false, if d.flag (TSk_TEMP_VALID (src - 8)) then some (d.getI (TSk_TEMP_TEMP (src - 8))) else none) := by
  rw [Dev.bandSource, hsrc]
  exact if_pos hlow

/-- The registers name sensor `src` as the source, which is no fallback. -/
def Dev.bandNamed (h src : Nat) (d : Dev) : Dev := (d.put (BANDh_STATUS_SOURCE h) src).putB (BANDh_STATUS_FALLBACK h) false

/-- They show its reading `t`. -/
def Dev.bandShown (h src : Nat) (t : Int) (d : Dev) : Dev := ((d.bandNamed h src).put (BANDh_TEMP_VALID h) 1).putI (BANDh_TEMP_TEMP h) t

theorem bandReading_invalid {d : Dev} {h src : Nat} (hhead : d.headPresent h = true) (hmode : 3 ≤ d.mode)
    (hsource : d.bandSource h = (src, false, none)) : bandReading h d = (d.bandNamed h src).put (BANDh_TEMP_VALID h) 0 := by
  rw [bandReading, hhead, hsource]
  exact if_neg (by simpa using hmode)

theorem bandReading_forced {d : Dev} {h src : Nat} {t : Int} (hhead : d.headPresent h = true) (hmode : 3 ≤ d.mode)
    (hsource : d.bandSource h = (src, false, some t)) (hforce : d.appB (BANDh_CTRL_FORCE h) = true) :
    bandReading h d = ((d.bandShown h src t).onFab h (fun u => { u with bandRead := true })).odSync := by
  have hstay : ((d.bandShown h src t).onFab h (fun u => { u with bandRead := true })).appB (BANDh_CTRL_FORCE h) = true := by
    rw [onFab_appB, ← hforce]
    simp [Dev.bandShown, Dev.bandNamed, Dev.appB, Dev.app]
  rw [bandReading, hhead, hsource]
  refine (if_neg (by simpa using hmode)).trans ?_
  exact congrArg Dev.odSync (if_pos hstay)

section
variable (h src : Nat) (t : Int) (d : Dev)

theorem bandNamed_source (hsrc : src < 16) : (d.bandNamed h src).get (BANDh_STATUS_SOURCE h) = src := by
  rw [Dev.bandNamed, Dev.putB, get_put_of_apart, get_put_same]
  · exact Nat.mod_eq_of_lt hsrc
  all_goals simp [BANDh_STATUS_SOURCE, BANDh_STATUS_FALLBACK]

theorem bandNamed_fallback : (d.bandNamed h src).flag (BANDh_STATUS_FALLBACK h) = false :=
  flag_putB_same _ _ _ (by simp [BANDh_STATUS_FALLBACK]) (by simp [BANDh_STATUS_FALLBACK])

/-- The temperature stands in a register of its own. -/
theorem get_put_bandTemp {f g : Fld} (hf : f.addr = BANDh_TEMP h) (hg : g.addr = BANDh_STATUS h) (x : Nat) : (d.put f x).get g = d.get g :=
  get_put_of_ne _ _ _ _ (by simp [hf, hg, BANDh_TEMP, BANDh_STATUS])

theorem bandShown_source (hsrc : src < 16) : (d.bandShown h src t).get (BANDh_STATUS_SOURCE h) = src := by
  rw [Dev.bandShown, Dev.putI, get_put_bandTemp h _ rfl rfl, get_put_bandTemp h _ rfl rfl, bandNamed_source h src d hsrc]

theorem bandShown_valid : (d.bandShown h src t).get (BANDh_TEMP_VALID h) = 1 := by
  rw [Dev.bandShown, Dev.putI, get_put_of_apart, get_put_same]
  · rfl
  all_goals simp [BANDh_TEMP_VALID, BANDh_TEMP_TEMP]

theorem bandShown_temp (e : Dev) (k : Nat) :
    (d.bandShown h src (e.getI (TSk_TEMP_TEMP k))).getI (BANDh_TEMP_TEMP h) = e.getI (TSk_TEMP_TEMP k) := by
  rw [Dev.bandShown, getI_putI_getI]
  all_goals simp [BANDh_TEMP_TEMP, TSk_TEMP_TEMP]

end

/-- The builds do not show in a head's readings. -/
theorem get_settle_odSync_band (h : Fin 8) {f : Fld} (haddr : f.addr = BANDh_STATUS h ∨ f.addr = BANDh_TEMP h) (hf : f.lo + f.w ≤ 32)
    (d : Dev) : (settle d.odSync).get f = d.get f := by
  have hplace : f.addr = 0x14074 + 0x100 * h.val ∨ f.addr = 0x14078 + 0x100 * h.val := haddr
  rw [get_settle_of_le _ _ (by omega)]
  exact get_odSync_other (by rw [FAB_CORR_BUILD]; omega) (.inl fun k _ => by rw [STh_OD_STATUS]; omega) hf d

theorem completes_bandReading_invalid (s : State) (h : Fin 8) (hlive : s.live) (hhead : s.dev.headPresent h = true) (hmode : 3 ≤ s.dev.mode)
    (hlow : 8 ≤ (s.dev.head h).sect.tempSource) (hhigh : (s.dev.head h).sect.tempSource < 16)
    (hvalid : s.dev.flag (TSk_TEMP_VALID ((s.dev.head h).sect.tempSource - 8)) = false) :
    Completes (.bandReading h) s (fun e => e.flag (BANDh_TEMP_VALID h) = false ∧
      e.get (BANDh_STATUS_SOURCE h) = (s.dev.head h).sect.tempSource ∧ e.flag (BANDh_STATUS_FALLBACK h) = false ∧
      keepsRegs [BANDh_TEMP h, BANDh_STATUS h] s.dev e ∧ keepsMem s.dev e) := by
  have hsource := bandSource_internal (d := s.dev) (h := h) rfl hlow
  rw [hvalid, if_neg Bool.false_ne_true] at hsource
  refine completes_on rfl hlive ?_
  rw [bandReading_invalid hhead hmode hsource]
  refine ⟨?_, ?_, ?_, keeps_of_frame (by simp [Dev.bandNamed, BANDh_TEMP_VALID, BANDh_STATUS_SOURCE, BANDh_STATUS_FALLBACK])⟩
  · rw [flag_settle_of_le _ _ (by simp [BANDh_TEMP_VALID, BANDh_TEMP]), flag_eq_false_iff, get_put_same _ _ _ (by simp [BANDh_TEMP_VALID])]
    rfl
  · rw [get_settle_of_le _ _ (by simp [BANDh_STATUS_SOURCE, BANDh_STATUS]), get_put_bandTemp h _ rfl rfl, bandNamed_source _ _ _ hhigh]
  · rw [flag_settle_of_le _ _ (by simp [BANDh_STATUS_FALLBACK, BANDh_STATUS]), Dev.flag, get_put_bandTemp h _ rfl rfl]
    exact bandNamed_fallback ..

theorem completes_bandReading_forced (s : State) (h : Fin 8) (hlive : s.live) (hhead : s.dev.headPresent h = true) (hmode : 3 ≤ s.dev.mode)
    (hlow : 8 ≤ (s.dev.head h).sect.tempSource) (hhigh : (s.dev.head h).sect.tempSource < 16)
    (hvalid : s.dev.flag (TSk_TEMP_VALID ((s.dev.head h).sect.tempSource - 8)) = true) (hforce : s.dev.appB (BANDh_CTRL_FORCE h) = true) :
    Completes (.bandReading h) s (fun e => e.flag (BANDh_TEMP_VALID h) = true ∧
      e.getI (BANDh_TEMP_TEMP h) = s.dev.getI (TSk_TEMP_TEMP ((s.dev.head h).sect.tempSource - 8)) ∧
      e.get (BANDh_STATUS_SOURCE h) = (s.dev.head h).sect.tempSource ∧ keepsMem s.dev e) := by
  have hsource := bandSource_internal (d := s.dev) (h := h) rfl hlow
  rw [hvalid, if_pos rfl] at hsource
  refine completes_on rfl hlive ?_
  rw [bandReading_forced hhead hmode hsource hforce]
  refine ⟨?_, ?_, ?_, fun a => by simp [Dev.bandShown, Dev.bandNamed]⟩
  · rw [flag_eq_true_iff, get_settle_odSync_band h (.inr rfl) (by simp [BANDh_TEMP_VALID]), onFab_get, bandShown_valid]
    exact one_ne_zero
  · rw [Dev.getI, get_settle_odSync_band h (.inr rfl) (by simp [BANDh_TEMP_TEMP]), onFab_get, ← Dev.getI, bandShown_temp]
  · rw [get_settle_odSync_band h (.inl rfl) (by simp [BANDh_STATUS_SOURCE]), onFab_get, bandShown_source _ _ _ _ hhigh]

/-! ### Anchors that are refused (R224) -/

theorem odStatus_ne_corrBuild (h : Fin 8) : STh_OD_STATUS h ≠ FAB_CORR_BUILD := by
  rw [STh_OD_STATUS, FAB_CORR_BUILD]
  omega

/-- One anchor outside -55 to 150 °C is an anchor error. -/
theorem anchorCopyComplete_outOfRange {d : Dev} {h : Nat} (hcopy : (d.fab h).odCopy = true) (hone : d.app (STh_OD_CTRL_V h) = 1)
    (htemp : sgn 16 (d.dpNum (d.app (STh_OD_ANCHOR_BASE_V h) * 256) 2) < -880 ∨ 2400 < sgn 16 (d.dpNum (d.app (STh_OD_ANCHOR_BASE_V h) * 256) 2)) :
    anchorCopyComplete h d = Dev.odSync (((d.onFab h (fun u => { u with odCopy := false })).put (STh_OD_STATUS_BUILDING h)
      (b2n ((d.onFab h (fun u => { u with odCopy := false })).fab h).odBuild.isSome)).putB (STh_OD_STATUS_ANCHOR_ERR h) true) := by
  have hrange : ¬(-880 ≤ sgn 16 (d.dpNum (d.app (STh_OD_ANCHOR_BASE_V h) * 256) 2) ∧
      sgn 16 (d.dpNum (d.app (STh_OD_ANCHOR_BASE_V h) * 256) 2) ≤ 2400) := by omega
  rw [anchorCopyComplete, hcopy, hone]
  refine (if_neg (by decide)).trans (if_neg ?_)
  simp only [allBelow, List.range_one, List.all_cons, Nat.zero_mul, Nat.add_zero, decide_eq_false hrange, Bool.false_and]
  exact Bool.false_ne_true

theorem completes_anchorCopyComplete_outOfRange (s : State) (h : Fin 8) (hlive : s.live) (hcopy : (s.dev.fab h).odCopy = true)
    (hone : s.dev.app (STh_OD_CTRL_V h) = 1) (htemp : sgn 16 (s.dev.dpNum (s.dev.app (STh_OD_ANCHOR_BASE_V h) * 256) 2) < -880 ∨
      2400 < sgn 16 (s.dev.dpNum (s.dev.app (STh_OD_ANCHOR_BASE_V h) * 256) 2)) :
    Completes (.anchorCopyComplete h) s (fun e =>
      e = settle (Dev.odSync (((s.dev.onFab h (fun u => { u with odCopy := false })).put (STh_OD_STATUS_BUILDING h)
        (b2n ((s.dev.onFab h (fun u => { u with odCopy := false })).fab h).odBuild.isSome)).putB (STh_OD_STATUS_ANCHOR_ERR h) true)) ∧
      e.flag (STh_OD_STATUS_ANCHOR_ERR h) = true) := by
  refine completes_on rfl hlive ?_
  rw [anchorCopyComplete_outOfRange hcopy hone htemp]
  refine ⟨rfl, ?_⟩
  rw [flag_settle_of_le _ _ (by simp [STh_OD_STATUS_ANCHOR_ERR, STh_OD_STATUS]), Dev.flag, get_odSync_other (odStatus_ne_corrBuild h)
    (.inr (.inl (by simp [STh_OD_STATUS_ANCHOR_ERR]))) (by simp [STh_OD_STATUS_ANCHOR_ERR])]
  exact flag_putB_same _ _ _ (by simp [STh_OD_STATUS_ANCHOR_ERR]) (by simp [STh_OD_STATUS_ANCHOR_ERR])

/-! ### The start of a build (R227) -/

theorem odBuildStart_of_noNeed {d : Dev} (h : ∀ k : Fin 8, d.odNeed k = none) : odBuildStart d = d := by
  have hnone : (List.range 8).find? (fun k => (d.odNeed k).isSome && !(d.fab k).odCopy) = none :=
    List.find?_eq_none.2 fun k hk => by simp [h ⟨k, List.mem_range.1 hk⟩]
  rw [odBuildStart, hnone]

theorem completes_odBuildStart_of_noNeed (s : State) (hlive : s.live) (h : ∀ k : Fin 8, s.dev.odNeed k = none) :
    Completes .odBuildStart s (fun e => e = settle s.dev ∧ keepsRegs [] s.dev e ∧ keepsMem s.dev e) := by
  refine completes_on rfl hlive ?_
  rw [odBuildStart_of_noNeed h]
  exact ⟨rfl, keeps_of_frame (by simp)⟩

/-- Head `h` builds the table of `band` and `gen` in its first buffer. -/
def Dev.odStarted (h band gen : Nat) (d : Dev) : Dev :=
  (((((d.onFab h (fun u => { u with odBuild := some (0, band, gen), odTags := updAt u.odTags 0 (fun _ => none) })).put
    (STh_OD_STATUS_BUILDING h) 1).put (STh_OD_STATUS_BUILD_BAND h) band).put FAB_CORR_BUILD_BUSY 1).put FAB_CORR_BUILD_HEAD h).put
    FAB_CORR_BUILD_BAND band

theorem odBuildStart_of_need {d : Dev} {h band gen : Nat} (hh : h < 8) (hlow : ∀ k : Fin 8, k.val < h → d.odNeed k = none)
    (hneed : d.odNeed h = some (band, gen)) (hcopy : (d.fab h).odCopy = false) (hbusy : d.odBusy = false)
    (htable : d.flag (STh_OD_STATUS_TABLE h) = false) : odBuildStart d = (d.odStarted h band gen).odSync := by
  have hfind : (List.range 8).find? (fun k => (d.odNeed k).isSome && !(d.fab k).odCopy) = some h :=
    find?_range_of_least hh (by simp [hneed, hcopy]) fun k hk => by simp [hlow ⟨k, hk.trans hh⟩ hk]
  simp [odBuildStart, hfind, hneed, hbusy, htable, Dev.odStarted]

section
variable {h band gen : Nat} {d : Dev}

/-- Outside BUILDING, BUILD_BAND and FAB_CORR_BUILD the start of a build shows in no register. -/
theorem odStarted_get {f : Fld} (haddr : f.addr ≠ FAB_CORR_BUILD) (hbits : f.addr ≠ STh_OD_STATUS h ∨ f.lo + f.w ≤ 23) (hf : f.lo + f.w ≤ 32) :
    (d.odStarted h band gen).get f = d.get f := by
  have hapart : STh_OD_STATUS h ≠ f.addr ∨ f.lo + f.w ≤ 23 := hbits.imp_left Ne.symm
  unfold Dev.odStarted
  rw [get_put_of_ne _ _ _ _ haddr.symm, get_put_of_ne _ _ _ _ haddr.symm, get_put_of_ne _ _ _ _ haddr.symm,
    get_put_other _ _ _ _ (hapart.imp_right .inr) hf,
    get_put_other _ _ _ _ (hapart.imp_right fun h' => .inr (h'.trans (by simp [STh_OD_STATUS_BUILDING]))) hf, onFab_get]

theorem odStarted_fab (k : Nat) : (d.odStarted h band gen).fab k = if h = k ∧ k < d.heads.length then
    { d.fab k with odBuild := some (0, band, gen), odTags := updAt (d.fab k).odTags 0 (fun _ => none) } else d.fab k := by
  simp only [Dev.odStarted, put_fab, fab_onFab]

/-- A build changes neither the class of a head nor its chain. -/
theorem odStarted_isRaster (hh : h < 8) : (d.odStarted h band gen).isRaster h = d.isRaster h := by
  have hflag {f : Fld} (haddr : f.addr = TACK_HEADn h) (hf : f.lo + f.w ≤ 32) : (d.odStarted h band gen).flag f = d.flag f := by
    rw [TACK_HEADn] at haddr
    rw [Dev.flag, Dev.flag, odStarted_get (by rw [FAB_CORR_BUILD]; omega) (.inl (by rw [STh_OD_STATUS]; omega)) hf]
  rw [Dev.isRaster, Dev.isRaster, Dev.headPresent, Dev.headPresent, hflag rfl (by simp [TACK_HEADn_PRESENT]),
    hflag rfl (by simp [TACK_HEADn_CLASS])]

theorem odStarted_has (k kind : Nat) : (d.odStarted h band gen).has k kind = d.has k kind := by
  rw [← has_onFab h (fun u => { u with odBuild := some (0, band, gen), odTags := updAt u.odTags 0 (fun _ => none) }) d]
  exact has_congr (by simp only [Dev.odStarted, put_heads]) k kind

/-- A tag that is not there is not there with a buffer's tag removed either. -/
theorem some_notMem_updAt_none {α : Type} {l : List (Option α)} {t : α} (h : some t ∉ l) (i : Nat) : some t ∉ updAt l i (fun _ => none) := by
  intro hmem
  obtain ⟨k, hk, ht⟩ := List.mem_iff_getElem.1 hmem
  simp only [updAt, List.getElem_modify] at ht
  split at ht
  · cases ht
  · exact h (ht ▸ List.getElem_mem _)

/-- The build that starts is the one that the head needs. -/
theorem odStarted_odNeed (hh : h < 8) (hneed : d.odNeed h = some (band, gen)) : (d.odStarted h band gen).odNeed h = some (band, gen) := by
  have hlen := lt_length_of_odNeed hneed
  obtain ⟨htag, hraster, hhas, hanchors, htags⟩ := (odNeed_eq_some_iff d h _).1 hneed
  have htracker : (d.odStarted h band gen).get (BANDh_STATUS_TRACKER h) = d.get (BANDh_STATUS_TRACKER h) :=
    odStarted_get (by simp only [BANDh_STATUS_TRACKER, BANDh_STATUS, FAB_CORR_BUILD]; omega) (.inr (by simp [BANDh_STATUS_TRACKER]))
      (by simp [BANDh_STATUS_TRACKER])
  have hgen : (d.odStarted h band gen).get (STh_OD_STATUS_GEN h) = d.get (STh_OD_STATUS_GEN h) :=
    odStarted_get (odStatus_ne_corrBuild ⟨h, hh⟩) (.inr (by simp [STh_OD_STATUS_GEN])) (by simp [STh_OD_STATUS_GEN])
  rw [odNeed_eq_some_iff, odStarted_fab, if_pos ⟨rfl, hlen⟩, htracker, hgen]
  exact ⟨htag, (odStarted_isRaster hh).trans hraster, (odStarted_has h 9).trans hhas, hanchors, some_notMem_updAt_none htags 0⟩

/-- While no other head builds, the start leaves no build outdated. -/
theorem odStarted_odOutdated (hh : h < 8) (hneed : d.odNeed h = some (band, gen)) (hbusy : d.odBusy = false) :
    ∀ k < 8, (d.odStarted h band gen).odOutdated k = false := by
  intro k hk
  unfold Dev.odOutdated
  by_cases hkh : h = k
  · subst hkh
    rw [odStarted_odNeed hh hneed, odStarted_fab, if_pos ⟨rfl, lt_length_of_odNeed hneed⟩]
    simp
  · have hnone : (d.fab k).odBuild = none := by simpa using List.any_eq_false.1 hbusy k (List.mem_range.2 hk)
    rw [odStarted_fab, if_neg fun hc => hkh hc.1, hnone]
    rfl

end

theorem completes_odBuildStart_of_need (s : State) (h : Fin 8) (band gen : Nat) (hlive : s.live)
    (hlow : ∀ k : Fin 8, k < h → s.dev.odNeed k = none) (hneed : s.dev.odNeed h = some (band, gen)) (hcopy : (s.dev.fab h).odCopy = false)
    (hbusy : s.dev.odBusy = false) (htable : s.dev.flag (STh_OD_STATUS_TABLE h) = false) :
    Completes .odBuildStart s (fun e => e = settle (s.dev.odStarted h band gen).odSync ∧
      e.get (STh_OD_STATUS_BUILDING h) = 1 ∧ e.get FAB_CORR_BUILD_BUSY = 1 ∧ e.get FAB_CORR_BUILD_HEAD = h) := by
  refine completes_on rfl hlive ?_
  rw [odBuildStart_of_need h.isLt hlow hneed hcopy hbusy htable]
  refine ⟨rfl, ?_⟩
  rw [odSync_of_needed (odStarted_odOutdated h.isLt hneed hbusy)]
  refine ⟨?_, ?_, ?_⟩
  · have hne : FAB_CORR_BUILD ≠ STh_OD_STATUS h := (odStatus_ne_corrBuild h).symm
    rw [get_settle_of_le _ _ (by simp [STh_OD_STATUS_BUILDING, STh_OD_STATUS]), get_put_of_ne _ _ _ _ hne, Dev.odStarted,
      get_put_of_ne _ _ _ _ hne, get_put_of_ne _ _ _ _ hne, get_put_of_ne _ _ _ _ hne, get_put_of_apart, get_put_same]
    · rfl
    all_goals simp [STh_OD_STATUS_BUILDING, STh_OD_STATUS_BUILD_BAND]
  · rw [get_settle_of_le _ _ (by decide), get_put_of_apart _ _ _ _ (by decide) (by decide), Dev.odStarted,
      get_put_of_apart _ _ _ _ (by decide) (by decide), get_put_of_apart _ _ _ _ (by decide) (by decide), get_put_same _ _ _ (by decide)]
    rfl
  · rw [get_settle_of_le _ _ (by decide), get_put_of_apart _ _ _ _ (by decide) (by decide), Dev.odStarted,
      get_put_of_apart _ _ _ _ (by decide) (by decide), get_put_same _ _ _ (by decide)]
    exact Nat.mod_eq_of_lt h.isLt

/-! ### The end of a build (R227) -/

/-- The table of `band` and `gen` is in buffer `buf` of head `h`, whose stage OVERDRIVE is `k`. -/
def Dev.odWritten (h buf band gen : Nat) (k : StageEntry) (d : Dev) : Dev :=
  (d.agentWrite 1 (d.lmBase h k + buf * 8192) (synthesise (d.fab h).anchors (d.synthTemp h band))).onFab h
    (fun u => { u with odBuild := none, odTags := updAt u.odTags buf (fun _ => some (band, gen)) })

/-- The registers of head `h` show the end of its build after `us` µs. -/
def Dev.odEnded (us h : Nat) (d : Dev) : Dev :=
  ((d.put (STh_OD_STATUS_BUILDING h) (b2n (d.fab h).odCopy)).put (STh_OD_BUILD_US_V h) us).put FAB_CORR_BUILD_BUSY 0

theorem odBuildComplete_of_build {d : Dev} {h buf band gen : Nat} {k : StageEntry} (us : Nat) (hh : h < 8)
    (hlow : ∀ j : Fin 8, j.val < h → (d.fab j).odBuild = none) (hbuild : (d.fab h).odBuild = some (buf, band, gen))
    (hstage : d.stage h 9 = some k) : odBuildComplete us d = ((d.odWritten h buf band gen k).odEnded us h).odSync := by
  have hfind : (List.range 8).find? (fun j => (d.fab j).odBuild.isSome) = some h :=
    find?_range_of_least hh (by simp [hbuild]) fun j hj => by simp [hlow ⟨j, hj.trans hh⟩ hj]
  simp only [odBuildComplete, hfind, hbuild, hstage]
  rfl

theorem completes_odBuildComplete_of_build (s : State) (us : Nat) (h : Fin 8) (buf band gen : Nat) (k : StageEntry) (hlive : s.live)
    (hlow : ∀ j : Fin 8, j < h → (s.dev.fab j).odBuild = none) (hbuild : (s.dev.fab h).odBuild = some (buf, band, gen))
    (hstage : s.dev.stage h 9 = some k) :
    Completes (.odBuildComplete us) s (fun e =>
      e = settle ((s.dev.odWritten h buf band gen k).odEnded us h).odSync ∧ (e.fab h).odBuild = none) := by
  refine completes_on rfl hlive ?_
  rw [odBuildComplete_of_build us h.isLt hlow hbuild hstage]
  refine ⟨rfl, ?_⟩
  rw [settle_fab]
  apply odSync_odBuild_none
  rw [Dev.odEnded, put_fab, put_fab, put_fab]
  exact fab_onFab_odBuild_none h (fun _ => rfl) (.inl rfl)

/-! ### The statement -/

/-- Settles O30: each command writes its registers and then brings the builds up to date, which abandons builds that are no longer needed
and starts none; the build that starts stays, for it is the one that its head needs. -/
theorem overdrive : Obligations.Overdrive :=
  ⟨fun _ _ hs => completes_on rfl hs rfl, fun _ _ hs => completes_on rfl hs rfl, fun _ hs => completes_on rfl hs rfl,
    fun _ _ hs => completes_on rfl hs rfl, completes_bandReading_invalid, completes_bandReading_forced,
    completes_anchorCopyComplete_outOfRange, completes_odBuildStart_of_noNeed, completes_odBuildStart_of_need,
    completes_odBuildComplete_of_build⟩

end Sys2Proof.Machine
end

section
/-! SUPPORT. The frame queue, the records and the driver commands of a raster head (R257, R258, R273 to R278, R286). -/
namespace Sys2Proof.Machine

/-! ### The unit of a head -/

theorem head_congr {d e : Dev} (h : e.heads = d.heads) (k : Nat) : e.head k = d.head k := by rw [Dev.head, Dev.head, h]

section
variable (d : Dev) (h : Nat) (u : HeadUnit → HeadUnit)

@[simp] theorem put_head (f : Fld) (x k : Nat) : (d.put f x).head k = d.head k := head_congr (put_heads ..) k

@[simp] theorem writePlain_heads (r v : Nat) : (d.writePlain r v).heads = d.heads := writePlain_congr Dev.heads setWord_heads d r v

@[simp] theorem writePlain_head (r v k : Nat) : (d.writePlain r v).head k = d.head k := head_congr (writePlain_heads ..) k

@[simp] theorem settle_head (k : Nat) : (settle d).head k = d.head k := head_congr (settle_heads d) k

@[simp] theorem frame_onHead (l : List Nat) : (d.onHead h u).frame l = d.frame l := rfl

variable {d h}

theorem head_onHead_same (hlen : h < d.heads.length) : (d.onHead h u).head h = u (d.head h) := nth_updAt_same _ _ _ _ hlen

theorem head_onHead_congr {α : Type} (g : HeadUnit → α) (hg : ∀ x, g (u x) = g x) (k : Nat) : g ((d.onHead h u).head k) = g (d.head k) :=
  nth_updAt_congr g _ _ _ _ hg k

end

/-! ### The queue (R273 to R278, R282) -/

/-- The entry that a write of `v` to HDn_Q_PUSH makes (R273). -/
def Dev.pushEntry (d : Dev) (h v : Nat) : QEntry :=
  { base := d.get (HDn_Q_BASE_V h), time := d.get (HDn_Q_TIME_V h), tag := bitsOf v 0 16, next := bitOf v 17, drop := bitOf v 18,
    tb := bitsOf v 19 2 }

theorem qPushWrite_eq {h v : Nat} {d : Dev} (hw : d.writeOk (HDn_Q_PUSH h) v = true) (hok : qPushOk h d = true) :
    qPushWrite h v d = (d.writePlain (HDn_Q_PUSH h) v).qAdd h (d.pushEntry h v) := by
  have hbase : (d.writePlain (HDn_Q_PUSH h) v).get (HDn_Q_BASE_V h) = d.get (HDn_Q_BASE_V h) :=
    get_writePlain_other _ _ _ _ (by simp [HDn_Q_PUSH, HDn_Q_BASE_V, HDn_Q_BASE])
  have htime : (d.writePlain (HDn_Q_PUSH h) v).get (HDn_Q_TIME_V h) = d.get (HDn_Q_TIME_V h) :=
    get_writePlain_other _ _ _ _ (by simp [HDn_Q_PUSH, HDn_Q_TIME_V, HDn_Q_TIME])
  rw [qPushWrite, writeVia_taken _ _ _ _ _ hw hok, hbase, htime]
  rfl

/-- The end of idle leaves the queues alone. -/
theorem idleEnd_queue (h k : Nat) (d : Dev) : ((d.idleEnd h).head k).queue = (d.head k).queue := by
  unfold Dev.idleEnd
  split
  · refine (head_onHead_congr _ HeadUnit.queue ?_ k).trans (congrArg HeadUnit.queue (put_head ..))
    exact fun _ => rfl
  · rfl

/-- An entry that is not the front joins the queue at its end. -/
theorem qAdd_queue {h : Nat} {d : Dev} (hqueue : (d.head h).queue ≠ []) (hlen : h < d.heads.length) (e : QEntry) :
    ((d.qAdd h e).head h).queue = (d.head h).queue ++ [e] := by
  have hadd : ((d.onHead h (fun u => { u with queue := u.queue ++ [e] })).head h).queue = (d.head h).queue ++ [e] := by
    rw [head_onHead_same _ hlen]
  rw [Dev.qAdd, List.isEmpty_eq_false_iff.2 hqueue]
  simp only [Bool.false_eq_true, if_false]
  split
  · rw [idleEnd_queue, hadd]
  · exact hadd

theorem completes_queuePush (s : State) (h : Fin 8) (v : Word) (ht : s.takes (HDn_Q_PUSH h) v.toNat) (hok : qPushOk h s.dev = true)
    (hqueue : (s.dev.head h).queue ≠ []) (hlen : h.val < s.dev.heads.length) :
    Completes (.queuePush h v) s (fun e =>
      e = settle ((s.dev.writePlain (HDn_Q_PUSH h) v.toNat).qAdd h (s.dev.pushEntry h v.toNat)) ∧
      (e.head h).queue = (s.dev.head h).queue ++ [s.dev.pushEntry h v.toNat]) := by
  refine completes_hostWrite rfl ht.1 ?_
  rw [qPushWrite_eq ht.2 hok]
  refine ⟨rfl, ?_⟩
  rw [settle_head, qAdd_queue (by rwa [writePlain_head]) (by rwa [writePlain_heads]), writePlain_head]

theorem qFlushWrite_eq {h : Nat} {d : Dev} (hw : d.writeOk (HDn_Q_FLUSH h) 1 = true) (hmip : d.isMip h = false) :
    qFlushWrite h 1 d = (d.writePlain (HDn_Q_FLUSH h) 1).onHead h (fun u => { u with queue := [] }) := by
  rw [qFlushWrite, writeVia_taken _ _ _ _ _ hw (by rw [hmip]; rfl)]
  exact if_pos (by decide)

theorem completes_queueFlush (s : State) (h : Fin 8) (ht : s.takes (HDn_Q_FLUSH h) 1) (hmip : s.dev.isMip h = false)
    (hlen : h.val < s.dev.heads.length) :
    Completes (.queueFlush h) s (fun e =>
      (e.head h).queue = [] ∧ keepsRegs [HDn_Q_FLUSH h] s.dev e ∧ keepsMem s.dev e ∧ e.applied = s.dev.applied) := by
  refine completes_hostWrite rfl ht.1 ?_
  rw [qFlushWrite_eq ht.2 hmip]
  obtain ⟨hregs, hmem⟩ := keeps_of_frame (l := [HDn_Q_FLUSH h]) (d := s.dev)
    (e := settle ((s.dev.writePlain (HDn_Q_FLUSH h) 1).onHead h (fun u => { u with queue := [] }))) (by simp)
  refine ⟨?_, hregs, hmem, ?_⟩
  · rw [settle_head, head_onHead_same _ (by rwa [writePlain_heads])]
  · rw [settle_applied, onHead_applied]
    exact writePlain_congr Dev.applied setWord_applied _ _ _

/-! ### The records (R286) -/

theorem recPopWrite_eq {h : Nat} {d : Dev} (hw : d.writeOk (HDn_REC_POP h) 1 = true) (hmip : d.isMip h = false) :
    recPopWrite h 1 d = ((d.writePlain (HDn_REC_POP h) 1).onHead h (fun u => { u with records := (d.head h).records.drop 1 })).put
      (HDn_REC_STATUS_LEVEL h) ((d.head h).records.drop 1).length := by
  rw [recPopWrite, writeVia_taken _ _ _ _ _ hw (by rw [hmip]; rfl)]
  refine (if_pos (by decide)).trans ?_
  rw [writePlain_head]

theorem completes_recordPop (s : State) (h : Fin 8) (ht : s.takes (HDn_REC_POP h) 1) (hmip : s.dev.isMip h = false)
    (hlen : h.val < s.dev.heads.length) (hfifo : (s.dev.head h).records.length ≤ 16) :
    Completes (.recordPop h) s (fun e =>
      (e.head h).records = (s.dev.head h).records.drop 1 ∧ e.get (HDn_REC_STATUS_LEVEL h) = (s.dev.head h).records.length - 1 ∧
      keepsRegs [HDn_REC_POP h, HDn_REC_STATUS h] s.dev e ∧ keepsMem s.dev e) := by
  refine completes_hostWrite rfl ht.1 ?_
  rw [recPopWrite_eq ht.2 hmip]
  refine ⟨?_, ?_, keeps_of_frame (by simp [HDn_REC_STATUS_LEVEL])⟩
  · rw [settle_head, put_head, head_onHead_same _ (by rwa [writePlain_heads])]
  · rw [get_settle_of_le _ _ (by simp [HDn_REC_STATUS_LEVEL, HDn_REC_STATUS]), get_put_same _ _ _ (by simp [HDn_REC_STATUS_LEVEL]),
      List.length_drop]
    exact Nat.mod_eq_of_lt (by simp only [HDn_REC_STATUS_LEVEL]; omega)

/-- Settles O23: a push to a queue that is not empty joins it at its end, a flush empties it, and a pop drops the first record. -/
theorem frameQueue : Obligations.FrameQueue :=
  ⟨fun _ _ _ hs => completes_on rfl hs rfl, fun _ _ hs => completes_on rfl hs rfl, fun _ _ hs => completes_on rfl hs rfl,
    completes_queuePush, completes_queueFlush, completes_recordPop⟩

/-! ### Configuration commands (R257, R258) -/

/-- A command of head `h` is taken and waits. -/
def Dev.cmdWaits (h : Nat) (d : Dev) : Dev :=
  ((d.onHead h (fun u => { u with cmd := [d.get (HDn_CMD_CTRL_LINK h), d.get (HDn_CMD_CTRL_OP h), d.get (HDn_CMD_CTRL_DEVICE h),
    d.get (HDn_CMD_CTRL_ADDR h), d.get (HDn_CMD_DATA_V h)] })).put (HDn_CMD_STATUS_SEQ h) ((d.get (HDn_CMD_STATUS_SEQ h) + 1) % 16)).put
    (HDn_CMD_STATUS_STATE h) 1

/-- During active lines a command waits. -/
theorem cmdGoWrite_inFrame {h : Nat} {d : Dev} (hw : d.writeOk (HDn_CMD_GO h) 1 = true) (hmip : d.isMip h = false)
    (hstate : d.get (HDn_CMD_STATUS_STATE h) = 0 ∨ d.get (HDn_CMD_STATUS_STATE h) = 3) (hframe : (d.head h).inFrame = true) :
    cmdGoWrite h 1 d = (d.writePlain (HDn_CMD_GO h) 1).cmdWaits h := by
  have hok : (!d.isMip h && (d.get (HDn_CMD_STATUS_STATE h) == 0 || d.get (HDn_CMD_STATUS_STATE h) == 3)) = true := by
    simpa [hmip] using hstate
  have hkept (l : List Nat) : (((d.writePlain (HDn_CMD_GO h) 1).onHead h (fun u => { u with cmd := l })).head h).inFrame = true := by
    rw [head_onHead_congr (fun u => { u with cmd := l }) HeadUnit.inFrame fun _ => rfl, writePlain_head, hframe]
  rw [cmdGoWrite, writeVia_taken _ _ _ _ _ hw hok]
  refine if_neg ?_
  rw [Dev.cmdMay, put_head, hkept]
  exact Bool.false_ne_true

section
variable (h : Nat) (d : Dev)

theorem cmdWaits_state : (d.cmdWaits h).get (HDn_CMD_STATUS_STATE h) = 1 := get_put_same _ _ _ (by simp [HDn_CMD_STATUS_STATE])

theorem cmdWaits_seq : (d.cmdWaits h).get (HDn_CMD_STATUS_SEQ h) = (d.get (HDn_CMD_STATUS_SEQ h) + 1) % 16 := by
  rw [Dev.cmdWaits, get_put_of_apart, get_put_same]
  · exact Nat.mod_mod _ _
  all_goals simp [HDn_CMD_STATUS_SEQ, HDn_CMD_STATUS_STATE]

theorem cmdWaits_cmd (hlen : h < d.heads.length) : ((d.cmdWaits h).head h).cmd = [d.get (HDn_CMD_CTRL_LINK h), d.get (HDn_CMD_CTRL_OP h),
    d.get (HDn_CMD_CTRL_DEVICE h), d.get (HDn_CMD_CTRL_ADDR h), d.get (HDn_CMD_DATA_V h)] := by
  rw [Dev.cmdWaits, put_head, put_head, head_onHead_same _ hlen]

@[simp] theorem frame_cmdWaits {l : List Nat} (hl : HDn_CMD_STATUS h ∈ l) : (d.cmdWaits h).frame l = d.frame l := by
  rw [Dev.cmdWaits, frame_put _ _ _ _ hl, frame_put _ _ _ _ hl, frame_onHead]

/-- A write of GO leaves the other registers of the command alone. -/
theorem get_writePlain_cmdGo {f : Fld} (hf : f.addr = HDn_CMD_CTRL h ∨ f.addr = HDn_CMD_DATA h ∨ f.addr = HDn_CMD_STATUS h) (v : Nat) :
    (d.writePlain (HDn_CMD_GO h) v).get f = d.get f :=
  get_writePlain_other _ _ _ _ (by simp only [HDn_CMD_GO, HDn_CMD_CTRL, HDn_CMD_DATA, HDn_CMD_STATUS] at *; omega)

end

/-- What a taken command of head `h`, of operation `op`, leaves during active lines. -/
theorem cmdGo_waits {d : Dev} {h : Fin 8} {op : Nat} (hw : d.writeOk (HDn_CMD_GO h) 1 = true) (hmip : d.isMip h = false)
    (hop : d.get (HDn_CMD_CTRL_OP h) = op) (hstate : d.get (HDn_CMD_STATUS_STATE h) = 0 ∨ d.get (HDn_CMD_STATUS_STATE h) = 3)
    (hframe : (d.head h).inFrame = true) (hlen : h.val < d.heads.length) :
    (settle (cmdGoWrite h 1 d)).get (HDn_CMD_STATUS_STATE h) = 1 ∧
    (settle (cmdGoWrite h 1 d)).get (HDn_CMD_STATUS_SEQ h) = (d.get (HDn_CMD_STATUS_SEQ h) + 1) % 16 ∧
    ((settle (cmdGoWrite h 1 d)).head h).cmd = [d.get (HDn_CMD_CTRL_LINK h), op, d.get (HDn_CMD_CTRL_DEVICE h), d.get (HDn_CMD_CTRL_ADDR h),
      d.get (HDn_CMD_DATA_V h)] ∧
    keepsRegs [HDn_CMD_GO h, HDn_CMD_STATUS h] d (settle (cmdGoWrite h 1 d)) ∧ keepsMem d (settle (cmdGoWrite h 1 d)) := by
  have hle : 0x1000 ≤ HDn_CMD_STATUS h := by simp [HDn_CMD_STATUS]
  rw [cmdGoWrite_inFrame hw hmip hstate hframe]
  refine ⟨?_, ?_, ?_, keeps_of_frame (by simp)⟩
  · rw [get_settle_of_le _ _ hle, cmdWaits_state]
  · rw [get_settle_of_le _ _ hle, cmdWaits_seq, get_writePlain_cmdGo _ _ (.inr (.inr rfl))]
  · rw [settle_head, cmdWaits_cmd _ _ (by rwa [writePlain_heads]), get_writePlain_cmdGo _ _ (.inl rfl), get_writePlain_cmdGo _ _ (.inl rfl),
      get_writePlain_cmdGo _ _ (.inl rfl), get_writePlain_cmdGo _ _ (.inl rfl), get_writePlain_cmdGo _ _ (.inr (.inl rfl)), hop]

theorem completes_headCmdWrite (s : State) (h : Fin 8) (ht : s.takes (HDn_CMD_GO h) 1) (hmip : s.dev.isMip h = false)
    (hop : s.dev.get (HDn_CMD_CTRL_OP h) = 1)
    (hstate : s.dev.get (HDn_CMD_STATUS_STATE h) = 0 ∨ s.dev.get (HDn_CMD_STATUS_STATE h) = 3)
    (hframe : (s.dev.head h).inFrame = true) (hlen : h.val < s.dev.heads.length) :
    Completes (.headCmdWrite h) s (fun e => e.get (HDn_CMD_STATUS_STATE h) = 1 ∧
      e.get (HDn_CMD_STATUS_SEQ h) = (s.dev.get (HDn_CMD_STATUS_SEQ h) + 1) % 16 ∧
      (e.head h).cmd = [s.dev.get (HDn_CMD_CTRL_LINK h), 1, s.dev.get (HDn_CMD_CTRL_DEVICE h), s.dev.get (HDn_CMD_CTRL_ADDR h),
        s.dev.get (HDn_CMD_DATA_V h)] ∧ keepsRegs [HDn_CMD_GO h, HDn_CMD_STATUS h] s.dev e ∧ keepsMem s.dev e) := by
  obtain ⟨⟨hlive, hmode, habout⟩, hw⟩ := ht
  refine completes_on rfl hlive ?_
  rw [if_pos hop, pcie_now _ _ _ hmode habout]
  exact cmdGo_waits hw hmip hop hstate hframe hlen

theorem completes_headCmdRead (s : State) (h : Fin 8) (ht : s.takes (HDn_CMD_GO h) 1) (hmip : s.dev.isMip h = false)
    (hop : s.dev.get (HDn_CMD_CTRL_OP h) = 2)
    (hstate : s.dev.get (HDn_CMD_STATUS_STATE h) = 0 ∨ s.dev.get (HDn_CMD_STATUS_STATE h) = 3)
    (hframe : (s.dev.head h).inFrame = true) (hlen : h.val < s.dev.heads.length) :
    Completes (.headCmdRead h) s (fun e => e.get (HDn_CMD_STATUS_STATE h) = 1 ∧
      e.get (HDn_CMD_STATUS_SEQ h) = (s.dev.get (HDn_CMD_STATUS_SEQ h) + 1) % 16 ∧
      (e.head h).cmd = [s.dev.get (HDn_CMD_CTRL_LINK h), 2, s.dev.get (HDn_CMD_CTRL_DEVICE h), s.dev.get (HDn_CMD_CTRL_ADDR h),
        s.dev.get (HDn_CMD_DATA_V h)] ∧ keepsRegs [HDn_CMD_GO h, HDn_CMD_STATUS h] s.dev e ∧ keepsMem s.dev e) := by
  obtain ⟨⟨hlive, hmode, habout⟩, hw⟩ := ht
  refine completes_on rfl hlive ?_
  rw [if_pos hop, pcie_now _ _ _ hmode habout]
  exact cmdGo_waits hw hmip hop hstate hframe hlen

/-! ### Their responses (R258) -/

section
variable (h result : Nat) (d : Dev)

theorem cmdDone_state : (d.cmdDone h result).get (HDn_CMD_STATUS_STATE h) = 3 := by
  rw [Dev.cmdDone, get_put_of_apart, get_put_same]
  · rfl
  all_goals simp [HDn_CMD_STATUS_STATE, HDn_CMD_STATUS_RESULT]

theorem cmdDone_result (hr : result < 16) : (d.cmdDone h result).get (HDn_CMD_STATUS_RESULT h) = result :=
  (get_put_same _ _ _ (by simp [HDn_CMD_STATUS_RESULT])).trans (Nat.mod_eq_of_lt hr)

theorem get_cmdDone_of_ne {f : Fld} (hf : HDn_CMD_STATUS h ≠ f.addr) : (d.cmdDone h result).get f = d.get f := by
  rw [Dev.cmdDone, get_put_of_ne _ _ _ _ hf, get_put_of_ne _ _ _ _ hf]

@[simp] theorem frame_cmdDone {l : List Nat} (hl : HDn_CMD_STATUS h ∈ l) : (d.cmdDone h result).frame l = d.frame l := by
  rw [Dev.cmdDone, frame_put _ _ _ _ hl, frame_put _ _ _ _ hl]

end

theorem completes_cmdRspTimeout (s : State) (h : Fin 8) (hlive : s.live) (hsent : s.dev.get (HDn_CMD_STATUS_STATE h) = 2) :
    Completes (.cmdRspTimeout h) s (fun e => e.get (HDn_CMD_STATUS_STATE h) = 3 ∧ e.get (HDn_CMD_STATUS_RESULT h) = 3 ∧
      keepsRegs [HDn_CMD_STATUS h] s.dev e ∧ keepsMem s.dev e) := by
  have hle : 0x1000 ≤ HDn_CMD_STATUS h := by simp [HDn_CMD_STATUS]
  refine completes_on rfl hlive ?_
  rw [cmdRspTimeout, if_pos hsent]
  refine ⟨?_, ?_, keeps_of_frame (by simp)⟩
  · rw [get_settle_of_le _ _ hle, cmdDone_state]
  · rw [get_settle_of_le _ _ hle, cmdDone_result _ _ _ (by decide)]

/-- The response to a read command gives its data and ends it. -/
theorem cmdRsp_read {h status seq data : Nat} {d : Dev} (hsent : d.get (HDn_CMD_STATUS_STATE h) = 2)
    (hseq : seq = d.get (HDn_CMD_STATUS_SEQ h)) (hstatus : status < 3) (hread : nth 0 (d.head h).cmd 1 = 2) :
    d.cmdRsp h status seq data = (d.put (HDn_CMD_RDATA_V h) data).cmdDone h status := by
  rw [Dev.cmdRsp, if_neg (by omega), hread]
  rfl

/-- A response on a COLUMN link that is up goes to the head that owns it. -/
theorem cmdRspRx_column {j status seq addr data : Nat} {d : Dev} (hprofile : (d.linkEntry j).profile = 2) (hup : d.linkUp j = true) :
    cmdRspRx j status seq addr data d = d.cmdRsp (d.linkEntry j).owner status seq data := by
  simp [cmdRspRx, hprofile, hup]

theorem completes_cmdRspRx (s : State) (j st seq : Fin 16) (addr : Fin 256) (data : Word) (h : Nat) (hlive : s.live)
    (hprofile : (s.dev.linkEntry j).profile = 2) (hup : s.dev.linkUp j = true) (howner : (s.dev.linkEntry j).owner = h) (_ : h < 8)
    (_ : s.dev.isMip h = false) (hsent : s.dev.get (HDn_CMD_STATUS_STATE h) = 2) (hseq : seq.val = s.dev.get (HDn_CMD_STATUS_SEQ h))
    (hst : st.val < 3) (hread : nth 0 (s.dev.head h).cmd 1 = 2) :
    Completes (.cmdRspRx j st seq addr data) s (fun e => e.get (HDn_CMD_STATUS_STATE h) = 3 ∧ e.get (HDn_CMD_STATUS_RESULT h) = st ∧
      e.get (HDn_CMD_RDATA_V h) = data.toNat ∧ keepsRegs [HDn_CMD_STATUS h, HDn_CMD_RDATA h] s.dev e ∧ keepsMem s.dev e) := by
  have hle : 0x1000 ≤ HDn_CMD_STATUS h := by simp [HDn_CMD_STATUS]
  refine completes_on rfl hlive ?_
  rw [cmdRspRx_column hprofile hup, howner, cmdRsp_read hsent hseq hst hread]
  refine ⟨?_, ?_, ?_, keeps_of_frame (by simp [HDn_CMD_RDATA_V])⟩
  · rw [get_settle_of_le _ _ hle, cmdDone_state]
  · rw [get_settle_of_le _ _ hle, cmdDone_result _ _ _ st.isLt]
  · rw [get_settle_of_le _ _ (by simp [HDn_CMD_RDATA_V, HDn_CMD_RDATA]),
      get_cmdDone_of_ne _ _ _ (by simp [HDn_CMD_STATUS, HDn_CMD_RDATA_V, HDn_CMD_RDATA]), get_put_same _ _ _ (by simp [HDn_CMD_RDATA_V])]
    exact Nat.mod_eq_of_lt data.isLt

/-- Settles O25: a taken command waits during active lines with its operands, and a response or its absence ends the one that is sent. -/
theorem columnCommands : Obligations.ColumnCommands :=
  ⟨fun _ _ hs => completes_on rfl hs rfl, fun _ _ hs => completes_on rfl hs rfl, fun _ _ hs => completes_on rfl hs rfl,
    fun _ _ _ _ _ _ hs => completes_on rfl hs rfl, completes_headCmdWrite, completes_headCmdRead, completes_cmdRspTimeout,
    completes_cmdRspRx⟩

end Sys2Proof.Machine
end

section
/-! SUPPORT. What keeps a raster head's state once it is STOPPED (R261, R272): of all that follows a head's stop, nothing but the stop itself
writes STATE of HDn_STATUS. One lemma per function of the effect, in the order of the definitions. -/
namespace Sys2Proof.Machine

variable {w : Fin 8}

/-! ### Cases, folds and register writes -/

@[simp] theorem headState_ite (c : Prop) {_ : Decidable c} (a b : Dev) :
    (if c then a else b).headState w = if c then a.headState w else b.headState w := by
  split <;> rfl

@[simp] theorem headState_foldS (l : List Nat) (f : Nat → Dev → Dev) (d : Dev) (h : ∀ k e, (f k e).headState w = e.headState w) :
    (foldS l f d).headState w = d.headState w :=
  foldS_congr (fun e => Dev.headState e w) l f d fun k _ e => h k e

@[simp] theorem headState_foldl {β : Type} (l : List β) (f : Dev → β → Dev) (d : Dev) (h : ∀ b e, (f e b).headState w = e.headState w) :
    (l.foldl f d).headState w = d.headState w :=
  foldl_congr (fun e => Dev.headState e w) l f d fun b _ e => h b e

/-- Two blocks with the same registers show the same state. -/
theorem headState_of_regs {d e : Dev} (h : e.regs = d.regs) : e.headState w = d.headState w := by
  simp only [Dev.headState, Dev.get, Dev.word, Dev.wordBv, h]

@[simp] theorem headState_far (d : Dev) (x : FarUnit) : Dev.headState { d with far := x } w = d.headState w := headState_of_regs rfl
@[simp] theorem headState_memu (d : Dev) (m : List Host.Cell) (x : MemUnit) :
    Dev.headState { d with mem := m, memu := x } w = d.headState w := headState_of_regs rfl
@[simp] theorem headState_store (d : Dev) (a : Nat) (l : List Byte) : (d.store a l).headState w = d.headState w := store_get ..
@[simp] theorem headState_setAppWord (d : Dev) (r v : Nat) : (d.setAppWord r v).headState w = d.headState w := setAppWord_get ..
@[simp] theorem headState_onHead (d : Dev) (h : Nat) (f : HeadUnit → HeadUnit) : (d.onHead h f).headState w = d.headState w := headState_of_regs rfl
@[simp] theorem headState_onMip (d : Dev) (h : Nat) (f : MipUnit → MipUnit) : (d.onMip h f).headState w = d.headState w := headState_of_regs rfl
@[simp] theorem headState_onLane (d : Dev) (n : Nat) (f : LaneUnit → LaneUnit) : (d.onLane n f).headState w = d.headState w := headState_of_regs rfl
@[simp] theorem headState_onLink (d : Dev) (j : Nat) (f : LinkUnit → LinkUnit) : (d.onLink j f).headState w = d.headState w := headState_of_regs rfl
@[simp] theorem headState_onCal (d : Dev) (f : CalUnit → CalUnit) : (d.onCal f).headState w = d.headState w := headState_of_regs rfl
@[simp] theorem headState_onHarn (d : Dev) (f : HarnUnit → HarnUnit) : (d.onHarn f).headState w = d.headState w := headState_of_regs rfl
@[simp] theorem headState_onPins (d : Dev) (f : PinUnit → PinUnit) : (d.onPins f).headState w = d.headState w := headState_of_regs rfl
@[simp] theorem headState_onTack (d : Dev) (f : TackUnit → TackUnit) : (d.onTack f).headState w = d.headState w := headState_of_regs rfl
@[simp] theorem headState_drawn (d : Dev) : d.drawn.headState w = d.headState w := headState_of_regs rfl

/-- No head has its HDn_STATUS at offset `r`. -/
def noHeadStatus (r : Nat) : Prop := ∀ w : Fin 8, r ≠ HDn_STATUS w

/-- Outside HEADS there is none. -/
@[simp] theorem noHeadStatus_outside (r : Nat) (h : r < 0x20000 ∨ 0x30000 ≤ r) : noHeadStatus r := fun w => by
  rw [HDn_STATUS]
  omega

@[simp] theorem noHeadStatus_above (a k : Nat) (h : 0x30000 ≤ a) : noHeadStatus (a + k) :=
  noHeadStatus_outside _ (.inr (Nat.le_add_right_of_le h))

@[simp] theorem noHeadStatus_above₂ (a k l : Nat) (h : 0x30000 ≤ a) : noHeadStatus (a + k + l) :=
  noHeadStatus_above _ _ (Nat.le_add_right_of_le h)

@[simp] theorem noHeadStatus_ofHead (a : Nat) (k : Fin 8) (h : a < 0x1FF00) : noHeadStatus (a + 4 * k) :=
  noHeadStatus_outside _ (.inl (by omega))

/-- Nor is there one at another place of a block of `m` bytes that repeats, for HEADS and its blocks are multiples of it. -/
@[simp] theorem noHeadStatus_each (a m k : Nat) (hm : m ∣ 0x2000) (h : a % m ≠ 8 % m) : noHeadStatus (a + m * k) := fun w e => by
  obtain ⟨c, hc⟩ := hm
  have heads : a + m * k = 8 + m * (c * (16 + w)) := by rw [e, HDn_STATUS, ← Nat.mul_assoc, ← hc]; omega
  exact h (by simpa using congrArg (· % m) heads)

@[simp] theorem headState_setWord (d : Dev) (r v : Nat) (h : noHeadStatus r) : (d.setWord r v).headState w = d.headState w :=
  get_setWord_other _ _ _ _ (h w)

@[simp] theorem headState_put (d : Dev) (f : Fld) (x : Nat) (h : noHeadStatus f.addr ∨ f.lo + f.w ≤ 28) :
    (d.put f x).headState w = d.headState w :=
  get_put_other _ _ _ _ (h.imp (· w) .inl) (by simp [HDn_STATUS_STATE])

@[simp] theorem headState_putB (d : Dev) (f : Fld) (b : Bool) (h : noHeadStatus f.addr ∨ f.lo + f.w ≤ 28) :
    (d.putB f b).headState w = d.headState w := headState_put _ _ _ h

@[simp] theorem headState_putI (d : Dev) (f : Fld) (x : Int) (h : noHeadStatus f.addr ∨ f.lo + f.w ≤ 28) :
    (d.putI f x).headState w = d.headState w := headState_put _ _ _ h

@[simp] theorem headState_inc (d : Dev) (f : Fld) (h : noHeadStatus f.addr ∨ f.lo + f.w ≤ 28) :
    (d.inc f).headState w = d.headState w := headState_put _ _ _ h

/-! ### What is sent and posted -/

theorem seesNoPost_headStatus {cls : Nat} (h : cls < 16) : SeesNoPost cls (fun d => d.word (HDn_STATUS w)) :=
  seesNoPost_word fun hr => noHeadStatus_outside (HDn_STATUS w) (by
    simp only [ringRegs, EVT_CLASS_COUNTk, EVT_LOST_COUNT, EVT_STATUS, EVT_PROD, EVT_POSTED_COUNT, EVT_HIGH_WATER, MEM_COUNTk,
      List.mem_cons, List.not_mem_nil, or_false] at hr
    omega) w rfl

theorem headStatus_flogWrite {cls : Nat} (hcls : cls < 16) (d : Dev) (code inst : Nat) (data : List Nat) :
    (d.flogWrite cls code inst data).word (HDn_STATUS w) = d.word (HDn_STATUS w) :=
  (seesNoPost_headStatus hcls).flogWrite d code inst data (fun _ _ => rfl)
    (fun e v => word_setWord_other e _ v _ (noHeadStatus_outside EVT_FLOG_COUNT (by decide) w))
    (fun e v => word_setWord_other e _ v _ (noHeadStatus_outside EVT_FLOG_LOST (by decide) w))

@[simp] theorem headState_flogWrite (d : Dev) (cls code inst : Nat) (data : List Nat) (hcls : cls < 16) :
    (d.flogWrite cls code inst data).headState w = d.headState w := get_congr (headStatus_flogWrite hcls d code inst data)

@[simp] theorem headState_raiseAt (d : Dev) (status enable cls inst b : Nat) (hcls : cls < 16) (h : noHeadStatus status) :
    (d.raiseAt status enable cls inst b).headState w = d.headState w :=
  get_congr ((seesNoPost_headStatus hcls).raiseAt d status enable inst b fun e v => word_setWord_other e _ v _ (h w))

@[simp] theorem headState_laneTraffic (n : Nat) (b : RBlock) (d : Dev) : (d.laneTraffic n b).headState w = d.headState w :=
  get_congr ((seesNoPost_headStatus (cls := 0) (by decide)).laneTraffic n b d)

@[simp] theorem headState_slotRoom (j k : Nat) (d : Dev) : (d.slotRoom j k).headState w = d.headState w :=
  get_congr ((seesNoPost_headStatus (cls := 0) (by decide)).slotRoom j k d)

@[simp] theorem headState_slotsDone (j k : Nat) (d : Dev) : (d.slotsDone j k).headState w = d.headState w := headState_of_regs rfl

@[simp] theorem headState_slots (j : Nat) (l : List (Nat → RBlock)) (d : Dev) : (d.slots j l).headState w = d.headState w :=
  get_congr ((seesNoPost_headStatus (cls := 0) (by decide)).slots j l d)

@[simp] theorem headState_linkStream (j : Nat) (l : List RBlock) (d : Dev) : (d.linkStream j l).headState w = d.headState w :=
  get_congr ((seesNoPost_headStatus (cls := 0) (by decide)).linkStream j l d)

@[simp] theorem headState_unitWritten (u : Nat) (d : Dev) : (d.unitWritten u).headState w = d.headState w :=
  get_congr ((seesNoPost_headStatus (cls := 0) (by decide)).unitWritten u d)

/-! ### Lanes, links and their spares (R372, R375, R387, R497) -/

@[simp] theorem headState_setLane (n st : Nat) (d : Dev) : (d.setLane n st).headState w = d.headState w := by
  simp only [Dev.setLane, headState_ite, headState_onLane]
  split_ifs <;> simp [LNn_EQ_STATUS, LNn_EQ_STATUS_FROZEN, LNn_STATUS, LNn_STATUS_RXSTATE]

@[simp] theorem headState_farTake (q : FarRequest) (d : Dev) : (d.farTake q).headState w = d.headState w := by
  simp [Dev.farTake]

@[simp] theorem headState_storeWhole (a : Nat) (l : List Byte) (d : Dev) : (d.storeWhole a l).headState w = d.headState w := by
  simp [Dev.storeWhole]

@[simp] theorem headState_farEvt (b : Nat) (d : Dev) (inst : Nat) : (d.farEvt b inst).headState w = d.headState w := by
  simp [Dev.farEvt, FAR_EVT_STATUS, clsFarrier]

@[simp] theorem headState_farExhausted (q : FarRequest) (d : Dev) : (d.farExhausted q).headState w = d.headState w := by
  simp [Dev.farExhausted, FAR_STATUS, FAR_STATUS_EXHAUSTED, clsFarrier]

@[simp] theorem headState_farLog (q : FarRequest) (target result : Nat) (d : Dev) : (d.farLog q target result).headState w = d.headState w := by
  simp [Dev.farLog, FAR_LOG_STATUS, FAR_LOG_STATUS_WRITING]

@[simp] theorem headState_linkFalls (j : Nat) (d : Dev) : (d.linkFalls j).headState w = d.headState w := by
  simp only [Dev.linkFalls]
  split_ifs <;> simp [LKj_COUNTk, LKj_COUNTk_V, LKj_PARTNER2, LKj_PARTNER2_VALID, LKj_STATUS, LKj_STATUS_STATE]

/-! ### Links that fall (R317, R375) -/

@[simp] theorem headState_txSync (j : Nat) (d : Dev) : (d.txSync j).headState w = d.headState w := by
  refine headState_foldS _ _ _ fun n s => ?_
  split_ifs <;> simp [LNn_TX_STATUS, LNn_TX_STATUS_TXSTATE]

/-! ### Engines, stripes and substitutions (R175, R200, R201) -/

@[simp] theorem headState_setRecord (h i v : Nat) (d : Dev) : (d.setRecord h i v).headState w = d.headState w := by
  simp [Dev.setRecord]

@[simp] theorem headState_recPut (h i : Nat) (l : List (Nat × Nat × Nat)) (d : Dev) : (d.recPut h i l).headState w = d.headState w := by
  simp [Dev.recPut]

@[simp] theorem headState_engineSync (d : Dev) : d.engineSync.headState w = d.headState w :=
  get_congr (word_engineSync d (HDn_STATUS w) (.inr (by rw [HDn_STATUS]; omega)) (noHeadStatus_outside FAB_STATUS (by decide) w))

@[simp] theorem headState_engineRole (h j s : Nat) (e : StageEntry) (k : Nat) (d : Dev) : (d.engineRole h j s e k).headState w = d.headState w := by
  unfold Dev.engineRole
  split
  simp [SEk_STATUS, SEk_STATUS_HEAD, SEk_STATUS_STATE, SEk_STATUS_STRIPE, SEk_STATUS_STRIPES, SEk_STATUS_TYPE, SEk_STRIPE,
    SEk_STRIPE_FIRST, SEk_STRIPE_WIDTH]

@[simp] theorem headState_stripeSync (h : Nat) (d : Dev) : (d.stripeSync h).headState w = d.headState w :=
  headState_foldl _ _ _ fun _ _ => headState_foldl _ _ _ fun _ _ => headState_engineRole ..

@[simp] theorem headState_engineFree (k st : Nat) (d : Dev) : (d.engineFree k st).headState w = d.headState w := by
  simp [Dev.engineFree, SEk_STATUS, SEk_STATUS_HEAD, SEk_STATUS_STATE, SEk_STATUS_STRIPE, SEk_STATUS_STRIPES, SEk_STATUS_TYPE, SEk_STRIPE]

@[simp] theorem headState_farUse (l : FarLog) (d : Dev) : (d.farUse l).headState w = d.headState w := by
  simp [Dev.farUse, FAR_INVk, FAR_INVk_USED]

@[simp] theorem headState_farSubstituted (q : FarRequest) (target : Nat) (d : Dev) (inst : Nat) :
    (d.farSubstituted q target inst).headState w = d.headState w := by
  simp [Dev.farSubstituted, FAR_SUB_LASTk, FAR_SUB_TIME, FAR_SUB_TIME_V, FAR_SUBk, FAR_SUBk_V]

@[simp] theorem headState_subSwap (from' to' h result : Nat) (d : Dev) : (d.subSwap from' to' h result).headState w = d.headState w := by
  unfold Dev.subSwap
  extract_lets q d1 d2 d3 first d4 d5
  have h4 : d4.headState w = d.headState w := by
    simp [d4, d3, d2, d1, FAB_SUB_COUNT, FAB_SUB_COUNT_V, FAB_SUB_LAST, FAB_SUB_LAST_FRAME, FAB_SUB_LAST_FROM, FAB_SUB_LAST_RESULT,
      FAB_SUB_LAST_TO, FAB_SUB_LAST_VALID]
  have h5 : d5.headState w = d.headState w := by
    cases hq : q with
    | none => simp only [d5, hq, h4]
    | some q => simp only [d5, hq, headState_farSubstituted, h4]
  rw [headState_engineSync, h5]

@[simp] theorem headState_subWhole (result : Nat) (q : FarRequest) (h : Nat) (d : Dev) : (d.subWhole result q h).headState w = d.headState w := by
  unfold Dev.subWhole
  split <;> simp [FAB_STATUS, FAB_STATUS_SUB_FROM, FAB_STATUS_SUB_HEAD, FAB_STATUS_SUB_TO]

theorem headState_subNow_go (h n : Nat) (d : Dev) : (Dev.subNow.go h n d).headState w = d.headState w := by
  induction n generalizing d with
  | zero => rfl
  | succ n ih =>
    rw [Dev.subNow.go]
    split
    · split
      · rw [ih, headState_subWhole]
      · rfl
    · rfl

@[simp] theorem headState_subNow (h : Nat) (d : Dev) : (d.subNow h).headState w = d.headState w := by
  rw [Dev.subNow, headState_subNow_go, headState_engineSync]

/-! ### The fabric of a head and the re-tack (R64, R216, R226) -/

@[simp] theorem headState_fabricApplied (h : Nat) (d : Dev) : (d.fabricApplied h).headState w = d.headState w := by
  simp [Dev.fabricApplied, STh_FORMAT_SEG, STh_FORMAT_SEG_LINKS, STh_FORMAT_SEG_WIDTH, STh_SCALE_HRATIO, STh_SCALE_HRATIO_V,
    STh_SCALE_VRATIO, STh_SCALE_VRATIO_V]

@[simp] theorem headState_onFab (h : Nat) (f : FabricUnit → FabricUnit) (d : Dev) : (d.onFab h f).headState w = d.headState w := by
  simp [Dev.onFab]

@[simp] theorem headState_odSync (d : Dev) : d.odSync.headState w = d.headState w := by
  unfold Dev.odSync
  extract_lets d1
  rw [headState_put _ _ _ (by simp [FAB_CORR_BUILD_PENDING, FAB_CORR_BUILD])]
  refine headState_foldS _ _ _ fun h s => ?_
  split
  · split <;> simp [Dev.onFab, FAB_CORR_BUILD, FAB_CORR_BUILD_BUSY, STh_OD_STATUS, STh_OD_STATUS_BUILDING]
  · rfl

@[simp] theorem headState_odMoved (h : Nat) (d : Dev) : (d.odMoved h).headState w = d.headState w := by
  simp [Dev.odMoved, FAB_CORR_BUILD, FAB_CORR_BUILD_BUSY, STh_OD_STATUS, STh_OD_STATUS_BUILDING, STh_OD_STATUS_TABLE]

@[simp] theorem headState_headApply (h : Fin 8) (x : HeadImage) (d : Dev) : (d.headApply h x).headState w = d.headState w := by
  simp only [Dev.headApply, headState_ite]
  split_ifs <;> simp [TACK_HEADn, TACK_HEADn_CLASS, TACK_HEADn_HPLL, TACK_HEADn_LINEMEM_BASE, TACK_HEADn_LINEMEM_UNITS,
    TACK_HEADn_PRESENT, TACK_LEDGERn, TACK_LEDGERn_BASE, TACK_LEDGERn_UNITS]

@[simp] theorem headState_fullTiles (h : Nat) (p : Nat → Bool) (d : Dev) : (d.fullTiles h p).headState w = d.headState w := by
  simp [Dev.fullTiles, HDn_MIP_STATUS, HDn_MIP_STATUS_FULL_PENDING]

@[simp] theorem headState_fullPush (h : Nat) (d : Dev) : (d.fullPush h).headState w = d.headState w := by
  simp [Dev.fullPush]

@[simp] theorem headState_shareFresh (h : Nat) (d : Dev) : (d.shareFresh h).headState w = d.headState w := by
  simp [Dev.shareFresh]

@[simp] theorem headState_attempt (source cause inst : Nat) (d : Dev) : (d.attempt source cause inst).headState w = d.headState w := by
  simp only [Dev.attempt, List.foldl_cons, List.foldl_nil]
  split_ifs <;> simp [TACK_ATTEMPTn, TACK_STATUS, TACK_STATUS_ATTEMPTS, TACK_STATUS_CAUSE, clsTack]

@[simp] theorem headState_rtModeBack (d : Dev) : d.rtModeBack.headState w = d.headState w :=
  get_rtModeBack _ d (by simp [HDn_STATUS_STATE, HDn_STATUS])

@[simp] theorem headState_rtApply (h : Fin 8) (stopped : Bool) (frame : Nat) (d : Dev) : (d.rtApply h stopped frame).headState w = d.headState w := by
  simp [Dev.rtApply, FAR_INVk, FAR_INVk_TOTAL, MIP_WT_STATUS, MIP_WT_STATUS_VALID, TACK_RT_FRAME, TACK_RT_FRAME_FRAME,
    TACK_RT_FRAME_STOPPED, TACK_RT_FRAME_VALID, TACK_RT_STATUS, TACK_RT_STATUS_STATE]

@[simp] theorem headState_rtAtRest (h : Fin 8) (d : Dev) : (d.rtAtRest h).headState w = d.headState w := by
  simp [Dev.rtAtRest]

@[simp] theorem headState_ack (h : Nat) (stopped : Bool) (result frame : Nat) (d : Dev) :
    (d.ack h stopped result frame).headState w = d.headState w := by
  simp [Dev.ack, HDn_COMMIT_ACK, HDn_COMMIT_ACK_FRAME, HDn_COMMIT_ACK_RESULT, HDn_COMMIT_ACK_STOPPED, HDn_COMMIT_ACK_VALID]

@[simp] theorem headState_setBand (h b : Nat) (count : Bool) (d : Dev) : (d.setBand h b count).headState w = d.headState w := by
  simp only [Dev.setBand, headState_ite]
  split_ifs <;> simp [BANDh_CHANGE_COUNT, BANDh_CHANGE_COUNT_V, BANDh_STATUS, BANDh_STATUS_TRACKER]

@[simp] theorem headState_bandReinit (h : Nat) (d : Dev) : (d.bandReinit h).headState w = d.headState w := by
  simp [Dev.bandReinit]

@[simp] theorem headState_fabricChanged (h : Nat) (od : Bool) (d old : Dev) : (d.fabricChanged h od old).headState w = d.headState w := by
  simp [Dev.fabricChanged, BANDh_STATUS, BANDh_STATUS_FORCED, STh_OD_STATUS, STh_OD_STATUS_BUILDING]

@[simp] theorem headState_applyWords (h : Nat) (d : Dev) : (d.applyWords h).headState w = d.headState w := by
  simp [Dev.applyWords]

@[simp] theorem headState_onPanel (h : Nat) (f : PanelUnit → PanelUnit) (d : Dev) : (d.onPanel h f).headState w = d.headState w := by
  simp [Dev.onPanel]

/-! ### Calibration and panels (R341, R345, R486, R490) -/

@[simp] theorem headState_calEnded (i abort reason : Nat) (d : Dev) : (d.calEnded i abort reason).headState w = d.headState w := by
  simp [Dev.calEnded, CAL_ITEMi, CAL_ITEMi_ABORT, CAL_LAST, CAL_LAST_ABORT, CAL_LAST_ITEM, CAL_LAST_REASON, CAL_LAST_VALID]

@[simp] theorem headState_calSync (d : Dev) : d.calSync.headState w = d.headState w := by
  simp [Dev.calSync, CAL_STATUS, CAL_STATUS_BUSY, CAL_STATUS_ITEM]

@[simp] theorem headState_calEvt (b : Nat) (d : Dev) : (d.calEvt b).headState w = d.headState w := by
  simp [Dev.calEvt, CAL_EVT_STATUS, clsCal]

@[simp] theorem headState_calAbort (i abort reason : Nat) (d : Dev) : (d.calAbort i abort reason).headState w = d.headState w := by
  simp [Dev.calAbort, CAL_COUNTk, CAL_COUNTk_V, CAL_ITEMi, CAL_ITEMi_STATE]

@[simp] theorem headState_calCancel (p : Nat → Bool) (d : Dev) : (d.calCancel p).headState w = d.headState w := by
  simp [Dev.calCancel]

@[simp] theorem headState_calCancelHead (h : Nat) (d : Dev) : (d.calCancelHead h).headState w = d.headState w := by
  simp [Dev.calCancelHead]

@[simp] theorem headState_setPanel (h st : Nat) (d : Dev) : (d.setPanel h st).headState w = d.headState w := by
  simp [Dev.setPanel, HAR_STATUS, HAR_STATUS_PANELS_ON, PANELh_CTRL, PANELh_CTRL_V, PANELh_STATUS, PANELh_STATUS_STATE]

@[simp] theorem headState_drive (p : Nat) (high : Bool) (d : Dev) : (d.drive p high).headState w = d.headState w := by
  simp [Dev.drive]

@[simp] theorem headState_park (h : Nat) (d : Dev) : (d.park h).headState w = d.headState w := by
  simp [Dev.park]

@[simp] theorem headState_comDown (c : Nat) (d : Dev) : (d.comDown c).headState w = d.headState w := by
  simp [Dev.comDown, BIASc_STATUS, BIASc_STATUS_SLEWING, COMc_STATUS, COMc_STATUS_LEVEL]

@[simp] theorem headState_rampDown (h cause : Nat) (d : Dev) : (d.rampDown h cause).headState w = d.headState w := by
  simp [Dev.rampDown]

/-! ### Heads that stop: frames, records, bands and commands (R217, R258, R286) -/

@[simp] theorem headState_elemRetired (i e : Nat) (d : Dev) : (d.elemRetired i e).headState w = d.headState w := by
  simp [Dev.elemRetired, CAL_COUNTk, CAL_COUNTk_V, FAR_ELEMk, FAR_ELEMk_V]

@[simp] theorem headState_realise (i : Nat) (d : Dev) : (d.realise i).headState w = d.headState w := by
  simp only [Dev.realise, headState_ite]
  split_ifs
  · simp [BIASc_SETk, BIASc_SETk_COMBO, BIASc_SETk_ELEMENT, BIASc_SETk_TAP, BIASc_SETk_TRIM, BIASc_SETk_TRIMMED]
  · simp [GMAk_SET, GMAk_SET_CODE, GMAk_SET_ELEMENT, GMAk_SET_TRIM, GMAk_SET_TRIMMED]
  · rfl
  · rfl

@[simp] theorem headState_calSwapAsked (r : CalResult) (d : Dev) : (d.calSwapAsked r).headState w = d.headState w := by
  unfold Dev.calSwapAsked
  dsimp only
  split
  · rfl
  · split <;> simp [CAL_COUNTk, CAL_COUNTk_V, CAL_ITEMi, CAL_ITEMi_ELEMENT, CAL_ITEMi_RESIDUAL, CAL_ITEMi_SPARE_OK, CAL_ITEMi_TRIMMED,
    CAL_STORE_STATUS, CAL_STORE_STATUS_DIRTY]

@[simp] theorem headState_calApply (r : CalResult) (d : Dev) : (d.calApply r).headState w = d.headState w := by
  simp [Dev.calApply, CAL_COUNTk, CAL_COUNTk_V, CAL_ITEMi, CAL_ITEMi_ELEMENT, CAL_ITEMi_RESIDUAL, CAL_ITEMi_SPARE_OK, CAL_ITEMi_STATE,
    CAL_ITEMi_TRIMMED, CAL_ITEMi_T_LAST, CAL_STORE_STATUS, CAL_STORE_STATUS_DIRTY]

@[simp] theorem headState_calApplyAt (p : Nat → Bool) (d : Dev) : (d.calApplyAt p).headState w = d.headState w := by
  simp [Dev.calApplyAt]

@[simp] theorem headState_gmaLevel (k : Nat) (d : Dev) : (d.gmaLevel k).headState w = d.headState w := by
  simp [Dev.gmaLevel]

@[simp] theorem headState_vcomRLevel (d : Dev) : d.vcomRLevel.headState w = d.headState w := by
  simp [Dev.vcomRLevel]

@[simp] theorem headState_gammaCommit (h : Nat) (d : Dev) : (d.gammaCommit h).headState w = d.headState w := by
  simp [Dev.gammaCommit]

@[simp] theorem headState_cmdDone (h result : Nat) (d : Dev) : (d.cmdDone h result).headState w = d.headState w := by
  simp [Dev.cmdDone, HDn_CMD_STATUS, HDn_CMD_STATUS_RESULT, HDn_CMD_STATUS_STATE]

@[simp] theorem headState_cmdSend (h : Nat) (d : Dev) : (d.cmdSend h).headState w = d.headState w := by
  unfold Dev.cmdSend
  split
  · split
    · simp
    · split
      · simp
      · dsimp only
        split <;> simp [HDn_CMD_STATUS, HDn_CMD_STATUS_STATE]
  · rfl

@[simp] theorem headState_cmdRelease (h : Nat) (d : Dev) : (d.cmdRelease h).headState w = d.headState w := by
  simp [Dev.cmdRelease]

/-! ### Frames that end (R194, R231) -/

@[simp] theorem headState_lockApplied (h : Nat) (d : Dev) : (d.lockApplied h).headState w = d.headState w := by
  simp only [Dev.lockApplied, headState_ite]
  split_ifs <;> simp [LLh_CTRL, LLh_CTRL_STATE, LLh_UNDERRUN_COUNT, LLh_UNDERRUN_COUNT_V]

@[simp] theorem headState_rasterApplied (h : Nat) (d old : Dev) : (d.rasterApplied h old).headState w = d.headState w := by
  unfold Dev.rasterApplied
  extract_lets od d1 d2 d3 d4
  have h2 : d2.headState w = d.headState w := by
    simp [d2, d1, HDn_APPLIED_H, HDn_APPLIED_H_HACTIVE, HDn_APPLIED_H_HTOTAL, HDn_APPLIED_RATE, HDn_APPLIED_RATE_V, HDn_APPLIED_V,
      HDn_APPLIED_V_VACTIVE, HDn_APPLIED_V_VTOTAL]
  have h3 : d3.headState w = d.headState w := by
    rw [← h2, ← headState_fabricChanged h od d2 old]
    exact headState_foldS _ _ _ fun _ _ => by simp [LKj_STATUS, LKj_STATUS_LANES]
  have h4 : d4.headState w = d.headState w := by
    simp only [d4, headState_ite]
    split_ifs <;> simp [h3, HDn_STATUS, HDn_STATUS_FLOCK_LOCKED]
  simp [h4, HDn_STALL_STATUS, HDn_STALL_STATUS_VALID]

/-! ### Re-lunge (R372, R375) -/

@[simp] theorem headState_laneHunt (n : Nat) (d : Dev) : (d.laneHunt n).headState w = d.headState w := by
  simp [Dev.laneHunt]

@[simp] theorem headState_farFree (cls inst : Nat) (d : Dev) : (d.farFree cls inst).headState w = d.headState w := by
  simp [Dev.farFree, FAR_INVk, FAR_INVk_USED]

@[simp] theorem headState_spareReset (j : Nat) (d : Dev) : (d.spareReset j).headState w = d.headState w := by
  unfold Dev.spareReset
  extract_lets d0 d1 d2
  have h0 : d0.headState w = d.headState w := by
    simp only [d0, headState_ite]
    split <;> simp
  have h2 : d2.headState w = d.headState w := by
    simp [d2, d1, h0, LKj_STATUS, LKj_STATUS_SPARE_IN_USE, LKj_STATUS_SPARE_LANE, LKj_STATUS_SPARE_STATE]
  split
  · simp [h2, LNn_STATUS, LNn_STATUS_LINK_LANE]
  · exact h2

@[simp] theorem headState_alignState (j n : Nat) (d : Dev) : (d.alignState j n).headState w = d.headState w := by
  unfold Dev.alignState
  split
  simp [LNn_TX_STATUS, LNn_TX_STATUS_ASEQ, LNn_TX_STATUS_LANE, LNn_TX_STATUS_TXSTATE]

@[simp] theorem headState_testBlock (n : Nat) (d : Dev) : (d.testBlock n).headState w = d.headState w := by
  simp [Dev.testBlock]

@[simp] theorem headState_testSlot (j : Nat) (d : Dev) : (d.testSlot j).headState w = d.headState w := by
  simp [Dev.testSlot]

@[simp] theorem headState_testSlots (j : Nat) (d : Dev) : (d.testSlots j).headState w = d.headState w := by
  simp [Dev.testSlots]

@[simp] theorem headState_alignColumn (j : Nat) (d : Dev) : (d.alignColumn j).headState w = d.headState w := by
  simp [Dev.alignColumn]

@[simp] theorem headState_txStarts (j : Nat) (d : Dev) : (d.txStarts j).headState w = d.headState w := by
  simp [Dev.txStarts]

@[simp] theorem headState_relunge (j : Nat) (d : Dev) : (d.relunge j).headState w = d.headState w := by
  simp [Dev.relunge, LKj_STATUS, LKj_STATUS_LANES]

@[simp] theorem headState_rasterApplyStopped (h : Nat) (d : Dev) : (d.rasterApplyStopped h).headState w = d.headState w := by
  simp [Dev.rasterApplyStopped, HDn_SHADOW_STATE, HDn_SHADOW_STATE_V]

/-- A raster head that becomes STOPPED is STOPPED when all that its stop brings has taken place. -/
theorem headState_rasterStopped (d : Dev) : (d.rasterStopped w).headState w = 0 := by
  have hput : (d.put (HDn_STATUS_STATE w) 0).headState w = 0 := get_put_same _ _ _ (by simp [HDn_STATUS_STATE])
  simp [Dev.rasterStopped, HDn_STATUS_IDLE, HDn_STATUS_SWITCH_STEP, hput]

end Sys2Proof.Machine
end

section
/-! SUPPORT. The lock of an HPLL, its absence, and a re-gait's links that stay down (R262, R270, R272). -/
namespace Sys2Proof.Machine

/-! ### HPLL_LOCK (R262) -/

/-- A raster head whose HPLL locks for a start, at the time `t`. -/
def pllLocked (t : Nat) (u : HeadUnit) : HeadUnit :=
  { u with pllFor := 0, pllTries := 0, blankAt := t, flockWait := u.flockWait.map (fun _ => t + 10000) }

/-- Head `h`'s HPLL runs at `khz`. -/
def Dev.hpllAt (h khz : Nat) (d : Dev) : Dev := d.onTack (fun u => { u with hplls := updAt u.hplls (d.hpllOf h) (fun _ => khz) })

theorem hpllLock_start {h : Nat} {d : Dev} (hfor : (d.head h).pllFor = 1) :
    hpllLock h d = (((d.hpllAt h (d.app (HDn_GAIT_HPLL_KHZ_V h))).pllBit h true).onHead h (pllLocked (d.tb 3).total)).hpllRates h := by
  simp only [hpllLock, hfor]
  rfl

/-- What a lock and its rates write: TOP_PLL_STATUS and the rates of the heads. -/
def pllRegs : List Nat := TOP_PLL_STATUS :: (List.range 8).map HDn_APPLIED_RATE

section
variable (h : Nat) (d : Dev)

@[simp] theorem headState_pllBit (w : Fin 8) (locked : Bool) : (d.pllBit h locked).headState w = d.headState w := by
  simp [Dev.pllBit, TOP_PLL_STATUS_V, TOP_PLL_STATUS]

@[simp] theorem headState_hpllRates (w : Fin 8) : (d.hpllRates h).headState w = d.headState w :=
  headState_foldS _ _ _ fun k _ => headState_put _ _ _ (.inl (noHeadStatus_each 0x20080 0x2000 k (by decide) (by decide)))

@[simp] theorem pllBit_heads (locked : Bool) : (d.pllBit h locked).heads = d.heads := by
  unfold Dev.pllBit
  split
  · exact put_heads ..
  · rfl

@[simp] theorem hpllRates_heads : (d.hpllRates h).heads = d.heads := foldS_congr Dev.heads _ _ _ fun _ _ _ => put_heads ..

@[simp] theorem frame_pllBit (locked : Bool) : (d.pllBit h locked).frame pllRegs = d.frame pllRegs := by
  unfold Dev.pllBit
  split
  · exact frame_put _ _ _ _ List.mem_cons_self
  · rfl

@[simp] theorem frame_hpllRates : (d.hpllRates h).frame pllRegs = d.frame pllRegs :=
  foldS_congr (Dev.frame pllRegs) _ _ _ fun _ hk _ =>
    frame_put _ _ _ _ (List.mem_cons_of_mem _ (List.mem_map_of_mem (List.mem_of_mem_filter hk)))

end

theorem completes_hpllLock (s : State) (h : Fin 8) (hlive : s.live) (hfor : (s.dev.head h).pllFor = 1) (hlen : h.val < s.dev.heads.length) :
    Completes (.hpllLock h) s (fun e => e.get (HDn_STATUS_STATE h) = s.dev.headState h ∧ (e.head h).pllFor = 0 ∧
      keepsRegs pllRegs s.dev e ∧ keepsMem s.dev e) := by
  refine completes_on rfl hlive ?_
  rw [hpllLock_start hfor]
  refine ⟨?_, ?_, keeps_of_frame ?_⟩
  · rw [get_settle_of_le _ _ (by simp [HDn_STATUS_STATE, HDn_STATUS])]
    refine (headState_hpllRates _ _ h).trans ?_
    rw [headState_onHead, headState_pllBit, Dev.hpllAt, headState_onTack]
  · rw [settle_head, head_congr (hpllRates_heads ..), head_onHead_same _ (by rwa [pllBit_heads])]
    rfl
  · rw [frame_settle, frame_hpllRates, frame_onHead, frame_pllBit]
    rfl

/-! ### HPLL_LOCK_TIMEOUT (R272) -/

/-- The first two times the lock is tried again. -/
theorem hpllLockTimeout_again {h : Nat} {d : Dev} (hfor : (d.head h).pllFor ≠ 0) (htries : (d.head h).pllTries < 2) :
    hpllLockTimeout h d = d.onHead h (fun u => { u with pllTries := u.pllTries + 1 }) :=
  (if_neg hfor).trans (if_pos htries)

/-- Raster head `h` stops because its HPLL does not lock. -/
def Dev.pllFails (h : Nat) (d : Dev) : Dev :=
  (((d.onHead h (fun u => { u with pllFor := 0, pllTries := 0 })).rasterStopped h).put (HDn_STATUS_PLL_FAIL h) 1).flogWrite clsDevice 0 h
    [d.word (HDn_STATUS h)]

/-- The third time the head stops. -/
theorem hpllLockTimeout_fails {h : Nat} {d : Dev} (hfor : (d.head h).pllFor ≠ 0) (htries : 2 ≤ (d.head h).pllTries) :
    hpllLockTimeout h d = d.pllFails h :=
  (if_neg hfor).trans (if_neg (Nat.not_lt.2 htries))

theorem headState_pllFails (w : Fin 8) (d : Dev) : (d.pllFails w).headState w = 0 := by
  rw [Dev.pllFails, headState_flogWrite _ _ _ _ _ (by decide), headState_put _ _ _ (.inr (by simp [HDn_STATUS_PLL_FAIL])), headState_rasterStopped]

theorem pllFail_pllFails (w : Fin 8) (d : Dev) : (d.pllFails w).get (HDn_STATUS_PLL_FAIL w) = 1 :=
  (get_congr (headStatus_flogWrite (by decide) ..)).trans (get_put_same _ _ _ (by simp [HDn_STATUS_PLL_FAIL]))

theorem completes_hpllLockTimeout_again (s : State) (h : Fin 8) (hlive : s.live) (hfor : (s.dev.head h).pllFor ≠ 0)
    (htries : (s.dev.head h).pllTries < 2) (hlen : h.val < s.dev.heads.length) :
    Completes (.hpllLockTimeout h) s (fun e => (e.head h).pllTries = (s.dev.head h).pllTries + 1 ∧ keepsRegs [] s.dev e ∧
      keepsMem s.dev e) := by
  refine completes_on rfl hlive ?_
  rw [hpllLockTimeout_again hfor htries]
  refine ⟨?_, keeps_of_frame (by simp)⟩
  rw [settle_head, head_onHead_same _ hlen]

theorem completes_hpllLockTimeout_fails (s : State) (h : Fin 8) (hlive : s.live) (hfor : (s.dev.head h).pllFor ≠ 0)
    (htries : 2 ≤ (s.dev.head h).pllTries) :
    Completes (.hpllLockTimeout h) s (fun e => e = settle (s.dev.pllFails h) ∧ e.headState h = 0 ∧ e.get (HDn_STATUS_PLL_FAIL h) = 1) := by
  have hle : 0x1000 ≤ HDn_STATUS h := by simp [HDn_STATUS]
  refine completes_on rfl hlive ?_
  rw [hpllLockTimeout_fails hfor htries]
  exact ⟨rfl, (get_settle_of_le _ (HDn_STATUS_STATE h) hle).trans (headState_pllFails h s.dev),
    (get_settle_of_le _ _ hle).trans (pllFail_pllFails h s.dev)⟩

/-! ### REGAIT_LUNGE_TIMEOUT (R270) -/

theorem completes_regaitLungeTimeout (s : State) (h : Fin 8) (hlive : s.live) (hstate : s.dev.headState h = 3)
    (hstep : s.dev.get (HDn_STATUS_SWITCH_STEP h) = 3) (hlen : h.val < s.dev.heads.length) :
    Completes (.regaitLungeTimeout h) s (fun e => (e.head h).lungeWait = [] ∧ keepsRegs [] s.dev e ∧ keepsMem s.dev e) := by
  refine completes_on rfl hlive ?_
  rw [regaitLungeTimeout, if_pos ⟨hstate, hstep⟩]
  refine ⟨?_, keeps_of_frame (by simp)⟩
  rw [settle_head, head_onHead_same _ hlen]

/-- Settles O22: a lock clears what the HPLL was retuned for and sets the rates; its absence counts, and the third time the head is STOPPED
with PLL_FAIL, which all that follows its stop keeps; a re-gait's links that stay down no longer hold it. -/
theorem hpllEvents : Obligations.HpllEvents :=
  ⟨fun _ _ hs => completes_on rfl hs rfl, fun _ _ hs => completes_on rfl hs rfl, fun _ _ hs => completes_on rfl hs rfl,
    completes_hpllLock, completes_hpllLockTimeout_again, completes_hpllLockTimeout_fails, completes_regaitLungeTimeout⟩

end Sys2Proof.Machine
end

section
/-! SUPPORT. The bring-up of a link (R299, R374, R375), which a concrete block refutes: a panel that is written again while its head runs. -/
namespace Sys2Proof.Machine

/-! ### A MIP panel whose link comes up while its head runs -/

/-- RUN with MIP head 0 running, its share one unit of records. The link of its panel has fallen and is in GREET again, its lane ALIGNED. -/
def panelGreets : Dev :=
  (((((((rdy.put TOP_STATUS_MODE 4).put (TACK_HEADn_PRESENT 0) 1).put (TACK_HEADn_CLASS 0) 1).put (TACK_LEDGERn_UNITS 0) 1).put
    (HDn_STATUS_STATE 0) 1).put (LKj_STATUS_STATE 0) 2).put (LNn_STATUS_RXSTATE 0) 3).onTack
    (fun u => { u with links := [{ profile := 3, lanes := [0], owner := 0, rate := 1 }] })

/-- The partner's GREET set, which fits the link. -/
def panelGreet : Greet := { nodeId := 0, profile := 3, lanes := 1, rates := 1, vendor := 0, device := 0, caps := 0, req := 0, done := 0 }

/-- The set fits, and its full push sets FULL, bit 13, in the head's first record. -/
theorem panelGreets_recordStored :
    (panelGreets.halted = false ∧ panelGreets.linkState 0 = 2 ∧
      (panelGreets.streamLanes 0).all (fun n => panelGreets.laneState n != 3) = false ∧
      panelGreet.profile = (panelGreets.linkEntry 0).profile ∧ panelGreet.lanes = panelGreets.linkLanes 0) ∧
    (settle (greetSetRx 0 panelGreet panelGreets)).byteAt 0x4100000001 ≠ panelGreets.byteAt 0x4100000001 := by decide +kernel

/-- Refutes O32: the clause of a GREET set that fits says that device memory is kept. On a MIP_PANEL link whose head runs, the bring-up is
followed by a full push, which sets FULL in every record of the head's share (R299), and so it is in `panelGreets`. -/
theorem not_linkAlignment : ¬ Obligations.LinkAlignment := by
  unfold Obligations.LinkAlignment
  rintro ⟨-, -, -, -, -, -, -, -, -, -, -, hfits, -⟩
  obtain ⟨⟨hlive, hstate, haligned, hprofile, hlanes⟩, hstored⟩ := panelGreets_recordStored
  obtain ⟨-, -, hmem⟩ :=
    (hfits { pending := [], dev := panelGreets } 0 panelGreet hlive (.inl hstate) haligned hprofile hlanes).effect rfl hlive
  exact hstored (hmem 0x4100000001)

end Sys2Proof.Machine
end

section
/-! SUPPORT. The MIP heads (R298, R321, R322): the statements about their RUN and about their readback, which a concrete block refutes.
The blocks are evaluated by `decide` with the irreducible register operations unfolded. -/
namespace Sys2Proof.Machine

/-! ### RUN while a closing kick runs -/

/-- A write of HDn_CTRL leaves the class of the head alone. -/
theorem isMip_writePlain_ctrl (h v : Nat) (d : Dev) : (d.writePlain (HDn_CTRL h) v).isMip h = d.isMip h := by
  have hne : HDn_CTRL h ≠ TACK_HEADn h := by simp only [HDn_CTRL, TACK_HEADn]; omega
  simp [Dev.isMip, Dev.headPresent, Dev.flag, get_writePlain_other, TACK_HEADn_PRESENT, TACK_HEADn_CLASS, hne]

theorem headState_writePlain_ctrl (h v : Nat) (d : Dev) : (d.writePlain (HDn_CTRL h) v).headState h = d.headState h :=
  get_writePlain_other _ _ _ _ (by simp only [HDn_CTRL, HDn_STATUS_STATE, HDn_STATUS]; omega)

/-- While a closing kick runs a head stays in STOPPING (R321). -/
theorem mipRun_closing {h : Nat} {d : Dev} (hstate : d.headState h = 2) (hcut : (d.mip h).runs.any (·.cut) = true) : d.mipRun h true = d := by
  unfold Dev.mipRun
  rw [hstate]
  exact if_pos hcut

/-- RUN = 1 written then stores RUN and does no more. -/
theorem headCtrlWrite_closing {h : Nat} {d : Dev} (hw : d.writeOk (HDn_CTRL h) 1 = true) (hmip : d.isMip h = true)
    (hok : d.mipRunOk h = true) (hstate : d.headState h = 2) (hcut : (d.mip h).runs.any (·.cut) = true) :
    headCtrlWrite h 1 d = d.writePlain (HDn_CTRL h) 1 := by
  have hpresent : d.headPresent h = true := by
    rw [Dev.isMip, Bool.and_eq_true] at hmip
    exact hmip.1
  have hkept : ((d.writePlain (HDn_CTRL h) 1).mip h).runs.any (·.cut) = true := by rwa [Dev.mip, writePlain_head]
  rw [headCtrlWrite, writeVia_taken _ _ _ _ _ hw (by simp [hpresent, hmip, hok])]
  refine (if_pos ((isMip_writePlain_ctrl ..).trans hmip)).trans ?_
  exact mipRun_closing ((headState_writePlain_ctrl ..).trans hstate) hkept

/-- RUN with MIP head 0 in STOPPING after a per-head reset. The kicks of tile 0 summed to 1, so that a closing kick of one half-period
runs on it. -/
def closingKick : Dev :=
  ((((rdy.put TOP_STATUS_MODE 4).put (TACK_HEADn_PRESENT 0) 1).put (TACK_HEADn_CLASS 0) 1).put (HDn_STATUS_STATE 0) 2).onMip 0
    (fun u => { u with runs := [{ tile := 0, left := 1, kicks := 1, cut := true, closing := 1 }] })

theorem closingKick_fits : ({ pending := [], dev := closingKick } : State).takes (HDn_CTRL 0) 1 ∧ closingKick.isMip 0 = true ∧
    closingKick.headState 0 = 2 ∧ closingKick.mipRunOk 0 = true ∧ (closingKick.mip 0).runs.any (·.cut) = true := by
  with_unfolding_all decide

/-- The write is taken, and the head stays in STOPPING. -/
theorem closingKick_staysStopping :
    (settle (if closingKick.isMip 0 then Dev.pcie (.reg (HDn_CTRL 0) 1) (headCtrlWrite 0 1) closingKick else closingKick)).get
      (HDn_STATUS_STATE 0) = 2 := by
  obtain ⟨⟨⟨-, hmode, habout⟩, hw⟩, hmip, hstate, hok, hcut⟩ := closingKick_fits
  rw [if_pos hmip, pcie_now _ _ _ hmode habout, headCtrlWrite_closing hw hmip hok hstate hcut, get_settle_of_le _ _ (by decide)]
  exact (headState_writePlain_ctrl ..).trans hstate

/-- Refutes O26: the clause of RUN = 1 written to a head in STOPPING says that the head is RUNNING after it, whatever waveforms run. While a
closing kick runs the head stays in STOPPING (R321), and so it does in `closingKick`. -/
theorem not_mipHeads : ¬ Obligations.MipHeads := by
  unfold Obligations.MipHeads
  rintro ⟨-, -, -, -, -, -, hresume, -⟩
  obtain ⟨htakes, hmip, hstate, hok, -⟩ := closingKick_fits
  obtain ⟨hrunning, -⟩ := (hresume { pending := [], dev := closingKick } 0 htakes hmip hstate hok).effect rfl htakes.1.1
  exact absurd (closingKick_staysStopping.symm.trans hrunning) (by decide)

/-! ### An answer of readback that echoes the wrong fields -/

/-- The answer to row `row`, plane `plane` is awaited no longer; one that was not awaited stands for the oldest. -/
def MipUnit.answered (row plane : Nat) (u : MipUnit) : MipUnit :=
  { u with rbAwait := if u.rbAwait.contains (row, plane) then u.rbAwait.erase (row, plane) else u.rbAwait.drop 1 }

/-- An answer that does not start at column 0 is a failure, and it is the answer that was awaited (R322). -/
theorem mipReadDataRx_wrongStart {h first : Nat} {d : Dev} (hmip : d.isMip h = true) (hon : d.readbackOn h = true) (hfirst : first ≠ 0)
    (plane row count : Nat) (payload : List Byte) (crc : Nat) :
    mipReadDataRx h plane row first count payload crc d = (d.onMip h (MipUnit.answered row plane)).readbackFailure h := by
  rw [mipReadDataRx, if_neg (by simp [hmip, hon]), if_pos (.inr (.inl hfirst))]
  rfl

/-- RUN with MIP head 0 RUNNING and its readback on; the READ_DATA of row 3, plane 1 is awaited. -/
def rowAwaited : Dev :=
  (((((rdy.put TOP_STATUS_MODE 4).put (TACK_HEADn_PRESENT 0) 1).put (TACK_HEADn_CLASS 0) 1).put (HDn_STATUS_STATE 0) 1).setAppWord
    (HDn_MIP_CHECK 0) (2 ^ 31)).onMip 0 (fun u => { u with rbAwait := [(3, 1)] })

theorem rowAwaited_readsBack : rowAwaited.halted = false ∧ rowAwaited.isMip 0 = true ∧ rowAwaited.readbackOn 0 = true := by
  with_unfolding_all decide

/-- An answer for row 3, plane 1 that starts at column 8 leaves none awaited. -/
theorem rowAwaited_wrongStart_answered (crc : Nat) : ((settle (mipReadDataRx 0 1 3 8 0 [] crc rowAwaited)).mip 0).rbAwait = [] := by
  obtain ⟨-, hmip, hon⟩ := rowAwaited_readsBack
  rw [mipReadDataRx_wrongStart hmip hon (by decide)]
  with_unfolding_all decide

/-- A first failure of readback, no more, leaves it awaited. -/
theorem rowAwaited_failure_awaits : ((settle (rowAwaited.readbackFailure 0)).mip 0).rbAwait = [(3, 1)] := by with_unfolding_all decide

/-- Refutes O27: the clause of an answer that echoes the wrong fields says that the next block is the one after a failure of readback, no
more. Such an answer is also the one that was awaited (R322), so that in `rowAwaited` none is awaited any longer; otherwise its timeout
would count a second failure. -/
theorem not_mipPasses : ¬ Obligations.MipPasses := by
  unfold Obligations.MipPasses
  rintro ⟨-, -, -, -, -, hecho, -⟩
  obtain ⟨hlive, hmip, hon⟩ := rowAwaited_readsBack
  have hblock := (hecho { pending := [], dev := rowAwaited } 0 1 3 8 0 [] 0 hlive hmip hon (.inl (by decide))).effect rfl hlive
  have hawaited := congrArg (fun e => (Dev.mip e 0).rbAwait) hblock
  exact absurd ((rowAwaited_wrongStart_answered 0).symm.trans (hawaited.trans rowAwaited_failure_awaits)) (by decide)

end Sys2Proof.Machine
end

section
/-! SUPPORT. The loads of waveform tables and the halter area (R303, R326, R330). -/
namespace Sys2Proof.Machine

variable (d : Dev)

@[simp] theorem frame_onHarn (l : List Nat) (u : HarnUnit → HarnUnit) : (d.onHarn u).frame l = d.frame l :=
  frame_congr (fun _ _ _ => onHarn_word ..) fun _ => onHarn_byteAt ..

@[simp] theorem frame_onMip (l : List Nat) (h : Nat) (u : MipUnit → MipUnit) : (d.onMip h u).frame l = d.frame l := frame_onHead ..

@[simp] theorem writePlain_harn (r v : Nat) : (d.writePlain r v).harn = d.harn := writePlain_congr Dev.harn setWord_harn d r v

/-! ### The start of a load (R303) -/

/-- GO, HEAD and BUFFER of the word that starts a load. -/
theorem wtLoad_fields : ∀ (h : Fin 8) (b : Fin 2), bitOf (2 ^ 31 + 256 * b.val + h.val) 31 = true ∧
    bitsOf (2 ^ 31 + 256 * b.val + h.val) 0 3 = h.val ∧ bitsOf (2 ^ 31 + 256 * b.val + h.val) 8 1 = b.val := by decide

variable {d}

/-- A load of a MIP head's buffer that finds none in progress begins. -/
theorem wtLoadWrite_begins {h : Fin 8} {b : Fin 2} (hw : d.writeOk MIP_WT_LOAD (2 ^ 31 + 256 * b.val + h.val) = true)
    (hmip : d.isMip h = true) (hidle : d.harn.wtLoad = none) :
    wtLoadWrite (2 ^ 31 + 256 * b.val + h.val) d = ((d.writePlain MIP_WT_LOAD (2 ^ 31 + 256 * b.val + h.val)).put MIP_WT_STATUS_STATE 1).onHarn
      (fun u => { u with wtLoad := some (h.val, b.val) }) := by
  obtain ⟨hgo, hhead, hbuffer⟩ := wtLoad_fields h b
  rw [wtLoadWrite, writeVia_taken _ _ _ _ _ hw (by rw [hgo, hhead, hmip, hidle]; rfl), if_pos hgo, hhead, hbuffer]

theorem completes_mipWtLoad (s : State) (h : Fin 8) (b : Fin 2) (ht : s.takes MIP_WT_LOAD (2 ^ 31 + 256 * b.val + h.val))
    (hmip : s.dev.isMip h = true) (hidle : s.dev.harn.wtLoad = none) :
    Completes (.mipWtLoad h b) s (fun e => e.get MIP_WT_STATUS_STATE = 1 ∧ e.harn.wtLoad = some (h.val, b.val) ∧
      keepsRegs [MIP_WT_LOAD, MIP_WT_STATUS] s.dev e ∧ keepsMem s.dev e) := by
  refine completes_hostWrite rfl ht.1 ?_
  rw [wtLoadWrite_begins ht.2 hmip hidle]
  refine ⟨?_, ?_, keeps_of_frame (by simp [MIP_WT_STATUS_STATE])⟩
  · rw [get_settle_of_le _ _ (by decide), onHarn_get, get_put_same _ _ _ (by decide)]
    rfl
  · rw [settle_harn]
    rfl

/-! ### Its end (R303) -/

/-- A load's end leaves no load in progress. -/
def Dev.wtLoadOver (d : Dev) : Dev := d.onHarn (fun u => { u with wtLoad := none })

/-- What a load of buffer `b` of head `h` leaves whose source does not lie in DRAM: code 8, SOURCE. -/
def Dev.wtSourceError (h b : Nat) (d : Dev) : Dev :=
  Dev.mipEvt 2 ((d.wtLoadOver.put MIP_WT_STATUS_STATE 3).setWord MIP_WT_ERR (8 * 2 ^ 28 + 0 * 2 ^ 24 + 0 * 2 ^ 16 + 0 * 256 + b * 8 + h)) h

theorem wtLoadDone_outside {h b : Nat} (errs : List (Nat × Ecc)) (hload : d.harn.wtLoad = some (h, b))
    (hsrc : dramEnd < d.get MIP_WT_SRC_LO_V + d.get MIP_WT_SRC_HI_V * 2 ^ 32 + 32768) (hfree : d.wtLoadOver.wtInUse h b = false) :
    wtLoadDone errs d = d.wtSourceError h b := by
  unfold wtLoadDone
  rw [hload]
  extract_lets src inside
  have hin : inside = false := decide_eq_false (Nat.not_le_of_lt hsrc)
  clear_value inside
  subst hin
  rw [Dev.wtLoadOver] at hfree
  simp only [hfree, Bool.false_eq_true, if_false, if_true, Dev.wtSourceError, Dev.wtLoadOver]

/-- An event of the MIP block leaves the harness alone. -/
theorem mipEvt_harn (b inst : Nat) : (d.mipEvt b inst).harn = d.harn := by
  have hharn : SeesNoPost clsMip Dev.harn :=
    { lanes := fun _ _ => rfl, links := fun _ _ => rfl, sent := fun _ _ => rfl, mem := fun _ _ => rfl, memu := fun _ _ => rfl,
      evt := fun _ _ _ _ _ _ => rfl, regs := fun _ _ _ _ => setWord_harn .. }
  exact hharn.raiseAt d _ _ inst b fun _ _ => setWord_harn ..

/-- So it does every register that is neither the status of such events nor the ring's. -/
theorem get_mipEvt {f : Fld} (hring : f.addr ∉ ringRegs clsMip) (hevt : MIP_EVT_STATUS ≠ f.addr) (b inst : Nat) :
    (d.mipEvt b inst).get f = d.get f :=
  get_congr ((seesNoPost_word hring).raiseAt d _ _ inst b fun _ _ => word_setWord_other _ _ _ _ hevt)

theorem wtSourceError_state (h b : Nat) : (d.wtSourceError h b).get MIP_WT_STATUS_STATE = 3 := by
  rw [Dev.wtSourceError, get_mipEvt (by decide) (by decide), get_setWord_other _ _ _ _ (by decide), get_put_same _ _ _ (by decide)]
  rfl

theorem wtSourceError_wtLoad (h b : Nat) : (d.wtSourceError h b).harn.wtLoad = none := by
  rw [Dev.wtSourceError, mipEvt_harn, setWord_harn, put_harn]
  rfl

theorem completes_mipWtLoadDone_outside (s : State) (errs : List (Nat × Ecc)) (h b : Nat) (hlive : s.live)
    (hload : s.dev.harn.wtLoad = some (h, b))
    (hsrc : dramEnd < s.dev.get MIP_WT_SRC_LO_V + s.dev.get MIP_WT_SRC_HI_V * 2 ^ 32 + 32768) (hfree : s.dev.wtLoadOver.wtInUse h b = false) :
    Completes (.mipWtLoadDone errs) s (fun e => e = settle (s.dev.wtSourceError h b) ∧ e.get MIP_WT_STATUS_STATE = 3 ∧ e.harn.wtLoad = none) := by
  refine completes_on rfl hlive ?_
  rw [wtLoadDone_outside errs hload hsrc hfree, get_settle_of_le _ _ (by decide), settle_harn]
  exact ⟨rfl, wtSourceError_state h b, wtSourceError_wtLoad h b⟩

/-! ### The halter area (R326, R330) -/

theorem completes_halterRender (s : State) (hlive : s.live) (hon : s.dev.halterOn = true) :
    Completes .halterRender s (fun e => e = settle s.dev.haltRender) :=
  completes_on rfl hlive (congrArg settle (if_pos hon))

/-- The phase of the halter head at the present instant: 0 in the first half of a second of TB1. -/
def Dev.halterPhaseNow (d : Dev) : Nat := if (d.tb 1).ns < 500000000 then 0 else 1

/-- Common `c` is driven to its level of phase `p`. -/
def Dev.halterLevel (p c : Nat) (d : Dev) : Dev :=
  d.onHarn (fun u => { u with com := updAt u.com c (fun _ => if d.comHigh c p then d.getI (BIASc_VCOMH_MV_V c) else d.getI (BIASc_VCOML_MV_V c)) })

/-- The commons of the halter head take the levels of its phase. -/
def Dev.halterPhaseSet (d : Dev) : Dev :=
  let h := d.get MIP_HALT_CTRL_HEAD
  foldS (d.coms h) (Dev.halterLevel d.halterPhaseNow) (d.onMip h (fun u => { u with phase := d.halterPhaseNow }))

theorem halterPhase_on (hon : d.halterOn = true) (hpanel : d.panelState (d.get MIP_HALT_CTRL_HEAD) = 2) : halterPhase d = d.halterPhaseSet := by
  rw [halterPhase, hon, hpanel]
  rfl

variable (d) in
theorem frame_halterPhaseSet (l : List Nat) : d.halterPhaseSet.frame l = d.frame l :=
  (foldS_congr (Dev.frame l) _ _ _ fun _ _ _ => frame_onHarn ..).trans (frame_onMip ..)

/-- Only the phase of the halter head changes in its unit. -/
theorem halterPhaseSet_phase (hlen : d.get MIP_HALT_CTRL_HEAD < d.heads.length) :
    (d.halterPhaseSet.mip (d.get MIP_HALT_CTRL_HEAD)).phase = d.halterPhaseNow := by
  have hheads : d.halterPhaseSet.heads = (d.onMip (d.get MIP_HALT_CTRL_HEAD) (fun u => { u with phase := d.halterPhaseNow })).heads :=
    foldS_congr Dev.heads _ _ _ fun _ _ _ => rfl
  rw [Dev.mip, head_congr hheads, Dev.onMip, head_onHead_same _ hlen]

theorem completes_halterPhase (s : State) (hlive : s.live) (hon : s.dev.halterOn = true)
    (hpanel : s.dev.panelState (s.dev.get MIP_HALT_CTRL_HEAD) = 2) :
    Completes .halterPhase s (fun e => keepsRegs [] s.dev e ∧ keepsMem s.dev e ∧
      (s.dev.get MIP_HALT_CTRL_HEAD < s.dev.heads.length → (e.mip (s.dev.get MIP_HALT_CTRL_HEAD)).phase = s.dev.halterPhaseNow)) := by
  refine completes_on rfl hlive ?_
  rw [halterPhase_on hon hpanel]
  obtain ⟨hregs, hmem⟩ := keeps_of_frame (l := []) ((frame_settle [] s.dev.halterPhaseSet).trans (frame_halterPhaseSet s.dev []))
  refine ⟨hregs, hmem, fun hlen => ?_⟩
  rw [Dev.mip, settle_head]
  exact halterPhaseSet_phase hlen

theorem completes_haltBmpDataRead (s : State) (hlive : s.live) (hopen : s.dev.regOpen MIP_HALT_BMP_DATA = true) :
    Completes .haltBmpDataRead s (fun e => e.sent = .completion false [s.dev.bmpWord] :: s.dev.sent ∧
      e.get MIP_HALT_BMP_ADDR_V = (s.dev.get MIP_HALT_BMP_ADDR_V + 4) % 2048 ∧ keepsRegs [MIP_HALT_BMP_ADDR] s.dev e ∧ keepsMem s.dev e) := by
  refine completes_on rfl hlive ?_
  rw [bmpDataRead, if_pos hopen, Dev.bmpNext, send_get]
  refine ⟨?_, ?_, keeps_of_frame (by simp [MIP_HALT_BMP_ADDR_V])⟩
  · rw [settle_sent, put_sent]
    rfl
  · rw [get_settle_of_le _ _ (by decide), get_put_same _ _ _ (by decide)]
    exact Nat.mod_mod _ _

/-- Settles O28: a load begins and ends in its status and in the harness, whatever event its end posts; the halter head's commons change
levels in the harness alone; and a read of the bitmap sends a word and moves the address on. -/
theorem waveAndHalter : Obligations.WaveAndHalter :=
  ⟨fun _ _ _ hs => completes_on rfl hs rfl, fun _ _ hs => completes_on rfl hs rfl, fun _ hs => completes_on rfl hs rfl,
    fun _ hs => completes_on rfl hs rfl, fun _ hs => completes_on rfl hs rfl, completes_mipWtLoad, completes_mipWtLoadDone_outside,
    completes_halterRender, completes_halterPhase, completes_haltBmpDataRead⟩

end Sys2Proof.Machine
end

section
/-! SUPPORT. The harness die and the supplies (R42, R349, R525): the statements about HOLD and about shedding, which a concrete block
refutes. The blocks are evaluated by `decide` with the irreducible register operations unfolded; the two whole commands recur deeply. -/
namespace Sys2Proof.Machine

/-! ### SHED3 with a re-gait under way (R43, R479, R525) -/

/-- READY with shedding enabled and a re-gait of raster head 0 under way: its sealed set changes the rate of its link 0, whose one lane
has the number 8091, and a result waits for item 43 + 8091 until that lane aligns. Lanes are numbered below 36 and items below 88
(R43, R479), so no image brings this about, but `Dev` as plain data can hold it. CAL_ITEMi of that item is POWER_SHED_STATUS. -/
def strayLane : Dev :=
  let regs := ((((((rdy.put (TACK_HEADn_PRESENT 0) 1).put (HDn_STATUS_STATE 0) 3).put (HDn_SHADOW_STATE_V 0) 1).put
    (HDn_GAIT_LINK_RATE 0) 1).put (LKj_STATUS_STATE 0) 1).put POWER_SHED_CTRL_ENABLE 1)
  let linked := regs.onTack (fun u => { u with links := [{ profile := 2, lanes := [8091], owner := 0, rate := 2 }] })
  let waiting := linked.onCal (fun u => { u with results := [{ item := 8134, kind := 0, m := ⟨0, 0, 0, 0, 0, 0⟩ }] })
  waiting.onHead 0 (fun u => { u with sect := { u.sect with chain := [⟨14, [], false, 0, 0, 1⟩] } })

theorem strayLane_ready : strayLane.halted = false ∧ strayLane.mode = 3 ∧ strayLane.rung = 0 := by with_unfolding_all decide

/-- SHED3 is enabled and not in force, and 9.0 V is below its threshold. -/
theorem strayLane_mayShed : strayLane.flag POWER_SHED_CTRL_ENABLE = true ∧ strayLane.shedLevel < 3 ∧
    9000 < strayLane.get (POWER_SHED_THRESHk_V 2) := by with_unfolding_all decide

set_option maxRecDepth 4000 in
/-- SHED3 stops the head, its set applies, and the lane's ALIGN block applies the result: the item's STATE clears the upper two bits of
LEVEL. -/
theorem strayLane_shed : (settle (shedReached 3 9000 strayLane)).shedLevel = 1 := by with_unfolding_all decide

/-- Refutes O6: its clause about SHED1 to SHED3 does not ask that the lanes of a link are lane numbers below 36: in `strayLane` the
stop of a head by SHED3 ends with LEVEL = 1. -/
theorem not_supplyEvents : ¬ Obligations.SupplyEvents := by
  unfold Obligations.SupplyEvents
  rintro ⟨-, -, -, -, -, -, -, hreached, -⟩
  obtain ⟨hlive, hmode, hrung⟩ := strayLane_ready
  obtain ⟨henabled, hlevel, hmv⟩ := strayLane_mayShed
  have hdone := hreached { pending := [], dev := strayLane } 3 9000 hlive (by decide) (by decide) henabled hlevel hmv
    (Nat.le_of_eq hmode.symm) (hmode.trans_le (by decide)) hrung
  obtain ⟨-, hshed, -⟩ := hdone.effect rfl hlive
  exact absurd (hshed.symm.trans strayLane_shed) (by decide)

/-! ### HOLD_EXHAUSTED with a sealed set of a MIP head (R48, R296, R349) -/

/-- READY with a MIP head 0 whose sealed set waits for its rest, and with GMA3 at 5 V for head 1. The chain of head 0 names the engine
0x2833: engines are numbered below 28 (R48), so no image brings this about, but `Dev` as plain data can hold it. SEk_STATUS of that
engine is GMA3_CTRL. -/
def strayGamma : Dev :=
  let regs := ((((rdy.put (TACK_HEADn_PRESENT 0) 1).put (TACK_HEADn_CLASS 0) 1).put (HDn_SHADOW_STATE_V 0) 1).put (GMAk_CTRL_ENABLE 3) 1).put
    (GMAk_CTRL_HEAD 3) 1
  let driven := regs.onHarn (fun u => { u with gma := List.replicate 18 5000 })
  driven.onHead 0 (fun u => { u with sect := { u.sect with chain := [⟨1, [0x2833], false, 0, 0, 0⟩] } })

theorem strayGamma_owned : strayGamma.halted = false ∧ strayGamma.ownsGma (1 : Fin 8) (3 : Fin 18) = true ∧
    (3 : Fin 18).val < strayGamma.harn.gma.length := by with_unfolding_all decide

set_option maxRecDepth 4000 in
/-- The outputs of head 0 go first, and its set applies: the engine's STATE clears ENABLE of GMA3, which head 1 then no longer owns. -/
theorem strayGamma_exhausted : nth 1 (settle (holdExhausted (4000 : Fin 65536) strayGamma)).harn.gma (3 : Fin 18) = 5000 := by with_unfolding_all decide

/-- Refutes O9: its clause about HOLD_EXHAUSTED does not ask that the engines of a chain are engine numbers below 28: in `strayGamma`
GMA3 keeps its 5 V. -/
theorem not_harnessMeasurements : ¬ Obligations.HarnessMeasurements := by
  unfold Obligations.HarnessMeasurements
  rintro ⟨-, -, -, -, -, -, -, -, -, -, hexhausted, -⟩
  obtain ⟨hlive, hown, hlen⟩ := strayGamma_owned
  obtain ⟨-, hzero⟩ := (hexhausted { pending := [], dev := strayGamma } 4000 hlive).effect rfl hlive
  have hgma := hzero 1 3 hown hlen
  dsimp only at hgma
  exact absurd (hgma.symm.trans strayGamma_exhausted) (by decide)

end Sys2Proof.Machine
end

section
/-! SUPPORT. Panel states (R341): what the operations on panels, outputs, pumps and pins leave of them, and of the registers of the
harness die. -/
namespace Sys2Proof.Machine

/-! ### Registers of the harness die under calibration and events (R490, R591) -/

/-- Is `r` a register of the harness die (chapter 09)? -/
def harnessReg (r : Nat) : Prop := 0x38000 ≤ r ∧ r < 0x39000

section
variable {r : Nat} (hr : harnessReg r)
include hr

theorem word_put_ofCal {f : Fld} (hf : 0x78000 ≤ f.addr) (d : Dev) (x : Nat) : (d.put f x).word r = d.word r :=
  word_put_other _ _ _ _ fun e => by
    obtain ⟨-, hhigh⟩ := hr
    omega

theorem word_raiseAt_ofHarness {cls : Nat} (hcls : cls < 16) {status : Nat} (hs : status ≠ r) (d : Dev) (enable inst b : Nat) :
    (d.raiseAt status enable cls inst b).word r = d.word r :=
  (seesNoPost_word (cls := cls) fun hm => by
    obtain ⟨hlow, hhigh⟩ := hr
    simp only [ringRegs, EVT_CLASS_COUNTk, EVT_LOST_COUNT, EVT_STATUS, EVT_PROD, EVT_POSTED_COUNT, EVT_HIGH_WATER, MEM_COUNTk,
      List.mem_cons, List.not_mem_nil, or_false] at hm
    omega).raiseAt d status enable inst b fun e v => word_setWord_other e _ v _ hs

theorem word_calEnded_ofHarness (i abort reason : Nat) (d : Dev) : (d.calEnded i abort reason).word r = d.word r := by
  rw [Dev.calEnded, word_put_ofCal hr (Nat.le_add_right_of_le (by decide)), word_put_ofCal hr (by decide), word_put_ofCal hr (by decide),
    word_put_ofCal hr (by decide), word_put_ofCal hr (by decide)]

theorem word_calAbort_ofHarness (i abort reason : Nat) (d : Dev) : (d.calAbort i abort reason).word r = d.word r := by
  have hevt : CAL_EVT_STATUS ≠ r := fun e => by simp [← e, harnessReg, CAL_EVT_STATUS] at hr
  rw [Dev.calAbort, Dev.calSync, word_put_ofCal hr (by decide), Dev.putB, word_put_ofCal hr (by decide), Dev.calEvt,
    word_raiseAt_ofHarness hr (by decide) hevt, Dev.inc, Dev.addSat, word_put_ofCal hr (Nat.le_add_right_of_le (by decide)),
    word_calEnded_ofHarness hr, word_put_ofCal hr (Nat.le_add_right_of_le (by decide)), onCal_word]

/-- The runs that end leave the harness die's registers alone. -/
theorem word_calCancel_ofHarness (p : Nat → Bool) (d : Dev) : (d.calCancel p).word r = d.word r :=
  foldS_congr (fun e => Dev.word e r) _ _ _ fun _ _ _ => word_calAbort_ofHarness hr ..

theorem word_harEvt_ofHarness (hne : HAR_EVT_STATUS ≠ r) (b inst : Nat) (d : Dev) : (d.harEvt b inst).word r = d.word r :=
  word_raiseAt_ofHarness hr (by decide) hne ..

end

/-! ### Panel states under stores and outputs -/

theorem harnessReg_panelStatus (w : Fin 8) : harnessReg (PANELh_STATUS w) := by
  simp only [harnessReg, PANELh_STATUS]
  omega

variable {w : Fin 8}

/-- Two blocks with the same registers show the same panel states. -/
theorem panelState_of_regs {d e : Dev} (h : e.regs = d.regs) : e.panelState w = d.panelState w := by
  simp only [Dev.panelState, Dev.get, Dev.word, Dev.wordBv, h]

theorem panelState_of_word {d e : Dev} (h : e.word (PANELh_STATUS w) = d.word (PANELh_STATUS w)) : e.panelState w = d.panelState w :=
  get_congr h

@[simp] theorem panelState_settle (d : Dev) : (settle d).panelState w = d.panelState w :=
  get_settle_of_le _ _ (aboveTop_indexed _ _ (by decide))

/-- A store outside the STATE fields of PANELh_STATUS. -/
theorem panelState_put (d : Dev) (f : Fld) (x : Nat) (h : f.addr ≠ PANELh_STATUS w ∨ f.lo + f.w ≤ 29) :
    (d.put f x).panelState w = d.panelState w :=
  get_put_other _ _ _ _ (h.imp_right .inl) (by simp [PANELh_STATUS_STATE])

/-- A store below the panels' registers. -/
@[simp] theorem panelState_put_below (d : Dev) (f : Fld) (x : Nat) (h : f.addr < 0x38604) : (d.put f x).panelState w = d.panelState w :=
  panelState_put _ _ _ (.inl (h.trans_le (Nat.le_add_right _ _)).ne)

@[simp] theorem panelState_onHarn (d : Dev) (f : HarnUnit → HarnUnit) : (d.onHarn f).panelState w = d.panelState w := panelState_of_regs rfl
@[simp] theorem panelState_onPanel (d : Dev) (h : Nat) (f : PanelUnit → PanelUnit) : (d.onPanel h f).panelState w = d.panelState w :=
  panelState_of_regs rfl
@[simp] theorem panelState_onPins (d : Dev) (f : PinUnit → PinUnit) : (d.onPins f).panelState w = d.panelState w := panelState_of_regs rfl

theorem panelState_harEvt (b inst : Nat) (d : Dev) : (d.harEvt b inst).panelState w = d.panelState w :=
  panelState_of_word (word_harEvt_ofHarness (harnessReg_panelStatus w) (by simp only [HAR_EVT_STATUS, PANELh_STATUS]; omega) _ _ _)

@[simp] theorem panelState_drive (p : Nat) (high : Bool) (d : Dev) : (d.drive p high).panelState w = d.panelState w := by
  unfold Dev.drive
  split
  · exact panelState_onPins ..
  · rfl

@[simp] theorem panelState_park (h : Nat) (d : Dev) : (d.park h).panelState w = d.panelState w := by
  unfold Dev.park
  split
  · rfl
  · exact foldS_congr (fun e => Dev.panelState e w) _ _ _ fun _ _ _ => panelState_drive ..

@[simp] theorem panelState_gammaOff (h : Nat) (d : Dev) : (d.gammaOff h).panelState w = d.panelState w := by
  have hfold := foldS_congr (fun e => Dev.panelState e w) (d.gmas h)
    (fun k s => s.onHarn (fun u => { u with gma := updAt u.gma k (fun _ => 0) })) d fun _ _ _ => panelState_onHarn ..
  unfold Dev.gammaOff
  dsimp only
  split
  · exact (panelState_onHarn ..).trans hfold
  · exact hfold

@[simp] theorem panelState_comDown (c : Nat) (d : Dev) : (d.comDown c).panelState w = d.panelState w := by
  rw [Dev.comDown, panelState_onHarn, panelState_put _ _ _ (.inl ?_), panelState_put _ _ _ (.inl ?_)]
  all_goals
    simp only [BIASc_STATUS_SLEWING, BIASc_STATUS, COMc_STATUS_LEVEL, COMc_STATUS, PANELh_STATUS]
    omega

@[simp] theorem panelState_realise (i : Nat) (d : Dev) : (d.realise i).panelState w = d.panelState w := by
  unfold Dev.realise
  dsimp only
  split_ifs with hbias hgma hvcom
  · have hlow : (BIASc_SETk (i / 6) (i % 6)) < 0x38604 := by simp only [BIASc_SETk]; omega
    simp [Dev.putI, BIASc_SETk_COMBO, BIASc_SETk_ELEMENT, BIASc_SETk_TAP, BIASc_SETk_TRIM, BIASc_SETk_TRIMMED, hlow]
  · have hlow : GMAk_SET (i - 24) < 0x38604 := by simp only [GMAk_SET]; omega
    simp [Dev.putI, GMAk_SET_CODE, GMAk_SET_ELEMENT, GMAk_SET_TRIM, GMAk_SET_TRIMMED, hlow]
  · exact panelState_of_regs rfl
  · rfl

@[simp] theorem panelState_gmaLevel (k : Nat) (d : Dev) : (d.gmaLevel k).panelState w = d.panelState w :=
  (panelState_realise ..).trans (panelState_onHarn ..)

/-! ### Pumps (R335) -/

@[simp] theorem panelState_pumpsOff (d : Dev) : d.pumpsOff.panelState w = d.panelState w :=
  (panelState_put_below _ _ _ (by decide)).trans (panelState_put_below _ _ _ (by decide))

@[simp] theorem panelState_pumpStop (d : Dev) : d.pumpStop.panelState w = d.panelState w := by
  unfold Dev.pumpStop
  split
  · exact panelState_pumpsOff d
  · rfl

@[simp] theorem panelState_pumpStart (h : Nat) (d : Dev) : (d.pumpStart h).panelState w = d.panelState w := by
  unfold Dev.pumpStart
  split
  · exact panelState_put_below _ _ _ (by decide)
  · rfl

/-! ### A panel that enters a state (R341) -/

/-- The places of `f` and `g` do not meet. -/
abbrev Fld.Apart (f g : Fld) : Prop := f.addr ≠ g.addr ∨ f.lo + f.w ≤ g.lo ∨ g.lo + g.w ≤ f.lo

/-- What the entry of panel `h` to a state writes of the harness die. -/
def panelFields (h : Nat) : List Fld := [PANELh_STATUS_STATE h, HAR_STATUS_PANELS_ON, PANELh_CTRL_V h]

/-- The entry of a panel to a state leaves the rest of the harness die's registers alone. -/
theorem get_setPanel_other {g : Fld} (hg : harnessReg g.addr) (hbits : g.lo + g.w ≤ 32) {h : Nat} (hapart : ∀ f ∈ panelFields h, f.Apart g)
    (st : Nat) (d : Dev) : (d.setPanel h st).get g = d.get g := by
  simp only [panelFields, List.forall_mem_cons] at hapart
  obtain ⟨hstate, hon, hctrl, -⟩ := hapart
  have hcancel : (if d.panelState h = 0 ∨ d.panelState h = 2 then d.calCancelHead h else d).get g = d.get g := by
    split
    · exact get_congr (word_calCancel_ofHarness hg _ _)
    · rfl
  unfold Dev.setPanel Dev.onPanel
  dsimp only
  rw [onHarn_get]
  split
  · rw [get_put_other _ _ _ _ hctrl hbits, get_put_other _ _ _ _ hon hbits, get_put_other _ _ _ _ hstate hbits, hcancel]
  · rw [get_put_other _ _ _ _ hon hbits, get_put_other _ _ _ _ hstate hbits, hcancel]

theorem panelState_setPanel_other {h : Nat} (hne : h ≠ w) (st : Nat) (d : Dev) : (d.setPanel h st).panelState w = d.panelState w := by
  have hstate : PANELh_STATUS h ≠ PANELh_STATUS w := by simp only [PANELh_STATUS]; omega
  have hon : HAR_STATUS ≠ PANELh_STATUS w := by simp only [HAR_STATUS, PANELh_STATUS]; omega
  have hctrl : PANELh_CTRL h ≠ PANELh_STATUS w := by simp only [PANELh_CTRL, PANELh_STATUS]; omega
  refine get_setPanel_other (harnessReg_panelStatus w) (by simp [PANELh_STATUS_STATE]) ?_ st d
  simp only [panelFields, List.forall_mem_cons]
  exact ⟨.inl hstate, .inl hon, .inl hctrl, List.forall_mem_nil _⟩

theorem panelState_setPanel {st : Nat} (hst : st < 8) (d : Dev) : (d.setPanel w st).panelState w = st := by
  have hctrl : PANELh_CTRL w ≠ PANELh_STATUS w := by simp only [PANELh_CTRL, PANELh_STATUS]; omega
  have hsame (e : Dev) : (e.put (PANELh_STATUS_STATE w) st).panelState w = st :=
    (get_put_same _ _ _ (by simp [PANELh_STATUS_STATE])).trans (Nat.mod_eq_of_lt hst)
  unfold Dev.setPanel
  dsimp only
  rw [panelState_onPanel]
  split
  · rw [panelState_put _ _ _ (.inl hctrl), panelState_put_below _ _ _ (by decide), hsame]
  · rw [panelState_put_below _ _ _ (by decide), hsame]

/-- A panel becomes OFF, whatever its outputs bring on their way to 0 V. -/
theorem panelState_panelOff (d : Dev) : (d.panelOff w).panelState w = 0 := by
  unfold Dev.panelOff
  dsimp only
  rw [panelState_pumpStop, panelState_put _ _ _ (.inr (by simp [PANELh_STATUS_OFF_CAUSE])), panelState_setPanel (by decide)]

/-- A panel in RAMP_UP or ON enters RAMP_DOWN. -/
theorem panelState_rampDown (cause : Nat) {d : Dev} (h : d.panelState w = 1 ∨ d.panelState w = 2) : (d.rampDown w cause).panelState w = 3 := by
  have hset := panelState_setPanel (w := w) (st := 3) (by decide) d
  rw [Dev.rampDown, if_pos h]
  dsimp only
  split
  · split <;> simp [hset]
  · refine (foldS_congr (fun e => Dev.panelState e w) _ _ _ fun _ _ _ => panelState_comDown ..).trans ?_
    rw [panelState_onPanel, hset]

/-- A panel that is OFF enters RAMP_UP with POWER = 1. -/
theorem panelState_panelPower {d : Dev} (h : d.panelState w = 0) : (d.panelPower w true).panelState w = 1 := by
  have hset : ((d.setPanel w 1).pumpStart w).panelState w = 1 := by rw [panelState_pumpStart, panelState_setPanel (by decide)]
  rw [Dev.panelPower, if_pos rfl, if_pos h]
  dsimp only
  split
  · exact (foldS_congr (fun e => Dev.panelState e w) _ _ _ fun _ _ _ => panelState_gmaLevel ..).trans hset
  · exact hset

end Sys2Proof.Machine
end

section
/-! SUPPORT. The power of a head's panel (R341 to R345): the host's requests and the steps of a raster panel's ramps. -/
namespace Sys2Proof.Machine

/-- A write of PANELh_CTRL leaves the panel states alone. -/
theorem panelState_writePlain_ctrl (h v : Nat) (w : Fin 8) (d : Dev) : (d.writePlain (PANELh_CTRL h) v).panelState w = d.panelState w :=
  get_writePlain_other _ _ _ _ (by simp only [PANELh_CTRL, PANELh_STATUS_STATE, PANELh_STATUS]; omega)

theorem completes_panelPowerOn (s : State) (h : Fin 8) (ht : s.takes (PANELh_CTRL h) 1) (hoff : s.dev.panelState h = 0)
    (hok : s.dev.powerOk h = true) : Completes (.panelPowerOn h) s (fun e =>
      e = settle ((s.dev.writePlain (PANELh_CTRL h) 1).panelPower h true) ∧ e.panelState h = 1) := by
  have hctrl : panelCtrlOk h true s.dev = true := by simp [panelCtrlOk, hoff, hok]
  have heffect : panelCtrlWrite h 1 s.dev = (s.dev.writePlain (PANELh_CTRL h) 1).panelPower h true := writeVia_taken _ _ _ _ _ ht.2 hctrl
  refine completes_hostWrite rfl ht.1 ?_
  rw [heffect]
  exact ⟨rfl, (panelState_settle _).trans (panelState_panelPower ((panelState_writePlain_ctrl ..).trans hoff))⟩

theorem completes_panelPowerOff (s : State) (h : Fin 8) (ht : s.takes (PANELh_CTRL h) 0) (hstopped : s.dev.headState h = 0) :
    Completes (.panelPowerOff h) s (fun e =>
      e = settle ((s.dev.writePlain (PANELh_CTRL h) 0).rampDown h 1) ∧ (s.dev.panelState h = 2 → e.panelState h = 3)) := by
  have hctrl : panelCtrlOk h false s.dev = true := by simp [panelCtrlOk, hstopped]
  have heffect : panelCtrlWrite h 0 s.dev = (s.dev.writePlain (PANELh_CTRL h) 0).rampDown h 1 := writeVia_taken _ _ _ _ _ ht.2 hctrl
  refine completes_hostWrite rfl ht.1 ?_
  rw [heffect]
  exact ⟨rfl, fun hon => (panelState_settle _).trans (panelState_rampDown 1 (.inr ((panelState_writePlain_ctrl ..).trans hon)))⟩

/-- The last step up brings a raster panel ON. -/
theorem completes_rasterRampStep_up (s : State) (h : Fin 8) (hlive : s.live) (hraster : s.dev.isRaster h = true)
    (hup : s.dev.panelState h = 1) (hown : s.dev.ownsVcomR h = false) :
    Completes (.rasterRampStep h) s (fun e => e = settle (s.dev.setPanel h 2) ∧ e.panelState h = 2) := by
  have heffect : rasterRampStep h s.dev = s.dev.setPanel h 2 := by simp [rasterRampStep, hraster, hup, hown]
  refine completes_on rfl hlive ?_
  rw [heffect]
  exact ⟨rfl, (panelState_settle _).trans (panelState_setPanel (by decide) _)⟩

/-- The last step down brings a raster panel OFF. -/
theorem completes_rasterRampStep_down (s : State) (h : Fin 8) (hlive : s.live) (hraster : s.dev.isRaster h = true)
    (hdown : s.dev.panelState h = 3) (hstep : (nth {} s.dev.harn.panels h).step = 1) :
    Completes (.rasterRampStep h) s (fun e => e = settle (s.dev.panelOff h) ∧ e.panelState h = 0) := by
  have heffect : rasterRampStep h s.dev = s.dev.panelOff h := by simp [rasterRampStep, hraster, hdown, hstep]
  refine completes_on rfl hlive ?_
  rw [heffect]
  exact ⟨rfl, (panelState_settle _).trans (panelState_panelOff _)⟩

theorem completes_rampSettleTimeout (s : State) (h : Fin 8) (hlive : s.live) (hup : s.dev.panelState h = 1) :
    Completes (.rampSettleTimeout h) s (fun e => e = settle (s.dev.rampDown h 9) ∧ e.panelState h = 3) := by
  refine completes_on rfl hlive ?_
  rw [rampSettleTimeout, if_pos hup]
  exact ⟨rfl, (panelState_settle _).trans (panelState_rampDown 9 (.inl hup))⟩

/-- Settles O7: a request or a step puts the panel into its next state, and what the outputs do besides writes no panel's STATE. -/
theorem panelPower : Obligations.PanelPower :=
  ⟨fun _ _ hs => completes_on rfl hs rfl, fun _ _ hs => completes_on rfl hs rfl, fun _ _ hs => completes_on rfl hs rfl,
    fun _ _ hs => completes_on rfl hs rfl, completes_panelPowerOn, completes_panelPowerOff, completes_rasterRampStep_up,
    completes_rasterRampStep_down, completes_rampSettleTimeout⟩

end Sys2Proof.Machine
end

section
/-! SUPPORT. The fast discharge and its end (R346 to R348): which panels a trigger takes to DISCHARGE, and the end of a discharge with the
reset that it held off (R523). -/
namespace Sys2Proof.Machine

variable {w : Fin 8}

/-! ### A trigger (R346) -/

/-- The heads that a trigger for the heads of `p` covers. -/
def Dev.dischargeCover (p : Nat → Bool) (d : Dev) : List Nat :=
  filterRange 8 (fun h => p h && decide (1 ≤ d.panelState h ∧ d.panelState h ≤ 3))

/-- Panel `h` enters DISCHARGE with a trigger's code. -/
def Dev.dischargePanel (code h : Nat) (d : Dev) : Dev := (d.setPanel h 4).onPanel h (fun u => { u with cause := offCause code })

/-- The record of a discharge of the heads of `mask`, with the pumps and the event; `opens` tells that none was in progress. -/
def Dev.dischargeMarks (code mask now : Nat) (opens : Bool) (d : Dev) : Dev :=
  let d2 := if opens then
      let s := ((d.put HAR_DISCH_STATUS_ACTIVE 1).put HAR_STATUS_DISCHARGING 1).put HAR_DISCH_STATUS_HEADS mask
      (((s.setWord HAR_DISCH_LAST 0).put HAR_DISCH_LAST_CAUSE code).inc HAR_DISCH_COUNT_V).onHarn (fun u => { u with dischAt := now })
    else d.put HAR_DISCH_STATUS_HEADS (Nat.lor (d.get HAR_DISCH_STATUS_HEADS) mask)
  let d3 := d2.put HAR_DISCH_LAST_HEADS (d2.get HAR_DISCH_STATUS_HEADS)
  let d4 := if allBelow 8 (fun h => !d3.isMip h || d3.panelState h == 0 || d3.panelState h == 4) then d3.pumpsOff else d3
  if opens then d4.harEvt 1 (headsInst mask) else d4

/-- A trigger covers nobody, or it cancels the runs, takes the covered panels to DISCHARGE and records it. -/
theorem discharge_eq (code : Nat) (p : Nat → Bool) (d : Dev) :
    d.discharge code p = if d.dischargeCover p = [] then d else
      (foldS (d.dischargeCover p) (Dev.dischargePanel code) (d.calCancel (fun _ => true))).dischargeMarks code
        ((d.dischargeCover p).foldl (fun a h => Nat.lor a (2 ^ h)) 0) (d.tb 3).total (!d.flag HAR_DISCH_STATUS_ACTIVE) := rfl

theorem mem_dischargeCover {p : Nat → Bool} {d : Dev} (hp : p w = true) (hlow : 1 ≤ d.panelState w) (hhigh : d.panelState w ≤ 3) :
    (w : Nat) ∈ d.dischargeCover p :=
  List.mem_filter.2 ⟨List.mem_range.2 w.isLt, by simp [hp, hlow, hhigh]⟩

/-- The registers that belong to the record of a discharge, and the fields that it writes of others. -/
def dischargeRegs : List Nat := [HAR_EVT_STATUS, HAR_DISCH_STATUS, HAR_DISCH_LAST, HAR_DISCH_COUNT]
def dischargeFields : List Fld := [HAR_STATUS_DISCHARGING, HAR_PUMP_STATUS_RUNNING, HAR_PUMP_STATUS_REGULATED]

/-- Is `g` a field of the harness die that the record of a discharge leaves alone? -/
def Fld.DischargeFree (g : Fld) : Prop :=
  harnessReg g.addr ∧ g.lo + g.w ≤ 32 ∧ (∀ r ∈ dischargeRegs, r ≠ g.addr) ∧ ∀ f ∈ dischargeFields, f.Apart g

theorem get_pumpsOff {g : Fld} (hg : g.DischargeFree) (d : Dev) : d.pumpsOff.get g = d.get g := by
  obtain ⟨-, hbits, -, hfields⟩ := hg
  rw [Dev.pumpsOff, get_put_other _ _ _ _ (hfields _ (by simp [dischargeFields])) hbits,
    get_put_other _ _ _ _ (hfields _ (by simp [dischargeFields])) hbits]

theorem get_dischargeMarks {g : Fld} (hg : g.DischargeFree) (code mask now : Nat) (opens : Bool) (d : Dev) :
    (d.dischargeMarks code mask now opens).get g = d.get g := by
  have hpumps (c : Bool) (e : Dev) : (if c then e.pumpsOff else e).get g = e.get g := by
    split
    · exact get_pumpsOff hg e
    · rfl
  obtain ⟨hdie, hbits, hregs, hfields⟩ := hg
  have hreg {f : Fld} (hf : f.addr ∈ dischargeRegs) (e : Dev) (x : Nat) : (e.put f x).get g = e.get g :=
    get_put_of_ne _ _ _ _ (hregs _ hf)
  unfold Dev.dischargeMarks
  dsimp only
  cases opens
  · rw [if_neg Bool.false_ne_true, hpumps, hreg (by decide), if_neg Bool.false_ne_true, hreg (by decide)]
  · rw [if_pos rfl, get_congr (word_harEvt_ofHarness hdie (hregs _ (by decide)) _ _ _), hpumps, hreg (by decide), if_pos rfl, onHarn_get,
      Dev.inc, Dev.addSat, hreg (by decide), hreg (by decide), get_setWord_other _ _ _ _ (hregs _ (by decide)), hreg (by decide),
      get_put_other _ _ _ _ (hfields _ (by simp [dischargeFields])) hbits, hreg (by decide)]

/-- A trigger leaves alone what neither its record nor the entry of a panel to DISCHARGE writes. -/
theorem get_discharge_other {g : Fld} (hg : g.DischargeFree) (hpanel : ∀ h, ∀ f ∈ panelFields h, f.Apart g) (code : Nat) (p : Nat → Bool)
    (d : Dev) : (d.discharge code p).get g = d.get g := by
  have hmarks := get_dischargeMarks hg
  obtain ⟨hdie, hbits, -, -⟩ := hg
  have hcover (h : Nat) (e : Dev) : (e.dischargePanel code h).get g = e.get g :=
    (onHarn_get ..).trans (get_setPanel_other hdie hbits (hpanel h) 4 e)
  rw [discharge_eq]
  split
  · rfl
  · rw [hmarks, foldS_congr (fun e => Dev.get e g) _ _ _ fun h _ e => hcover h e, get_congr (word_calCancel_ofHarness hdie _ _)]

theorem dischargeFree_panelState : (PANELh_STATUS_STATE w).DischargeFree := by
  have hregs : ∀ r ∈ dischargeRegs, r < 0x38604 := by decide
  have hfields : ∀ f ∈ dischargeFields, f.addr < 0x38604 := by decide
  refine ⟨harnessReg_panelStatus w, by simp [PANELh_STATUS_STATE], fun r hr => ?_, fun f hf => .inl ?_⟩
  · exact ((hregs r hr).trans_le (Nat.le_add_right _ _)).ne
  · exact ((hfields f hf).trans_le (Nat.le_add_right _ _)).ne

/-- A trigger takes a panel that it covers, in RAMP_UP, ON or RAMP_DOWN, to DISCHARGE. -/
theorem panelState_discharge {p : Nat → Bool} {d : Dev} (hp : p w = true) (hlow : 1 ≤ d.panelState w) (hhigh : d.panelState w ≤ 3)
    (code : Nat) : (d.discharge code p).panelState w = 4 := by
  have hmem := mem_dischargeCover hp hlow hhigh
  obtain ⟨e, -, hfold⟩ := foldS_once (fun e => Dev.panelState e w) (d.dischargeCover p) (Dev.dischargePanel code)
    (d.calCancel (fun _ => true)) w hmem (List.nodup_range.filter _) fun h _ hne e => (panelState_onPanel ..).trans (panelState_setPanel_other hne 4 e)
  rw [discharge_eq, if_neg (List.ne_nil_of_mem hmem), Dev.panelState, get_dischargeMarks dischargeFree_panelState]
  exact hfold.trans ((panelState_onPanel ..).trans (panelState_setPanel (by decide) e))

/-! ### An entry to INIT (R28, R523) -/

theorem panelStatus_atReset : ∀ w : Fin 8, isPorOnly (PANELh_STATUS w) = false ∧ resetWord (PANELh_STATUS w) = 0 := by with_unfolding_all decide

/-- PANELh_STATUS is not among the registers that a reset keeps. -/
theorem word_initBase_panelStatus (last : Nat) (d : Dev) : (d.initBase last).word (PANELh_STATUS w) = 0 := by
  obtain ⟨hpor, hreset⟩ := panelStatus_atReset w
  unfold Dev.initBase
  split
  · rw [word_of_regs_nil rfl, hreset]
    rfl
  · have hhost : (PANELh_STATUS w == HOST_STATUS) = false := by
      simp only [PANELh_STATUS, HOST_STATUS, beq_eq_false_iff_ne]
      omega
    have hkept : keptReg (last == 5) (PANELh_STATUS w) = false := by rw [keptReg, hpor, hhost, Bool.and_false, Bool.or_false]
    simp [Dev.word, Dev.wordBv, cellFind_filter_key, hkept, hreset]

theorem word_put_low {f : Fld} (hf : f.addr < 0x2000) (d : Dev) (x : Nat) : (d.put f x).word (PANELh_STATUS w) = d.word (PANELh_STATUS w) :=
  word_put_other _ _ _ _ (by simp only [PANELh_STATUS]; omega)

theorem word_initMarks_panelStatus (last : Nat) (held : Bool) (d : Dev) : (d.initMarks last held).word (PANELh_STATUS w) = 0 := by
  have hkey : TACK_KEY ≠ PANELh_STATUS w := by simp only [TACK_KEY, PANELh_STATUS]; omega
  have hroll : TACK_ROLLBACK ≠ PANELh_STATUS w := by simp only [TACK_ROLLBACK, PANELh_STATUS]; omega
  simp only [Dev.initMarks, onPower_word, Dev.putB]
  rw [word_put_low (by decide), word_put_low (by decide), word_setWord_other _ _ _ _ hroll, word_setWord_other _ _ _ _ hkey,
    word_initBase_panelStatus]

/-- The count of a reset may take any place that `last` gives it, and is at most 1 where the word was 0. -/
theorem word_inc_resetCount_le {r : Nat} (last : Nat) {d : Dev} (h : d.word r = 0) : (d.inc (TOP_RESET_COUNTk_V last)).word r ≤ 1 := by
  by_cases hr : TOP_RESET_COUNTk last = r
  · subst hr
    have hcount := get_inc_same d (TOP_RESET_COUNTk_V last) (by simp [TOP_RESET_COUNTk_V])
    have hwhole (e : Dev) : e.get (TOP_RESET_COUNTk_V last) = e.word (TOP_RESET_COUNTk last) := by
      simpa [Dev.get, bitsOf, TOP_RESET_COUNTk_V] using word_lt e (TOP_RESET_COUNTk last)
    rw [hwhole, hwhole, h] at hcount
    rw [hcount]
    exact Nat.min_le_left _ _
  · rw [Dev.inc, Dev.addSat, word_put_other _ _ _ _ hr, h]
    decide

/-- Every panel is OFF at the entry to INIT. -/
theorem panelState_initEnter (last : Nat) (held : Bool) (d : Dev) : (d.initEnter last held).panelState w = 0 := by
  have hle : (d.initEnter last held).word (PANELh_STATUS w) ≤ 1 := by
    by_cases hlast : last = 1
    · subst hlast
      rw [initEnter_por, word_put_low (by decide), word_put_low (by decide), word_initMarks_panelStatus]
      decide
    · rw [initEnter_notPor held d hlast, Dev.inc, Dev.addSat, word_put_low (by decide)]
      exact word_inc_resetCount_le last ((word_put_low (by decide) _ _).trans (word_initMarks_panelStatus _ _ _))
  have hstate : (d.initEnter last held).word (PANELh_STATUS w) / 2 ^ 29 = 0 := Nat.div_eq_of_lt (hle.trans_lt (by decide))
  change (d.initEnter last held).word (PANELh_STATUS w) / 2 ^ 29 % 2 ^ 3 = 0
  rw [hstate, Nat.zero_mod]

/-! ### The end of a discharge (R348, R523) -/

theorem panelState_dischargeEnd {d : Dev} (h : d.panelState w = 4) : (d.dischargeEnd w).panelState w = 0 := by
  have hoff := panelState_panelOff (w := w) (foldS (d.headPins w) Dev.unmapPin d)
  rw [Dev.dischargeEnd, if_neg (not_not.2 h)]
  dsimp only
  split
  · exact hoff
  · rw [panelState_harEvt, panelState_put_below _ _ _ (by decide), panelState_put_below _ _ _ (by decide),
      panelState_put_below _ _ _ (by decide), hoff]

/-- What waits for the end of a discharge leaves an OFF panel OFF. -/
theorem panelState_afterDischarge {d : Dev} (h : d.panelState w = 0) : d.afterDischarge.panelState w = 0 := by
  unfold Dev.afterDischarge
  split
  · exact h
  · exact panelState_initEnter _ _ _

end Sys2Proof.Machine
end

section
/-! SUPPORT. The triggers of a fast discharge, DISCHARGE_PIN_SWITCH and DISCHARGE_COMPLETE (R335, R346, R348, R353, R354). -/
namespace Sys2Proof.Machine

/-! ### What a trigger shows -/

/-- After a trigger that covers it, and with the mode following the heads, a panel is in DISCHARGE. -/
theorem panelState_settle_discharge {k : Fin 8} {p : Nat → Bool} {d e : Dev} (hsame : e.panelState k = d.panelState k) (hp : p k = true)
    (hpanel : 1 ≤ d.panelState k ∧ d.panelState k ≤ 3) (code : Nat) : (settle (e.discharge code p)).panelState k = 4 := by
  rw [← hsame] at hpanel
  exact (panelState_settle _).trans (panelState_discharge hp hpanel.1 hpanel.2 code)

/-- A field outside the panels' registers that a trigger leaves alone, with the mode following the heads. -/
theorem get_settle_discharge {g : Fld} (hg : g.DischargeFree) (hon : HAR_STATUS_PANELS_ON.Apart g) (hbelow : g.addr < 0x38600) (code : Nat)
    (p : Nat → Bool) (d : Dev) : (settle (d.discharge code p)).get g = d.get g := by
  have hpanel (h : Nat) : ∀ f ∈ panelFields h, f.Apart g := by
    simp only [panelFields, List.forall_mem_cons]
    exact ⟨.inl (hbelow.trans_le (by simp only [PANELh_STATUS_STATE, PANELh_STATUS]; omega)).ne', hon,
      .inl (hbelow.trans_le (Nat.le_add_right _ _)).ne', List.forall_mem_nil _⟩
  have hlow : 0x1000 ≤ g.addr := hg.1.1.trans' (by decide)
  rw [get_settle_of_le _ _ hlow, get_discharge_other hg hpanel]

theorem dischargeFree_pumpFail : HAR_PUMP_STATUS_FAIL.DischargeFree := ⟨by unfold harnessReg; decide, by decide, by decide, by decide⟩
theorem dischargeFree_hot : HAR_STATUS_HOT.DischargeFree := ⟨by unfold harnessReg; decide, by decide, by decide, by decide⟩

/-! ### Triggers -/

theorem completes_pumpFailure (s : State) (hlive : s.live) (hrunning : s.dev.flag HAR_PUMP_STATUS_RUNNING = true) :
    Completes .pumpFailure s (fun e =>
      e = settle ((((s.dev.put HAR_PUMP_STATUS_FAIL 1).put HAR_PUMP_STATUS_REGULATED 0).harEvt 6).discharge 11 s.dev.isMip) ∧
      e.get HAR_PUMP_STATUS_FAIL = 1 ∧
      (∀ k : Fin 8, s.dev.isMip k = true ∧ 1 ≤ s.dev.panelState k ∧ s.dev.panelState k ≤ 3 → e.panelState k = 4)) := by
  have hsame (k : Fin 8) : (((s.dev.put HAR_PUMP_STATUS_FAIL 1).put HAR_PUMP_STATUS_REGULATED 0).harEvt 6).panelState k = s.dev.panelState k := by
    rw [panelState_harEvt, panelState_put_below _ _ _ (by decide), panelState_put_below _ _ _ (by decide)]
  refine completes_on rfl hlive ?_
  rw [pumpFailure, if_neg (by simp [hrunning])]
  refine ⟨rfl, ?_, fun k ⟨hmip, hpanel⟩ => panelState_settle_discharge (hsame k) hmip hpanel 11⟩
  rw [get_settle_discharge dischargeFree_pumpFail (by decide) (by decide),
    get_congr (word_harEvt_ofHarness dischargeFree_pumpFail.1 (by decide) _ _ _),
    get_put_of_apart _ _ _ _ (by decide) (by decide), get_put_same _ _ _ (by decide)]
  rfl

theorem completes_vbiasLow (s : State) (mv : Fin 65536) (hlive : s.live) (hlow : mv.val < 4200) :
    Completes (.vbiasLow mv) s (fun e => e = settle (s.dev.discharge 3 (fun _ => true)) ∧
      (∀ k : Fin 8, 1 ≤ s.dev.panelState k ∧ s.dev.panelState k ≤ 3 → e.panelState k = 4)) := by
  refine completes_on rfl hlive ?_
  rw [vbiasLow, if_pos hlow]
  exact ⟨rfl, fun k hpanel => panelState_settle_discharge rfl rfl hpanel 3⟩

/-- The owner of an output stands in a field of three bits. -/
theorem outputOwner_lt {d : Dev} {o h : Nat} (howner : d.outputOwner o = some h) : h < 8 := by
  unfold Dev.outputOwner Dev.itemOwner at howner
  split_ifs at howner <;> exact Option.some.inj howner ▸ get_lt d _

theorem completes_outputOverload (s : State) (x : Fin 23) (h : Nat) (hlive : s.live) (howner : s.dev.outputOwner x = some h) :
    Completes (.outputOverload x) s (fun e =>
      e = settle (((if x.val < 4 then s.dev.put (BIASc_STATUS_OVERLOAD x) 1 else s.dev).harEvt 5 h).discharge 7 (fun k => k == h)) ∧
      (1 ≤ s.dev.panelState h ∧ s.dev.panelState h ≤ 3 → e.panelState h = 4)) := by
  obtain ⟨w, rfl⟩ : ∃ w : Fin 8, h = w := ⟨⟨h, outputOwner_lt howner⟩, rfl⟩
  have hsame : ((if x.val < 4 then s.dev.put (BIASc_STATUS_OVERLOAD x) 1 else s.dev).harEvt 5 w).panelState w = s.dev.panelState w := by
    rw [panelState_harEvt]
    split
    · exact panelState_put_below _ _ _ (by simp only [BIASc_STATUS_OVERLOAD, BIASc_STATUS]; omega)
    · rfl
  refine completes_on rfl hlive ?_
  simp only [outputOverload, howner, Option.getD_some]
  exact ⟨trivial, fun hpanel => panelState_settle_discharge (p := fun k => k == w) hsame (beq_self_eq_true _) hpanel 7⟩

theorem completes_harnessOvertemp (s : State) (temp : Int) (hlive : s.live) :
    Completes (.harnessOvertemp temp) s (fun e =>
      e = settle ((((s.dev.putI HAR_TEMP_V temp).put HAR_STATUS_HOT 1).harEvt 3).discharge 9 (fun _ => true)) ∧
      e.get HAR_STATUS_HOT = 1 ∧ (∀ k : Fin 8, 1 ≤ s.dev.panelState k ∧ s.dev.panelState k ≤ 3 → e.panelState k = 4)) := by
  have hsame (k : Fin 8) : (((s.dev.putI HAR_TEMP_V temp).put HAR_STATUS_HOT 1).harEvt 3).panelState k = s.dev.panelState k := by
    rw [panelState_harEvt, panelState_put_below _ _ _ (by decide), Dev.putI, panelState_put_below _ _ _ (by decide)]
  refine completes_on rfl hlive ?_
  rw [harnessOvertemp]
  refine ⟨rfl, ?_, fun k hpanel => panelState_settle_discharge (hsame k) rfl hpanel 9⟩
  rw [get_settle_discharge dischargeFree_hot (by decide) (by decide),
    get_congr (word_harEvt_ofHarness dischargeFree_hot.1 (by decide) _ _ _), get_put_same _ _ _ (by decide)]
  rfl

theorem completes_harDischGo (s : State) (v : Word) (ht : s.takes HAR_DISCH_GO v.toNat)
    (hstopped : ∀ h ∈ onesOf 8 v.toNat, s.dev.headState h = 0) :
    Completes (.harDischGo v) s (fun e =>
      e = settle ((s.dev.writePlain HAR_DISCH_GO v.toNat).discharge 5 (bitOf v.toNat)) ∧
      (∀ k : Fin 8, bitOf v.toNat k = true ∧ 1 ≤ s.dev.panelState k ∧ s.dev.panelState k ≤ 3 → e.panelState k = 4)) := by
  have hsame (k : Fin 8) : (s.dev.writePlain HAR_DISCH_GO v.toNat).panelState k = s.dev.panelState k :=
    get_writePlain_other _ _ _ _ (by simp only [HAR_DISCH_GO, PANELh_STATUS_STATE, PANELh_STATUS]; omega)
  have heffect : harDischWrite v.toNat s.dev = (s.dev.writePlain HAR_DISCH_GO v.toNat).discharge 5 (bitOf v.toNat) :=
    writeVia_taken _ _ _ _ _ ht.2 (List.all_eq_true.2 fun h hm => beq_iff_eq.2 (hstopped h hm))
  refine completes_hostWrite rfl ht.1 ?_
  rw [heffect]
  exact ⟨rfl, fun k ⟨hbit, hpanel⟩ => panelState_settle_discharge (hsame k) hbit hpanel 5⟩

/-! ### DISCHARGE_PIN_SWITCH and DISCHARGE_COMPLETE (R348) -/

/-- The pins and the gamma outputs of a raster head are switched with its panel in DISCHARGE. -/
theorem completes_dischargePinSwitch (s : State) (h : Fin 8) (hlive : s.live) (hpanel : s.dev.panelState h = 4)
    (hraster : s.dev.isMip h = false) : Completes (.dischargePinSwitch h) s (fun e =>
      e = settle ((foldS (s.dev.headPins h) (fun p t => t.drive p (bitOf (t.word (HAR_PCTL_DISCHk (p / 32))) (p % 32))) s.dev).gammaOff h) ∧
      e.panelState h = 4) := by
  refine completes_on rfl hlive ?_
  rw [dischargePinSwitch, if_neg (not_not.2 hpanel)]
  dsimp only
  rw [if_neg (ne_true_of_eq_false hraster), panelState_settle, panelState_gammaOff]
  exact ⟨rfl, (foldS_congr (fun e => Dev.panelState e h) _ _ _ fun _ _ _ => panelState_drive ..).trans hpanel⟩

theorem completes_dischargeComplete (s : State) (h : Fin 8) (hlive : s.live) (hpanel : s.dev.panelState h = 4) :
    Completes (.dischargeComplete h) s (fun e => e = settle ((s.dev.dischargeEnd h).afterDischarge) ∧ e.panelState h = 0) :=
  completes_on rfl hlive ⟨rfl, (panelState_settle _).trans (panelState_afterDischarge (panelState_dischargeEnd hpanel))⟩

/-- Settles O8: whatever trigger covers a panel takes it to DISCHARGE, the switch of its outputs leaves it there, and the end of the
discharge takes it to OFF, also where a held reset follows at once. -/
theorem fastDischarge : Obligations.FastDischarge :=
  ⟨fun _ hs => completes_on rfl hs rfl, fun _ _ hs => completes_on rfl hs rfl, fun _ _ hs => completes_on rfl hs rfl,
    fun _ _ hs => completes_on rfl hs rfl, fun _ _ hs => completes_on rfl hs rfl, fun _ _ hs => completes_on rfl hs rfl,
    fun _ _ hs => completes_on rfl hs rfl, completes_pumpFailure, completes_vbiasLow, completes_outputOverload, completes_harnessOvertemp,
    completes_harDischGo, completes_dischargePinSwitch, completes_dischargeComplete⟩

end Sys2Proof.Machine
end

section
/-! SUPPORT. The margins and test blocks of a lane (R378 to R383): the statement about them, which a concrete block refutes. -/
namespace Sys2Proof.Machine

/-! ### A TEST link whose lane generates its pattern (R383) -/

/-- READY, with a TEST link of one lane, lane 5, which transmits. -/
def testLinked : Dev := (rdy.put (LNn_POWER_STATE 5) 0).onTack (fun u => { u with links := [{ profile := 5, lanes := [5], rate := 1 }] })

/-- LNn_TEST_CTRL with GEN and INJECT. -/
def genInject : Word := 0x88000000

theorem testLinked_takes : ({ pending := [], dev := testLinked } : State).takes (LNn_TEST_CTRL 5) genInject.toNat ∧
    bitOf genInject.toNat 27 = true ∧ 5 < testLinked.lanes.length := by with_unfolding_all decide

/-- The lane's next test block goes out in the slot after the write and carries the error, so none is left to inject. -/
theorem testLinked_injected : ((settle (testCtrlWrite 5 genInject.toNat testLinked)).lane 5).inject = false := by with_unfolding_all decide

/-- Refutes O34: the clause of a test block that is to carry an error says that the error is still to be injected after the write, whatever
link the lane is in. R383 puts it into the next block sent; on a TEST link whose lane generates its pattern a slot follows the write, and
so the error has gone out in `testLinked`. -/
theorem not_laneMargins : ¬ Obligations.LaneMargins := by
  unfold Obligations.LaneMargins
  rintro ⟨-, -, -, -, -, -, -, -, -, htest, -⟩
  obtain ⟨htakes, hbit, hlen⟩ := testLinked_takes
  obtain ⟨hlive, hmode, habout⟩ := htakes.1
  obtain ⟨hinject, -⟩ := (htest { pending := [], dev := testLinked } 5 genInject htakes hbit hlen).effect rfl hlive
  rw [if_pos hbit, pcie_now _ _ _ hmode habout] at hinject
  exact absurd (hinject.symm.trans testLinked_injected) (by decide)

end Sys2Proof.Machine
end

section
/-! SUPPORT. LNn_STATUS of a lane (R372): a lane that enters a state writes it there, and nothing that follows for its link, its spare and
the link's stream or panel (R148, R317, R375, R387) writes that register. One lemma per function of the effect, in the order of the
definitions. -/
namespace Sys2Proof.Machine

variable {n : Fin 36}

/-! ### Cases, folds and register writes -/

@[simp] theorem laneStatus_ite (c : Prop) {_ : Decidable c} (a b : Dev) :
    (if c then a else b).word (LNn_STATUS n) = if c then a.word (LNn_STATUS n) else b.word (LNn_STATUS n) := by
  split <;> rfl

@[simp] theorem laneStatus_foldS (l : List Nat) (f : Nat → Dev → Dev) (d : Dev)
    (h : ∀ k e, (f k e).word (LNn_STATUS n) = e.word (LNn_STATUS n)) : (foldS l f d).word (LNn_STATUS n) = d.word (LNn_STATUS n) :=
  foldS_congr (fun e => Dev.word e (LNn_STATUS n)) l f d fun k _ e => h k e

@[simp] theorem laneStatus_foldl {β : Type} (l : List β) (f : Dev → β → Dev) (d : Dev)
    (h : ∀ b e, (f e b).word (LNn_STATUS n) = e.word (LNn_STATUS n)) : (l.foldl f d).word (LNn_STATUS n) = d.word (LNn_STATUS n) :=
  foldl_congr (fun e => Dev.word e (LNn_STATUS n)) l f d fun b _ e => h b e

@[simp] theorem laneStatus_far (d : Dev) (x : FarUnit) : Dev.word { d with far := x } (LNn_STATUS n) = d.word (LNn_STATUS n) := rfl

/-- No lane has its LNn_STATUS at offset `r`. -/
def noLaneStatus (r : Nat) : Prop := ∀ n : Fin 36, r ≠ LNn_STATUS n

/-- Outside LANES there is none. -/
@[simp] theorem noLaneStatus_outside (r : Nat) (h : r < 0x40000 ∨ 0x49000 ≤ r) : noLaneStatus r := fun n => by
  rw [LNn_STATUS]
  omega

@[simp] theorem noLaneStatus_above (a k : Nat) (h : 0x49000 ≤ a) : noLaneStatus (a + k) :=
  noLaneStatus_outside _ (.inr (Nat.le_add_right_of_le h))

@[simp] theorem noLaneStatus_above₂ (a k l : Nat) (h : 0x49000 ≤ a) : noLaneStatus (a + k + l) :=
  noLaneStatus_above _ _ (Nat.le_add_right_of_le h)

/-- Nor is there one at another place of a block of `m` bytes that repeats, where `m` is a multiple of 32, as a lane's block is. -/
@[simp] theorem noLaneStatus_each (a m k : Nat) (hm : 0x20 ∣ m) (h : a % 0x20 ≠ 4) : noLaneStatus (a + m * k) := fun n e => by
  obtain ⟨c, rfl⟩ := hm
  rw [LNn_STATUS, Nat.mul_assoc] at e
  omega

@[simp] theorem laneStatus_setWord (d : Dev) (r v : Nat) (h : noLaneStatus r) : (d.setWord r v).word (LNn_STATUS n) = d.word (LNn_STATUS n) :=
  word_setWord_other _ _ _ _ (h n)

@[simp] theorem laneStatus_put (d : Dev) (f : Fld) (x : Nat) (h : noLaneStatus f.addr) :
    (d.put f x).word (LNn_STATUS n) = d.word (LNn_STATUS n) := word_put_other _ _ _ _ (h n)

@[simp] theorem laneStatus_inc (d : Dev) (f : Fld) (h : noLaneStatus f.addr) : (d.inc f).word (LNn_STATUS n) = d.word (LNn_STATUS n) :=
  laneStatus_put _ _ _ h

/-! ### Events and the farrier (R496 to R501) -/

theorem seesNoPost_laneStatus {cls : Nat} (h : cls < 16) : SeesNoPost cls (fun d => d.word (LNn_STATUS n)) :=
  seesNoPost_word fun hr => noLaneStatus_outside (LNn_STATUS n) (by
    simp only [ringRegs, EVT_CLASS_COUNTk, EVT_LOST_COUNT, EVT_STATUS, EVT_PROD, EVT_POSTED_COUNT, EVT_HIGH_WATER, MEM_COUNTk,
      List.mem_cons, List.not_mem_nil, or_false] at hr
    omega) n rfl

@[simp] theorem laneStatus_raiseAt (d : Dev) (status enable cls inst b : Nat) (hcls : cls < 16) (h : noLaneStatus status) :
    (d.raiseAt status enable cls inst b).word (LNn_STATUS n) = d.word (LNn_STATUS n) :=
  (seesNoPost_laneStatus hcls).raiseAt d status enable inst b fun e v => laneStatus_setWord e _ v h

@[simp] theorem laneStatus_farEvt (b : Nat) (d : Dev) (inst : Nat) : (d.farEvt b inst).word (LNn_STATUS n) = d.word (LNn_STATUS n) := by
  simp [Dev.farEvt, FAR_EVT_STATUS, clsFarrier]

@[simp] theorem laneStatus_farTake (q : FarRequest) (d : Dev) : (d.farTake q).word (LNn_STATUS n) = d.word (LNn_STATUS n) := by
  simp [Dev.farTake]

@[simp] theorem laneStatus_farExhausted (q : FarRequest) (d : Dev) : (d.farExhausted q).word (LNn_STATUS n) = d.word (LNn_STATUS n) := by
  have hlog (e : Dev) (inst : Nat) (l : List Nat) : (e.flogWrite clsFarrier 4 inst l).word (LNn_STATUS n) = e.word (LNn_STATUS n) :=
    (seesNoPost_laneStatus (by decide)).flogWrite e 4 inst l (fun _ _ => rfl)
      (fun e v => laneStatus_setWord e EVT_FLOG_COUNT v (noLaneStatus_outside _ (by decide)))
      (fun e v => laneStatus_setWord e EVT_FLOG_LOST v (noLaneStatus_outside _ (by decide)))
  simp [Dev.farExhausted, hlog, FAR_STATUS, FAR_STATUS_EXHAUSTED]

@[simp] theorem laneStatus_farLog (q : FarRequest) (target result : Nat) (d : Dev) :
    (d.farLog q target result).word (LNn_STATUS n) = d.word (LNn_STATUS n) := by
  simp [Dev.farLog, FAR_LOG_STATUS, FAR_LOG_STATUS_WRITING]

@[simp] theorem laneStatus_farRaise (q : FarRequest) (d : Dev) : (d.farRaise q).word (LNn_STATUS n) = d.word (LNn_STATUS n) := by
  unfold Dev.farRaise
  split
  · rfl
  · split
    · rfl
    · split <;> simp [FAR_ASKk, FAR_STATUS, FAR_STATUS_ASKS, FAR_TRIGk, FAR_TRIGk_V]
    · simp [FAR_FORBID_COUNT, FAR_FORBID_COUNT_V]

/-! ### The spare of a link (R387) -/

@[simp] theorem laneStatus_spareStart (j k : Nat) (q : Option FarRequest) (d : Dev) :
    (d.spareStart j k q).word (LNn_STATUS n) = d.word (LNn_STATUS n) := by
  simp [Dev.spareStart, LKj_CTRL, LKj_CTRL_SPARE_FOR, LKj_SPARE, LKj_STATUS, LKj_STATUS_SPARE_LANE, LKj_STATUS_SPARE_STATE]

@[simp] theorem laneStatus_laneWindow (j : Nat) (d : Dev) : (d.laneWindow j).word (LNn_STATUS n) = d.word (LNn_STATUS n) := by
  simp [Dev.laneWindow]

@[simp] theorem laneStatus_lungeTrigger (j : Nat) (d : Dev) : (d.lungeTrigger j).word (LNn_STATUS n) = d.word (LNn_STATUS n) := by
  unfold Dev.lungeTrigger
  split <;> simp [Dev.farTrigger, FAR_TRIGk, FAR_TRIGk_V]

@[simp] theorem laneStatus_spareFails (j : Nat) (d : Dev) : (d.spareFails j).word (LNn_STATUS n) = d.word (LNn_STATUS n) := by
  simp only [Dev.spareFails, laneStatus_ite, laneStatus_laneWindow, onLink_word]
  split
  · split <;> simp [LKj_STATUS, LKj_STATUS_SPARE_STATE]
  · rfl

/-! ### A link that falls (R148, R317, R375) -/

@[simp] theorem laneStatus_linkFalls (j : Nat) (d : Dev) : (d.linkFalls j).word (LNn_STATUS n) = d.word (LNn_STATUS n) := by
  simp [Dev.linkFalls, LKj_COUNTk, LKj_COUNTk_V, LKj_PARTNER2, LKj_PARTNER2_VALID, LKj_STATUS, LKj_STATUS_STATE]

@[simp] theorem laneStatus_txSync (j : Nat) (d : Dev) : (d.txSync j).word (LNn_STATUS n) = d.word (LNn_STATUS n) := by
  refine laneStatus_foldS _ _ _ fun m s => ?_
  split_ifs <;> simp [LNn_TX_STATUS, LNn_TX_STATUS_TXSTATE]

@[simp] theorem laneStatus_lockFree (m : Nat) (d : Dev) : (d.lockFree m).word (LNn_STATUS n) = d.word (LNn_STATUS n) := by
  refine laneStatus_foldS _ _ _ fun h s => ?_
  split <;> simp [LLh_CTRL, LLh_CTRL_STATE]

@[simp] theorem laneStatus_lastErr (m cause frame line : Nat) (d : Dev) :
    (d.lastErr m cause frame line).word (LNn_STATUS n) = d.word (LNn_STATUS n) := by
  simp [Dev.lastErr, INn_LAST_ERR, INn_LAST_ERR_CAUSE, INn_LAST_ERR_FRAME, INn_LAST_ERR_LINE]

/-- The timeout of a stream whose link is down, which loses no time base. -/
@[simp] theorem laneStatus_streamLinkDown (m : Nat) (d : Dev) :
    (streamFrameTimeout m true d).word (LNn_STATUS n) = d.word (LNn_STATUS n) := by
  simp [streamFrameTimeout, Dev.tpgSwitch, Dev.discardFrame, INn_STATUS, INn_STATUS_STATE, INn_TIMEOUT_COUNT, INn_TIMEOUT_COUNT_V]

@[simp] theorem laneStatus_panelLinkDown (h : Nat) (d : Dev) : (d.panelLinkDown h).word (LNn_STATUS n) = d.word (LNn_STATUS n) := by
  simp [Dev.panelLinkDown, Dev.mipEvt, Dev.onMip, MIP_EVT_STATUS, clsMip, HDn_MIP_STATUS, HDn_MIP_STATUS_LINK_LOST]

@[simp] theorem laneStatus_linkLost (j : Nat) (d : Dev) : (d.linkLost j).word (LNn_STATUS n) = d.word (LNn_STATUS n) := by
  simp [Dev.linkLost]

@[simp] theorem laneStatus_linkDrop (j : Nat) (fault : Bool) (d : Dev) : (d.linkDrop j fault).word (LNn_STATUS n) = d.word (LNn_STATUS n) := by
  simp [Dev.linkDrop]

@[simp] theorem laneStatus_laneLeft (m : Nat) (d : Dev) : (d.laneLeft m).word (LNn_STATUS n) = d.word (LNn_STATUS n) := by
  unfold Dev.laneLeft
  split <;> simp

/-! ### A lane that enters a state (R372) -/

/-- Entering a state writes RXSTATE and no other field of LNn_STATUS. -/
theorem laneStatus_setLane (st : Nat) (d : Dev) :
    (d.setLane n st).word (LNn_STATUS n) = (d.put (LNn_STATUS_RXSTATE n) st).word (LNn_STATUS n) := by
  simp only [Dev.setLane, laneStatus_ite, onLane_word]
  split_ifs <;> simp [LNn_EQ_STATUS, LNn_EQ_STATUS_FROZEN]

/-- So it does with all that follows for the lane's link. -/
theorem laneStatus_laneGoes (st : Nat) (d : Dev) :
    (d.laneGoes n st).word (LNn_STATUS n) = (d.put (LNn_STATUS_RXSTATE n) st).word (LNn_STATUS n) := by
  unfold Dev.laneGoes
  extract_lets was d1 d2
  have hd2 : d2.word (LNn_STATUS n) = (d.put (LNn_STATUS_RXSTATE n) st).word (LNn_STATUS n) := by simp [d2, d1, laneStatus_setLane]
  split
  · split <;> simp [hd2]
  · exact hd2

theorem laneState_setLane {st : Nat} (hst : st < 8) (d : Dev) : (d.setLane n st).laneState n = st :=
  (get_congr (laneStatus_setLane st d)).trans ((get_put_same _ _ _ (by simp [LNn_STATUS_RXSTATE])).trans (Nat.mod_eq_of_lt hst))

theorem laneState_laneGoes {st : Nat} (hst : st < 8) (d : Dev) : (d.laneGoes n st).laneState n = st :=
  (get_congr (laneStatus_laneGoes st d)).trans ((get_put_same _ _ _ (by simp [LNn_STATUS_RXSTATE])).trans (Nat.mod_eq_of_lt hst))

/-- The fields of LNn_STATUS below RXSTATE. -/
theorem get_laneGoes_status (st : Nat) (d : Dev) {f : Fld} (ha : f.addr = LNn_STATUS n) (hf : f.lo + f.w ≤ 29) :
    (d.laneGoes n st).get f = d.get f :=
  (get_congr (ha ▸ laneStatus_laneGoes st d)).trans (get_put_of_apart _ _ _ _ (.inr hf) (by omega))

end Sys2Proof.Machine
end

section
/-! SUPPORT. The receiver of a lane (R369 to R372, R376): block lock and its loss, and what a block that is received changes. -/
namespace Sys2Proof.Machine

/-! ### The unit of a lane, its link and the frame -/

section
variable (l : List Nat) (n : Nat) (d : Dev)

@[simp] theorem frame_onLane (f : LaneUnit → LaneUnit) : (d.onLane n f).frame l = d.frame l := by unfold Dev.onLane; rfl

@[simp] theorem laneState_onLane (k : Nat) (f : LaneUnit → LaneUnit) : (d.onLane n f).laneState k = d.laneState k := onLane_get ..

@[simp] theorem laneState_settle (k : Nat) : (settle d).laneState k = d.laneState k :=
  get_settle_of_le _ _ (aboveTop_indexed _ _ (by decide))

@[simp] theorem settle_lane (k : Nat) : (settle d).lane k = d.lane k := by rw [Dev.lane, Dev.lane, settle_lanes]

theorem get_settle_laneCount (k : Nat) : (settle d).get (LNn_COUNTk_V n k) = d.get (LNn_COUNTk_V n k) :=
  get_settle_of_le _ _ (aboveTop_indexed₂ _ _ _ (by decide))

variable {l n d}

theorem lane_onLane_same (hlen : n < d.lanes.length) (f : LaneUnit → LaneUnit) : (d.onLane n f).lane n = f (d.lane n) :=
  nth_updAt_same _ _ _ _ hlen

theorem onLane_id : d.onLane n id = d := by simp [Dev.onLane, updAt]

/-- The link map alone says which link holds a lane. -/
theorem laneLink_congr {e : Dev} (h : e.tack = d.tack) : e.laneLink n = d.laneLink n := by
  simp only [Dev.laneLink, Dev.allLanes, Dev.linkEntry, h]

theorem setLane_tack (st : Nat) : (d.setLane n st).tack = d.tack := by
  unfold Dev.setLane
  dsimp only
  split_ifs <;> simp

end

/-! ### Failed checks (R31) -/

section
variable {l : List Nat} {n c : Nat} {d : Dev}

@[simp] theorem rxFails_lane (k : Nat) : (d.rxFails n c).lane k = d.lane k := by simp [Dev.rxFails, Dev.lane]

@[simp] theorem rxFails_tack : (d.rxFails n c).tack = d.tack := by simp [Dev.rxFails, Dev.inc, Dev.addSat]

@[simp] theorem frame_rxFails (h : LNn_COUNTk n c ∈ l) : (d.rxFails n c).frame l = d.frame l := by simp [Dev.rxFails, LNn_COUNTk_V, h]

theorem get_rxFails_count : (d.rxFails n c).get (LNn_COUNTk_V n c) = min (d.get (LNn_COUNTk_V n c) + 1) (2 ^ 32 - 1) :=
  (guardFail_get ..).trans (get_inc_same _ _ (by simp [LNn_COUNTk_V]))

theorem get_rxFails_of_ne {f : Fld} (h : LNn_COUNTk n c ≠ f.addr) : (d.rxFails n c).get f = d.get f :=
  (guardFail_get ..).trans (get_put_of_ne _ _ _ _ h)

end

theorem count_ne_status {c : Nat} (hc : c < 16) (n : Nat) : LNn_COUNTk n c ≠ LNn_STATUS n := by
  simp only [LNn_COUNTk, LNn_STATUS]
  omega

variable {l : List Nat} {n : Fin 36} {d : Dev}

theorem laneState_rxFails {c : Nat} (hc : c < 16) : (d.rxFails n c).laneState n = d.laneState n := get_rxFails_of_ne (count_ne_status hc n)

theorem laneState_put_below {f : Fld} (hf : f.lo + f.w ≤ 29) (x : Nat) : (d.put f x).laneState n = d.laneState n :=
  get_put_of_apart _ _ _ _ (.inl hf) (by simp [LNn_STATUS_RXSTATE])

/-! ### A lane that enters a state of no consequence for its link (R372) -/

theorem setLane_eq_put {st : Nat} (h1 : st ≠ 1) (h4 : st ≠ 4) : d.setLane n st = d.put (LNn_STATUS_RXSTATE n) st := by
  simp [Dev.setLane, h1, h4]

@[simp] theorem frame_setLane (st : Nat) (hs : LNn_STATUS n ∈ l) (he : LNn_EQ_STATUS n ∈ l) : (d.setLane n st).frame l = d.frame l := by
  unfold Dev.setLane
  dsimp only
  split_ifs <;> simp [LNn_STATUS_RXSTATE, LNn_EQ_STATUS_FROZEN, hs, he]

theorem get_setLane_count (st k : Nat) (hk : k < 16) : (d.setLane n st).get (LNn_COUNTk_V n k) = d.get (LNn_COUNTk_V n k) := by
  have hs : LNn_STATUS n ≠ LNn_COUNTk n k := (count_ne_status hk n).symm
  have he : LNn_EQ_STATUS n ≠ LNn_COUNTk n k := by simp only [LNn_COUNTk, LNn_EQ_STATUS]; omega
  unfold Dev.setLane
  dsimp only
  split_ifs <;> simp only [onLane_get, get_put_of_ne _ (LNn_STATUS_RXSTATE n) (LNn_COUNTk_V n k) _ hs,
    get_put_of_ne _ (LNn_EQ_STATUS_FROZEN n) (LNn_COUNTk_V n k) _ he]

/-- A lane of no link has no consequences. -/
theorem laneGoes_unlinked (h : d.laneLink n = none) (st : Nat) : d.laneGoes n st = d.setLane n st := by
  have hset : (d.setLane n st).laneLink n = none := (laneLink_congr (setLane_tack st)).trans h
  simp [Dev.laneGoes, Dev.laneLeft, hset]

/-- Nor has a change between states other than ALIGNED, ABSENT and MISMATCH. -/
theorem laneGoes_unaligned {st : Nat} (h : d.laneState n ≠ 3) (h4 : st ≠ 4) (h5 : st ≠ 5) : d.laneGoes n st = d.setLane n st := by
  simp [Dev.laneGoes, h, h4, h5]

/-! ### Block lock and its loss (R369, R372) -/

/-- A receiver that declares block lock after a change that the frame does not show. -/
theorem settled_laneLocks {e : Dev} (hl : LNn_STATUS n ∈ l) (hframe : e.frame l = d.frame l) :
    (settle (e.laneLocks n)).laneState n = 2 ∧ (settle (e.laneLocks n)).flag (LNn_STATUS_LOS n) = false ∧
    (settle (e.laneLocks n)).flag (LNn_STATUS_LOL n) = false ∧ keepsRegs l d (settle (e.laneLocks n)) ∧
    keepsMem d (settle (e.laneLocks n)) := by
  rw [flag_settle_of_le _ _ (aboveTop_indexed _ _ (by decide)), flag_settle_of_le _ _ (aboveTop_indexed _ _ (by decide)), laneState_settle,
    Dev.laneLocks, setLane_eq_put (by decide) (by decide), flag_eq_false_iff, flag_eq_false_iff]
  refine ⟨get_put_same _ _ _ (by simp [LNn_STATUS_RXSTATE]), ?_, ?_, keeps_of_frame ?_⟩
  · rw [get_put_of_apart _ _ _ _ (.inr (by simp [LNn_STATUS_LOS, LNn_STATUS_RXSTATE])) (by simp [LNn_STATUS_LOS]), onLane_get,
      get_put_of_apart _ _ _ _ (.inl (by simp [LNn_STATUS_LOS, LNn_STATUS_LOL])) (by simp [LNn_STATUS_LOS]),
      get_put_same _ _ _ (by simp [LNn_STATUS_LOS]), Nat.zero_mod]
  · rw [get_put_of_apart _ _ _ _ (.inr (by simp [LNn_STATUS_LOL, LNn_STATUS_RXSTATE])) (by simp [LNn_STATUS_LOL]), onLane_get,
      get_put_same _ _ _ (by simp [LNn_STATUS_LOL]), Nat.zero_mod]
  · simp [LNn_STATUS_RXSTATE, LNn_STATUS_LOS, LNn_STATUS_LOL, hl, hframe]

/-- Lane `n` has lost block lock: it counts, and LOCK_LOST tells. -/
def Dev.lockLost (n : Nat) (d : Dev) : Dev := (d.rxFails n 0).put (LNn_STATUS_LOCK_LOST n) 1

theorem lockEnds_held (h : d.laneState n = 2 ∨ d.laneState n = 3 ∨ d.laneState n = 5) : d.lockEnds n = (d.lockLost n).laneGoes n 1 := if_pos h

theorem lockEnds_lock (h : d.laneState n = 2) : d.lockEnds n = (d.lockLost n).setLane n 1 := by
  have hstate : (d.lockLost n).laneState n = 2 :=
    (laneState_put_below (by simp [LNn_STATUS_LOCK_LOST]) _).trans ((laneState_rxFails (by decide)).trans h)
  rw [lockEnds_held (.inl h), laneGoes_unaligned (by rw [hstate]; decide) (by decide) (by decide)]

theorem get_lockEnds_count_other {k : Nat} (hk : k < 16) (h0 : k ≠ 0) (h : d.laneState n = 2) :
    (d.lockEnds n).get (LNn_COUNTk_V n k) = d.get (LNn_COUNTk_V n k) := by
  rw [lockEnds_lock h, get_setLane_count _ _ hk, Dev.lockLost, get_put_of_ne _ _ _ _ (count_ne_status hk n).symm, get_rxFails_of_ne]
  simp only [LNn_COUNTk_V, LNn_COUNTk]
  omega

/-- A lane in LOCK that loses it after a change that the frame does not show. -/
theorem settled_lockEnds {e : Dev} (hstate : e.laneState n = 2) (hs : LNn_STATUS n ∈ l) (hc : LNn_COUNTk n 0 ∈ l) (he : LNn_EQ_STATUS n ∈ l)
    (hframe : e.frame l = d.frame l) :
    (settle (e.lockEnds n)).laneState n = 1 ∧
    (settle (e.lockEnds n)).get (LNn_COUNTk_V n 0) = min (e.get (LNn_COUNTk_V n 0) + 1) (2 ^ 32 - 1) ∧
    (settle (e.lockEnds n)).flag (LNn_STATUS_LOCK_LOST n) = true ∧ keepsRegs l d (settle (e.lockEnds n)) ∧
    keepsMem d (settle (e.lockEnds n)) := by
  have hlost : (e.lockLost n).get (LNn_STATUS_LOCK_LOST n) = 1 := get_put_same _ _ _ (by simp [LNn_STATUS_LOCK_LOST])
  refine ⟨?_, ?_, ?_, keeps_of_frame ?_⟩
  · rw [laneState_settle, lockEnds_lock hstate, laneState_setLane (by decide)]
  · rw [get_settle_laneCount, lockEnds_lock hstate, get_setLane_count _ _ (by decide), Dev.lockLost,
      get_put_of_ne _ _ _ _ (count_ne_status (by decide) n).symm, get_rxFails_count]
  · rw [flag_settle_of_le _ _ (aboveTop_indexed _ _ (by decide)), flag_eq_true_iff, lockEnds_held (.inl hstate),
      get_laneGoes_status _ _ rfl (by simp [LNn_STATUS_LOCK_LOST]), hlost]
    decide
  · simp [lockEnds_lock hstate, Dev.lockLost, LNn_STATUS_LOCK_LOST, hs, hc, he, hframe]

theorem completes_blockLock (s : State) (n : Fin 36) (ppm : Int) (hlive : s.live) (hhunt : s.dev.laneState n = 1 ∨ s.dev.laneState n = 4) :
    Completes (.blockLock n ppm) s (fun e =>
      e.laneState n = 2 ∧ e.flag (LNn_STATUS_LOS n) = false ∧ e.flag (LNn_STATUS_LOL n) = false ∧
      keepsRegs [LNn_STATUS n, LNn_PPM n] s.dev e ∧ keepsMem s.dev e) := by
  refine completes_on rfl hlive ?_
  rw [blockLock, if_pos hhunt]
  exact settled_laneLocks (by simp) (by simp [LNn_PPM_V])

theorem completes_blockLockLoss (s : State) (n : Fin 36) (hlive : s.live) (hlock : s.dev.laneState n = 2) :
    Completes (.blockLockLoss n) s (fun e =>
      e.laneState n = 1 ∧ e.get (LNn_COUNTk_V n 0) = min (s.dev.get (LNn_COUNTk_V n 0) + 1) (2 ^ 32 - 1) ∧
      e.flag (LNn_STATUS_LOCK_LOST n) = true ∧ keepsRegs [LNn_STATUS n, LNn_COUNTk n 0, LNn_EQ_STATUS n] s.dev e ∧ keepsMem s.dev e) :=
  completes_on rfl hlive (settled_lockEnds hlock (by simp) (by simp) (by simp) rfl)

/-! ### Loss of signal and of lock (R372) -/

/-- Lane `n` has lost its signal: it counts, and LOS and LOS_SEEN tell. -/
def Dev.signalLost (n : Nat) (d : Dev) : Dev := ((d.rxFails n 1).put (LNn_STATUS_LOS n) 1).put (LNn_STATUS_LOS_SEEN n) 1

theorem lossOfSignal_present (h0 : d.laneState n ≠ 0) (h4 : d.laneState n ≠ 4) : lossOfSignal n d = (d.signalLost n).laneGoes n 4 :=
  (if_neg h0).trans (if_neg h4)

theorem settled_lossOfSignal (h0 : d.laneState n ≠ 0) (h4 : d.laneState n ≠ 4) :
    (settle (lossOfSignal n d)).get (LNn_STATUS_LOS n) = 1 ∧ (settle (lossOfSignal n d)).get (LNn_STATUS_LOS_SEEN n) = 1 ∧
    (settle (lossOfSignal n d)).laneState n = 4 := by
  rw [lossOfSignal_present h0 h4]
  refine ⟨?_, ?_, ?_⟩
  · rw [get_settle_of_le _ _ (aboveTop_indexed _ _ (by decide)), get_laneGoes_status _ _ rfl (by simp [LNn_STATUS_LOS]), Dev.signalLost,
      get_put_of_apart _ _ _ _ (.inl (by simp [LNn_STATUS_LOS, LNn_STATUS_LOS_SEEN])) (by simp [LNn_STATUS_LOS]),
      get_put_same _ _ _ (by simp [LNn_STATUS_LOS])]
    rfl
  · rw [get_settle_of_le _ _ (aboveTop_indexed _ _ (by decide)), get_laneGoes_status _ _ rfl (by simp [LNn_STATUS_LOS_SEEN])]
    exact get_put_same _ _ _ (by simp [LNn_STATUS_LOS_SEEN])
  · rw [laneState_settle, laneState_laneGoes (by decide)]

theorem signalLost_tack : (d.signalLost n).tack = d.tack := by simp [Dev.signalLost]

theorem completes_lossOfSignal_unlinked (s : State) (n : Fin 36) (hlive : s.live) (hpos : 1 ≤ s.dev.laneState n)
    (h4 : s.dev.laneState n ≠ 4) (_ : s.dev.laneState n ≠ 3) (hlink : s.dev.laneLink n = none) :
    Completes (.lossOfSignal n) s (fun e =>
      e.laneState n = 4 ∧ e.flag (LNn_STATUS_LOS n) = true ∧ e.flag (LNn_STATUS_LOS_SEEN n) = true ∧
      e.get (LNn_COUNTk_V n 1) = min (s.dev.get (LNn_COUNTk_V n 1) + 1) (2 ^ 32 - 1) ∧
      keepsRegs [LNn_STATUS n, LNn_COUNTk n 1, LNn_EQ_STATUS n] s.dev e ∧ keepsMem s.dev e) := by
  have h0 : s.dev.laneState n ≠ 0 := by omega
  have heff : lossOfSignal n s.dev = (s.dev.signalLost n).setLane n 4 :=
    (lossOfSignal_present h0 h4).trans (laneGoes_unlinked ((laneLink_congr signalLost_tack).trans hlink) 4)
  obtain ⟨hlos, hseen, hstate⟩ := settled_lossOfSignal h0 h4
  refine completes_on rfl hlive ⟨hstate, ?_, ?_, ?_, keeps_of_frame ?_⟩
  · rw [flag_eq_true_iff, hlos]
    decide
  · rw [flag_eq_true_iff, hseen]
    decide
  · rw [get_settle_laneCount, heff, get_setLane_count _ _ (by decide), Dev.signalLost, get_put_of_ne _ _ _ _ (count_ne_status (by decide) n).symm,
      get_put_of_ne _ _ _ _ (count_ne_status (by decide) n).symm, get_rxFails_count]
  · simp [heff, Dev.signalLost, LNn_STATUS_LOS, LNn_STATUS_LOS_SEEN]

theorem completes_lossOfSignal (s : State) (n : Fin 36) (hlive : s.live) (h0 : s.dev.laneState n ≠ 0) (h4 : s.dev.laneState n ≠ 4) :
    Completes (.lossOfSignal n) s (fun e => e = settle ((s.dev.signalLost n).laneGoes n 4) ∧
      e.get (LNn_STATUS_LOS n) = 1 ∧ e.get (LNn_STATUS_LOS_SEEN n) = 1 ∧ e.laneState n = 4) :=
  completes_on rfl hlive ⟨by rw [lossOfSignal_present h0 h4], settled_lossOfSignal h0 h4⟩

/-- Losing block lock leaves LOL as it was. -/
theorem get_lockEnds_lol : (d.lockEnds n).get (LNn_STATUS_LOL n) = d.get (LNn_STATUS_LOL n) := by
  by_cases h : d.laneState n = 2 ∨ d.laneState n = 3 ∨ d.laneState n = 5
  · rw [lockEnds_held h, get_laneGoes_status _ _ rfl (by simp [LNn_STATUS_LOL]), Dev.lockLost,
      get_put_of_apart _ _ _ _ (.inl (by simp [LNn_STATUS_LOL, LNn_STATUS_LOCK_LOST])) (by simp [LNn_STATUS_LOL]),
      get_rxFails_of_ne (count_ne_status (by decide) n)]
  · rw [Dev.lockEnds, if_neg h]

theorem completes_lossOfLock (s : State) (n : Fin 36) (hlive : s.live) (h0 : s.dev.laneState n ≠ 0) :
    Completes (.lossOfLock n) s (fun e =>
      e = settle ((s.dev.put (LNn_STATUS_LOL n) 1).lockEnds n) ∧ e.get (LNn_STATUS_LOL n) = 1) := by
  have heff : lossOfLock n s.dev = (s.dev.put (LNn_STATUS_LOL n) 1).lockEnds n := if_neg h0
  refine completes_on rfl hlive ⟨congrArg settle heff, ?_⟩
  rw [heff, get_settle_of_le _ _ (aboveTop_indexed _ _ (by decide)), get_lockEnds_lol, get_put_same _ _ _ (by simp [LNn_STATUS_LOL])]
  rfl

/-! ### A lane that stays absent (R372) -/

theorem completes_lungeTimeout (s : State) (n : Fin 36) (hlive : s.live) (hlunge : s.dev.laneState n = 1 ∨ s.dev.laneState n = 2)
    (hlink : s.dev.laneLink n = none) :
    Completes (.lungeTimeout n) s (fun e =>
      e.laneState n = 4 ∧ keepsRegs [LNn_STATUS n, LNn_EQ_STATUS n] s.dev e ∧ keepsMem s.dev e) := by
  have heff : lungeTimeout n s.dev = (s.dev.setLane n 4).guardFail 1 33 := by rw [lungeTimeout, if_pos hlunge, laneGoes_unlinked hlink]
  refine completes_on rfl hlive ⟨?_, keeps_of_frame ?_⟩
  · rw [heff, laneState_settle]
    exact (guardFail_get ..).trans (laneState_setLane (by decide) _)
  · simp [heff]

theorem completes_absentRetry (s : State) (n : Fin 36) (hlive : s.live) (habsent : s.dev.laneState n = 4) :
    Completes (.absentRetry n) s (fun e =>
      e.get (LNn_EQ_STATUS_CTLE n) = 0 ∧ e.word (LNn_DFE n) = 0 ∧ keepsRegs [LNn_EQ_STATUS n, LNn_DFE n] s.dev e ∧ keepsMem s.dev e) := by
  have heff : absentRetry n s.dev = (s.dev.put (LNn_EQ_STATUS_CTLE n) 0).setWord (LNn_DFE n) 0 := if_pos habsent
  refine completes_on rfl hlive ⟨?_, ?_, keeps_of_frame ?_⟩
  · rw [heff, get_settle_of_le _ _ (aboveTop_indexed _ _ (by decide)),
      get_setWord_other _ _ _ _ (by simp [LNn_DFE, LNn_EQ_STATUS_CTLE, LNn_EQ_STATUS]), get_put_same _ _ _ (by simp [LNn_EQ_STATUS_CTLE]),
      Nat.zero_mod]
  · rw [heff, word_settle _ (LNn_DFE n) (notMem_modeRegs_of_le (aboveTop_indexed _ _ (by decide))), word_setWord_same, Nat.zero_mod]
  · simp [heff, LNn_EQ_STATUS_CTLE]

end Sys2Proof.Machine
end

section
/-! SUPPORT. A block that reaches a lane's receiver (R361, R369, R376): what its header does while the receiver hunts and while it holds
block lock. -/
namespace Sys2Proof.Machine

variable {n : Fin 36} {d : Dev}

/-! ### From the pins to the receiver -/

/-- The 66 bits of a block as the pins bring them, the header in the lowest two. -/
def serialOf (h0 h1 : Bool) (p : Nat) : Nat := b2n h0 + 2 * b2n h1 + 4 * (p % 2 ^ 64)

/-- Is the sync header of a block valid (R360)? -/
def headerValid (serial : Nat) : Bool := serial % 4 == 1 || serial % 4 == 2

/-- A header is valid where its bits differ, whatever the polarity. -/
theorem headerValid_inverted (on h0 h1 : Bool) (p : Nat) : headerValid (inverted on (serialOf h0 h1 p)) = (h0 != h1) := by
  have hbit (b : Bool) : b2n b ≤ 1 := by cases b <;> decide
  have hmod : inverted on (serialOf h0 h1 p) % 4 = if on then 3 - (b2n h0 + 2 * b2n h1) else b2n h0 + 2 * b2n h1 := by
    have h0 := hbit h0
    have h1 := hbit h1
    unfold inverted serialOf
    split <;> omega
  rw [headerValid, hmod]
  cases on <;> cases h0 <;> cases h1 <;> rfl

/-- Without a near-end loopback a lane that receives takes the block from its pins. -/
theorem laneBlockRx_pins (hstate : d.laneState n ≠ 0) (h1 : d.get (LNn_CTRL_LOOPBACK n) ≠ 1) (h2 : d.get (LNn_CTRL_LOOPBACK n) ≠ 2)
    (b0 b1 : Bool) (p fill : Nat) :
    laneBlockRx n b0 b1 p fill d = d.laneTakes n (inverted (d.flag (LNn_CTRL_RX_INVERT n)) (serialOf b0 b1 p)) fill false :=
  (if_neg hstate).trans (if_neg (not_or.2 ⟨h1, h2⟩))

/-- The receiver's descrambler keeps the bits `rx`. -/
def Dev.rxBits (n rx : Nat) (d : Dev) : Dev := d.onLane n (fun u => { u with rx := rx })

@[simp] theorem length_rxBits (rx : Nat) : (d.rxBits n rx).lanes.length = d.lanes.length := List.length_modify ..

theorem rxBits_lane {α : Type} (g : LaneUnit → α) (hg : ∀ u rx, g { u with rx := rx } = g u) (rx k : Nat) :
    g ((d.rxBits n rx).lane k) = g (d.lane k) := nth_updAt_congr g _ _ _ _ (fun u => hg u rx) k

@[simp] theorem laneState_rxBits (rx k : Nat) : (d.rxBits n rx).laneState k = d.laneState k := laneState_onLane ..

@[simp] theorem frame_rxBits (l : List Nat) (rx : Nat) : (d.rxBits n rx).frame l = d.frame l := frame_onLane ..

/-- A receiver that hunts sees the header alone. -/
theorem laneTakes_hunts (h : d.laneState n = 1 ∨ d.laneState n = 4) (serial fill : Nat) :
    d.laneTakes n serial fill false = (d.rxBits n (descramble 64 (d.lane n).rx (serial / 4)).2).laneHunts n (headerValid serial) := by
  simp only [Dev.laneTakes, Dev.rxBits, headerValid, h, if_true]

/-- The elastic buffer stays within its levels (R376). -/
theorem elastic_kept {fill : Nat} (hlow : 12 ≤ fill) (hhigh : fill ≤ 20) (e : Dev) :
    e.onLane n (fun u => { u with elastic := if 20 < fill then 1 else if fill < 12 then 2 else u.elastic }) = e := by
  have hid : (fun u : LaneUnit => { u with elastic := if 20 < fill then 1 else if fill < 12 then 2 else u.elastic }) = id := by
    funext u
    rw [if_neg (by omega), if_neg (by omega)]
    rfl
  rw [hid, onLane_id]

/-- A receiver that holds block lock counts an invalid header. -/
theorem laneTakes_invalid (h1 : d.laneState n ≠ 1) (h4 : d.laneState n ≠ 4) {serial fill : Nat} (hlow : 12 ≤ fill) (hhigh : fill ≤ 20)
    (hv : headerValid serial = false) :
    d.laneTakes n serial fill false =
      ((d.rxBits n (descramble 64 (d.lane n).rx (serial / 4)).2).rxFails n 2).headerSeen n false := by
  rw [headerValid] at hv
  rw [Dev.laneTakes]
  dsimp only
  rw [if_neg (not_or.2 ⟨h1, h4⟩), elastic_kept hlow hhigh, hv, if_neg (by omega)]
  simp only [Bool.false_and, Bool.false_eq_true, if_false, Dev.rxBits]

/-- One with a valid header it classes. -/
theorem laneTakes_valid (h1 : d.laneState n ≠ 1) (h4 : d.laneState n ≠ 4) {serial fill : Nat} (hlow : 12 ≤ fill) (hhigh : fill ≤ 20)
    (hv : headerValid serial = true) (h3 : d.get (LNn_CTRL_LOOPBACK n) ≠ 3) :
    d.laneTakes n serial fill false =
      ((d.rxBits n (descramble 64 (d.lane n).rx (serial / 4)).2).laneClass n (serial % 4 == 1)
        (descramble 64 (d.lane n).rx (serial / 4)).1).headerSeen n true := by
  rw [headerValid] at hv
  rw [Dev.laneTakes]
  dsimp only
  rw [if_neg (not_or.2 ⟨h1, h4⟩), elastic_kept hlow hhigh, hv, if_neg (by omega), beq_false_of_ne h3]
  simp only [Bool.and_false, Bool.false_and, Bool.false_eq_true, if_false, if_true, Dev.rxBits]

/-! ### Headers while the receiver hunts (R369) -/

section
variable (s : State) (n : Fin 36) (hb : Bool) (p : BitVec 64) (fill : Fin 33)

/-- The block after a header has reached a receiver that hunts. -/
theorem laneBlockRx_hunts {h0 h1 : Bool} (hhunt : d.laneState n = 1 ∨ d.laneState n = 4) (hl1 : d.get (LNn_CTRL_LOOPBACK n) ≠ 1)
    (hl2 : d.get (LNn_CTRL_LOOPBACK n) ≠ 2) : ∃ rx, laneBlockRx n h0 h1 p.toNat fill d = (d.rxBits n rx).laneHunts n (h0 != h1) := by
  have hstate : d.laneState n ≠ 0 := by rcases hhunt with h | h <;> simp [h]
  rw [laneBlockRx_pins hstate hl1 hl2, laneTakes_hunts hhunt, headerValid_inverted]
  exact ⟨_, rfl⟩

theorem completes_laneBlockRx_slip (hlive : s.live) (hhunt : s.dev.laneState n = 1 ∨ s.dev.laneState n = 4)
    (hlen : n.val < s.dev.lanes.length) (hl1 : s.dev.get (LNn_CTRL_LOOPBACK n) ≠ 1) (hl2 : s.dev.get (LNn_CTRL_LOOPBACK n) ≠ 2) :
    Completes (.laneBlockRx n hb hb p fill) s (fun e =>
      e.laneState n = s.dev.laneState n ∧ (e.lane n).valid = 0 ∧ (e.lane n).slip = ((s.dev.lane n).slip + 1) % 66 ∧
      keepsRegs [] s.dev e ∧ keepsMem s.dev e) := by
  obtain ⟨rx, heff⟩ := laneBlockRx_hunts (h0 := hb) (h1 := hb) n p fill hhunt hl1 hl2
  refine completes_on rfl hlive ?_
  rw [heff, bne_self_eq_false, Dev.laneHunts, if_pos (by decide), laneState_settle, settle_lane,
    lane_onLane_same (by rwa [length_rxBits])]
  exact ⟨by simp, rfl, congrArg (fun k => (k + 1) % 66) (rxBits_lane LaneUnit.slip (fun _ _ => rfl) rx n), keeps_of_frame (by simp)⟩

theorem completes_laneBlockRx_count (hlive : s.live) (hhunt : s.dev.laneState n = 1 ∨ s.dev.laneState n = 4)
    (hlen : n.val < s.dev.lanes.length) (hl1 : s.dev.get (LNn_CTRL_LOOPBACK n) ≠ 1) (hl2 : s.dev.get (LNn_CTRL_LOOPBACK n) ≠ 2)
    (hfew : (s.dev.lane n).valid < 95) :
    Completes (.laneBlockRx n hb (!hb) p fill) s (fun e =>
      e.laneState n = s.dev.laneState n ∧ (e.lane n).valid = (s.dev.lane n).valid + 1 ∧ keepsRegs [] s.dev e ∧ keepsMem s.dev e) := by
  obtain ⟨rx, heff⟩ := laneBlockRx_hunts (h0 := hb) (h1 := !hb) n p fill hhunt hl1 hl2
  have hvalid : ((s.dev.rxBits n rx).lane n).valid = (s.dev.lane n).valid := rxBits_lane LaneUnit.valid (fun _ _ => rfl) rx n
  refine completes_on rfl hlive ?_
  rw [heff, Bool.bne_not_self, Dev.laneHunts, if_neg (by decide), hvalid, if_pos hfew, laneState_settle, settle_lane,
    lane_onLane_same (by rwa [length_rxBits])]
  exact ⟨by simp, congrArg (· + 1) hvalid, keeps_of_frame (by simp)⟩

theorem completes_laneBlockRx_lock (hlive : s.live) (hhunt : s.dev.laneState n = 1 ∨ s.dev.laneState n = 4)
    (_ : n.val < s.dev.lanes.length) (hl1 : s.dev.get (LNn_CTRL_LOOPBACK n) ≠ 1) (hl2 : s.dev.get (LNn_CTRL_LOOPBACK n) ≠ 2)
    (hmany : 95 ≤ (s.dev.lane n).valid) :
    Completes (.laneBlockRx n hb (!hb) p fill) s (fun e =>
      e.laneState n = 2 ∧ e.flag (LNn_STATUS_LOS n) = false ∧ e.flag (LNn_STATUS_LOL n) = false ∧
      keepsRegs [LNn_STATUS n] s.dev e ∧ keepsMem s.dev e) := by
  obtain ⟨rx, heff⟩ := laneBlockRx_hunts (h0 := hb) (h1 := !hb) n p fill hhunt hl1 hl2
  have hvalid : ((s.dev.rxBits n rx).lane n).valid = (s.dev.lane n).valid := rxBits_lane LaneUnit.valid (fun _ _ => rfl) rx n
  refine completes_on rfl hlive ?_
  rw [heff, Bool.bne_not_self, Dev.laneHunts, if_neg (by decide), hvalid, if_neg hmany.not_gt]
  exact settled_laneLocks (by simp) (by simp)

end

/-! ### Headers while it holds block lock (R369, R372) -/

/-- The validity of the last 128 headers with that of one more, which is invalid. -/
def Dev.headersPast (d : Dev) (n : Nat) : Nat := ((d.lane n).headers * 2 + 1) % 2 ^ 128

/-- Lane `n` counts an invalid header. -/
def Dev.headerFails (n rx : Nat) (d : Dev) : Dev :=
  ((d.rxBits n rx).rxFails n 2).onLane n (fun u => { u with headers := d.headersPast n })

/-- With 24 of the last 128 headers invalid, block lock ends. -/
theorem headerSeen_invalid (rx : Nat) (d : Dev) : ((d.rxBits n rx).rxFails n 2).headerSeen n false =
    if 24 ≤ (onesOf 128 (d.headersPast n)).length then (d.headerFails n rx).lockEnds n else d.headerFails n rx := by
  have hpast : (((d.rxBits n rx).rxFails n 2).lane n).headers = (d.lane n).headers := by
    rw [rxFails_lane, rxBits_lane LaneUnit.headers fun _ _ => rfl]
  rw [Dev.headerSeen, hpast]
  by_cases h : 24 ≤ (onesOf 128 (d.headersPast n)).length
  · rw [if_pos h]
    exact if_pos (decide_eq_true h)
  · rw [if_neg h]
    exact if_neg fun hc => h (of_decide_eq_true hc)

theorem laneState_headerFails (rx : Nat) (d : Dev) : (d.headerFails n rx).laneState n = d.laneState n := by
  rw [Dev.headerFails, laneState_onLane, laneState_rxFails (by decide), laneState_rxBits]

theorem get_headerFails_count (rx : Nat) (d : Dev) :
    (d.headerFails n rx).get (LNn_COUNTk_V n 2) = min (d.get (LNn_COUNTk_V n 2) + 1) (2 ^ 32 - 1) := by
  rw [Dev.headerFails, onLane_get, get_rxFails_count, Dev.rxBits, onLane_get]

theorem get_headerFails_lockCount (rx : Nat) (d : Dev) : (d.headerFails n rx).get (LNn_COUNTk_V n 0) = d.get (LNn_COUNTk_V n 0) := by
  rw [Dev.headerFails, onLane_get, get_rxFails_of_ne (by simp [LNn_COUNTk_V, LNn_COUNTk]), Dev.rxBits, onLane_get]

theorem frame_headerFails {l : List Nat} (h : LNn_COUNTk n 2 ∈ l) (rx : Nat) (d : Dev) : (d.headerFails n rx).frame l = d.frame l := by
  simp [Dev.headerFails, h]

section
variable (s : State) (n : Fin 36) (hb : Bool) (p : BitVec 64) (fill : Fin 33)

/-- The block after an invalid header has reached a receiver that holds block lock. -/
theorem laneBlockRx_invalid (hheld : d.laneState n = 2 ∨ d.laneState n = 3 ∨ d.laneState n = 5) (hl1 : d.get (LNn_CTRL_LOOPBACK n) ≠ 1)
    (hl2 : d.get (LNn_CTRL_LOOPBACK n) ≠ 2) (hlow : 12 ≤ fill.val) (hhigh : fill.val ≤ 20) :
    ∃ rx, laneBlockRx n hb hb p.toNat fill d =
      if 24 ≤ (onesOf 128 (d.headersPast n)).length then (d.headerFails n rx).lockEnds n else d.headerFails n rx := by
  have hv := headerValid_inverted (d.flag (LNn_CTRL_RX_INVERT n)) hb hb p.toNat
  rw [bne_self_eq_false] at hv
  rw [laneBlockRx_pins (by omega) hl1 hl2, laneTakes_invalid (by omega) (by omega) hlow hhigh hv]
  exact ⟨_, headerSeen_invalid _ d⟩

theorem completes_laneBlockRx_invalid (hlive : s.live)
    (hheld : s.dev.laneState n = 2 ∨ s.dev.laneState n = 3 ∨ s.dev.laneState n = 5) (hl1 : s.dev.get (LNn_CTRL_LOOPBACK n) ≠ 1)
    (hl2 : s.dev.get (LNn_CTRL_LOOPBACK n) ≠ 2) (hlow : 12 ≤ fill.val) (hhigh : fill.val ≤ 20)
    (hfew : (onesOf 128 (s.dev.headersPast n)).length < 24) :
    Completes (.laneBlockRx n hb hb p fill) s (fun e =>
      e.get (LNn_COUNTk_V n 2) = min (s.dev.get (LNn_COUNTk_V n 2) + 1) (2 ^ 32 - 1) ∧ e.laneState n = s.dev.laneState n ∧
      keepsRegs [LNn_COUNTk n 2] s.dev e ∧ keepsMem s.dev e) := by
  obtain ⟨rx, heff⟩ := laneBlockRx_invalid n hb p fill hheld hl1 hl2 hlow hhigh
  rw [if_neg hfew.not_ge] at heff
  refine completes_on rfl hlive ?_
  rw [heff, get_settle_laneCount, laneState_settle]
  exact ⟨get_headerFails_count rx _, laneState_headerFails rx _, keeps_of_frame (by simp [frame_headerFails])⟩

theorem completes_laneBlockRx_lockLost (hlive : s.live) (hlock : s.dev.laneState n = 2) (hl1 : s.dev.get (LNn_CTRL_LOOPBACK n) ≠ 1)
    (hl2 : s.dev.get (LNn_CTRL_LOOPBACK n) ≠ 2) (hlow : 12 ≤ fill.val) (hhigh : fill.val ≤ 20)
    (hmany : 24 ≤ (onesOf 128 (s.dev.headersPast n)).length) :
    Completes (.laneBlockRx n hb hb p fill) s (fun e =>
      e.get (LNn_COUNTk_V n 2) = min (s.dev.get (LNn_COUNTk_V n 2) + 1) (2 ^ 32 - 1) ∧ e.laneState n = 1 ∧
      e.get (LNn_COUNTk_V n 0) = min (s.dev.get (LNn_COUNTk_V n 0) + 1) (2 ^ 32 - 1) ∧ e.flag (LNn_STATUS_LOCK_LOST n) = true ∧
      keepsRegs [LNn_STATUS n, LNn_COUNTk n 0, LNn_COUNTk n 2, LNn_EQ_STATUS n] s.dev e ∧ keepsMem s.dev e) := by
  obtain ⟨rx, heff⟩ := laneBlockRx_invalid n hb p fill (.inl hlock) hl1 hl2 hlow hhigh
  rw [if_pos hmany] at heff
  have hstate : (s.dev.headerFails n rx).laneState n = 2 := (laneState_headerFails rx _).trans hlock
  refine completes_on rfl hlive ?_
  rw [heff]
  refine ⟨?_, get_headerFails_lockCount rx s.dev ▸ settled_lockEnds hstate (by simp) (by simp) (by simp) (frame_headerFails (by simp) rx s.dev)⟩
  rw [get_settle_laneCount, get_lockEnds_count_other (by decide) (by decide) hstate, get_headerFails_count]

theorem completes_laneBlockRx_control (hlive : s.live)
    (hheld : s.dev.laneState n = 2 ∨ s.dev.laneState n = 3 ∨ s.dev.laneState n = 5) (hloop : s.dev.get (LNn_CTRL_LOOPBACK n) = 0)
    (hplain : s.dev.flag (LNn_CTRL_RX_INVERT n) = false) :
    Completes (.laneBlockRx n true false p 16) s (fun e =>
      e = settle (((s.dev.rxBits n (descramble 64 (s.dev.lane n).rx p.toNat).2).laneClass n true
        (descramble 64 (s.dev.lane n).rx p.toNat).1).headerSeen n true)) := by
  have hserial : inverted false (serialOf true false p.toNat) = 1 + 4 * p.toNat := by
    simp [inverted, serialOf, b2n, Nat.mod_eq_of_lt p.isLt]
  have hpayload : (1 + 4 * p.toNat) / 4 = p.toNat := by omega
  have hcontrol : ((1 + 4 * p.toNat) % 4 == 1) = true := by rw [Nat.add_mul_mod_self_left]; rfl
  refine completes_on rfl hlive ?_
  rw [laneBlockRx_pins (by omega) (by omega) (by omega), hplain, hserial,
    laneTakes_valid (by omega) (by omega) (by decide) (by decide) (by rw [headerValid, hcontrol]; rfl) (by omega), hpayload, hcontrol]

theorem completes_laneBlockRx_off (h0 h1 : Bool) (hlive : s.live) (hoff : s.dev.laneState n = 0) :
    Completes (.laneBlockRx n h0 h1 p fill) s (fun e => keepsRegs [] s.dev e ∧ keepsMem s.dev e ∧ e.sent = s.dev.sent) := by
  have heff : laneBlockRx n h0 h1 p.toNat fill s.dev = s.dev := if_pos hoff
  obtain ⟨hregs, hmem⟩ := keeps_of_frame (frame_settle [] s.dev)
  refine completes_on rfl hlive ?_
  rw [heff]
  exact ⟨hregs, hmem, settle_sent s.dev⟩

end

/-! ### The statement -/

/-- Settles O31: a header that reaches a receiver counts towards block lock or its loss, and of what follows for the link of a lane that
leaves its state nothing writes LNn_STATUS. -/
theorem laneReceivers : Obligations.LaneReceivers :=
  ⟨fun _ _ _ hs => completes_on rfl hs rfl, fun _ _ hs => completes_on rfl hs rfl, fun _ _ hs => completes_on rfl hs rfl,
    fun _ _ hs => completes_on rfl hs rfl, fun _ _ hs => completes_on rfl hs rfl, fun _ _ hs => completes_on rfl hs rfl,
    fun _ _ _ _ _ _ hs => completes_on rfl hs rfl, completes_blockLock, completes_blockLockLoss, completes_lossOfSignal_unlinked,
    completes_lossOfSignal, completes_lossOfLock, completes_lungeTimeout, completes_absentRetry, completes_laneBlockRx_invalid,
    completes_laneBlockRx_lockLost, completes_laneBlockRx_slip, completes_laneBlockRx_count, completes_laneBlockRx_lock,
    completes_laneBlockRx_control, fun s n h0 h1 p fill => completes_laneBlockRx_off s n p fill h0 h1⟩

end Sys2Proof.Machine
end

section
/-! SUPPORT. The host's and the SPI target's accesses to memory (R395, R409, R435): the statement about them, which a concrete block
refutes. -/
namespace Sys2Proof.Machine

/-! ### A read of BAR2 that lies in two blocks of 512 KiB -/

/-- READY, with all of DRAM filled. -/
def memFilled : Dev := { rdy with memu := { rdy.memu with allFilled := true } }

/-- Two bytes before the second block of 512 KiB in BAR2. -/
def beforeBlock : HostAddr := ⟨.bar2, 0x7FFFE⟩

theorem memFilled_fits : ({ pending := [], dev := memFilled } : State).hostLive ∧ 3 ≤ memFilled.mode ∧ memFilled.about 2 = false ∧
    memFilled.memu.allFilled = true ∧ memFilled.memu.poison = [] ∧ memFilled.bar2 0x7FFFE + 4 ≤ 0x1DC000000 := by with_unfolding_all decide

theorem memFilled_twoCompletions : (settle (hostMemoryRead (memFilled.hostAddr beforeBlock) 4 {} memFilled)).sent.length = 2 := by
  with_unfolding_all decide

/-- Refutes O36: the clause of a read of BAR2 says that one completion goes out, whatever the offset and the length. The model answers a
read block by block (`pieces`: a bank or a region is a number of blocks), so the four bytes at `beforeBlock` in `memFilled` go out as two
completions. -/
theorem not_hostMemory : ¬ Obligations.HostMemory := by
  unfold Obligations.HostMemory
  rintro ⟨-, -, -, -, -, -, -, -, -, -, -, -, -, -, -, -, -, -, hread⟩
  obtain ⟨hlive, hmode, habout, hfilled, hpoison, hroom⟩ := memFilled_fits
  obtain ⟨hsent, -⟩ :=
    (hread { pending := [], dev := memFilled } 0x7FFFE 4 hlive hmode habout hfilled hpoison (by decide) hroom).effect rfl hlive.1
  exact absurd (memFilled_twoCompletions.symm.trans (congrArg List.length hsent)) (by with_unfolding_all decide)

end Sys2Proof.Machine
end

section
/-! SUPPORT. The DMA channels' descriptors (R398 to R400): the statement about them, which a concrete block refutes. -/
namespace Sys2Proof.Machine

/-! ### A ring longer than HEAD counts (R398) -/

/-- READY, with DMA channel 2 in RUN at the last HEAD that 16 bits hold. Its DMAc_RING_SIZE says 2^17 descriptors: no write stores more than
16 there, but `Dev` as plain data holds it. -/
def longRing : Dev :=
  ((rdy.put (DMAc_STATUS_STATE 2) 2).put (DMAc_RING_SIZE_V 2) 17).put (DMAc_HEAD_V 2) 0xFFFF

/-- FILL four bytes of device memory at 4096 with the pattern 0xAB. -/
def fillFour : DmaDesc := { src := 0, dst := 4096, len := 4, flags := 18, tag := 0, pattern := 0xAB }

/-- `fillFour` in host memory, where `longRing` has its HEAD: the bytes that are not zero. -/
def fillFourCells : List Host.Cell :=
  [(2097128, 0x00#8), (2097129, 0x10#8), (2097136, 4#8), (2097140, 18#8), (2097144, 0xAB#8)]

theorem longRing_fits : longRing.halted = false ∧ longRing.get (DMAc_STATUS_STATE 2) = 2 ∧
    (longRing.given fillFourCells).dmaDesc 2 = fillFour ∧ (longRing.given fillFourCells).dmaCheck fillFour = 0 := by with_unfolding_all decide

/-- HEAD behind the descriptor at HEAD, as the ring's size gives it. -/
theorem longRing_nextHead : (longRing.get (DMAc_HEAD_V 2) + 1) % longRing.dmaSize 2 = 2 ^ (DMAc_HEAD_V 2).w := by with_unfolding_all decide

/-- Refutes O38: the clause of a completed FILL says that HEAD goes to (HEAD + 1) mod 2^RING_SIZE, for every RING_SIZE. HEAD has 16 bits,
so in `longRing`, whose ring has 2^17 descriptors, no HEAD is the 65536 that the clause asks for. -/
theorem not_dmaControl : ¬ Obligations.DmaControl := by
  unfold Obligations.DmaControl
  rintro ⟨-, -, -, -, -, -, -, -, -, -, -, -, -, -, -, hdone, -⟩
  obtain ⟨hlive, hstate, hdesc, hcheck⟩ := longRing_fits
  obtain ⟨hhead, -⟩ :=
    (hdone { pending := [], dev := longRing } 2 fillFourCells [] fillFour hlive hstate hdesc hcheck rfl).effect rfl hlive
  exact absurd (get_lt _ (DMAc_HEAD_V 2)) (hhead.trans longRing_nextHead).not_lt

end Sys2Proof.Machine
end

section
/-! SUPPORT. The Ethernet ports, their queues and the tile stream (R417 to R422): one lemma per clause of the statement about them. -/
namespace Sys2Proof.Machine

/-! ### Fields and counters after a store -/

section
variable (l : List Nat) (d : Dev)

@[simp] theorem frame_addSat (f : Fld) (n : Nat) (h : f.addr ∈ l) : (d.addSat f n).frame l = d.frame l := frame_put l d _ _ h

theorem get_addSat_of_ne (f g : Fld) (n : Nat) (h : f.addr ≠ g.addr) : (d.addSat f n).get g = d.get g := get_put_of_ne _ _ _ _ h

theorem get_inc_of_ne (f g : Fld) (h : f.addr ≠ g.addr) : (d.inc f).get g = d.get g := get_addSat_of_ne d f g 1 h

theorem flag_put_one {f : Fld} (hf : f.lo + f.w ≤ 32) (hw : 0 < f.w) : (d.put f 1).flag f = true := flag_putB_same d f true hf hw

theorem flag_put_zero {f : Fld} (hf : f.lo + f.w ≤ 32) (hw : 0 < f.w) : (d.put f 0).flag f = false := flag_putB_same d f false hf hw

theorem flag_put_of_apart (f g : Fld) (x : Nat) (h : f.lo + f.w ≤ g.lo ∨ g.lo + g.w ≤ f.lo) (hg : g.lo + g.w ≤ 32) :
    (d.put f x).flag g = d.flag g := by rw [Dev.flag, Dev.flag, get_put_of_apart _ _ _ _ h hg]

theorem flag_inc_of_ne (f g : Fld) (h : f.addr ≠ g.addr) : (d.inc f).flag g = d.flag g := by
  rw [Dev.flag, Dev.flag, get_inc_of_ne _ _ _ h]

theorem get_settle_ethCount (p k : Nat) : (settle d).get (Ep_COUNTk_V p k) = d.get (Ep_COUNTk_V p k) :=
  get_settle_of_le _ _ (aboveTop_indexed₂ _ _ _ (by decide))

theorem get_inc_ethCount (p k : Nat) : (d.inc (Ep_COUNTk_V p k)).get (Ep_COUNTk_V p k) = min (d.get (Ep_COUNTk_V p k) + 1) (2 ^ 32 - 1) :=
  get_inc_same d (Ep_COUNTk_V p k) (by simp [Ep_COUNTk_V])

/-- The counters of one port lie apart. -/
theorem ethCount_ne (p : Nat) {j k : Nat} (h : j ≠ k) : Ep_COUNTk p j ≠ Ep_COUNTk p k := by
  simp only [Ep_COUNTk]
  omega

end

/-! ### Frames received (R417, R418) -/

section
variable (s : State) (p : Fin 2) (l : List Byte) (f : Word)

/-- A frame that one counter alone counts. -/
theorem completes_ethFrameRx_counted {k : Nat} (hlive : s.live) (heff : ethFrameRx p l f.toNat s.dev = s.dev.inc (Ep_COUNTk_V p k)) :
    Completes (.ethFrameRx p l f) s (fun e =>
      e.get (Ep_COUNTk_V p k) = min (s.dev.get (Ep_COUNTk_V p k) + 1) (2 ^ 32 - 1) ∧ keepsRegs [Ep_COUNTk p k] s.dev e ∧
      keepsMem s.dev e) := by
  refine completes_on (f := ethFrameRx p l f.toNat) rfl hlive ?_
  rw [heff]
  exact ⟨by rw [get_settle_ethCount, get_inc_ethCount], keeps_of_frame (by simp [Ep_COUNTk_V])⟩

theorem completes_ethFrameRx_badFcs (hlive : s.live) (hfcs : f.toNat ≠ crc32 l) (hon : s.dev.flag (Ep_CTRL_ENABLE p) = true)
    (hup : s.dev.flag (Ep_STATUS_LINK_UP p) = true) :
    Completes (.ethFrameRx p l f) s (fun e =>
      e.get (Ep_COUNTk_V p 2) = min (s.dev.get (Ep_COUNTk_V p 2) + 1) (2 ^ 32 - 1) ∧ keepsRegs [Ep_COUNTk p 2] s.dev e ∧ keepsMem s.dev e) :=
  completes_ethFrameRx_counted s p l f hlive (by simp [ethFrameRx, hon, hup, hfcs])

theorem completes_ethFrameRx_short (hlive : s.live) (hfcs : f.toNat = crc32 l) (hon : s.dev.flag (Ep_CTRL_ENABLE p) = true)
    (hup : s.dev.flag (Ep_STATUS_LINK_UP p) = true) (hlen : l.length < 60) :
    Completes (.ethFrameRx p l f) s (fun e =>
      e.get (Ep_COUNTk_V p 3) = min (s.dev.get (Ep_COUNTk_V p 3) + 1) (2 ^ 32 - 1) ∧ keepsRegs [Ep_COUNTk p 3] s.dev e ∧
      keepsMem s.dev e) := by
  have hshort : l.length + 4 < 64 := by omega
  exact completes_ethFrameRx_counted s p l f hlive (by simp [ethFrameRx, hon, hup, hfcs, hshort])

theorem ethFrameRx_pause {p fcs : Nat} {l : List Byte} {d : Dev} (hfcs : fcs = crc32 l) (hon : d.flag (Ep_CTRL_ENABLE p) = true)
    (hup : d.flag (Ep_STATUS_LINK_UP p) = true) (hmin : 60 ≤ l.length) (hmax : l.length ≤ 1518) (htype : be16 l (typeAt l) = 0x8808)
    (hpause : be16 l (typeAt l + 2) = 1) :
    ethFrameRx p l fcs d = ((d.inc (Ep_COUNTk_V p 0)).addSat (Ep_COUNTk_V p 1) (l.length + 4)).inc (Ep_COUNTk_V p 6) := by
  have hfits : ¬ (l.length + 4 < 64 ∨ (if d.flag (Ep_CTRL_JUMBO p) then 9216 else 1522) < l.length + 4) := by split_ifs <;> omega
  simp [ethFrameRx, hon, hup, hfcs, hfits, htype, hpause]

theorem completes_ethFrameRx_pause (hlive : s.live) (hfcs : f.toNat = crc32 l) (hon : s.dev.flag (Ep_CTRL_ENABLE p) = true)
    (hup : s.dev.flag (Ep_STATUS_LINK_UP p) = true) (hmin : 60 ≤ l.length) (hmax : l.length ≤ 1518) (htype : be16 l (typeAt l) = 0x8808)
    (hpause : be16 l (typeAt l + 2) = 1) :
    Completes (.ethFrameRx p l f) s (fun e =>
      e.get (Ep_COUNTk_V p 0) = min (s.dev.get (Ep_COUNTk_V p 0) + 1) (2 ^ 32 - 1) ∧
      e.get (Ep_COUNTk_V p 6) = min (s.dev.get (Ep_COUNTk_V p 6) + 1) (2 ^ 32 - 1) ∧
      keepsRegs [Ep_COUNTk p 0, Ep_COUNTk p 1, Ep_COUNTk p 6] s.dev e ∧ keepsMem s.dev e) := by
  refine completes_on (f := ethFrameRx p l f.toNat) rfl hlive ?_
  rw [ethFrameRx_pause hfcs hon hup hmin hmax htype hpause]
  refine ⟨?_, ?_, keeps_of_frame (by simp [Ep_COUNTk_V])⟩
  · rw [get_settle_ethCount, get_inc_of_ne _ _ _ (ethCount_ne p (by decide)), get_addSat_of_ne _ _ _ _ (ethCount_ne p (by decide)),
      get_inc_ethCount]
  · rw [get_settle_ethCount, get_inc_ethCount, get_addSat_of_ne _ _ _ _ (ethCount_ne p (by decide)),
      get_inc_of_ne _ _ _ (ethCount_ne p (by decide))]

end

/-! ### A port's block lock -/

section
variable (s : State) (p : Fin 2)

theorem flag_settle_ethStatus {f : Fld} (hf : f.addr = Ep_STATUS p) (d : Dev) : (settle d).flag f = d.flag f :=
  flag_settle_of_le _ _ (hf ▸ aboveTop_indexed _ _ (by decide))

/-- A port's status is none of its counters. -/
theorem ethCount_ne_status (k : Fin 16) : Ep_COUNTk p k ≠ Ep_STATUS p := by
  simp only [Ep_COUNTk, Ep_STATUS]
  omega

theorem flag_settle_inc_ethStatus (k : Fin 16) {f : Fld} (hf : f.addr = Ep_STATUS p) (d : Dev) :
    (settle (d.inc (Ep_COUNTk_V p k))).flag f = d.flag f := by
  rw [flag_settle_ethStatus p hf, flag_inc_of_ne _ _ _ (hf ▸ ethCount_ne_status p k)]

theorem get_put_ethStatus (k : Fin 16) {f : Fld} (hf : f.addr = Ep_STATUS p) (x : Nat) (d : Dev) :
    (d.put f x).get (Ep_COUNTk_V p k) = d.get (Ep_COUNTk_V p k) :=
  get_put_of_ne _ _ _ _ (hf ▸ (ethCount_ne_status p k).symm)

theorem completes_ethLockLoss_hiBer (hlive : s.live) :
    Completes (.ethBlockLockLoss p .hiBer) s (fun e =>
      e.flag (Ep_STATUS_LINK_UP p) = false ∧ e.flag (Ep_STATUS_LOCAL_FAULT p) = true ∧ e.flag (Ep_STATUS_HI_BER p) = true ∧
      e.get (Ep_COUNTk_V p 15) = min (s.dev.get (Ep_COUNTk_V p 15) + 1) (2 ^ 32 - 1) ∧
      keepsRegs [Ep_STATUS p, Ep_COUNTk p 15] s.dev e ∧ keepsMem s.dev e) := by
  refine completes_on (f := ethLockLoss p .hiBer) rfl hlive ?_
  rw [ethLockLoss]
  refine ⟨(flag_settle_inc_ethStatus p 15 rfl _).trans ?_, (flag_settle_inc_ethStatus p 15 rfl _).trans ?_,
    (flag_settle_inc_ethStatus p 15 rfl _).trans ?_, ?_,
    keeps_of_frame (by simp [Ep_STATUS_LINK_UP, Ep_STATUS_LOCAL_FAULT, Ep_STATUS_HI_BER, Ep_COUNTk_V])⟩
  · simp [flag_put_of_apart, flag_put_zero, Ep_STATUS_LINK_UP, Ep_STATUS_LOCAL_FAULT, Ep_STATUS_HI_BER]
  · simp [flag_put_of_apart, flag_put_one, Ep_STATUS_LOCAL_FAULT, Ep_STATUS_HI_BER]
  · exact flag_put_one _ (by simp [Ep_STATUS_HI_BER]) (by simp [Ep_STATUS_HI_BER])
  · rw [get_settle_ethCount, get_inc_ethCount]
    congr 2
    exact (get_put_ethStatus p 15 rfl ..).trans ((get_put_ethStatus p 15 rfl ..).trans (get_put_ethStatus p 15 rfl ..))

theorem completes_ethLockLoss_lockLost (hlive : s.live) :
    Completes (.ethBlockLockLoss p .lockLost) s (fun e =>
      e.flag (Ep_STATUS_LINK_UP p) = false ∧ e.flag (Ep_STATUS_LOCAL_FAULT p) = true ∧
      e.get (Ep_COUNTk_V p 14) = min (s.dev.get (Ep_COUNTk_V p 14) + 1) (2 ^ 32 - 1) ∧
      keepsRegs [Ep_STATUS p, Ep_COUNTk p 14] s.dev e ∧ keepsMem s.dev e) := by
  refine completes_on (f := ethLockLoss p .lockLost) rfl hlive ?_
  rw [ethLockLoss]
  refine ⟨(flag_settle_inc_ethStatus p 14 rfl _).trans ?_, (flag_settle_inc_ethStatus p 14 rfl _).trans ?_, ?_,
    keeps_of_frame (by simp [Ep_STATUS_LINK_UP, Ep_STATUS_LOCAL_FAULT, Ep_COUNTk_V])⟩
  · simp [flag_put_of_apart, flag_put_zero, Ep_STATUS_LINK_UP, Ep_STATUS_LOCAL_FAULT]
  · exact flag_put_one _ (by simp [Ep_STATUS_LOCAL_FAULT]) (by simp [Ep_STATUS_LOCAL_FAULT])
  · rw [get_settle_ethCount, get_inc_ethCount]
    congr 2
    exact (get_put_ethStatus p 14 rfl ..).trans (get_put_ethStatus p 14 rfl ..)

theorem completes_ethLockLoss_remote (hlive : s.live) :
    Completes (.ethBlockLockLoss p .remote) s (fun e =>
      e.flag (Ep_STATUS_LINK_UP p) = false ∧ e.flag (Ep_STATUS_REMOTE_FAULT p) = true ∧
      keepsRegs [Ep_STATUS p] s.dev e ∧ keepsMem s.dev e) := by
  refine completes_on (f := ethLockLoss p .remote) rfl hlive ?_
  rw [ethLockLoss]
  refine ⟨(flag_settle_ethStatus p rfl _).trans ?_, (flag_settle_ethStatus p rfl _).trans ?_,
    keeps_of_frame (by simp [Ep_STATUS_LINK_UP, Ep_STATUS_REMOTE_FAULT])⟩
  · simp [flag_put_of_apart, flag_put_zero, Ep_STATUS_LINK_UP, Ep_STATUS_REMOTE_FAULT]
  · exact flag_put_one _ (by simp [Ep_STATUS_REMOTE_FAULT]) (by simp [Ep_STATUS_REMOTE_FAULT])

theorem completes_ethLockGained (hlive : s.live) :
    Completes (.ethBlockLockGained p) s (fun e =>
      e.flag (Ep_STATUS_LINK_UP p) = true ∧ e.flag (Ep_STATUS_LOCAL_FAULT p) = false ∧ e.flag (Ep_STATUS_REMOTE_FAULT p) = false ∧
      e.flag (Ep_STATUS_HI_BER p) = false ∧ keepsRegs [Ep_STATUS p] s.dev e ∧ keepsMem s.dev e) := by
  refine completes_on (f := ethLockGained p) rfl hlive ?_
  rw [ethLockGained]
  refine ⟨(flag_settle_ethStatus p rfl _).trans ?_, (flag_settle_ethStatus p rfl _).trans ?_, (flag_settle_ethStatus p rfl _).trans ?_,
    (flag_settle_ethStatus p rfl _).trans ?_,
    keeps_of_frame (by simp [Ep_STATUS_LINK_UP, Ep_STATUS_LOCAL_FAULT, Ep_STATUS_REMOTE_FAULT, Ep_STATUS_HI_BER])⟩
  · simp [flag_put_of_apart, flag_put_one, Ep_STATUS_LINK_UP, Ep_STATUS_LOCAL_FAULT, Ep_STATUS_REMOTE_FAULT, Ep_STATUS_HI_BER]
  · simp [flag_put_of_apart, flag_put_zero, Ep_STATUS_LOCAL_FAULT, Ep_STATUS_REMOTE_FAULT, Ep_STATUS_HI_BER]
  · simp [flag_put_of_apart, flag_put_zero, Ep_STATUS_REMOTE_FAULT, Ep_STATUS_HI_BER]
  · exact flag_put_zero _ (by simp [Ep_STATUS_HI_BER]) (by simp [Ep_STATUS_HI_BER])

end

/-! ### The queues' tails and transmitted frames (R418, R419) -/

/-- The one field of NQq_TAIL. -/
theorem specOf_nqTail : ∀ q : Fin 8, (specOf (NQq_TAIL q)).map (·.fields) = some [⟨0, 12, .rw, 0, .any⟩] := by with_unfolding_all decide

theorem rwField_nqTail : ∀ q : Fin 8, rwField (NQq_TAIL_V q) = true := by with_unfolding_all decide

/-- A tail that passes R4 sets none of the reserved bits. -/
theorem lt_of_writeOk_nqTail {q : Fin 8} {v : Nat} {d : Dev} (h : d.writeOk (NQq_TAIL q) v = true) : v < 2 ^ 12 := by
  obtain ⟨p, hp, hfields⟩ := Option.map_eq_some_iff.mp (specOf_nqTail q)
  simp only [Dev.writeOk, hp, RegSpec.accepts, hfields, Bool.and_eq_true, List.foldl, beq_iff_eq] at h
  have hreserved := h.2.2
  unfold putBits at hreserved
  omega

theorem completes_netQueueTailWrite (s : State) (q : Fin 8) (v : Word) (ht : s.takes (NQq_TAIL q) v.toNat)
    (hsize : v.toNat < s.dev.nqSize q) :
    Completes (.netQueueTailWrite q v) s (fun e =>
      e.get (NQq_TAIL_V q) = v.toNat ∧ keepsRegs [NQq_TAIL q] s.dev e ∧ keepsMem s.dev e) := by
  obtain ⟨⟨hlive, hm, ha⟩, hw⟩ := ht
  refine completes_on (f := Dev.pcie (.reg (NQq_TAIL q) v.toNat) (nqTailWrite q v.toNat)) rfl hlive ?_
  rw [pcie_now _ _ _ hm ha, nqTailWrite, writeVia_taken _ _ _ _ _ hw (decide_eq_true hsize)]
  refine ⟨?_, keeps_of_frame (by simp)⟩
  rw [get_settle_of_le _ _ (aboveTop_indexed _ _ (by decide))]
  refine (get_writePlain_rwField (rwField_nqTail q) s.dev v.toNat).trans ?_
  simpa [bitsOf, NQq_TAIL_V] using lt_of_writeOk_nqTail hw

theorem ethFrameTxDone_oversize {q : Nat} {errs : List (Nat × Ecc)} {d : Dev} (hq : q % 4 < 2) (hoffered : d.nqOffered q = true)
    (hrung : d.inRung = false) (hshed : d.shedLevel < 3) (hon : d.flag (Ep_CTRL_ENABLE (q / 4)) = true)
    (hturn : d.txTurn (q / 4) (q % 4) = true) (hjumbo : d.flag (Ep_CTRL_JUMBO (q / 4)) = false)
    (hlen : 1518 < d.dpNum (d.nqDesc q + 8) 2) : ethFrameTxDone q errs d = d.nqComplete q 1 0 := by
  have hidle : ¬ (2 ≤ q % 4 ∨ d.nqOffered q = false ∨ d.inRung = true) := by simp [hq, hoffered, hrung]
  have hoff : ¬ (d.flag (Ep_CTRL_ENABLE (q / 4)) = false ∨ d.txTurn (q / 4) (q % 4) = false) := by simp [hon, hturn]
  have hover : (if d.flag (Ep_CTRL_JUMBO (q / 4)) then 9216 else 1522) < d.dpNum (d.nqDesc q + 8) 2 + 4 := by
    rw [hjumbo, if_neg Bool.false_ne_true]
    omega
  simp only [ethFrameTxDone, if_neg hidle, if_neg hoff, if_neg (not_le.mpr hshed), if_pos hover]

/-! ### The tile stream's receiver (R422) -/

theorem completes_tileStreamRx_short (s : State) (l : List Byte) (hlive : s.live) (hshed : s.dev.shedLevel = 0)
    (hrung : s.dev.inRung = false) (hon : anyBelow 8 (fun h => s.dev.flag (TSh_CTRL_RX h)) = true) (hlen : l.length < 32) :
    Completes (.tileStreamDatagramRx l) s (fun e =>
      e.get (TS_ERR_COUNTk_V 0) = min (s.dev.get (TS_ERR_COUNTk_V 0) + 1) (2 ^ 32 - 1) ∧ keepsRegs [TS_ERR_COUNTk 0] s.dev e ∧
      keepsMem s.dev e) := by
  have heff : tileStreamRx l s.dev = s.dev.inc (TS_ERR_COUNTk_V 0) := by simp [tileStreamRx, hshed, hrung, hon, hlen]
  refine completes_on (f := tileStreamRx l) rfl hlive ?_
  rw [heff]
  refine ⟨?_, keeps_of_frame (by simp [TS_ERR_COUNTk_V])⟩
  rw [get_settle_of_le _ _ (by decide)]
  exact get_inc_same _ _ (by decide)

/-! ### The tile stream's sender (R420, R421) -/

theorem completes_tileStreamTx_off (s : State) (h : Fin 8) (hlive : s.live) (hoff : s.dev.flag TS_CTRL_TX_ENABLE = false) :
    Completes (.tileStreamDatagramTx h) s (fun e => e = settle s.dev ∧ keepsRegs [] s.dev e ∧ keepsMem s.dev e) := by
  have heff : tileStreamTx h s.dev = s.dev := by
    rw [tileStreamTx]
    split
    · rfl
    · exact if_pos (.inr (.inr (.inl hoff)))
  refine completes_on (f := tileStreamTx h) rfl hlive ?_
  rw [heff]
  exact ⟨rfl, keeps_of_frame (frame_settle [] s.dev)⟩

/-- The frame `out` of a datagram leaves port `p`, which counts it. -/
def Dev.tsOut (p : Nat) (out : List Byte) (d : Dev) : Dev :=
  (((d.send (.frame p out)).inc (Ep_COUNTk_V p 9)).addSat (Ep_COUNTk_V p 10) out.length).inc (Ep_COUNTk_V p 12)

/-- It carries the datagram of head `h` that closes a frame, `n` bytes of payload. -/
def Dev.tsClosing (h p : Nat) (out : List Byte) (n : Nat) (d : Dev) : Dev :=
  (((d.tsOut p out).put (TSh_SEQ_V h) (((d.tsOut p out).get (TSh_SEQ_V h) + 1) % 2 ^ 32)).addSat (TSh_TX_BYTES_V h) n).inc (TSh_TX_FRAMES_V h)

/-- A closed frame, the head's only one and with no tile left, goes out as one empty datagram (R421). -/
theorem tileStreamTx_empty {h : Nat} {g : TsFrame} {d : Dev} (hon : d.flag TS_CTRL_TX_ENABLE = true)
    (hport : d.flag (Ep_CTRL_ENABLE (d.get TS_CTRL_PORT)) = true) (hturn : d.txTurn (d.get TS_CTRL_PORT) 2 = true) (hshed : d.shedLevel = 0)
    (hrung : d.inRung = false) (hframes : (d.head h).ts.frames = [g]) (htiles : (d.head h).ts.tiles = []) (hclosed : g.closed = true) :
    ∃ out n, tileStreamTx h d = ((d.tsClosing h (d.get TS_CTRL_PORT) out n).ceCoded [] 0 0).onTs h (fun u =>
      { u with tiles := u.tiles, frames := [], packet := 0 }) := by
  have hsends : ¬ (1 ≤ d.shedLevel ∨ d.inRung = true ∨ d.flag TS_CTRL_TX_ENABLE = false ∨
      d.flag (Ep_CTRL_ENABLE (d.get TS_CTRL_PORT)) = false ∨ d.txTurn (d.get TS_CTRL_PORT) 2 = false) := by
    simp [hshed, hrung, hon, hport, hturn]
  simp only [tileStreamTx, hframes, htiles, if_neg hsends]
  exact ⟨_, _, by simp [tileRun, tsFit, tsParts, hclosed, b2n]; rfl⟩

section
variable (parts : List Chunk) (tiles dyn : Nat) (d : Dev)

/-- The counts of coded parts are all that the block keeps of them. -/
theorem ceCoded_congr {α : Type} (g : Dev → α) (h : ∀ e k n, g (Dev.ceCount k n e) = g e) : g (d.ceCoded parts tiles dyn) = g d := by
  rw [Dev.ceCoded, foldS_congr g _ _ _ fun k _ e => h e _ _, h, h, h]

@[simp] theorem ceCoded_heads : (d.ceCoded parts tiles dyn).heads = d.heads :=
  ceCoded_congr parts tiles dyn d Dev.heads fun _ _ _ => addSat_heads ..
@[simp] theorem ceCoded_sent : (d.ceCoded parts tiles dyn).sent = d.sent := ceCoded_congr parts tiles dyn d Dev.sent fun _ _ _ => addSat_sent ..
@[simp] theorem ceCoded_byteAt (a : Nat) : (d.ceCoded parts tiles dyn).byteAt a = d.byteAt a :=
  ceCoded_congr parts tiles dyn d (fun e => e.byteAt a) fun _ _ _ => addSat_byteAt ..

/-- They lie above the registers of the network. -/
theorem get_ceCoded {f : Fld} (h : f.addr < 0x70000) : (d.ceCoded parts tiles dyn).get f = d.get f :=
  ceCoded_congr parts tiles dyn d (fun e => e.get f) fun _ _ _ => get_addSat_of_ne _ _ _ _ (by simp only [CE_COUNTk_V, CE_COUNTk]; omega)

end

section
variable (h : Nat) (f : TsUnit → TsUnit) (d : Dev)

@[simp] theorem onTs_get (g : Fld) : (d.onTs h f).get g = d.get g := onHead_get ..
@[simp] theorem onTs_sent : (d.onTs h f).sent = d.sent := onHead_sent ..
@[simp] theorem onTs_byteAt (a : Nat) : (d.onTs h f).byteAt a = d.byteAt a := onHead_byteAt ..

theorem ts_onTs_same (hlen : h < d.heads.length) : ((d.onTs h f).head h).ts = f (d.head h).ts := by
  rw [Dev.onTs, head_onHead_same _ hlen]

end

section
variable (h : Nat) {p : Nat} (out : List Byte) (n : Nat) (d : Dev)

@[simp] theorem tsClosing_heads : (d.tsClosing h p out n).heads = d.heads := by simp [Dev.tsClosing, Dev.tsOut]
@[simp] theorem tsClosing_sent : (d.tsClosing h p out n).sent = .frame p out :: d.sent := by simp [Dev.tsClosing, Dev.tsOut]
@[simp] theorem tsClosing_byteAt (a : Nat) : (d.tsClosing h p out n).byteAt a = d.byteAt a := by simp [Dev.tsClosing, Dev.tsOut]

/-- The counters of a port lie below the registers of the tile stream. -/
theorem get_tsOut (hp : p < 2) {f : Fld} (hf : 0x58800 ≤ f.addr) : (d.tsOut p out).get f = d.get f := by
  have hcount (k : Nat) (hk : k < 16) : (Ep_COUNTk_V p k).addr ≠ f.addr := by
    simp only [Ep_COUNTk_V, Ep_COUNTk]
    omega
  rw [Dev.tsOut, get_inc_of_ne _ _ _ (hcount 12 (by decide)), get_addSat_of_ne _ _ _ _ (hcount 10 (by decide)),
    get_inc_of_ne _ _ _ (hcount 9 (by decide)), send_get]

theorem get_tsClosing_frames (hp : p < 2) :
    (d.tsClosing h p out n).get (TSh_TX_FRAMES_V h) = min (d.get (TSh_TX_FRAMES_V h) + 1) (2 ^ 32 - 1) := by
  rw [Dev.tsClosing, get_inc_same _ _ (by simp [TSh_TX_FRAMES_V]),
    get_addSat_of_ne _ _ _ _ (by simp [TSh_TX_BYTES_V, TSh_TX_BYTES, TSh_TX_FRAMES_V, TSh_TX_FRAMES]),
    get_put_of_ne _ _ _ _ (by simp [TSh_SEQ_V, TSh_SEQ, TSh_TX_FRAMES_V, TSh_TX_FRAMES]),
    get_tsOut _ _ hp (by simp only [TSh_TX_FRAMES_V, TSh_TX_FRAMES]; omega)]
  rfl

theorem get_tsClosing_seq (hp : p < 2) : (d.tsClosing h p out n).get (TSh_SEQ_V h) = (d.get (TSh_SEQ_V h) + 1) % 2 ^ 32 := by
  rw [Dev.tsClosing, get_inc_of_ne _ _ _ (by simp [TSh_SEQ_V, TSh_SEQ, TSh_TX_FRAMES_V, TSh_TX_FRAMES]),
    get_addSat_of_ne _ _ _ _ (by simp [TSh_SEQ_V, TSh_SEQ, TSh_TX_BYTES_V, TSh_TX_BYTES]),
    get_put_same _ _ _ (by simp [TSh_SEQ_V]), get_tsOut _ _ hp (by simp only [TSh_SEQ_V, TSh_SEQ]; omega)]
  exact Nat.mod_mod _ _

end

theorem completes_tileStreamTx_empty (s : State) (h : Fin 8) (g : TsFrame) (hlive : s.live) (hon : s.dev.flag TS_CTRL_TX_ENABLE = true)
    (hport : s.dev.flag (Ep_CTRL_ENABLE (s.dev.get TS_CTRL_PORT)) = true) (hturn : s.dev.txTurn (s.dev.get TS_CTRL_PORT) 2 = true)
    (hshed : s.dev.shedLevel = 0) (hrung : s.dev.inRung = false) (hframes : (s.dev.head h).ts.frames = [g])
    (htiles : (s.dev.head h).ts.tiles = []) (hclosed : g.closed = true) (hlen : h.val < s.dev.heads.length) :
    Completes (.tileStreamDatagramTx h) s (fun e =>
      (e.head h).ts.frames = [] ∧ e.sent.length = s.dev.sent.length + 1 ∧
      e.get (TSh_TX_FRAMES_V h) = min (s.dev.get (TSh_TX_FRAMES_V h) + 1) (2 ^ 32 - 1) ∧
      e.get (TSh_SEQ_V h) = (s.dev.get (TSh_SEQ_V h) + 1) % 2 ^ 32 ∧ keepsMem s.dev e) := by
  have hp : s.dev.get TS_CTRL_PORT < 2 := get_lt s.dev TS_CTRL_PORT
  obtain ⟨out, n, heff⟩ := tileStreamTx_empty hon hport hturn hshed hrung hframes htiles hclosed
  refine completes_on (f := tileStreamTx h) rfl hlive ?_
  rw [heff]
  refine ⟨?_, by simp, ?_, ?_, fun a => by simp⟩
  · rw [settle_head, ts_onTs_same _ _ _ (by simpa using hlen)]
  · rw [get_settle_of_le _ _ (aboveTop_indexed _ _ (by decide)), onTs_get,
      get_ceCoded _ _ _ _ (by simp only [TSh_TX_FRAMES_V, TSh_TX_FRAMES]; omega), get_tsClosing_frames _ _ _ _ hp]
  · rw [get_settle_of_le _ _ (aboveTop_indexed _ _ (by decide)), onTs_get,
      get_ceCoded _ _ _ _ (by simp only [TSh_SEQ_V, TSh_SEQ]; omega), get_tsClosing_seq _ _ _ _ hp]

/-! ### The statement -/

/-- Settles O40: a frame or a datagram that is dropped counts and does nothing else; one that goes out is counted past the registers of the
head that sends it. -/
theorem ethernetAndTileStreams : Obligations.EthernetAndTileStreams :=
  ⟨fun _ _ _ _ hs => completes_on rfl hs rfl, fun _ _ _ hs => completes_on rfl hs rfl, fun _ _ hs => completes_on rfl hs rfl,
    fun _ _ _ hs => completes_on rfl hs rfl, fun _ _ _ hs => completes_on rfl hs rfl, fun _ _ hs => completes_on rfl hs rfl,
    fun _ _ hs => completes_on rfl hs rfl, completes_ethFrameRx_badFcs, completes_ethFrameRx_short, completes_ethFrameRx_pause,
    completes_ethLockLoss_hiBer, completes_ethLockLoss_lockLost, completes_ethLockLoss_remote, completes_ethLockGained,
    completes_netQueueTailWrite,
    fun _ _ _ hlive hq hoffered hrung hshed hon hturn hjumbo hlen =>
      completes_on rfl hlive (congrArg settle (ethFrameTxDone_oversize hq hoffered hrung hshed hon hturn hjumbo hlen)),
    completes_tileStreamRx_short, completes_tileStreamTx_off, completes_tileStreamTx_empty⟩

end Sys2Proof.Machine
end

section
/-! SUPPORT. The event ring, the fault log, MSI-X and the PCI Express link (R392 to R408, R423): one lemma per clause of the statement about
them. -/
namespace Sys2Proof.Machine

/-! ### The ring's registers (R402, R406 to R408) -/

/-- The block with its event unit changed. -/
def Dev.onEvt (f : EvtUnit → EvtUnit) (d : Dev) : Dev := { d with evt := f d.evt }

section
variable (f : EvtUnit → EvtUnit) (d : Dev)

@[simp] theorem frame_onEvt (l : List Nat) : (d.onEvt f).frame l = d.frame l := by unfold Dev.onEvt; rfl
@[simp] theorem onEvt_evt : (d.onEvt f).evt = f d.evt := by unfold Dev.onEvt; rfl
@[simp] theorem onEvt_get (g : Fld) : (d.onEvt f).get g = d.get g := by unfold Dev.onEvt; rfl
@[simp] theorem onEvt_flag (g : Fld) : (d.onEvt f).flag g = d.flag g := by unfold Dev.onEvt; rfl

@[simp] theorem writePlain_evt (r v : Nat) : (d.writePlain r v).evt = d.evt := writePlain_congr Dev.evt setWord_evt d r v

theorem flag_writePlain_other (r v : Nat) (g : Fld) (h : r ≠ g.addr) : (d.writePlain r v).flag g = d.flag g := by
  rw [Dev.flag, Dev.flag, get_writePlain_other _ _ _ _ h]

end

theorem rwField_evtEnable : rwField EVT_CTRL_ENABLE = true := by with_unfolding_all decide

theorem evtCtrlWrite_enable {v : Nat} {d : Dev} (hw : d.writeOk EVT_CTRL v = true) (hset : bitOf v 31 = true)
    (howner : d.get (SBn_OWNER_OWNER (bitsOf v 0 4)) = 2) (hshare : d.flag (SBn_OWNER_SHARE_READ (bitsOf v 0 4)) = true)
    (hoff : d.flag EVT_CTRL_ENABLE = false) :
    evtCtrlWrite v d = ((d.writePlain EVT_CTRL v).put EVT_HIGH_WATER_V (d.writePlain EVT_CTRL v).ringUsed).onEvt (fun u =>
      { u with phase := true }) := by
  rw [evtCtrlWrite, writeVia_taken _ _ _ _ _ hw (by simp [howner, hshare]), if_pos (by simp [hset, hoff])]
  simp [Dev.onEvt]

theorem completes_evtEnable (s : State) (b : Fin 16) (ht : s.takes EVT_CTRL (2 ^ 31 + b.val)) (howner : s.dev.get (SBn_OWNER_OWNER b) = 2)
    (hshare : s.dev.flag (SBn_OWNER_SHARE_READ b) = true) (hoff : s.dev.flag EVT_CTRL_ENABLE = false) :
    Completes (.evtEnable b) s (fun e =>
      e.flag EVT_CTRL_ENABLE = true ∧ e.evt = { s.dev.evt with phase := true } ∧ keepsRegs [EVT_CTRL, EVT_HIGH_WATER] s.dev e ∧
      keepsMem s.dev e) := by
  have hbits : ∀ k : Fin 16, bitOf (2 ^ 31 + k.val) 31 = true ∧ bitsOf (2 ^ 31 + k.val) 0 4 = k := by decide
  obtain ⟨hset, hbank⟩ := hbits b
  obtain ⟨⟨hlive, hm, ha⟩, hw⟩ := ht
  refine completes_on (f := Dev.pcie (.reg EVT_CTRL (2 ^ 31 + b)) (evtCtrlWrite (2 ^ 31 + b))) rfl hlive ?_
  rw [pcie_now _ _ _ hm ha, evtCtrlWrite_enable hw hset (by rwa [hbank]) (by rwa [hbank]) hoff]
  refine ⟨?_, by simp, keeps_of_frame (by simp [EVT_HIGH_WATER_V])⟩
  rw [flag_settle_of_le _ _ (by decide), onEvt_flag, flag_congr (word_put_other _ _ _ _ (by decide))]
  exact (flag_writePlain_rwField rwField_evtEnable rfl _ _).trans hset

theorem rwField_evtCons : rwField EVT_CONS_V = true := by with_unfolding_all decide

theorem completes_evtConsWrite (s : State) (v : Word) (ht : s.takes EVT_CONS v.toNat)
    (hused : (v.toNat % 16384 + 16384 - s.dev.get EVT_CONS_V) % 16384 ≤ s.dev.ringUsed) :
    Completes (.evtConsWrite v) s (fun e =>
      e.get EVT_CONS_V = v.toNat % 16384 ∧ keepsRegs [EVT_CONS, EVT_STATUS] s.dev e ∧ keepsMem s.dev e) := by
  obtain ⟨⟨hlive, hm, ha⟩, hw⟩ := ht
  have hcons : (s.dev.writePlain EVT_CONS v.toNat).get EVT_CONS_V = v.toNat % 16384 :=
    (get_writePlain_rwField rwField_evtCons s.dev v.toNat).trans (by simp [bitsOf, EVT_CONS_V])
  refine completes_on (f := Dev.pcie (.reg EVT_CONS v.toNat) (evtConsWrite v.toNat)) rfl hlive ?_
  rw [pcie_now _ _ _ hm ha, evtConsWrite, writeVia_taken _ _ _ _ _ hw (decide_eq_true hused), get_settle_of_le _ _ (by decide)]
  split
  · exact ⟨(get_put_of_ne _ _ _ _ (by decide)).trans hcons, keeps_of_frame (by simp [EVT_STATUS_ALERT])⟩
  · exact ⟨hcons, keeps_of_frame (by simp)⟩

theorem evtInject_eq {v : Nat} {d : Dev} (hw : d.writeOk EVT_INJECT v = true) :
    evtInject v d = (d.writePlain EVT_INJECT v).post clsHost (bitsOf v 0 16) 0xFF [d.get EVT_INJECT_ARG_V] := by
  rw [evtInject, writeVia_taken _ _ _ _ _ hw rfl, get_writePlain_other _ _ _ _ (by decide)]

theorem completes_evtInject (s : State) (v : Word) (ht : s.takes EVT_INJECT v.toNat) :
    Completes (.evtInject v) s (fun e =>
      e = settle ((s.dev.writePlain EVT_INJECT v.toNat).post clsHost (bitsOf v.toNat 0 16) 0xFF [s.dev.get EVT_INJECT_ARG_V])) := by
  obtain ⟨⟨hlive, hm, ha⟩, hw⟩ := ht
  refine completes_on (f := Dev.pcie (.reg EVT_INJECT v.toNat) (evtInject v.toNat)) rfl hlive ?_
  rw [pcie_now _ _ _ hm ha, evtInject_eq hw]

theorem flogEmpty_eq (d : Dev) :
    d.flogEmpty = ((d.put EVT_FLOG_COUNT_V 0).put EVT_FLOG_LOST_V 0).onEvt (fun u => { u with flog := [] }) := by
  simp [Dev.flogEmpty, Dev.onEvt]

theorem completes_evtFlogClear (s : State) (v : Word) (ht : s.takes EVT_FLOG_CLEAR v.toNat) (hv : bitOf v.toNat 0 = true) :
    Completes (.evtFlogClear v) s (fun e =>
      e.evt.flog = [] ∧ e.get EVT_FLOG_COUNT_V = 0 ∧ e.get EVT_FLOG_LOST_V = 0 ∧
      keepsRegs [EVT_FLOG_CLEAR, EVT_FLOG_COUNT, EVT_FLOG_LOST] s.dev e ∧ keepsMem s.dev e) := by
  obtain ⟨⟨hlive, hm, ha⟩, hw⟩ := ht
  refine completes_on (f := Dev.pcie (.reg EVT_FLOG_CLEAR v.toNat) (evtFlogClear v.toNat)) rfl hlive ?_
  rw [pcie_now _ _ _ hm ha, evtFlogClear, writeVia_taken _ _ _ _ _ hw rfl, if_pos hv, flogEmpty_eq]
  refine ⟨by simp, ?_, ?_, keeps_of_frame (by simp [EVT_FLOG_COUNT_V, EVT_FLOG_LOST_V])⟩
  · rw [get_settle_of_le _ _ (by decide), onEvt_get, get_put_of_ne _ _ _ _ (by decide), get_put_same _ _ _ (by decide), Nat.zero_mod]
  · rw [get_settle_of_le _ _ (by decide), onEvt_get, get_put_same _ _ _ (by decide), Nat.zero_mod]

/-! ### MSI-X (R397, R405) -/

section
variable (v : Nat) (f : Vec → Vec) (d : Dev)

@[simp] theorem frame_onVec (l : List Nat) : (d.onVec v f).frame l = d.frame l := by unfold Dev.onVec; rfl

theorem vecs_onVec : (d.onVec v f).evt.vecs = updAt d.evt.vecs v f := rfl

end

/-- A vector beyond the list holds nothing either. -/
theorem nth_vec_held {l : List Vec} (h : ∀ y ∈ l, y.held = false) (k : Nat) : (nth {} l k).held = false := by
  rw [nth, List.getD_eq_getElem?_getD]
  cases hk : l[k]? with
  | none => rfl
  | some y => exact h y (List.mem_of_getElem? hk)

theorem vecRelease_idle {v : Nat} {d : Dev} (h : (nth {} d.evt.vecs v).held = false) : d.vecRelease v = d := by
  simp [Dev.vecRelease, h]

/-- With no message held, the three conditions are all that changes. -/
theorem msixHeldSend_idle {x : MsixSet} {d : Dev} (h : ∀ y ∈ d.evt.vecs, y.held = false) :
    msixHeldSend x d =
      ((d.putB HOST_STATUS_MSIX_ENABLE x.enable).putB HOST_STATUS_BUS_MASTER x.master).onVec x.vec (fun v => { v with masked := x.masked }) := by
  refine foldS_id _ _ _ fun k _ => vecRelease_idle ?_
  rw [vecs_onVec, putB_evt, putB_evt]
  exact (nth_updAt_congr Vec.held _ _ _ (fun v => { v with masked := x.masked }) (fun _ => rfl) k).trans (nth_vec_held h k)

theorem completes_msixHeldSend (s : State) (x : MsixSet) (hlive : s.live) (hheld : ∀ y ∈ s.dev.evt.vecs, y.held = false)
    (hlen : x.vec.val < s.dev.evt.vecs.length) :
    Completes (.msixHeldSend x) s (fun e =>
      e.flag HOST_STATUS_MSIX_ENABLE = x.enable ∧ e.flag HOST_STATUS_BUS_MASTER = x.master ∧
      (nth {} e.evt.vecs x.vec).masked = x.masked ∧ keepsRegs [HOST_STATUS] s.dev e ∧ keepsMem s.dev e) := by
  refine completes_on (f := msixHeldSend x) rfl hlive ?_
  rw [msixHeldSend_idle hheld]
  refine ⟨?_, ?_, ?_, keeps_of_frame (by simp [HOST_STATUS_MSIX_ENABLE, HOST_STATUS_BUS_MASTER])⟩
  · rw [flag_settle_of_le _ _ (by decide), onVec_flag]
    exact (flag_put_of_apart _ _ _ _ (.inr (by decide)) (by decide)).trans (flag_putB_same _ _ _ (by decide) (by decide))
  · rw [flag_settle_of_le _ _ (by decide), onVec_flag, flag_putB_same _ _ _ (by decide) (by decide)]
  · rw [settle_evt, vecs_onVec, nth_updAt_same _ _ _ _ (by simpa using hlen)]

theorem moderationIntervalEnd_quiet {v : Nat} {d : Dev} (hmod : (nth {} d.evt.vecs v).moderating = true)
    (hwait : (nth {} d.evt.vecs v).waiting = false) :
    moderationIntervalEnd v d = d.onVec v (fun x => { x with moderating := false, waiting := false }) := by
  simp [moderationIntervalEnd, hmod, hwait]

theorem completes_moderationIntervalEnd (s : State) (v : Fin 64) (hlive : s.live) (hmod : (nth {} s.dev.evt.vecs v).moderating = true)
    (hwait : (nth {} s.dev.evt.vecs v).waiting = false) (hlen : v.val < s.dev.evt.vecs.length) :
    Completes (.moderationIntervalEnd v) s (fun e =>
      (nth {} e.evt.vecs v).moderating = false ∧ keepsRegs [] s.dev e ∧ keepsMem s.dev e) := by
  refine completes_on (f := moderationIntervalEnd v) rfl hlive ?_
  rw [moderationIntervalEnd_quiet hmod hwait]
  exact ⟨by rw [settle_evt, vecs_onVec, nth_updAt_same _ _ _ _ hlen], keeps_of_frame (by simp)⟩

/-! ### The link (R392, R396, R423) -/

theorem resetWord_dmaCtrl : ∀ c : Fin 8, resetWord (DMAc_CTRL c) = 0 := by with_unfolding_all decide

theorem word_resetReg_same (d : Dev) (r : Nat) : (d.resetReg r).word r = (resetWord r).toNat := by
  simp [Dev.word, Dev.wordBv, Dev.resetReg, cellFind_cellDel]

/-- The reset of the channels reaches DMAc_CTRL of each once. -/
theorem word_dmaReset_ctrl (c : Fin 8) (d : Dev) : d.dmaReset.word (DMAc_CTRL c) = 0 := by
  have hother (k : Nat) (hk : k ≠ c) (j : Nat) (hj : j < 10) (e : Dev) :
      (e.resetReg (DMAc_CTRL k + 4 * j)).word (DMAc_CTRL c) = e.word (DMAc_CTRL c) :=
    word_resetReg_other _ _ _ (by simp only [DMAc_CTRL]; omega)
  obtain ⟨e, -, hchannel⟩ := foldS_once (fun e => Dev.word e (DMAc_CTRL c)) (List.range 8)
    (fun k s => foldS (List.range 10) (fun j t => t.resetReg (DMAc_CTRL k + 4 * j)) s) d c (List.mem_range.mpr c.isLt) List.nodup_range
    fun k _ hk s => foldS_congr (fun e => Dev.word e (DMAc_CTRL c)) _ _ _ fun j hj => hother k hk j (List.mem_range.mp hj)
  obtain ⟨t, -, hreg⟩ := foldS_once (fun e => Dev.word e (DMAc_CTRL c)) (List.range 10)
    (fun j t => t.resetReg (DMAc_CTRL c + 4 * j)) e 0 (by decide) List.nodup_range
    fun j _ hj s => word_resetReg_other _ _ _ (by omega)
  exact (hchannel.trans hreg).trans ((word_resetReg_same t _).trans (congrArg BitVec.toNat (resetWord_dmaCtrl c)))

theorem word_endpointReset_dmaCtrl (c : Fin 8) (d : Dev) : d.endpointReset.word (DMAc_CTRL c) = 0 := by
  have hreset : d.endpointReset.word (DMAc_CTRL c) = (d.dmaReset.setWord HOST_STATUS 0).word (DMAc_CTRL c) := rfl
  rw [hreset, word_setWord_other _ _ _ _ (by simp only [HOST_STATUS, DMAc_CTRL]; omega), word_dmaReset_ctrl]

theorem endpointReset_byteAt (d : Dev) (a : Nat) : d.endpointReset.byteAt a = d.byteAt a :=
  endpointReset_congr (fun e => e.byteAt a) d (fun _ _ => rfl) (fun _ _ _ => setWord_byteAt ..) fun _ _ _ => rfl

theorem word_settle_inc_linkDown {r : Nat} (hr : 0x60000 ≤ r) (h : r ≠ HOST_ERR_COUNTk 9) (d : Dev) :
    (settle (d.inc (HOST_ERR_COUNTk_V 9))).word r = d.word r := by
  rw [word_settle _ _ (notMem_modeRegs_of_le (by omega))]
  exact word_put_other _ _ _ _ h.symm

theorem completes_pcieLinkReset_down (s : State) (hlive : s.live) :
    Completes (.pcieLinkReset true) s (fun e =>
      e.evt.vecs = List.replicate 64 {} ∧ e.get (HOST_ERR_COUNTk_V 9) = min (s.dev.get (HOST_ERR_COUNTk_V 9) + 1) (2 ^ 32 - 1) ∧
      (∀ c : Fin 8, e.word (DMAc_CTRL c) = 0) ∧ e.word HOST_STATUS = 0 ∧ keepsMem s.dev e) := by
  refine completes_on (f := pcieLinkReset true) rfl hlive ?_
  rw [pcieLinkReset, if_pos rfl]
  refine ⟨?_, ?_, fun c => ?_, ?_, fun a => ?_⟩
  · rw [settle_evt, inc_evt]
    rfl
  · rw [get_settle_of_le _ _ (by decide), get_inc_same _ _ (by decide), get_congr (word_endpointReset _ _ (.inl (by decide)) (by decide))]
    rfl
  · rw [word_settle_inc_linkDown (by simp only [DMAc_CTRL]; omega) (by simp only [DMAc_CTRL, HOST_ERR_COUNTk]; omega),
      word_endpointReset_dmaCtrl]
  · rw [word_settle_inc_linkDown (by decide) (by decide), word_endpointReset_hostStatus]
  · rw [settle_byteAt, inc_byteAt, endpointReset_byteAt]

theorem completes_pcieLinkReset_other (s : State) (hlive : s.live) :
    Completes (.pcieLinkReset false) s (fun e => e = settle s.dev.endpointReset ∧ e.word HOST_STATUS = 0) :=
  completes_on (f := pcieLinkReset false) rfl hlive
    ⟨rfl, (word_settle _ _ (notMem_modeRegs_of_le (by decide))).trans (word_endpointReset_hostStatus s.dev)⟩

/-- The link as it is after training: its four fields, and the reference clock seen. -/
def Dev.linkTrained (x : PcieLink) (d : Dev) : Dev :=
  let d1 := (((d.put HOST_STATUS_LINK_UP 1).put HOST_STATUS_SPEED x.speed).put HOST_STATUS_WIDTH x.width).put HOST_STATUS_PM x.pm
  d1.put TOP_REFCLK_STATUS_V (putBits (d1.get TOP_REFCLK_STATUS_V) 2 1 1)

theorem pcieLinkUp_trained {x : PcieLink} {d : Dev} (hmode : d.mode ≠ 0) (hspeed : x.speed.val ≠ 0)
    (hwidth : x.width.val = 1 ∨ x.width.val = 2 ∨ x.width.val = 4) : pcieLinkUp x [] d = d.linkTrained x := by
  exact if_neg (by simp [hmode, hspeed]; omega)

/-- The fields of HOST_STATUS do not see the reference clock's register. -/
theorem get_settle_linkTrained (x : PcieLink) {f : Fld} (hf : f.addr = HOST_STATUS) (d : Dev) :
    (settle (d.linkTrained x)).get f =
      ((((d.put HOST_STATUS_LINK_UP 1).put HOST_STATUS_SPEED x.speed).put HOST_STATUS_WIDTH x.width).put HOST_STATUS_PM x.pm).get f := by
  rw [get_settle_of_le _ _ (by rw [hf]; decide)]
  exact get_put_of_ne _ _ _ _ (by rw [hf]; decide)

theorem completes_pcieLinkUp (s : State) (x : PcieLink) (hlive : s.live) (hmode : s.dev.mode ≠ 0) (hspeed : x.speed.val ≠ 0)
    (hwidth : x.width.val = 1 ∨ x.width.val = 2 ∨ x.width.val = 4) :
    Completes (.pcieLinkUp x []) s (fun e =>
      e.flag HOST_STATUS_LINK_UP = true ∧ e.get HOST_STATUS_SPEED = x.speed ∧ e.get HOST_STATUS_WIDTH = x.width ∧
      e.get HOST_STATUS_PM = x.pm ∧ keepsRegs [HOST_STATUS, TOP_REFCLK_STATUS] s.dev e ∧ keepsMem s.dev e) := by
  refine completes_on (f := pcieLinkUp x []) rfl hlive ?_
  rw [pcieLinkUp_trained hmode hspeed hwidth]
  refine ⟨?_, ?_, ?_, ?_, keeps_of_frame ?_⟩
  · rw [flag_eq_true_iff, get_settle_linkTrained x rfl]
    simp [get_put_of_apart, get_put_same, HOST_STATUS_LINK_UP, HOST_STATUS_SPEED, HOST_STATUS_WIDTH, HOST_STATUS_PM]
  · rw [get_settle_linkTrained x rfl]
    have hlt := x.speed.isLt
    simp [get_put_of_apart, get_put_same, HOST_STATUS_SPEED, HOST_STATUS_WIDTH, HOST_STATUS_PM]
    omega
  · rw [get_settle_linkTrained x rfl]
    have hlt := x.width.isLt
    simp [get_put_of_apart, get_put_same, HOST_STATUS_WIDTH, HOST_STATUS_PM]
    omega
  · rw [get_settle_linkTrained x rfl, get_put_same _ _ _ (by decide)]
    exact Nat.mod_eq_of_lt x.pm.isLt
  · simp [Dev.linkTrained, HOST_STATUS_LINK_UP, HOST_STATUS_SPEED, HOST_STATUS_WIDTH, HOST_STATUS_PM, TOP_REFCLK_STATUS_V]

/-! ### The statement -/

/-- Settles O39: each command writes its own registers, and its vector or the fault log, and no later write of it reaches them; with no
message held and none waiting, no vector sends. -/
theorem eventRing : Obligations.EventRing :=
  ⟨fun _ _ hs => completes_on rfl hs rfl, fun _ _ hs => completes_on rfl hs rfl, fun _ _ hs => completes_on rfl hs rfl,
    fun _ _ hs => completes_on rfl hs rfl, fun _ _ hs => completes_on rfl hs rfl, fun _ _ hs => completes_on rfl hs rfl,
    fun _ _ hs => completes_on rfl hs rfl, fun _ _ _ hs => completes_on rfl hs rfl, completes_evtEnable, completes_evtConsWrite,
    completes_evtInject, completes_evtFlogClear, completes_msixHeldSend, completes_moderationIntervalEnd, completes_pcieLinkReset_down,
    completes_pcieLinkReset_other, completes_pcieLinkUp⟩

end Sys2Proof.Machine
end

section
/-! SUPPORT. The team's forwarded accesses, its probe and its event blocks (R411 to R415): what they leave of the registers that the
statement about them reads, and one lemma per clause of it. -/
namespace Sys2Proof.Machine

/-! ### What an access that starts or ends writes (R413, R414) -/

section
variable {r : Nat} (d : Dev)

/-- TEAM_STATUS and TEAM_PRESENT are all that follows the positions. -/
theorem word_teamSync (hr : r < 0x60404 ∨ 0x60410 ≤ r) : d.teamSync.word r = d.word r := by
  have hput (f : Fld) (hf : 0x60404 ≤ f.addr ∧ f.addr < 0x60410) (x : Nat) (e : Dev) : (e.put f x).word r = e.word r :=
    word_put_other _ _ _ _ (by omega)
  unfold Dev.teamSync
  dsimp only
  rw [Dev.putB, hput _ (by decide), hput _ (by decide), hput _ (by decide), hput _ (by decide)]

@[simp] theorem answer_word (a : FwdAccess) (v : Nat) : (a.answer v d).word r = d.word r := by
  unfold FwdAccess.answer
  split
  · rfl
  · exact send_word ..

/-- A post writes none of the registers of the team. -/
theorem seesNoPost_teamWord (hr : 0x60400 ≤ r ∧ r < 0x60600) : SeesNoPost clsTeam (fun e => e.word r) :=
  seesNoPost_word (by
    simp only [ringRegs, EVT_CLASS_COUNTk, EVT_LOST_COUNT, EVT_STATUS, EVT_PROD, EVT_POSTED_COUNT, EVT_HIGH_WATER, MEM_COUNTk, clsTeam,
      List.mem_cons, List.not_mem_nil, or_false]
    omega)

end

/-! ### TEAM_POSp through the accesses that end and start -/

section
variable {r : Nat} (hr : 0x60500 ≤ r ∧ r < 0x60600) (a : FwdAccess) (d : Dev)
include hr

theorem word_fwdEnd (result v : Nat) : (d.fwdEnd a result v).word r = d.word r := by
  have hended (x : Nat) : ((d.setWord TEAM_FWD_LAST x).teamSync).word r = d.word r := by
    rw [word_teamSync _ (by omega), word_setWord_other _ _ _ _ (by simp only [TEAM_FWD_LAST]; omega)]
  unfold Dev.fwdEnd
  dsimp only
  rw [answer_word]
  split
  · refine ((seesNoPost_teamWord (by omega)).post ..).trans ((word_put_other _ _ _ _ ?_).trans (hended _))
    simp only [TEAM_FWD_TIMEOUT_COUNT_V, TEAM_FWD_TIMEOUT_COUNT]
    omega
  · exact hended _

theorem word_fwdSend (links : List Nat) : (d.fwdSend a links).word r = d.word r := by
  unfold Dev.fwdSend
  dsimp only
  rw [word_teamSync _ (by omega), Dev.inc, Dev.addSat,
    word_put_other _ _ _ _ (by simp only [TEAM_FWD_COUNT_V, TEAM_FWD_COUNT]; omega), onTeam_word]
  exact foldl_congr (fun e => Dev.word e r) _ _ _ fun j _ e => (seesNoPost_teamWord (by omega)).linkStream j _ e

theorem word_fwdStart : (d.fwdStart a).word r = d.word r := by
  unfold Dev.fwdStart
  split
  · exact word_fwdSend hr a d _
  · split
    · exact word_fwdSend hr a d _
    · exact word_fwdEnd hr a d _ _

theorem word_fwdNext : d.fwdNext.word r = d.word r := by
  refine foldl_congr (fun e => Dev.word e r) _ _ _ fun b _ e => ?_
  split
  · rfl
  · exact (word_fwdStart hr b _).trans (onTeam_word ..)

theorem word_probeNext (p : Nat) : (d.probeNext p).word r = d.word r := by
  unfold Dev.probeNext
  split
  · exact word_fwdStart hr _ d
  · exact word_put_other _ _ _ _ (by simp only [TEAM_STATUS_PROBING, TEAM_STATUS]; omega)

theorem word_fwdDone : (d.fwdDone a).word r = d.word r := by
  unfold Dev.fwdDone
  rw [word_fwdNext hr]
  split
  · exact word_probeNext hr d _
  · rfl

end

/-! ### Reads and writes through the windows (R394, R412, R413) -/

section
variable (s : State) (p : Fin 64)

theorem completes_teamRead (o : RegBytes) (hlive : s.hostLive) :
    Completes (.teamForwardedRead p o) s (fun e =>
      e = settle (s.dev.busRead (0x7E00000000 + p * 0x100000 + o.offset) (min (o.last + 1) (4 - o.offset % 4)) {})) := by
  obtain ⟨hlive, hm, ha⟩ := hlive
  refine completes_on (f := teamRead p o.offset (min (o.last + 1) (4 - o.offset % 4))) rfl hlive ?_
  rw [teamRead, if_neg hm, if_neg (by simp [ha])]

theorem completes_teamWrite (o : Fin 1048576) (v : Word) (hlive : s.hostLive) :
    Completes (.teamForwardedWrite p o v) s (fun e =>
      e = settle (s.dev.busWrite (0x7E00000000 + p * 0x100000 + o) (leBytes 4 v.toNat) [] [])) := by
  obtain ⟨hlive, hm, ha⟩ := hlive
  refine completes_on (f := teamWrite p o v.toNat) rfl hlive ?_
  rw [teamWrite, if_neg hm, if_neg (by simp [ha])]

theorem regionOf_teamView {a : Nat} (hlow : 0x7E00000000 ≤ a) (hhigh : a < 0x7E04000000) : regionOf a = .teamView := by
  unfold regionOf seqBase
  rw [if_neg (by omega), if_neg (by omega), if_neg (by omega), if_neg (by omega), if_neg (by omega), if_pos (by omega)]

theorem busRead_teamView {a target offset : Nat} (hlow : 0x7E00000000 ≤ a) (hhigh : a < 0x7E04000000)
    (htarget : (a - 0x7E00000000) / 0x100000 = target) (hoffset : (a - 0x7E00000000) % 0x100000 = offset) (hother : target ≠ 0)
    (n : Nat) (x : HostReads) (d : Dev) : d.busRead a n x = d.fwdAsk target (offset / 4 * 4) (offset % 4) n none := by
  have hconfig : ¬ cfgBase ≤ a := by unfold cfgBase; omega
  have hbar4 : ¬ bar4Base ≤ a := by unfold bar4Base; omega
  subst htarget hoffset
  unfold Dev.busRead
  rw [if_neg hconfig, if_neg hbar4, regionOf_teamView hlow hhigh]
  exact if_neg hother

/-- TEAM_FWD_LAST after an access. -/
def FwdAccess.lastWord (a : FwdAccess) (result : Nat) : Nat :=
  result * 2 ^ 28 + b2n a.data.isSome * 2 ^ 26 + a.target * 2 ^ 20 + a.offset

/-- The block after an access that failed, before its record is posted. -/
def Dev.fwdFailed (a : FwdAccess) (result : Nat) (d : Dev) : Dev :=
  (d.setWord TEAM_FWD_LAST (a.lastWord result)).teamSync.inc TEAM_FWD_TIMEOUT_COUNT_V

theorem fwdEnd_failed {result : Nat} (h : 2 ≤ result) (a : FwdAccess) (v : Nat) (d : Dev) :
    d.fwdEnd a result v = a.answer 0xFFFFFFFF ((d.fwdFailed a result).post clsTeam result 0xFF [a.lastWord result]) := by
  unfold Dev.fwdEnd
  dsimp only
  rw [if_pos h, if_neg (by omega)]
  rfl

theorem get_fwdEnd_failed {result : Nat} (h : 2 ≤ result) (a : FwdAccess) (v : Nat) {f : Fld} (hf : 0x60400 ≤ f.addr ∧ f.addr < 0x60600)
    (d : Dev) : (d.fwdEnd a result v).get f = (d.fwdFailed a result).get f := by
  rw [fwdEnd_failed h]
  exact get_congr ((answer_word ..).trans ((seesNoPost_teamWord hf).post ..))

theorem fwdFailed_result {a : FwdAccess} {result : Nat} (hresult : result < 16) (htarget : a.target < 64) (hoffset : a.offset < 0x100000)
    (d : Dev) : (d.fwdFailed a result).get TEAM_FWD_LAST_RESULT = result := by
  have hwrite : b2n a.data.isSome < 2 := by cases a.data.isSome <;> decide
  rw [Dev.fwdFailed, get_inc_of_ne _ _ _ (by decide), get_congr (word_teamSync _ (.inr (by decide)))]
  refine (get_setWord_same d (a.lastWord result) TEAM_FWD_LAST_RESULT (by decide)).trans ?_
  simp only [bitsOf, TEAM_FWD_LAST_RESULT, FwdAccess.lastWord]
  omega

theorem fwdFailed_timeouts (a : FwdAccess) (result : Nat) (d : Dev) :
    (d.fwdFailed a result).get TEAM_FWD_TIMEOUT_COUNT_V = min (d.get TEAM_FWD_TIMEOUT_COUNT_V + 1) (2 ^ 32 - 1) := by
  rw [Dev.fwdFailed, get_inc_same _ _ (by decide), get_congr (word_teamSync _ (.inr (by decide))), get_setWord_other _ _ _ _ (by decide)]
  rfl

/-- The leader with ENABLE clear ends every access at once. -/
theorem fwdAsk_noTarget {d : Dev} (hleader : d.isLeader = true) (hoff : d.flag TEAM_CTRL_ENABLE = false) (target offset lo len : Nat)
    (data : Option Nat) :
    d.fwdAsk target offset lo len data = d.fwdEnd { target := target, offset := offset, lo := lo, len := len, data := data } 2 0 := by
  simp [Dev.fwdAsk, hleader, hoff]

theorem completes_teamRead_noTarget (o : RegBytes) (hlive : s.hostLive) (hp : p ≠ 0) (hword : o.offset.val % 4 = 0) (hlast : o.last = 3)
    (hleader : s.dev.isLeader = true) (hoff : s.dev.flag TEAM_CTRL_ENABLE = false) :
    Completes (.teamForwardedRead p o) s (fun e =>
      e.sent.head? = some (.completion false [0xFFFFFFFF]) ∧ e.get TEAM_FWD_LAST_RESULT = 2 ∧
      e.get TEAM_FWD_TIMEOUT_COUNT_V = min (s.dev.get TEAM_FWD_TIMEOUT_COUNT_V + 1) (2 ^ 32 - 1)) := by
  have hlen : min ((o.last : Nat) + 1) (4 - o.offset.val % 4) = 4 := by rw [hlast, hword]; rfl
  have hother : p.val ≠ 0 := fun h => hp (Fin.ext h)
  obtain ⟨t, ht, hq, he⟩ := completes_teamRead s p o hlive
  refine ⟨t, ht, hq, ?_⟩
  rw [he, hlen, busRead_teamView (target := p) (offset := o.offset) (by omega) (by omega) (by omega) (by omega) hother,
    fwdAsk_noTarget hleader hoff]
  refine ⟨?_, ?_, ?_⟩
  · rw [settle_sent, fwdEnd_failed (by decide)]
    simp [FwdAccess.answer]
  · rw [get_settle_of_le _ _ (by decide), get_fwdEnd_failed (by decide) _ _ (by decide)]
    exact fwdFailed_result (by decide) p.isLt (by dsimp only; omega) s.dev
  · rw [get_settle_of_le _ _ (by decide), get_fwdEnd_failed (by decide) _ _ (by decide), fwdFailed_timeouts]

end

/-! ### Requests and responses of the links (R412) -/

section
variable (s : State) (l q : Fin 16) (t c : Fin 64) (o : Fin 1048576) (x : Word)

theorem completes_teamCmdReqRx_read (hlive : s.live) (hlink : s.dev.teamLinks.contains l.val = true) (ht : t.val = s.dev.position)
    (hopen : s.dev.regOpen o = true) (hbmp : o.val ≠ MIP_HALT_BMP_DATA) :
    Completes (.teamCmdReqRx l 2 q t c o x) s (fun e =>
      e = settle (Dev.linkStream l (teamRsp 0 q t c o (s.dev.show o)) s.dev) ∧ keepsRegs [] s.dev e ∧ keepsMem s.dev e) := by
  have heff : cmdReqRx l 2 q t c o x.toNat s.dev = Dev.linkStream l (teamRsp 0 q t c o (s.dev.show o)) s.dev := by
    simp [cmdReqRx, List.contains_iff_mem.mp hlink, ht, Dev.readReg, hopen, hbmp]
  refine completes_on (f := cmdReqRx l 2 q t c o x.toNat) rfl hlive ?_
  rw [heff]
  exact ⟨rfl, keeps_of_frame (by rw [frame_settle, (Dev.SendsTo.linkStream ..).frame_eq])⟩

theorem cmdReqRx_pass {link target : Nat} {d : Dev} (hlink : d.teamLinks.contains link = true) (ht : target ≠ d.position)
    (op seq source offset data : Nat) : cmdReqRx link op seq target source offset data d = d.passReq link op seq target source offset data := by
  simp [cmdReqRx, List.contains_iff_mem.mp hlink, ht]

/-- The position that answered, as TEAM_POSp shows it. -/
def Dev.posAnswered (target link rtt : Nat) (d : Dev) : Dev :=
  ((d.put (TEAM_POSp_PRESENT target) 1).put (TEAM_POSp_LINK target) link).put (TEAM_POSp_RTT_NS target) rtt

theorem posAnswered_present (target link rtt : Nat) (d : Dev) : (d.posAnswered target link rtt).get (TEAM_POSp_PRESENT target) = 1 := by
  simp [Dev.posAnswered, get_put_of_apart, get_put_same, TEAM_POSp_PRESENT, TEAM_POSp_LINK, TEAM_POSp_RTT_NS]

theorem posAnswered_link (target rtt : Nat) {link : Nat} (hlink : link < 16) (d : Dev) :
    (d.posAnswered target link rtt).get (TEAM_POSp_LINK target) = link := by
  simp [Dev.posAnswered, get_put_of_apart, get_put_same, TEAM_POSp_LINK, TEAM_POSp_RTT_NS, Nat.mod_eq_of_lt hlink]

theorem teamRspRx_ends {link status seq target offset data : Nat} {a : FwdAccess} {d : Dev} (hlink : d.teamLinks.contains link = true)
    (hflight : d.team.flight = some a) (htarget : a.target = target) (hseq : a.seq = seq) (hoffset : a.offset = offset)
    (hstatus : status ≤ 1) :
    teamRspRx link status seq target d.position offset data d = Dev.fwdDone a (Dev.fwdEnd a status data (Dev.landed
      (d.posAnswered target link (min 65535 ((d.tb 3).total - a.sentAt))))) := by
  have hmin : min status 2 = status := by omega
  simp [teamRspRx, List.contains_iff_mem.mp hlink, hflight, htarget, hseq, hoffset, hstatus, hmin, Dev.posAnswered]

/-- Nothing that the access's end starts writes TEAM_POSp. -/
theorem get_settle_fwdDone {f : Fld} (hf : f.addr = TEAM_POSp t) (a : FwdAccess) (result v : Nat) (d : Dev) :
    (settle (Dev.fwdDone a (Dev.fwdEnd a result v d.landed))).get f = d.get f := by
  have haddr : 0x60500 ≤ f.addr ∧ f.addr < 0x60600 := by simp only [hf, TEAM_POSp]; omega
  rw [get_settle_of_le _ _ (by omega)]
  exact get_congr ((word_fwdDone haddr ..).trans ((word_fwdEnd haddr ..).trans (onTeam_word ..)))

theorem completes_teamCmdRspRx (st : Fin 16) (a : FwdAccess) (hlive : s.live) (hpos : s.dev.position < 64)
    (hlink : s.dev.teamLinks.contains l.val = true) (hflight : s.dev.team.flight = some a) (htarget : a.target = t.val)
    (hseq : a.seq = q.val) (hoffset : a.offset = o.val) (hst : st.val ≤ 1) :
    Completes (.teamCmdRspRx l st q t ⟨s.dev.position % 64, Nat.mod_lt _ (by decide)⟩ o x) s (fun e =>
      e = settle (Dev.fwdDone a (Dev.fwdEnd a st x.toNat (Dev.landed (((s.dev.put (TEAM_POSp_PRESENT t) 1).put (TEAM_POSp_LINK t) l).put
        (TEAM_POSp_RTT_NS t) (min 65535 ((s.dev.tb 3).total - a.sentAt)))))) ∧
      e.get (TEAM_POSp_PRESENT t) = 1 ∧ e.get (TEAM_POSp_LINK t) = l.val) := by
  refine completes_on (f := teamRspRx l st q t (s.dev.position % 64) o x.toNat) rfl hlive ?_
  rw [Nat.mod_eq_of_lt hpos, teamRspRx_ends hlink hflight htarget hseq hoffset hst, get_settle_fwdDone t rfl, get_settle_fwdDone t rfl]
  exact ⟨rfl, posAnswered_present .., posAnswered_link _ _ l.isLt _⟩

end

/-! ### Timeouts, event blocks and the probe (R413 to R415) -/

section
variable (s : State)

theorem completes_teamForwardTimeout_ends (a : FwdAccess) (hlive : s.live) (hflight : s.dev.team.flight = some a) (hprobe : a.probe = false) :
    Completes .teamForwardTimeout s (fun e => e = settle (Dev.fwdNext (Dev.fwdEnd a 3 0 s.dev.landed))) := by
  refine completes_on (f := fwdTimeout) rfl hlive ?_
  simp [fwdTimeout, hflight, hprobe, Dev.fwdDone]

theorem completes_teamForwardTimeout_idle (hlive : s.live) (hflight : s.dev.team.flight = none) :
    Completes .teamForwardTimeout s (fun e => e = settle s.dev ∧ keepsRegs [] s.dev e ∧ keepsMem s.dev e) := by
  have heff : fwdTimeout s.dev = s.dev := by simp [fwdTimeout, hflight]
  refine completes_on (f := fwdTimeout) rfl hlive ?_
  rw [heff]
  exact ⟨rfl, keeps_of_frame (frame_settle [] s.dev)⟩

theorem completes_teamEventRx_upstream (l : Fin 16) (c : Fin 64) (q : Fin 256) (b : List Byte) (hlive : s.live)
    (hlink : s.dev.teamLinks.contains l.val = true) (hfollower : s.dev.isLeader = false)
    (hup : s.dev.teamLinks.contains (s.dev.get TEAM_TIME_CTRL_UPSTREAM) = true) :
    Completes (.teamEventRx l c q b) s (fun e =>
      e = settle (Dev.linkStream (s.dev.get TEAM_TIME_CTRL_UPSTREAM) (eventBlock c q b) s.dev) ∧ keepsRegs [] s.dev e ∧
      keepsMem s.dev e) := by
  have heff : teamEventRx l c q b s.dev = Dev.linkStream (s.dev.get TEAM_TIME_CTRL_UPSTREAM) (eventBlock c q b) s.dev := by
    simp only [teamEventRx, hlink, hfollower, hup, Bool.not_true, Bool.not_false, if_true, Bool.false_eq_true, if_false]
  refine completes_on (f := teamEventRx l c q b) rfl hlive ?_
  rw [heff]
  exact ⟨rfl, keeps_of_frame (by rw [frame_settle, (Dev.SendsTo.linkStream ..).frame_eq])⟩

theorem completes_teamEventRx_first (l : Fin 16) (c : Fin 64) (q : Fin 256) (b : List Byte) (hlive : s.live)
    (hlink : s.dev.teamLinks.contains l.val = true) (hleader : s.dev.isLeader = true) (hseq : cellFind s.dev.evt.fwdSeq c = none) :
    Completes (.teamEventRx l c q b) s (fun e =>
      e = settle ((Dev.inc { s.dev with evt := { s.dev.evt with fwdSeq := cellPut s.dev.evt.fwdSeq c ((q + 1) % 256) } }
        TEAM_EVT_COUNT_V).ringPost { recOf b with pos := c % 64 })) := by
  have hlink' : (!s.dev.teamLinks.contains l.val) = false := by rw [hlink]; rfl
  refine completes_on (f := teamEventRx l c q b) rfl hlive ?_
  simp only [teamEventRx, hlink', hleader, hseq, Bool.not_true, Bool.false_eq_true, if_false]

/-- The request of a probe leaves TEAM_STATUS.PROBING as it is. -/
theorem flag_fwdSend_probing (a : FwdAccess) (links : List Nat) (d : Dev) :
    (d.fwdSend a links).flag TEAM_STATUS_PROBING = d.flag TEAM_STATUS_PROBING := by
  unfold Dev.fwdSend Dev.teamSync
  dsimp only
  rw [Dev.putB, flag_put_of_apart _ _ _ _ (.inl (by decide)) (by decide), flag_put_of_apart _ _ _ _ (.inl (by decide)) (by decide),
    flag_congr (word_put_other _ _ _ _ (by decide)), flag_congr (word_put_other _ _ _ _ (by decide)),
    flag_inc_of_ne _ _ _ (by decide), onTeam_flag]
  exact flag_congr (foldl_congr (fun e => Dev.word e TEAM_STATUS) _ _ _ fun j _ e => (seesNoPost_teamWord (by decide)).linkStream j _ e)

/-- A probe's read is always sent, on its route or on every link. -/
theorem flag_fwdStart_probing {a : FwdAccess} (hprobe : a.probe = true) (d : Dev) :
    (d.fwdStart a).flag TEAM_STATUS_PROBING = d.flag TEAM_STATUS_PROBING := by
  unfold Dev.fwdStart
  split
  · exact flag_fwdSend_probing a _ d
  · rw [if_pos hprobe]
    exact flag_fwdSend_probing a _ d

theorem teamCtrlWrite_probe {v : Nat} {d : Dev} (hw : d.writeOk TEAM_CTRL v = true) (hv : bitOf v 30 = true)
    (hleader : (d.writePlain TEAM_CTRL v).isLeader = true) (hidle : d.flag TEAM_STATUS_PROBING = false) (hflight : d.team.flight = none) :
    teamCtrlWrite v d =
      Dev.fwdStart { target := 1, offset := 0, data := none, probe := true } ((d.writePlain TEAM_CTRL v).putB TEAM_STATUS_PROBING true) := by
  have hteam : (d.writePlain TEAM_CTRL v).team = d.team := writePlain_congr Dev.team setWord_team d _ _
  have hbegins : (!bitOf v 30 || !(d.writePlain TEAM_CTRL v).isLeader || (d.writePlain TEAM_CTRL v).flag TEAM_STATUS_PROBING) = false := by
    rw [hv, hleader, flag_writePlain_other _ _ _ _ (by decide), hidle]
    rfl
  rw [teamCtrlWrite, writeVia_taken _ _ _ _ _ hw rfl, if_neg (by simp [hbegins])]
  simp [hteam, hflight]

theorem completes_teamProbe (v : Word) (ht : s.takes TEAM_CTRL v.toNat) (hv : bitOf v.toNat 30 = true)
    (hleader : (s.dev.writePlain TEAM_CTRL v.toNat).isLeader = true) (hidle : s.dev.flag TEAM_STATUS_PROBING = false)
    (hflight : s.dev.team.flight = none) :
    Completes (.teamProbe v) s (fun e =>
      e = settle (Dev.fwdStart { target := 1, offset := 0, data := none, probe := true }
        ((s.dev.writePlain TEAM_CTRL v.toNat).putB TEAM_STATUS_PROBING true)) ∧ e.flag TEAM_STATUS_PROBING = true) := by
  obtain ⟨⟨hlive, hm, ha⟩, hw⟩ := ht
  refine completes_on (f := fun d => if bitOf v.toNat 30 then Dev.pcie (.reg TEAM_CTRL v.toNat) (teamCtrlWrite v.toNat) d else d) rfl hlive ?_
  rw [if_pos hv, pcie_now _ _ _ hm ha, teamCtrlWrite_probe hw hv hleader hidle hflight]
  exact ⟨rfl, (flag_settle_of_le _ _ (by decide)).trans
    ((flag_fwdStart_probing rfl _).trans (flag_putB_same _ _ _ (by decide) (by decide)))⟩

end

/-! ### The statement -/

/-- Settles O37: an access that ends or starts writes TEAM_STATUS, TEAM_PRESENT, TEAM_FWD_LAST and the counts of accesses; a link's stream
and a post write no register of the team. -/
theorem teamAccess : Obligations.TeamAccess :=
  ⟨fun _ _ _ hs => completes_on rfl hs rfl, fun _ _ _ _ hs => completes_on rfl hs rfl,
    fun _ _ _ _ _ _ _ _ hs => completes_on rfl hs rfl, fun _ _ _ _ _ _ _ _ hs => completes_on rfl hs rfl,
    fun _ hs => completes_on rfl hs rfl, fun _ _ _ _ _ hs => completes_on rfl hs rfl, fun _ _ hs => completes_on rfl hs rfl,
    fun s p o hlive _ => completes_teamRead s p o hlive,
    fun s p o hlive _ hp hword hlast hleader hoff => completes_teamRead_noTarget s p o hlive hp hword hlast hleader hoff,
    fun s p o v hlive _ => completes_teamWrite s p o v hlive,
    completes_teamCmdReqRx_read,
    fun _ _ _ _ _ _ _ _ hlive hlink ht => completes_on rfl hlive (congrArg settle (cmdReqRx_pass hlink ht ..)),
    fun s l st q t o x a hlive hpos hlink hflight htarget hseq hoffset hst =>
      completes_teamCmdRspRx s l q t o x st a hlive hpos hlink hflight htarget hseq hoffset hst,
    completes_teamForwardTimeout_ends, completes_teamForwardTimeout_idle, completes_teamEventRx_upstream, completes_teamEventRx_first,
    fun s v ht hv hleader hidle hflight _ => completes_teamProbe s v ht hv hleader hidle hflight⟩

end Sys2Proof.Machine
end
